-- ==== Sys2Proof/Word.lean ====
section
/-! DEFINITION. The word types of the module (R9: bytes little-endian, 32-bit registers). -/

namespace Sys2Proof

/-- A byte of any memory. -/
abbrev Byte := BitVec 8

/-- A set-up register, an argument register, an operation word. -/
abbrev Word32 := BitVec 32

/-- A 64-bit word: a fault message (Table 16.1), a global address (R252). -/
abbrev Word64 := BitVec 64

end Sys2Proof
end

