-- ==== Sys2Proof/Syntax.lean ====
section
/-! DEFINITION. The commands that the module takes from its environment, one constructor for each row of the command table. -/

namespace Sys2Proof

/-- What the boot of a package reset finds outside the state (R319, R541 to R544; log entry 28): failed reads or checks of stages as
(stage, attempt); the active-bank field; the boot configuration copy that is good (2: none); ports whose EN it sets; relief clusters
that it names; SVN of stage 2; SHA-384 of items 1 to 4; run time and SHA-256 of the Footbridge network where it matches the manifest;
whether K + 1 could be stored; (stack, PC) of every HBM verification that fails; and a fuse field that fails its check (R576). -/
structure BootInfo where
  fails : List (Nat × Nat)
  bank : Nat
  cfg : Nat
  ports : Nat
  relief : List Nat
  svn : Nat
  items : List (List Byte)
  net : Option (Nat × List Byte)
  stored : Bool
  hbm : List (Nat × Nat)
  fuse : Option Nat
  deriving DecidableEq, Repr

/-- What the power controller measured in a 100 us window (Table 20.13): module power and camera power in 0.1 W, bulk voltage in
10 mV, input current in mA, and the hottest sensor of dies 0 to 3 and of H in degrees C. -/
structure PowerSample where
  pmod : Nat
  pcam : Nat
  vin : Nat
  iin : Nat
  tj : List Int
  deriving DecidableEq, Repr

/-- A start record: PC, ARG0 to ARG7, context, generation, Gauge flags of a re-run, whether it is a re-execution
(R528), and the c-cycle from which the first bundle may issue. -/
structure StartRecord where
  pc : BitVec 12
  args : List Word32
  ctx : Nat
  gen : Nat
  flags : BitVec 64
  rerun : Bool
  at_ : Nat
  deriving DecidableEq, Repr

/-- The commands, in the order of the table, each with its rule. Operands: `c` a cluster (0 to 63) or, in host commands, a
context; `slot` and `op` an operation's slot and its 32-bit word, of which the fields below the operation code are read;
`t`, `n` c-cycles and counts; `v`, `w` a word that is written; `ago` sixteenths of a tick since the input passed, `p` a phase of
the tick; `ok` a check that the environment made; byte lists what arrives. -/
inductive Instr where
  /-- START_RECORD, R216. -/
  | startRecord (c : Nat) (r : StartRecord)
  /-- NOP, R227. -/
  | nop (c op : Nat)
  /-- SETL, R227. -/
  | setl (c op : Nat)
  /-- SETH, R227. -/
  | seth (c op : Nat)
  /-- ADDI, R227. -/
  | addi (c op : Nat)
  /-- LDA, R227. -/
  | lda (c op : Nat)
  /-- STEP, R224. -/
  | step (c op : Nat)
  /-- LSET, R227. -/
  | lset (c op : Nat)
  /-- BLOOP, R227. -/
  | bloop (c op : Nat)
  /-- BR, R228. -/
  | br (c op : Nat)
  /-- WAITC, R229. -/
  | waitc (c op : Nat)
  /-- WAITC_RELEASE, R229. -/
  | waitcRelease (c : Nat)
  /-- WAITG, R421. -/
  | waitg (c op : Nat)
  /-- WAITG_RELEASE, R421. -/
  | waitgRelease (c t : Nat)
  /-- WAITX, R267. -/
  | waitx (c op : Nat)
  /-- WAITX_RELEASE, R267. -/
  | waitxRelease (c : Nat)
  /-- WAITB, R227. -/
  | waitb (c op : Nat)
  /-- WAITB_RELEASE, R176. -/
  | waitbRelease (c t : Nat)
  /-- BAR, R230. -/
  | bar (c op : Nat)
  /-- BAR_RELEASE, R265. -/
  | barRelease (c n : Nat)
  /-- FENCE, R227. -/
  | fence (c op : Nat)
  /-- FENCE_RELEASE, R227. -/
  | fenceRelease (c : Nat)
  /-- FLAGCLR, R74. -/
  | flagclr (c op : Nat)
  /-- END, R227. -/
  | endProgram (c op : Nat)
  /-- END_COMPLETION, R227. -/
  | endCompletion (c : Nat)
  /-- WAIT_TIMEOUT, R230. -/
  | waitTimeout (c : Nat)
  /-- MX_T, R98. -/
  | mxT (c slot op : Nat)
  /-- MX_P, R98. -/
  | mxP (c slot op : Nat)
  /-- MX_Q, R96. -/
  | mxQ (c slot op : Nat)
  /-- MX_W, R96. -/
  | mxW (c slot op : Nat)
  /-- MX_G, R106. -/
  | mxG (c slot op : Nat)
  /-- MX_LD, R86. -/
  | mxLd (c slot op : Nat)
  /-- MX_DR, R101. -/
  | mxDr (c slot op : Nat)
  /-- ED_ATT, R156. -/
  | edAtt (c slot op : Nat)
  /-- VU_LD, R234. -/
  | vuLd (c slot op : Nat)
  /-- VU_ADD, R234. -/
  | vuAdd (c slot op : Nat)
  /-- VU_SUB, R234. -/
  | vuSub (c slot op : Nat)
  /-- VU_MUL, R234. -/
  | vuMul (c slot op : Nat)
  /-- VU_MAX, R234. -/
  | vuMax (c slot op : Nat)
  /-- VU_MIN, R234. -/
  | vuMin (c slot op : Nat)
  /-- VU_TAB, R234. -/
  | vuTab (c slot op : Nat)
  /-- VU_SUMR, R234. -/
  | vuSumr (c slot op : Nat)
  /-- VU_MAXR, R234. -/
  | vuMaxr (c slot op : Nat)
  /-- VU_OUT, R234. -/
  | vuOut (c slot op : Nat)
  /-- VU_TLD, R234. -/
  | vuTld (c slot op : Nat)
  /-- VU_BCI, R234. -/
  | vuBci (c slot op : Nat)
  /-- SL_P1, R116. -/
  | slP1 (c slot op : Nat)
  /-- SL_P2, R133. -/
  | slP2 (c slot op : Nat)
  /-- SL_CV, R127. -/
  | slCv (c slot op : Nat)
  /-- SL_TLD, R118. -/
  | slTld (c slot op : Nat)
  /-- SL_ZLD, R139. -/
  | slZld (c slot op : Nat)
  /-- SL_SEED, R131. -/
  | slSeed (c slot op : Nat)
  /-- SL_KL, R140. -/
  | slKl (c slot op : Nat)
  /-- SL_KA, R142. -/
  | slKa (c slot op : Nat)
  /-- SL_KU, R143. -/
  | slKu (c slot op : Nat)
  /-- SET_READY, R116. -/
  | setReady (c n : Nat)
  /-- ST_RING, R183. -/
  | stRing (c slot op : Nat)
  /-- ST_WIN, R187. -/
  | stWin (c slot op : Nat)
  /-- ST_RPK, R189. -/
  | stRpk (c slot op : Nat)
  /-- ST_TRP, R190. -/
  | stTrp (c slot op : Nat)
  /-- RD_SUM, R238. -/
  | rdSum (c slot op : Nat)
  /-- CP_RUN, R240. -/
  | cpRun (c slot : Nat) (inbound : Bool) (op : Nat)
  /-- PULL_LANDING, R267. -/
  | pullLanding (c tag gen landed : Nat) (ok : Bool) (host : List Byte)
  /-- PULL_COMMIT, R267. -/
  | pullCommit (c : Nat)
  /-- OUTBOUND_COMPLETE, R266. -/
  | outboundComplete (c tag t : Nat)
  /-- MCAST_PULL, R269. -/
  | mcastPull (mask : Nat) (ok : Bool) (host : List Byte)
  /-- COPY_DEADLINE, R281. -/
  | copyDeadline (c tag : Nat)
  /-- EG_RUN, R204. -/
  | egRun (c slot op : Nat)
  /-- EG_RUN_COMPLETE, R209. -/
  | egRunComplete (d : Nat)
  /-- SERVICE_ACCESS, R271. -/
  | serviceAccess (c w : Nat) (data : Option (List Byte))
  /-- CL_MEMCLR, R251. -/
  | clMemclr (c : Nat)
  /-- SQ_TAIL, R333. -/
  | sqTail (c : Nat) (v : BitVec 16)
  /-- CQ_HEAD, R333. -/
  | cqHead (c : Nat) (v : BitVec 16)
  /-- ACCEPT, R340. -/
  | accept (c : Nat) (ok : Bool) (d : List Byte) (p : Nat)
  /-- DESCRIPTOR_NOP, R334. -/
  | descriptorNop (c seq : Nat)
  /-- LOADP, R338. -/
  | loadp (c seq : Nat)
  /-- LOADW, R338. -/
  | loadw (c seq : Nat)
  /-- RUN, R338. -/
  | run (c seq t : Nat)
  /-- COPY, R336. -/
  | copy (c seq : Nat)
  /-- DECODE, R172. -/
  | decode (c seq : Nat) (row : Option (List (Byte × Bool)))
  /-- KVOP_SHARE, R334. -/
  | kvopShare (c seq : Nat)
  /-- KVOP_RELEASE, R334. -/
  | kvopRelease (c seq : Nat)
  /-- KVOP_TRUNCATE, R334. -/
  | kvopTruncate (c seq : Nat)
  /-- DISARM, R349. -/
  | disarm (c seq : Nat)
  /-- OUTCOME_RECORD, R344. -/
  | outcomeRecord (c : Nat)
  /-- MSIX_HOLDOFF_EXPIRY, R328. -/
  | msixHoldoffExpiry (v : Nat)
  /-- ENABLE, R331. -/
  | enable (c : Nat)
  /-- DISABLE, R330. -/
  | disable (c : Nat)
  /-- ABORT, R343. -/
  | abort (c : Nat)
  /-- CONTEXT_RESET, R330. -/
  | contextReset (c : Nat)
  /-- HOST_LOSS, R343. -/
  | hostLoss (kind : Nat)
  /-- D3HOT_ENTRY, R345. -/
  | d3hotEntry
  /-- D0_RETURN, R345. -/
  | d0Return
  /-- KV_WRITE, R168. -/
  | kvWrite (c tag : Nat)
  /-- KV_SHARE, R169. -/
  | kvShare (src shg stb dst dhg dtb n addr : Nat)
  /-- KV_RELEASE, R167. -/
  | kvRelease (c hg tb n addr : Nat)
  /-- KV_TRUNCATE, R167. -/
  | kvTruncate (c hg p addr : Nat)
  /-- KV_INIT, R165. -/
  | kvInit
  /-- DECODE_WINDOW_CLOSE, R175. -/
  | decodeWindowClose (b : Nat)
  /-- FRAME_START, R354. -/
  | frameStart (port vc hdr : Nat) (retx : Bool) (ago : Nat)
  /-- LONG_PACKET, R355. -/
  | longPacket (port vc dt hdr : Nat) (retx crcGood : Bool) (bs : List Byte) (ago : Nat)
  /-- FRAME_END, R354. -/
  | frameEnd (port vc hdr : Nat) (retx : Bool)
  /-- EMBEDDED_DATA, R353. -/
  | embeddedData (port vc hdr : Nat) (retx : Bool) (bs : List Byte) (ago : Nat)
  /-- FRAME_TIMEOUT, R354. -/
  | frameTimeout (port vc : Nat)
  /-- LOSS_OF_LOCK, R356. -/
  | lossOfLock (port : Nat)
  /-- LOCK_ACQUIRED, R356. -/
  | lockAcquired (port gear : Nat)
  /-- SENS_STREAM_TIMEOUT, R358. -/
  | sensStreamTimeout (x : Nat)
  /-- TRIGGER_REQUEST, R360. -/
  | triggerRequest (port time : Nat)
  /-- TRIGGER_SEND, R359. -/
  | triggerSend (port : Nat)
  /-- PEN, R362. -/
  | pen (port : Nat) (v : Word32)
  /-- CLR, R363. -/
  | clr (port : Nat)
  /-- RAMP_END, R363. -/
  | rampEnd (port : Nat) (reached : Bool)
  /-- POC_SHORT, R364. -/
  | pocShort (port : Nat) (backfeed : Bool)
  /-- POC_OVERLOAD, R364. -/
  | pocOverload (port : Nat)
  /-- OPEN_LOAD, R364. -/
  | openLoad (port : Nat)
  /-- DISCHARGE_END, R363. -/
  | dischargeEnd (port : Nat)
  /-- POC_MEASUREMENT, R364. -/
  | pocMeasurement (port mv ma : Nat)
  /-- ETH_FRAME, R366. -/
  | ethFrame (q : Nat) (fcsOk : Bool) (bs : List Byte) (ago : Nat)
  /-- ETH_LINK, R366. -/
  | ethLink (q : Nat)
  /-- WEIR_DROP, R368. -/
  | weirDrop (port : Nat)
  /-- LINE_GROUP_ADMISSION, R385. -/
  | lineGroupAdmission (port : Nat)
  /-- STRIPE_READY, R391. -/
  | stripeReady (x : Nat)
  /-- FRAME_CLOSE_EMIT, R393. -/
  | frameCloseEmit (port : Nat)
  /-- VIEW_ENABLE, R394. -/
  | viewEnable (v : Nat) (w : Word32)
  /-- MESH_LOAD, R400. -/
  | meshLoad (v : Word32)
  /-- LIDAR_BLOCK, R395. -/
  | lidarBlock (p : Nat)
  /-- LIDAR_ENABLE, R400. -/
  | lidarEnable (x : Nat) (v : Word32)
  /-- RECORD_CAPTURE, R284. -/
  | recordCapture
  /-- RECORDING_RESUME, R286. -/
  | recordingResume
  /-- RECORD_RELEASE, R379. -/
  | recordRelease
  /-- DC_RESYNC, R380. -/
  | dcResync (off : Nat)
  /-- REPLAY_STARVED, R295. -/
  | replayStarved
  /-- RD_READY, R293. -/
  | rdReady (c seq no : Nat)
  /-- DT_CFG, R278. -/
  | dtCfg (off : Nat) (v : Word32)
  /-- WINDOW_ENABLE, R256. -/
  | windowEnable (c w : Nat) (v : Word32)
  /-- PIECE_ARRIVAL, R302. -/
  | pieceArrival (off n : Nat) (wr : Bool)
  /-- DATA_TURN, R303. -/
  | dataTurn (t : Nat)
  /-- NORMAL_SERVE, R306. -/
  | normalServe (pc : Nat)
  /-- REF_TURN, R308. -/
  | refTurn (t : Nat)
  /-- TRR_TURN, R310. -/
  | trrTurn (t : Nat)
  /-- SCRUB_TURN, R313. -/
  | scrubTurn (t : Nat)
  /-- HBM_LINK_RETRY, R316. -/
  | hbmLinkRetry (pc : Nat)
  /-- HBM_TEMP_READ, R317. -/
  | hbmTempRead (st : Nat) (temp : Int)
  /-- SRENTER, R320. -/
  | srenter
  /-- SREXIT, R321. -/
  | srexit
  /-- GO, R319. -/
  | hbmGo (st : Nat) (failPc : Option Nat)
  /-- HB_CAL, R301. -/
  | hbCal (t v : Nat)
  /-- HB_PAIRCLS, R298. -/
  | hbPaircls (q v : Nat)
  /-- TIME_TICK, R401. -/
  | timeTick
  /-- SET, R404. -/
  | setTime
  /-- ADJ, R404. -/
  | adjTime
  /-- INC_COMMIT, R405. -/
  | incCommit (v : Word32)
  /-- TB_SEC_LO, R402. -/
  | tbSecLo
  /-- REFSRC, R408. -/
  | refsrc (v : Word32)
  /-- PPS_EDGE, R410. -/
  | ppsEdge (p high : Nat)
  /-- SYNC_MESSAGE, R411. -/
  | syncMessage (q domain : Nat)
  /-- REFERENCE_TIMEOUT, R412. -/
  | referenceTimeout
  /-- LAUNCH_GO, R416. -/
  | launchGo (q : Nat)
  /-- LAUNCH_SEND, R416. -/
  | launchSend (q p : Nat)
  /-- STNS, R415. -/
  | stns (q : Nat)
  /-- TIME_FIRING, R418. -/
  | timeFiring (g t : Nat)
  /-- AZIMUTH_FIRING, R419. -/
  | azimuthFiring (g t : Nat)
  /-- LINE_FIRING, R418. -/
  | lineFiring (g t : Nat)
  /-- STRIPE_FIRING, R418. -/
  | stripeFiring (g t : Nat)
  /-- PREDICT_FIRING, R423. -/
  | predictFiring (g t : Nat)
  /-- FALLBACK, R424. -/
  | fallback (g t : Nat)
  /-- HELD_STEP_START, R422. -/
  | heldStepStart (c seq t : Nat)
  /-- GAUGE_ENABLE, R427. -/
  | gaugeEnable (g : Nat) (v : Word32)
  /-- FLIT_RECEIVE, R433. -/
  | flitReceive (p fec : Nat) (b : List Byte)
  /-- NAK, R433. -/
  | nak (p lack : Nat)
  /-- PORT_ENABLE, R434. -/
  | portEnable (p : Nat) (v : Word32)
  /-- BYP, R434. -/
  | byp (p : Nat) (on : Bool)
  /-- TRAIN_RESULT, R434. -/
  | trainResult (p : Nat) (ok : Bool) (pid port : Nat)
  /-- RETRAIN, R434. -/
  | retrain (p : Nat)
  /-- PACKET_HOP, R437. -/
  | packetHop
  /-- WRITE_PACKET, R441. -/
  | writePacket (b : List Byte)
  /-- WACK, R442. -/
  | wack (b : List Byte)
  /-- WNAK, R442. -/
  | wnak (b : List Byte)
  /-- RTO_EXPIRY, R442. -/
  | rtoExpiry (j p msg : Nat)
  /-- CONFIRM, R447. -/
  | confirm (b : List Byte)
  /-- RETRACT, R448. -/
  | retract (b : List Byte) (own : Option (Nat × Nat))
  /-- OWN_CHECKS, R446. -/
  | ownChecks (j : Nat)
  /-- EPOCH_TIMEOUT, R446. -/
  | epochTimeout (j : Nat)
  /-- ARM, R443. -/
  | arm (j : Nat)
  /-- JOB_ABORT, R452. -/
  | jobAbort (j : Nat)
  /-- ABORT_MESSAGE, R452. -/
  | abortMessage (b : List Byte)
  /-- QUIET_EXPIRY, R453. -/
  | quietExpiry (j : Nat)
  /-- FAULT_MESSAGE, R463. -/
  | faultMessage (src : Nat) (ok : Bool) (raw : Option Word64)
  /-- KEEP_ALIVE, R460. -/
  | keepAlive (src : Nat)
  /-- FC_ACK, R466. -/
  | fcAck (v : Word32)
  /-- ACK_DEADLINE, R468. -/
  | ackDeadline (slot : Nat)
  /-- FC_FENCECMD_FENCE, R477. -/
  | fcFence (unit : Nat)
  /-- RETURN_TO_SERVICE, R531. -/
  | returnToService (unit : Nat) (fails : List (Nat × Nat))
  /-- FC_SEV, R461. -/
  | fcSev (off : Nat) (v : Word32)
  /-- TOWPATH_REPORT, R475. -/
  | towpathReport
  /-- HISTORY_WRITE, R478. -/
  | historyWrite
  /-- OPERATING_HOURS, R479. -/
  | operatingHours
  /-- RELEASE, R485. -/
  | release (o : Nat)
  /-- RELEASE_DEADLINE, R486. -/
  | releaseDeadline (o : Nat)
  /-- SAFETY_REQUEST, R501. -/
  | safetyRequest (src kind : Nat)
  /-- PIN_MONITOR, R503. -/
  | pinMonitor (beat aHigh : Bool)
  /-- SAFE_PIN, R503. -/
  | safePin (a b : Bool)
  /-- KS_GO, R500. -/
  | ksGo
  /-- KS_CLEAR, R504. -/
  | ksClear
  /-- KS_ENTER, R501. -/
  | ksEnter
  /-- OUTPUT_ENABLE, R511. -/
  | outputEnable (o : Nat) (v : Word32)
  /-- FOOTBRIDGE_RUN, R498. -/
  | footbridgeRun
  /-- FOOTBRIDGE_RUN_END, R498. -/
  | footbridgeRunEnd
  /-- FB_FAULT, R499. -/
  | fbFault (why : Nat)
  /-- KNOWN_ANSWER_RUN, R499. -/
  | knownAnswerRun (pass : Bool)
  /-- SELECT_RELEASE, R506. -/
  | selectRelease (n : Nat) (ws : List Nat)
  /-- SELECT_TIMEOUT, R505. -/
  | selectTimeout (n : Nat)
  /-- SSPI_NOP, R508. -/
  | sspiNop
  /-- ALIVE, R508. -/
  | alive (v : BitVec 16)
  /-- REQSAFE, R508. -/
  | reqsafe
  /-- SPI_HEARTBEAT_TIMEOUT, R508. -/
  | spiHeartbeatTimeout
  /-- SELFTEST_SLOT, R494. -/
  | selftestSlot (d : Nat)
  /-- SELFTEST_COMPLETE, R496. -/
  | selftestComplete (d phase : Nat)
  /-- SELFTEST_OVERDUE, R496. -/
  | selftestOverdue (c : Nat)
  /-- CMD_TIMEOUT, R491. -/
  | cmdTimeout (row unit addr : Nat) (pull : Option (Nat × Nat × Nat × Nat))
  /-- CLUSTER_RESET, R517. -/
  | clusterReset (c : Nat)
  /-- REGION_RESET, R518. -/
  | regionReset (r : Nat)
  /-- DIE_RESET, R519. -/
  | dieReset (d : Nat)
  /-- HUB_SUBBLOCK_RESET, R520. -/
  | hubSubblockReset (unit : Nat)
  /-- RESET_ESCALATION, R521. -/
  | resetEscalation (unit : Nat)
  /-- PACKAGE_HALT, R523. -/
  | packageHalt
  /-- PACKAGE_RESET, R524. -/
  | packageReset (b : BootInfo)
  /-- PKG_RST_N, R522. -/
  | pkgRstN (us : Nat)
  /-- RC_CMD_CLUSTER, R532. -/
  | rcCluster (key unit : Nat)
  /-- RC_CMD_REGION, R532. -/
  | rcRegion (key unit : Nat)
  /-- RC_CMD_DIE, R532. -/
  | rcDie (key unit : Nat)
  /-- RC_CMD_HUB_SUBBLOCK, R532. -/
  | rcHub (key unit : Nat)
  /-- RC_CMD_PACKAGE, R522. -/
  | rcPackage (key : Nat)
  /-- RC_CMD_DUMP, R526. -/
  | rcDump (key : Nat)
  /-- RE_EXECUTION, R528. -/
  | reExecution (c seq t : Nat)
  /-- LOCKSTEP, R534. -/
  | lockstep (u : Nat)
  /-- MG_KICK, R534. -/
  | mgKick (q : Nat) (v : Word32)
  /-- PAIR_WATCHDOG, R534. -/
  | pairWatchdog (q : Nat)
  /-- PAIR_RESET_END, R534. -/
  | pairResetEnd (q : Nat)
  /-- PAIR_TEST_END, R534. -/
  | pairTestEnd (q : Nat) (pass : Bool)
  /-- MGT_WDOG, R536. -/
  | mgtWdog
  /-- MWDRST_RESET, R536. -/
  | mwdrstReset
  /-- SHED_WINDOW, R538. -/
  | shedWindow (b0 b1 : Nat)
  /-- TELEMETRY, R548. -/
  | telemetry
  /-- SPANREF, R580. -/
  | spanref (list : Option (List (Nat × Nat × Nat × Nat)))
  /-- DUMPMOVE, R537. -/
  | dumpmove
  /-- READ, R547. -/
  | read (mac : Nat) (p : List Byte)
  /-- ATTEST, R545. -/
  | attest (mac : Nat) (p : List Byte)
  /-- CERT, R547. -/
  | cert (mac : Nat) (p : List Byte)
  /-- CHALLENGE, R547. -/
  | challenge (mac : Nat) (p : List Byte)
  /-- WRITE, R547. -/
  | write (mac : Nat) (p : List Byte)
  /-- ACK, R466. -/
  | ack (mac : Nat) (p : List Byte)
  /-- TOWPATH_RESET, R547. -/
  | towpathReset (mac : Nat) (p : List Byte)
  /-- CFGWRITE, R547. -/
  | cfgwrite (mac : Nat) (p : List Byte)
  /-- DUMPREAD, R547. -/
  | dumpread (mac : Nat) (p : List Byte)
  /-- FWCHUNK, R549. -/
  | fwchunk (mac : Nat) (p : List Byte)
  /-- FWCOMMIT, R549. -/
  | fwcommit (mac : Nat) (p : List Byte) (pass : Bool)
  /-- SVNBUMP, R547. -/
  | svnbump (mac : Nat) (p : List Byte)
  /-- HISTCLEAR, R479. -/
  | histclear (mac : Nat) (p : List Byte)
  /-- OWNERKEY, R547. -/
  | ownerkey (mac : Nat) (p : List Byte)
  /-- MB_GO, R546. -/
  | mbGo (v : Word32)
  /-- PW_OPREQ, R550. -/
  | pwOpreq (d : Nat) (v : Word32)
  /-- OP_POINT_CHANGE, R550. -/
  | opPointChange (d : Nat)
  /-- POWER_UP, R553. -/
  | powerUp (bulk input : Nat)
  /-- CHARGE_TIMEOUT, R553. -/
  | chargeTimeout
  /-- VIN_UV, R554. -/
  | vinUv (v : Nat)
  /-- POWER_FAIL, R555. -/
  | powerFail (v : Nat)
  /-- VIN_OV, R554. -/
  | vinOv (v : Nat)
  /-- DISCONNECT, R554. -/
  | disconnect (v : Nat)
  /-- STRETCH_WINDOW, R559. -/
  | stretchWindow (x : PowerSample)
  /-- POINT_LOWERING, R560. -/
  | pointLowering (d : Nat)
  /-- DIE_HOT, R561. -/
  | dieHot (d n : Nat) (temp : Int)
  /-- DIE_OVERTEMP, R561. -/
  | dieOvertemp (d n : Nat) (temp : Int)
  /-- STANDBY_ENTRY, R562. -/
  | standbyEntry
  /-- STANDBY_EXIT, R562. -/
  | standbyExit
  /-- REGION_GATING, R563. -/
  | regionGating (r : Nat)
  /-- CLK_MON, R567. -/
  | clkMon (m count : Nat) (ok lost : Bool)
  /-- OSC_FAIL, R569. -/
  | oscFail (n : Nat) (ppm : Int)
  /-- CLK_OSC, R565. -/
  | clkOsc (v : Word32)
  /-- VR_FAULT, R576. -/
  | vrFault (d rail : Nat)
  /-- FMAP_READ, R582. -/
  | fmapRead (k : Nat)
  /-- AP_CNTCLR, R373. -/
  | apCntclr (port : Nat)
  /-- LP_CNTCLR, R373. -/
  | lpCntclr (p : Nat)
  /-- WR_CLR, R373. -/
  | wrClr
  /-- TB_CNTCLR, R429. -/
  | tbCntclr
  /-- LQ_CNTCLR, R429. -/
  | lqCntclr (q : Nat)
  /-- GA_CNTCLR, R429. -/
  | gaCntclr (g : Nat)
  /-- VD_CNTCLR, R455. -/
  | vdCntclr
  /-- VP_CNTCLR, R455. -/
  | vpCntclr (p : Nat)
  /-- SS_CNTCLR, R511. -/
  | ssCntclr
  /-- TW_CNTCLR, R593. -/
  | twCntclr
  /-- REGISTER_WRITE, R588. -/
  | registerWrite (off : Nat) (v : Word32) (whole : Bool)
  /-- HOST_TRANSFER_COMPLETE, R338. -/
  | hostTransferComplete (c seq : Nat) (ok : Bool) (data : List Byte)
  /-- PCIE_LINK_UP, R343. -/
  | pcieLinkUp
  /-- ETH_LINK_UP, R416. -/
  | ethLinkUp (q : Nat)
  /-- SELECT_FALLING_EDGE, R507. -/
  | selectFallingEdge (mode : Nat)
  /-- VIN_UV_CLEAR, R554. -/
  | vinUvClear (v : Nat)
  /-- DIE_HOT_CLEAR, R561. -/
  | dieHotClear (d n : Nat) (temp : Int)
  /-- OP_REQUEST_TIMEOUT, R550. -/
  | opRequestTimeout (d : Nat)
  /-- WNAK_RESEND, R442. -/
  | wnakResend (j p msg : Nat)
  /-- RECEIVER_ENABLE, R354. -/
  | receiverEnable (port : Nat) (v : Word32)
  /-- PINTH_WRITE, R469. -/
  | pinthWrite (v : Word32)
  deriving DecidableEq, Repr

end Sys2Proof
end

