-- ==== Sys2Proof/Machine/State.lean ====
section
/-! DEFINITION. The state of the module, as plain data, and the machine right after reset. -/

namespace Sys2Proof.Machine

/-- A sparse table: the entries that were written, by index, indexes strictly rising. What an index that is not
listed holds is the reader's default. -/
structure Table (α : Type) where
  rows : List (Nat × α)
  deriving DecidableEq, Repr

/-- An exact fraction, for values that Sluice keeps exact (R120): numerator and positive denominator. -/
structure Frac where
  num : Int
  den : Nat
  deriving DecidableEq, Repr

/-- What a granule of a protected memory holds (R247, Table 8.1); a clean granule is not listed. -/
inductive Gran where
  | clean | correctable | freshUE | poisoned
  deriving DecidableEq, Repr
/-! ### The cluster (spec/03 to spec/08) -/

/-- A read word of a memory: 32 bytes, and bit j of `poison` set where granule j was delivered as poisoned (R248). -/
structure MemWord where
  bytes : List Byte
  poison : Nat
  deriving DecidableEq, Repr

/-- CL_SEQSTAT.STATE (Table 7.14). -/
inductive SeqState where
  | idle | running | stopped | ended
  deriving DecidableEq, Repr

/-- CL_SEQSTAT.WAIT (Table 7.14). -/
inductive WaitKind where
  | none | waitG | waitX | waitB | bar | fence | waitC | ending
  deriving DecidableEq, Repr

/-- A delivery that an operation will make: block, staging row, arrival c-cycle. -/
structure Coming where
  block : Nat
  row : Nat
  at_ : Nat
  deriving DecidableEq, Repr

/-- The deliveries to Sluice of an operation of the bundle being issued, which are checked once the bundle is whole (R117,
R219): its slot, the kind of its refusal, the target. -/
structure Promise where
  slot : Nat
  kind : Nat
  tgt : Nat
  ds : List Coming
  deriving DecidableEq, Repr

/-- The sequencer of one cluster (Table 7.1, R215 to R230). `args`, `lc`, `masks` list the registers that are not
zero. `cyc` is the c-cycle of the last issued bundle and `next` the first c-cycle in which the next one may issue,
on the count of the die (log entry 7); `waitSince` is the raw tick at which the present wait began (R230). `argSnap`, `ports`, `isOpen`, `due` belong to
the bundle being issued (R219, R220);
`ran` is the c-cycle up to which scheduled events have run; `unitDone` the c-cycle by which the operations issued to
a unit are complete (FENCE); `seen` counts, by stream, the batcher blocks that WAITB took note of; `rerun` marks a
re-execution (R528), `flagsSeen` the Gauge flags that were set during the program (R528). -/
structure Seq where
  st : SeqState
  wait : WaitKind
  waitArg : Nat
  waitSince : Nat
  pc : BitVec 12
  pcLast : BitVec 12
  args : Table Word32
  argSnap : Table Word32
  lc : Table (BitVec 20)
  masks : Table Word32
  tags : BitVec 16
  gflags : BitVec 64
  ctx : Nat
  slcfg : Word32
  cyc : Nat
  next : Nat
  ran : Nat
  isOpen : Bool
  ports : List Nat
  due : List Promise
  unitDone : Table Nat
  seen : Table Nat
  rerun : Bool
  flagsSeen : BitVec 64
  deriving DecidableEq, Repr

/-- One entry of an accumulator file (R57, R104): `val` is none where the poison bit is set (the integer value of a
poisoned accumulator is undefined, R61, so the model holds none); `res` is the mod-3 residue. -/
structure AccEntry where
  val : Option Int
  res : Nat
  deriving DecidableEq, Repr

/-- One accumulator row: 128 columns (H0 0-63, H1 64-127), and EA and d of each half's last writing operation
(R81, R101). -/
structure AccRow where
  ents : List AccEntry
  ea0 : Nat
  d0 : Nat
  ea1 : Nat
  d1 : Nat
  deriving DecidableEq, Repr

/-- One weight plane of a tile (R80, R86): the words that MX.LD read, its format fields, the c-cycle in which the
load completes and the c-cycle from which it may be loaded again (R87). -/
structure Plane where
  loaded : Bool
  wf : Nat
  block : Bool
  gs : Nat
  rows : List MemWord
  scales : List MemWord
  readyAt : Nat
  usedUntil : Nat
  deriving DecidableEq, Repr

/-- One matrix tile: its planes, its accumulator file (rows not listed are as cluster reset leaves them), and the
c-cycles from which its edge, weight port and drain port are free (R88, Table 7.12). -/
structure Tile where
  plane0 : Plane
  plane1 : Plane
  acc : Table AccRow
  edgeFree : Nat
  portFree : Nat
  drainFree : Nat
  deriving DecidableEq, Repr

/-- One value delivered to Sluice (R113, R115): `val`, poison bit, base exponent E0 (for a V16 value 0, the opening
operation's FB applies), `wide` for A28, and the row-empty marker of Eddy (R151). -/
structure Dlv where
  val : Int
  poison : Bool
  e0 : Int
  wide : Bool
  empty : Bool
  deriving DecidableEq, Repr

/-- What SL.P1 or SL.CV fixes for a target (Table 4.5, Table 7.10). -/
structure SlParams where
  m : Nat
  w : Nat
  orient : Nat
  g : Nat
  tbl : Bool
  tbase : Nat
  ofmt : Nat
  rnd : Nat
  fb : Nat
  k4 : Bool
  deriving DecidableEq, Repr

/-- Table 4.2, but for DRAINING, which is FREE with `freeAt` in the future. -/
inductive SetState where
  | free | filling | ready
  deriving DecidableEq, Repr

/-- One staging set (R116): the positions (row x 4 + block) that issued operations will fill, each with its
arrival, the segments delivered so far, the scales that pass one fixed, the c-cycle from which a drained set is
FREE. -/
structure StageSet where
  st : SetState
  par : SlParams
  posn : List (Nat × Nat)
  segs : Table (List Dlv)
  scales : List Nat
  freeAt : Nat
  deriving DecidableEq, Repr

/-- The direct path (R116, R127): open or closed, parameters, output place, FSC or the FSA bytes, the c-cycle from
which it accepts deliveries, positions, segments received, rows written and the groups a poisoned member
poisoned. -/
structure Direct where
  isOpen : Bool
  par : SlParams
  obase : Nat
  ostride : Nat
  osbase : Nat
  kc : Nat
  sq : Nat
  fsc : List Nat
  fsPoison : List Bool
  acceptAt : Nat
  posn : List (Nat × Nat)
  segs : Table (List Dlv)
  written : List Nat
  bad : List Nat
  deriving DecidableEq, Repr

/-- The cluster Sluice (spec/04): sets, direct path, rescale file with its poison marks, zero-point file (by
tile x 2 + plane), SEED, IBASE, IROW, the codebook builder, and the c-cycles already taken by block deliveries and
by output rows (R117). -/
structure Sluice where
  s0 : StageSet
  s1 : StageSet
  direct : Direct
  rescale : Table Word32
  rescaleBad : List Nat
  zpf : Table (List Nat)
  seed : Word32
  ibase : Word32
  irow : BitVec 24
  cb : List Int
  maxPos : Frac
  maxNeg : Frac
  maxBad : Bool
  sums : List Int
  cnts : List Nat
  ts : Nat
  blockBusy : List (Nat × Nat)
  outBusy : List Nat
  deriving DecidableEq, Repr

/-- One query row of an Eddy state set (R149): m (none: NONE), l, o, the poison bits of o, row-empty. -/
structure EdRow where
  m : Option Int
  l : Nat
  o : List Int
  poison : List Bool
  empty : Bool
  deriving DecidableEq, Repr

/-- One Eddy state set: its rows, whether a chain is live, whether its FIN has issued, the chain's QS, D, formats,
FL, FO, and the c-cycles of the end of its last block and of its last delivery (R156, R158). -/
structure EdSet where
  rows : List EdRow
  live : Bool
  fin : Bool
  chain : List Nat
  stateAt : Nat
  emptyAt : Nat
  deriving DecidableEq, Repr

/-- Eddy (spec/05): its two sets and the c-cycle from which the next ED.ATT may issue. -/
structure Eddy where
  st0 : EdSet
  st1 : EdSet
  next : Nat
  deriving DecidableEq, Repr

/-- The vector unit (R234, R235): lane registers of 128 lanes (value, poison), function tables, memory port,
c-cycles of results already scheduled. -/
structure Vec where
  lanes : Table (List (Int × Bool))
  tabs : Table (List Int)
  portFree : Nat
  writes : List Nat
  deriving DecidableEq, Repr

/-- A ring descriptor (Table 6.2). -/
structure Ring where
  ebase : Nat
  ss0 : Nat
  sqs : Nat
  slots : Nat
  ppw : Nat
  pad : Nat
  g : Nat
  xw : Nat
  xl : Int
  iw : Nat
  ih : Nat
  deriving DecidableEq, Repr

/-- The stripe engine (spec/06): valid rings, last operation, the c-cycle from which the next may issue. -/
structure Stripe where
  rings : Table Ring
  lastOp : Nat
  next : Nat
  deriving DecidableEq, Repr

/-- One row at a reduction input (R238): EA, d, 64 entries (none: poisoned). -/
structure RedRow where
  ea : Nat
  d : Nat
  vals : List (Option Int)
  deriving DecidableEq, Repr

/-- The reduction unit: the rows that arrived in the c-cycle being run, by input, and the c-cycle from which the
next RD.SUM may issue. -/
structure Red where
  now : List (Nat × RedRow)
  next : Nat
  deriving DecidableEq, Repr

/-- A copy descriptor as read (Table 8.8). -/
structure CopyDesc where
  src : Nat
  dst : Nat
  rlen : Nat
  nrow : Nat
  kind : Nat
  sco : Bool
  sstr : Nat
  dstr : Nat
  ssrc : Nat
  sdst : Nat
  slen : Nat
  mask : Nat
  deriving DecidableEq, Repr

/-- An issued copy (R240, R257): issue order in the cluster, engine, tag, descriptor word, descriptor, issue
c-cycle, the c-cycle of its last read of cluster memory, whether the c-cycle in which its tag clears is settled, bytes
of rows and companion with their poison once they were read or have landed (`landed`), the c-cycle of landing or
completion, the deadline DL in c-cycles with the class that gave it and whether it has passed (R279), whether the data
of an MCAST pull was read and its pairing number (R269), the Viaduct peer of a
copy to a remote module (job slot x 8 + peer), and the place of its CP.RUN. -/
structure CopyJob where
  order : Nat
  inbound : Bool
  tag : Nat
  word : Nat
  desc : Option CopyDesc
  issued : Nat
  lastRead : Nat
  fixed : Bool
  landed : Bool
  doneAt : Nat
  rows : List (Byte × Bool)
  comp : List (Byte × Bool)
  deadline : Nat
  cls : Nat
  passed : Bool
  sent : Bool
  mcNo : Nat
  remote : Option Nat
  place : Nat
  deriving DecidableEq, Repr

/-- The copy engines: issued copies in issue order, the next order number, MCAST pulls issued by mask (R269), and the
last read c-cycle of copy-out (R261). -/
structure Copies where
  jobs : List CopyJob
  nextOrder : Nat
  mcCount : List (Nat × Nat)
  lastOut : Nat
  deriving DecidableEq, Repr

/-- One delivery to Sluice (R113): block, staging row, 64 values. -/
structure Delivery where
  block : Nat
  row : Nat
  vals : List Dlv
  deriving DecidableEq, Repr

/-- The terms that one activation row adds to an accumulator row (R58, R100): for each column the terms, already
aligned, in their order (none: a poisoned term). -/
structure AccWrite where
  tile : Nat
  row : Nat
  col0 : Nat
  clear : Bool
  ea : Nat
  d : Nat
  cols : List (List (Option Int))
  deriving DecidableEq, Repr

/-- What happens in one c-cycle for an issued operation. `rd`: read words, filed under `idx`, sub-banks judged with
the group `grp`. `wr`: write nibbles of words, with the granules that carry poison; `sub`: sub-banks are judged.
`run`: step `i` of the operation. -/
inductive Act where
  | rd (idx grp : Nat) (ws : List Nat)
  | wr (sub : Bool) (ws : List (Nat × List (Nat × Nat) × List Nat))
  | run (i : Nat)
  | acc (w : AccWrite)
  | lanes (d : Nat) (v : List (Int × Bool)) (sat poi : Bool)
  | dlv (tgt : Nat) (d : Delivery)
  | drow (m : Nat)
  | redIn (input : Nat) (r : RedRow)
  | args (d : Nat) (vs : List Nat)
  | masks (vs : List Word32)
  | flagClr (m : Nat)
  | setFlag (bit : Nat)
  | tagClr (n : Nat)
  | stop (kind : Nat)
  deriving DecidableEq, Repr

/-- A scheduled act: c-cycle, phase within it (0 before the bank accesses, 1 the accesses, 2 after them), job, memory
user of Table 7.3 (12: reduction unit), and the operation's place (PC x 8 + slot). -/
structure Ev where
  at_ : Nat
  ph : Nat
  job : Nat
  unit : Nat
  slot : Nat
  act : Act
  deriving DecidableEq, Repr

/-- The kind of operation that a job carries out. -/
inductive JobKind where
  | lda | mx | mxLd | mxDr | edAtt | vuLd | vuTld | slP2 | slCv | slTld | slZld | slSeed | slKl | slKa | slKu
  | stRing | stWin | stRpk | stTrp | rdSum | cpOut | cpIn | edge
  deriving DecidableEq, Repr

/-- An operation in flight: its kind, place (PC x 8 + slot), operation bits, argument words and issue c-cycle, the words it has read,
notes of its own, and for pass two the set it drains. -/
structure Job where
  kind : JobKind
  slot : Nat
  op : Nat
  args : List Nat
  issued : Nat
  got : Table (List MemWord)
  note : List Nat
  stage : Option StageSet
  deriving DecidableEq, Repr

/-- One cluster: its units, the operations in flight with their scheduled acts, and the rate limit of MEM-CORRECTED by
bank (R249). -/
structure Cluster where
  seq : Seq
  tiles : Table Tile
  sl : Sluice
  ed : Eddy
  vu : Vec
  stp : Stripe
  red : Red
  cp : Copies
  jobs : Table Job
  nextJob : Nat
  evs : List Ev
  memLim : Table Nat
  deriving DecidableEq, Repr

/-- A claim of a region-bus, die-network or reduction-path slot (R24, R263): the resource, c-cycles `first`,
`first + step`, ... (`count` of them), the claiming cluster and its job. -/
structure Claim where
  res : Nat
  first : Nat
  step : Nat
  count : Nat
  cl : Nat
  job : Nat
  deriving DecidableEq, Repr
/-! ### A cluster as cluster reset leaves it (R215, R101, R116, R139, R140, Table 18.3) -/

def Plane.reset : Plane := ⟨false, 0, false, 0, [], [], 0, 0⟩

/-- A tile after cluster reset (R88, R101): planes not loaded, every entry zero with EA 0 and d 0. -/
def Tile.reset : Tile := ⟨Plane.reset, Plane.reset, ⟨[]⟩, 0, 0, 0⟩

def SlParams.none : SlParams := ⟨0, 0, 0, 32, false, 0, 0, 0, 0, false⟩

def StageSet.reset : StageSet := ⟨.free, SlParams.none, [], ⟨[]⟩, [], 0⟩

def Direct.reset : Direct := ⟨false, SlParams.none, 0, 0, 0, 64, 0, [], [], 0, [], ⟨[]⟩, [], []⟩

/-- Sluice after cluster reset (R116, R139, R140). SEED, IBASE, IROW and the rescale file have no stated value:
zero (log entry 6). -/
def Sluice.reset : Sluice :=
  ⟨StageSet.reset, StageSet.reset, Direct.reset, ⟨[]⟩, [], ⟨[]⟩, 0, 0, 0,
    (List.range 16).map (fun (n : Nat) => 17 * (n : Int) - 128), ⟨0, 1⟩, ⟨0, 1⟩, false,
    List.replicate 16 0, List.replicate 16 0, 0, [], []⟩

def EdSet.reset : EdSet := ⟨[], false, false, [], 0, 0⟩

def Eddy.reset : Eddy := ⟨EdSet.reset, EdSet.reset, 0⟩

def Vec.reset : Vec := ⟨⟨[]⟩, ⟨[]⟩, 0, []⟩

def Seq.reset : Seq :=
  { st := .idle, wait := .none, waitArg := 0, waitSince := 0, pc := 0, pcLast := 0, args := ⟨[]⟩, argSnap := ⟨[]⟩, lc := ⟨[]⟩,
    masks := ⟨[]⟩, tags := 0, gflags := 0, ctx := 0, slcfg := 0, cyc := 0, next := 0, ran := 0, isOpen := false,
    ports := [], due := [], unitDone := ⟨[]⟩, seen := ⟨[]⟩, rerun := false, flagsSeen := 0 }

/-- A cluster after cluster reset. -/
def Cluster.reset : Cluster :=
  { seq := Seq.reset, tiles := ⟨[]⟩, sl := Sluice.reset, ed := Eddy.reset, vu := Vec.reset,
    stp := ⟨⟨[]⟩, 0, 0⟩, red := ⟨[], 0⟩, cp := ⟨[], 0, [], 0⟩, jobs := ⟨[]⟩, nextJob := 1, evs := [],
    memLim := ⟨[]⟩ }
/-! ### Faults (spec/16) -/

/-- A message on the fault network: the 64 bits of Table 16.1, the contexts that its event is attributed to
(Table 16.6: "at the event"), and a severity that the raising rule itself names (R316), 0 where it names none. -/
structure NetMsg where
  bits : Word64
  ctxs : List Nat
  sev : Nat
  deriving DecidableEq, Repr

/-- A fault record (Table 16.8) with the contexts attributed to it and the raw tick at which it opened. -/
structure FaultRecord where
  msg : Word64
  time : BitVec 128
  sev : Nat
  eff : Nat
  carried : Bool
  isOpen : Bool
  acked : Bool
  gone : Bool
  escRep : Bool
  escDl : Bool
  nofence : Bool
  noctx : Bool
  displaced : Bool
  rep : Nat
  lseq : Word32
  ctxs : List Nat
  at_ : Nat
  deriving DecidableEq, Repr

/-- A history entry (Table 16.11) before its CRC: SOURCE, KIND, severity, type, HOURS, LSEQ. -/
structure HistEntry where
  source : Nat
  kind : Nat
  sev : Nat
  typ : Nat
  hours : Nat
  lseq : Nat
  deriving DecidableEq, Repr
/-! ### The HBM controller (spec/10) -/

/-- A piece of an HBM access (R302): arrival number, bank, row, first burst, bursts, direction, burst slots (R303),
how often it was passed (R306), failed attempts (R316). -/
structure HbPiece where
  no : Nat
  bank : Nat
  row : Nat
  col : Nat
  n : Nat
  write : Bool
  slots : Nat
  passed : Nat
  tries : Nat
  deriving DecidableEq, Repr

/-- One entry of an activate table (R309): row, count, and whether it is a queued or pending aggressor. -/
structure ActEntry where
  row : Nat
  count : Nat
  aggr : Bool
  deriving DecidableEq, Repr

/-- The HBM controllers: pieces by PC in arrival order with the arrival numbers at the last two turn starts (R303),
calendar entries still in force in place of rewritten ones (R301), open rows, direction and run length by PC (R306),
activate tables by PC x 48 + bank, aggressor queues and pending aggressors by PC (R309 to R311), REFpb counts by
stack ID (R312), scrub position (R313), fail list (R316), the 1 ms limits by PC, and for each stack the failed
verifications (R319) and the level conditions HBM-HOT and HBM-OVERTEMP. -/
structure Hbm where
  queues : Table (List HbPiece)
  nextNo : Nat
  elig : Nat
  curNo : Nat
  cal : Table Word32
  opens : Table (List (Nat × Nat))
  dirs : Table (Bool × Nat)
  acts : Table (List ActEntry)
  aggrs : Table (List (Nat × Nat))
  pends : Table (List (Nat × Nat))
  refs : List Nat
  scrub : Nat
  fails : List Nat
  corrLim : Table Nat
  ovfLim : Table Nat
  badGo : List Nat
  hot : List Bool
  hotOver : List Bool
  deriving DecidableEq, Repr

/-- The controllers after package reset. -/
def Hbm.reset : Hbm :=
  ⟨⟨[]⟩, 0, 0, 0, ⟨[]⟩, ⟨[]⟩, ⟨[]⟩, ⟨[]⟩, ⟨[]⟩, ⟨[]⟩, [0, 0, 0], 0, [], ⟨[]⟩, ⟨[]⟩, [0, 0], [false, false],
    [false, false]⟩

/-! ### The KV page manager (spec/05) -/

/-- The KV page manager: the free list, head first, and the quarantined pages (R161, R169). The 16-bit reference
counts lie in HBM. -/
structure KvState where
  free : List Nat
  quar : List Nat
  deriving DecidableEq, Repr

/-! ### The host interface (spec/11) -/

/-- A decided outcome (R343, Table 11.9): KIND (2 DONE, 3 DISCARDED), CODE, FLAGS without RESENT, RD, AUX. -/
structure HostOut where
  kind : Nat
  code : Nat
  flags : Nat
  rd : List Byte
  aux : Nat
  deriving DecidableEq, Repr

/-- An entry of the ACCEPT journal (R340): context, sequence number, the descriptor, its stamp, the capture of
its record (R284), whether it is to be rejected BUSY (R347), whether it was started, its outcome,
whether its outcome record was written, and whether its record carries RESENT. -/
structure JEntry where
  ctx : Nat
  seq : Nat
  desc : List Byte
  stamp : Nat
  cap : Nat
  busy : Bool
  started : Bool
  out : Option HostOut
  written : Bool
  resent : Bool
  deriving DecidableEq, Repr

/-- A FRAME record (R341, R349) that waits to be written. -/
structure FrameRec where
  seq : Nat
  code : Nat
  frame : Nat
  flags : Nat
  rd : List Byte
  deriving DecidableEq, Repr

/-- The rings of one context (R341): the slots of the completion ring that CQ_HEAD has not freed, oldest first (the
sequence number where an outcome record stands in it), the present PHASE, and FRAME records that wait. -/
structure HostCtx where
  used : List (Option Nat)
  phase : Bool
  frames : List FrameRec
  deriving DecidableEq, Repr

/-- What a slot or bank records of its image (R338): HBM place, length, SHA-256. -/
structure ImageRec where
  off : Nat
  len : Nat
  digest : List Byte
  deriving DecidableEq, Repr

/-- An MSI-X vector (R328): in its hold-off, a trigger due, messages sent. -/
structure IrqSt where
  hold : Bool
  due : Bool
  sent : Nat
  deriving DecidableEq, Repr

/-- A decode request (R172): context, sequence number, input and output rows, ACCEPT stamp, whether it was carried over. -/
structure DecReq where
  ctx : Nat
  seq : Nat
  inAddr : Nat
  outAddr : Nat
  stamp : Nat
  carried : Bool
  deriving DecidableEq, Repr

/-- The present step of a RUN (R343, R422, R426): whether it runs, its number, its horizon, the reference time E of its
firing and the raw tick of its start, its sections as (logical cluster, physical cluster), the sections that ended, the
sections that were re-executed (R528), whether the epoch of its job was retracted while it ran (R448), whether the step is a
re-run of a retracted epoch, the raw tick of its end, and the sections whose cluster was fenced and that wait for their re-run
with the Gauge flags that the re-run starts with (R528). -/
structure RunStep where
  active : Bool
  no : Nat
  horizon : Nat
  ref : Nat
  start : Nat
  secs : List (Nat × Nat)
  ended : List Nat
  again : List Nat
  retracted : Bool
  rerun : Bool
  endAt : Nat
  lost : List Nat
  lostFlags : BitVec 64
  deriving DecidableEq, Repr

/-- A running or armed RUN (R338, R349): context, sequence number, slot, bank, standing, the home cluster of each logical
cluster in the placement in force, ENTRY, ARG0 to ARG3, result and scale regions (address, length), its present step, the
number of the next one, the horizon and E of a held step (R422), retracted steps that wait for their re-run (number, horizon, E), and
the raw ticks at which steps started (number, tick). -/
structure RunRec where
  ctx : Nat
  seq : Nat
  slot : Nat
  bank : Nat
  standing : Bool
  homes : List Nat
  entry : Nat
  args : List Nat
  res : Nat × Nat
  sc : Nat × Nat
  step : RunStep
  nextNo : Nat
  held : Option (Nat × Nat)
  redo : List (Nat × Nat × Nat)
  begun : List (Nat × Nat)
  deriving DecidableEq, Repr

/-- An ended run or step whose outcome or FRAME record is not decided yet: RUN (context, sequence number), step number,
horizon, FLAGS, whether its digest is awaited, RD, result and scale regions, slot and bank, re-executed. -/
structure StepEnd where
  ctx : Nat
  seq : Nat
  standing : Bool
  no : Nat
  horizon : Nat
  flags : Nat
  hashing : Bool
  rd : List Byte
  res : Nat × Nat
  sc : Nat × Nat
  slot : Nat
  bank : Nat
  again : Bool
  deriving DecidableEq, Repr

/-- What Keystone has to decide about output `out` for step `no` of a RUN (R485, R486): context, slot, E, raw ticks of the
step's start and end, the physical clusters whose sections form the final result, the clusters or other sources for
which condition 2 fails, whether its comparison failed (R487), whether a cover is requested, and the result: 0 waiting,
2 released, 3 covered, 4 neither (SAFE). -/
structure Decision where
  out : Nat
  ctx : Nat
  slot : Nat
  run : Nat
  no : Nat
  horizon : Nat
  ref : Nat
  start : Nat
  ended : Option Nat
  units : List Nat
  bad : List Nat
  differs : Bool
  want : Bool
  result : Nat
  deriving DecidableEq, Repr

/-- The host interface: journal, rings, images by context x 32 + slot (banks from 16 on), link down, D3hot, contexts whose
host loss is that of D3hot alone (R345), vectors, decode requests that wait and those dispatched, by stream, the raw
tick or time at which the open window began, by stream, and ended steps that wait. -/
structure HostSt where
  journal : List JEntry
  ctxs : Table HostCtx
  images : Table ImageRec
  down : Bool
  d3 : Bool
  soft : List Nat
  irqs : Table IrqSt
  reqs : Table (List DecReq)
  inBlock : Table (List DecReq)
  winOpen : Table Nat
  ends : List StepEnd
  deriving DecidableEq, Repr

def HostSt.reset : HostSt := ⟨[], ⟨[]⟩, ⟨[]⟩, false, false, [], ⟨[]⟩, ⟨[]⟩, ⟨[]⟩, ⟨[]⟩, []⟩

/-! ### The recorder and the decoder (spec/09, spec/13) -/

/-- An external input that waits for its number (R284, R285): the model's own capture number, stream, record type, TIME,
payload. -/
structure Capture where
  id : Nat
  stream : Nat
  typ : Nat
  time : Nat
  payload : List Byte
  deriving DecidableEq, Repr

/-- A numbered or released record: sequence number, its capture, TIME, stream, the chain value after it (R285, R291). -/
structure RecEntry where
  seq : Nat
  cap : Nat
  time : Nat
  stream : Nat
  chain : List Byte
  deriving DecidableEq, Repr

/-- The recorder and the Oxbow decoder: captures that wait, the next capture number, the next record sequence number, the
chain value, the records of the session, sequence numbers after which results carry the gap flag, the first and last lost
record while recording is stopped (R286), and in replay: the first stamp released with the raw tick of its release (R289),
the expected sequence number, the raw tick since which the decoder waits, and whether REPLAY-STARVED was sent for this wait. -/
structure RecSt where
  waiting : List Capture
  nextId : Nat
  next : Nat
  chain : List Byte
  hist : List RecEntry
  gaps : List Nat
  lost : Option (Nat × Nat)
  first : Option (Nat × Nat)
  expect : Option Nat
  starved : Option Nat
  starveSent : Bool
  deriving DecidableEq, Repr

/-- At the start of a session (R285, R291); the first record of a session is numbered 0 (log entry 20). -/
def RecSt.reset : RecSt := ⟨[], 0, 0, List.replicate 32 0, [], [], none, none, none, none, false⟩

/-! ### The time base (spec/14) -/

/-- A change that software asked of the time base, committed at the next tick (R404). Times count 2^-32 ns. -/
inductive TimeOp where
  | set (v : Nat)
  | adj (v : Int)
  | inc (v : Nat)
  deriving DecidableEq, Repr

/-- An entry of a launch queue (R416): frame bytes in the hub buffer, TAG, IMM, launch time, and whether it was found in
time when it reached the head. -/
structure LaunchEntry where
  buf : Nat
  len : Nat
  tag : Nat
  imm : Bool
  time : Nat
  judged : Bool
  deriving DecidableEq, Repr

/-- The time base (R401 to R417): counter in 2^-32 ns, increment, changes waiting for the next tick, shadows of the last
TB_SEC_LO read, raw tick of the last counted PPS edge and the last accepted interval, consecutive accepted references, raw
tick of the last accepted one, the raw tick at which PPS_OUT falls, launch queues and transmit stamps (TAG, time). -/
structure TimeSt where
  now : Nat
  inc : Nat
  ops : List TimeOp
  shadow : Nat
  lastEdge : Option Nat
  interval : Option Nat
  okRun : Nat
  lastRef : Nat
  ppsUntil : Nat
  launch : Table (List LaunchEntry)
  stamps : Table (List (Nat × Nat))
  deriving DecidableEq, Repr

/-- The time base after package reset (R401, R405). -/
def TimeSt.reset : TimeSt := ⟨0, 2 * 2 ^ 32, [], 0, none, none, 0, 0, 0, ⟨[]⟩, ⟨[]⟩⟩


/-! ### Sensor ports and the input pipeline (spec/12, spec/13) -/

/-- Frame assembly of one camera stream (Table 12.1): the frame counter (R354), lines accepted, the flags of Table 12.2
that are set so far, the group being filled (first line, lines, bytes, stamp of its first header), the index of the next
group, the stamp of the last FS, the raw tick of the last FS or of the enable, whether SENS-STREAM-TIMEOUT was sent,
and whether the rest of the frame is dropped (R368, R369). -/
structure CamSt where
  isOpen : Bool
  frame : Word32
  lines : Nat
  flags : Nat
  gFirst : Nat
  gLines : Nat
  gBytes : List Byte
  gStamp : Nat
  gIndex : Nat
  lastFs : Option Nat
  seenAt : Nat
  late : Bool
  dropped : Bool
  deriving DecidableEq, Repr

def CamSt.reset : CamSt := ⟨false, 0, 0, 0, 0, 0, [], 0, 0, none, 0, false, false⟩

/-- What a port buffer holds. -/
inductive BufKind where
  | group | close | packet
  deriving DecidableEq, Repr

/-- An input in a port buffer (R368, R369): stream, frame or packet number, first line, lines, index of the group, bytes,
capture stamp, capture number, status word of a close, offset of the payload of a packet, and in replay the recorded
verdict (R371, R381). -/
structure BufItem where
  kind : BufKind
  stream : Nat
  frame : Nat
  first : Nat
  n : Nat
  index : Nat
  bytes : List Byte
  stamp : Nat
  cap : Nat
  status : Nat
  off : Nat
  verdict : Option Nat
  deriving DecidableEq, Repr

/-- Ports: cameras by stream, buffers by port (0 to 15 cameras, 16 to 19 lidar), raw ticks of the entry into CUT, held
trigger instants, GPIO events sent, packet numbers by lidar stream, the raw tick of the last point packet with the sent
timeout, and PPS edges since package reset (Table 13.3). -/
structure SensSt where
  cams : Table CamSt
  bufs : Table (List BufItem)
  cutAt : Table Nat
  trigs : Table (List Nat)
  sent : Table Nat
  packets : Table Word32
  lidSeen : Table (Nat × Bool)
  ppsEdges : Nat
  deriving DecidableEq, Repr

def SensSt.reset : SensSt := ⟨⟨[]⟩, ⟨[]⟩, ⟨[]⟩, ⟨[]⟩, ⟨[]⟩, ⟨[]⟩, ⟨[]⟩, 0⟩

/-- The pipeline's view of a camera stream (R385): whether a frame is open, its number, the admitted groups (first line,
lines, stamp, capture number), and the views that were enabled when it opened. -/
structure PipeSt where
  isOpen : Bool
  frame : Nat
  groups : List (Nat × Nat × Nat × Nat)
  views : List Nat
  deriving DecidableEq, Repr

/-- A view (R390 to R394): stripes of the present frame that it has emitted, the tags of this frame by slot (stripe,
bytes), and whether a write of EN = 0 waits for the close. -/
structure ViewSt where
  emitted : List Nat
  tags : Table (List Byte)
  off : Bool
  deriving DecidableEq, Repr

/-- A lidar stream (R395 to R398): revolution, the last block's bin and azimuth, the open sector, its returns (channel,
bin, raw range, intensity), the oldest contributing stamp, the flags of Table 13.9, contributing packets, and the sectors
closed in the revolution. -/
structure LidSt where
  rev : Nat
  bin : Option Nat
  az : Option Nat
  sector : Option Nat
  vals : List (Nat × Nat × Nat × Nat)
  stamp : Option Nat
  flags : Nat
  pkts : Nat
  closed : List Nat
  deriving DecidableEq, Repr

def LidSt.reset : LidSt := ⟨0, none, none, none, [], none, 0, 0, []⟩

/-- The input pipeline: camera streams, views, mesh slots (points), lidar streams. -/
structure InpSt where
  cams : Table PipeSt
  views : Table ViewSt
  mesh : Table (List (Int × Int))
  lids : Table LidSt
  deriving DecidableEq, Repr

def InpSt.reset : InpSt := ⟨⟨[]⟩, ⟨[]⟩, ⟨[]⟩, ⟨[]⟩⟩

/-! ### The Gauge scheduler (spec/14) -/

/-- An event that a generator has observed and that has not fired yet (R418, R426): generator, reference time E, the
capture number of its record, and whether it comes from a close. -/
structure GaEvent where
  gen : Nat
  e : Nat
  cap : Nat
  atClose : Bool
  deriving DecidableEq, Repr

/-- A generator: the next instant's k (R418), E of its last firing or of its enable (R424), E' (R423). -/
structure GaGen where
  k : Nat
  ePrev : Nat
  eCross : Option Nat
  deriving DecidableEq, Repr

structure GaugeSt where
  events : List GaEvent
  gens : Table GaGen
  deriving DecidableEq, Repr

def GaugeSt.reset : GaugeSt := ⟨[], ⟨[]⟩⟩

/-- Bytes that a HOST-DATA record supplies in replay (R287): context, sequence number, host address, bytes. -/
structure HostBytes where
  ctx : Nat
  seq : Nat
  addr : Nat
  bytes : List Byte
  deriving DecidableEq, Repr

/-! ### Viaduct (spec/15) -/

/-- The link layer of a Viaduct port (R432 to R434): next LSEQ to send, next LSEQ expected, unacknowledged flits (LSEQ,
bytes, replays), whether a NAK is due, failed training attempts, packets being received by VC, and credits spent by VC
(R432). -/
structure VdPort where
  tx : Nat
  rx : Nat
  replay : List (Nat × List Byte × Nat)
  nak : Bool
  tries : Nat
  part : Table (List Byte)
  spent : Table Nat
  deriving DecidableEq, Repr

def VdPort.reset : VdPort := ⟨0, 0, [], false, 0, ⟨[]⟩, ⟨[]⟩⟩

/-- A WRITE that waits for its WACK (R442): slot, peer, MSGNO, epoch, attempt, delivery index, packet, sends, raw tick of
the last send, the raw tick of a WNAK that is to be resent, and the copy (cluster, issue order). -/
structure VdSent where
  slot : Nat
  peer : Nat
  msg : Nat
  epoch : Nat
  att : Nat
  didx : Nat
  packet : List Byte
  sends : Nat
  sentAt : Nat
  wnakAt : Option Nat
  cl : Nat
  order : Nat
  deriving DecidableEq, Repr

/-- The LAST packet of a delivery that was written (R445): peer, epoch, delivery index, MSGNO. -/
structure VdLast where
  peer : Nat
  epoch : Nat
  didx : Nat
  msg : Nat
  deriving DecidableEq, Repr

/-- A CONFIRM held for a peer (R447, R449). -/
structure VdConf where
  peer : Nat
  epoch : Nat
  att : Nat
  round : Nat
  deriving DecidableEq, Repr

/-- A job slot beyond its registers: by peer the next MSGNO to send, the lowest MSGNO not completed, and the numbers
completed above it (R442); LAST packets; expected attempts by epoch x 8 + peer and outbound attempts by epoch (R448);
deliveries sent by (epoch x 8 + peer); stage flags set for OLDEST (R445); CONFIRMs held; rounds sent for OLDEST; whether the
own checks of OLDEST passed; the raw tick of the last commit; the generation of the last abort; the raw tick of the entry
into QUIET. -/
structure VdSlot where
  txNo : Table Nat
  rxNo : Table Nat
  rxMap : Table (List Nat)
  lasts : List VdLast
  expAtt : Table Nat
  outAtt : Table Nat
  sent : Table Nat
  stages : Nat
  confs : List VdConf
  rounds : Nat
  passed : Bool
  since : Nat
  lastGen : Option Nat
  quietAt : Nat
  deriving DecidableEq, Repr

def VdSlot.reset : VdSlot :=
  ⟨⟨[]⟩, ⟨[]⟩, ⟨[]⟩, [], ⟨[]⟩, ⟨[]⟩, ⟨[]⟩, 0, [], 0, false, 0, none, 0⟩

/-- Viaduct: ports, slots, packets that wait for their next hop (VC, bytes), the raw tick since which the first data packet of
them is blocked (R437), WRITEs without WACK, and copies whose packets
were made (cluster, issue order, packets without WACK). -/
structure VdSt where
  ports : Table VdPort
  slots : Table VdSlot
  transit : List (Nat × List Byte)
  blocked : Option Nat
  outs : List VdSent
  copies : List (Nat × Nat × Nat)
  deriving DecidableEq, Repr

def VdSt.reset : VdSt := ⟨⟨[]⟩, ⟨[]⟩, [], none, [], []⟩
/-! ### The fault collector and the recovery block (spec/16, spec/18) -/

/-- The collector: record slots 0 to 128, expected SEQ by source with the generation it belongs to (R460), the raw tick
until which the earlier generation of a unit holds (R516), the log by entry number, reports that wait on the Towpath (R475), the
flash history, entries that wait to be written, the staging area (R478), and the flash copy of the operating hours. -/
structure FcSt where
  recs : Table FaultRecord
  expSeq : Table (Nat × Nat)
  adopt : Table (Nat × Nat)
  log : Table (List Byte)
  reports : List (List Byte)
  flash : List HistEntry
  due : List HistEntry
  staged : List HistEntry
  hoursFlash : Nat
  deriving DecidableEq, Repr

def FcSt.reset : FcSt := ⟨⟨[]⟩, ⟨[]⟩, ⟨[]⟩, ⟨[]⟩, [], [], [], [], 0⟩

/-- A cluster dump (R526): cluster, generation, sequencer state, the eight registers in the order of R526, the words of
RC_DWIN. -/
structure ClDump where
  cluster : Nat
  gen : Nat
  seq : Seq
  regs : List Word32
  words : List MemWord
  deriving DecidableEq, Repr

/-- A crash dump (R526, Table 18.7): KIND, SOURCE, TKIND, capture stamp, LSEQ, and for a package dump the log, the record
slots and the Keystone global registers; then cluster dumps. -/
structure Dump where
  kind : Nat
  source : Nat
  tkind : Nat
  time : Nat
  lseq : Nat
  log : Table (List Byte)
  recs : Table FaultRecord
  keystone : List Word32
  cls : List ClDump
  deriving DecidableEq, Repr

/-- Resets in progress: units whose reset has started and not been completed (source identifiers), the cause of a package
reset whose boot has not run, staged dumps, flash dump slots with the next slot to be used, the kind and source and log number of
the last severity action, and whether the package is halted (R523). -/
structure RstSt where
  busy : List Nat
  boot : Option Nat
  dumps : List Dump
  flashDumps : Table Dump
  nextSlot : Nat
  trigger : Nat × Nat × Nat
  halted : Bool
  deriving DecidableEq, Repr

/-- Right after the registers took their reset values at power-up, before the boot has run. -/
def RstSt.reset : RstSt := ⟨[], some 0, [], ⟨[]⟩, 0, (0xE00, 0, 0), false⟩

/-! ### Keystone, Footbridge, the safety SPI, self-test (spec/17) -/

/-- A Footbridge record (Table 17.7): FRAME, TIME, NEAR, BEAR, FLAGS, the 512 bytes of FREE. -/
structure FbRec where
  frame : Nat
  time : Nat
  near : Nat
  bear : Nat
  flags : Nat
  space : List Byte
  deriving DecidableEq, Repr

/-- A Footbridge run: raw tick of its firing, oldest stamp, whether every input it needed was valid, FLAGS without VALID. -/
structure FbRun where
  at_ : Nat
  time : Nat
  ok : Bool
  flags : Nat
  deriving DecidableEq, Repr

/-- Keystone: its safe line, words 1 and 2 of the status frame (R507); Footbridge: the newest record, frames being
assembled and the newest complete one by camera stream (number, oldest stamp, valid), the azimuth and oldest stamp of the
revolution being read and the newest full one, the run in progress, runs since EN, raw ticks of the last two firings of
GEN, whether a known-answer run is awaited after a closed FB-FAULT; safety SPI: mode and status frame of the frame in
progress, raw tick of the last rise of select, Good frames modulo 32,768, raw tick of the last Good ALIVE, whether CMD-TIMEOUT
was sent; self-test: the cluster under test by die, clusters at the head of the order (R493), raw tick of the last passed
test, overdue clusters reported. -/
structure SafSt where
  safeLine : Bool
  rel : Nat
  cov : Nat
  fbRec : Option FbRec
  fbOpen : Table (Nat × Nat)
  fbCams : Table (Nat × Nat × Bool)
  fbAz : Option (Nat × Nat × Bool)
  fbRev : Option (Nat × Bool)
  fbRun : Option FbRun
  fbNo : Nat
  fbFire : List Nat
  fbKat : Bool
  lidCopy : List Word32
  spi : Option (Nat × List Byte)
  spiRose : Option Nat
  spiSeq : Nat
  alive : Nat
  spiLate : Bool
  testing : Table Nat
  head : List Nat
  tested : Table Nat
  overdue : List Nat
  deriving DecidableEq, Repr

/-- Pins of both contacts low and the safe line raised in BOOT (Table 17.8). -/
def SafSt.reset : SafSt :=
  ⟨true, 0, 0, none, ⟨[]⟩, ⟨[]⟩, none, none, none, 0, [], false, [], none, none, 0, 0, false, ⟨[]⟩, [], ⟨[]⟩, []⟩

/-! ### The management complex (spec/19) -/

/-- Management: by pair, the raw ticks of its entries to RESETTING and of its last kick; the raw tick since which no pair
serves and that of the MGT-WDOG sent; good windows counted (R538); the next telemetry SEQ; the challenge issued (R547); last class-1
SEQ by source MAC, oldest first; the owner key; frames sent on the Towpath; requests that wait for a pair (source MAC, payload) and
whether the host's report waits; the chain values M1 to M4 and the digest of the loaded Footbridge network (R542, R545); the boot
configuration copy in use; the active bank that FWCOMMIT wrote; the flash count K (R557); SVNFLOOR where SVNBUMP raised it; bytes written to flash and, in recovery, to
SRAM, by offset; UPDCNT and the firmware fields of the Span Table (RELIEF, time of the last refresh, reserved ranges as space, offset,
length, kind); the FMAP bytes 28 to 31 latched, by entry. -/
structure MgSt where
  resets : Table (List Nat)
  kicks : Table Nat
  none_ : Option Nat
  wdog : Option Nat
  calm : Nat
  telSeq : Nat
  chal : Option (List Byte)
  seen : List (Nat × Nat)
  ownerKey : Option (List Byte)
  out : List (List Byte)
  queue : List (Nat × List Byte)
  repWait : Bool
  meas : List (List Byte)
  fbDig : List Byte
  cfgUse : Nat
  bankSel : Option Nat
  powerCount : Nat
  svnFloor : Option Nat
  flash : Table Byte
  sram : Table Byte
  updcnt : Nat
  relief : Nat
  rts : Nat
  ranges : List (Nat × Nat × Nat × Nat)
  latch : Table Nat
  deriving DecidableEq, Repr

def MgSt.reset : MgSt :=
  { resets := ⟨[]⟩, kicks := ⟨[]⟩, none_ := none, wdog := none, calm := 0, telSeq := 0, chal := none, seen := [], ownerKey := none,
    out := [], queue := [], repWait := false, meas := [], fbDig := [], cfgUse := 0, bankSel := none, powerCount := 0, svnFloor := none, flash := ⟨[]⟩,
    sram := ⟨[]⟩, updcnt := 0, relief := 0, rts := 0, ranges := [], latch := ⟨[]⟩ }

/-! ### Power and clocks (spec/20) -/

/-- The power controller: whether the module is powered, raw tick of the last failed charge, windows below 95 % by die,
raw tick since which a die's stretch is at least 4 and since which it is 0, raw tick at which a point request became pending,
point changes of the controller's own that wait (target point by die), sensors at or above TJTHR (5 x die + sensor; 32 + sensor for H), gated regions, good clock windows in a row by domain, contexts whose ENABLE waits for the end of P3 (R562), raw tick of
the last disconnect or power fail. -/
structure PwSt where
  powered : Bool
  charge : Option Nat
  below : Table Nat
  held : Table Nat
  zero : Table Nat
  pendAt : Table Nat
  lower : Table Nat
  hot : List Nat
  gated : List Nat
  good : Table Nat
  enables : List Nat
  offAt : Nat
  deriving DecidableEq, Repr

def PwSt.reset : PwSt := ⟨true, none, ⟨[]⟩, ⟨[]⟩, ⟨[]⟩, ⟨[]⟩, ⟨[]⟩, [], [], ⟨[]⟩, [], 0⟩

/-! ### The module -/

/-- The state of the module. -/
structure State where
  pending : List Instr
  regs : Table Word32
  mem : List Host.Cell
  marks : Table Gran
  clusters : Table Cluster
  undo : Table Cluster
  claims : List Claim
  hbm : Hbm
  kv : KvState
  actor : List Nat
  host : HostSt
  rcd : RecSt
  runs : List RunRec
  decs : List Decision
  blockNo : Table Nat
  net : List NetMsg
  srcSeq : Table (BitVec 3)
  gens : Table (BitVec 8)
  hostMap : Table (Option Nat)
  relief : List Nat
  fences : List Nat
  time : TimeSt
  replayTime : Nat
  rateLim : Table Nat
  sens : SensSt
  inp : InpSt
  gauge : GaugeSt
  hostBytes : List HostBytes
  vd : VdSt
  fc : FcSt
  rst : RstSt
  saf : SafSt
  mg : MgSt
  pw : PwSt
  freeCount : Nat
  ticks : Nat
  deriving DecidableEq, Repr

/-- Why the machine stops with a fault. No command of this block ends in one: every event the spec names has an
effect on the state. -/
inductive Fault where
  /-- Raised by none of the commands (safe): kept so that the type is inhabited. -/
  | none
  deriving DecidableEq, Repr

/-- Why a command has no meaning here. -/
inductive Refusal where
  /-- A command whose meaning has not been written (safe). -/
  | notModelled (mnemonic : String)
  /-- Raised by every command whose operands name what does not exist, such as cluster 64 or port 20 (WellFormed.lean). No
  such command reaches the module (safe). -/
  | illFormed
  deriving DecidableEq, Repr

/-- The module right after package reset. -/
def State.reset : State :=
  { pending := [], regs := ⟨[]⟩, mem := [], marks := ⟨[]⟩, clusters := ⟨[]⟩, undo := ⟨[]⟩, claims := [], hbm := Hbm.reset,
    kv := ⟨[], []⟩, actor := [], host := HostSt.reset, rcd := RecSt.reset, runs := [], decs := [], blockNo := ⟨[]⟩,
    net := [], srcSeq := ⟨[]⟩, gens := ⟨[]⟩,
    hostMap := ⟨[]⟩, relief := [15, 31, 47, 63], fences := [], time := TimeSt.reset, replayTime := 0, rateLim := ⟨[]⟩,
    sens := SensSt.reset, inp := InpSt.reset, gauge := GaugeSt.reset, hostBytes := [], vd := VdSt.reset, fc := FcSt.reset,
    rst := RstSt.reset, saf := SafSt.reset, mg := MgSt.reset, pw := PwSt.reset, freeCount := 0, ticks := 0 }

end Sys2Proof.Machine
end

