-- ==== Sys2Proof/WellFormed.lean ====
section
/-! DEFINITION. Which operands name something that exists: numbers of clusters, contexts, ports and the like within their
ranges, byte strings of the lengths that they have. -/

namespace Sys2Proof

/-- Is a number one of the first n? -/
def below (n x : Nat) : Bool := decide (x < n)

/-- Slots 1 to 7 hold operations of the units; slot 0 holds the control operation (R218). -/
def isSlot (x : Nat) : Bool := decide (1 ≤ x ∧ x ≤ 7)

/-- The 32 bytes of a memory word, where a service access writes one (R271). -/
def isWordData (x : Option (List Byte)) : Bool :=
  match x with
  | none => true
  | some bs => decide (bs.length = 32)

/-- Gears G1 to G3 (R352). -/
def isGear (x : Nat) : Bool := decide (1 ≤ x ∧ x ≤ 3)

/-- Lidar streams (R351). -/
def isLidarStream (x : Nat) : Bool := decide (64 ≤ x ∧ x < 96)

/-- Registers of the determinism block under the write condition of R278. -/
def isDtReg (x : Nat) : Bool := decide (x = 0 ∨ x = 8 ∨ x = 0xC ∨ x = 0x10)

/-- A pseudo-channel of a stack (R319). -/
def isFailPc (x : Option Nat) : Bool :=
  match x with
  | none => true
  | some p => decide (p < 32)

/-- A job slot and an epoch (R443, R444). -/
def isJobEpoch (x : Option (Nat × Nat)) : Bool :=
  match x with
  | none => true
  | some e => decide (e.1 < 16 ∧ e.2 < 2 ^ 32)

/-- The modes of the safety SPI (R507). -/
def isSpiMode (x : Nat) : Bool := decide (x = 0 ∨ x = 3)

/-- Up to eight 32-bit words (R507). -/
def areWords (x : List Nat) : Bool := decide (x.length ≤ 8) && x.all (fun w => decide (w < 2 ^ 32))

/-- Cluster, tag and generation of a pull, and a c-cycle. -/
def isPull (x : Option (Nat × Nat × Nat × Nat)) : Bool :=
  match x with
  | none => true
  | some e => decide (e.1 < 64 ∧ e.2.1 < 16 ∧ e.2.2.1 < 256)

/-- An aligned offset in BAR0 (R326). -/
def isRegOff (x : Nat) : Bool := decide (x < 2 ^ 23 ∧ x % 4 = 0)

/-- Is a command well formed? -/
def Instr.wf : Instr → Bool
  | .startRecord c _ => below 64 c
  | .nop c op => below 64 c && below (2 ^ 32) op
  | .setl c op => below 64 c && below (2 ^ 32) op
  | .seth c op => below 64 c && below (2 ^ 32) op
  | .addi c op => below 64 c && below (2 ^ 32) op
  | .lda c op => below 64 c && below (2 ^ 32) op
  | .step c op => below 64 c && below (2 ^ 32) op
  | .lset c op => below 64 c && below (2 ^ 32) op
  | .bloop c op => below 64 c && below (2 ^ 32) op
  | .br c op => below 64 c && below (2 ^ 32) op
  | .waitc c op => below 64 c && below (2 ^ 32) op
  | .waitcRelease c => below 64 c
  | .waitg c op => below 64 c && below (2 ^ 32) op
  | .waitgRelease c _ => below 64 c
  | .waitx c op => below 64 c && below (2 ^ 32) op
  | .waitxRelease c => below 64 c
  | .waitb c op => below 64 c && below (2 ^ 32) op
  | .waitbRelease c _ => below 64 c
  | .bar c op => below 64 c && below (2 ^ 32) op
  | .barRelease c _ => below 64 c
  | .fence c op => below 64 c && below (2 ^ 32) op
  | .fenceRelease c => below 64 c
  | .flagclr c op => below 64 c && below (2 ^ 32) op
  | .endProgram c op => below 64 c && below (2 ^ 32) op
  | .endCompletion c => below 64 c
  | .waitTimeout c => below 64 c
  | .mxT c slot op => below 64 c && isSlot slot && below (2 ^ 32) op
  | .mxP c slot op => below 64 c && isSlot slot && below (2 ^ 32) op
  | .mxQ c slot op => below 64 c && isSlot slot && below (2 ^ 32) op
  | .mxW c slot op => below 64 c && isSlot slot && below (2 ^ 32) op
  | .mxG c slot op => below 64 c && isSlot slot && below (2 ^ 32) op
  | .mxLd c slot op => below 64 c && isSlot slot && below (2 ^ 32) op
  | .mxDr c slot op => below 64 c && isSlot slot && below (2 ^ 32) op
  | .edAtt c slot op => below 64 c && isSlot slot && below (2 ^ 32) op
  | .vuLd c slot op => below 64 c && isSlot slot && below (2 ^ 32) op
  | .vuAdd c slot op => below 64 c && isSlot slot && below (2 ^ 32) op
  | .vuSub c slot op => below 64 c && isSlot slot && below (2 ^ 32) op
  | .vuMul c slot op => below 64 c && isSlot slot && below (2 ^ 32) op
  | .vuMax c slot op => below 64 c && isSlot slot && below (2 ^ 32) op
  | .vuMin c slot op => below 64 c && isSlot slot && below (2 ^ 32) op
  | .vuTab c slot op => below 64 c && isSlot slot && below (2 ^ 32) op
  | .vuSumr c slot op => below 64 c && isSlot slot && below (2 ^ 32) op
  | .vuMaxr c slot op => below 64 c && isSlot slot && below (2 ^ 32) op
  | .vuOut c slot op => below 64 c && isSlot slot && below (2 ^ 32) op
  | .vuTld c slot op => below 64 c && isSlot slot && below (2 ^ 32) op
  | .vuBci c slot op => below 64 c && isSlot slot && below (2 ^ 32) op
  | .slP1 c slot op => below 64 c && isSlot slot && below (2 ^ 32) op
  | .slP2 c slot op => below 64 c && isSlot slot && below (2 ^ 32) op
  | .slCv c slot op => below 64 c && isSlot slot && below (2 ^ 32) op
  | .slTld c slot op => below 64 c && isSlot slot && below (2 ^ 32) op
  | .slZld c slot op => below 64 c && isSlot slot && below (2 ^ 32) op
  | .slSeed c slot op => below 64 c && isSlot slot && below (2 ^ 32) op
  | .slKl c slot op => below 64 c && isSlot slot && below (2 ^ 32) op
  | .slKa c slot op => below 64 c && isSlot slot && below (2 ^ 32) op
  | .slKu c slot op => below 64 c && isSlot slot && below (2 ^ 32) op
  | .setReady c n => below 64 c && below 2 n
  | .stRing c slot op => below 64 c && isSlot slot && below (2 ^ 32) op
  | .stWin c slot op => below 64 c && isSlot slot && below (2 ^ 32) op
  | .stRpk c slot op => below 64 c && isSlot slot && below (2 ^ 32) op
  | .stTrp c slot op => below 64 c && isSlot slot && below (2 ^ 32) op
  | .rdSum c slot op => below 64 c && isSlot slot && below (2 ^ 32) op
  | .cpRun c slot _ op => below 64 c && isSlot slot && below (2 ^ 32) op
  | .pullLanding c tag gen _ _ _ => below 64 c && below 16 tag && below 256 gen
  | .pullCommit c => below 64 c
  | .outboundComplete c tag _ => below 64 c && below 16 tag
  | .mcastPull mask _ _ => below (2 ^ 64) mask
  | .copyDeadline c tag => below 64 c && below 16 tag
  | .egRun c slot op => below 64 c && isSlot slot && below (2 ^ 32) op
  | .egRunComplete d => below 4 d
  | .serviceAccess c w data => below 64 c && below (2 ^ 17) w && isWordData data
  | .clMemclr c => below 64 c
  | .sqTail c _ => below 256 c
  | .cqHead c _ => below 256 c
  | .accept c _ d p => below 256 c && below (2 ^ 16) d.length && below 16 p
  | .descriptorNop c seq => below 256 c && below (2 ^ 48) seq
  | .loadp c seq => below 256 c && below (2 ^ 48) seq
  | .loadw c seq => below 256 c && below (2 ^ 48) seq
  | .run c seq _ => below 256 c && below (2 ^ 48) seq
  | .copy c seq => below 256 c && below (2 ^ 48) seq
  | .decode c seq _ => below 256 c && below (2 ^ 48) seq
  | .kvopShare c seq => below 256 c && below (2 ^ 48) seq
  | .kvopRelease c seq => below 256 c && below (2 ^ 48) seq
  | .kvopTruncate c seq => below 256 c && below (2 ^ 48) seq
  | .disarm c seq => below 256 c && below (2 ^ 48) seq
  | .outcomeRecord c => below 256 c
  | .msixHoldoffExpiry v => below 257 v
  | .enable c => below 256 c
  | .disable c => below 256 c
  | .abort c => below 256 c
  | .contextReset c => below 256 c
  | .hostLoss kind => below 3 kind
  | .d3hotEntry => true
  | .d0Return => true
  | .kvWrite c tag => below 64 c && below 16 tag
  | .kvShare src shg _ dst dhg _ _ _ => below 256 src && below 64 shg && below 256 dst && below 64 dhg
  | .kvRelease c hg _ _ _ => below 256 c && below 64 hg
  | .kvTruncate c hg _ _ => below 256 c && below 64 hg
  | .kvInit => true
  | .decodeWindowClose b => below 16 b
  | .frameStart port vc hdr _ _ => below 16 port && below 4 vc && below 3 hdr
  | .longPacket port vc dt hdr _ _ bs _ => below 16 port && below 4 vc && below 64 dt && below 3 hdr && below (2 ^ 16) bs.length
  | .frameEnd port vc hdr _ => below 16 port && below 4 vc && below 3 hdr
  | .embeddedData port vc hdr _ bs _ => below 16 port && below 4 vc && below 3 hdr && below (2 ^ 16) bs.length
  | .frameTimeout port vc => below 16 port && below 4 vc
  | .lossOfLock port => below 16 port
  | .lockAcquired port gear => below 16 port && isGear gear
  | .sensStreamTimeout x => below 96 x
  | .triggerRequest port _ => below 16 port
  | .triggerSend port => below 16 port
  | .pen port _ => below 16 port
  | .clr port => below 16 port
  | .rampEnd port _ => below 16 port
  | .pocShort port _ => below 16 port
  | .pocOverload port => below 16 port
  | .openLoad port => below 16 port
  | .dischargeEnd port => below 16 port
  | .pocMeasurement port mv ma => below 16 port && below (2 ^ 16) mv && below (2 ^ 16) ma
  | .ethFrame q _ bs _ => below 5 q && below (2 ^ 16) bs.length
  | .ethLink q => below 5 q
  | .weirDrop port => below 20 port
  | .lineGroupAdmission port => below 16 port
  | .stripeReady x => below 64 x
  | .frameCloseEmit port => below 16 port
  | .viewEnable v _ => below 32 v
  | .meshLoad _ => true
  | .lidarBlock p => below 4 p
  | .lidarEnable x _ => isLidarStream x
  | .recordCapture => true
  | .recordingResume => true
  | .recordRelease => true
  | .dcResync off => below (2 ^ 32) off
  | .replayStarved => true
  | .rdReady c seq _ => below 256 c && below (2 ^ 48) seq
  | .dtCfg off _ => isDtReg off
  | .windowEnable c w _ => below 256 c && below 17 w
  | .pieceArrival _ _ _ => true
  | .dataTurn t => below 64 t
  | .normalServe pc => below 64 pc
  | .refTurn t => below 64 t
  | .trrTurn t => below 64 t
  | .scrubTurn t => below 64 t
  | .hbmLinkRetry pc => below 64 pc
  | .hbmTempRead st _ => below 2 st
  | .srenter => true
  | .srexit => true
  | .hbmGo st failPc => below 2 st && isFailPc failPc
  | .hbCal t v => below 64 t && below (2 ^ 32) v
  | .hbPaircls q v => below 3 q && below (2 ^ 32) v
  | .timeTick => true
  | .setTime => true
  | .adjTime => true
  | .incCommit _ => true
  | .tbSecLo => true
  | .refsrc _ => true
  | .ppsEdge p _ => below 16 p
  | .syncMessage q domain => below 5 q && below 256 domain
  | .referenceTimeout => true
  | .launchGo q => below 5 q
  | .launchSend q p => below 5 q && below 16 p
  | .stns q => below 5 q
  | .timeFiring g _ => below 64 g
  | .azimuthFiring g _ => below 64 g
  | .lineFiring g _ => below 64 g
  | .stripeFiring g _ => below 64 g
  | .predictFiring g _ => below 64 g
  | .fallback g _ => below 64 g
  | .heldStepStart c seq _ => below 256 c && below (2 ^ 48) seq
  | .gaugeEnable g _ => below 64 g
  | .flitReceive p fec b => below 8 p && below 3 fec && below (2 ^ 16) b.length
  | .nak p lack => below 8 p && below 4096 lack
  | .portEnable p _ => below 8 p
  | .byp p _ => below 8 p
  | .trainResult p _ pid port => below 8 p && below (2 ^ 11) pid && below 8 port
  | .retrain p => below 8 p
  | .packetHop => true
  | .writePacket b => below (2 ^ 16) b.length
  | .wack b => below (2 ^ 16) b.length
  | .wnak b => below (2 ^ 16) b.length
  | .rtoExpiry j p msg => below 16 j && below 8 p && below (2 ^ 32) msg
  | .confirm b => below (2 ^ 16) b.length
  | .retract b own => below (2 ^ 16) b.length && isJobEpoch own
  | .ownChecks j => below 16 j
  | .epochTimeout j => below 16 j
  | .arm j => below 16 j
  | .jobAbort j => below 16 j
  | .abortMessage b => below (2 ^ 16) b.length
  | .quietExpiry j => below 16 j
  | .faultMessage src _ _ => below (2 ^ 12) src
  | .keepAlive src => below (2 ^ 12) src
  | .fcAck _ => true
  | .ackDeadline slot => below 256 slot
  | .fcFence unit => below (2 ^ 12) unit
  | .returnToService unit _ => below (2 ^ 12) unit
  | .fcSev off _ => below (2 ^ 32) off
  | .towpathReport => true
  | .historyWrite => true
  | .operatingHours => true
  | .release o => below 32 o
  | .releaseDeadline o => below 32 o
  | .safetyRequest src kind => below (2 ^ 12) src && below 256 kind
  | .pinMonitor _ _ => true
  | .safePin _ _ => true
  | .ksGo => true
  | .ksClear => true
  | .ksEnter => true
  | .outputEnable o _ => below 33 o
  | .footbridgeRun => true
  | .footbridgeRunEnd => true
  | .fbFault why => below 256 why
  | .knownAnswerRun _ => true
  | .selectRelease _ ws => areWords ws
  | .selectTimeout _ => true
  | .sspiNop => true
  | .alive _ => true
  | .reqsafe => true
  | .spiHeartbeatTimeout => true
  | .selftestSlot d => below 4 d
  | .selftestComplete d phase => below 4 d && below 256 phase
  | .selftestOverdue c => below 64 c
  | .cmdTimeout row unit _ pull => below 256 row && below (2 ^ 12) unit && isPull pull
  | .clusterReset c => below 64 c
  | .regionReset r => below 16 r
  | .dieReset d => below 4 d
  | .hubSubblockReset unit => below (2 ^ 12) unit
  | .resetEscalation unit => below (2 ^ 12) unit
  | .packageHalt => true
  | .packageReset _ => true
  | .pkgRstN _ => true
  | .rcCluster key unit => below (2 ^ 16) key && below (2 ^ 12) unit
  | .rcRegion key unit => below (2 ^ 16) key && below (2 ^ 12) unit
  | .rcDie key unit => below (2 ^ 16) key && below (2 ^ 12) unit
  | .rcHub key unit => below (2 ^ 16) key && below (2 ^ 12) unit
  | .rcPackage key => below (2 ^ 16) key
  | .rcDump key => below (2 ^ 16) key
  | .reExecution c seq _ => below 256 c && below (2 ^ 48) seq
  | .lockstep u => below 3 u
  | .mgKick q _ => below 2 q
  | .pairWatchdog q => below 2 q
  | .pairResetEnd q => below 2 q
  | .pairTestEnd q _ => below 2 q
  | .mgtWdog => true
  | .mwdrstReset => true
  | .shedWindow b0 b1 => below 101 b0 && below 101 b1
  | .telemetry => true
  | .spanref _ => true
  | .dumpmove => true
  | .read mac p => below (2 ^ 48) mac && below (2 ^ 16) p.length
  | .attest mac p => below (2 ^ 48) mac && below (2 ^ 16) p.length
  | .cert mac p => below (2 ^ 48) mac && below (2 ^ 16) p.length
  | .challenge mac p => below (2 ^ 48) mac && below (2 ^ 16) p.length
  | .write mac p => below (2 ^ 48) mac && below (2 ^ 16) p.length
  | .ack mac p => below (2 ^ 48) mac && below (2 ^ 16) p.length
  | .towpathReset mac p => below (2 ^ 48) mac && below (2 ^ 16) p.length
  | .cfgwrite mac p => below (2 ^ 48) mac && below (2 ^ 16) p.length
  | .dumpread mac p => below (2 ^ 48) mac && below (2 ^ 16) p.length
  | .fwchunk mac p => below (2 ^ 48) mac && below (2 ^ 16) p.length
  | .fwcommit mac p _ => below (2 ^ 48) mac && below (2 ^ 16) p.length
  | .svnbump mac p => below (2 ^ 48) mac && below (2 ^ 16) p.length
  | .histclear mac p => below (2 ^ 48) mac && below (2 ^ 16) p.length
  | .ownerkey mac p => below (2 ^ 48) mac && below (2 ^ 16) p.length
  | .mbGo _ => true
  | .pwOpreq d _ => below 4 d
  | .opPointChange d => below 4 d
  | .powerUp _ _ => true
  | .chargeTimeout => true
  | .vinUv v => below (2 ^ 16) v
  | .powerFail v => below (2 ^ 16) v
  | .vinOv v => below (2 ^ 16) v
  | .disconnect v => below (2 ^ 16) v
  | .stretchWindow _ => true
  | .pointLowering d => below 4 d
  | .dieHot d n _ => below 5 d && below 256 n
  | .dieOvertemp d n _ => below 5 d && below 256 n
  | .standbyEntry => true
  | .standbyExit => true
  | .regionGating r => below 16 r
  | .clkMon m _ _ _ => below 40 m
  | .oscFail n _ => below 3 n
  | .clkOsc _ => true
  | .vrFault d rail => below 5 d && below 256 rail
  | .fmapRead k => below 24 k
  | .apCntclr port => below 16 port
  | .lpCntclr p => below 4 p
  | .wrClr => true
  | .tbCntclr => true
  | .lqCntclr q => below 5 q
  | .gaCntclr g => below 64 g
  | .vdCntclr => true
  | .vpCntclr p => below 8 p
  | .ssCntclr => true
  | .twCntclr => true
  | .registerWrite off _ _ => isRegOff off
  | .hostTransferComplete c seq _ _ => below 256 c && below (2 ^ 48) seq
  | .pcieLinkUp => true
  | .ethLinkUp q => below 5 q
  | .selectFallingEdge mode => isSpiMode mode
  | .vinUvClear v => below (2 ^ 16) v
  | .dieHotClear d n _ => below 5 d && below 256 n
  | .opRequestTimeout d => below 4 d
  | .wnakResend j p msg => below 16 j && below 8 p && below (2 ^ 32) msg
  | .receiverEnable port _ => below 20 port
  | .pinthWrite _ => true

end Sys2Proof
end

