-- ==== Sys2Proof/Machine/Answer.lean ====
section
/-! DEFINITION. How a meaning answers: an ill-formed command is refused, every other leads to a next state. -/

namespace Sys2Proof.Machine

/-- The answer of a command: whether its operands are well formed, and its effect. -/
def answer (ok : Bool) (t : State) : Host.Outcome State Fault Refusal := if ok then .next t else .refused .illFormed

end Sys2Proof.Machine
end

