-- ==== Sys2Proof/Config.lean ====
section
/-! DEFINITION. What one module fixes and the spec does not state, as constants with no body: factory and fuse
values, key material, and the free values (a value the spec leaves undefined or does not state). Nothing can
evaluate them, so every statement holds for every choice. -/

namespace Sys2Proof.Config

/-- Factory and fuse values of set-up registers (RXLAT, TXLAT, MAC: Tables 12.6, 12.7, 14.7, 21.10; FZ_*: Table
19.8), by BAR0 offset. Log entry 3. -/
opaque factoryReg : Nat → BitVec 32

/-- A free value: the n-th open value of a run (log entry 4). `State.freeCount` supplies n. -/
opaque freeValue : Nat → Nat

/-- Byte i of the n-th open value of a run, where that value is a byte string (log entry 4). -/
opaque freeByte : Nat → Nat → Byte

/-- A free byte string of the given length (log entry 4). -/
def freeBytes (n len : Nat) : List Byte := (List.range len).map (fun i => freeByte n i)

/-- The device key's ECDSA P-384 signature of a message (R545). The spec gives no key. Log entry 5. -/
opaque deviceSign : List Byte → List Byte

/-- Verification of a firmware image's signature under the product key of the fuses (R541, R549). Log entry 5. -/
opaque firmwareVerify : List Byte → Bool

/-- The certificate chain that the factory wrote (R545, Table 19.6 CERT). Log entry 5. -/
opaque certChain : List Byte

/-- The service and product keys with which Towpath classes 2 and 3 are authenticated (Table 19.6). Log entry 5. -/
opaque serviceVerify : List Byte → List Byte → Bool

/-- The word address from which the stripe engine counts scale slots. Table 6.2 gives them "relative to the consumer's
SBASE", and no stripe operation names an SBASE. Log entry 14. -/
opaque ringScaleBase : Nat

/-- The horizon of a firing at which no record of the session has a number (Table 14.3 gives none). Log entry 22. -/
opaque emptyHorizon : Nat

/-- A raw camera pixel of a bit depth that the packings of CSI-2 do not name (9, 11, 13, 15): by depth, line bytes and
column. Log entry 21. -/
opaque rawPixel : Nat → List Byte → Nat → Nat

/-- Bytes of the sequencer state in a cluster dump (R526), and the bytes of a dump after its header: by number of the dump
and position. The spec gives the contents and not their layout. Log entry 26. -/
opaque dumpStateLen : Nat
opaque dumpBody : Nat → Nat → BitVec 8

/-- The device serial number (Table 19.7) and the silicon revision (Table 21.1). Log entry 3. -/
opaque serial : BitVec 64
opaque revision : BitVec 8

/-- Selects the storage width of an output row whose column 0 holds the reserved OFMT 0b111 (R122 gives it none). Log entry 8. -/
opaque reservedWidth : Nat

/-- The credits of a VC that a link flit returns (R432: link flits carry credit returns; the spec gives no layout of them).
Log entry 80. -/
opaque creditReturn : List Byte → Nat → Nat

end Sys2Proof.Config
end

