-- ==== Sys2Proof/Machine/RegMap.lean ====
section
/-! DEFINITION. The set-up registers of BAR0 (R13, R578, R585, R589, R590): one row for every register of the
register tables of spec/02 to spec/21, with its place, its RW and W1C masks, its readable bits and its reset value.
A row covers `n1` instances `s1` bytes apart, and `n2` sub-instances `s2` bytes apart within each. -/

namespace Sys2Proof.Machine

/-- One row of the register map. `rw`, `w1c`: bits that a write may change (Table 0.3); `rd`: bits that a read
returns; `fac`: bits that the factory or the fuses set (Config); `reset`: the reset value the tables state. -/
structure RegRow where
  name : String
  base : Nat
  n1 : Nat
  s1 : Nat
  n2 : Nat
  s2 : Nat
  rw : Nat
  w1c : Nat
  rd : Nat
  fac : Nat
  reset : Nat
  deriving DecidableEq, Repr

/-- Registers at BAR0 0x10_0000. -/
def regRows10 : List RegRow :=
  [ ⟨"CL_STOPINFO: KIND SLOT EXEC PC BANK", 0x100004, 64, 0x1000, 1, 0x0, 0x0, 0x0, 0xFFFFFF1F, 0x0, 0x0⟩
  , ⟨"CL_SEQCFG: WTO", 0x100008, 64, 0x1000, 1, 0x0, 0xFFFF, 0x0, 0xFFFF, 0x0, 0x1F4⟩
  , ⟨"CL_GEN: LATE LOADED GEN", 0x10000C, 64, 0x1000, 1, 0x0, 0x0, 0x0, 0xFF01FF, 0x0, 0x1⟩
  , ⟨"CL_NUMFLAG: STR_POI CPYO_POI CPYI_POI RED_POI", 0x100100, 64, 0x1000, 1, 0x0, 0x0, 0xFFFFF, 0xFFFFF, 0x0, 0x0⟩
  , ⟨"MX_ROWSAT: ROWSAT", 0x100110, 64, 0x1000, 8, 0x4, 0x0, 0xFFFFFFFF, 0xFFFFFFFF, 0x0, 0x0⟩
  , ⟨"CL_SLCFG: ZA ZPM", 0x100180, 64, 0x1000, 1, 0x0, 0xF1, 0x0, 0xF1, 0x0, 0x0⟩
  , ⟨"CL_MEMCNT: PMCNT UECNT CECNT", 0x100200, 64, 0x1000, 1, 0x0, 0x0, 0x0, 0xFFFFFFFF, 0x0, 0x0⟩
  , ⟨"CL_MEMLOG: VALID TYPE GRAN WORD", 0x100204, 64, 0x1000, 1, 0x0, 0x0, 0x80000000, 0xF007FFFF, 0x0, 0x0⟩
  , ⟨"CL_MEMCLR: CLR", 0x100208, 64, 0x1000, 1, 0x0, 0x0, 0x0, 0x0, 0x0, 0x0⟩
  , ⟨"CL_DETWIN: BASE PERK", 0x100240, 64, 0x1000, 4, 0x4, 0x0, 0x0, 0xFFFFFFFF, 0x0, 0x0⟩
  , ⟨"CL_DETOVR: CLASS COUNT", 0x100250, 64, 0x1000, 1, 0x0, 0x0, 0x0, 0xC000FFFF, 0x0, 0x0⟩ ]

/-- Registers at BAR0 0x14_0000. -/
def regRows14 : List RegRow :=
  [ ⟨"RG_SLOTMAP: PHASE", 0x140000, 16, 0x1000, 1, 0x0, 0xFFFF, 0x0, 0xFFFF, 0x0, 0xFFFF⟩ ]

/-- Registers at BAR0 0x15_0000. -/
def regRows15 : List RegRow :=
  [ ⟨"EE_CFG: OWN", 0x150000, 4, 0x1000, 1, 0x0, 0xFFFF, 0x0, 0xFFFF, 0x0, 0x0⟩
  , ⟨"EE_STAT: RUNS ERR CUR BUSY", 0x150004, 4, 0x1000, 1, 0x0, 0x0, 0x0, 0xFFFF03F1, 0x0, 0x0⟩
  , ⟨"EE_NUMFLAG: SLC_POI SLC_UNF SLC_SAT MX_POI MX_SAT", 0x150008, 4, 0x1000, 1, 0x0, 0x0, 0x7011, 0x7011, 0x0, 0x0⟩ ]

/-- Registers at BAR0 0x20_0000. -/
def regRows20 : List RegRow :=
  [ ⟨"CTX: CMD", 0x200000, 256, 0x1000, 1, 0x0, 0x0, 0x0, 0x0, 0x0, 0x0⟩
  , ⟨"CTX: FRDROP HOSTLOSS PEND FETCHERR DBERR", 0x200004, 256, 0x1000, 1, 0x0, 0x0, 0x3C0, 0xFFFF0FC3, 0x0, 0x0⟩
  , ⟨"CTX: SEQ_LO", 0x200008, 256, 0x1000, 1, 0x0, 0x0, 0x0, 0xFFFFFFFF, 0x0, 0x1⟩
  , ⟨"CTX: SEQ_HI", 0x20000C, 256, 0x1000, 1, 0x0, 0x0, 0x0, 0xFFFF, 0x0, 0x0⟩
  , ⟨"CTX: SQB_LO", 0x200010, 256, 0x1000, 1, 0x0, 0xFFFFF000, 0x0, 0xFFFFF000, 0x0, 0x0⟩
  , ⟨"CTX: SQB_HI", 0x200014, 256, 0x1000, 1, 0x0, 0x1FFFF, 0x0, 0x1FFFF, 0x0, 0x0⟩
  , ⟨"CTX: CQLOG SQLOG", 0x200018, 256, 0x1000, 1, 0x0, 0xF000F, 0x0, 0xF000F, 0x0, 0x0⟩
  , ⟨"CTX: CQB_LO", 0x200020, 256, 0x1000, 1, 0x0, 0xFFFFF000, 0x0, 0xFFFFF000, 0x0, 0x0⟩
  , ⟨"CTX: CQB_HI", 0x200024, 256, 0x1000, 1, 0x0, 0x1FFFF, 0x0, 0x1FFFF, 0x0, 0x0⟩
  , ⟨"CTX: INFL", 0x200028, 256, 0x1000, 1, 0x0, 0x7FF, 0x0, 0x7FF, 0x0, 0x100⟩
  , ⟨"CTX: IRQEN MOD", 0x20002C, 256, 0x1000, 1, 0x0, 0x8000FFFF, 0x0, 0x8000FFFF, 0x0, 0x0⟩
  , ⟨"CTX: CLM_LO", 0x200030, 256, 0x1000, 1, 0x0, 0xFFFFFFFF, 0x0, 0xFFFFFFFF, 0x0, 0x0⟩
  , ⟨"CTX: CLM_HI", 0x200034, 256, 0x1000, 1, 0x0, 0xFFFFFFFF, 0x0, 0xFFFFFFFF, 0x0, 0x0⟩
  , ⟨"CTX_HW: HWB_LO", 0x200040, 256, 0x1000, 4, 0x10, 0xFFFFF000, 0x0, 0xFFFFF000, 0x0, 0x0⟩
  , ⟨"CTX_HW: HWB_HI", 0x200044, 256, 0x1000, 4, 0x10, 0x1FFFF, 0x0, 0x1FFFF, 0x0, 0x0⟩
  , ⟨"CTX_HW: HWSIZE", 0x200048, 256, 0x1000, 4, 0x10, 0xFFFFFFFF, 0x0, 0xFFFFFFFF, 0x0, 0x0⟩
  , ⟨"CTX_HW: WR RD EN", 0x20004C, 256, 0x1000, 4, 0x10, 0x7, 0x0, 0x7, 0x0, 0x0⟩
  , ⟨"CTX: BANK_b", 0x200080, 256, 0x1000, 1, 0x0, 0x0, 0x0, 0xFFFF, 0x0, 0x0⟩
  , ⟨"CTX: SLOT_s", 0x200084, 256, 0x1000, 1, 0x0, 0x0, 0x0, 0xFFFFFFFF, 0x0, 0x0⟩
  , ⟨"CTX_WIN: BASE_LO", 0x200300, 256, 0x1000, 16, 0x10, 0xFFE00000, 0x0, 0xFFE00000, 0x0, 0x0⟩
  , ⟨"CTX_WIN: BASE_HI", 0x200304, 256, 0x1000, 16, 0x10, 0x1FFFF, 0x0, 0x1FFFF, 0x0, 0x0⟩
  , ⟨"CTX_WIN: SIZE", 0x200308, 256, 0x1000, 16, 0x10, 0x7FFF, 0x0, 0x7FFF, 0x0, 0x0⟩
  , ⟨"CTX_WIN: ACT WR RD EN", 0x20030C, 256, 0x1000, 16, 0x10, 0x3F, 0x0, 0x3F, 0x0, 0x0⟩
  , ⟨"CTX: PTB_LO", 0x200400, 256, 0x1000, 1, 0x0, 0xFFFFF000, 0x0, 0xFFFFF000, 0x0, 0x0⟩
  , ⟨"CTX: PTB_HI", 0x200404, 256, 0x1000, 1, 0x0, 0x1FFFF, 0x0, 0x1FFFF, 0x0, 0x0⟩
  , ⟨"CTX: SHDOM VG KG VF KF EN NHG", 0x200408, 256, 0x1000, 1, 0x0, 0xFF00FFBF, 0x0, 0xFF00FFBF, 0x0, 0x0⟩
  , ⟨"CTX: LASTERR NPAGES", 0x20040C, 256, 0x1000, 1, 0x0, 0x0, 0x0, 0xF00FFFFF, 0x0, 0x0⟩
  , ⟨"CTX: HBEN HBBASE HBSIZE", 0x200420, 256, 0x1000, 1, 0x0, 0x81FF03FF, 0x0, 0x81FF03FF, 0x0, 0x0⟩
  , ⟨"CTX: HBERR WERR", 0x200424, 256, 0x1000, 1, 0x0, 0x0, 0x1FFFF, 0x1FFFF, 0x0, 0x0⟩
  , ⟨"CTX: SKEY", 0x200440, 256, 0x1000, 1, 0x0, 0xFFFFFFFF, 0x0, 0xFFFFFFFF, 0x0, 0x0⟩
  , ⟨"CTX: DGEN", 0x200444, 256, 0x1000, 1, 0x0, 0x1, 0x0, 0x1, 0x0, 0x0⟩ ]

/-- Registers at BAR0 0x30_0000. -/
def regRows30 : List RegRow :=
  [ ⟨"DOORBELL: SQ_TAIL", 0x300000, 256, 0x1000, 1, 0x0, 0xFFFF, 0x0, 0xFFFF, 0x0, 0x0⟩
  , ⟨"DOORBELL: CQ_HEAD", 0x300004, 256, 0x1000, 1, 0x0, 0xFFFF, 0x0, 0xFFFF, 0x0, 0x0⟩
  , ⟨"DOORBELL: SQ_HEAD", 0x300008, 256, 0x1000, 1, 0x0, 0x0, 0x0, 0xFFFF, 0x0, 0x0⟩
  , ⟨"DOORBELL: CQ_TAIL", 0x30000C, 256, 0x1000, 1, 0x0, 0x0, 0x0, 0xFFFF, 0x0, 0x0⟩ ]

/-- Registers at BAR0 0x40_0000. -/
def regRows40 : List RegRow :=
  [ ⟨"KVP: EB_LO", 0x400000, 1, 0x0, 1, 0x0, 0xFFFF0000, 0x0, 0xFFFF0000, 0x0, 0x0⟩
  , ⟨"KVP: EB_HI", 0x400004, 1, 0x0, 1, 0x0, 0x1FFFF, 0x0, 0x1FFFF, 0x0, 0x0⟩
  , ⟨"KVP: SB_LO", 0x400008, 1, 0x0, 1, 0x0, 0xFFFFF000, 0x0, 0xFFFFF000, 0x0, 0x0⟩
  , ⟨"KVP: SB_HI", 0x40000C, 1, 0x0, 1, 0x0, 0x1FFFF, 0x0, 0x1FFFF, 0x0, 0x0⟩
  , ⟨"KVP: PAGES", 0x400010, 1, 0x0, 1, 0x0, 0x1FFFFF, 0x0, 0x1FFFFF, 0x0, 0x0⟩
  , ⟨"KVP: FREE", 0x400014, 1, 0x0, 1, 0x0, 0x0, 0x0, 0x1FFFFF, 0x0, 0x0⟩
  , ⟨"KVP: INIT", 0x400018, 1, 0x0, 1, 0x0, 0x0, 0x0, 0x0, 0x0, 0x0⟩
  , ⟨"DB: EN WIN", 0x401000, 16, 0x20, 1, 0x0, 0x8000FFFF, 0x0, 0x8000FFFF, 0x0, 0x0⟩
  , ⟨"DB: HBOFF", 0x401004, 16, 0x20, 1, 0x0, 0x1FFFFFF, 0x0, 0x1FFFFFF, 0x0, 0x0⟩
  , ⟨"DB: NCH", 0x401008, 16, 0x20, 1, 0x0, 0xFF000000, 0x0, 0xFF000000, 0x0, 0x0⟩
  , ⟨"DB: RBASE", 0x40100C, 16, 0x20, 1, 0x0, 0x1FFFF, 0x0, 0x1FFFF, 0x0, 0x0⟩
  , ⟨"DB: SSLOT0 RSTR", 0x401010, 16, 0x20, 1, 0x0, 0xFFFFFFFF, 0x0, 0xFFFFFFFF, 0x0, 0x0⟩
  , ⟨"DB: T0_LO", 0x401014, 16, 0x20, 1, 0x0, 0xFFFFFFFF, 0x0, 0xFFFFFFFF, 0x0, 0x0⟩
  , ⟨"DB: T0_NS", 0x401018, 16, 0x20, 1, 0x0, 0xFFFFFFFF, 0x0, 0xFFFFFFFF, 0x0, 0x0⟩
  , ⟨"DB: QDEPTH", 0x40101C, 16, 0x20, 1, 0x0, 0x0, 0x0, 0x7FF, 0x0, 0x0⟩
  , ⟨"DT: FREE MODE DET_STRICT", 0x402000, 1, 0x0, 1, 0x0, 0xF, 0x0, 0xF, 0x0, 0x0⟩
  , ⟨"DT: STARVE GAP CFGERR", 0x402004, 1, 0x0, 1, 0x0, 0x0, 0x7, 0x7, 0x0, 0x0⟩
  , ⟨"DT: RB_LO", 0x402008, 1, 0x0, 1, 0x0, 0xFFFF0000, 0x0, 0xFFFF0000, 0x0, 0x0⟩
  , ⟨"DT: RB_HI", 0x40200C, 1, 0x0, 1, 0x0, 0x1FFFF, 0x0, 0x1FFFF, 0x0, 0x0⟩
  , ⟨"DT: RCTX RSIZE", 0x402010, 1, 0x0, 1, 0x0, 0xFF00FFFF, 0x0, 0xFF00FFFF, 0x0, 0x0⟩
  , ⟨"DT: RWR", 0x402014, 1, 0x0, 1, 0x0, 0x0, 0x0, 0xFFFFFFFF, 0x0, 0x0⟩
  , ⟨"DT: RRD", 0x402018, 1, 0x0, 1, 0x0, 0x0, 0x0, 0xFFFFFFFF, 0x0, 0x0⟩
  , ⟨"DT: SEQ_LO", 0x402020, 1, 0x0, 1, 0x0, 0x0, 0x0, 0xFFFFFFFF, 0x0, 0x0⟩
  , ⟨"DT: SEQ_HI", 0x402024, 1, 0x0, 1, 0x0, 0x0, 0x0, 0xFFFFFFFF, 0x0, 0x0⟩
  , ⟨"DT: CHAIN_i", 0x402030, 8, 0x4, 1, 0x0, 0x0, 0x0, 0xFFFFFFFF, 0x0, 0x0⟩ ]

/-- Registers at BAR0 0x41_0000. -/
def regRows41 : List RegRow :=
  [ ⟨"HB_CFG: TRRTH SCRUBEN SREXIT SRENTER", 0x410000, 1, 0x0, 1, 0x0, 0x7FFF0004, 0x0, 0x7FFF0004, 0x0, 0x3E80004⟩
  , ⟨"HB_STAT: TURN STRICT TRAINED SR", 0x410004, 1, 0x0, 1, 0x0, 0x0, 0x0, 0xFC07, 0x0, 0x0⟩
  , ⟨"HB_PAIRCLS: CLS_0 CLS_1 CLS_2 CLS_3 CLS_4 CLS_5", 0x410010, 1, 0x0, 3, 0x4, 0xFFFFFF, 0x0, 0xFFFFFF, 0x0, 0xB6DB6D⟩
  , ⟨"HB_CAL: KIND DIR CLS", 0x410100, 64, 0x4, 1, 0x0, 0xF, 0x0, 0x3F, 0x0, 0x7⟩
  , ⟨"HBS: PMCNT UECNT CECNT", 0x411000, 2, 0x2000, 1, 0x0, 0x0, 0x0, 0xFFFFFFFF, 0x0, 0x0⟩
  , ⟨"HBS: VALID TYPE GRAN", 0x411004, 2, 0x2000, 1, 0x0, 0x0, 0x80000000, 0xF0000003, 0x0, 0x0⟩
  , ⟨"HBS: BURST", 0x411008, 2, 0x2000, 1, 0x0, 0x0, 0x0, 0x7FFFFFFF, 0x0, 0x0⟩
  , ⟨"HBS: SERVED QMAX OVF", 0x411010, 2, 0x2000, 1, 0x0, 0x0, 0x0, 0xFFFFFFFF, 0x0, 0x0⟩
  , ⟨"HBS: TEMP", 0x411014, 2, 0x2000, 1, 0x0, 0x0, 0x0, 0xFF, 0x0, 0x0⟩
  , ⟨"HBS: DONE FAIL FAILPC GO", 0x411020, 2, 0x2000, 1, 0x0, 0x0, 0x0, 0xFE000000, 0x0, 0x0⟩
  , ⟨"HBS_DLY of stack 0: CODE_0 CODE_1 CODE_2 CODE_3", 0x412000, 32, 0x80, 21, 0x4, 0x7F7F7F7F, 0x0, 0x7F7F7F7F, 0x0, 0x0⟩
  , ⟨"HBS_DLY of stack 1: CODE_0 CODE_1 CODE_2 CODE_3", 0x414000, 32, 0x80, 21, 0x4, 0x7F7F7F7F, 0x0, 0x7F7F7F7F, 0x0, 0x0⟩ ]

/-- Registers at BAR0 0x42_0000. -/
def regRows42 : List RegRow :=
  [ ⟨"AP: EN GMAX VCEN DT LG", 0x420000, 16, 0x1000, 1, 0x0, 0x8FFF003F, 0x0, 0x8FFF003F, 0x0, 0xC2C0007⟩
  , ⟨"AP: LINES LINELEN", 0x420004, 16, 0x1000, 1, 0x0, 0xFFFFFFFF, 0x0, 0xFFFFFFFF, 0x0, 0x4380B40⟩
  , ⟨"AP: FTO MAXFI", 0x420008, 16, 0x1000, 1, 0x0, 0xFFFFFFFF, 0x0, 0xFFFFFFFF, 0x0, 0x1F403E8⟩
  , ⟨"AP: MINFI", 0x42000C, 16, 0x1000, 1, 0x0, 0xFFFF, 0x0, 0xFFFF, 0x0, 0x0⟩
  , ⟨"AP: FOPEN LOCK GEAR", 0x420010, 16, 0x1000, 1, 0x0, 0x0, 0x0, 0xF, 0x0, 0x0⟩
  , ⟨"AP: LINECNT", 0x420014, 16, 0x1000, 1, 0x0, 0x0, 0x0, 0x7FFF, 0x0, 0x0⟩
  , ⟨"AP: LAST", 0x420018, 16, 0x1000, 1, 0x0, 0x0, 0x0, 0xFFFFFFFF, 0x0, 0x0⟩
  , ⟨"AP: FRAME", 0x42001C, 16, 0x1000, 1, 0x0, 0x0, 0x0, 0xFFFFFFFF, 0x0, 0x0⟩
  , ⟨"AP: HDRCOR RETX DROPPKT INVAL", 0x420020, 16, 0x1000, 1, 0x0, 0x0, 0x0, 0xFFFFFFFF, 0x0, 0x0⟩
  , ⟨"AP: AP_CNTCLR", 0x420024, 16, 0x1000, 1, 0x0, 0x0, 0x0, 0x0, 0x0, 0x0⟩
  , ⟨"AP: RXLAT CARRLAT", 0x420028, 16, 0x1000, 1, 0x0, 0xFFFF, 0x0, 0xFFFFFFFF, 0xFFFF0000, 0x0⟩
  , ⟨"AP: PEN CLR PLIM VSET", 0x420030, 16, 0x1000, 1, 0x0, 0x80001FFF, 0x0, 0x80001FFF, 0x0, 0x0⟩
  , ⟨"AP: STATE CAUSE CUTS OPENLD", 0x420034, 16, 0x1000, 1, 0x0, 0x0, 0x0, 0xFFF8000, 0x0, 0x0⟩
  , ⟨"AP: VMEAS IMEAS", 0x420038, 16, 0x1000, 1, 0x0, 0x0, 0x0, 0xFFFFFFFF, 0x0, 0x0⟩
  , ⟨"AP: GPIO TLEAD", 0x420040, 16, 0x1000, 1, 0x0, 0xFFFFF, 0x0, 0xFFFFF, 0x0, 0x0⟩
  , ⟨"AP: MISSED QUEUED", 0x420044, 16, 0x1000, 1, 0x0, 0x0, 0x0, 0xFFFF0007, 0x0, 0x0⟩ ]

/-- Registers at BAR0 0x43_0000. -/
def regRows43 : List RegRow :=
  [ ⟨"LP: EN MS", 0x430000, 4, 0x1000, 1, 0x0, 0xC0000000, 0x0, 0xC0000000, 0x0, 0x0⟩
  , ⟨"LP: LINK", 0x430004, 4, 0x1000, 1, 0x0, 0x0, 0x0, 0x1, 0x0, 0x0⟩
  , ⟨"LP: FCSERR UNMATCHED", 0x430008, 4, 0x1000, 1, 0x0, 0x0, 0x0, 0xFFFFFFFF, 0x0, 0x0⟩
  , ⟨"LP: LENERR LP_CNTCLR", 0x43000C, 4, 0x1000, 1, 0x0, 0x0, 0x0, 0xFFFF0000, 0x0, 0x0⟩
  , ⟨"LP: RXLAT CARRLAT", 0x430010, 4, 0x1000, 1, 0x0, 0xFFFF, 0x0, 0xFFFFFFFF, 0xFFFF0000, 0x0⟩
  , ⟨"LP_FLT: FEN VLANM UDPM MACM VID ETYPE", 0x430040, 4, 0x1000, 8, 0x10, 0xFFFFFFFF, 0x0, 0xFFFFFFFF, 0x0, 0x0⟩
  , ⟨"LP_FLT: UDPPORT SMAC_HI", 0x430044, 4, 0x1000, 8, 0x10, 0xFFFFFFFF, 0x0, 0xFFFFFFFF, 0x0, 0x0⟩
  , ⟨"LP_FLT: SMAC_LO", 0x430048, 4, 0x1000, 8, 0x10, 0xFFFFFFFF, 0x0, 0xFFFFFFFF, 0x0, 0x0⟩
  , ⟨"LP_FLT: PLMAX PLMIN", 0x43004C, 4, 0x1000, 8, 0x10, 0xFFFFFFF0, 0x0, 0xFFFFFFF0, 0x0, 0x8CA00010⟩
  , ⟨"LP: PTO", 0x4300C0, 4, 0x1000, 8, 0x4, 0xFFFF, 0x0, 0xFFFF, 0x0, 0x64⟩
  , ⟨"TW: MS LINK", 0x434000, 1, 0x0, 1, 0x0, 0x40000000, 0x0, 0x40000001, 0x0, 0x0⟩
  , ⟨"TW: FCSERR RXFRM", 0x434004, 1, 0x0, 1, 0x0, 0x0, 0x0, 0xFFFFFFFF, 0x0, 0x0⟩
  , ⟨"TW: MAC_LO", 0x434008, 1, 0x0, 1, 0x0, 0x0, 0x0, 0xFFFFFFFF, 0xFFFFFFFF, 0x0⟩
  , ⟨"TW: MAC_HI", 0x43400C, 1, 0x0, 1, 0x0, 0x0, 0x0, 0xFFFF, 0xFFFF, 0x0⟩
  , ⟨"TW: RXLAT CARRLAT", 0x434010, 1, 0x0, 1, 0x0, 0xFFFF, 0x0, 0xFFFFFFFF, 0xFFFF0000, 0x0⟩
  , ⟨"TW: TW_CNTCLR", 0x434014, 1, 0x0, 1, 0x0, 0x0, 0x0, 0x0, 0x0, 0x0⟩ ]

/-- Registers at BAR0 0x44_0000. -/
def regRows44 : List RegRow :=
  [ ⟨"WR: LIM", 0x440100, 96, 0x4, 1, 0x0, 0xFFFF, 0x0, 0xFFFF, 0x0, 0xFFFF⟩
  , ⟨"WR: WR_DROP", 0x440300, 96, 0x4, 1, 0x0, 0x0, 0x0, 0xFFFFFFFF, 0x0, 0x0⟩
  , ⟨"WR: MAXAGE", 0x440500, 96, 0x4, 1, 0x0, 0x0, 0x0, 0xFFFF, 0x0, 0x0⟩
  , ⟨"WR: WR_CLR", 0x440700, 1, 0x0, 1, 0x0, 0x0, 0x0, 0x0, 0x0, 0x0⟩ ]

/-- Registers at BAR0 0x48_0000. -/
def regRows48 : List RegRow :=
  [ ⟨"IP_MSH: MSRC", 0x480000, 1, 0x0, 1, 0x0, 0x1FFFFF8, 0x0, 0x1FFFFF8, 0x0, 0x0⟩
  , ⟨"IP_MSH: GO BUSY SLOT", 0x480004, 1, 0x0, 1, 0x0, 0xF, 0x0, 0x4000000F, 0x0, 0x0⟩
  , ⟨"IP_NUMFLAG: SLC_POI SLC_UNF SLC_SAT", 0x480010, 1, 0x0, 1, 0x0, 0x0, 0x7000, 0x7000, 0x0, 0x0⟩
  , ⟨"CAMS: EN FMT BITS CFA BLK", 0x481000, 64, 0x10, 1, 0x0, 0xFFE0FFFF, 0x0, 0xFFE0FFFF, 0x0, 0x0⟩
  , ⟨"CAMS: RBASE", 0x481004, 64, 0x10, 1, 0x0, 0x1FFFFE0, 0x0, 0x1FFFFE0, 0x0, 0x0⟩
  , ⟨"CAMS: SROWS SW", 0x481008, 64, 0x10, 1, 0x0, 0xFFFFFFFF, 0x0, 0xFFFFFFFF, 0x0, 0x0⟩
  , ⟨"CAMS: SH", 0x48100C, 64, 0x10, 1, 0x0, 0xFFFF0000, 0x0, 0xFFFF0000, 0x0, 0x0⟩
  , ⟨"VIEW: EN STREAM MSLOT IDENT NPL3 G SCM DSP FB", 0x482000, 32, 0x80, 1, 0x0, 0x80FFFFF0, 0x0, 0x80FFFFF0, 0x0, 0x0⟩
  , ⟨"VIEW: OH OW", 0x482004, 32, 0x80, 1, 0x0, 0xFFFFFFFF, 0x0, 0xFFFFFFFF, 0x0, 0x0⟩
  , ⟨"VIEW: NSLOT SR", 0x482008, 32, 0x80, 1, 0x0, 0xFFFF007F, 0x0, 0xFFFF007F, 0x0, 0x0⟩
  , ⟨"VIEW: MW MH CWL CHL", 0x48200C, 32, 0x80, 1, 0x0, 0xFFFFFF00, 0x0, 0xFFFFFF00, 0x0, 0x0⟩
  , ⟨"VIEW: Y0 X0", 0x482010, 32, 0x80, 1, 0x0, 0xFFFFFFFF, 0x0, 0xFFFFFFFF, 0x0, 0x0⟩
  , ⟨"VIEW: OB_LO", 0x482014, 32, 0x80, 1, 0x0, 0xFFFFFFE0, 0x0, 0xFFFFFFE0, 0x0, 0x0⟩
  , ⟨"VIEW: OB_HI", 0x482018, 32, 0x80, 1, 0x0, 0x1FFFF, 0x0, 0x1FFFF, 0x0, 0x0⟩
  , ⟨"VIEW: OCTX", 0x48201C, 32, 0x80, 1, 0x0, 0xFF000000, 0x0, 0xFF000000, 0x0, 0x0⟩
  , ⟨"VIEW: SB_LO", 0x482020, 32, 0x80, 1, 0x0, 0xFFFFFFE0, 0x0, 0xFFFFFFE0, 0x0, 0x0⟩
  , ⟨"VIEW: SB_HI", 0x482024, 32, 0x80, 1, 0x0, 0x1FFFF, 0x0, 0x1FFFF, 0x0, 0x0⟩
  , ⟨"VIEW: TB_LO", 0x482028, 32, 0x80, 1, 0x0, 0xFFFFFFC0, 0x0, 0xFFFFFFC0, 0x0, 0x0⟩
  , ⟨"VIEW: TB_HI", 0x48202C, 32, 0x80, 1, 0x0, 0x1FFFF, 0x0, 0x1FFFF, 0x0, 0x0⟩
  , ⟨"VIEW: RESCi", 0x482030, 32, 0x80, 3, 0x4, 0xFFFFFFFF, 0x0, 0xFFFFFFFF, 0x0, 0x0⟩
  , ⟨"VIEW: FSC", 0x48203C, 32, 0x80, 1, 0x0, 0xFF, 0x0, 0xFF, 0x0, 0x0⟩
  , ⟨"VIEW: M", 0x482040, 32, 0x80, 4, 0x4, 0xFFFFFFFF, 0x0, 0xFFFFFFFF, 0x0, 0x0⟩
  , ⟨"VIEW: M22", 0x482050, 32, 0x80, 1, 0x0, 0xFFFF, 0x0, 0xFFFF, 0x0, 0x0⟩
  , ⟨"VIEW: OFF0 OFF1", 0x482054, 32, 0x80, 1, 0x0, 0xFFFFFFFF, 0x0, 0xFFFFFFFF, 0x0, 0x0⟩
  , ⟨"VIEW: OFF2", 0x482058, 32, 0x80, 1, 0x0, 0xFFFF, 0x0, 0xFFFF, 0x0, 0x0⟩
  , ⟨"VIEW: FILL0 FILL1", 0x48205C, 32, 0x80, 1, 0x0, 0xFFFFFFFF, 0x0, 0xFFFFFFFF, 0x0, 0x0⟩
  , ⟨"VIEW: FILL2", 0x482060, 32, 0x80, 1, 0x0, 0xFFFF, 0x0, 0xFFFF, 0x0, 0x0⟩
  , ⟨"VIEW: KEY", 0x482064, 32, 0x80, 1, 0x0, 0xFFFFFFFF, 0x0, 0xFFFFFFFF, 0x0, 0x0⟩
  , ⟨"VIEW: SEED", 0x482068, 32, 0x80, 1, 0x0, 0xFFFFFFFF, 0x0, 0xFFFFFFFF, 0x0, 0x0⟩
  , ⟨"VIEW: STRIPES", 0x48206C, 32, 0x80, 1, 0x0, 0x0, 0x0, 0xFFFF0000, 0x0, 0x0⟩
  , ⟨"VIEW: LASTFR", 0x482070, 32, 0x80, 1, 0x0, 0x0, 0x0, 0xFFFFFFFF, 0x0, 0x0⟩
  , ⟨"LIDS: EN RBYTES NCH NBLK G", 0x484000, 32, 0x80, 1, 0x0, 0xFFFF0000, 0x0, 0xFFFF0000, 0x0, 0x0⟩
  , ⟨"LIDS: BSTR BOFF", 0x484004, 32, 0x80, 1, 0x0, 0xFFFFFFFF, 0x0, 0xFFFFFFFF, 0x0, 0x0⟩
  , ⟨"LIDS: ROFF AZOFF", 0x484008, 32, 0x80, 1, 0x0, 0xFFFFFFFF, 0x0, 0xFFFFFFFF, 0x0, 0x0⟩
  , ⟨"LIDS: RSTR IOFF AZB", 0x48400C, 32, 0x80, 1, 0x0, 0xFFFFFFFF, 0x0, 0xFFFFFFFF, 0x0, 0xFF0000⟩
  , ⟨"LIDS: SEC", 0x484010, 32, 0x80, 1, 0x0, 0xFFFF, 0x0, 0xFFFF, 0x0, 0x0⟩
  , ⟨"LIDS: RESC RESCI", 0x484014, 32, 0x80, 2, 0x4, 0xFFFFFFFF, 0x0, 0xFFFFFFFF, 0x0, 0x0⟩
  , ⟨"LIDS: OCTX", 0x48401C, 32, 0x80, 1, 0x0, 0xFF000000, 0x0, 0xFF000000, 0x0, 0x0⟩
  , ⟨"LIDS: OB_LO", 0x484020, 32, 0x80, 1, 0x0, 0xFFFFFFE0, 0x0, 0xFFFFFFE0, 0x0, 0x0⟩
  , ⟨"LIDS: OB_HI", 0x484024, 32, 0x80, 1, 0x0, 0x1FFFF, 0x0, 0x1FFFF, 0x0, 0x0⟩ ]

/-- Registers at BAR0 0x48_0000. -/
def regRows48b : List RegRow :=
  [ ⟨"LIDS: SB_LO", 0x484028, 32, 0x80, 1, 0x0, 0xFFFFFFE0, 0x0, 0xFFFFFFE0, 0x0, 0x0⟩
  , ⟨"LIDS: SB_HI", 0x48402C, 32, 0x80, 1, 0x0, 0x1FFFF, 0x0, 0x1FFFF, 0x0, 0x0⟩
  , ⟨"LIDS: TB_LO", 0x484030, 32, 0x80, 1, 0x0, 0xFFFFFFC0, 0x0, 0xFFFFFFC0, 0x0, 0x0⟩
  , ⟨"LIDS: TB_HI", 0x484034, 32, 0x80, 1, 0x0, 0x1FFFF, 0x0, 0x1FFFF, 0x0, 0x0⟩
  , ⟨"LIDS: NSLOT", 0x484038, 32, 0x80, 1, 0x0, 0x3FF, 0x0, 0x3FF, 0x0, 0x0⟩
  , ⟨"LIDS: KEY SEED", 0x48403C, 32, 0x80, 2, 0x4, 0xFFFFFFFF, 0x0, 0xFFFFFFFF, 0x0, 0x0⟩
  , ⟨"LIDS: SECTORS FMTERR", 0x484044, 32, 0x80, 1, 0x0, 0x0, 0x0, 0xFFFFFFFF, 0x0, 0x0⟩ ]

/-- Registers at BAR0 0x4C_0000. -/
def regRows4C : List RegRow :=
  [ ⟨"DC: SYNC SEQERR FMTERR CRCERR", 0x4C0000, 1, 0x0, 1, 0x0, 0x0, 0x7, 0xF, 0x0, 0x0⟩
  , ⟨"DC: DC_RESYNC", 0x4C0004, 1, 0x0, 1, 0x0, 0x0, 0x0, 0x0, 0x0, 0x0⟩
  , ⟨"DC: SKIPPED", 0x4C0008, 1, 0x0, 1, 0x0, 0x0, 0x0, 0xFFFFFFFF, 0x0, 0x0⟩
  , ⟨"DC: LASTBAD", 0x4C000C, 1, 0x0, 1, 0x0, 0x0, 0x0, 0xFFFFFFFF, 0x0, 0x0⟩
  , ⟨"DC: EXP_LO", 0x4C0010, 1, 0x0, 1, 0x0, 0x0, 0x0, 0xFFFFFFFF, 0x0, 0x0⟩
  , ⟨"DC: EXP_HI", 0x4C0014, 1, 0x0, 1, 0x0, 0x0, 0x0, 0xFFFFFFFF, 0x0, 0x0⟩ ]

/-- Registers at BAR0 0x4D_0000. -/
def regRows4D : List RegRow :=
  [ ⟨"TB: DOM REFSRC", 0x4D0000, 1, 0x0, 1, 0x0, 0xFF000F, 0x0, 0xFF000F, 0x0, 0x0⟩
  , ⟨"TB: CFGERR INCREJ RATEREJ VALID STATE", 0x4D0004, 1, 0x0, 1, 0x0, 0x0, 0xE0, 0xE7, 0x0, 0x0⟩
  , ⟨"TB: TB_SEC_LO", 0x4D0008, 1, 0x0, 1, 0x0, 0x0, 0x0, 0xFFFFFFFF, 0x0, 0x0⟩
  , ⟨"TB: TB_SEC_HI", 0x4D000C, 1, 0x0, 1, 0x0, 0x0, 0x0, 0xFFFFFFFF, 0x0, 0x0⟩
  , ⟨"TB: TB_NS", 0x4D0010, 1, 0x0, 1, 0x0, 0x0, 0x0, 0x3FFFFFFF, 0x0, 0x0⟩
  , ⟨"TB: TB_FRAC", 0x4D0014, 1, 0x0, 1, 0x0, 0x0, 0x0, 0xFFFF, 0x0, 0x0⟩
  , ⟨"TB: TB_INC_LO", 0x4D0018, 1, 0x0, 1, 0x0, 0xFFFFFFFF, 0x0, 0xFFFFFFFF, 0x0, 0x0⟩
  , ⟨"TB: TB_INC_HI", 0x4D001C, 1, 0x0, 1, 0x0, 0xFFFFFFFF, 0x0, 0xFFFFFFFF, 0x0, 0x2⟩
  , ⟨"TB: TS_SEC_LO", 0x4D0020, 1, 0x0, 1, 0x0, 0xFFFFFFFF, 0x0, 0xFFFFFFFF, 0x0, 0x0⟩
  , ⟨"TB: TS_SEC_HI", 0x4D0024, 1, 0x0, 1, 0x0, 0xFFFFFFFF, 0x0, 0xFFFFFFFF, 0x0, 0x0⟩
  , ⟨"TB: TS_NS", 0x4D0028, 1, 0x0, 1, 0x0, 0xFFFFFFFF, 0x0, 0xFFFFFFFF, 0x0, 0x0⟩
  , ⟨"TB: TS_FRAC", 0x4D002C, 1, 0x0, 1, 0x0, 0xFFFF, 0x0, 0xFFFF, 0x0, 0x0⟩
  , ⟨"TB: ADJ SET", 0x4D0030, 1, 0x0, 1, 0x0, 0x0, 0x0, 0x0, 0x0, 0x0⟩
  , ⟨"TB: PPSTO PPSFLT", 0x4D0040, 1, 0x0, 1, 0x0, 0xFFFFFFFF, 0x0, 0xFFFFFFFF, 0x0, 0x96000A⟩
  , ⟨"TB: NOK SYNCTO", 0x4D0044, 1, 0x0, 1, 0x0, 0xFFFFFF, 0x0, 0xFFFFFF, 0x0, 0x3012C⟩
  , ⟨"TB: OUTEN PPSOW", 0x4D0048, 1, 0x0, 1, 0x0, 0x8000FFFF, 0x0, 0x8000FFFF, 0x0, 0x64⟩
  , ⟨"TB: PPS_SLO", 0x4D0050, 1, 0x0, 1, 0x0, 0x0, 0x0, 0xFFFFFFFF, 0x0, 0x0⟩
  , ⟨"TB: PPS_NS", 0x4D0054, 1, 0x0, 1, 0x0, 0x0, 0x0, 0xFFFFFFFF, 0x0, 0x0⟩
  , ⟨"TB: RATECNT GLITCH", 0x4D0058, 1, 0x0, 1, 0x0, 0x0, 0x0, 0xFFFFFFFF, 0x0, 0x0⟩
  , ⟨"TB: RAWPER", 0x4D005C, 1, 0x0, 1, 0x0, 0x0, 0x0, 0xFFFFFFFF, 0x0, 0x0⟩
  , ⟨"TB: TB_CNTCLR", 0x4D0060, 1, 0x0, 1, 0x0, 0x0, 0x0, 0x0, 0x0, 0x0⟩
  , ⟨"LQ: BUF", 0x4D0100, 5, 0x40, 1, 0x0, 0x1FFFFF8, 0x0, 0x1FFFFF8, 0x0, 0x0⟩
  , ⟨"LQ: TAG LEN", 0x4D0104, 5, 0x40, 1, 0x0, 0xFFFF3FFF, 0x0, 0xFFFF3FFF, 0x0, 0x0⟩
  , ⟨"LQ: TSEC", 0x4D0108, 5, 0x40, 1, 0x0, 0xFFFFFFFF, 0x0, 0xFFFFFFFF, 0x0, 0x0⟩
  , ⟨"LQ: IMM TNS", 0x4D010C, 5, 0x40, 1, 0x0, 0xBFFFFFFF, 0x0, 0xBFFFFFFF, 0x0, 0x0⟩
  , ⟨"LQ: GO", 0x4D0110, 5, 0x40, 1, 0x0, 0x0, 0x0, 0x0, 0x0, 0x0⟩
  , ⟨"LQ: LATE STOVF LQFULL DEPTH", 0x4D0114, 5, 0x40, 1, 0x0, 0x0, 0x80, 0xFFFFFF9F, 0x0, 0x0⟩
  , ⟨"LQ: STV STTAG", 0x4D0118, 5, 0x40, 1, 0x0, 0x0, 0x0, 0x8000FFFF, 0x0, 0x0⟩
  , ⟨"LQ: STSEC", 0x4D011C, 5, 0x40, 1, 0x0, 0x0, 0x0, 0xFFFFFFFF, 0x0, 0x0⟩
  , ⟨"LQ: STNS", 0x4D0120, 5, 0x40, 1, 0x0, 0x0, 0x0, 0xFFFFFFFF, 0x0, 0x0⟩
  , ⟨"LQ: TXLAT LQ_CNTCLR", 0x4D0124, 5, 0x40, 1, 0x0, 0x0, 0x0, 0xFFFF0000, 0xFFFF0000, 0x0⟩
  , ⟨"GA: EN KIND AFLAG ASTEP ATRIG EVT SLOT", 0x4D1000, 64, 0x20, 1, 0x0, 0xFFFFFFFF, 0x0, 0xFFFFFFFF, 0x0, 0x0⟩
  , ⟨"GA: P1 P0", 0x4D1004, 64, 0x20, 1, 0x0, 0xFFFFFFFF, 0x0, 0xFFFFFFFF, 0x0, 0x0⟩
  , ⟨"GA: PER", 0x4D1008, 64, 0x20, 1, 0x0, 0xFFFFFFFF, 0x0, 0xFFFFFFFF, 0x0, 0x0⟩
  , ⟨"GA: T0S_LO", 0x4D100C, 64, 0x20, 1, 0x0, 0xFFFFFFFF, 0x0, 0xFFFFFFFF, 0x0, 0x0⟩
  , ⟨"GA: T0_NS", 0x4D1010, 64, 0x20, 1, 0x0, 0x3FFFFFFF, 0x0, 0x3FFFFFFF, 0x0, 0x0⟩
  , ⟨"GA: T0S_HI", 0x4D1014, 64, 0x20, 1, 0x0, 0xFFFFFFFF, 0x0, 0xFFFFFFFF, 0x0, 0x0⟩
  , ⟨"GA: TPORT DLMAX", 0x4D1018, 64, 0x20, 1, 0x0, 0xF000FFFF, 0x0, 0xF000FFFF, 0x0, 0x0⟩
  , ⟨"GA: FIRES", 0x4D1800, 64, 0x10, 1, 0x0, 0x0, 0x0, 0xFFFFFFFF, 0x0, 0x0⟩
  , ⟨"GA: LATE MISS", 0x4D1804, 64, 0x10, 1, 0x0, 0x0, 0x0, 0xFFFFFFFF, 0x0, 0x0⟩ ]

/-- Registers at BAR0 0x4D_0000. -/
def regRows4Db : List RegRow :=
  [ ⟨"GA: PERIOD", 0x4D1808, 64, 0x10, 1, 0x0, 0x0, 0x0, 0xFFFFFFFF, 0x0, 0x0⟩
  , ⟨"GA: GA_CNTCLR", 0x4D180C, 64, 0x10, 1, 0x0, 0x0, 0x0, 0x0, 0x0, 0x0⟩ ]

/-- Registers at BAR0 0x4E_0000. -/
def regRows4E : List RegRow :=
  [ ⟨"VD: EXD EXDIM DIMZ DIMY DIMX PID", 0x4E0000, 1, 0x0, 1, 0x0, 0x1FFFF7FF, 0x0, 0x1FFFF7FF, 0x0, 0x4000000⟩
  , ⟨"VD: RTO", 0x4E0004, 1, 0x0, 1, 0x0, 0xFF, 0x0, 0xFF, 0x0, 0x64⟩
  , ⟨"VD: UNROUTE PROTO", 0x4E0008, 1, 0x0, 1, 0x0, 0x0, 0x0, 0xFFFFFFFF, 0x0, 0x0⟩
  , ⟨"VD: VD_CNTCLR", 0x4E000C, 1, 0x0, 1, 0x0, 0x0, 0x0, 0x0, 0x0, 0x0⟩
  , ⟨"VP: EN BYP ROLE SPFOR", 0x4E0100, 8, 0x40, 1, 0x0, 0xFE000000, 0x0, 0xFE000000, 0x0, 0x0⟩
  , ⟨"VP: STATE PPORT PPID", 0x4E0104, 8, 0x40, 1, 0x0, 0x0, 0x0, 0xFFFF8000, 0x0, 0x0⟩
  , ⟨"VP: LRETRY UNCORR", 0x4E0108, 8, 0x40, 1, 0x0, 0x0, 0x0, 0xFFFFFFFF, 0x0, 0x0⟩
  , ⟨"VP: RETRAINS FECCOR", 0x4E010C, 8, 0x40, 1, 0x0, 0x0, 0x0, 0xFFFFFFFF, 0x0, 0x0⟩
  , ⟨"VP: VP_CNTCLR", 0x4E0110, 8, 0x40, 1, 0x0, 0x0, 0x0, 0x0, 0x0, 0x0⟩
  , ⟨"JOB: CTX GEN JOBID", 0x4E1000, 16, 0x80, 1, 0x0, 0xFFFFFFFF, 0x0, 0xFFFFFFFF, 0x0, 0x0⟩
  , ⟨"JOB: CMODE ROUNDS EVT SLOT DPS NSTG MAXATT", 0x4E1004, 16, 0x80, 1, 0x0, 0xFFFFFFFF, 0x0, 0xFFFFFFFF, 0x0, 0x3⟩
  , ⟨"JOB: EBASE", 0x4E1008, 16, 0x80, 1, 0x0, 0xFFFFFFFF, 0x0, 0xFFFFFFFF, 0x0, 0x0⟩
  , ⟨"JOB: ETO CHKWIN", 0x4E100C, 16, 0x80, 1, 0x0, 0xFFFFFFFF, 0x0, 0xFFFFFFFF, 0x0, 0x1F40002⟩
  , ⟨"JOB: ABORT ARM", 0x4E1010, 16, 0x80, 1, 0x0, 0x0, 0x0, 0x0, 0x0, 0x0⟩
  , ⟨"JOB: ACAUSE AOUT STATE", 0x4E1014, 16, 0x80, 1, 0x0, 0x0, 0x0, 0xFFF00003, 0x0, 0x0⟩
  , ⟨"JOB: OLDEST", 0x4E1018, 16, 0x80, 1, 0x0, 0x0, 0x0, 0xFFFFFFFF, 0x0, 0x0⟩
  , ⟨"JOB: RETR STALE", 0x4E101C, 16, 0x80, 1, 0x0, 0x0, 0x0, 0xFFFFFFFF, 0x0, 0x0⟩
  , ⟨"JOB_PEER: V UP DN SCL PPID", 0x4E1040, 16, 0x80, 8, 0x4, 0xFF8007FF, 0x0, 0xFF8007FF, 0x0, 0x0⟩ ]

/-- Registers at BAR0 0x50_0000. -/
def regRows50 : List RegRow :=
  [ ⟨"FC: ACKDL IRQTH PINTH IRQEN", 0x500000, 1, 0x0, 1, 0x0, 0xFF0771, 0x0, 0xFF0771, 0x0, 0x140120⟩
  , ⟨"FC: NOPEN OVF PINLOW HALT READY", 0x500004, 1, 0x0, 1, 0x0, 0x0, 0x8, 0xFF00000F, 0x0, 0x4⟩
  , ⟨"FC: CHK IDX", 0x500008, 1, 0x0, 1, 0x0, 0x0, 0x0, 0x0, 0x0, 0x0⟩
  , ⟨"FC: STALE ACKERR", 0x50000C, 1, 0x0, 1, 0x0, 0x0, 0x0, 0xFFFFFFFF, 0x0, 0x0⟩
  , ⟨"FC: FC_LOGSEQ", 0x500010, 1, 0x0, 1, 0x0, 0x0, 0x0, 0xFFFFFFFF, 0x0, 0x0⟩
  , ⟨"FC: FC_LOGWR", 0x500014, 1, 0x0, 1, 0x0, 0x0, 0x0, 0x7FF, 0x0, 0x0⟩
  , ⟨"FC: OP UNIT", 0x500018, 1, 0x0, 1, 0x0, 0x0, 0x0, 0x0, 0x0, 0x0⟩
  , ⟨"FC: FENCE_LP FENCE_CAM FENCE_VD FENCE_DIE", 0x500028, 1, 0x0, 1, 0x0, 0x0, 0x0, 0xFFFFFFFF, 0x0, 0x0⟩
  , ⟨"FC: PERM", 0x500030, 1, 0x0, 3, 0x4, 0x0, 0x0, 0xFFFFFFFF, 0x0, 0x0⟩
  , ⟨"FC: TPEN TPETYPE", 0x500040, 1, 0x0, 1, 0x0, 0x8000FFFF, 0x0, 0x8000FFFF, 0x0, 0x88B5⟩
  , ⟨"FC: TPDMAC_LO", 0x500044, 1, 0x0, 1, 0x0, 0xFFFFFFFF, 0x0, 0xFFFFFFFF, 0x0, 0x0⟩
  , ⟨"FC: TPDROP TPDMAC_HI", 0x500048, 1, 0x0, 1, 0x0, 0xFFFF, 0x0, 0xFFFFFFFF, 0x0, 0x0⟩
  , ⟨"FC: FC_HOURS", 0x500050, 1, 0x0, 1, 0x0, 0x0, 0x0, 0xFFFFFFFF, 0x0, 0x0⟩
  , ⟨"FC_SEV: SEV", 0x502000, 16, 0x100, 64, 0x4, 0x7070707, 0x0, 0x7070707, 0x0, 0x0⟩ ]

/-- Registers at BAR0 0x51_0000. -/
def regRows51 : List RegRow :=
  [ ⟨"KS: CLRAL", 0x510000, 1, 0x0, 1, 0x0, 0x1, 0x0, 0x1, 0x0, 0x0⟩
  , ⟨"KS: CMDERR FBDOWN HOLDOVER MGTDEG PINB", 0x510004, 1, 0x0, 1, 0x0, 0x0, 0x100, 0x1FB, 0x0, 0x0⟩
  , ⟨"KS: KEY OP", 0x510008, 1, 0x0, 1, 0x0, 0x0, 0x0, 0x0, 0x0, 0x0⟩
  , ⟨"KS: SOURCE KIND PATH", 0x51000C, 1, 0x0, 1, 0x0, 0x0, 0x0, 0xFFFFF00F, 0x0, 0x0⟩
  , ⟨"KSO: EN DUP EARLY KIND SLOT CTX COVMAX", 0x510100, 32, 0x40, 1, 0x0, 0xFFFFFF00, 0x0, 0xFFFFFF00, 0x0, 0x0⟩
  , ⟨"KSO: ALC0 ANLC BLC0 BNLC", 0x510104, 32, 0x40, 1, 0x0, 0x3F3F3F3F, 0x0, 0x3F3F3F3F, 0x0, 0x0⟩
  , ⟨"KSO: AGELIM RELDL", 0x510108, 32, 0x40, 1, 0x0, 0xFFFFFFFF, 0x0, 0xFFFFFFFF, 0x0, 0x0⟩
  , ⟨"KSO: KCHK", 0x51010C, 32, 0x40, 1, 0x0, 0xFFFF, 0x0, 0xFFFF, 0x0, 0xA⟩
  , ⟨"KSO: RA RB", 0x510110, 32, 0x40, 2, 0x4, 0x7FFFFFFF, 0x0, 0x7FFFFFFF, 0x0, 0x0⟩
  , ⟨"KSO: RLEN", 0x510118, 32, 0x40, 1, 0x0, 0xFFFFFF, 0x0, 0xFFFFFF, 0x0, 0x0⟩
  , ⟨"KSO: SCOFF", 0x51011C, 32, 0x40, 1, 0x0, 0xFFFFFF, 0x0, 0xFFFFFF, 0x0, 0x0⟩
  , ⟨"KSO: STA STB", 0x510120, 32, 0x40, 2, 0x4, 0x7FFFFFFF, 0x0, 0x7FFFFFFF, 0x0, 0x0⟩
  , ⟨"KSO: COVADDR", 0x510128, 32, 0x40, 1, 0x0, 0x7FFFFFFF, 0x0, 0x7FFFFFFF, 0x0, 0x0⟩
  , ⟨"KSO: STATE PLERR CONSEC", 0x51012C, 32, 0x40, 1, 0x0, 0x0, 0x0, 0xE0FF0000, 0x0, 0x0⟩
  , ⟨"KSO: LASTFR", 0x510130, 32, 0x40, 1, 0x0, 0x0, 0x0, 0xFFFFFFFF, 0x0, 0x0⟩
  , ⟨"KSO: COVERS RELEASES", 0x510134, 32, 0x40, 1, 0x0, 0x0, 0x0, 0xFFFFFFFF, 0x0, 0x0⟩
  , ⟨"FB: EN GEN LSTR", 0x510A00, 1, 0x0, 1, 0x0, 0xFE7F0000, 0x0, 0xFE7F0000, 0x0, 0x0⟩
  , ⟨"FB: CV_0 CS_0 CV_1 CS_1 CV_2 CS_2 CV_3 CS_3", 0x510A04, 1, 0x0, 1, 0x0, 0xBFBFBFBF, 0x0, 0xBFBFBFBF, 0x0, 0x0⟩
  , ⟨"FB: RUNUS KATOK LOADED FBDOWN", 0x510A08, 1, 0x0, 1, 0x0, 0x0, 0x0, 0xFFFF0007, 0x0, 0x0⟩
  , ⟨"FB: FB_LAST", 0x510A0C, 1, 0x0, 1, 0x0, 0x0, 0x0, 0xFFFFFFFF, 0x0, 0x0⟩
  , ⟨"SS: SPITO SPISAFE", 0x510B00, 1, 0x0, 1, 0x0, 0xFF02, 0x0, 0xFF02, 0x0, 0x2⟩
  , ⟨"SS: GOOD LENERR", 0x510B04, 1, 0x0, 1, 0x0, 0x0, 0x0, 0xFFFFFFFF, 0x0, 0x0⟩
  , ⟨"SS: FRAMEERR CRCERR", 0x510B08, 1, 0x0, 1, 0x0, 0x0, 0x0, 0xFFFFFFFF, 0x0, 0x0⟩
  , ⟨"SS: ALIVE CMD", 0x510B0C, 1, 0x0, 1, 0x0, 0x0, 0x0, 0xFFFFFF00, 0x0, 0x0⟩
  , ⟨"SS: SS_CNTCLR", 0x510B10, 1, 0x0, 1, 0x0, 0x0, 0x0, 0x0, 0x0, 0x0⟩
  , ⟨"ST: EN LTMAX SLOTMS", 0x510C00, 1, 0x0, 1, 0x0, 0x80FF03FF, 0x0, 0x80FF03FF, 0x0, 0x805000FA⟩
  , ⟨"ST: PASSES RUN HALT NEXT", 0x510C04, 4, 0x4, 1, 0x0, 0x0, 0x0, 0xFFFF00FF, 0x0, 0x0⟩
  , ⟨"ST: AGE", 0x510C20, 64, 0x4, 1, 0x0, 0x0, 0x0, 0xFFFF, 0x0, 0x0⟩ ]

/-- Registers at BAR0 0x52_0000. -/
def regRows52 : List RegRow :=
  [ ⟨"RC: HOLDSTOP DUMPCL AUTORST", 0x520000, 1, 0x0, 1, 0x0, 0x7, 0x0, 0x7, 0x0, 0x0⟩
  , ⟨"RC: LASTRST DUMPS DUMPOVF BUSY", 0x520004, 1, 0x0, 1, 0x0, 0x0, 0x2, 0xFFFF0003, 0x0, 0x0⟩
  , ⟨"RC: KEY OP UNIT", 0x520008, 1, 0x0, 1, 0x0, 0x0, 0x0, 0x0, 0x0, 0x0⟩
  , ⟨"RC: NW WORD", 0x520010, 4, 0x4, 1, 0x0, 0xFFFFFFF, 0x0, 0xFFFFFFF, 0x0, 0x0⟩ ]

/-- Registers at BAR0 0x53_0000. -/
def regRows53 : List RegRow :=
  [ ⟨"MG: DROPS LCAUSE1 LCAUSE0 P1ST P0ST SHED", 0x530000, 1, 0x0, 1, 0x0, 0x0, 0x0, 0xFF03FF00, 0x0, 0x0⟩
  , ⟨"MG: MWDRST WDT", 0x530004, 1, 0x0, 1, 0x0, 0x807F, 0x0, 0x807F, 0x0, 0x800A⟩
  , ⟨"MG: SHEDHI SHEDLO TELPER", 0x530008, 1, 0x0, 1, 0x0, 0xFFFFFF, 0x0, 0xFFFFFF, 0x0, 0x5A4664⟩
  , ⟨"MG: MG_ETYPE", 0x53000C, 1, 0x0, 1, 0x0, 0xFFFF, 0x0, 0xFFFF, 0x0, 0x88B6⟩
  , ⟨"MG: FAILSTG FAILBANK RELOADS SVN", 0x530010, 1, 0x0, 1, 0x0, 0x0, 0x0, 0xF8FFFFFF, 0x0, 0x0⟩
  , ⟨"MG: MB_NONCE_i", 0x530100, 8, 0x4, 1, 0x0, 0xFFFFFFFF, 0x0, 0xFFFFFFFF, 0x0, 0x0⟩
  , ⟨"MG: ERR DONE GO", 0x530120, 1, 0x0, 1, 0x0, 0x0, 0x4, 0x6, 0x0, 0x0⟩
  , ⟨"MB_REPORT", 0x530200, 1, 0x0, 100, 0x4, 0x0, 0x0, 0xFFFFFFFF, 0x0, 0x0⟩
  , ⟨"MG: VMAX VMIN TOP", 0x530400, 4, 0x4, 1, 0x0, 0x0, 0x0, 0xFFFF03, 0xFFFF03, 0x0⟩
  , ⟨"MG: TJTHR TJSHUT PMAX GRADE", 0x530440, 1, 0x0, 1, 0x0, 0x0, 0x0, 0xFFFFFFF0, 0xFFF0, 0x78870000⟩
  , ⟨"MG: SVNFLOOR", 0x530444, 1, 0x0, 1, 0x0, 0x0, 0x0, 0xFFFF, 0xFFFF, 0x0⟩
  , ⟨"MG: CUR PEND REFUSED REQ", 0x530480, 4, 0x4, 1, 0x0, 0x3, 0x4, 0x3F, 0x0, 0x22⟩
  , ⟨"MG: KICK", 0x530500, 2, 0x4, 1, 0x0, 0x0, 0x0, 0x0, 0x0, 0x0⟩ ]

/-- Registers at BAR0 0x54_0000. -/
def regRows54 : List RegRow :=
  [ ⟨"PW: GATEDLY RGATE", 0x540000, 1, 0x0, 1, 0x0, 0xFF01, 0x0, 0xFF01, 0x0, 0xA00⟩
  , ⟨"PW: STBY", 0x540004, 1, 0x0, 1, 0x0, 0x1, 0x0, 0x1, 0x0, 0x0⟩
  , ⟨"PW: LIMIT MERR OV UV MSTATE", 0x540008, 1, 0x0, 1, 0x0, 0x0, 0x10, 0xFF00001F, 0x0, 0x5A000000⟩
  , ⟨"PW: VIN IIN", 0x54000C, 1, 0x0, 1, 0x0, 0x0, 0x0, 0xFFFFFFFF, 0x0, 0x0⟩
  , ⟨"PW: PMOD PCAM", 0x540010, 1, 0x0, 1, 0x0, 0x0, 0x0, 0xFFFFFFFF, 0x0, 0x0⟩
  , ⟨"PW: TJ S HOLD", 0x540020, 5, 0x4, 1, 0x0, 0x0, 0x0, 0xFF0FF000, 0x0, 0x0⟩
  , ⟨"CLK: O1OK O0OK ACT SEL", 0x541000, 1, 0x0, 1, 0x0, 0x1, 0x0, 0xF, 0x0, 0xC⟩
  , ⟨"CLK: DPPM", 0x541004, 1, 0x0, 1, 0x0, 0x0, 0x0, 0xFFFF, 0x0, 0x0⟩
  , ⟨"CLK: MON_LO", 0x541008, 1, 0x0, 1, 0x0, 0x0, 0x0, 0xFFFFFFFF, 0x0, 0x0⟩
  , ⟨"CLK: MON_HI", 0x54100C, 1, 0x0, 1, 0x0, 0x0, 0x0, 0xFF, 0x0, 0x0⟩ ]

/-- The tone tables of the views (R400): 257 entries of 16 bits for each plane. -/
def regRowsTone : List RegRow :=
  [ ⟨"VIEW_TONE0", 0x488000, 32, 0x1000, 128, 4, 0xFFFFFFFF, 0, 0xFFFFFFFF, 0, 0⟩
  , ⟨"VIEW_TONE0 last", 0x488200, 32, 0x1000, 1, 4, 0xFFFF, 0, 0xFFFF, 0, 0⟩
  , ⟨"VIEW_TONE1", 0x488400, 32, 0x1000, 128, 4, 0xFFFFFFFF, 0, 0xFFFFFFFF, 0, 0⟩
  , ⟨"VIEW_TONE1 last", 0x488600, 32, 0x1000, 1, 4, 0xFFFF, 0, 0xFFFF, 0, 0⟩
  , ⟨"VIEW_TONE2", 0x488800, 32, 0x1000, 128, 4, 0xFFFFFFFF, 0, 0xFFFFFFFF, 0, 0⟩
  , ⟨"VIEW_TONE2 last", 0x488A00, 32, 0x1000, 1, 4, 0xFFFF, 0, 0xFFFF, 0, 0⟩ ]

/-- Every row. -/
def regRows : List RegRow :=
  regRows10 ++ regRows14 ++ regRows15 ++ regRows20 ++ regRows30 ++ regRows40 ++ regRows41 ++ regRows42 ++ regRows43 ++ regRows44 ++ regRows48 ++ regRows48b ++ regRows4C ++ regRows4D ++ regRows4Db ++ regRows4E ++ regRows50 ++ regRows51 ++ regRows52 ++ regRows53 ++ regRows54 ++ regRowsTone

/-- KIND of each calendar position (Table 10.2): 1 REF, 2 TRR, 0 programmable. -/
def calKinds : List Nat :=
  [1, 0, 0, 0, 0, 0, 0, 0, 0, 0, 0, 1, 0, 0, 0, 0, 0, 0, 0, 0, 0, 1, 0, 0, 0, 0, 2, 0, 0, 0, 0, 0, 1, 0, 0, 0, 0, 0, 0, 0, 0, 0, 0, 1, 0, 0, 0, 0, 0, 0, 0, 0, 0, 1, 0, 0, 0, 0, 2, 0, 0, 0, 0, 0]

/-- CK_TIME ticks in 1 ms (R401: 500 MHz). -/
def ticksPerMs : Nat := 500000

/-- The hub sub-blocks that reset alone, and so have a generation (R513, Table 18.4). -/
def hubSubBlocks : List Nat := [0x402, 0x403, 0x404, 0xA01, 0xA02, 0xA03, 0xB01]

end Sys2Proof.Machine
end

