-- ==== Sys2Proof/Machine/Ops.lean ====
section
/-! DEFINITION. The named operations over tables, bits, set-up registers, memory, faults and clusters that every
meaning is written with. -/

namespace Sys2Proof.Machine

/-! ### Tables and bits -/

/-- The first entry of a row list at index `k`. -/
def lookup {α : Type} : List (Nat × α) → Nat → Option α
  | [], _ => none
  | (a, v) :: r, k => if a = k then some v else lookup r k

/-- A row list with index `k` set to `v`, indexes kept rising. -/
def insertAt {α : Type} : List (Nat × α) → Nat → α → List (Nat × α)
  | [], k, v => [(k, v)]
  | (a, w) :: r, k, v =>
    if k < a then (k, v) :: (a, w) :: r
    else if a = k then (k, v) :: r
    else (a, w) :: insertAt r k v

/-- The entry of a table, or the default. -/
def Table.get {α : Type} (t : Table α) (k : Nat) (d : α) : α := (lookup t.rows k).getD d

/-- Is an index listed? -/
def Table.has {α : Type} (t : Table α) (k : Nat) : Bool := (lookup t.rows k).isSome

/-- The table with one entry written. -/
def Table.set {α : Type} (t : Table α) (k : Nat) (v : α) : Table α := ⟨insertAt t.rows k v⟩

/-- The table with one entry taken out. -/
def Table.erase {α : Type} (t : Table α) (k : Nat) : Table α := ⟨t.rows.filter (fun e => e.1 ≠ k)⟩

/-- The empty table. -/
def Table.empty {α : Type} : Table α := ⟨[]⟩

/-- The field [hi:lo] of a word (R8). -/
def bitsOf (w hi lo : Nat) : Nat := w / 2 ^ lo % 2 ^ (hi + 1 - lo)

/-- The word with the field [hi:lo] replaced. -/
def putBits (w hi lo v : Nat) : Nat :=
  w - bitsOf w hi lo * 2 ^ lo + v % 2 ^ (hi + 1 - lo) * 2 ^ lo

/-- One bit of a word. -/
def bitOf (w i : Nat) : Bool := w / 2 ^ i % 2 = 1

/-- Two's complement reading of the low `n` bits. -/
def signed (n w : Nat) : Int :=
  let v := w % 2 ^ n
  if v < 2 ^ (n - 1) then (v : Int) else (v : Int) - (2 : Int) ^ n

/-- The low `n` bits of an integer, as a natural number. -/
def unsigned (n : Nat) (x : Int) : Nat := (x % (2 : Int) ^ n).toNat

/-- Little-endian bytes of a number (R9). -/
def leBytes : Nat → Nat → List Byte
  | 0, _ => []
  | n + 1, v => BitVec.ofNat 8 v :: leBytes n (v / 256)

/-- The number that little-endian bytes hold (R9). -/
def leNat : List Byte → Nat
  | [] => 0
  | b :: r => b.toNat + 256 * leNat r

/-- The field of `n` bytes at byte `off` of a record. -/
def fieldAt (bs : List Byte) (off n : Nat) : Nat := leNat ((bs.drop off).take n)

/-- The numbers 0 ... n - 1. -/
def upTo (n : Nat) : List Nat := List.range n

/-- The smallest whole number at or above a quotient. -/
def ceilDiv (a b : Nat) : Nat := (a + b - 1) / b

/-- A list with its element at `i` replaced. -/
def setAt {α : Type} (l : List α) (i : Nat) (v : α) : List α := l.set i v

/-- Addition that saturates at the largest value of an `n`-bit counter. -/
def satAdd (n v k : Nat) : Nat := min (v + k) (2 ^ n - 1)

/-! ### Set-up registers (BAR0, R578 to R590) -/

/-- Bases of the blocks (Table 21.4). -/
def regCl (c o : Nat) : Nat := 0x100000 + 0x1000 * c + o
def regRg (r o : Nat) : Nat := 0x140000 + 0x1000 * r + o
def regEe (d o : Nat) : Nat := 0x150000 + 0x1000 * d + o
def regCtx (c o : Nat) : Nat := 0x200000 + 0x1000 * c + o
def regDb (c o : Nat) : Nat := 0x300000 + 0x1000 * c + o
def regKv (o : Nat) : Nat := 0x400000 + o
def regBat (b o : Nat) : Nat := 0x401000 + 0x20 * b + o
def regDt (o : Nat) : Nat := 0x402000 + o
def regHb (o : Nat) : Nat := 0x410000 + o
def regHbs (s o : Nat) : Nat := 0x411000 + 0x2000 * s + o
def regAp (n o : Nat) : Nat := 0x420000 + 0x1000 * n + o
def regLp (p o : Nat) : Nat := 0x430000 + 0x1000 * p + o
def regTw (o : Nat) : Nat := 0x434000 + o
def regWr (o : Nat) : Nat := 0x440000 + o
def regIp (o : Nat) : Nat := 0x480000 + o
def regDc (o : Nat) : Nat := 0x4C0000 + o
def regTb (o : Nat) : Nat := 0x4D0000 + o
def regGa (o : Nat) : Nat := 0x4D1000 + o
def regVd (o : Nat) : Nat := 0x4E0000 + o
def regFc (o : Nat) : Nat := 0x500000 + o
def regKs (o : Nat) : Nat := 0x510000 + o
def regRc (o : Nat) : Nat := 0x520000 + o
def regMg (o : Nat) : Nat := 0x530000 + o
def regPw (o : Nat) : Nat := 0x540000 + o
def regClk (o : Nat) : Nat := 0x541000 + o

/-- Does a row of the register map hold the register at an offset? -/
def RegRow.covers (r : RegRow) (off : Nat) : Bool :=
  if off < r.base then false
  else
    let d := off - r.base
    let i := if r.s1 = 0 then 0 else min (d / r.s1) (r.n1 - 1)
    let e := d - i * r.s1
    let j := if r.s2 = 0 then 0 else min (e / r.s2) (r.n2 - 1)
    decide (e = j * r.s2)

/-- The row of the register map that holds the register at an offset. -/
def regRow (off : Nat) : Option RegRow := regRows.find? (fun r => r.covers off)

/-- The default severity of a kind (Table 16.3); reserved codes count 4 (R458). -/
def kindDefault (k : Nat) : Nat :=
  if k = 0 then 0
  else if k ≤ 0x0F then 3
  else if k = 0x10 then 2 else if k = 0x11 then 3 else if k = 0x12 then 2 else if k = 0x13 then 0
  else if 0x20 ≤ k ∧ k ≤ 0x2A then ([1, 2, 0, 1, 3, 3, 3, 3, 0, 3, 3] : List Nat).getD (k - 0x20) 4
  else if 0x30 ≤ k ∧ k ≤ 0x33 then ([0, 0, 1, 0] : List Nat).getD (k - 0x30) 4
  else if 0x38 ≤ k ∧ k ≤ 0x43 then ([1, 1, 0, 1, 0, 3, 1, 3, 0, 5, 0, 5] : List Nat).getD (k - 0x38) 4
  else if 0x48 ≤ k ∧ k ≤ 0x4B then ([3, 0, 0, 0] : List Nat).getD (k - 0x48) 4
  else if 0x50 ≤ k ∧ k ≤ 0x59 then ([0, 0, 1, 0, 0, 0, 1, 1, 0, 0] : List Nat).getD (k - 0x50) 4
  else if 0x60 ≤ k ∧ k ≤ 0x66 then ([1, 1, 1, 0, 0, 0, 0] : List Nat).getD (k - 0x60) 4
  else if 0x68 ≤ k ∧ k ≤ 0x70 then ([1, 0, 0, 1, 0, 0, 0, 1, 0] : List Nat).getD (k - 0x68) 4
  else if 0x78 ≤ k ∧ k ≤ 0x86 then ([0, 1, 2, 0, 0, 0, 0, 1, 3, 3, 3, 3, 3, 3, 0] : List Nat).getD (k - 0x78) 4
  else if 0xA0 ≤ k ∧ k ≤ 0xAA then ([4, 4, 2, 2, 2, 4, 1, 4, 0, 1, 5] : List Nat).getD (k - 0xA0) 4
  else if 0xB0 ≤ k ∧ k ≤ 0xB5 then ([4, 0, 1, 4, 1, 0] : List Nat).getD (k - 0xB0) 4
  else if 0xB8 ≤ k ∧ k ≤ 0xC1 then ([2, 1, 4, 4, 5, 2, 1, 5, 5, 0] : List Nat).getD (k - 0xB8) 4
  else if 0xF0 ≤ k ∧ k ≤ 0xF2 then ([4, 4, 0] : List Nat).getD (k - 0xF0) 4
  else 4

/-- Is a kind a level kind (L of Table 16.3)? -/
def kindLevel (k : Nat) : Bool :=
  ([0x42, 0x43, 0x4A, 0x50, 0x52, 0x55, 0x68, 0x7A, 0xB8, 0xBA, 0xBB, 0xBE, 0xBF] : List Nat).contains k

/-- KIND of a calendar position (Table 10.2): 1 at a REF turn, 2 at a TRR turn, 0 elsewhere. -/
def calKind (t : Nat) : Nat := calKinds.getD t 0

/-- The reset value of the register at an offset: the map's, with the factory bits, and two computed ranges: the
severity table (R461) and the calendar (Table 10.7). -/
def regReset (off : Nat) : Word32 :=
  if 0x502000 ≤ off ∧ off < 0x503000 then
    let q := off % 0x100 / 4 * 4
    BitVec.ofNat 32 (kindDefault q + 0x100 * kindDefault (q + 1) + 0x10000 * kindDefault (q + 2)
      + 0x1000000 * kindDefault (q + 3))
  else if 0x410100 ≤ off ∧ off < 0x410200 then
    BitVec.ofNat 32 (7 + 16 * calKind ((off - 0x410100) / 4))
  else
    match regRow off with
    | none => 0
    | some r =>
      if r.fac = 0 then BitVec.ofNat 32 r.reset
      else BitVec.ofNat 32 r.reset ||| (Config.factoryReg off &&& BitVec.ofNat 32 r.fac)

/-- The value a register holds. -/
def State.reg (s : State) (off : Nat) : Word32 := s.regs.get off (regReset off)

/-- The state with one register written. -/
def State.setReg (s : State) (off : Nat) (v : Word32) : State := { s with regs := s.regs.set off v }

/-- The field [hi:lo] of a register. -/
def State.fld (s : State) (off hi lo : Nat) : Nat := bitsOf (s.reg off).toNat hi lo

/-- The state with one field of a register written. -/
def State.setFld (s : State) (off hi lo v : Nat) : State :=
  s.setReg off (BitVec.ofNat 32 (putBits (s.reg off).toNat hi lo v))

/-- The state with bits of a register set. -/
def State.orReg (s : State) (off : Nat) (m : Nat) : State := s.setReg off (s.reg off ||| BitVec.ofNat 32 m)

/-- The state with bits of a register cleared. -/
def State.clrReg (s : State) (off : Nat) (m : Nat) : State := s.setReg off (s.reg off &&& ~~~ BitVec.ofNat 32 m)

/-- A saturating counter field raised by `k`. -/
def State.bump (s : State) (off hi lo k : Nat) : State :=
  s.setFld off hi lo (satAdd (hi + 1 - lo) (s.fld off hi lo) k)

/-- A counter field raised by one, modulo its width. -/
def State.count (s : State) (off hi lo : Nat) : State := s.setFld off hi lo (s.fld off hi lo + 1)

/-! ### Free values -/

/-- The next free value below `n` (log entry 4). -/
def State.free (s : State) (n : Nat) : Nat × State :=
  (Config.freeValue s.freeCount % n, { s with freeCount := s.freeCount + 1 })

/-! ### Faults on their way (R456 to R460) -/

/-- The present generation of a source (R460, R514): of the units that have one; 0 otherwise. -/
def State.genOf (s : State) (src : Nat) : Nat :=
  if src < 64 then s.fld (regCl src 0x0C) 7 0
  else if (0x100 ≤ src ∧ src < 0x110) ∨ (0x200 ≤ src ∧ src < 0x240) ∨ hubSubBlocks.contains src then
    (s.gens.get (if 0x200 ≤ src ∧ src < 0x240 then 0x200 + (src - 0x200) / 16 * 16 else src) 1).toNat
  else 0

/-- A fault message (Table 16.1). -/
def mkMsg (src kind addr gen seq : Nat) (c : Bool) : Word64 :=
  BitVec.ofNat 64 (src % 4096 * 2 ^ 52 + kind % 256 * 2 ^ 44 + addr % 2 ^ 32 * 2 ^ 12 + gen % 256 * 16
    + seq % 8 * 2 + (if c then 1 else 0))

/-- Send a fault message with its attributed contexts: it goes on the fault network with the next SEQ of its
source (R456, R460). The collector's command FAULT_MESSAGE takes it from there. -/
def State.send (s : State) (src kind addr : Nat) (c : Bool) (ctxs : List Nat) : State :=
  let q := s.srcSeq.get src 0
  { s with
    net := s.net ++ [⟨mkMsg src kind addr (s.genOf src) q.toNat c, ctxs, 0⟩],
    srcSeq := s.srcSeq.set src (q + 1) }

/-- Send an event message with a severity that its rule names (R316). -/
def State.sendSev (s : State) (src kind addr sev : Nat) : State :=
  let q := s.srcSeq.get src 0
  { s with
    net := s.net ++ [⟨mkMsg src kind addr (s.genOf src) q.toNat true, [], sev⟩],
    srcSeq := s.srcSeq.set src (q + 1) }

/-- An event message (C = 1) without contexts. -/
def State.sendEv (s : State) (src kind addr : Nat) : State := s.send src kind addr true []

/-! ### Memory (R245 to R252) -/

/-- The model's key of a byte: space x 2^49 + offset (Table 8.5). Keys of space 16 are the program stores
(R215): 128 KiB for each cluster. -/
def memKey (space off : Nat) : Nat := space * 2 ^ 49 + off % 2 ^ 49

/-- The key of byte `b` of a cluster's memory, wrapping at 4 MiB (R231). -/
def clKey (c b : Nat) : Nat := memKey 1 (c * 2 ^ 22 + b % 2 ^ 22)

/-- The key of byte `b` of a cluster's program store. -/
def psKey (c b : Nat) : Nat := memKey 16 (c * 2 ^ 17 + b % 2 ^ 17)

/-- What a byte that is not listed reads as (log entry 2). -/
def memDefault : Byte := 0

/-- The byte of a memory at a key. -/
def memRead (m : List Host.Cell) (a : Nat) : Byte := (lookup m a).getD memDefault

/-- The memory with one byte written; the list keeps its canonical form. -/
def memWrite (m : List Host.Cell) (a : Nat) (b : Byte) : List Host.Cell :=
  if b = memDefault then m.filter (fun e => e.1 ≠ a) else insertAt m a b

/-- Addresses strictly rising. -/
def rising {α : Type} : List (Nat × α) → Bool
  | [] => true
  | [_] => true
  | (a, _) :: (b, w) :: r => decide (a < b) && rising ((b, w) :: r)

/-- The canonical form of a memory: addresses strictly rising, no entry equal to what an unlisted byte reads as. -/
def Memory.wf (m : List Host.Cell) : Bool := rising m && m.all (fun e => e.2 ≠ memDefault)

/-- The canonical form of the marks: granules strictly rising, none of them clean. -/
def Marks.wf (t : Table Gran) : Bool := rising t.rows && t.rows.all (fun e => e.2 ≠ .clean)

/-- One byte of the module's memories. -/
def State.byte (s : State) (a : Nat) : Byte := memRead s.mem a

/-- The state with one byte written. -/
def State.setByte (s : State) (a : Nat) (b : Byte) : State := { s with mem := memWrite s.mem a b }

/-- `n` bytes from a key on. -/
def State.bytes (s : State) (a n : Nat) : List Byte := (upTo n).map (fun i => s.byte (a + i))

/-- The memory with bytes written from a key on. -/
def memWrites : List Host.Cell → Nat → List Byte → List Host.Cell
  | m, _, [] => m
  | m, a, b :: r => memWrites (memWrite m a b) (a + 1) r

/-- The state with bytes written from a key on, clean (a hub block's own plain writes). -/
def State.setBytes (s : State) (a : Nat) (bs : List Byte) : State := { s with mem := memWrites s.mem a bs }

/-- What the granule that holds a key is (Table 8.1). -/
def State.gran (s : State) (a : Nat) : Gran := s.marks.get (a / 8) .clean

/-- The marks with a granule's state set; a clean granule is not listed. -/
def setMark (t : Table Gran) (g : Nat) (v : Gran) : Table Gran :=
  if v = .clean then t.erase g else t.set g v

/-- Is a granule in this state delivered as poisoned (Table 8.1)? -/
def Gran.isPoison : Gran → Bool
  | .freshUE => true
  | .poisoned => true
  | _ => false

/-- Is the byte at a key delivered as poisoned? -/
def State.poisonAt (s : State) (a : Nat) : Bool := (s.gran a).isPoison

/-- Bytes from a key on, each with its poison. -/
def State.bytesP (s : State) (a n : Nat) : List (Byte × Bool) :=
  (upTo n).map (fun i => (s.byte (a + i), s.poisonAt (a + i)))

/-! ### Clusters -/

/-- A cluster of the state. -/
def State.cl (s : State) (c : Nat) : Cluster := s.clusters.get c Cluster.reset

/-- The state with a cluster replaced. -/
def State.setCl (s : State) (c : Nat) (k : Cluster) : State := { s with clusters := s.clusters.set c k }

/-- The state with a cluster's sequencer changed. -/
def State.updSeq (s : State) (c : Nat) (f : Seq → Seq) : State :=
  let k := s.cl c
  s.setCl c { k with seq := f k.seq }

/-- The physical cluster that carries a home cluster's work (R36). -/
def State.hostOf (s : State) (h : Nat) : Option Nat := s.hostMap.get h (some h)

/-- The home clusters that a physical cluster carries. -/
def State.homesOf (s : State) (c : Nat) : List Nat :=
  (upTo 64).filter (fun h => s.hostOf h = some c)

/-- Does CTX_CLMASK of a context name a home cluster (Table 11.5)? -/
def State.clMask (s : State) (ctx h : Nat) : Bool :=
  if h < 32 then bitOf (s.reg (regCtx ctx 0x30)).toNat h else bitOf (s.reg (regCtx ctx 0x34)).toNat (h - 32)

/-- The contexts attributed to an event of a physical cluster (Table 16.6). -/
def State.ctxsOfCluster (s : State) (c : Nat) : List Nat :=
  let hs := (s.homesOf c).filter (fun h => ¬ s.relief.contains h)
  (upTo 256).filter (fun x => hs.any (fun h => s.clMask x h))

/-- The die of a cluster, and its region (R33). -/
def dieOf (c : Nat) : Nat := c / 16
def regionOf (c : Nat) : Nat := c / 4

/-- The state with a cluster changed. -/
def State.updCl (s : State) (c : Nat) (f : Cluster → Cluster) : State := s.setCl c (f (s.cl c))

/-- Stop a cluster (R222): STATE stopped, no further bundle, CL_STOPINFO records the first fault, and one fault
message goes out with `addr`, or CL_STOPINFO[23:0] where none is given (Table 16.4). A cluster that is stopped
already records nothing more. `place` is PC x 8 + slot of the operation at fault. -/
def State.stopAs (s : State) (c kind place : Nat) (exec : Bool) (bank : Nat) (addr : Option Nat) : State :=
  if (s.cl c).seq.st = .stopped then s
  else
    let info := place % 8 * 2 ^ 21 + (if exec then 2 ^ 20 else 0) + place / 8 % 4096 * 256 + bank
    let s := s.updSeq c (fun q => { q with st := .stopped, wait := .none, isOpen := false })
    let s := s.setReg (regCl c 4) (BitVec.ofNat 32 (kind * 2 ^ 24 + info))
    s.send c kind (addr.getD info) true (s.ctxsOfCluster c)

/-- Stop a cluster for a fault found during execution. -/
def State.stopX (s : State) (c kind place : Nat) : State := s.stopAs c kind place true 0 none

/-- The place of slot 0 of the last issued bundle: where a fault that comes from outside the cluster is charged. -/
def Seq.place (q : Seq) : Nat := q.pcLast.toNat * 8

/-- Kinds of stop (Table 16.3). -/
def kBankConflict : Nat := 0x01
def kBankOwnership : Nat := 0x02
def kSlotConflict : Nat := 0x03
def kTileConflict : Nat := 0x04
def kSluiceConflict : Nat := 0x05
def kEddyConflict : Nat := 0x07
def kVectorConflict : Nat := 0x08
def kReductionConflict : Nat := 0x09
def kCopyConflict : Nat := 0x0A
def kStripeConflict : Nat := 0x0B
def kStripeRange : Nat := 0x0C
def kEdgeConflict : Nat := 0x0D
def kEdgeDescriptor : Nat := 0x0E
def kReserved : Nat := 0x0F

/-- Set bits of CL_NUMFLAG (Table 2.9). -/
def State.numFlag (s : State) (c : Nat) (bit : Nat) : State := s.orReg (regCl c 0x100) (2 ^ bit)

/-- Set a flag where a condition holds. -/
def State.numFlagIf (s : State) (c bit : Nat) (p : Bool) : State := if p then s.numFlag c bit else s

/-! ### Cluster memory under Table 8.1 -/

/-- What an access finds in one granule (R249): message kind code and log type. -/
inductive Finding where
  | corrected | uncorrectable | merge | ueCleared | poisonRead
  deriving DecidableEq, Repr

/-- The message kind of a finding (Table 8.2); a poison-mark read sends none. -/
def Finding.kind : Finding → Option Nat
  | .corrected => some 0x20
  | .uncorrectable => some 0x21
  | .merge => some 0x23
  | .ueCleared => some 0x22
  | .poisonRead => none

/-- TYPE of CL_MEMLOG (Table 8.4). -/
def Finding.logType : Finding → Nat
  | .corrected => 0
  | .uncorrectable => 1
  | .merge => 2
  | .ueCleared => 3
  | .poisonRead => 4

/-- Default severity of a finding's kind, for the log's choice (R249); a poison-mark read counts below all. -/
def Finding.rank : Finding → Nat
  | .uncorrectable => 3
  | .corrected => 2
  | .merge => 2
  | .ueCleared => 1
  | .poisonRead => 0

/-- What reading a granule finds. -/
def readFinding : Gran → Option Finding
  | .clean => none
  | .correctable => some .corrected
  | .freshUE => some .uncorrectable
  | .poisoned => some .poisonRead

/-- The findings of a read of the word at key `w`: the granules in error. -/
def State.readFinds (s : State) (w : Nat) : List (Nat × Finding × Gran) :=
  (upTo 4).filterMap (fun j =>
    let g := s.gran (w + 8 * j)
    (readFinding g).map (fun f => (j, f, g)))

/-- The lowest granule of a finding in a list. -/
def lowestOf (l : List (Nat × Finding × Gran)) (f : Finding) : Option Nat :=
  (l.find? (fun e => e.2.1 = f)).map (fun e => e.1)

/-- The finding that CL_MEMLOG takes: the highest rank, then the lowest granule (R249). -/
def logPick (l : List (Nat × Finding × Gran)) : Option (Nat × Finding) :=
  l.foldl (fun b e =>
    match b with
    | none => some (e.1, e.2.1)
    | some p => if p.2.rank < e.2.1.rank then some (e.1, e.2.1) else some p) none

/-- Account for an access of word `w` of cluster `c` that found errors: CL_MEMCNT, CL_MEMLOG and the messages, one
for each kind in the order of its lowest granule; MEM-CORRECTED at most once per bank in 1 ms (R249). -/
def State.noteFinds (s : State) (c w : Nat) (l : List (Nat × Finding × Gran)) : State :=
  match logPick l with
  | none => s
  | some (j, f) =>
    let n := fun g => (l.filter (fun e => e.2.2 = g)).length
    let s := s.bump (regCl c 0x200) 15 0 (n .correctable)
    let s := s.bump (regCl c 0x200) 23 16 (n .freshUE)
    let s := s.bump (regCl c 0x200) 31 24 (n .poisoned)
    let s := s.setReg (regCl c 0x204)
      (BitVec.ofNat 32 (2 ^ 31 + f.logType * 2 ^ 28 + j * 2 ^ 17 + w))
    let ctxs := s.ctxsOfCluster c
    l.foldl (fun s e =>
      if lowestOf l e.2.1 = some e.1 then
        match e.2.1.kind with
        | none => s
        | some k =>
          let addr := e.1 * 2 ^ 17 + w
          if k = 0x20 then
            let b := w / 256 % 32
            let lim := (s.cl c).memLim.get b 0
            if s.ticks < lim then s
            else
              let kc := s.cl c
              (s.setCl c { kc with memLim := kc.memLim.set b (s.ticks + ticksPerMs) }).send c k addr true ctxs
          else s.send c k addr true ctxs
      else s) s

/-- Account for reads of words of a cluster's memory. -/
def State.noteReads (s : State) (c : Nat) (ws : List Nat) : State :=
  ws.foldl (fun s w => s.noteFinds c w (s.readFinds (clKey c (32 * w)))) s

/-- Word `w` of a cluster's memory, as a unit reads it. -/
def State.word (s : State) (c w : Nat) : MemWord :=
  let a := clKey c (32 * w)
  ⟨s.bytes a 32, (upTo 4).foldl (fun p j => if s.poisonAt (a + 8 * j) then p + 2 ^ j else p) 0⟩

/-- Is granule `j` of a read word poisoned? -/
def MemWord.bad (w : MemWord) (j : Nat) : Bool := bitOf w.poison j

/-- One byte of a read word. -/
def MemWord.byte (w : MemWord) (i : Nat) : Nat := (w.bytes.getD i 0).toNat

/-- Nibble `i` of a read word (R9: even nibble in bits 3:0). -/
def MemWord.nib (w : MemWord) (i : Nat) : Nat :=
  if i % 2 = 0 then w.byte (i / 2) % 16 else w.byte (i / 2) / 16

/-- Nibble `i` of a read word lies in a poisoned granule. -/
def MemWord.nibBad (w : MemWord) (i : Nat) : Bool := w.bad (i / 16)

/-- Byte `b` of a cluster's memory with its poison. -/
def State.clByte (s : State) (c b : Nat) : Nat × Bool :=
  ((s.byte (clKey c b)).toNat, s.poisonAt (clKey c b))

/-- The outcome of writing one granule (Table 8.1): new state and finding. `cov` is how many of its 16 nibbles the
write enables, `whole` whether the write enables the whole word, `carry` whether it carries poison. -/
def granWrite (g : Gran) (cov : Nat) (whole carry : Bool) : Gran × Option Finding :=
  if cov = 0 then (g, readFinding g)
  else if carry then
    match g with
    | .clean => (.poisoned, none)
    | .correctable => (.poisoned, some .corrected)
    | .freshUE => (.poisoned, some .merge)
    | .poisoned => (.poisoned, none)
  else if whole then (.clean, none)
  else if cov = 16 then
    match g with
    | .clean => (.clean, none)
    | .correctable => (.clean, some .corrected)
    | .freshUE => (.clean, some .ueCleared)
    | .poisoned => (.clean, some .ueCleared)
  else
    match g with
    | .clean => (.clean, none)
    | .correctable => (.clean, some .corrected)
    | .freshUE => (.poisoned, some .merge)
    | .poisoned => (.poisoned, some .merge)

/-- The bytes of a word after nibbles are merged in. A nibble write is (position 0-63, value). -/
def mergeNibs (bs : List Byte) : List (Nat × Nat) → List Byte
  | [] => bs
  | (i, v) :: r =>
    let b := (bs.getD (i / 2) 0).toNat
    let nb := if i % 2 = 0 then b / 16 * 16 + v % 16 else b % 16 + v % 16 * 16
    mergeNibs (bs.set (i / 2) (BitVec.ofNat 8 nb)) r

/-- Write nibbles of the word at key `a` under Table 8.1, `carry` naming the granules that carry poison: the new
memory and marks, and what was found. -/
def State.writeNibs (s : State) (a : Nat) (nibs : List (Nat × Nat)) (carry : List Nat) :
    State × List (Nat × Finding × Gran) :=
  let ps := (nibs.map (fun e => e.1)).eraseDups
  let whole := ps.length = 64
  let bs := mergeNibs (s.bytes a 32) nibs
  let rs := (upTo 4).map (fun j =>
    let g := s.gran (a + 8 * j)
    (j, g, granWrite g (ps.filter (fun i => i / 16 = j)).length whole (carry.contains j)))
  let marks := rs.foldl (fun t e => setMark t (a / 8 + e.1) e.2.2.1) s.marks
  let finds := rs.filterMap (fun e => e.2.2.2.map (fun f => (e.1, f, e.2.1)))
  let finds := if whole ∧ carry = [] then [] else finds
  ({ s with mem := memWrites s.mem a bs, marks := marks }, finds)

/-- Write nibbles of word `w` of a cluster's memory, with its accounting (R246 to R249). -/
def State.writeWord (s : State) (c w : Nat) (nibs : List (Nat × Nat)) (carry : List Nat) : State :=
  let (s', fs) := s.writeNibs (clKey c (32 * w)) nibs carry
  s'.noteFinds c (w % 2 ^ 17) fs

/-- The two nibble writes of a byte at offset `o` of a word. -/
def byteNibs (o v : Nat) : List (Nat × Nat) := [(2 * o, v % 16), (2 * o + 1, v / 16)]

/-- Group byte writes (byte address, value, poison) by word, in order of first appearance. -/
def groupBytes (l : List (Nat × Nat × Bool)) : List (Nat × List (Nat × Nat) × List Nat) :=
  let ws := (l.map (fun e => e.1 / 32)).eraseDups
  ws.map (fun w =>
    let es := l.filter (fun e => e.1 / 32 = w)
    (w, es.flatMap (fun e => byteNibs (e.1 % 32) e.2.1),
      ((es.filter (fun e => e.2.2)).map (fun e => e.1 % 32 / 8)).eraseDups))

/-- Write bytes (byte address, value, poison) of a cluster's memory, one access a word. -/
def State.writeClBytes (s : State) (c : Nat) (l : List (Nat × Nat × Bool)) : State :=
  (groupBytes (l.map (fun e => (e.1 % 2 ^ 22, e.2)))).foldl (fun s e => s.writeWord c e.1 e.2.1 e.2.2) s

/-! ### Bank checks (R223 to R226) -/

/-- The bank and the sub-bank of a word address (R223). -/
def bankOf (w : Nat) : Nat := w / 256 % 32
def subBankOf (w : Nat) : Nat := w % 8

/-- The mask of unit `u` (order of Table 7.3) in force (R224). -/
def Seq.maskOf (q : Seq) (u : Nat) : Nat := (q.masks.get u 0).toNat

/-- The first word that the mask does not grant. -/
def notOwned (mask : Nat) (ws : List Nat) : Option Nat := ws.find? (fun w => ¬ bitOf mask (bankOf w))

/-- Two different words of one access in one sub-bank of one bank (R223). -/
def subBankMeet : List Nat → Option Nat
  | [] => none
  | w :: r =>
    if r.any (fun v => v ≠ w ∧ bankOf v = bankOf w ∧ subBankOf v = subBankOf w) then some (bankOf w)
    else subBankMeet r

/-- The words that hold `n` bytes from byte address `b` on. -/
def byteWords (b n : Nat) : List Nat := if n = 0 then [] else (upTo ((b % 32 + n + 31) / 32)).map (fun i => b / 32 + i)

/-! ### Operations in flight -/

/-- Schedule an act of a cluster. -/
def State.sched (s : State) (c t ph job unit slot : Nat) (a : Act) : State :=
  s.updCl c (fun k => { k with evs := k.evs ++ [⟨t, ph, job, unit, slot, a⟩] })

/-- The job number that the next operation of a cluster gets. -/
def State.nextJob (s : State) (c : Nat) : Nat := (s.cl c).nextJob

/-- Enter an operation in flight. -/
def State.addJob (s : State) (c : Nat) (j : Job) : State :=
  s.updCl c (fun k => { k with jobs := k.jobs.set k.nextJob j, nextJob := k.nextJob + 1 })

/-- Change an operation in flight. -/
def State.updJob (s : State) (c id : Nat) (f : Job → Job) : State :=
  s.updCl c (fun k => match lookup k.jobs.rows id with
    | none => k
    | some j => { k with jobs := k.jobs.set id (f j) })

/-- Take out an operation that is complete. -/
def State.dropJob (s : State) (c id : Nat) : State := s.updCl c (fun k => { k with jobs := k.jobs.erase id })

/-- The step that ends an operation in flight, and the one that completes an edge-engine run. -/
def dropStep : Nat := 2 ^ 40
def edgeEnd : Nat := 2 ^ 40 + 1

/-- Argument word `i` of a job. -/
def Job.arg (j : Job) (i : Nat) : Nat := j.args.getD i 0

/-- The words a job read under an index. -/
def Job.words (j : Job) (i : Nat) : List MemWord := j.got.get i []

/-- A word that was read (a clean zero word where it was not). -/
def Job.word (j : Job) (i k : Nat) : MemWord := (j.words i).getD k ⟨[], 0⟩

/-- The words that hold the bytes `n` from byte `b` on, within the cluster's memory. -/
def clWords (b n : Nat) : List Nat := (byteWords (b % 2 ^ 22) n).map (fun w => w % 2 ^ 17)

/-- Byte `i`, with its poison, of consecutive words of which the first holds byte address `b`. -/
def wordsByte (ws : List MemWord) (b i : Nat) : Nat × Bool :=
  let p := b % 32 + i
  let w := ws.getD (p / 32) ⟨[], 0⟩
  (w.byte (p % 32), w.bad (p % 32 / 8))

/-! ### Claims of bus slots (R24, R263) -/

/-- Resources: the bus of region r, the die-network port of cluster k, the reduction path into input i of cluster
k. -/
def resBus (r : Nat) : Nat := r
def resPort (k : Nat) : Nat := 16 + k
def resRed (k i : Nat) : Nat := 128 + 8 * k + i

/-- Does a claim hold a c-cycle? -/
def Claim.holds (k : Claim) (t : Nat) : Bool :=
  decide (k.first ≤ t) && decide ((t - k.first) % k.step = 0) && decide ((t - k.first) / k.step < k.count)

/-- Do two claims meet? -/
def Claim.meets (a b : Claim) : Bool :=
  a.res = b.res && (if a.count ≤ b.count then (upTo a.count).any (fun i => b.holds (a.first + i * a.step))
    else (upTo b.count).any (fun i => a.holds (b.first + i * b.step)))

/-- The first claim held by another operation that meets one of the new claims. -/
def State.claimMeets (s : State) (ks : List Claim) : Option Claim :=
  s.claims.find? (fun h => ks.any (fun k => k.meets h))

end Sys2Proof.Machine
end

