-- ==== Sys2Proof/Machine/Operands.lean ====
section
/-! DEFINITION. Number formats and operand forms (spec/02): element formats, SC8, cell integers, exact fractions,
conversion and rounding, the scale finder. -/

namespace Sys2Proof.Machine

/-! ### Rounding and saturation -/

/-- a / b rounded to nearest, ties to even; b > 0. -/
def rneDiv (a : Int) (b : Nat) : Int :=
  let q := a / (b : Int)
  let r := a - q * (b : Int)
  if 2 * r < (b : Int) then q
  else if 2 * r > (b : Int) then q + 1
  else if q % 2 = 0 then q else q + 1

/-- a x 2^k: exact for k at or above 0, else rounded to nearest, ties to even (R58). -/
def rneShift (a k : Int) : Int :=
  if 0 ≤ k then a * (2 : Int) ^ k.toNat else rneDiv a (2 ^ (-k).toNat)

/-- Clamp to a range, and whether it was left. -/
def clampTo (lo hi x : Int) : Int × Bool :=
  if x < lo then (lo, true) else if hi < x then (hi, true) else (x, false)

/-- A28 saturation (R57). -/
def sat28 (x : Int) : Int × Bool := clampTo (-134217728) 134217727 x

/-- V16 saturation (R234, R149). -/
def sat16s (x : Int) : Int × Bool := clampTo (-32768) 32767 x

/-- Unsigned 16-bit saturation (R149). -/
def sat16u (x : Int) : Int × Bool := clampTo 0 65535 x

/-! ### SC8 (R52 to R54) -/

/-- Significand and exponent of an SC8 code that is no marker (R52): the value is sig x 2^(exp - 18). -/
def sc8Sig (c : Nat) : Nat := if c / 8 % 32 = 0 then c % 8 else 8 + c % 8
def sc8Exp (c : Nat) : Nat := if c / 8 % 32 = 0 then 1 else c / 8 % 32

/-- An exact fraction x 2^k. -/
def Frac.shift (x : Frac) (k : Int) : Frac :=
  if 0 ≤ k then ⟨x.num * (2 : Int) ^ k.toNat, x.den⟩ else ⟨x.num, x.den * 2 ^ (-k).toNat⟩

/-- Order of fractions. -/
def Frac.le (a b : Frac) : Bool := decide (a.num * b.den ≤ b.num * a.den)
def Frac.lt (a b : Frac) : Bool := decide (a.num * b.den < b.num * a.den)
def Frac.max (a b : Frac) : Frac := if a.lt b then b else a
def Frac.neg (a : Frac) : Frac := ⟨-a.num, a.den⟩
def Frac.abs (a : Frac) : Frac := ⟨a.num.natAbs, a.den⟩
def Frac.ofInt (n : Int) : Frac := ⟨n, 1⟩
def Frac.add (a b : Frac) : Frac := ⟨a.num * b.den + b.num * a.den, a.den * b.den⟩
def Frac.divNat (a : Frac) (n : Nat) : Frac := ⟨a.num, a.den * n⟩

/-- The value of an SC8 code. -/
def sc8Val (c : Nat) : Frac := (Frac.ofInt (sc8Sig c)).shift ((sc8Exp c : Int) - 18)

/-- x / s, exactly (R62). -/
def divScale (x : Frac) (c : Nat) : Frac :=
  Frac.shift ⟨x.num, x.den * sc8Sig c⟩ (18 - (sc8Exp c : Int))

/-! ### Elements (R47 to R51, R56) -/

/-- The magnitude of an E2M1 code in units of 0.5, its cell integer (Table 2.3). -/
def e2m1Mag (c : Nat) : Nat := ([0, 1, 2, 3, 4, 6, 8, 12] : List Nat).getD (c % 8) 0

/-- The cell integer of an E2M1 code (R48). -/
def e2m1Cell (c : Nat) : Int := if c / 8 % 2 = 1 then -(e2m1Mag c : Int) else e2m1Mag c

/-- The cell integer of an activation nibble (Table 2.5) of format AF (0 S4, 1 U4, 2 S3, 3 E2M1), with the zero
point `za` to subtract. -/
def actCell (af : Nat) (za : Int) (nib : Nat) : Int :=
  if af = 3 then e2m1Cell nib else if af = 1 then (nib : Int) - za else signed 4 nib - za

/-- Does an activation format count in d (R56)? -/
def actD (af : Nat) : Nat := if af = 3 then 1 else 0

/-- The activation zero point of CL_SLCFG.ZA for a format (Table 4.8). -/
def zaOf (slcfg : Nat) (af : Nat) : Int :=
  let z := bitsOf slcfg 7 4
  if af = 3 then 0 else if af = 1 then z else signed 4 z

/-- Weight formats WF (Table 7.6): 0 S4, 1 U4, 2 S3, 3 E2M1, 4 S2, 5 T2, 6 B1, 7 K4. -/
def wfTwoLane (wf : Nat) : Bool := wf = 4 ∨ wf = 5 ∨ wf = 6
def wfFour (wf : Nat) : Bool := wf < 4
def wfD (wf : Nat) : Nat := if wf = 3 then 1 else 0

/-- The code of element `n` of a weight row in its word (R49, R86). -/
def weightCode (wf : Nat) (w : MemWord) (n : Nat) : Nat :=
  if wf = 6 then w.byte (n / 8) / 2 ^ (n % 8) % 2
  else if wf = 4 ∨ wf = 5 then w.byte (n / 4) / 4 ^ (n % 4) % 4
  else w.nib n

/-- Does element `n` of a weight row lie in a poisoned granule? -/
def weightBad (wf : Nat) (w : MemWord) (n : Nat) : Bool :=
  if wf = 6 then w.bad (n / 64) else if wf = 4 ∨ wf = 5 then w.bad (n / 32) else w.bad (n / 16)

/-- The cell integer of a weight code (Table 2.5); `cb` is the codebook of a K4 plane. -/
def weightCell (wf : Nat) (cb : List Int) (c : Nat) : Int :=
  if wf = 0 ∨ wf = 2 then signed 4 c
  else if wf = 1 then c
  else if wf = 3 then e2m1Cell c
  else if wf = 4 then signed 2 c
  else if wf = 5 then (if c = 1 then 1 else if c = 3 then -1 else 0)
  else if wf = 6 then (if c = 0 then 1 else -1)
  else cb.getD c 0

/-- The reserved T2 code (R50). -/
def weightRsvd (wf c : Nat) : Bool := wf = 5 ∧ c = 2

/-- The group size of a GS field (0 32, 1 64, 2 128). -/
def gsOf (f : Nat) : Nat := if f = 0 then 32 else if f = 1 then 64 else 128

/-! ### Conversion (R62 to R70) -/

/-- OFMT (Table 4.3): 0 S4, 1 U4, 2 E2M1, 3 S3, 4 S2, 5 T2, 6 B1. R122 gives the reserved code no width, yet column 0 may
hold it: one of the three widths, free (log entry 8). -/
def ofmtWidth (f : Nat) : Nat :=
  if f < 4 then 4 else if f < 6 then 2 else if f = 6 then 1
  else if Config.reservedWidth % 3 = 0 then 4 else if Config.reservedWidth % 3 = 1 then 2 else 1

/-- The output zero point of a ZP field (R121): two's complement for S4, unsigned for U4, none for the others. -/
def zpOf (ofmt zp : Nat) : Int := if ofmt = 0 then signed 4 zp else if ofmt = 1 then zp else 0

/-- Integers from `lo` up, `n` of them, in units of one half. -/
def halfRun (lo : Int) (n : Nat) : List Int := (upTo n).map (fun (i : Nat) => 2 * (lo + (i : Int)))

/-- The rounding grid of a format in units of one half, extended by one point at each end (R62, R63, R121). -/
def gridOf (f : Nat) (z : Int) : List Int :=
  if f = 0 then halfRun (-9 - z) 18
  else if f = 1 then halfRun (-1 - z) 18
  else if f = 2 then [-16, -12, -8, -6, -4, -3, -2, -1, 0, 1, 2, 3, 4, 6, 8, 12, 16]
  else if f = 3 then halfRun (-5) 10
  else if f = 4 then halfRun (-3) 6
  else halfRun (-2) 5

/-- Is a grid point even for ties (R63): an even integer, or mantissa bit 0 for E2M1? -/
def gridEven (f : Nat) (g : Int) : Bool :=
  if f = 2 then ([0, 2, 4, 8, 16] : List Nat).contains g.natAbs else decide (g % 4 = 0)

/-- The hash r of seeded stochastic rounding (R67). -/
def stochR (key seed idx : Nat) : Nat :=
  let M := 2 ^ 64
  let z := (seed * 2 ^ 32 + idx) % M
  let z := Nat.xor z (key * 0x9E3779B97F4A7C15 % M)
  let z := Nat.xor z (z / 2 ^ 30) * 0xBF58476D1CE4E5B9 % M
  let z := Nat.xor z (z / 2 ^ 27) * 0x94D049BB133111EB % M
  let z := Nat.xor z (z / 2 ^ 31)
  z / 2 ^ 48

/-- The last grid point at or below y (in halves), from the lower end. -/
def gridBelow (y : Frac) : List Int → Int → Int
  | [], b => b
  | g :: r, b => if (Frac.ofInt g).le y then gridBelow y r g else b

/-- The first grid point at or above y. -/
def gridAbove (y : Frac) : List Int → Int → Int
  | [], b => b
  | g :: r, b => if y.le (Frac.ofInt g) then g else gridAbove y r b

/-- Round y (in halves) to the grid in mode RND (R66): 0 to nearest even, 1 toward zero, 2 stochastic with hash r. -/
def roundGrid (f rnd r : Nat) (grid : List Int) (y : Frac) : Int :=
  let bot := grid.headD 0
  let top := grid.getLastD 0
  if y.le (Frac.ofInt bot) then bot
  else if (Frac.ofInt top).le y then top
  else
    let lo := gridBelow y grid bot
    let hi := gridAbove y grid top
    if lo = hi then lo
    else if rnd = 1 then (if y.num < 0 then hi else lo)
    else if rnd = 2 then
      let frac := ((y.num - lo * y.den) * 65536) / ((hi - lo) * y.den)
      if 65536 ≤ frac + r then hi else lo
    else
      let m := 2 * y.num
      let mid := (lo + hi) * y.den
      if m < mid then lo else if mid < m then hi else if gridEven f lo then lo else hi

/-- The code of a rounded value in halves (R65, R121). -/
def gridCode (f : Nat) (z g : Int) : Nat :=
  if f = 2 then
    let m := ([0, 1, 2, 3, 4, 6, 8, 12] : List Nat).idxOf g.natAbs
    if g < 0 then m + 8 else m
  else if f = 0 ∨ f = 1 then unsigned 4 (g / 2 + z)
  else if f = 3 then unsigned 4 (g / 2)
  else unsigned 2 (g / 2)

/-- Conversion of one element x by the scale code s: code, SAT, UNF (R62 to R67). -/
def convElem (f rnd : Nat) (z : Int) (r : Nat) (x : Frac) (s : Nat) : Nat × Bool × Bool :=
  let y := divScale x s
  if f = 6 then (if y.num < 0 then 1 else 0, false, false)
  else
    let grid := gridOf f z
    let y2 : Frac := ⟨2 * y.num, y.den⟩
    let g := roundGrid f rnd r grid y2
    let bot := grid.headD 0
    let top := grid.getLastD 0
    let sat := decide (g = bot ∨ g = top)
    let g' := if g = bot then grid.getD 1 0 else if g = top then (grid.dropLast).getLastD 0 else g
    (gridCode f z g', sat, decide (x.num ≠ 0 ∧ g' = 0) && !sat)

/-- Capacities C+ and C- (Table 4.4). -/
def capPos (f : Nat) (z : Int) : Int :=
  if f = 0 then 7 - z else if f = 1 then 15 - z else if f = 2 then 6 else if f = 3 then 3 else 1
def capNeg (f : Nat) (z : Int) : Int :=
  if f = 0 then 8 + z else if f = 1 then z else if f = 2 then 6 else if f = 3 then 4 else if f = 4 then 2 else 1

/-- The smallest SC8 code at or above r, within 0x01 ... 0xFE (R125). -/
def sc8Ceil (r : Frac) : Nat :=
  ((upTo 254).map (fun i => i + 1)).find? (fun c => r.le (sc8Val c)) |>.getD 0xFE

/-- What one member asks of the scale (R125). -/
def needOf (f : Nat) (z : Int) (x : Frac) : Frac :=
  if 0 < x.num then
    let c := capPos f z
    if c ≤ 0 then ⟨0, 1⟩ else x.divNat c.toNat
  else if x.num < 0 then
    let c := capNeg f z
    if c ≤ 0 then ⟨0, 1⟩ else x.neg.divNat c.toNat
  else ⟨0, 1⟩

/-- The dynamic scale of a group (R125, R69): members with their zero points, and whether one is poisoned. -/
def findScale (f : Nat) (ms : List (Frac × Int)) (poison : Bool) : Nat :=
  if poison then 0xFF
  else if ms.all (fun e => e.1.num = 0) then 0
  else if f = 6 then
    sc8Ceil ((ms.foldl (fun (a : Frac) e => a.add e.1.abs) (⟨0, 1⟩ : Frac)).divNat ms.length)
  else sc8Ceil (ms.foldl (fun (a : Frac) e => a.max (needOf f e.2 e.1)) (⟨0, 1⟩ : Frac))

end Sys2Proof.Machine
end

