-- ==== Sys2Proof/Machine/Flags.lean ====
section
/-! DEFINITION. The sticky flags (R74 to R76) and the frame of an engine operation of a bundle (R219 to R222). -/

namespace Sys2Proof.Machine

/-! ### Row flags of the tiles (R57, R76) -/

/-- Offset of the row-flag register that holds row `r` of tile `t` of cluster `c`. -/
def rowSatReg (c t r : Nat) : Nat := regCl c (0x110 + 8 * t + 4 * (r / 32))

/-- Set the SAT flag of an accumulator row, and MX_SAT with it. -/
def State.setRowSat (s : State) (c t r : Nat) : State :=
  (s.orReg (rowSatReg c t r) (2 ^ (r % 32))).numFlag c t

/-- MX_SAT of tile `t` follows its row flags after some were cleared (R76). -/
def State.rowSatSync (s : State) (c t : Nat) : State :=
  if (s.reg (rowSatReg c t 0)).toNat = 0 ∧ (s.reg (rowSatReg c t 32)).toNat = 0 then
    s.clrReg (regCl c 0x100) (2 ^ t)
  else s

/-- Clear bits of CL_NUMFLAG; an MX_SAT bit clears the 64 row flags of its tile (R76). -/
def State.clearNumFlags (s : State) (c m : Nat) : State :=
  let s := s.clrReg (regCl c 0x100) m
  (upTo 4).foldl (fun s t =>
    if bitOf m t then (s.setReg (rowSatReg c t 0) 0).setReg (rowSatReg c t 32) 0 else s) s

/-! ### Engine operations of the bundle being issued -/

/-- Ports of a bundle (R220): edge, weight and drain port of tile t, and one for every other engine. -/
def portEdge (t : Nat) : Nat := t
def portWeight (t : Nat) : Nat := 4 + t
def portDrain (t : Nat) : Nat := 8 + t
def portEddy : Nat := 12
def portVector : Nat := 13
def portSluice : Nat := 14
def portCopyIn : Nat := 15
def portCopyOut : Nat := 16
def portStripe : Nat := 17
def portReduction : Nat := 18
def portEdgeEngine : Nat := 19

/-- Memory users in the order of Table 7.3. -/
def uSeq : Nat := 0
def uTile (t : Nat) : Nat := 1 + t
def uEddy : Nat := 5
def uVector : Nat := 6
def uSluice : Nat := 7
def uCopyIn : Nat := 8
def uCopyOut : Nat := 9
def uStripe : Nat := 10
def uEdge : Nat := 11

/-- ARG[a] as the bundle's engine operations read it (R219); none past ARG63 (R221). -/
def Seq.arg (q : Seq) (a : Nat) : Option Nat := if a < 64 then some (q.argSnap.get a 0).toNat else none

/-- ARG[a] ... ARG[a + n - 1]; none if the block runs past ARG63. -/
def Seq.argBlock (q : Seq) (a n : Nat) : Option (List Nat) :=
  if a + n ≤ 64 then some ((upTo n).map (fun i => (q.argSnap.get (a + i) 0).toNat)) else none

/-- Raise the c-cycle by which a unit's issued operations are complete (FENCE, R227). -/
def State.done (s : State) (c u t : Nat) : State :=
  s.updSeq c (fun q => { q with unitDone := q.unitDone.set u (max t (q.unitDone.get u 0)) })

/-- Bytes of a read word for a use that the spec gives no poison rule: a byte of a granule delivered as poisoned is a
free value (log entry 4). -/
def State.plainBytes (s : State) (w : MemWord) : List Nat × State :=
  (upTo 32).foldl (fun (r : List Nat × State) i =>
    if w.bad (i / 8) then
      let (v, s') := r.2.free 256
      (r.1 ++ [v], s')
    else (r.1 ++ [w.byte i], r.2)) ([], s)

end Sys2Proof.Machine
end

