-- ==== Sys2Proof/Machine/Eddy.lean ====
section
/-! DEFINITION. Eddy, the attention pipeline (spec/05): scores, the exponent table, the block update, masks and
finalisation. -/

namespace Sys2Proof.Machine

/-- The exponent table T[k] = round(32,768 x 2^(-k / 256)), k = 0 ... 256 (R148). -/
def expTable : List Nat :=
  [32768, 32679, 32591, 32503, 32415, 32327, 32240, 32153, 32066, 31979, 31893, 31806, 31720, 31635, 31549, 31464] ++
  [31379, 31294, 31209, 31125, 31041, 30957, 30873, 30790, 30706, 30623, 30541, 30458, 30376, 30293, 30212, 30130] ++
  [30048, 29967, 29886, 29805, 29725, 29644, 29564, 29484, 29405, 29325, 29246, 29167, 29088, 29009, 28931, 28852] ++
  [28774, 28697, 28619, 28542, 28464, 28388, 28311, 28234, 28158, 28082, 28006, 27930, 27855, 27779, 27704, 27629] ++
  [27554, 27480, 27406, 27332, 27258, 27184, 27110, 27037, 26964, 26891, 26818, 26746, 26674, 26601, 26530, 26458] ++
  [26386, 26315, 26244, 26173, 26102, 26031, 25961, 25891, 25821, 25751, 25681, 25612, 25543, 25474, 25405, 25336] ++
  [25268, 25199, 25131, 25063, 24995, 24928, 24860, 24793, 24726, 24659, 24593, 24526, 24460, 24394, 24328, 24262] ++
  [24196, 24131, 24066, 24001, 23936, 23871, 23806, 23742, 23678, 23614, 23550, 23486, 23423, 23359, 23296, 23233] ++
  [23170, 23108, 23045, 22983, 22921, 22859, 22797, 22735, 22674, 22613, 22552, 22491, 22430, 22369, 22309, 22248] ++
  [22188, 22128, 22068, 22009, 21949, 21890, 21831, 21772, 21713, 21654, 21595, 21537, 21479, 21421, 21363, 21305] ++
  [21247, 21190, 21133, 21076, 21019, 20962, 20905, 20849, 20792, 20736, 20680, 20624, 20568, 20513, 20457, 20402] ++
  [20347, 20292, 20237, 20182, 20127, 20073, 20019, 19965, 19911, 19857, 19803, 19750, 19696, 19643, 19590, 19537] ++
  [19484, 19431, 19379, 19326, 19274, 19222, 19170, 19118, 19066, 19015, 18963, 18912, 18861, 18810, 18759, 18708] ++
  [18658, 18607, 18557, 18507, 18457, 18407, 18357, 18308, 18258, 18209, 18160, 18110, 18061, 18013, 17964, 17915] ++
  [17867, 17819, 17770, 17722, 17674, 17627, 17579, 17531, 17484, 17437, 17390, 17343, 17296, 17249, 17202, 17156] ++
  [17109, 17063, 17017, 16971, 16925, 16879, 16834, 16788, 16743, 16697, 16652, 16607, 16562, 16518, 16473, 16428] ++
  [16384]

/-- 2^-x for an unsigned difference, with 15 fraction bits (R148). -/
def exp2neg (dx : Nat) : Nat :=
  let n := dx / 1024
  let f := dx % 1024
  let k := f / 4
  let w := f % 4
  let e := (expTable.getD k 0 * (4 - w) + expTable.getD (k + 1) 0 * w + 2) / 4
  if 16 ≤ n then 0 else e / 2 ^ n

/-- The parameters of ED.ATT (Tables 5.4, 7.8). -/
structure EdPar where
  st : Nat
  init : Bool
  fin : Bool
  qs : Nat
  d : Nat
  tgt : Nat
  sblk : Nat
  qbase : Nat
  qsb : Nat
  kbase : Nat
  kstr : Nat
  ksb : Nat
  ksstr : Nat
  vbase : Nat
  vstr : Nat
  vsb : Nat
  vsstr : Nat
  mask : Nat
  nkey : Nat
  srow0 : Nat
  qf : Nat
  kf : Nat
  vf : Nat
  qg : Nat
  vg : Nat
  fl : Nat
  fo : Nat
  ofb : Nat
  deriving DecidableEq, Repr

/-- The activation format of a QF, KF or VF code (0 S4, 1 S3, 2 E2M1), as `actCell` numbers it. -/
def edFmt (f : Nat) : Nat := if f = 0 then 0 else if f = 1 then 2 else 3

/-- Table 7.8. -/
def edParOf (op : Nat) (a : List Nat) : EdPar :=
  let w := fun i => a.getD i 0
  { st := bitsOf op 23 23, init := bitOf op 22, fin := bitOf op 21, qs := bitsOf op 20 17 + 1,
    d := if bitsOf op 16 15 = 0 then 64 else if bitsOf op 16 15 = 1 then 128 else 256,
    tgt := bitsOf op 14 13, sblk := bitsOf op 12 11, qbase := bitsOf (w 0) 16 0, qsb := bitsOf (w 1) 21 0,
    kbase := bitsOf (w 2) 16 0, kstr := bitsOf (w 2) 31 17, ksb := bitsOf (w 3) 21 0, ksstr := bitsOf (w 3) 31 22,
    vbase := bitsOf (w 4) 16 0, vstr := bitsOf (w 4) 31 17, vsb := bitsOf (w 5) 21 0, vsstr := bitsOf (w 5) 31 22,
    mask := bitsOf (w 6) 16 0, nkey := bitsOf (w 6) 25 17 + 1, srow0 := bitsOf (w 6) 31 26,
    qf := edFmt (bitsOf (w 7) 1 0), kf := edFmt (bitsOf (w 7) 3 2), vf := edFmt (bitsOf (w 7) 5 4),
    qg := gsOf (bitsOf (w 7) 7 6), vg := gsOf (bitsOf (w 7) 9 8), fl := bitsOf (w 7) 13 10,
    fo := bitsOf (w 7) 17 14, ofb := bitsOf (w 7) 21 18 }

/-- Reserved encodings of ED.ATT (Tables 5.4, 7.8, R144). -/
def edBad (op : Nat) (a : List Nat) : Bool :=
  let p := edParOf op a
  let w7 := a.getD 7 0
  bitsOf op 10 6 ≠ 0 ∨ bitsOf op 16 15 = 3 ∨ bitsOf op 14 13 = 3 ∨ bitsOf w7 31 22 ≠ 0
    ∨ bitsOf w7 1 0 = 3 ∨ bitsOf w7 3 2 = 3 ∨ bitsOf w7 5 4 = 3 ∨ bitsOf w7 7 6 = 3 ∨ bitsOf w7 9 8 = 3
    ∨ p.d < p.qg ∨ 4 < p.sblk + p.d / 64 ∨ 64 < p.srow0 + p.qs

/-- Key blocks and c-cycles of a block (R145, R157). -/
def EdPar.nb (p : EdPar) : Nat := ceilDiv p.nkey 32
def EdPar.cb (p : EdPar) : Nat := p.d / 4

/-- What a chain must keep from its INIT operation (R158). -/
def EdPar.chain (p : EdPar) : List Nat := [p.qs, p.d, p.qf, p.kf, p.vf, p.qg, p.vg, p.fl, p.fo]

/-- C-cycle of the state of block b, of the last block, of delivery (i, q), and of the set being empty (Table 5.5). -/
def EdPar.blockAt (p : EdPar) (I b : Nat) : Nat := I + 56 + (b + 1) * p.cb
def EdPar.stateAt (p : EdPar) (I : Nat) : Nat := I + 56 + p.nb * p.cb
def EdPar.dlvAt (p : EdPar) (I i q : Nat) : Nat := I + 60 + p.nb * p.cb + i * (p.d / 64) + q
def EdPar.emptyAt (p : EdPar) (I : Nat) : Nat := p.dlvAt I (p.qs - 1) (p.d / 64 - 1) + 1

/-- A set of an Eddy. -/
def Eddy.set (e : Eddy) (i : Nat) : EdSet := if i = 0 then e.st0 else e.st1
def Eddy.putSet (e : Eddy) (i : Nat) (v : EdSet) : Eddy := if i = 0 then { e with st0 := v } else { e with st1 := v }

/-! ### Reads (Table 5.5) -/

/-- Indexes under which the reads of an operation are filed. -/
def edMaskIdx : Nat := 100
def edKIdx (j h : Nat) : Nat := 1000 + 2 * j + h
def edVIdx (j h : Nat) : Nat := 3000 + 2 * j + h
def edVsIdx (u w : Nat) : Nat := 6000 + 16 * u + w

/-- The c-cycle, within its block, in which half h of a row is read (R145). -/
def EdPar.rowAt (p : EdPar) (x h : Nat) : Nat := if p.d = 64 then x / 2 else if p.d = 128 then x else 2 * x + h

/-- The words of half h of a row. -/
def EdPar.rowWords (p : EdPar) (base str j h : Nat) : List Nat :=
  let b := base + j * str
  (if p.d = 64 then [b] else if p.d = 128 then [b, b + 1] else [b + 2 * h, b + 2 * h + 1]).map (fun w => w % 2 ^ 17)

/-- The halves in which a row is read. -/
def EdPar.halves (p : EdPar) : List Nat := if p.d = 256 then [0, 1] else [0]

/-- All reads of an operation but the second mask word: (c-cycle, index, words). -/
def EdPar.reads (p : EdPar) (I : Nat) : List (Nat × Nat × List Nat) :=
  let nq := p.d / p.qg
  let q := (upTo p.qs).map (fun i => (I + i, i,
    (upTo (p.d / 64)).map (fun x => (p.qbase + i * (p.d / 64) + x) % 2 ^ 17) ++ clWords (p.qsb + i * nq) nq))
  let k := (upTo p.nkey).flatMap (fun j => p.halves.map (fun h =>
    (I + 16 + j / 32 * p.cb + p.rowAt (j % 32) h, edKIdx j h,
      p.rowWords p.kbase p.kstr j h ++ (if h = 0 then clWords (p.ksb + j * p.ksstr) nq else []))))
  let v := (upTo p.nkey).flatMap (fun j => p.halves.map (fun h =>
    (I + 40 + j / 32 * p.cb + p.rowAt (j % 32) h, edVIdx j h, p.rowWords p.vbase p.vstr j h)))
  let vs := (upTo (ceilDiv p.nkey p.vg)).flatMap (fun u =>
    let ws := clWords (p.vsb + u * p.vsstr) p.d
    (upTo ws.length).map (fun x => (I + 40 + u * p.vg / 32 * p.cb + x, edVsIdx u x, [ws.getD x 0])))
  (I, edMaskIdx, [p.mask]) :: q ++ k ++ v ++ vs

/-! ### Masks (R154, R155) -/

/-- Reserved values of a mask descriptor word (Table 5.3). -/
def edMaskBad (w : MemWord) : Bool :=
  let f := fun o n => fieldAt w.bytes o n
  2 ^ 20 ≤ f 0 4 ∨ 2 ^ 20 ≤ f 4 4 ∨ f 8 4 = 0 ∨ 2 ^ 20 < f 8 4 ∨ 8 ≤ f 12 1
    ∨ ¬ ([1, 2, 4, 8, 16] : List Nat).contains (f 13 1) ∨ f 14 18 ≠ 0

/-- Is key j unmasked for row i (R155)? `m0`, `m1` are the descriptor's words. -/
def edUnmasked (m0 m1 : MemWord) (i j : Nat) : Bool :=
  let f := fun o n => fieldAt m0.bytes o n
  let qi := f 0 4 + i / f 13 1
  let kj := f 4 4 + j
  let flags := f 12 1
  (!bitOf flags 0 || decide (kj ≤ qi)) && (!bitOf flags 1 || decide (qi < kj + f 8 4))
    && (!bitOf flags 2 || bitOf (leNat m1.bytes) (16 * i + j / 32))

/-! ### Scores and the block update (R146, R149, R152) -/

/-- The groups of a row along the head dimension: cells and scale code, 0xFF where poisoned. -/
def edGroups (p : EdPar) (fmt : Nat) (ws scs : List MemWord) (sb : Nat) : List (List Int × Nat) :=
  (upTo (p.d / p.qg)).map (fun q =>
    let ks := (upTo p.qg).map (fun i => q * p.qg + i)
    let el := fun (k : Nat) => ws.getD (k / 64) ⟨[], 0⟩
    let sc := wordsByte scs sb q
    let bad := sc.2 || ks.any (fun k => (el k).nibBad (k % 64))
    (ks.map (fun k => actCell fmt 0 ((el k).nib (k % 64))), if bad then 0xFF else sc.1))

/-- The score of a query row and a key (R146), and whether an addition saturated. -/
def edScore (dE : Nat) (q k : List (List Int × Nat)) : Int × Bool :=
  (q.zip k).foldl (fun (r : Int × Bool) e =>
    let sq := e.1.2
    let sk := e.2.2
    if sq = 0 ∨ sk = 0 ∨ sq = 0xFF ∨ sk = 0xFF then r
    else
      let P := ((e.1.1.zip e.2.1).map (fun x => x.1 * x.2)).foldl (fun x y => x + y) (0 : Int)
      let T := P * (sc8Sig sq : Int) * (sc8Sig sk : Int)
      let y := sat16s (r.1 + rneShift T ((sc8Exp sq : Int) + sc8Exp sk - 26 - dE))
      (y.1, r.2 || y.2)) (0, false)

/-- An empty row of a state set (R149, INIT = 1). -/
def EdRow.init (d : Nat) : EdRow := ⟨none, 0, List.replicate d 0, List.replicate d false, true⟩

/-- The V group of a column: scale code, 0xFF where poisoned. -/
structure VCol where
  scale : Nat
  cells : List Int
  deriving DecidableEq, Repr

/-- One row through one key block (R149): keys `js` with their scores, the unmasked ones, and the V columns. -/
def edBlock (p : EdPar) (row : EdRow) (js : List (Int × Bool)) (cols : List VCol) : EdRow × Bool :=
  let us := js.filter (fun e => e.2)
  match us with
  | [] => (row, false)
  | u :: ur =>
    let bm := ur.foldl (fun a e => max a e.1) u.1
    let mNew := match row.m with | none => bm | some m => max m bm
    let a := match row.m with | none => 0x8000 | some m => exp2neg (min (mNew - m).toNat 0xFFFF)
    let ps := js.map (fun e => if e.2 then exp2neg (min (mNew - e.1).toNat 0xFFFF) else 0)
    let sum := ps.foldl (fun x y => x + y) 0
    let l := sat16u (rneShift (Int.ofNat (row.l * a)) (-15) + rneShift (Int.ofNat sum) ((p.fl : Int) - 15))
    let os := (upTo p.d).map (fun n =>
      if row.poison.getD n false then ((0 : Int), false)
      else
        let o := rneShift (row.o.getD n 0 * Int.ofNat a) (-15)
        let v := cols.getD n ⟨0, []⟩
        if v.scale = 0 ∨ v.scale = 0xFF then (o, false)
        else
          let t := ((ps.zip v.cells).map (fun (e : Nat × Int) => Int.ofNat e.1 * e.2)).foldl (fun x y => x + y) (0 : Int)
            * Int.ofNat (sc8Sig v.scale)
          sat16s (o + rneShift t ((sc8Exp v.scale : Int) + p.fo - 33 - actD p.vf)))
    (⟨some mNew, l.1.toNat, os.map (fun e => e.1), row.poison, false⟩, l.2 || os.any (fun e => e.2))

/-- The outcome of a block: rows, EDDY_SAT. -/
structure EdOut where
  rows : List EdRow
  sat : Bool
  deriving DecidableEq, Repr

/-- The scale of column n in V group u as it stands when the keys below `lim` have been read: 0xFF where poisoned. -/
def edVScale (p : EdPar) (j : Job) (lim u n : Nat) : Nat :=
  let b := wordsByte ((upTo 12).map (fun x => j.word (edVsIdx u x) 0)) (p.vsb + u * p.vsstr) n
  if b.2 || (upTo p.vg).any (fun x => decide (u * p.vg + x < lim)
      && ((p.halves.flatMap (fun h => j.words (edVIdx (u * p.vg + x) h))).getD (n / 64) ⟨[], 0⟩).nibBad (n % 64)) then 0xFF
  else b.1

/-- Key block b of an operation, from the words that it has read (R149, R152, R155). -/
def edRun (p : EdPar) (j : Job) (b : Nat) (rows0 : List EdRow) : EdOut :=
  let m0 := j.word edMaskIdx 0
  let m1 := j.word (edMaskIdx + 1) 0
  let mBad := decide (m0.poison ≠ 0) || decide (m1.poison ≠ 0)
  let nq := p.d / p.qg
  let nw := p.d / 64
  let lim := min p.nkey (32 * (b + 1))
  let kk := (upTo (lim - 32 * b)).map (fun x => 32 * b + x)
  let u := 32 * b / p.vg
  let un := fun (i k : Nat) => mBad || edUnmasked m0 m1 i k
  let qs := (upTo p.qs).map (fun i => edGroups p p.qf ((j.words i).take nw) ((j.words i).drop nw) (p.qsb + i * nq))
  let kn := if p.d = 64 then 1 else 2
  let ks := kk.map (fun k =>
    edGroups p p.kf (p.halves.flatMap (fun h => (j.words (edKIdx k h)).take kn)) ((j.words (edKIdx k 0)).drop kn) (p.ksb + k * p.ksstr))
  let vs := kk.map (fun k => p.halves.flatMap (fun h => j.words (edVIdx k h)))
  let sc := qs.map (fun q => ks.map (fun k => edScore (actD p.qf + actD p.kf) q k))
  let bad := fun (l : List (List Int × Nat)) => l.any (fun e => e.2 = 0xFF)
  let vsc := (upTo p.d).map (fun n => edVScale p j lim u n)
  let cols := (upTo p.d).map (fun n => (⟨vsc.getD n 0,
    vs.map (fun ws => actCell p.vf 0 ((ws.getD (n / 64) ⟨[], 0⟩).nib (n % 64)))⟩ : VCol))
  let res := (upTo p.qs).map (fun i =>
    let r := if p.init ∧ b = 0 then EdRow.init p.d else rows0.getD i (EdRow.init p.d)
    let all := mBad || bad (qs.getD i []) || (kk.zip ks).any (fun e => un i e.1 && bad e.2)
    let sees := (upTo (lim - u * p.vg)).any (fun x => un i (u * p.vg + x))
    let r := { r with poison := (upTo p.d).map (fun n => r.poison.getD n false || all || (decide (vsc.getD n 0 = 0xFF) && sees)) }
    edBlock p r ((kk.zip (sc.getD i [])).map (fun e => (e.2.1, un i e.1))) cols)
  { rows := res.map (fun e => e.1),
    sat := res.any (fun e => e.2) || sc.any (fun l => l.any (fun e => e.2)) }

/-- Do the words of a read hold a poisoned group, or a poisoned mask descriptor (R152, R155)? -/
def edReadBad (p : EdPar) (idx : Nat) (ws : List MemWord) : Bool :=
  let nq := p.d / p.qg
  let words := fun (l : List MemWord) => l.any (fun w => decide (w.poison ≠ 0))
  let row := fun (n sb : Nat) => words (ws.take n)
    || (upTo nq).any (fun q => let e := wordsByte (ws.drop n) sb q; e.2 || decide (e.1 = 0xFF))
  let i := (idx - 1000) / 2
  if idx < 16 then row (p.d / 64) (p.qsb + idx * nq)
  else if idx < 1000 then words ws
  else if idx < 3000 then
    if idx % 2 = 0 then row (if p.d = 64 then 1 else 2) (p.ksb + i * p.ksstr) else words ws
  else if idx < 6000 then words ws
  else
    let u := (idx - 6000) / 16
    let o := (p.vsb + u * p.vsstr) % 32
    (upTo p.d).any (fun n => decide ((o + n) / 32 = (idx - 6000) % 16)
      && (let e := wordsByte ws ((o + n) % 32) 0; e.2 || decide (e.1 = 0xFF)))

/-- The delivered value of an output entry (R150), and whether it saturated. -/
def edFinal (p : EdPar) (r : EdRow) (n : Nat) : Int × Bool :=
  if r.poison.getD n false ∨ r.empty then (0, false)
  else
    let e := (p.fl : Int) - p.fo + p.ofb
    let o := r.o.getD n 0
    if 0 ≤ e then sat16s (rneDiv (o * (2 : Int) ^ e.toNat) r.l)
    else sat16s (rneDiv o (r.l * 2 ^ (-e).toNat))

/-- The state of block b is complete: the set's rows change, and after the last block of an operation with FIN the rows are
on their way to Sluice (R149 to R151, Table 5.5). -/
def State.edDone (s : State) (c jid b : Nat) (j : Job) : State :=
  let p := edParOf j.op j.args
  let e := (s.cl c).ed
  let v := e.set p.st
  let o := edRun p j b v.rows
  let last : Bool := p.fin && decide (b + 1 = p.nb)
  let s := s.updCl c (fun k => { k with ed := k.ed.putSet p.st { v with rows := if last then [] else o.rows } })
  let s := s.numFlagIf c 8 o.sat
  if last then
    (upTo p.qs).foldl (fun s i =>
      let r := o.rows.getD i (EdRow.init p.d)
      let ys := (upTo p.d).map (fun n => edFinal p r n)
      let mark := r.empty && !r.poison.any id
      let s := s.numFlagIf c 8 (ys.any (fun y => y.2))
      (upTo (p.d / 64)).foldl (fun s q =>
        s.sched c (p.dlvAt j.issued i q) 0 jid uEddy j.slot
          (.dlv p.tgt ⟨p.sblk + q, p.srow0 + i, (upTo 64).map (fun x =>
            ⟨(ys.getD (64 * q + x) (0, false)).1, r.poison.getD (64 * q + x) false, 0, false, mark⟩)⟩)) s) s
  else s

/-- The mask descriptor's first word has been read: it is judged, unless a poisoned word or a second word still to
come (R154, R155). -/
def State.edMask (s : State) (c jid : Nat) (j : Job) : State :=
  let p := edParOf j.op j.args
  let w := j.word edMaskIdx 0
  if w.poison ≠ 0 then s
  else if bitOf (fieldAt w.bytes 12 1) 2 then
    (s.sched c (j.issued + 1) 1 jid uEddy j.slot (.rd (edMaskIdx + 1) uEddy [(p.mask + 1) % 2 ^ 17])).sched c
      (j.issued + 1) 2 jid uEddy j.slot (.run 1)
  else if edMaskBad w then s.stopX c kReserved j.slot else s

/-- The second word of the mask descriptor has been read. -/
def State.edMask2 (s : State) (c : Nat) (j : Job) : State :=
  if (j.word (edMaskIdx + 1) 0).poison ≠ 0 then s
  else if edMaskBad (j.word edMaskIdx 0) then s.stopX c kReserved j.slot else s

end Sys2Proof.Machine
end

