-- ==== Sys2Proof/Machine/Sluice.lean ====
section
/-! DEFINITION. The cluster Sluice (spec/04): deliveries, staging sets, the direct path, scale finding, conversion
and the codebook builder. -/

namespace Sys2Proof.Machine

/-- What one column of a target converts with (R119, R122). `plain`: no rescale entry (TBL = 0). -/
structure ColPar where
  plain : Bool
  negz : Bool
  ofmt : Nat
  rnd : Nat
  zp : Nat
  shr : Nat
  mul : Int
  bad : Bool
  deriving DecidableEq, Repr

/-- A rescale entry's fields (Table 4.3). -/
def entryPar (e : Nat) (bad : Bool) : ColPar :=
  ⟨false, bitOf e 31, bitsOf e 30 28, bitsOf e 27 26, bitsOf e 25 22, bitsOf e 21 16, signed 16 e, bad⟩

/-- The parameters of column `j` (R119). -/
def Sluice.col (k : Sluice) (p : SlParams) (j : Nat) : ColPar :=
  if p.tbl then
    let i := (p.tbase + j) % 512
    entryPar (k.rescale.get i 0).toNat (k.rescaleBad.contains i)
  else ⟨true, false, p.ofmt, p.rnd, 0, 0, 0, false⟩

/-- The rescaled value x of a delivered value (R115, R119, R120), NEGZ applied. -/
def rescaleX (c : ColPar) (fb : Nat) (d : Dlv) : Frac :=
  let e0 := if d.wide then d.e0 else -(fb : Int)
  let x := if c.plain then (Frac.ofInt d.val).shift e0
    else (Frac.ofInt (d.val * c.mul)).shift (e0 + 1 - c.shr)
  if c.negz ∧ x.num < 0 then ⟨0, 1⟩ else x

/-- The group of element (m, j): row part x 256 + column part (R126). -/
def groupOf (p : SlParams) (m j : Nat) : Nat :=
  if p.orient = 0 then m * 256 + j / p.g
  else if p.orient = 1 then m / p.g * 256 + j
  else m / p.g * 256 + j / p.g

/-- The first column of a group: its governing column (R122). -/
def govCol (p : SlParams) (j : Nat) : Nat := if p.orient = 1 then j else j / p.g * p.g

/-- The columns of the group that holds column `j`. -/
def groupCols (p : SlParams) (j : Nat) : List Nat :=
  if p.orient = 1 then [j] else (upTo p.g).map (fun i => j / p.g * p.g + i)

/-- The storage width of the operation (R122): that of the governing OFMT of column 0. -/
def Sluice.width (k : Sluice) (p : SlParams) : Nat := ofmtWidth (k.col p 0).ofmt

/-- A group that R122 writes poisoned for its rescale entries. -/
def Sluice.entryBad (k : Sluice) (p : SlParams) (j : Nat) : Bool :=
  let f := (k.col p (govCol p j)).ofmt
  f = 7 ∨ ofmtWidth f ≠ k.width p ∨ (groupCols p j).any (fun i => (k.col p i).rnd = 3)

/-- A group that uses a poisoned rescale entry in any column (R118). -/
def Sluice.entryPoison (k : Sluice) (p : SlParams) (j : Nat) : Bool :=
  (groupCols p j).any (fun i => (k.col p i).bad)

/-- The byte address of the scale of element (m, j)'s group (R128, R129). -/
def scaleAddr (p : SlParams) (osbase kc sq m j : Nat) : Nat :=
  if p.orient = 0 then
    let j0 := j / p.g * p.g
    (osbase + j0 / kc * sq) * 32 + m * ceilDiv kc p.g + j0 % kc / p.g
  else if p.orient = 1 then osbase * 32 + m / p.g * p.w + j
  else osbase * 32 + m / p.g * (p.w / p.g) + j / p.g

/-- The delivered value at row `m`, column `j` of a set of segments. -/
def segVal (t : Table (List Dlv)) (m j : Nat) : Dlv :=
  (t.get (m * 4 + j / 64) []).getD (j % 64) ⟨0, false, 0, true, false⟩

/-- The row whose row-empty marker governs: in ROW orientation the groups of the row (R151). -/
def rowEmpty (p : SlParams) (t : Table (List Dlv)) (m : Nat) : Bool :=
  p.orient = 0 && (upTo (p.w / 64)).any (fun b => (t.get (m * 4 + b) []).any (fun d => d.empty))

/-! ### Pass one -/

/-- The members (row, column) of the group of element (m, j). -/
def groupMembers (p : SlParams) (m j : Nat) : List (Nat × Nat) :=
  let rows := if p.orient = 0 then [m] else (upTo p.g).map (fun i => m / p.g * p.g + i)
  rows.flatMap (fun r => (groupCols p j).map (fun i => (r, i)))

/-- The dynamic scale of the group of element (m, j) (R125), 0xFF for a poisoned group, 0x00 for a row-empty row's
clean group (R151). -/
def Sluice.dynScale (k : Sluice) (p : SlParams) (t : Table (List Dlv)) (m j : Nat) : Nat :=
  let ms := groupMembers p m j
  let poison := ms.any (fun e => (segVal t e.1 e.2).poison) || k.entryPoison p j || k.entryBad p j
  if poison then 0xFF
  else if rowEmpty p t m then 0
  else
    let f := (k.col p (govCol p j)).ofmt
    findScale f (ms.map (fun e =>
      let c := k.col p e.2
      (rescaleX c p.fb (segVal t e.1 e.2), zpOf f c.zp))) false

/-- The rows, and the columns, at which groups start. -/
def groupRows (p : SlParams) : List Nat :=
  if p.orient = 0 then upTo p.m else (upTo (p.m / p.g)).map (fun i => i * p.g)
def groupStarts (p : SlParams) : List Nat :=
  if p.orient = 1 then upTo p.w else (upTo (p.w / p.g)).map (fun i => i * p.g)

/-- The scales of a set, as pass one fixes them: (group, code). -/
def Sluice.allScales (k : Sluice) (p : SlParams) (t : Table (List Dlv)) : List (Nat × Nat) :=
  (groupRows p).flatMap (fun m => (groupStarts p).map (fun j => (groupOf p m j, k.dynScale p t m j)))

/-- A staging set of a Sluice. -/
def Sluice.set (k : Sluice) (i : Nat) : StageSet := if i = 0 then k.s0 else k.s1
def Sluice.putSet (k : Sluice) (i : Nat) (v : StageSet) : Sluice :=
  if i = 0 then { k with s0 := v } else { k with s1 := v }

/-- Has every position of a fill been delivered? -/
def StageSet.complete (v : StageSet) : Bool :=
  v.posn.length = v.par.m * (v.par.w / 64) && v.segs.rows.length = v.posn.length

/-- The arrival of the last delivery of a fill. -/
def StageSet.lastAt (v : StageSet) : Nat := v.posn.foldl (fun a e => max a e.2) 0

/-- The tensor maxima after a set's values (R141): positive, negative, poisoned. -/
def Sluice.maxima (k : Sluice) (p : SlParams) (t : Table (List Dlv)) : Frac × Frac × Bool :=
  (upTo p.m).foldl (fun a m => (upTo p.w).foldl (fun (a : Frac × Frac × Bool) j =>
    let d := segVal t m j
    if d.poison then (a.1, a.2.1, true)
    else
      let x := rescaleX (k.col p j) p.fb d
      (a.1.max x, a.2.1.max x.neg, a.2.2)) a) (k.maxPos, k.maxNeg, k.maxBad)

/-! ### Pass two and the direct path: one output row -/

/-- One converted output row: codes, SAT, UNF, POI, and whether a group of the row calls for RESCALE-ENTRY. -/
structure OutRow where
  codes : List Nat
  sat : Bool
  unf : Bool
  poi : Bool
  deriving DecidableEq, Repr

/-- What the seeded stochastic rounding of a cluster uses (R67, R131). -/
structure StochPar where
  key : Nat
  seed : Nat
  ibase : Nat
  irow : Nat
  deriving DecidableEq, Repr

/-- Convert row `m` with the scale code of each of its groups (R62 to R70, R121). -/
def Sluice.convRow (k : Sluice) (p : SlParams) (t : Table (List Dlv)) (q : StochPar) (m : Nat)
    (sc : Nat → Nat) : OutRow :=
  (upTo p.w).foldl (fun (o : OutRow) j =>
    let s := sc (groupOf p m j)
    let c := k.col p j
    let f := (k.col p (govCol p j)).ofmt
    let d := segVal t m j
    if s = 0xFF then { o with codes := o.codes ++ [0], poi := true }
    else if s = 0 then
      let x := rescaleX c p.fb d
      { o with codes := o.codes ++ [0], unf := o.unf || (decide (x.num ≠ 0) && !d.empty) }
    else
      let r := stochR q.key q.seed ((q.ibase + m * q.irow + j) % 2 ^ 32)
      let e := convElem f c.rnd (zpOf f c.zp) r (rescaleX c p.fb d) s
      ⟨o.codes ++ [e.1], o.sat || e.2.1, o.unf || e.2.2, o.poi⟩) ⟨[], false, false, false⟩

/-- The nibbles of an output row, packed at the operation's width (R49, R130): word index and its 64 nibbles. -/
def packRow (width : Nat) (codes : List Nat) : List (Nat × List (Nat × Nat)) :=
  let per := 4 / width
  let nibs := ceilDiv codes.length per
  let nib := fun i => (upTo per).foldl (fun a e => a + codes.getD (i * per + e) 0 * 2 ^ (width * e)) 0
  (upTo (ceilDiv nibs 64)).map (fun w => (w, (upTo 64).map (fun i =>
    (i, if w * 64 + i < nibs then nib (w * 64 + i) else 0))))

/-- Set the Sluice flags of an output row (Table 2.9). -/
def State.slFlags (s : State) (c : Nat) (o : OutRow) : State :=
  ((s.numFlagIf c 12 o.sat).numFlagIf c 13 o.unf).numFlagIf c 14 o.poi

/-- The stochastic parameters of a cluster (R67, R131). -/
def State.stoch (s : State) (c : Nat) : StochPar :=
  let k := s.cl c
  ⟨(s.reg (regCtx k.seq.ctx 0x440)).toNat, k.sl.seed.toNat, k.sl.ibase.toNat, k.sl.irow.toNat⟩

/-- RESCALE-ENTRY of a row that first holds a group of R122 (log entry 12). -/
def State.rescaleMsg (s : State) (c : Nat) (p : SlParams) (m : Nat) : State :=
  let k := (s.cl c).sl
  if (p.orient = 0 ∨ m % p.g = 0) ∧ (groupStarts p).any (fun j => k.entryBad p j) then
    s.send c 0x06 0 true (s.ctxsOfCluster c)
  else s

/-- Write output words and scale bytes in c-cycle t as one access of Sluice (R130). -/
def State.slPut (s : State) (c t slot : Nat) (sub : Bool) (words : List (Nat × List (Nat × Nat)))
    (scales : List (Nat × Nat)) : State :=
  s.sched c t 1 0 uSluice slot (.wr sub (words.map (fun e => (e.1 % 2 ^ 17, e.2, []))
    ++ groupBytes (scales.map (fun e => (e.1 % 2 ^ 22, e.2, false)))))

/-- The scales of a set by group, as pass one fixed them. -/
def StageSet.scaleOf (v : StageSet) (g : Nat) : Nat :=
  let p := v.par
  let gs : List Nat := (groupRows p).flatMap (fun m => (groupStarts p).map (fun j => groupOf p m j))
  (lookup (gs.zip v.scales) g).getD 0xFF

/-- SL.P2: output row m of the set in c-cycle t (R116, R128 to R130, Table 4.6); m = M: the scale bytes of COL and
BLK orientation. -/
def State.passTwo (s : State) (c m t : Nat) (j : Job) (v : StageSet) : State :=
  let k := (s.cl c).sl
  let p := v.par
  let a0 := j.arg 0
  let a1 := j.arg 1
  let osbase := bitsOf a1 16 0
  let kc := if bitOf a1 17 then 128 else 64
  let sq := bitsOf a1 31 18
  let scl := fun (m : Nat) => (groupStarts p).map (fun x =>
    (scaleAddr p osbase kc sq m x, v.scaleOf (groupOf p m x)))
  if m = p.m then
    if p.orient = 0 then s else s.slPut c t j.slot false [] ((groupRows p).flatMap scl)
  else
    let o := k.convRow p v.segs (s.stoch c) m v.scaleOf
    let words := (packRow (k.width p) o.codes).map (fun e => (bitsOf a0 16 0 + m * bitsOf a0 31 17 + e.1, e.2))
    ((s.slPut c t j.slot true words (if p.orient = 0 then scl m else [])).slFlags c o).rescaleMsg c p m

/-! ### The direct path (R127) -/

/-- The fixed scale of the group of element (m, j), and whether its byte was read poisoned. -/
def Direct.fixedScale (d : Direct) (m j : Nat) : Nat :=
  if d.fsc.length = 1 then d.fsc.getD 0 0
  else
    let a := scaleAddr d.par 0 d.kc d.sq m j
    if d.fsPoison.getD a false then 0xFF else d.fsc.getD a 0

/-- Write row m of the direct path, complete 7 c-cycles ago, in c-cycle t. -/
def State.directRow (s : State) (c m t slot : Nat) : State :=
  let k := (s.cl c).sl
  let d := k.direct
  let p := d.par
  let newBad := (groupStarts p).filter (fun j =>
    (groupCols p j).any (fun i => (segVal d.segs m i).poison) || k.entryPoison p j || k.entryBad p j)
  let bad := (d.bad ++ newBad.map (fun j => groupOf p m j)).eraseDups
  let sc := fun (j : Nat) => if bad.contains (groupOf p m j) then 0xFF
    else if rowEmpty p d.segs m then 0 else d.fixedScale m j
  let tab := (groupStarts p).map (fun j => (groupOf p m j, sc j))
  let o := k.convRow p d.segs (s.stoch c) m (fun g => (lookup tab g).getD 0xFF)
  let words := (packRow (k.width p) o.codes).map (fun e => (d.obase + m * d.ostride + e.1, e.2))
  let written := d.written ++ [m]
  let whole := (upTo p.g).all (fun i => written.contains (m / p.g * p.g + i))
  let scales := if p.orient = 0 ∨ whole = true then
      (groupStarts p).map (fun j => (scaleAddr p d.osbase d.kc d.sq m j, sc j))
    else []
  let s := ((s.slPut c t slot (decide (p.orient = 0)) words scales).slFlags c o).rescaleMsg c p m
  let d' := { d with bad := bad, written := written, isOpen := decide (written.length ≠ p.m) }
  s.updCl c (fun kc => { kc with sl := { kc.sl with direct := d' } })

/-! ### Deliveries (R113 to R117) -/

/-- The position of a delivery in its target. -/
def Coming.pos (d : Coming) : Nat := d.row * 4 + d.block

/-- The target's parameters and positions (0 S0, 1 S1, 2 the direct path). -/
def Sluice.parOf (k : Sluice) (tgt : Nat) : SlParams := if tgt = 2 then k.direct.par else (k.set tgt).par
def Sluice.posOf (k : Sluice) (tgt : Nat) : List (Nat × Nat) := if tgt = 2 then k.direct.posn else (k.set tgt).posn

/-- The c-cycles in which rows of the direct path will be written for positions that become complete with `ds`. -/
def Sluice.rowsOut (k : Sluice) (ds : List Coming) : List Nat :=
  let all := k.direct.posn ++ ds.map (fun d => (d.pos, d.at_))
  (((ds.map (fun d => d.row)).eraseDups).filterMap (fun r =>
    let es := all.filter (fun e => e.1 / 4 = r)
    if es.length = k.direct.par.w / 64 then some (es.foldl (fun a e => max a e.2) 0 + 7) else none))

/-- Two output rows in one c-cycle (R117)? -/
def Sluice.outMeets (k : Sluice) (ts : List Nat) : Bool :=
  ts.any (fun t => k.outBusy.contains t) || ts.eraseDups.length ≠ ts.length

/-- Do deliveries to a target break R117? -/
def Sluice.refuses (k : Sluice) (tgt : Nat) (ds : List Coming) : Bool :=
  let busy := ds.map (fun d => (d.block, d.at_))
  let pos := ds.map (fun d => d.pos)
  let p := k.parOf tgt
  let closed := if tgt = 2 then !k.direct.isOpen || ds.any (fun d => d.at_ < k.direct.acceptAt)
    else (k.set tgt).st ≠ .filling
  closed
    || busy.eraseDups.length ≠ busy.length
    || busy.any (fun e => k.blockBusy.contains e)
    || ds.any (fun d => p.w / 64 ≤ d.block ∨ p.m ≤ d.row ∨ (k.posOf tgt).any (fun e => e.1 = d.pos))
    || pos.eraseDups.length ≠ pos.length
    || (tgt = 2 && k.outMeets (k.rowsOut ds))

/-- The Sluice with the positions of deliveries taken. -/
def Sluice.reserve (k : Sluice) (tgt : Nat) (ds : List Coming) : Sluice :=
  let k := { k with blockBusy := k.blockBusy ++ ds.map (fun (d : Coming) => (d.block, d.at_)) }
  let ps := ds.map (fun d => (d.pos, d.at_))
  if tgt = 2 then
    { k with outBusy := k.outBusy ++ k.rowsOut ds, direct := { k.direct with posn := k.direct.posn ++ ps } }
  else k.putSet tgt { (k.set tgt) with posn := (k.set tgt).posn ++ ps }

/-- The first of an operation's deliveries, in the order of issue, that breaks R117. -/
def Sluice.firstRefused : Sluice → List Promise → Option Promise
  | _, [] => none
  | k, p :: r => if k.refuses p.tgt p.ds then some p else (k.reserve p.tgt p.ds).firstRefused r

/-- The Sluice with all of them taken. -/
def Sluice.reserves (k : Sluice) (ps : List Promise) : Sluice := ps.foldl (fun (k : Sluice) p => k.reserve p.tgt p.ds) k

/-- A delivery arrives in c-cycle t: it is staged, poison sets SLC_POI (R124), and a row of the direct path that is
complete is written 7 c-cycles later. -/
def State.deliver (s : State) (c tgt t slot : Nat) (d : Delivery) : State :=
  let s := if d.vals.any (fun v => v.poison) then s.sched c (t + 4) 2 0 uSluice slot (.setFlag 14) else s
  let k := (s.cl c).sl
  let pos := d.row * 4 + d.block
  if tgt = 2 then
    let segs := k.direct.segs.set pos d.vals
    let s := s.updCl c (fun kc => { kc with sl := { k with direct := { k.direct with segs := segs } } })
    if (upTo (k.direct.par.w / 64)).all (fun b => segs.has (d.row * 4 + b)) then
      s.sched c (t + 7) 0 0 uSluice slot (.drow d.row)
    else s
  else
    let v := k.set tgt
    s.updCl c (fun kc => { kc with sl := k.putSet tgt { v with segs := v.segs.set pos d.vals } })

/-! ### Parameters, and the steps of operations in flight -/

/-- The parameters in ARG[a] of SL.P1 and SL.CV (Table 7.10). -/
def slParamsOf (w : Nat) : SlParams :=
  { m := bitsOf w 5 0 + 1, w := 64 * (bitsOf w 7 6 + 1), orient := bitsOf w 9 8, g := gsOf (bitsOf w 11 10),
    tbl := bitOf w 12, tbase := bitsOf w 21 13, ofmt := bitsOf w 24 22, rnd := bitsOf w 26 25, fb := bitsOf w 30 27,
    k4 := bitOf w 31 }

/-- A reserved combination of those parameters (R126, R221, Table 7.10). -/
def slParamsBad (w : Nat) : Bool :=
  let p := slParamsOf w
  bitsOf w 9 8 = 3 ∨ bitsOf w 11 10 = 3 ∨ (p.tbl = false ∧ (p.ofmt = 7 ∨ p.rnd = 3))
    ∨ (p.orient = 0 ∧ p.w % p.g ≠ 0)
    ∨ (p.orient ≠ 0 ∧ (p.g = 128 ∨ p.m % p.g ≠ 0))
    ∨ (p.orient = 2 ∧ p.w % p.g ≠ 0)

/-- The word addresses of the FSA scale words, relative to the FSA word (R127). -/
def fsaWordList (p : SlParams) (kc sq : Nat) : List Nat :=
  if p.orient = 0 then
    (upTo (ceilDiv p.w kc)).flatMap (fun q => (upTo (ceilDiv (p.m * ceilDiv kc p.g) 32)).map (fun i => q * sq + i))
  else if p.orient = 1 then upTo (ceilDiv (p.m / p.g * p.w) 32)
  else upTo (ceilDiv (p.m / p.g * (p.w / p.g)) 32)

/-- The chunk width and chunk stride that an argument word names (SL.P2 ARG[a+1], SL.CV ARG[a+2]). -/
def kcOf (w : Nat) : Nat := if bitOf w 17 then 128 else 64

/-- SL.CV: the fixed scale bytes have been read. -/
def State.slCvRead (s : State) (c : Nat) (j : Job) : State :=
  let p := slParamsOf (j.arg 0)
  let rel := fsaWordList p (kcOf (j.arg 2)) (bitsOf (j.arg 2) 31 18)
  let top := rel.foldl max 0
  let at_ := fun (w : Nat) => j.word ((rel.idxOf? w).getD rel.length) 0
  let bytes := (upTo (32 * (top + 1))).map (fun i => ((at_ (i / 32)).byte (i % 32), (at_ (i / 32)).bad (i % 32 / 8)))
  s.updCl c (fun kc => { kc with sl := { kc.sl with
    direct := { kc.sl.direct with fsc := bytes.map (fun e => e.1), fsPoison := bytes.map (fun e => e.2) } } })

/-- SL.TLD: the entries are loaded (R118). -/
def State.slTldDone (s : State) (c : Nat) (j : Job) : State :=
  let n := bitsOf j.op 22 17 + 1
  let q0 := bitsOf (j.arg 0) 22 17
  let ents := (upTo (8 * n)).map (fun e =>
    let mw := j.word (e / 8) 0
    (8 * q0 + e, fieldAt mw.bytes (4 * (e % 8)) 4, mw.bad (e % 8 / 2)))
  s.updCl c (fun kc => { kc with sl := ents.foldl (fun (k : Sluice) e =>
    { k with rescale := k.rescale.set e.1 (BitVec.ofNat 32 e.2.1),
             rescaleBad := if e.2.2 then e.1 :: k.rescaleBad.filter (fun x => x ≠ e.1)
               else k.rescaleBad.filter (fun x => x ≠ e.1) }) kc.sl })

/-- SL.ZLD: the zero points are loaded (R139). -/
def State.slZldDone (s : State) (c : Nat) (j : Job) : State :=
  let r := s.plainBytes (j.word 0 0)
  let nibs := r.1.flatMap (fun b => [b % 16, b / 16])
  r.2.updCl c (fun kc => { kc with sl :=
    { kc.sl with zpf := kc.sl.zpf.set (bitsOf j.op 22 21 * 2 + bitsOf j.op 20 20) nibs } })

/-- SL.SEED (R131). -/
def State.slSeedDone (s : State) (c : Nat) (j : Job) : State :=
  let v := j.arg 0
  let r := bitsOf j.op 22 21
  s.updCl c (fun kc => { kc with sl :=
    if r = 0 then { kc.sl with seed := BitVec.ofNat 32 v }
    else if r = 1 then { kc.sl with ibase := BitVec.ofNat 32 v }
    else { kc.sl with irow := BitVec.ofNat 24 v } })

/-- SL.KL (R140): codebook from bytes 0-15; maxima, sums and counts cleared. -/
def State.slKlDone (s : State) (c : Nat) (j : Job) : State :=
  let r := s.plainBytes (j.word 0 0)
  r.2.updCl c (fun kc => { kc with sl := { kc.sl with
    cb := (r.1.take 16).map (fun b => signed 8 b), maxPos := ⟨0, 1⟩, maxNeg := ⟨0, 1⟩, maxBad := false,
    sums := List.replicate 16 0, cnts := List.replicate 16 0 } })

/-- The code of the nearest codebook entry, the lowest on a tie (R142). -/
def nearestCode (cb : List Int) (y : Frac) : Nat :=
  ((upTo 16).foldl (fun (b : Nat × Frac) n =>
    let d := (y.add (Frac.ofInt (-(cb.getD n 0)))).abs
    if n = 0 ∨ d.lt b.2 then (n, d) else b) (0, ⟨0, 1⟩)).1

/-- The tensor scale of the maxima (R141, Table 4.4: capacities 127 and 128). -/
def tensorScale (k : Sluice) : Nat :=
  if k.maxBad then 0xFF
  else if k.maxPos.num ≤ 0 ∧ k.maxNeg.num ≤ 0 then 0
  else sc8Ceil (Frac.max ((k.maxPos.max ⟨0, 1⟩).divNat 127) ((k.maxNeg.max ⟨0, 1⟩).divNat 128))

/-- SL.KA: output row m in c-cycle t (R142), with the tensor scale fixed at issue. -/
def State.slKaRow (s : State) (c m t : Nat) (j : Job) (v : StageSet) : State :=
  let p := v.par
  let ts := j.note.getD 0 0xFF
  let r := (upTo p.w).foldl (fun (r : List Nat × Sluice) x =>
    if ts = 0 ∨ ts = 0xFF then (r.1 ++ [0], r.2)
    else
      let y := divScale (rescaleX (r.2.col p x) p.fb (segVal v.segs m x)) ts
      let n := nearestCode r.2.cb y
      let yh := (clampTo (-128) 127 (rneDiv y.num y.den)).1
      (r.1 ++ [n], { r.2 with sums := setAt r.2.sums n (r.2.sums.getD n 0 + yh),
                              cnts := setAt r.2.cnts n (r.2.cnts.getD n 0 + 1) })) ([], (s.cl c).sl)
  let s := s.updCl c (fun kc => { kc with sl := r.2 })
  let s := s.numFlagIf c 14 (decide (ts = 0xFF))
  s.slPut c t j.slot true ((packRow 4 r.1).map (fun e =>
    (bitsOf (j.arg 0) 16 0 + m * bitsOf (j.arg 0) 31 17 + e.1, e.2))) []

/-- SL.KU: the codebook update and its word in c-cycle t (R143). -/
def State.slKuDone (s : State) (c t : Nat) (j : Job) : State :=
  let k := (s.cl c).sl
  let cb := (upTo 16).map (fun n =>
    let m := k.cnts.getD n 0
    if m = 0 then k.cb.getD n 0 else (clampTo (-128) 127 (rneDiv (k.sums.getD n 0) m)).1)
  let bytes := cb.map (fun x => unsigned 8 x) ++ [k.ts] ++ List.replicate 15 0
  let s := s.updCl c (fun kc => { kc with sl :=
    { k with cb := cb, sums := List.replicate 16 0, cnts := List.replicate 16 0 } })
  s.slPut c t j.slot true [(bitsOf (j.arg 0) 16 0, (upTo 32).flatMap (fun i => byteNibs i (bytes.getD i 0)))] []

end Sys2Proof.Machine
end

