-- ==== Sys2Proof/Machine/Stripe.lean ====
section
/-! DEFINITION. The stripe engine (spec/06): ring descriptors, pointer lists, repacking and transposing. -/

namespace Sys2Proof.Machine

/-- A ring descriptor from its bytes (Table 6.2). -/
def ringOf (bs : List Byte) : Ring :=
  let f := fun o n => fieldAt bs o n
  { ebase := f 0 4, ss0 := f 4 2, sqs := f 6 2, slots := f 8 1, ppw := f 9 1, pad := f 10 1 % 4,
    g := gsOf (f 11 1 % 4), xw := f 12 2, xl := signed 16 (f 14 2), iw := f 16 2, ih := f 18 2 }

/-- A field outside Table 6.2, or a last word or scale slot beyond its end (R184). -/
def ringBad (bs : List Byte) : Bool :=
  let f := fun o n => fieldAt bs o n
  let r := ringOf bs
  2 ^ 17 ≤ f 0 4 ∨ 2 ^ 15 ≤ f 4 2 ∨ 2 ^ 15 ≤ f 6 2 ∨ r.slots = 0 ∨ 128 < r.slots ∨ r.ppw = 0 ∨ 64 < r.ppw
    ∨ 2 < f 10 1 ∨ 1 < f 11 1 ∨ r.xw = 0 ∨ 4096 < r.xw ∨ r.iw < 4 ∨ 16384 < r.iw ∨ r.ih < 4 ∨ 16384 < r.ih
    ∨ f 20 12 ≠ 0
    ∨ 2 ^ 17 < r.ebase + r.slots * r.xw * r.ppw
    ∨ 2 ^ 15 ≤ r.ss0 + (r.ppw - 1) * r.sqs + r.slots * r.xw - 1

/-- Scale bytes of a slot. -/
def Ring.nb (r : Ring) : Nat := if r.g = 32 then 2 else 1

/-- Position of pixel (row, x) within the ring's slots (R184). -/
def Ring.pos (r : Ring) (row x : Int) : Int := (row % (r.slots : Int)) * r.xw + (x - r.xl)

/-- Word and scale slot of pixel (row, x), chunk q (R184, R231). -/
def Ring.word (r : Ring) (row x : Int) (q : Nat) : Nat :=
  unsigned 17 ((r.ebase : Int) + r.pos row x * r.ppw + q)
def Ring.slot (r : Ring) (row x : Int) (q : Nat) : Nat :=
  unsigned 15 ((r.ss0 : Int) + q * r.sqs + r.pos row x)

/-- Byte address of the scale bytes of a scale slot (log entry 14). -/
def Ring.scaleByte (r : Ring) (slot : Nat) : Nat := Config.ringScaleBase * 32 + slot * r.nb

/-- One coordinate under PAD (R187): none outside the image. -/
def padCoord (pad : Nat) (n : Nat) (u : Int) : Option Int :=
  if 0 ≤ u ∧ u < n then some u
  else if pad = 1 then some (if u < 0 then 0 else (n : Int) - 1)
  else if pad = 2 then
    let v := if u < 0 then -u else 2 * (n : Int) - 2 - u
    if 0 ≤ v ∧ v < n then some v else none
  else none

/-- What an entry of ST.WIN stands for: nothing (null), a pixel, or a pixel outside the ring's columns. -/
inductive WinEntry where
  | null
  | pixel (row x : Int)
  | range
  deriving DecidableEq, Repr

/-- R187, R193. -/
def Ring.entry (r : Ring) (ry x : Int) : WinEntry :=
  match padCoord r.pad r.ih ry, padCoord r.pad r.iw x with
  | some y, some u => if r.xl ≤ u ∧ u < r.xl + r.xw then .pixel y u else .range
  | _, _ => .null

/-- The parameters of ST.WIN (Table 7.11). -/
structure WinPar where
  ring : Nat
  e0 : Nat
  m : Nat
  sx : Nat
  lbase : Nat
  q : Nat
  ry : Int
  x0 : Int
  deriving DecidableEq, Repr

def winParOf (op a0 a1 : Nat) : WinPar :=
  { ring := bitsOf op 23 21, e0 := 8 * bitsOf op 20 18, m := bitsOf op 17 12 + 1, sx := bitsOf op 11 9 + 1,
    lbase := bitsOf a0 16 0, q := bitsOf a0 22 17, ry := signed 16 (bitsOf a1 15 0), x0 := signed 16 (bitsOf a1 31 16) }

/-- A ring descriptor that is in force; the default is never used, since an invalid one is refused at issue. -/
def Stripe.ring (t : Stripe) (n : Nat) : Ring := t.rings.get n ⟨0, 0, 0, 1, 1, 0, 32, 1, 0, 4, 4⟩

/-- The list entry of position m (R187). -/
def Ring.entryWord (r : Ring) (p : WinPar) (m : Nat) : Nat :=
  match r.entry p.ry (p.x0 + m * p.sx) with
  | .pixel y x => r.slot y x p.q * 2 ^ 17 + r.word y x p.q
  | _ => 0xFFFFFFFF

/-- ST.RING: the descriptor has been read (R183, R184, R221). -/
def State.stRing (s : State) (c : Nat) (j : Job) : State :=
  let r := s.plainBytes (j.word 0 0)
  let bs : List Byte := r.1.map (fun b => BitVec.ofNat 8 b)
  if ringBad bs then r.2.stopX c kReserved j.slot
  else r.2.updCl c (fun k => { k with stp := { k.stp with rings := k.stp.rings.set (bitsOf j.op 23 21) (ringOf bs) } })

/-- ST.WIN: entry m is formed in c-cycle t (R187, R191, R193): its scale bytes are read, and the list word that it
completes is written in the next c-cycle. -/
def State.stWin (s : State) (c jid m t : Nat) (j : Job) : State :=
  let p := winParOf j.op (j.arg 0) (j.arg 1)
  let r := (s.cl c).stp.ring p.ring
  let e := r.entry p.ry (p.x0 + m * p.sx)
  match e with
  | .range => s.stopX c kStripeRange j.slot
  | _ =>
    let s := match e with
      | .pixel y x => s.sched c t 1 jid uStripe j.slot
          (.rd m uStripe (clWords (r.scaleByte (r.slot y x p.q)) r.nb))
      | _ => s
    if m % 8 = 7 ∨ m + 1 = p.m then
      let b := m / 8 * 8
      let nibs := (upTo 8).flatMap (fun i =>
        let v := if b + i < p.m then r.entryWord p (b + i) else 0xFFFFFFFF
        (upTo 8).map (fun n => (8 * i + n, v / 16 ^ n % 16)))
      s.sched c (t + 1) 1 jid uStripe j.slot (.wr true [((p.lbase + p.e0 / 8 + m / 8) % 2 ^ 17, nibs, [])])
    else s

/-- ST.WIN: the scale bytes of entry m have been read (R188). -/
def State.stWinScale (s : State) (c m : Nat) (j : Job) : State :=
  let p := winParOf j.op (j.arg 0) (j.arg 1)
  let r := (s.cl c).stp.ring p.ring
  match r.entry p.ry (p.x0 + m * p.sx) with
  | .pixel y x =>
    let a := r.scaleByte (r.slot y x p.q) % 2 ^ 22
    let bad := (upTo r.nb).any (fun i => let b := wordsByte (j.words m) a i; b.2 || b.1 = 0xFF)
    s.numFlagIf c 19 bad
  | _ => s

/-! ### ST.RPK and ST.TRP -/

/-- A group as ST.RPK and ST.TRP write it: a zero group and a poisoned group have element codes zero (R53, R54). -/
def stGroup (codes : List Nat) (scale : Nat) (bad : Bool) : List Nat × Nat :=
  if bad ∨ scale = 0xFF then (codes.map (fun _ => 0), 0xFF)
  else if scale = 0 then (codes.map (fun _ => 0), 0) else (codes, scale)

/-- Write a pixel word and its scale bytes in c-cycle t. -/
def State.stPixel (s : State) (c jid t slot : Nat) (r : Ring) (row x : Int) (q : Nat) (codes scales : List Nat) : State :=
  let sb := r.scaleByte (r.slot row x q)
  s.sched c t 1 jid uStripe slot (.wr true ((r.word row x q, (upTo 64).map (fun i => (i, codes.getD i 0)), [])
    :: groupBytes ((upTo scales.length).map (fun i => ((sb + i) % 2 ^ 22, scales.getD i 0, false)))))

/-- Is destination pixel x in the image but outside the ring's columns (R193)? -/
def Ring.outside (r : Ring) (x : Nat) : Bool :=
  decide (x < r.iw) && !(decide (r.xl ≤ (x : Int)) && decide ((x : Int) < r.xl + r.xw))

/-- The parameters of ST.RPK (Table 7.11). -/
structure RpkPar where
  ring : Nat
  c32 : Bool
  npx : Nat
  src : Nat
  ch : Nat
  ssrc : Nat
  row : Nat
  x : Nat
  pitch : Nat
  deriving DecidableEq, Repr

def rpkParOf (op : Nat) (a : List Nat) : RpkPar :=
  let w := fun i => a.getD i 0
  { ring := bitsOf op 23 21, c32 := bitOf op 20, npx := bitsOf op 17 12 + 1, src := bitsOf (w 0) 16 0,
    ch := 32 * (bitsOf (w 0) 23 17 + 1), ssrc := bitsOf (w 1) 21 0, row := bitsOf (w 2) 15 0,
    x := bitsOf (w 2) 31 16, pitch := bitsOf (w 3) 16 0 }

/-- Block j (32 channels) of pixel i: its word, first nibble within it, and its scale byte (R189; scales of the C32
form in group order, log entry 15). -/
def RpkPar.block (p : RpkPar) (i j : Nat) : Nat × Nat × Nat :=
  if p.c32 then ((p.src + j * p.pitch + i / 2) % 2 ^ 17, i % 2 * 32, (p.ssrc + j * 2 * p.pitch + i) % 2 ^ 22)
  else
    let n := i * p.ch + 32 * j
    ((p.src + n / 64) % 2 ^ 17, n % 64, (p.ssrc + i * (p.ch / 32) + j) % 2 ^ 22)

/-- The blocks of chunk q that hold channels. -/
def RpkPar.blocks (p : RpkPar) (q : Nat) : List Nat := [2 * q, 2 * q + 1].filter (fun j => j < p.ch / 32)

/-- The words that step n (pixel n / PPW, chunk n mod PPW) reads. -/
def RpkPar.words (p : RpkPar) (ppw n : Nat) : List Nat :=
  let bs : List (Nat × Nat × Nat) := (p.blocks (n % ppw)).map (fun j => p.block (n / ppw) j)
  List.eraseDups (List.append (bs.map (fun b => b.1)) (bs.map (fun b => b.2.2 / 32)))

/-- ST.RPK: the words of step n have been read in c-cycle t; the pixel word is written 3 c-cycles later (R189). -/
def State.stRpk (s : State) (c jid n t : Nat) (j : Job) : State :=
  let p := rpkParOf j.op j.args
  let r := (s.cl c).stp.ring p.ring
  let i := n / r.ppw
  let q := n % r.ppw
  if r.outside (p.x + i) then s.stopX c kStripeRange j.slot
  else
    let ws := p.words r.ppw n
    let wd := fun (a : Nat) => j.word n ((ws.idxOf? a).getD 99)
    let gs := (p.blocks q).map (fun b =>
      let e := p.block i b
      let w := wd e.1
      let sw := wd (e.2.2 / 32)
      let bad := (upTo 32).any (fun k => w.nibBad (e.2.1 + k)) || sw.bad (e.2.2 % 32 / 8)
      stGroup ((upTo 32).map (fun k => w.nib (e.2.1 + k))) (sw.byte (e.2.2 % 32)) bad)
    let s := s.numFlagIf c 19 (gs.any (fun g => g.2 = 0xFF))
    let scales := (upTo 2).map (fun k => (gs.getD k ([], 0)).2)
    s.stPixel c jid (t + 3) j.slot r p.row (p.x + i) q (gs.flatMap (fun g => g.1)) scales

/-- The parameters of ST.TRP (Table 7.11). -/
structure TrpPar where
  ring : Nat
  q : Nat
  src : Nat
  pitch : Nat
  ssrc : Nat
  spitch : Nat
  row : Nat
  x : Nat
  deriving DecidableEq, Repr

def trpParOf (op : Nat) (a : List Nat) : TrpPar :=
  let w := fun i => a.getD i 0
  { ring := bitsOf op 23 21, q := bitsOf op 17 12, src := bitsOf (w 0) 16 0, pitch := bitsOf (w 0) 31 17,
    ssrc := bitsOf (w 1) 21 0, spitch := bitsOf (w 2) 15 0, row := bitsOf (w 3) 15 0, x := bitsOf (w 3) 31 16 }

/-- The scale byte address of channel group j at pixel i (R190). -/
def TrpPar.scaleAt (p : TrpPar) (j i : Nat) : Nat := (p.ssrc + j * p.spitch + i) % 2 ^ 22

/-- ST.TRP: pixel word i is formed for c-cycle t (R190, R191). A source word whose read is still to come is taken as
memory holds it (log entry 15). -/
def State.stTrp (s : State) (c jid i t : Nat) (j : Job) : State :=
  let p := trpParOf j.op j.args
  let r := (s.cl c).stp.ring p.ring
  if r.outside (p.x + i) then s.stopX c kStripeRange j.slot
  else if r.iw ≤ p.x + i then
    s.stPixel c jid t j.slot r p.row (p.x + i) p.q [] (List.replicate r.nb 0)
  else
    let wd := fun (ch : Nat) => (j.words ch).getD 0 (s.word c ((p.src + ch * p.pitch) % 2 ^ 17))
    let gs := (upTo r.nb).map (fun g =>
      let chs := (upTo r.g).map (fun k => g * r.g + k)
      let a := p.scaleAt g i
      let b := s.clByte c a
      let bad := b.2 || chs.any (fun ch => (wd ch).nibBad i)
      stGroup (chs.map (fun ch => (wd ch).nib i)) b.1 bad)
    let s := s.numFlagIf c 19 (gs.any (fun g => g.2 = 0xFF))
    s.stPixel c jid t j.slot r p.row (p.x + i) p.q (gs.flatMap (fun g => g.1)) (gs.map (fun g => g.2))

end Sys2Proof.Machine
end

