-- ==== Sys2Proof/Machine/EdgeEngine.lean ====
section
/-! DEFINITION. The edge engine of a die (R203 to R211, R591): descriptor, terms, conversion and output. -/

namespace Sys2Proof.Machine

/-- An edge descriptor (Table 6.8). -/
structure EdgeDesc where
  head : Bool
  kh : Nat
  kw : Nat
  str : Nat
  cin : Nat
  cout : Nat
  af : Nat
  wf : Nat
  pad : Nat
  ig : Nat
  og : Nat
  fixed : Bool
  ea : Nat
  za : Int
  fsc : Nat
  ibase : Nat
  iw : Nat
  imh : Nat
  iy0 : Nat
  irn : Nat
  ox : Nat
  oy0 : Nat
  oy : Nat
  isb : Nat
  obase : Nat
  osb : Nat
  wbase : Nat
  tbase : Nat
  seed : Nat
  sidx : Nat
  deriving DecidableEq, Repr

/-- The weight format of a WF code (0 S4, 1 S3, 2 E2M1, 3 T2), as `weightCell` numbers it. -/
def edgeWf (f : Nat) : Nat := ([0, 2, 3, 5] : List Nat).getD f 0

/-- The descriptor in 64 bytes. -/
def edgeDescOf (bs : List Byte) : EdgeDesc :=
  let f := fun o n => fieldAt bs o n
  let af := f 5 1 % 4
  { head := f 0 1 = 1, kh := f 1 1 % 16, kw := f 1 1 / 16, str := f 2 1, cin := f 3 1, cout := f 4 1, af := af,
    wf := edgeWf (bitsOf (f 5 1) 4 2), pad := bitsOf (f 5 1) 6 5, ig := gsOf (bitsOf (f 6 1) 1 0),
    og := gsOf (bitsOf (f 6 1) 3 2), fixed := bitOf (f 6 1) 6, ea := f 7 1 % 64, za := zaOf (f 8 1 % 16 * 16) af,
    fsc := f 9 1, ibase := f 12 4, iw := f 16 2, imh := f 18 2, iy0 := f 20 2, irn := f 22 2, ox := f 24 2,
    oy0 := f 26 2, oy := f 28 2, isb := f 32 4 % 2 ^ 22, obase := f 36 4, osb := f 40 4 % 2 ^ 22, wbase := f 44 4,
    tbase := f 48 4, seed := f 52 4, sidx := f 56 4 }

/-- A value outside Table 6.8 or a non-zero reserved field (R205). -/
def edgeDescBad (bs : List Byte) : Bool :=
  let f := fun o n => fieldAt bs o n
  let d := edgeDescOf bs
  let k := fun (x : Nat) => ¬ ([1, 3, 5, 7] : List Nat).contains x
  1 < f 0 1 ∨ k d.kh ∨ k d.kw ∨ ¬ ([1, 2, 4] : List Nat).contains d.str
    ∨ d.cin = 0 ∨ (if d.head then 64 else 4) < d.cin ∨ d.cout = 0 ∨ (if d.head then 8 else 64) < d.cout
    ∨ 3 < bitsOf (f 5 1) 4 2 ∨ d.pad = 3 ∨ bitOf (f 5 1) 7
    ∨ bitsOf (f 6 1) 1 0 = 3 ∨ bitsOf (f 6 1) 3 2 = 3 ∨ bitsOf (f 6 1) 5 4 = 3 ∨ bitOf (f 6 1) 7
    ∨ (d.head = true ∧ d.ig = 128) ∨ (d.head = false ∧ d.og = 128)
    ∨ 63 < f 7 1 ∨ 15 < f 8 1 ∨ f 10 2 ≠ 0 ∨ 2 ^ 17 ≤ d.ibase ∨ d.iw < 4 ∨ 16384 < d.iw ∨ d.imh < 4 ∨ 16384 < d.imh
    ∨ d.imh ≤ d.iy0 ∨ d.irn = 0 ∨ 16384 < d.irn ∨ d.ox = 0 ∨ 16384 < d.ox ∨ d.oy = 0 ∨ 16384 < d.oy ∨ f 30 2 ≠ 0
    ∨ 2 ^ 22 ≤ f 32 4 ∨ 2 ^ 17 ≤ d.obase ∨ 2 ^ 22 ≤ f 40 4 ∨ 2 ^ 17 ≤ d.wbase ∨ 2 ^ 17 ≤ d.tbase ∨ f 60 4 ≠ 0

/-- C-cycles per output pixel (R203). -/
def EdgeDesc.cpp (d : EdgeDesc) : Nat :=
  if d.head then ceilDiv (d.cin * 64 * d.kh * d.kw) 128 else ceilDiv (d.cin * d.kh * d.kw) 16

/-- The c-cycle in which output pixel p is written, and that of completion (R209). -/
def EdgeDesc.outAt (d : EdgeDesc) (I p : Nat) : Nat := I + 22 + (p + 1) * d.cpp
def EdgeDesc.endAt (d : EdgeDesc) (I : Nat) : Nat := I + 24 + d.ox * d.oy * d.cpp

/-! ### Inputs and weights (R206) -/

/-- The input coordinate of tap (dy, dx) of output (oy, ox): none where PAD gives nothing. -/
def EdgeDesc.tapRow (d : EdgeDesc) (oy dy : Nat) : Option Nat :=
  (padCoord d.pad d.imh ((oy * d.str + dy : Nat) - (d.kh / 2 : Nat) : Int)).map Int.toNat
def EdgeDesc.tapCol (d : EdgeDesc) (ox dx : Nat) : Option Nat :=
  (padCoord d.pad d.iw ((ox * d.str + dx : Nat) - (d.kw / 2 : Nat) : Int)).map Int.toNat

/-- Word and scale byte of the input: FIRST (plane c, row ry, element rx), HEAD (chunk c of pixel (ry, rx), group
g). -/
def EdgeDesc.inWord (d : EdgeDesc) (c ry rx : Nat) : Nat :=
  (if d.head then d.ibase + ((ry - d.iy0) * d.iw + rx) * d.cin + c
   else d.ibase + (c * d.irn + ry - d.iy0) * ceilDiv d.iw 64 + rx / 64) % 2 ^ 17
def EdgeDesc.inScale (d : EdgeDesc) (c ry rx g : Nat) : Nat :=
  (if d.head then d.isb + ((ry - d.iy0) * d.iw + rx) * d.cin * ceilDiv 64 d.ig + c * ceilDiv 64 d.ig + g
   else d.isb + (c * d.irn + ry - d.iy0) * ceilDiv d.iw d.ig + g) % 2 ^ 22

/-- Bits of a weight element (R49). -/
def EdgeDesc.wBits (d : EdgeDesc) : Nat := if d.wf = 5 then 2 else 4

/-- The word in which the weight scales start. -/
def EdgeDesc.wScaleWord (d : EdgeDesc) : Nat :=
  d.wbase + (if d.head then d.cout * d.kh * d.kw * d.cin else ceilDiv (d.cout * d.cin * d.kh * d.kw * d.wBits) 256)

/-- Index of a weight (FIRST: element, HEAD: word), in the order of R206. -/
def EdgeDesc.wIdx (d : EdgeDesc) (co c dy dx : Nat) : Nat :=
  if d.head then ((co * d.kh + dy) * d.kw + dx) * d.cin + c else ((co * d.cin + c) * d.kh + dy) * d.kw + dx

/-- Weight element n of word (HEAD) or of the whole array (FIRST): cell, poisoned or reserved. -/
def State.edgeWeight (s : State) (k : Nat) (d : EdgeDesc) (i n : Nat) : Int × Bool :=
  let e := if d.head then n else i
  let per := 256 / d.wBits
  let w := s.word k ((d.wbase + (if d.head then i else e / per)) % 2 ^ 17)
  let n := e % per
  let c := weightCode d.wf w n
  (weightCell d.wf [] c, weightBad d.wf w n || weightRsvd d.wf c)

/-- A scale byte of cluster memory, 0xFF where poisoned. -/
def State.scaleByte (s : State) (k a : Nat) : Nat := let b := s.clByte k (a % 2 ^ 22); if b.2 then 0xFF else b.1

/-- Does input group g (of `len` nibbles from nibble `n0` of words from `w`) lie in a poisoned granule? -/
def State.nibsBad (s : State) (k w n0 len : Nat) : Bool :=
  (upTo (ceilDiv len 16)).any (fun i =>
    (s.word k ((w + (n0 + 16 * i) / 64) % 2 ^ 17)).nibBad ((n0 + 16 * i) % 64))

/-! ### Terms (R207) -/

/-- The terms of output (oy, ox, co) in their order, and whether the cells received a poisoned group. -/
def State.edgeTerms (s : State) (k : Nat) (d : EdgeDesc) (oy ox co : Nat) : List (Option Int) × Bool :=
  let wsb := d.wScaleWord * 32
  let term := fun (sa sw : Nat) (P : Int) => mxEdgeTerm d.ea sa sw P
  let ts : List (Option Int) :=
    if d.head then
      (upTo d.kh).flatMap (fun dy => (upTo d.kw).flatMap (fun dx =>
        match d.tapRow oy dy, d.tapCol ox dx with
        | some ry, some rx => (upTo d.cin).flatMap (fun q =>
            let w := s.word k (d.inWord q ry rx)
            let wi := d.wIdx co q dy dx
            (upTo (64 / d.ig)).flatMap (fun g =>
              let ns := (upTo d.ig).map (fun i => g * d.ig + i)
              let we := ns.map (fun n => s.edgeWeight k d wi n)
              let sa := if ns.any (fun n => w.nibBad n) then 0xFF else s.scaleByte k (d.inScale q ry rx g)
              let sw := if we.any (fun e => e.2) then 0xFF else s.scaleByte k (wsb + wi * (64 / d.ig) + g)
              let P := ((ns.zip we).map (fun e => actCell d.af d.za (w.nib e.1) * e.2.1)).foldl (fun x y => x + y) 0
              term sa sw P))
        | _, _ => []))
    else
      let all := (upTo (d.cin * d.kh * d.kw)).map (fun i => s.edgeWeight k d (co * d.cin * d.kh * d.kw + i) 0)
      let sw := if all.any (fun e => e.2) then 0xFF else s.scaleByte k (wsb + co)
      (upTo d.cin).flatMap (fun c => (upTo d.kh).flatMap (fun dy =>
        match d.tapRow oy dy with
        | none => []
        | some ry =>
          let taps := (upTo d.kw).filterMap (fun dx => (d.tapCol ox dx).map (fun rx => (dx, rx)))
          let gs := ((taps.map (fun e => e.2 / d.ig)).eraseDups).mergeSort
          gs.flatMap (fun u =>
            let bad := s.nibsBad k (d.inWord c ry (u * d.ig)) (u * d.ig % 64) d.ig
            let sa := if bad then 0xFF else s.scaleByte k (d.inScale c ry 0 u)
            let P := ((taps.filter (fun e => e.2 / d.ig = u)).map (fun e =>
              actCell d.af d.za ((s.word k (d.inWord c ry e.2)).nib (e.2 % 64))
                * (all.getD ((c * d.kh + dy) * d.kw + e.1) (0, false)).1)).foldl (fun x y => x + y) 0
            term sa sw P)))
  (ts, ts.any (fun t => t = none))
where
  mxEdgeTerm (ea sa sw : Nat) (P : Int) : List (Option Int) :=
    if sa = 0xFF ∨ sw = 0xFF then [none]
    else if sa = 0 ∨ sw = 0 then []
    else [some (rneShift (P * (sc8Sig sa : Int) * (sc8Sig sw : Int)) ((sc8Exp sa : Int) + sc8Exp sw - ea))]

/-- The accumulator of an output as a delivered value, with SAT and POI. -/
def State.edgeValue (s : State) (k : Nat) (d : EdgeDesc) (oy ox co : Nat) : Dlv × Bool × Bool :=
  let (ts, poi) := s.edgeTerms k d oy ox co
  let r := accAddAll ts
  (⟨r.1.getD 0, r.1.isNone, (d.ea : Int) - 36 - actD d.af - wfD d.wf, true, false⟩, r.2, poi)
where
  accAddAll (ts : List (Option Int)) : Option Int × Bool :=
    ts.foldl (fun (r : Option Int × Bool) t =>
      match r.1, t with
      | none, _ => r
      | some _, none => (none, r.2)
      | some v, some x => let y := sat28 (v + x); (some y.1, r.2 || y.2)) (some 0, false)

/-! ### Conversion and output (R208) -/

/-- What column `co` converts with: its rescale entry in memory. -/
def State.edgeCol (s : State) (k : Nat) (d : EdgeDesc) (co : Nat) : ColPar :=
  let a := d.tbase * 32 + 4 * co
  let e := leNat ((upTo 4).map (fun i => BitVec.ofNat 8 (s.clByte k ((a + i) % 2 ^ 22)).1))
  entryPar e (s.clByte k (a % 2 ^ 22)).2

/-- One output group: members (value, column parameters, logical index), group size, governing parameters, storage
width. Codes, scale, SAT, UNF, POI, RESCALE-ENTRY. -/
structure EdgeOut where
  codes : List Nat
  scale : Nat
  sat : Bool
  unf : Bool
  poi : Bool
  msg : Bool
  deriving DecidableEq, Repr

/-- Convert a group; members beyond the output are zero and are counted by `g` (R122, R125, R127, R208). -/
def edgeConv (d : EdgeDesc) (key width g : Nat) (gov : ColPar) (ms : List (Dlv × ColPar × Nat)) : EdgeOut :=
  let f := gov.ofmt
  let bad := decide (f = 7) || decide (ofmtWidth f ≠ width) || ms.any (fun e => e.2.1.rnd = 3)
  let poison := bad || ms.any (fun e => e.1.poison || e.2.1.bad)
  let xs := ms.map (fun e => (rescaleX e.2.1 0 e.1, zpOf f e.2.1.zp))
  let pad := List.replicate (g - ms.length) ((⟨0, 1⟩ : Frac), (0 : Int))
  let sc := if poison then 0xFF else if d.fixed then d.fsc else findScale f (xs ++ pad) false
  if sc = 0xFF then ⟨ms.map (fun _ => 0), 0xFF, false, false, true, bad⟩
  else if sc = 0 then ⟨ms.map (fun _ => 0), 0, false, xs.any (fun e => e.1.num ≠ 0), false, bad⟩
  else
    let r := ms.map (fun e =>
      convElem f e.2.1.rnd (zpOf f e.2.1.zp) (stochR key d.seed (e.2.2 % 2 ^ 32)) (rescaleX e.2.1 0 e.1) sc)
    ⟨r.map (fun e => e.1), sc, r.any (fun e => e.2.1), r.any (fun e => e.2.2), false, bad⟩

/-- The nibble writes of elements at positions e0, e0 + 1, ... of a row that starts at word w (R49). -/
def edgeNibs (w width e0 : Nat) (codes : List Nat) : List (Nat × List (Nat × Nat)) :=
  let per := 4 / width
  let nb := (upTo (ceilDiv codes.length per)).map (fun i =>
    (e0 / per + i, (upTo per).foldl (fun a x => a + codes.getD (i * per + x) 0 * 2 ^ (width * x)) 0))
  let ws := ((nb.map (fun e => e.1 / 64)).eraseDups)
  ws.map (fun x => ((w + x) % 2 ^ 17, (nb.filter (fun e => e.1 / 64 = x)).map (fun e => (e.1 % 64, e.2))))

/-- Flags of EE_NUMFLAG (Table 21.9). -/
def State.eeFlagIf (s : State) (die bit : Nat) (p : Bool) : State := if p then s.orReg (regEe die 8) (2 ^ bit) else s

/-- Write one group of an output: elements at nibble writes, one scale byte, flags and message. -/
def State.edgePut (s : State) (c jid t slot : Nat) (words : List (Nat × List (Nat × Nat))) (scs : List (Nat × Nat))
    (os : List EdgeOut) : State :=
  let die := dieOf c
  let s := s.sched c t 1 jid uEdge slot (.wr false (words.map (fun e => (e.1, e.2, []))
    ++ groupBytes (scs.map (fun e => (e.1 % 2 ^ 22, e.2, false)))))
  let s := ((s.eeFlagIf die 12 (os.any (fun o => o.sat))).eeFlagIf die 13 (os.any (fun o => o.unf))).eeFlagIf die 14
    (os.any (fun o => o.poi))
  if os.any (fun o => o.msg) then s.send (0x200 + 16 * die + 2) 0x06 0 true (s.ctxsOfCluster c) else s

/-- The values of outputs of one pixel, with the accumulator flags of the engine. -/
def State.edgeVals (s : State) (c : Nat) (d : EdgeDesc) (oy ox : Nat) (cos : List Nat) : List Dlv × State :=
  let die := dieOf c
  cos.foldl (fun (r : List Dlv × State) co =>
    let v := r.2.edgeValue c d oy ox co
    (r.1 ++ [v.1], (r.2.eeFlagIf die 0 v.2.1).eeFlagIf die 4 v.2.2)) ([], s)

/-- Output pixel p is formed, and written in c-cycle t (R208, R209). -/
def State.edgePixel (s : State) (c jid p t slot : Nat) (d : EdgeDesc) : State :=
  let key := (s.reg (regCtx (s.cl c).seq.ctx 0x440)).toNat
  let oy := d.oy0 + p / d.ox
  let ox := p % d.ox
  if d.head then
    let (_, s) := s.edgeVals c d oy ox (upTo d.cout)
    if ox % d.og = d.og - 1 ∨ ox + 1 = d.ox then
      (upTo d.cout).foldl (fun (s : State) co =>
        let x0 := ox / d.og * d.og
        let gov := s.edgeCol c d co
        let ms := (upTo (ox + 1 - x0)).map (fun i =>
          ((s.edgeValue c d oy (x0 + i) co).1, gov, d.sidx + (co * d.oy + oy - d.oy0) * d.ox + x0 + i))
        let w := ofmtWidth gov.ofmt
        let o := edgeConv d key w d.og gov ms
        let line := co * d.oy + oy - d.oy0
        let words := edgeNibs (d.obase + line * ceilDiv d.ox 64) w x0 o.codes
        s.edgePut c jid t slot words [(d.osb + line * ceilDiv d.ox d.og + ox / d.og, o.scale)] [o]) s
    else s
  else
    let (vs, s) := s.edgeVals c d oy ox (upTo d.cout)
    let cols := (upTo d.cout).map (fun co => s.edgeCol c d co)
    let col := fun (co : Nat) => cols.getD co ⟨true, false, 0, 0, 0, 0, 0, false⟩
    let width := ofmtWidth (col 0).ofmt
    let lin := (oy - d.oy0) * d.ox + ox
    let os := (upTo (64 / d.og)).map (fun g =>
      let cs := (upTo d.og).filterMap (fun i => if g * d.og + i < d.cout then some (g * d.og + i) else none)
      if cs = [] then (⟨[], 0, false, false, false, false⟩ : EdgeOut)
      else edgeConv d key width d.og (col (g * d.og)) (cs.map (fun co =>
        (vs.getD co ⟨0, false, 0, true, false⟩, col co, d.sidx + lin * d.cout + co))))
    let codes := os.flatMap (fun o => o.codes ++ List.replicate (d.og - o.codes.length) 0)
    let nibs := (packRow width codes).map (fun e => ((d.obase + lin + e.1) % 2 ^ 17, e.2))
    s.edgePut c jid t slot nibs
      ((upTo os.length).map (fun g => (d.osb + lin * (64 / d.og) + g, (os.getD g ⟨[], 0, false, false, false, false⟩).scale)))
      os

/-- The words that output pixel p reads: inputs, their scale bytes, weights and rescale entries. -/
def EdgeDesc.pixelWords (d : EdgeDesc) (p : Nat) : List Nat :=
  let oy := d.oy0 + p / d.ox
  let ox := p % d.ox
  let ins := (upTo d.kh).flatMap (fun dy => (upTo d.kw).flatMap (fun dx =>
    match d.tapRow oy dy, d.tapCol ox dx with
    | some ry, some rx => (upTo d.cin).flatMap (fun c =>
        d.inWord c ry rx :: (if d.head then clWords (d.inScale c ry rx 0) (64 / d.ig)
          else clWords (d.inScale c ry rx (rx / d.ig)) 1))
    | _, _ => []))
  let nw := d.wScaleWord - d.wbase
  let nsb := if d.head then d.cout * d.kh * d.kw * d.cin * (64 / d.ig) else d.cout
  let ws := (upTo (nw + ceilDiv nsb 32)).map (fun i => (d.wbase + i) % 2 ^ 17)
  (ins ++ ws ++ clWords (d.tbase * 32) (4 * d.cout)).eraseDups

/-- Is an input row of output pixel p outside the region rows (R210)? -/
def EdgeDesc.rangeBad (d : EdgeDesc) (p : Nat) : Bool :=
  (upTo d.kh).any (fun dy =>
    match d.tapRow (d.oy0 + p / d.ox) dy with
    | none => false
    | some ry => decide (ry < d.iy0) || decide (d.iy0 + d.irn ≤ ry))

/-- A run ends by a stop of its cluster: EE_STAT.ERR and BUSY (R210, R211). -/
def State.edgeStop (s : State) (c err slot : Nat) : State :=
  let r := regEe (dieOf c) 4
  ((s.setFld r 9 8 err).setFld r 0 0 0).stopX c kEdgeDescriptor slot

/-- The descriptor of a run, from its job. -/
def Job.edgeDesc (j : Job) : EdgeDesc := edgeDescOf ((j.word 0 0).bytes ++ (j.word 0 1).bytes)

/-- The descriptor has been read: it is judged, and the first output pixel scheduled (R205, R210). -/
def State.edgeStart (s : State) (c jid : Nat) (j : Job) : State :=
  let d := j.edgeDesc
  if (j.word 0 0).poison ≠ 0 ∨ (j.word 0 1).poison ≠ 0 then s.edgeStop c 1 j.slot
  else if edgeDescBad ((j.word 0 0).bytes ++ (j.word 0 1).bytes) then s.edgeStop c 2 j.slot
  else s.sched c (d.outAt j.issued 0 - 1) 0 jid uEdge j.slot (.run 10)

/-- The c-cycle before the output of pixel p: its words are presented (step 10 + 2p), then the pixel is formed
(step 11 + 2p). Log entry 16. -/
def State.edgeStep (s : State) (c jid i : Nat) (j : Job) : State :=
  let d := j.edgeDesc
  let p := (i - 10) / 2
  let t := d.outAt j.issued p
  if i % 2 = 0 then
    if d.rangeBad p then s.edgeStop c 3 j.slot
    else (s.sched c (t - 1) 1 jid uEdge j.slot (.rd 5 99 (d.pixelWords p))).sched c (t - 1) 2 jid uEdge j.slot
      (.run (i + 1))
  else
    let s := s.edgePixel c jid p t j.slot d
    if p + 1 < d.ox * d.oy then s.sched c (d.outAt j.issued (p + 1) - 1) 0 jid uEdge j.slot (.run (i + 1)) else s

end Sys2Proof.Machine
end

