-- ==== Sys2Proof/Machine/Matrix.lean ====
section
/-! DEFINITION. What the matrix tiles do in each c-cycle (spec/03): weight loads, activation rows, terms,
accumulation and drains. -/

namespace Sys2Proof.Machine

/-! ### Parameters (Tables 3.3 to 3.5, 7.5 to 7.7) -/

/-- Shape codes of [27:25] (R232). -/
def shT : Nat := 0
def shP : Nat := 1
def shQ : Nat := 2
def shW : Nat := 3
def shG : Nat := 4

/-- The parameters of a matrix operation. -/
structure MxPar where
  shape : Nat
  tsel : Nat
  pl : Nat
  ax : Nat
  af : Nat
  gsf : Nat
  acc : Bool
  half : Nat
  m : Nat
  abase : Nat
  astride : Nat
  sbase : Nat
  ea : Nat
  deriving DecidableEq, Repr

/-- Table 7.5. -/
def mxParOf (op a0 a1 : Nat) : MxPar :=
  { shape := bitsOf op 27 25, tsel := bitsOf op 24 23, pl := bitsOf op 22 22, ax := bitsOf op 21 21,
    af := bitsOf op 20 19, gsf := bitsOf op 18 17, acc := bitOf op 16, half := bitsOf op 15 15,
    m := bitsOf op 14 9 + 1, abase := bitsOf a0 16 0, astride := bitsOf a0 31 17, sbase := bitsOf a1 16 0,
    ea := bitsOf a1 22 17 }

/-- The tiles of a shape (Table 3.3). -/
def MxPar.tiles (p : MxPar) : List Nat :=
  if p.shape = shP then [p.tsel % 2 * 2, p.tsel % 2 * 2 + 1]
  else if p.shape = shQ ∨ p.shape = shW then [0, 1, 2, 3]
  else [p.tsel]

/-- The tiles whose accumulators the shape writes (Table 3.3). -/
def MxPar.accTiles (p : MxPar) : List Nat := if p.shape = shQ then [2, 3] else p.tiles

/-- The reduction length of the shape (Table 3.4). -/
def MxPar.k (p : MxPar) : Nat := if p.shape = shQ then 128 else 64

/-- Group size, elements of a group that the operation covers (R60), groups, and scale bytes of a row (R85). -/
def MxPar.g (p : MxPar) : Nat := gsOf p.gsf
def MxPar.ge (p : MxPar) : Nat := min p.g p.k
def MxPar.groups (p : MxPar) : Nat := p.k / p.ge
def MxPar.nsc (p : MxPar) : Nat := ceilDiv p.k p.g

/-- Edge occupancy (Table 3.4). -/
def MxPar.occ (p : MxPar) (k4 : Bool) : Nat :=
  (if k4 then 2 * p.m else p.m) + (if p.shape = shG then 2 else 0)

/-- The c-cycle in which row m is read at the edge (R85, R93, R108). -/
def MxPar.readAt (p : MxPar) (k4 : Bool) (I m : Nat) : Nat :=
  I + (if p.shape = shG then 2 else 0) + (if k4 then 2 * m else m)

/-- The c-cycle in which tile t writes accumulator row m (R84, R93, R96, Table 7.12). -/
def MxPar.accAt (p : MxPar) (k4 : Bool) (I m t : Nat) : Nat :=
  let F := if p.shape = shQ ∨ (p.shape = shW ∧ 2 ≤ t) then 127 else 63
  p.readAt k4 I m + F + (if k4 then 70 else 68)

/-- The number of scale words of MX.LD (Table 3.2); `wf`, `block`, `gsf` as in Table 7.6. -/
def ldScaleWords (wf : Nat) (block : Bool) (gsf : Nat) : Nat :=
  if wf = 7 then 1
  else if block then 1
  else if wfTwoLane wf then (if gsf = 0 then 8 else 4)
  else if gsf = 0 then 4 else 2

/-! ### Tiles -/

/-- Tile t of a cluster. -/
def Cluster.tile (k : Cluster) (t : Nat) : Tile := k.tiles.get t Tile.reset

/-- The state with a tile changed. -/
def State.updTile (s : State) (c t : Nat) (f : Tile → Tile) : State :=
  s.updCl c (fun k => { k with tiles := k.tiles.set t (f (k.tile t)) })

/-- Plane p of a tile. -/
def Tile.plane (t : Tile) (p : Nat) : Plane := if p = 0 then t.plane0 else t.plane1
def Tile.setPlane (t : Tile) (p : Nat) (v : Plane) : Tile :=
  if p = 0 then { t with plane0 := v } else { t with plane1 := v }

/-- An accumulator row as cluster reset leaves it (R101). -/
def AccRow.zero : AccRow := ⟨List.replicate 128 ⟨some 0, 0⟩, 0, 0, 0, 0⟩

/-- Accumulator row r of a tile. -/
def Tile.row (t : Tile) (r : Nat) : AccRow := t.acc.get r AccRow.zero

/-! ### Weight groups -/

/-- The scale code of the group of element (k, n) of a plane, 0xFF where its byte was read poisoned. -/
def Plane.scaleOf (v : Plane) (k n : Nat) : Nat :=
  let g := gsOf v.gs
  let i :=
    if v.wf = 7 then 16
    else if v.block then k / g * (64 / g) + n / g
    else k / g * (if wfTwoLane v.wf then 128 else 64) + n
  let w := v.scales.getD (i / 32) ⟨[], 0⟩
  let bad := if v.wf = 7 then w.bad 0 || w.bad 1 || w.bad 2 else w.bad (i % 32 / 8)
  if bad then 0xFF else w.byte (i % 32)

/-- The codebook of a K4 plane (R94). -/
def Plane.codebook (v : Plane) : List Int :=
  ((v.scales.getD 0 ⟨[], 0⟩).bytes.take 16).map (fun b => signed 8 b.toNat)

/-- Element (k, n) of a plane: cell integer, poisoned. -/
def Plane.elem (v : Plane) (cb : List Int) (k n : Nat) : Int × Bool :=
  let w := v.rows.getD k ⟨[], 0⟩
  let c := weightCode v.wf w n
  (weightCell v.wf cb c, weightBad v.wf w n || weightRsvd v.wf c)

/-- One weight group of a plane as an output sees it: cells in the order of K, scale code (0xFF: poisoned), weight
zero point. -/
structure WGroup where
  cells : List Int
  scale : Nat
  zw : Int
  deriving DecidableEq, Repr

/-- The zero point of an output column (R138, R139). -/
def Sluice.zwOf (k : Sluice) (zpm : Bool) (t p ax : Nat) (v : Plane) (n : Nat) : Int :=
  if zpm ∧ ax = 0 ∧ v.wf < 3 then
    let z := (k.zpf.get (2 * t + p) []).getD n 0
    if v.wf = 1 then z else signed 4 z
  else 0

/-- The weight group of output `n` over positions k0 ... k0 + len - 1 of a plane, along axis `ax` (R89). -/
def Plane.group (v : Plane) (ax n k0 len : Nat) (zw : Int) : WGroup :=
  let cb := v.codebook
  let es := (upTo len).map (fun i => if ax = 0 then v.elem cb (k0 + i) n else v.elem cb n (k0 + i))
  let sc := if ax = 0 then v.scaleOf k0 n else v.scaleOf n k0
  ⟨es.map (fun e => e.1), if es.any (fun e => e.2) then 0xFF else sc, zw⟩

/-! ### Activation groups -/

/-- One activation group: cells with the zero point subtracted, scale code (0xFF: poisoned). -/
structure AGroup where
  cells : List Int
  scale : Nat
  deriving DecidableEq, Repr

/-- The groups of an activation row (R85): `ws` holds the element words, then the words that hold the scale bytes
from byte address `sb` on. -/
def actGroups (p : MxPar) (za : Int) (ws : List MemWord) (sb : Nat) : List AGroup :=
  let nw := p.k / 64
  (upTo p.groups).map (fun q =>
    let ks := (upTo p.ge).map (fun i => q * p.ge + i)
    let el := fun (k : Nat) => ws.getD (k / 64) ⟨[], 0⟩
    let sc := wordsByte (ws.drop nw) sb q
    let bad := sc.2 || ks.any (fun k => (el k).nibBad (k % 64))
    ⟨ks.map (fun k => actCell p.af za ((el k).nib (k % 64))), if bad then 0xFF else sc.1⟩)

/-- The term of one group (R58, R61, R94, R137): none where it is poisoned, no term for a zero group. -/
def mxTerm (ea : Nat) (a : AGroup) (w : WGroup) : List (Option Int) :=
  if a.scale = 0xFF ∨ w.scale = 0xFF then [none]
  else if a.scale = 0 ∨ w.scale = 0 then []
  else
    let P := ((a.cells.zip w.cells).map (fun e => e.1 * (e.2 - w.zw))).foldl (fun x y => x + y) (0 : Int)
    let T := P * (sc8Sig a.scale : Int) * (sc8Sig w.scale : Int)
    [some (rneShift T ((sc8Exp a.scale : Int) + sc8Exp w.scale - ea))]

/-- The two halves of a group that spans both tiles of MX.Q (R97): one scale where the two bytes are equal, poisoned
where they differ. -/
def joinGroups (u v : WGroup) : WGroup :=
  ⟨u.cells.map (fun x => x - u.zw) ++ v.cells.map (fun x => x - v.zw), if u.scale = v.scale then u.scale else 0xFF, 0⟩

/-- The weight groups of output `n` of accumulator tile `t`, in increasing order along K (R100). -/
def MxPar.wGroups (p : MxPar) (k : Cluster) (zpm : Bool) (t n : Nat) : List WGroup :=
  let one := fun (u k0 len : Nat) =>
    let v := (k.tile u).plane p.pl
    v.group p.ax n k0 len (k.sl.zwOf zpm u p.pl p.ax v n)
  if p.shape = shQ then
    if p.g = 128 then [joinGroups (one (t - 2) 0 64) (one t 0 64)]
    else (upTo (64 / p.g)).map (fun q => one (t - 2) (q * p.g) p.g)
      ++ (upTo (64 / p.g)).map (fun q => one t (q * p.g) p.g)
  else (upTo p.groups).map (fun q => one t (q * p.ge) p.ge)

/-- Is the plane of the operation K4, or two-lane? -/
def MxPar.isK4 (p : MxPar) (k : Cluster) : Bool := ((k.tile (p.tiles.getD 0 0)).plane p.pl).wf = 7
def MxPar.isTwo (p : MxPar) (k : Cluster) : Bool := wfTwoLane ((k.tile (p.tiles.getD 0 0)).plane p.pl).wf

/-- d of the operation (R83). -/
def MxPar.d (p : MxPar) (k : Cluster) : Nat :=
  actD p.af + wfD ((k.tile (p.tiles.getD 0 0)).plane p.pl).wf

/-- The tiles whose cells receive group q of the activation row (R96, R97). -/
def MxPar.recvTiles (p : MxPar) (q : Nat) : List Nat :=
  if p.shape = shQ then
    if p.g = 128 then [0, 1, 2, 3] else if q * p.g < 64 then [0, 1] else [2, 3]
  else p.tiles

/-- The activation groups of row m of a job: poisoned throughout where its list entry was, none where it is null
(R107). -/
def MxPar.rowGroups (p : MxPar) (za : Int) (j : Job) (m : Nat) : Option (List AGroup) :=
  let ws := j.words m
  let row := fun (sb : Nat) => some (actGroups p za ws sb)
  if p.shape = shG then
    let lw := j.word (1000 + m / 8) 0
    if lw.bad (m % 8 / 2) then some (List.replicate p.groups ⟨[], 0xFF⟩)
    else
      let e := fieldAt lw.bytes (4 * (m % 8)) 4
      if e = 0xFFFFFFFF then none else row (p.sbase * 32 + bitsOf e 31 17 * p.nsc)
  else row (p.sbase * 32 + m * p.nsc)

/-- A row has been read at the edge: form its terms, and let each tile add them in its c-cycle, in which MX_POI is set in the
tile that holds the accumulator and in those whose cells received a poisoned group (R61, R84, R100, R103). -/
def State.mxRow (s : State) (c jid m : Nat) (j : Job) : State :=
  let k := s.cl c
  let p := mxParOf j.op (j.arg 0) (j.arg 1)
  let slcfg := k.seq.slcfg.toNat
  let k4 := p.isK4 k
  let two := p.isTwo k
  let gs := p.rowGroups (zaOf slcfg p.af) j m
  let ncol := if two then 128 else 64
  p.accTiles.foldl (fun s t =>
    let cols : List (List (Option Int) × List Bool) := (upTo ncol).map (fun n =>
      match gs with
      | none => ([], [])
      | some ags =>
        let ws := p.wGroups k (bitOf slcfg 0) t n
        ((ags.zip ws).flatMap (fun e => mxTerm p.ea e.1 e.2), ws.map (fun w => decide (w.scale = 0xFF))))
    let hit := (if cols.any (fun e => e.2.any id) then [t] else [])
      ++ (if p.shape = shQ ∧ cols.any (fun e => (e.2.take (p.groups / 2)).any id) = true then [t - 2] else [])
      ++ (upTo p.groups).flatMap (fun q =>
        if ((gs.getD []).getD q ⟨[], 0⟩).scale = 0xFF then t :: p.recvTiles q else [])
    let s := hit.eraseDups.foldl (fun (s : State) u =>
      s.sched c (p.accAt k4 j.issued m t) 2 jid (uTile t) j.slot (.setFlag (4 + u))) s
    s.sched c (p.accAt k4 j.issued m t) 2 jid (uTile t) j.slot
      (.acc ⟨t, m, if two then 0 else 64 * p.half, !p.acc, p.ea, p.d k, cols.map (fun e => e.1)⟩)) s

/-- Eight list entries have been read: read the rows that they address (R106 to R108). -/
def State.mxList (s : State) (c id i : Nat) (j : Job) : State :=
  let p := mxParOf j.op (j.arg 0) (j.arg 1)
  let k4 := p.isK4 (s.cl c)
  let lw := j.word (1000 + i) 0
  (upTo 8).foldl (fun s n =>
    let m := 8 * i + n
    let e := fieldAt lw.bytes (4 * n) 4
    if p.m ≤ m ∨ lw.bad (n / 2) ∨ e = 0xFFFFFFFF then s
    else
      s.sched c (p.readAt k4 j.issued m) 1 id (uTile p.tsel) j.slot
        (.rd m (uTile p.tsel) (bitsOf e 16 0 :: clWords (p.sbase * 32 + bitsOf e 31 17 * p.nsc) p.nsc))) s

/-- Add terms to one entry (R57, R61): the entry, and whether an addition saturated. -/
def accAdd (e : AccEntry) (clear : Bool) (ts : List (Option Int)) : AccEntry × Bool :=
  let e0 := if clear then some 0 else e.val
  let r := ts.foldl (fun (r : Option Int × Bool) t =>
    match r.1, t with
    | none, _ => r
    | some _, none => (none, r.2)
    | some v, some x => let y := sat28 (v + x); (some y.1, r.2 || y.2)) (e0, false)
  (⟨r.1, match r.1 with | none => 0 | some v => (v % 3).toNat⟩, r.2)

/-- An accumulator row is written (R58, R100, R101, R103). -/
def State.accWrite (s : State) (c : Nat) (w : AccWrite) : State :=
  let row := ((s.cl c).tile w.tile).row w.row
  let new := (upTo 128).map (fun i =>
    let e := row.ents.getD i ⟨some 0, 0⟩
    if w.col0 ≤ i ∧ i < w.col0 + w.cols.length then accAdd e w.clear (w.cols.getD (i - w.col0) []) else (e, false))
  let lo := decide (w.col0 = 0)
  let hi := decide (64 < w.col0 + w.cols.length)
  let r : AccRow := ⟨new.map (fun e => e.1), if lo then w.ea else row.ea0, if lo then w.d else row.d0,
    if hi then w.ea else row.ea1, if hi then w.d else row.d1⟩
  let s := s.updTile c w.tile (fun t => { t with acc := t.acc.set w.row r })
  if new.any (fun e => e.2) then s.setRowSat c w.tile w.row else s

/-! ### MX.LD -/

/-- A weight row or scale word has been read: it enters the plane of tile t (R86). Index 100 x (tile's place in the
group) + i: row i below 64, scale word i - 64 above. -/
def State.mxLoaded (s : State) (c n : Nat) (j : Job) : State :=
  let first := if bitsOf j.op 21 20 = 0 then bitsOf j.op 24 23 else if bitsOf j.op 21 20 = 1
    then bitsOf j.op 24 23 / 2 * 2 else 0
  let t := first + n / 100
  let i := n % 100
  let w := j.word n 0
  s.updTile c t (fun tl =>
    let v := tl.plane (bitsOf j.op 22 22)
    tl.setPlane (bitsOf j.op 22 22)
      (if i < 64 then { v with rows := v.rows ++ [w] } else { v with scales := v.scales ++ [w] }))

/-! ### MX.DR -/

/-- The 64 entries of a half of an accumulator row as the drain delivers them: all poisoned, with a RESIDUE message
for the first, where an entry disagrees with its residue (R104). -/
def State.drainHalf (s : State) (c t r half : Nat) : List (Option Int) × State :=
  let es := (((s.cl c).tile t).row r).ents
  let h := (upTo 64).map (fun i => es.getD (64 * half + i) ⟨some 0, 0⟩)
  let bad := h.findIdx? (fun e => match e.val with | none => false | some v => (v % 3).toNat ≠ e.res)
  match bad with
  | none => (h.map (fun e => e.val), s)
  | some i => (List.replicate 64 none,
      s.send c 0x12 (t * 2 ^ 30 + r * 2 ^ 24 + (64 * half + i) * 2 ^ 17) true (s.ctxsOfCluster c))

/-- The drain reads row r0 + i (four-bit), or half i mod 2 of row r0 + i / 2 (two-lane), and the row is on its way
for 2 c-cycles (R101). -/
def State.mxDrain (s : State) (c id i t0 : Nat) (j : Job) : State :=
  let op := j.op
  let t := bitsOf op 24 23
  let l2 := bitOf op 21
  let r := bitsOf op 20 15 + (if l2 then i / 2 else i)
  let half := if l2 then i % 2 else bitsOf op 22 22
  let (vs, s) := s.drainHalf c t r half
  let row := ((s.cl c).tile t).row r
  let ea := if half = 0 then row.ea0 else row.ea1
  let d := if half = 0 then row.d0 else row.d1
  let act : Act :=
    if bitOf op 8 then .redIn (bitsOf op 7 5) ⟨ea, d, vs⟩
    else .dlv (bitsOf op 7 6) ⟨bitsOf op 5 4 + (if l2 then i % 2 else 0), r,
      vs.map (fun v => ⟨v.getD 0, v.isNone, (ea : Int) - 36 - d, true, false⟩)⟩
  s.sched c (t0 + 2) 0 id (uTile t) j.slot act

end Sys2Proof.Machine
end

