-- ==== Sys2Proof/Machine/Hbm.lean ====
section
/-! DEFINITION. Memories of the hub, and the HBM controller (spec/10): accesses under Table 8.1, pieces, turns,
refresh, aggressors, scrub, verification, self-refresh, registers. -/

namespace Sys2Proof.Machine

/-! ### Hub memories: HBM (space 0), hub buffer (space 2), retention memory (space 5) -/

/-- Fields of an HBM offset (Table 10.1). -/
def hbPair (off : Nat) : Nat := bitsOf off 35 31
def hbRow (off : Nat) : Nat := bitsOf off 30 17
def hbBank (off : Nat) : Nat := 2 * bitsOf off 35 31 + bitsOf off 16 16
def hbPc (off : Nat) : Nat := bitsOf off 15 10
def hbCol (off : Nat) : Nat := bitsOf off 9 5

/-- The source of a pseudo-channel (Table 16.2). -/
def hbSrc (pc : Nat) : Nat := 0x300 + 64 * (pc / 32) + pc % 32

/-- The kind code of a finding at an HBM burst (Table 10.3). -/
def Finding.hbmKind : Finding → Option Nat
  | .corrected => some 0x38
  | .uncorrectable => some 0x39
  | .merge => some 0x3B
  | .ueCleared => some 0x3A
  | .poisonRead => none

/-- Rank of an HBM finding for the log (R249, R315): default severities 1, 1, 1, 0. -/
def Finding.hbmRank : Finding → Nat
  | .poisonRead => 0
  | .ueCleared => 1
  | _ => 2

/-- Account for an access of the burst at HBM offset `off` that found errors (R315). -/
def State.hbNote (s : State) (off : Nat) (l : List (Nat × Finding × Gran)) : State :=
  if l = [] then s
  else
    let pc := hbPc off
    let st := pc / 32
    let n := fun g => (l.filter (fun e => e.2.2 = g)).length
    let s := s.bump (regHbs st 0) 15 0 (n .correctable)
    let s := s.bump (regHbs st 0) 23 16 (n .freshUE)
    let s := s.bump (regHbs st 0) 31 24 (n .poisoned)
    let best := l.foldl (fun (b : Nat × Finding × Gran) e => if b.2.1.hbmRank < e.2.1.hbmRank then e else b)
      (l.headD (0, .poisonRead, .clean))
    let s := s.setReg (regHbs st 4) (BitVec.ofNat 32 (2 ^ 31 + best.2.1.logType * 2 ^ 28 + best.1))
    let s := s.setReg (regHbs st 8) (BitVec.ofNat 32 (off / 32 % 2 ^ 31))
    l.foldl (fun s e =>
      if lowestOf l e.2.1 = some e.1 then
        match e.2.1.hbmKind with
        | none => s
        | some k =>
          if k = 0x38 then
            if s.ticks < s.hbm.corrLim.get pc 0 then s
            else
              let s := s.send (hbSrc pc) k (off / 32) true s.actor
              { s with hbm := { s.hbm with corrLim := s.hbm.corrLim.set pc (s.ticks + ticksPerMs) } }
          else s.send (hbSrc pc) k (off / 32) true s.actor
      else s) s

/-- Account for an access of a word of the hub buffer or the retention memory (R256, Table 16.4). -/
def State.hubNote (s : State) (space off : Nat) (l : List (Nat × Finding × Gran)) : State :=
  l.foldl (fun s e =>
    if lowestOf l e.2.1 = some e.1 then
      match e.2.1.kind with
      | none => s
      | some k => s.send (if space = 2 then 0x400 else 0x401) k (e.1 * 2 ^ 20 + off / 32 % 2 ^ 20) true s.actor
    else s) s

/-- Account for an access of the 32-byte unit at `off` of a hub memory. -/
def State.unitNote (s : State) (space off : Nat) (l : List (Nat × Finding × Gran)) : State :=
  if space = 0 then s.hbNote off l else if space = 2 ∨ space = 5 then s.hubNote space off l else s

/-- The 32-byte units that `n` bytes from `off` touch. -/
def unitsOf (off n : Nat) : List Nat := (byteWords off n).map (fun w => 32 * w)

/-- Is the burst of an HBM offset in the fail list (R316)? -/
def State.hbFailed (s : State) (off : Nat) : Bool := s.hbm.fails.contains (off / 32)

/-- Read bytes of a hub memory with their poison, accounting for what the read finds (Table 8.1, R316). -/
def State.hubRead (s : State) (space off n : Nat) : List (Byte × Bool) × State :=
  let bs := (s.bytesP (memKey space off) n)
  let bs := if space = 0 then (bs.zip (upTo n)).map (fun e => (e.1.1, e.1.2 || s.hbFailed (off + e.2))) else bs
  (bs, (unitsOf off n).foldl (fun s u => s.unitNote space u (s.readFinds (memKey space u))) s)

/-- Write bytes of a hub memory, each with the poison that it carries (Table 8.1); a whole-burst write takes an HBM
burst off the fail list. -/
def State.hubWrite (s : State) (space off : Nat) (bs : List (Byte × Bool)) : State :=
  (unitsOf off bs.length).foldl (fun s u =>
    let es := ((upTo 32).filterMap (fun i =>
      if off ≤ u + i ∧ u + i < off + bs.length then some (i, bs.getD (u + i - off) (0, false)) else none))
    let nibs := es.flatMap (fun e => byteNibs e.1 e.2.1.toNat)
    let carry := ((es.filter (fun e => e.2.2)).map (fun e => e.1 / 8)).eraseDups
    let (s, fs) := s.writeNibs (memKey space u) nibs carry
    let s := if space = 0 ∧ es.length = 32 then
        { s with hbm := { s.hbm with fails := s.hbm.fails.filter (fun b => b ≠ u / 32) } }
      else s
    s.unitNote space u fs) s

/-- Write clean bytes of a hub memory. -/
def State.hubPut (s : State) (space off : Nat) (bs : List Byte) : State :=
  s.hubWrite space off (bs.map (fun b => (b, false)))

/-! ### Modes, classes, calendar -/

/-- Is every context DISABLED, and no cluster running (R278, R298)? -/
def State.allDisabled (s : State) : Bool := (upTo 256).all (fun c => s.fld (regCtx c 4) 1 0 = 0)
def State.noneRunning (s : State) : Bool := s.clusters.rows.all (fun e => e.2.seq.st ≠ .running)
def State.quiet (s : State) : Bool := s.allDisabled && s.noneRunning

/-- DT_CFG.DET_STRICT and DT_CFG.MODE (Table 9.3). -/
def State.strict (s : State) : Bool := s.fld (regDt 0) 0 0 = 1
def State.detMode (s : State) : Nat := s.fld (regDt 0) 2 1

/-- In self-refresh (HB_STAT.SR)? -/
def State.selfRefresh (s : State) : Bool := s.fld (regHb 4) 0 0 = 1

/-- The class of a bank pair (R298, Table 10.6). -/
def State.pairCls (s : State) (p : Nat) : Nat := s.fld (regHb (0x10 + 4 * (p / 8))) (3 * (p % 8) + 2) (3 * (p % 8))

/-- The calendar entry in force at a position (R301). -/
def State.calEntry (s : State) (t : Nat) : Nat := ((s.hbm.cal.get t (s.reg (regHb (0x100 + 4 * t))))).toNat

/-- Has a class a turn of a direction in the calendar (R305)? -/
def State.calHas (s : State) (cls : Nat) (wr : Bool) : Bool :=
  (upTo 64).any (fun t =>
    let e := s.calEntry t
    calKind t = 0 && decide (bitsOf e 2 0 = cls) && (bitOf e 3 == wr))

/-- Does the strict calendar refuse a request for `n` bytes from an HBM offset (R305)? -/
def State.calRefuses (s : State) (off n : Nat) (wr : Bool) : Bool :=
  s.strict && ((upTo (ceilDiv (off % 2 ^ 31 + n) (2 ^ 31))).any (fun i => !s.calHas (s.pairCls (hbPair off + i)) wr))

/-- HBM-CAL-REFUSED for a refused request (R305). -/
def State.calRefused (s : State) (off : Nat) : State := s.send (hbSrc (hbPc off)) 0x3F (off / 32) true s.actor

/-- HBM-CONFIG from the stack-level source of stack `st` (R315). -/
def State.hbConfig (s : State) (st : Nat) : State := s.sendEv (0x380 + st) 0x40 0

/-- HB_PAIRCLS q := v (R298): only while every context is disabled and no cluster runs, and not for a pair that an
enabled window or the KV pool covers. -/
def State.pairCovered (s : State) (p : Nat) : Bool :=
  let lo := p * 2 ^ 31
  let hi := lo + 2 ^ 31
  let meet := fun (b e : Nat) => decide (b < hi ∧ lo < e)
  let win := (upTo 256).any (fun c => (upTo 16).any (fun w =>
    let r := fun o => regCtx c (0x300 + 0x10 * w + o)
    let b := s.fld (r 0) 31 21 * 2 ^ 21 + s.fld (r 4) 16 0 * 2 ^ 32
    s.fld (r 0xC) 0 0 = 1 && meet b (b + s.fld (r 8) 14 0 * 2 ^ 21)))
  let pages := s.fld (regKv 0x10) 20 0
  let eb := s.fld (regKv 0) 31 16 * 2 ^ 16 + s.fld (regKv 4) 16 0 * 2 ^ 32
  let sb := s.fld (regKv 8) 31 12 * 2 ^ 12 + s.fld (regKv 0xC) 16 0 * 2 ^ 32
  win || (decide (0 < pages) && (meet eb (eb + pages * 2 ^ 16) || meet sb (sb + pages * 2 ^ 12 + 6 * pages)))

def doHbPaircls (q v : Nat) (s : State) : State :=
  let old := (s.reg (regHb (0x10 + 4 * q))).toNat
  let new := bitsOf v 23 0
  let changes := (upTo 8).any (fun i => bitsOf old (3 * i + 2) (3 * i) ≠ bitsOf new (3 * i + 2) (3 * i)
    && s.pairCovered (8 * q + i))
  if s.quiet && !changes then s.setReg (regHb (0x10 + 4 * q)) (BitVec.ofNat 32 new) else s.hbConfig 0

/-- HB_CALt := v (R301); under DET_STRICT the entry in force stays until the next turn position 0. -/
def doHbCal (t v : Nat) (s : State) : State :=
  if s.quiet && calKind t = 0 then
    let off := regHb (0x100 + 4 * t)
    let s := if s.strict && !s.hbm.cal.has t then
        { s with hbm := { s.hbm with cal := s.hbm.cal.set t (s.reg off) } }
      else s
    s.setFld off 3 0 v
  else s.hbConfig 0

/-! ### Pieces (R302) -/

/-- The pieces waiting at a PC, oldest first. -/
def State.hbQueue (s : State) (pc : Nat) : List HbPiece := s.hbm.queues.get pc []

def State.setHbQueue (s : State) (pc : Nat) (q : List HbPiece) : State :=
  { s with hbm := { s.hbm with queues := s.hbm.queues.set pc q } }

/-- PIECE_ARRIVAL (R302, R305): the part of `n` bytes from `off` that lies in its row is queued at its PC, or refused
under the strict calendar. -/
def doPieceArrival (off n : Nat) (wr : Bool) (s : State) : State :=
  if 0xC00000000 ≤ off ∨ n = 0 then s
  else
    let n := min n (1024 - off % 1024)
    if s.calRefuses off n wr then s.calRefused off
    else
      let first := hbCol off
      let cnt := (off % 32 + n + 31) / 32
      let part := (if off % 32 ≠ 0 then 1 else 0) + (if (off + n) % 32 ≠ 0 ∧ (cnt ≠ 1 ∨ off % 32 = 0) then 1 else 0)
      let p : HbPiece := ⟨s.hbm.nextNo, hbBank off, hbRow off, first, cnt, wr, if wr then cnt + 2 * part else cnt, 0, 0⟩
      let pc := hbPc off
      let s := s.setHbQueue pc (s.hbQueue pc ++ [p])
      { s with hbm := { s.hbm with nextNo := s.hbm.nextNo + 1 } }

/-- Do two pieces touch the same burst? -/
def HbPiece.meets (a b : HbPiece) : Bool :=
  a.bank = b.bank && a.row = b.row && decide (a.col < b.col + b.n ∧ b.col < a.col + a.n)

/-! ### Activates and aggressors (R309 to R311) -/

/-- Enter an aggressor: queued, or pending with its overflow accounting where the queue is full. -/
def State.aggressor (s : State) (pc bank row : Nat) : State :=
  let q := s.hbm.aggrs.get pc []
  let st := pc / 32
  if q.length < 32 then
    let s := { s with hbm := { s.hbm with aggrs := s.hbm.aggrs.set pc (q ++ [(bank, row)]) } }
    if s.fld (regHbs st 0x10) 15 8 < q.length + 1 then s.setFld (regHbs st 0x10) 15 8 (q.length + 1) else s
  else
    let s := { s with hbm := { s.hbm with pends := s.hbm.pends.set pc (s.hbm.pends.get pc [] ++ [(bank, row)]) } }
    let s := s.bump (regHbs st 0x10) 7 0 1
    if s.ticks < s.hbm.ovfLim.get pc 0 then s
    else
      let s := s.sendEv (hbSrc pc) 0x3E ((bank / 2 * 2 ^ 31 + row * 2 ^ 17 + bank % 2 * 2 ^ 16 + pc * 2 ^ 10) / 32)
      { s with hbm := { s.hbm with ovfLim := s.hbm.ovfLim.set pc (s.ticks + ticksPerMs) } }

/-- The index of the entry with the lowest count, the lowest index among equals. -/
def lowestEntry (l : List ActEntry) : Nat :=
  ((upTo l.length).foldl (fun (b : Nat × Nat) i =>
    let c := (l.getD i ⟨0, 0, false⟩).count
    if i = 0 ∨ c < b.2 then (i, c) else b) (0, 0)).1

/-- Count an activate of a row (R309). -/
def State.activate (s : State) (pc bank row : Nat) : State :=
  let k := pc * 48 + bank
  let l := s.hbm.acts.get k []
  let l' : List ActEntry :=
    match l.findIdx? (fun e => e.row = row) with
    | some i => l.set i { (l.getD i ⟨row, 0, false⟩) with count := min (2 ^ 15 - 1) ((l.getD i ⟨row, 0, false⟩).count + 1) }
    | none =>
      if l.length < 16 then l ++ [(⟨row, 1, false⟩ : ActEntry)]
      else
        let i := lowestEntry l
        l.set i ⟨row, min (2 ^ 15 - 1) ((l.getD i ⟨0, 0, false⟩).count + 1), false⟩
  let th := s.fld (regHb 0) 30 16
  let hit := l'.any (fun e => e.row = row && !e.aggr && decide (th ≤ e.count))
  let l' := l'.map (fun e => if e.row = row ∧ th ≤ e.count then { e with aggr := true } else e)
  let s := { s with hbm := { s.hbm with acts := s.hbm.acts.set k l' } }
  if hit then s.aggressor pc bank row else s

/-! ### Turns (R300, R303, R308, R310, R313) -/

/-- The start of turn position t: HB_STAT.TURN, the selection points (R303), and at position 0 the calendar as last
written (R301). -/
def State.turnStart (s : State) (t : Nat) : State :=
  let s := s.setFld (regHb 4) 15 10 t
  { s with hbm := { s.hbm with elig := s.hbm.curNo, curNo := s.hbm.nextNo,
                               cal := if t = 0 then ⟨[]⟩ else s.hbm.cal } }

/-- The pieces that a strict data turn moves on one PC: the oldest of class and direction that arrived before the
selection point, then further ones of its row while they fit into 32 slots (R303). -/
def takeRow (b r : Nat) : List HbPiece → Nat → List HbPiece
  | [], _ => []
  | p :: q, used =>
    if p.bank = b ∧ p.row = r ∧ used + p.slots ≤ 32 then p :: takeRow b r q (used + p.slots) else takeRow b r q used

/-- DATA_TURN at position t (R303). -/
def doDataTurn (t : Nat) (s : State) : State :=
  if !s.strict || s.selfRefresh || calKind t ≠ 0 then s
  else
    let s := s.turnStart t
    let e := s.calEntry t
    let cls := bitsOf e 2 0
    let wr := bitOf e 3
    if 5 < cls then s
    else
      (upTo 64).foldl (fun s pc =>
        let q := s.hbQueue pc
        let cand := q.filter (fun p => decide (p.no < s.hbm.elig) && (p.write == wr) && s.pairCls (p.bank / 2) = cls)
        match cand with
        | [] => s
        | h :: r =>
          let nos := h.no :: (takeRow h.bank h.row r h.slots).map (fun p => p.no)
          (s.setHbQueue pc (q.filter (fun p => !nos.contains p.no))).activate pc h.bank h.row) s

/-- Precharge every open row: a fixed or scrub turn starts (R306). -/
def State.precharge (s : State) : State := { s with hbm := { s.hbm with opens := ⟨[]⟩ } }

/-- The piece that normal scheduling serves next on a PC (R306). -/
def State.hbPick (s : State) (pc : Nat) : Option HbPiece :=
  let q := (s.hbQueue pc).take 64
  let op := s.hbm.opens.get pc []
  let d := s.hbm.dirs.get pc (false, 0)
  match q with
  | [] => none
  | old :: _ =>
    match q.find? (fun p => decide (16 ≤ p.passed)) with
    | some p => some p
    | none =>
      match (if 32 ≤ d.2 then q.find? (fun p => p.write != d.1) else none) with
      | some p => some p
      | none =>
        match q.find? (fun p => (p.write == d.1) && op.contains (p.bank, p.row)
            && !(q.any (fun o => decide (o.no < p.no) && o.meets p))) with
        | some p => some p
        | none => some old

/-- NORMAL_SERVE of a PC (R306): the piece is served, those older are passed, its row is open. -/
def doNormalServe (pc : Nat) (s : State) : State :=
  if s.strict || s.selfRefresh then s
  else
    match s.hbPick pc with
    | none => s
    | some p =>
      let q := (s.hbQueue pc).filterMap (fun o =>
        if o.no = p.no then none else if o.no < p.no then some { o with passed := o.passed + 1 } else some o)
      let s := s.setHbQueue pc q
      let op := s.hbm.opens.get pc []
      let d := s.hbm.dirs.get pc (false, 0)
      let d' := if p.write == d.1 then (d.1, d.2 + p.n) else (p.write, p.n)
      let isOpen := op.contains (p.bank, p.row)
      let op' := (p.bank, p.row) :: op.filter (fun e => e.1 ≠ p.bank)
      let s := { s with hbm := { s.hbm with opens := s.hbm.opens.set pc op', dirs := s.hbm.dirs.set pc d' } }
      if isOpen then s else s.activate pc p.bank p.row

/-- REF_TURN at position t (R308, R312): one REFpb to the 16 banks of a stack ID; after 8,192 of them the activate
tables of those banks are cleared but for aggressors. -/
def doRefTurn (t : Nat) (s : State) : State :=
  if s.selfRefresh || calKind t ≠ 1 then s
  else
    let s := (s.turnStart t).precharge
    let sid := if t = 0 ∨ t = 32 then 0 else if t = 11 ∨ t = 43 then 1 else 2
    let n := s.hbm.refs.getD sid 0 + 1
    let s := { s with hbm := { s.hbm with refs := s.hbm.refs.set sid (n % 8192) } }
    if n = 8192 then
      { s with hbm := { s.hbm with acts := ⟨s.hbm.acts.rows.map (fun e =>
        if e.1 % 48 / 16 = sid then (e.1, e.2.filter (fun x => x.aggr)) else e)⟩ } }
    else s

/-- Serve the two oldest aggressors of a PC; pending ones enter the queue (R310, R311). -/
def State.serveAggr (s : State) (pc : Nat) : State :=
  let q := s.hbm.aggrs.get pc []
  let done := q.take 2
  let p := s.hbm.pends.get pc []
  let room := 32 - (q.drop 2).length
  let q' := q.drop 2 ++ p.take room
  let acts := done.foldl (fun (a : Table (List ActEntry)) e =>
    let k := pc * 48 + e.1
    a.set k ((a.get k []).filter (fun x => x.row ≠ e.2))) s.hbm.acts
  let s := { s with hbm := { s.hbm with acts := acts, aggrs := s.hbm.aggrs.set pc q', pends := s.hbm.pends.set pc (p.drop room) } }
  let st := pc / 32
  s.setFld (regHbs st 0x10) 31 16 (s.fld (regHbs st 0x10) 31 16 + done.length)

/-- TRR_TURN at position t (R310). -/
def doTrrTurn (t : Nat) (s : State) : State :=
  if s.selfRefresh || calKind t ≠ 2 then s
  else (upTo 64).foldl (fun s pc => if s.hbm.aggrs.get pc [] = [] then s else s.serveAggr pc) (s.turnStart t).precharge

/-- The scrub position of step n: bank, row, half (R313). -/
def scrubPos (n : Nat) : Nat × Nat × Nat := (n / (2 * 16384) % 48, n / 2 % 16384, n % 2)

/-- SCRUB_TURN at position t (R313). -/
def doScrubTurn (t : Nat) (s : State) : State :=
  if s.selfRefresh || calKind t ≠ 0 || bitsOf (s.calEntry t) 2 0 ≠ 6 then s
  else
    let s := (s.turnStart t).precharge
    if s.fld (regHb 0) 2 2 = 0 then s
    else
      let (b, r, h) := scrubPos s.hbm.scrub
      let here := fun (off : Nat) => hbBank off = b && hbRow off = r && hbCol off / 16 = h
      let gs := s.marks.rows.filter (fun e => decide (8 * e.1 < 0xC00000000) && here (8 * e.1))
      let bursts := (gs.map (fun e => e.1 / 4)).eraseDups
      let s := bursts.foldl (fun s u =>
        let l := s.readFinds (32 * u)
        let marks := l.foldl (fun m e =>
          match e.2.2 with
          | .correctable => setMark m (4 * u + e.1) .clean
          | .freshUE => setMark m (4 * u + e.1) .poisoned
          | _ => m) s.marks
        ({ s with marks := marks }).hbNote (32 * u) l) s
      { s with hbm := { s.hbm with scrub := (s.hbm.scrub + 1) % (48 * 16384 * 2) } }

/-! ### Retries, temperature, verification, self-refresh -/

/-- Enter the bursts of a failed write in the fail list of its stack (R316); none is left for the rest where the list
is full. -/
def State.failWrite (s : State) (pc : Nat) (p : HbPiece) : State :=
  let base := (p.bank / 2 * 2 ^ 31 + p.row * 2 ^ 17 + p.bank % 2 * 2 ^ 16 + pc * 2 ^ 10) / 32 + p.col
  (upTo p.n).foldl (fun s i =>
    let b := base + i
    let mine := s.hbm.fails.filter (fun x => bitsOf x 10 10 = pc / 32)
    if s.hbm.fails.contains b then s
    else if mine.length < 64 then { s with hbm := { s.hbm with fails := s.hbm.fails ++ [b] } }
    else s.sendSev (hbSrc pc) 0x3D b 5) s

/-- HBM_LINK_RETRY of the oldest piece of a PC (R316): repeated twice; the third failure is HBM-CMD-FAIL. A failed
read lands poisoned at its requester: PULL_LANDING says so. -/
def doHbmLinkRetry (pc : Nat) (s : State) : State :=
  match s.hbQueue pc with
  | [] => s
  | p :: r =>
    let adr := (p.bank / 2 * 2 ^ 31 + p.row * 2 ^ 17 + p.bank % 2 * 2 ^ 16 + pc * 2 ^ 10) / 32 + p.col
    if p.tries < 2 then (s.setHbQueue pc ({ p with tries := p.tries + 1 } :: r)).sendEv (hbSrc pc) 0x3C adr
    else
      let s := s.setHbQueue pc r
      let s := s.setReg (regHbs (pc / 32) 4) (BitVec.ofNat 32 (2 ^ 31 + 5 * 2 ^ 28))
      let s := s.setReg (regHbs (pc / 32) 8) (BitVec.ofNat 32 adr)
      let s := s.sendEv (hbSrc pc) 0x3D adr
      if p.write then s.failWrite pc p else s

/-- A level condition of a source: raise or end it where it changed. -/
def State.level (s : State) (src kind addr : Nat) (was now : Bool) : State :=
  if was = now then s else s.send src kind addr now []

/-- HBM_TEMP_READ (R317): HBS_TEMP, HBM-HOT at 95 °C, HBM-OVERTEMP at 105 °C. -/
def doHbmTempRead (st : Nat) (temp : Int) (s : State) : State :=
  let s := s.setFld (regHbs st 0x14) 7 0 (unsigned 8 temp)
  let h := decide (95 ≤ temp)
  let o := decide (105 ≤ temp)
  let s := s.level (0x380 + st) 0x42 0 (s.hbm.hot.getD st false) h
  let s := s.level (0x380 + st) 0x43 0 (s.hbm.hotOver.getD st false) o
  { s with hbm := { s.hbm with hot := s.hbm.hot.set st h, hotOver := s.hbm.hotOver.set st o } }

/-- GO: verification of a stack (R319), with the first failing PC where one fails. A second failure sends
HBM-TRAIN. -/
def doGo (st : Nat) (failPc : Option Nat) (s : State) : State :=
  let r := regHbs st 0x20
  let s := match failPc with
    | none =>
      let s := s.setReg r (BitVec.ofNat 32 (2 ^ 31))
      { s with hbm := { s.hbm with badGo := s.hbm.badGo.set st 0 } }
    | some p =>
      let n := s.hbm.badGo.getD st 0 + 1
      let s := s.setReg r (BitVec.ofNat 32 (2 ^ 30 + p % 32 * 2 ^ 25))
      let s := { s with hbm := { s.hbm with badGo := s.hbm.badGo.set st n } }
      if 2 ≤ n then s.sendEv (0x380 + st) 0x41 0 else s
  let both := s.fld (regHbs 0 0x20) 31 31 = 1 ∧ s.fld (regHbs 1 0x20) 31 31 = 1
  s.setFld (regHb 4) 1 1 (if both then 1 else 0)

/-- SRENTER (R320): ignored with HBM-CONFIG while a context is enabled or DT_CFG.MODE is not 0; else queued pieces
complete, aggressors are served, the activate tables are cleared and SR is set. -/
def doSrenter (s : State) : State :=
  if !s.allDisabled || s.detMode ≠ 0 then s.hbConfig 0
  else if s.selfRefresh then s
  else
    let s := (upTo 64).foldl (fun s pc =>
      let n := (s.hbm.aggrs.get pc []).length + (s.hbm.pends.get pc []).length
      s.setFld (regHbs (pc / 32) 0x10) 31 16 (s.fld (regHbs (pc / 32) 0x10) 31 16 + n)) s
    let h := s.hbm
    let s := { s with hbm := { h with queues := ⟨[]⟩, acts := ⟨[]⟩, aggrs := ⟨[]⟩, pends := ⟨[]⟩, opens := ⟨[]⟩ } }
    s.setFld (regHb 4) 0 0 1

/-- SREXIT (R321). -/
def doSrexit (s : State) : State :=
  if s.selfRefresh then
    let s := (s.setFld (regHb 4) 0 0 0).setFld (regHb 4) 15 10 0
    { s with hbm := { s.hbm with elig := s.hbm.nextNo, curNo := s.hbm.nextNo, cal := ⟨[]⟩ } }
  else s

end Sys2Proof.Machine
end

