-- ==== Sys2Proof/Machine/Kv.lean ====
section
/-! DEFINITION. The KV page manager (R161 to R171): page tables, the pool, and its requests. -/

namespace Sys2Proof.Machine

/-! ### The pool (R161, R165) -/

/-- KVP_EBASE, KVP_SBASE, KVP_PAGES. -/
def State.kvpE (s : State) : Nat := s.fld (regKv 0) 31 16 * 2 ^ 16 + s.fld (regKv 4) 16 0 * 2 ^ 32
def State.kvpS (s : State) : Nat := s.fld (regKv 8) 31 12 * 2 ^ 12 + s.fld (regKv 0xC) 16 0 * 2 ^ 32
def State.kvpPages (s : State) : Nat := s.fld (regKv 0x10) 20 0

/-- Element frame and scale frame of page n. -/
def State.kvElem (s : State) (n : Nat) : Nat := s.kvpE + n * 0x10000
def State.kvScale (s : State) (n : Nat) : Nat := s.kvpS + n * 0x1000

/-- The HBM offset of a page's reference count, and of its free-list word. -/
def State.kvCountAt (s : State) (n : Nat) : Nat := s.kvpS + s.kvpPages * 0x1000 + 2 * n
def State.kvFreeAt (s : State) (n : Nat) : Nat := s.kvpS + s.kvpPages * 0x1000 + 2 * s.kvpPages + 4 * n

/-- Source of the KV page manager (Table 16.2). -/
def kvSrc : Nat := 0x402

/-- Is any context's page table in use (R165)? -/
def State.kvInUse (s : State) : Bool := (upTo 256).any (fun c => s.fld (regCtx c 0x408) 7 7 = 1)

/-- A number of `n` bytes read from HBM, none where it is uncorrectable or poisoned. -/
def State.hbmNat (s : State) (off n : Nat) : Option Nat × State :=
  let (bs, s) := s.hubRead 0 off n
  (if bs.any (fun b => b.2) then none else some (leNat (bs.map (fun b => b.1))), s)

/-- A page's reference count. -/
def State.kvCount (s : State) (n : Nat) : Option Nat × State := s.hbmNat (s.kvCountAt n) 2
def State.kvSetCount (s : State) (n v : Nat) : State := s.hubPut 0 (s.kvCountAt n) (leBytes 2 v)

/-- The free list, with FREE following its length (R165). -/
def State.kvSetFree (s : State) (l : List Nat) : State :=
  ({ s with kv := { s.kv with free := l } }).setReg (regKv 0x14) (BitVec.ofNat 32 l.length)

/-- A page whose count reached 0 returns to the free list, unless it is quarantined (R169). -/
def State.kvGiveBack (s : State) (n : Nat) : State :=
  if s.kv.quar.contains n then s else s.kvSetFree (s.kv.free ++ [n])

def State.kvQuarantine (s : State) (n : Nat) : State :=
  let s := s.kvSetFree (s.kv.free.filter (fun x => x ≠ n))
  { s with kv := { s.kv with quar := n :: s.kv.quar.filter (fun x => x ≠ n) } }

/-- KV_INIT (R165): the free list is built and every count zeroed; ignored while any context has EN = 1. -/
def doKvInit (s : State) : State :=
  if s.kvInUse then s
  else
    let n := s.kvpPages
    let a := s.kvCountAt 0
    let s := { s with mem := s.mem.filter (fun e => ¬ (a ≤ e.1 ∧ e.1 < a + 2 * n)),
                      marks := ⟨s.marks.rows.filter (fun e => ¬ (a ≤ 8 * e.1 ∧ 8 * e.1 + 8 ≤ a + 2 * n))⟩ }
    s.kvSetFree ((upTo n).filter (fun x => !s.kv.quar.contains x))

/-! ### Page tables (R163, R164) -/

/-- An entry as a page-table word. -/
structure Pte where
  valid : Bool
  ntok : Nat
  ppn : Nat
  deriving DecidableEq, Repr

def pteOf (w : Nat) : Pte := ⟨bitOf w 31, bitsOf w 28 20, bitsOf w 19 0⟩
def Pte.word (p : Pte) : Nat := if p.valid then 2 ^ 31 + p.ntok * 2 ^ 20 + p.ppn else 0

/-- HBM offset of the entry of head group hg, token block tb (log entry 17). -/
def State.pteAt (s : State) (ctx hg tb : Nat) : Nat :=
  s.fld (regCtx ctx 0x400) 31 12 * 2 ^ 12 + s.fld (regCtx ctx 0x404) 16 0 * 2 ^ 32 + (hg * 4096 + tb) * 4

/-- KV_CFG of a context: EN, NHG, K group size, V group size. -/
def State.kvOn (s : State) (ctx : Nat) : Bool := s.fld (regCtx ctx 0x408) 7 7 = 1
def State.kvNhg (s : State) (ctx : Nat) : Nat := s.fld (regCtx ctx 0x408) 5 0
def State.kvKg (s : State) (ctx : Nat) : Nat := gsOf (s.fld (regCtx ctx 0x408) 13 12)
def State.kvVg (s : State) (ctx : Nat) : Nat := gsOf (s.fld (regCtx ctx 0x408) 15 14)

/-- Read an entry: none where it is uncorrectable. -/
def State.pte (s : State) (ctx hg tb : Nat) : Option Pte × State :=
  let (w, s) := s.hbmNat (s.pteAt ctx hg tb) 4
  (w.map pteOf, s)

/-- Write an entry; NPAGES follows (R164). -/
def State.setPte (s : State) (ctx hg tb : Nat) (was : Bool) (p : Pte) : State :=
  let s := s.hubPut 0 (s.pteAt ctx hg tb) (leBytes 4 p.word)
  let r := regCtx ctx 0x40C
  let n := s.fld r 19 0
  if was = p.valid then s else s.setFld r 19 0 (if p.valid then n + 1 else n - 1)

/-- A refusal (R169): LASTERR, and KV-REFUSED or KV-METADATA; `addr` as Table 16.4. -/
def State.kvRefuse (s : State) (ctx err addr : Nat) : State :=
  (s.setFld (regCtx ctx 0x40C) 31 28 err).send kvSrc (if err = 4 then 0x2A else 0x29) addr true [ctx]

/-- The page that an unreadable entry's stored bits name (log entry 17). -/
def State.rawPpn (s : State) (ctx hg tb : Nat) : Nat :=
  bitsOf (leNat (s.bytes (memKey 0 (s.pteAt ctx hg tb)) 4)) 19 0

/-- Read the entries tb ... tb + n - 1: none where one is uncorrectable, its page quarantined. -/
def State.ptes (s : State) (ctx hg tb : Nat) : Nat → Option (List Pte) × State
  | 0 => (some [], s)
  | n + 1 =>
    let (e, s) := s.pte ctx hg tb
    match e with
    | none => (none, s.kvQuarantine (s.rawPpn ctx hg tb))
    | some p =>
      let (r, s) := s.ptes ctx hg (tb + 1) n
      (r.map (fun l => p :: l), s)

/-- Read the counts of pages: none where one is uncorrectable, its page quarantined. -/
def State.kvCounts (s : State) : List Nat → Option (List (Nat × Nat)) × State
  | [] => (some [], s)
  | n :: r =>
    let (v, s) := s.kvCount n
    match v with
    | none => (none, s.kvQuarantine n)
    | some k =>
      let (t, s) := s.kvCounts r
      (t.map (fun l => (n, k) :: l), s)

/-- Take uses of a page away. -/
def State.kvDrop (s : State) (n k uses : Nat) : State :=
  let s := s.kvSetCount n (k - uses)
  if k ≤ uses then s.kvGiveBack n else s

/-! ### Requests (R167 to R169) -/

/-- SHARE of `n` entries; the flag tells whether it was carried out. -/
def State.kvShare (s : State) (src shg stb dst dhg dtb n addr : Nat) : Bool × State :=
  let dom := fun c => s.fld (regCtx c 0x408) 31 24
  if !s.kvOn src || !s.kvOn dst then (false, s.kvRefuse dst 1 addr)
  else if src ≠ dst ∧ (dom src = 0 ∨ dom src ≠ dom dst) then (false, s.kvRefuse dst 3 addr)
  else
    let (es, s) := s.ptes src shg stb n
    let (ds, s) := s.ptes dst dhg dtb n
    match es, ds with
    | some es, some ds =>
      let pages := ((es.filter (fun e => e.valid)).map (fun e => e.ppn))
      let (cs, s) := s.kvCounts pages.eraseDups
      match cs with
      | none => (false, s.kvRefuse dst 4 addr)
      | some cs =>
        let up := cs.map (fun e => (e.1, e.2 + pages.count e.1))
        if up.any (fun e => 65535 < e.2) then (false, s.kvRefuse dst 3 addr)
        else
          let s := up.foldl (fun (s : State) e => s.kvSetCount e.1 e.2) s
          (true, (upTo n).foldl (fun (s : State) i =>
            s.setPte dst dhg (dtb + i) (ds.getD i ⟨false, 0, 0⟩).valid (es.getD i ⟨false, 0, 0⟩)) s)
    | _, _ => (false, s.kvRefuse dst 4 addr)

/-- RELEASE of `n` entries, wholly or not at all (R348). -/
def State.kvRelease (s : State) (ctx hg tb n addr : Nat) : Bool × State :=
  let (es, s) := s.ptes ctx hg tb n
  match es with
  | none => (false, s.kvRefuse ctx 4 addr)
  | some es =>
    let live := (upTo n).filter (fun i => (es.getD i ⟨false, 0, 0⟩).valid)
    let pages := live.map (fun i => (es.getD i ⟨false, 0, 0⟩).ppn)
    let (cs, s) := s.kvCounts pages.eraseDups
    match cs with
    | none => (false, s.kvRefuse ctx 4 addr)
    | some cs =>
      let s := live.foldl (fun (s : State) i => s.setPte ctx hg (tb + i) true ⟨false, 0, 0⟩) s
      (true, cs.foldl (fun (s : State) e => s.kvDrop e.1 e.2 (pages.count e.1)) s)

/-- TRUNCATE at position p, wholly or not at all (R348). -/
def State.kvTruncate (s : State) (ctx hg p addr : Nat) : Bool × State :=
  let tb := p / 256
  let cut := p % 256
  if cut = 0 then s.kvRelease ctx hg tb (4096 - tb) addr
  else
    let (e, s) := s.pte ctx hg tb
    match e with
    | none => (false, (s.kvQuarantine (s.rawPpn ctx hg tb)).kvRefuse ctx 4 addr)
    | some q =>
      let (ok, s) := s.kvRelease ctx hg (tb + 1) (4096 - (tb + 1)) addr
      (ok, if ok ∧ q.valid ∧ cut < q.ntok then s.setPte ctx hg tb true { q with ntok := cut } else s)

/-- The spans of a page that tokens t ... t + n - 1 occupy (Table 5.7, R259): (scale frame?, offset, length). -/
def kvSpans (kg vg : Nat) (k v : Bool) (t n : Nat) : List (Bool × Nat × Nat) :=
  (if k then [(false, 128 * t, 128 * n), (true, t * (256 / kg), n * (256 / kg))] else [])
  ++ (if v then
      let u := t / vg
      [(false, 0x8000 + 128 * t, 128 * n), (true, 0x800 + 256 * u, 256 * ((t + n - 1) / vg + 1 - u))]
    else [])

/-- Take the page at the head of the free list: none where none remains; an uncorrectable free-list word is a
metadata error of its page. -/
inductive Taken where
  | page (n : Nat)
  | empty
  | broken (n : Nat)
  deriving DecidableEq, Repr

def State.kvTake (s : State) : Taken × State :=
  match s.kv.free with
  | [] => (.empty, s)
  | n :: r =>
    let (w, s) := s.hbmNat (s.kvFreeAt n) 4
    match w with
    | none => (.broken n, s.kvQuarantine n)
    | some _ => (.page n, s.kvSetFree r)

/-- Copy the element frame and the scale frame of a page to another (copy-on-write, R168). -/
def State.kvCopyPage (s : State) (a b : Nat) : State :=
  let (e, s) := s.hubRead 0 (s.kvElem a) 0x10000
  let (c, s) := s.hubRead 0 (s.kvScale a) 0x1000
  (s.hubWrite 0 (s.kvElem b) e).hubWrite 0 (s.kvScale b) c

/-- The page that a WRITE at token t of an entry goes to, after any allocation or copy-on-write (R168): none where
the request was refused. -/
def State.kvPageFor (s : State) (ctx hg tb t addr : Nat) (e : Pte) : Option (Nat × Nat) × State :=
  if !e.valid then
    if t ≠ 0 then (none, s.kvRefuse ctx 1 addr)
    else
      match s.kvTake with
      | (.empty, s) => (none, s.kvRefuse ctx 2 addr)
      | (.broken _, s) => (none, s.kvRefuse ctx 4 addr)
      | (.page n, s) => (some (n, 0), (s.kvSetCount n 1).setPte ctx hg tb false ⟨true, 0, n⟩)
  else if e.ntok < t then (none, s.kvRefuse ctx 1 addr)
  else
    let (k, s) := s.kvCount e.ppn
    match k with
    | none => (none, (s.kvQuarantine e.ppn).kvRefuse ctx 4 addr)
    | some k =>
      if k ≤ 1 then (some (e.ppn, e.ntok), s)
      else
        match s.kvTake with
        | (.empty, s) => (none, s.kvRefuse ctx 2 addr)
        | (.broken _, s) => (none, s.kvRefuse ctx 4 addr)
        | (.page n, s) =>
          let s := ((s.kvCopyPage e.ppn n).kvSetCount n 1).kvSetCount e.ppn (k - 1)
          (some (n, e.ntok), s.setPte ctx hg tb true ⟨true, e.ntok, n⟩)

/-- WRITE of `n` tokens from position p: `elems` and `scales` hold the bytes of the spans in their order. -/
def State.kvWrite (s : State) (ctx hg p n : Nat) (k v : Bool) (spans : List (List (Byte × Bool))) (addr : Nat) : Bool × State :=
  if !s.kvOn ctx || decide (2 ^ 20 < p + n) then (false, s.kvRefuse ctx 1 addr)
  else
    let tb := p / 256
    let t := p % 256
    let (e, s) := s.pte ctx hg tb
    match e with
    | none => (false, (s.kvQuarantine (s.rawPpn ctx hg tb)).kvRefuse ctx 4 addr)
    | some e =>
      let (r, s) := s.kvPageFor ctx hg tb t addr e
      match r with
      | none => (false, s)
      | some (pg, ntok) =>
        let s := (((kvSpans (s.kvKg ctx) (s.kvVg ctx) k v t n).zip spans)).foldl (fun (s : State) x =>
          s.hubWrite 0 ((if x.1.1 then s.kvScale pg else s.kvElem pg) + x.1.2.1) x.2) s
        (true, s.setPte ctx hg tb true ⟨true, max ntok (t + n), pg⟩)

/-- The bytes of the spans that a KV-mode read of `n` tokens from position p delivers (R166): at and beyond NTOK the
elements poisoned and the scale 0xFF, with LASTERR = 1. A scale row of a V token group is 0xFF where no token of the
group is valid. -/
def State.kvRead (s : State) (ctx hg p n : Nat) (k v : Bool) : List (List (Byte × Bool)) × State :=
  let tb := p / 256
  let t := p % 256
  let kg := s.kvKg ctx
  let vg := s.kvVg ctx
  let (e, s) := if s.kvOn ctx then s.pte ctx hg tb else (some (⟨false, 0, 0⟩ : Pte), s)
  let e := e.getD ⟨false, 0, 0⟩
  let ntok := if e.valid then e.ntok else 0
  let s := if ntok < t + n then s.setFld (regCtx ctx 0x40C) 31 28 1 else s
  (kvSpans kg vg k v t n).foldl (fun (r : List (List (Byte × Bool)) × State) x =>
    let tok := fun (i : Nat) =>
      let o := x.2.1 + i
      if x.1 then (if o < 0x800 then o / (256 / kg) else (o - 0x800) / 256 * vg)
      else o % 0x8000 / 128
    let live := fun (i : Nat) => decide (tok i < ntok)
    let off : Byte × Bool := if x.1 then (0xFF, false) else (0, true)
    if ntok = 0 then (r.1 ++ [List.replicate x.2.2 off], r.2)
    else
      let (bs, s) := r.2.hubRead 0 ((if x.1 then r.2.kvScale e.ppn else r.2.kvElem e.ppn) + x.2.1) x.2.2
      (r.1 ++ [(bs.zip (upTo x.2.2)).map (fun b => if live b.2 then b.1 else off)], s)) ([], s)

end Sys2Proof.Machine
end

