-- ==== Sys2Proof/Machine/Windows.lean ====
section
/-! DEFINITION. Windows of a context (R254, R336): what bytes of HBM, of the hub buffer and of host memory an access
on its behalf may touch; extents of copies. -/

namespace Sys2Proof.Machine

/-- Do intervals (start, end) together cover the bytes from `a` to `b`? `fuel` bounds the steps: one an interval. -/
def covers (ws : List (Nat × Nat)) : Nat → Nat → Nat → Bool
  | 0, a, b => decide (b ≤ a)
  | fuel + 1, a, b =>
    if b ≤ a then true
    else
      let e := (ws.filter (fun w => decide (w.1 ≤ a ∧ a < w.2))).foldl (fun m w => max m w.2) a
      if e = a then false else covers ws fuel e b

/-- The enabled HBM windows of a context that grant a direction, as (start, end, ACT). -/
def State.hbmWins (s : State) (ctx : Nat) (wr : Bool) : List (Nat × Nat × Nat) :=
  (upTo 16).filterMap (fun w =>
    let r := fun o => regCtx ctx (0x300 + 0x10 * w + o)
    let b := s.fld (r 0) 31 21 * 2 ^ 21 + s.fld (r 4) 16 0 * 2 ^ 32
    let c := (s.reg (r 0xC)).toNat
    if bitOf c 0 ∧ bitOf c (if wr then 2 else 1) then some (b, b + s.fld (r 8) 14 0 * 2 ^ 21, bitsOf c 5 3) else none)

/-- The hub-buffer window of a context, as (start, end); empty where it is not enabled. -/
def State.hubWin (s : State) (ctx : Nat) : Nat × Nat :=
  let r := (s.reg (regCtx ctx 0x420)).toNat
  if bitOf r 31 then (bitsOf r 24 16 * 2 ^ 16, (bitsOf r 24 16 + bitsOf r 9 0) * 2 ^ 16) else (0, 0)

/-- The enabled host windows of a context that grant a direction (Table 11.5). -/
def State.hostWins (s : State) (ctx : Nat) (wr : Bool) : List (Nat × Nat) :=
  (upTo 4).filterMap (fun h =>
    let r := fun o => regCtx ctx (0x40 + 0x10 * h + o)
    let b := s.fld (r 0) 31 12 * 2 ^ 12 + s.fld (r 4) 16 0 * 2 ^ 32
    let c := (s.reg (r 0xC)).toNat
    if bitOf c 0 ∧ bitOf c (if wr then 2 else 1) then some (b, b + (s.reg (r 8)).toNat * 2 ^ 12) else none)

/-- Do `n` bytes at an offset of space 0, 2 or 4 lie in windows of a context that grant the direction (R254, R336)? -/
def State.inWindows (s : State) (ctx space off n : Nat) (wr : Bool) : Bool :=
  if space = 0 then decide (off + n ≤ 0xC00000000) && covers ((s.hbmWins ctx wr).map (fun w => (w.1, w.2.1))) 17 off (off + n)
  else if space = 2 then decide (off + n ≤ 2 ^ 25) && covers [s.hubWin ctx] 2 off (off + n)
  else if space = 4 then decide (off + n ≤ 2 ^ 49) && covers (s.hostWins ctx wr) 5 off (off + n)
  else false

/-- Parts of a global address (R252). -/
def gaPid (a : Nat) : Nat := bitsOf a 63 53
def gaSpace (a : Nat) : Nat := bitsOf a 52 49
def gaOff (a : Nat) : Nat := bitsOf a 48 0

/-- The module's own Package ID (VD_CFG.PID). -/
def State.pid (s : State) : Nat := s.fld (regVd 0) 10 0

/-- Are the offset bits that a space marks as zero zero, and is the offset within the space (Table 8.5)? -/
def gaOk (a : Nat) : Bool :=
  let sp := gaSpace a
  let o := gaOff a
  if sp = 0 then decide (o < 0xC00000000) else if sp = 1 then decide (o < 2 ^ 28) else if sp = 2 then decide (o < 2 ^ 25)
  else decide (sp = 4)

/-- A run of bytes that an access touches: space, offset, length. Space 17 holds KV page entries (Table 5.12). -/
structure Extent where
  space : Nat
  off : Nat
  n : Nat
  deriving DecidableEq, Repr

/-- Do two extents overlap? -/
def Extent.meets (a b : Extent) : Bool := a.space = b.space && decide (a.off < b.off + b.n ∧ b.off < a.off + a.n)

/-- Do two lists of extents overlap? -/
def extentsMeet (a b : List Extent) : Bool := a.any (fun x => b.any (fun y => x.meets y))

/-- Read `n` bytes of space 0 or 2 for a context, or bytes of host memory as the caller supplies them. -/
def State.readFor (s : State) (ctx space off n : Nat) : List (Byte × Bool) × State :=
  let (bs, s) := ({ s with actor := [ctx] }).hubRead space off n
  (bs, { s with actor := [] })

/-- Write bytes of space 0, 2 or 4 for a context; host memory has no poison marks. -/
def State.writeFor (s : State) (ctx space off : Nat) (bs : List (Byte × Bool)) : State :=
  if space = 4 then s.setBytes (memKey 4 off) (bs.map (fun b => b.1))
  else { (({ s with actor := [ctx] }).hubWrite space off bs) with actor := [] }

end Sys2Proof.Machine
end

