-- ==== Sys2Proof/Machine/Copies.lean ====
section
/-! DEFINITION. Copy descriptors, routes, deadlines, claims and the copy-out engine (R257 to R266, R279, R439). -/

namespace Sys2Proof.Machine

/-! ### Descriptors (Table 8.8, Table 8.9, R260) -/

/-- A copy descriptor (Table 8.8) from its 64 bytes. -/
def copyDescOf (bs : List Byte) : CopyDesc :=
  let f := fun (o n : Nat) => fieldAt bs o n
  { src := f 0 8, dst := f 8 8, rlen := bitsOf (f 16 4) 16 0, nrow := f 20 2, kind := f 22 1, sco := bitOf (f 23 1) 0,
    sstr := bitsOf (f 24 4) 22 0, dstr := bitsOf (f 28 4) 22 0, ssrc := f 32 8, sdst := f 40 8, slen := bitsOf (f 48 2) 12 0,
    mask := f 56 8 }

/-- A KV selector. -/
structure KvSel where
  ctx : Nat
  hg : Nat
  k : Bool
  v : Bool
  pos : Nat
  n : Nat
  deriving DecidableEq, Repr

/-- The selector of a word (Table 8.9). -/
def kvSelOf (w : Nat) : KvSel :=
  ⟨bitsOf w 7 0, bitsOf w 13 8, bitOf w 14, bitOf w 15, bitsOf w 35 16, bitsOf w 44 36 + 1⟩

/-- Is the copy a KV copy, and its selector. -/
def CopyDesc.isKv (d : CopyDesc) : Bool := d.kind = 2 ∨ d.kind = 3
def CopyDesc.sel (d : CopyDesc) : KvSel := kvSelOf (if d.kind = 2 then d.src else d.dst)

/-- A selector outside Table 8.9. -/
def State.kvSelBad (s : State) (ctx w : Nat) : Bool :=
  let v := kvSelOf w
  bitsOf w 63 45 ≠ 0 ∨ v.ctx ≠ ctx ∨ s.kvNhg ctx < v.hg ∨ (v.k = false ∧ v.v = false) ∨ 256 < v.pos % 256 + v.n

/-- A reserved or out-of-range descriptor (R260). -/
def State.copyDescBad (s : State) (ctx : Nat) (inbound : Bool) (bs : List Byte) : Bool :=
  let f := fun (o n : Nat) => fieldAt bs o n
  let d := copyDescOf bs
  let kv := d.isKv
  2 ^ 17 ≤ f 16 4 ∨ 3 < f 22 1 ∨ 1 < f 23 1 ∨ 2 ^ 23 ≤ f 24 4 ∨ 2 ^ 23 ≤ f 28 4 ∨ f 50 6 ≠ 0 ∨ (d.kind ≠ 1 ∧ d.mask ≠ 0)
    ∨ (d.sco = false ∧ (d.ssrc ≠ 0 ∨ d.sdst ≠ 0))
    ∨ (kv = true ∧ (d.rlen ≠ 0 ∨ d.nrow ≠ 0 ∨ d.sco = false ∨ f 48 2 ≠ 0
        ∨ s.kvSelBad ctx (if d.kind = 2 then d.src else d.dst) = true))
    ∨ (kv = false ∧ (d.rlen = 0 ∨ 65536 < d.rlen * (d.nrow + 1)
        ∨ (if d.sco then f 48 2 = 0 ∨ 4096 < f 48 2 else f 48 2 ≠ 0)))
    ∨ (inbound = false ∧ kv = false
        ∧ (d.src % 32 ≠ d.dst % 32 ∨ d.sstr % 32 ≠ d.dstr % 32 ∨ d.ssrc % 32 ≠ d.sdst % 32))

/-! ### Routes (Table 8.10, R258, R259, R265, R269, R439) -/

/-- What a copy that Table 8.10 allows does. -/
inductive CopyRoute where
  | local
  | push (ks : List Nat)
  | out (remote : Option Nat)
  | kvwr
  | pull
  | pullMc (ks : List Nat)
  | kvrd
  deriving DecidableEq, Repr

/-- The physical cluster that a space-1 address of this module names (R259). -/
def State.endCluster (s : State) (a : Nat) : Option Nat :=
  if gaPid a = s.pid ∧ gaSpace a = 1 ∧ gaOk a = true then s.hostOf (bitsOf (gaOff a) 27 22) else none

/-- The home cluster that a space-1 address names. -/
def homeField (a : Nat) : Nat := bitsOf (gaOff a) 27 22

/-- Every row (or the companion) of an outside endpoint in windows of the context. -/
def State.outsideOk (s : State) (ctx a stride n rows : Nat) (wr : Bool) : Bool :=
  decide (gaPid a = s.pid) && gaOk a && decide (gaSpace a ≠ 1)
    && (upTo rows).all (fun r => s.inWindows ctx (gaSpace a) (gaOff a + r * stride) n wr)

/-- The physical cluster that carries logical cluster lc of the standing RUN on a program slot of a context. -/
def State.logical (s : State) (ctx slot lc : Nat) : Option Nat :=
  match s.runs.find? (fun (r : RunRec) => decide (r.ctx = ctx ∧ r.slot = slot ∧ r.standing = true)) with
  | none => none
  | some r => match r.homes[lc]? with
    | none => none
    | some h => s.hostOf h

/-- The job slot and peer (slot x 8 + peer) through which cluster c may send to a remote address (R439). -/
def State.remotePeer (s : State) (c ctx a : Nat) : Option Nat :=
  if gaPid a ≠ s.pid ∧ (gaSpace a = 0 ∨ gaSpace a = 2) ∧ gaOk a = true then
    (upTo 128).find? (fun i =>
      let r := fun (o : Nat) => regVd (0x1000 + 0x80 * (i / 8) + o)
      let p := (s.reg (r (0x40 + 4 * (i % 8)))).toNat
      decide (s.fld (r 0x14) 1 0 = 1) && decide (s.fld (r 0) 31 24 = ctx) && bitOf p 31 && decide (bitsOf p 10 0 = gaPid a)
        && decide (s.logical ctx (s.fld (r 4) 19 16) (bitsOf p 28 23) = some c))
  else none

/-- The hosts of the home clusters in a mask: none where one has no host, is not of the context, or (where `die` is
given) lies on another die. -/
def State.maskHosts (s : State) (ctx mask : Nat) (die : Option Nat) : Option (List Nat) :=
  let hs := (upTo 64).filter (fun h => bitOf mask h)
  let ks := hs.map (fun h => s.hostOf h)
  if hs.any (fun h => !s.clMask ctx h) then none
  else if ks.any (fun k => match k with
      | none => true
      | some k => match die with
        | none => false
        | some d => decide (dieOf k ≠ d)) then none
  else some (ks.filterMap id)

/-- The route of a copy: none is a COPY-WINDOW case. -/
def State.copyRoute (s : State) (c : Nat) (inbound : Bool) (d : CopyDesc) : Option CopyRoute :=
  let ctx := (s.cl c).seq.ctx
  let here := fun (a : Nat) => decide (s.endCluster a = some c)
  let sh := fun (a : Nat) => !d.sco || here a
  let zero := fun (a : Nat) => decide (gaPid a = s.pid ∧ gaSpace a = 1 ∧ gaOk a = true ∧ homeField a = 0)
  let rows := d.nrow + 1
  if inbound then
    let srcOk := s.outsideOk ctx d.src d.sstr d.rlen rows false && (!d.sco || s.outsideOk ctx d.ssrc 0 d.slen 1 false)
    if d.kind = 2 then (if here d.dst && here d.sdst then some .kvrd else none)
    else if d.kind = 0 then (if srcOk && here d.dst && sh d.sdst then some .pull else none)
    else if d.kind = 1 then
      match s.maskHosts ctx d.mask none with
      | none => none
      | some ks =>
        if srcOk && zero d.dst && (!d.sco || zero d.sdst) && decide (ks.length ≤ 16) && ks.contains c then
          if (s.cl c).seq.rerun then some .pull else some (.pullMc ks)
        else none
    else none
  else if !(here d.src && (sh d.ssrc || (decide (d.kind = 3) && here d.ssrc))) then none
  else if d.kind = 3 then some .kvwr
  else if d.kind = 1 then
    match s.maskHosts ctx d.mask (some (dieOf c)) with
    | none => none
    | some ks =>
      if zero d.dst && (!d.sco || zero d.sdst) && decide (1 ≤ ks.length ∧ ks.length ≤ 15) && !ks.contains c then some (.push ks)
      else none
  else if d.kind = 0 then
    if gaPid d.dst = s.pid ∧ gaSpace d.dst = 1 then
      match s.endCluster d.dst with
      | none => none
      | some k =>
        if d.sco && decide (s.endCluster d.sdst ≠ some k) then none
        else if k = c then some .local
        else if dieOf k = dieOf c ∧ s.clMask ctx (homeField d.dst) = true then some (.push [k])
        else none
    else
      let one := fun (a stride n rows : Nat) => s.outsideOk ctx a stride n rows true || (s.remotePeer c ctx a).isSome
      if one d.dst d.dstr d.rlen rows && (!d.sco || one d.sdst 0 d.slen 1) then
        some (.out (match s.remotePeer c ctx d.dst with
          | some p => some p
          | none => s.remotePeer c ctx d.sdst))
      else none
  else none

/-! ### Pieces and words (R257, R259, R262) -/

/-- The pieces of a copy in the cluster: (cluster byte, other end's byte offset, length), rows first, companion
after. For KV copies the other end is the offset in the page image. -/
def State.copyPieces (s : State) (d : CopyDesc) : List (Nat × Nat × Nat) :=
  if d.isKv then
    let v := d.sel
    let sp := kvSpans (s.kvKg v.ctx) (s.kvVg v.ctx) v.k v.v (v.pos % 256) v.n
    let e := gaOff (if d.kind = 2 then d.dst else d.src)
    let b := gaOff (if d.kind = 2 then d.sdst else d.ssrc)
    (sp.filter (fun x => !x.1)).map (fun x => (e + x.2.1, x.2.1, x.2.2))
      ++ (sp.filter (fun x => x.1)).map (fun x => (b + x.2.1, x.2.1, x.2.2))
  else
    let inn := decide (gaSpace d.src ≠ 1)
    let cl := fun (r : Nat) => if inn then gaOff d.dst + r * d.dstr else gaOff d.src + r * d.sstr
    let far := fun (r : Nat) => if inn then gaOff d.src + r * d.sstr else gaOff d.dst + r * d.dstr
    (upTo (d.nrow + 1)).map (fun r => (cl r, far r, d.rlen))
      ++ (if d.sco then [(gaOff (if inn then d.sdst else d.ssrc), gaOff (if inn then d.ssrc else d.sdst), d.slen)] else [])

/-- The part of a piece in one word: cluster word, offset in it, bytes, the other end's byte. -/
structure CopyWord where
  word : Nat
  off : Nat
  n : Nat
  far : Nat
  deriving DecidableEq, Repr

/-- The words that pieces cover, in order. -/
def copyWords (ps : List (Nat × Nat × Nat)) : List CopyWord :=
  ps.flatMap (fun p => (upTo ((p.1 % 32 + p.2.2 + 31) / 32)).map (fun i =>
    let lo := max p.1 (p.1 / 32 * 32 + 32 * i)
    let hi := min (p.1 + p.2.2) (p.1 / 32 * 32 + 32 * i + 32)
    ⟨lo / 32 % 2 ^ 17, lo % 32, hi - lo, p.2.1 + (lo - p.1)⟩))

/-! ### Deadlines (R279) -/

/-- Class of an outside endpoint (R279), and the bytes moved. -/
def State.copyCls (s : State) (a : Nat) : Nat :=
  if gaPid a ≠ s.pid then 3 else if gaSpace a = 0 then 0 else if gaSpace a = 2 then 1 else 2

/-- The deadline of a bounded copy (R279), with the class of its rows. -/
def State.copyDeadline (s : State) (c : Nat) (inbound : Bool) (I : Nat) (d : CopyDesc) : Nat × Nat :=
  let win := fun (n : Nat) => (s.reg (regCl c (0x240 + 4 * n))).toNat
  let base := fun (n : Nat) => bitsOf (win n) 31 16
  let part := fun (n b : Nat) => ceilDiv (b * bitsOf (win n) 15 0) 1024
  if d.isKv then
    let b := (s.copyPieces d).foldl (fun a p => a + p.2.2) 0
    (I + 8 * base 0 + part 0 b, 0)
  else
    let r := s.copyCls (if inbound then d.src else d.dst)
    let q := s.copyCls (if inbound then d.ssrc else d.sdst)
    let b := d.rlen * (d.nrow + 1)
    if !d.sco then (I + 8 * base r + part r b, r)
    else if r = q then (I + 8 * base r + part r (b + d.slen), r)
    else (I + 8 * max (base r) (base q) + part r b + part q d.slen, r)

/-! ### Entries, tags, stops -/

/-- Change the entry of the copy with issue order o. -/
def State.updCopy (s : State) (c o : Nat) (f : CopyJob → CopyJob) : State :=
  s.updCl c (fun k => { k with cp := { k.cp with jobs := k.cp.jobs.map (fun j => if j.order = o then f j else j) } })

/-- A tag clears: the copy leaves its engine. -/
def State.tagClear (s : State) (c n : Nat) : State :=
  s.updCl c (fun k => { k with seq := { k.seq with tags := k.seq.tags &&& ~~~ BitVec.ofNat 16 (2 ^ n) },
                               cp := { k.cp with jobs := k.cp.jobs.filter (fun j => j.tag ≠ n) } })

/-- The stop of a copy by its descriptor: the tag is cleared (R260, Table 16.4). -/
def State.copyStop (s : State) (c kind : Nat) (j : Job) : State :=
  let tag := bitsOf j.op 23 20
  (s.tagClear c tag).stopAs c kind j.slot true 0 (some (tag * 2 ^ 20 + bitsOf (j.arg 0) 16 0))

/-- The tag of a copy clears in c-cycle t: WAITX may issue from t on. -/
def State.tagAt (s : State) (c t jid unit slot tag : Nat) : State :=
  let t := max t ((s.cl c).seq.ran + 1)
  s.sched c (t - 1) 2 jid unit slot (.tagClr tag)

/-! ### Words on the way (R265) -/

/-- Nibbles of the bytes of a copy word as read from `w`, written at offset `o` of a word, and the granules that carry
poison. -/
def copyNibs (w : MemWord) (x : CopyWord) : List (Nat × Nat) × List Nat :=
  ((upTo x.n).flatMap (fun i => byteNibs (x.off + i) (w.byte (x.off + i))),
   (upTo 4).filter (fun g => w.bad g && decide (8 * g < x.off + x.n ∧ x.off < 8 * g + 8)))

/-- A push write arrives at a cluster in c-cycle t: scheduled where a program runs there, else performed at once; a
stopped cluster discards it (R265). -/
def State.pushWrite (s : State) (k t w : Nat) (nibs : List (Nat × Nat)) (carry : List Nat) : State :=
  let q := (s.cl k).seq
  if q.st = .stopped ∨ s.fences.contains k = true then s
  else if q.st = .running then s.sched k (max t q.ran) 1 0 8 q.place (.wr true [(w, nibs, carry)])
  else if bitOf (q.maskOf 8) (bankOf w) then (s.writeWord k w nibs carry).numFlagIf k 17 (decide (carry ≠ []))
  else s.stopAs k kBankOwnership q.place true (bankOf w) none

/-- The members of a push. -/
def State.pushMembers (s : State) (c : Nat) (d : CopyDesc) : List Nat :=
  match s.copyRoute c false d with
  | some (.push ks) => ks
  | _ => []

/-! ### Claims (R24, R263, R264) -/

/-- The claims of a push of W words from S on (R263). -/
def pushClaims (c jid S W : Nat) (ks : List Nat) : List Claim :=
  let n := ceilDiv W 4
  (if ks.any (fun k => decide (regionOf k = regionOf c)) then [⟨resBus (regionOf c), S + 4, 4, n, c, jid⟩] else [])
    ++ (ks.filter (fun k => decide (regionOf k ≠ regionOf c))).map (fun k => ⟨resPort k, S + 12, 4, n, c, jid⟩)

/-- Does RG_SLOTMAP permit a claim of cluster c on its region bus (R264)? -/
def State.slotMapOk (s : State) (c : Nat) (k : Claim) : Bool :=
  decide (16 ≤ k.res) || (upTo (min 4 k.count)).all (fun i =>
    bitOf (s.reg (regRg (regionOf c) 0)).toNat (4 * ((k.first + i * k.step) % 4) + c % 4))

/-- Enter claims in c-cycle t, or refuse them (R24, R263, R264): false where the claiming cluster stops. -/
def State.claim (s : State) (c t slot : Nat) (ks : List Claim) : Bool × State :=
  if ks.any (fun k => !s.slotMapOk c k) then (false, s.stopX c kSlotConflict slot)
  else
    match s.claimMeets ks with
    | none => (true, { s with claims := s.claims ++ ks })
    | some h =>
      let hq := (s.cl h.cl).seq
      let hs := ((lookup (s.cl h.cl).jobs.rows h.job).map (fun j => j.slot)).getD 0
      let s := if h.cl = c then s else s.sched h.cl (max t hq.ran) 2 h.job 9 hs (.stop kSlotConflict)
      (false, s.stopX c kSlotConflict slot)

/-! ### The copy engines -/

/-- The descriptor has been read: it is checked, and the copy starts (R258 to R264). -/
def State.cpStart (s : State) (c jid : Nat) (inbound : Bool) (j : Job) : State :=
  let w0 := j.word 0 0
  let w1 := j.word 0 1
  let bs := w0.bytes ++ w1.bytes
  let ctx := (s.cl c).seq.ctx
  let d := copyDescOf bs
  let tag := bitsOf j.op 23 20
  let I := j.issued
  let unit := if inbound then 8 else 9
  let o := j.note.getD 0 0
  if w0.poison ≠ 0 ∨ w1.poison ≠ 0 ∨ s.copyDescBad ctx inbound bs = true then s.copyStop c 0x24 j
  else
    match s.copyRoute c inbound d with
    | none => s.copyStop c 0x25 j
    | some r =>
      let dl := s.copyDeadline c inbound I d
      let s := s.updCopy c o (fun (e : CopyJob) => { e with desc := some d, deadline := dl.1, cls := dl.2 })
      if inbound then
        let s := match r with
          | .pullMc _ =>
            let n := (lookup (s.cl c).cp.mcCount d.mask).getD 0
            (s.updCopy c o (fun (e : CopyJob) => { e with mcNo := n + 1 })).updCl c (fun k =>
              { k with cp := { k.cp with mcCount := insertAt k.cp.mcCount d.mask (n + 1) } })
          | _ => s
        (s.done c unit (I + 2)).dropJob c jid
      else
        let ws := copyWords (s.copyPieces d)
        let W := ws.length
        let S := max (I + 2) ((s.cl c).cp.lastOut + 1)
        let s := s.updCl c (fun k => { k with cp := { k.cp with lastOut := S + W - 1 } })
        let s := s.updCopy c o (fun (e : CopyJob) => { e with lastRead := S + W - 1 })
        let reads := fun (s : State) => (upTo W).foldl (fun (s : State) k =>
          s.sched c (S + k) 1 jid unit j.slot (.rd (10 + k) unit [(ws.getD k ⟨0, 0, 0, 0⟩).word])) s
        let note := fun (s : State) => s.updJob c jid (fun (e : Job) => { e with note := [o, S] })
        match r with
        | .local =>
          let s := note (reads s)
          let s := (upTo W).foldl (fun (s : State) k => s.sched c (S + k + 2) 0 jid unit j.slot (.run (10 + 2 * k))) s
          (((s.updCopy c o (fun (e : CopyJob) => { e with fixed := true })).tagAt c (S + W + 2) jid unit j.slot tag).done c unit
            (S + W + 2)).sched c (S + W + 1) 2 jid unit j.slot (.run dropStep)
        | .push ks =>
          let (ok, s) := s.claim c (I + 1) j.slot (pushClaims c jid S W ks)
          if !ok then s.tagClear c tag
          else
            let s := note (reads s)
            let s := (upTo (ceilDiv W 4)).foldl (fun (s : State) b =>
              s.sched c (S + 4 * b + 4) 0 jid unit j.slot (.run (11 + 2 * b))) s
            let last := S + W + (if ks.any (fun k => decide (regionOf k ≠ regionOf c)) then 12 else 4)
            (((s.updCopy c o (fun (e : CopyJob) => { e with fixed := true })).tagAt c (last + 1) jid unit j.slot tag).done c unit
              (last + 1)).sched c last 2 jid unit j.slot (.run dropStep)
        | .out rem =>
          let s := note (reads (s.updCopy c o (fun (e : CopyJob) => { e with remote := rem })))
          (s.done c unit (S + W)).sched c (S + W - 1) 2 jid unit j.slot (.run 3)
        | _ =>
          let s := note (reads s)
          (s.done c unit (S + W)).sched c (S + W - 1) 2 jid unit j.slot (.run 3)

/-- A step of copy-out after its descriptor. -/
def State.cpStep (s : State) (c jid i t : Nat) (j : Job) : State :=
  let o := j.note.getD 0 0
  match (s.cl c).cp.jobs.find? (fun (e : CopyJob) => decide (e.order = o)) with
  | none => s
  | some e =>
    match e.desc with
    | none => s
    | some d =>
      let ps := s.copyPieces d
      let ws := copyWords ps
      let W := ws.length
      let wd := fun (k : Nat) => j.word (10 + k) 0
      let at_ := fun (k : Nat) => ws.getD k ⟨0, 0, 0, 0⟩
      let poi := fun (ks : List Nat) => ks.any (fun k => decide ((copyNibs (wd k) (at_ k)).2 ≠ []))
      if i = 3 then
        let bytes := (upTo W).flatMap (fun k =>
          let x := at_ k
          (upTo x.n).map (fun b => (BitVec.ofNat 8 ((wd k).byte (x.off + b)), (wd k).bad ((x.off + b) / 8))))
        let nr := if d.isKv then
            (ps.filter (fun p => decide (p.2.2 ≠ 0))).foldl (fun a p => a + p.2.2) 0
          else d.rlen * (d.nrow + 1)
        let s := s.updCopy c o (fun (e : CopyJob) => { e with rows := bytes.take nr, comp := bytes.drop nr, sent := true })
        (s.numFlagIf c 18 (poi (upTo W))).dropJob c jid
      else if i % 2 = 0 then
        let k := (i - 10) / 2
        let x := at_ k
        let n := copyNibs (wd k) x
        (s.sched c t 1 jid 9 j.slot (.wr true [(x.far / 32 % 2 ^ 17, n.1, n.2)])).numFlagIf c 18 (poi [k])
      else
        let b := (i - 11) / 2
        let ks := (upTo 4).filterMap (fun i => if 4 * b + i < W then some (4 * b + i) else none)
        let s := s.numFlagIf c 18 (poi ks)
        (s.pushMembers c d).foldl (fun (s : State) m =>
          let base := t + (if regionOf m = regionOf c then 1 else 9)
          ks.foldl (fun (s : State) k =>
            let x := at_ k
            let n := copyNibs (wd k) x
            s.pushWrite m (base + (k - 4 * b)) (x.far / 32 % 2 ^ 17) n.1 n.2) s) s

end Sys2Proof.Machine
end

