-- ==== Sys2Proof/Machine/Reduction.lean ====
section
/-! DEFINITION. The reduction unit in flight (R238, R239). -/

namespace Sys2Proof.Machine

/-- One node of the tree: an absent operand passes the other (R238). The sum with its saturation. -/
def redNode (a b : Option (List (Option Int))) : Option (List (Option Int)) × Bool :=
  match a, b with
  | none, x => (x, false)
  | x, none => (x, false)
  | some x, some y =>
    let r := (x.zip y).map (fun e =>
      match e.1, e.2 with
      | some u, some v => let z := sat28 (u + v); (some z.1, z.2)
      | _, _ => (none, false))
    (some (r.map (fun e => e.1)), r.any (fun e => e.2))

/-- The tree over the eight inputs: (0,1) (2,3) (4,5) (6,7), then the first two and the last two sums, then both. -/
def redTree (x : Nat → Option (List (Option Int))) : Option (List (Option Int)) × Bool :=
  let a := redNode (x 0) (x 1)
  let b := redNode (x 2) (x 3)
  let c := redNode (x 4) (x 5)
  let d := redNode (x 6) (x 7)
  let e := redNode a.1 b.1
  let f := redNode c.1 d.1
  let g := redNode e.1 f.1
  (g.1, a.2 || b.2 || c.2 || d.2 || e.2 || f.2 || g.2)

/-- The parameters of RD.SUM (R238). -/
structure RdPar where
  mask : Nat
  n : Nat
  remote : Bool
  tgt : Nat
  block : Nat
  row0 : Nat
  dest : Nat
  input : Nat
  deriving DecidableEq, Repr

def rdParOf (op a0 : Nat) : RdPar :=
  { mask := bitsOf op 23 16, n := bitsOf op 15 10 + 1, remote := bitsOf op 9 8 = 1, tgt := bitsOf a0 1 0,
    block := bitsOf a0 3 2, row0 := bitsOf a0 9 4, dest := bitsOf a0 15 10, input := bitsOf a0 18 16 }

/-- C-cycles from leaving to arriving at a remote input (R239). -/
def redDelay (c k : Nat) : Nat := if regionOf k = regionOf c then 4 else 12

/-- A row arrives at a remote input in c-cycle t. -/
def State.redArrive (s : State) (k t input : Nat) (r : RedRow) : State :=
  let q := (s.cl k).seq
  if q.st = .stopped ∨ s.fences.contains k = true then s
  else if q.st = .running then s.sched k (max t q.ran) 0 0 12 q.place (.redIn input r)
  else s.stopX k kReductionConflict q.place

/-- Row i of an RD.SUM is collected in c-cycle t = I + 1 + i, and leaves at I + 5 + i (R238, R239). -/
def State.rdCollect (s : State) (c jid i t : Nat) (j : Job) : State :=
  let p := rdParOf j.op (j.arg 0)
  let now := (s.cl c).red.now
  let ins := (upTo 8).filter (fun n => bitOf p.mask n)
  let row := fun (n : Nat) => (now.find? (fun e => e.1 = n)).map (fun e => e.2)
  let got := ins.filterMap row
  let h : RedRow := got.headD ⟨0, 0, []⟩
  let s := s.updCl c (fun k => { k with red := { k.red with now := now.filter (fun e => !ins.contains e.1) } })
  if got.length ≠ ins.length ∨ got.any (fun r => r.ea ≠ h.ea ∨ r.d ≠ h.d) = true then
    s.stopX c kReductionConflict j.slot
  else
    let (sum, sat) := redTree (fun n => if bitOf p.mask n then (row n).map (fun r => r.vals) else none)
    let vals := sum.getD (List.replicate 64 (some 0))
    let s := (s.numFlagIf c 15 sat).numFlagIf c 16 (got.any (fun r => r.vals.any (fun v => v = none)))
    if p.remote then
      match j.note.head? with
      | none => s
      | some k => s.redArrive k (t + 4 + redDelay c k) p.input ⟨h.ea, h.d, vals⟩
    else
      s.sched c (t + 4) 0 jid 12 j.slot (.dlv p.tgt ⟨p.block, p.row0 + i, vals.map (fun v =>
        ⟨v.getD 0, v.isNone, (h.ea : Int) - 36 - h.d, true, false⟩)⟩)

end Sys2Proof.Machine
end

