-- ==== Sys2Proof/Machine/Vector.lean ====
section
/-! DEFINITION. The vector unit (R234, R235): lane values, function tables, loads and deliveries. -/

namespace Sys2Proof.Machine

/-- The 128 lanes of a lane register: value, poisoned. -/
def Vec.lane (v : Vec) (d : Nat) : List (Int × Bool) := v.lanes.get d (List.replicate 128 (0, false))

/-- The lanes of a computed result: a poisoned lane holds zero. -/
def poisonLanes (l : List (Int × Bool)) : List (Int × Bool) := l.map (fun e => if e.2 then (0, true) else e)

/-- Lane-by-lane operation with saturation at the V16 limits: lanes, and whether one saturated. -/
def laneMap2 (f : Int → Int → Int) (a b : List (Int × Bool)) : List (Int × Bool) × Bool :=
  let r := (a.zip b).map (fun e =>
    if e.1.2 || e.2.2 then ((0, true), false)
    else let y := sat16s (f e.1.1 e.2.1); ((y.1, false), y.2))
  (r.map (fun e => e.1), r.any (fun e => e.2))

/-- VU.TAB (Table 7.9). -/
def laneTab (T : List Int) (x : Int) : Int :=
  let i := ((x / 256) + 128).toNat
  let f := x % 256
  let t := fun (k : Nat) => if 256 ≤ k then T.getD 255 0 else T.getD k 0
  t i + rneDiv ((t (i + 1) - t i) * f) 256

/-- VU.SUMR and VU.MAXR combine the lanes of registers s1 ... s1 + n - 1. -/
def laneAll (v : Vec) (s1 n : Nat) : List (Int × Bool) := (upTo n).flatMap (fun i => v.lane (s1 + i))

/-- The value that a combining operation broadcasts, poisoned where any lane is. -/
def laneBroadcast (ls : List (Int × Bool)) (y : Int × Bool) : List (Int × Bool) × Bool :=
  if ls.any (fun e => e.2) then (List.replicate 128 (0, true), false) else (List.replicate 128 (y.1, false), y.2)

/-- The largest of a list of lanes. -/
def laneMaxOf (ls : List (Int × Bool)) : Int :=
  match ls with
  | [] => 0
  | e :: r => r.foldl (fun a x => max a x.1) e.1

/-- The result of an arithmetic operation on lanes as they stand at issue: opcode 1 to 8 (Table 7.9). -/
def laneOp (v : Vec) (o s1 s2 k t : Nat) : List (Int × Bool) × Bool :=
  let a := v.lane s1
  let b := v.lane s2
  if o = 1 then laneMap2 (fun x y => x + y) a b
  else if o = 2 then laneMap2 (fun x y => x - y) a b
  else if o = 3 then laneMap2 (fun x y => rneShift (x * y) (-(k : Int))) a b
  else if o = 4 then laneMap2 max a b
  else if o = 5 then laneMap2 min a b
  else if o = 6 then laneMap2 (fun x _ => laneTab (v.tabs.get t (List.replicate 256 0)) x) a a
  else
    let ls := laneAll v s1 (s2 + 1)
    if o = 7 then laneBroadcast ls (sat16s (rneShift (ls.foldl (fun x e => x + e.1) 0) (-(k : Int))))
    else laneBroadcast ls (laneMaxOf ls, false)

/-- A result is written, with the flags of the operation (R234). -/
def State.vuWrite (s : State) (c d : Nat) (v : List (Int × Bool)) (sat poi : Bool) : State :=
  let s := s.updCl c (fun k => { k with vu := { k.vu with lanes := k.vu.lanes.set d (poisonLanes v) } })
  (s.numFlagIf c 10 sat).numFlagIf c 11 poi

/-- VU.LD: the lanes of the two words and the scale bytes that were read. -/
def State.vuLoad (s : State) (c : Nat) (j : Job) : State :=
  let af := bitsOf j.op 10 9
  let g := gsOf (bitsOf j.op 8 7)
  let fb := bitsOf j.op 14 11
  let sb := bitsOf (j.arg 1) 21 0
  let ws := (j.words 0).take 1 ++ j.words 1
  let scs := (j.words 0).drop 1
  let el := fun (i : Nat) => ws.getD (i / 64) ⟨[], 0⟩
  let codes := (upTo (128 / g)).map (fun q =>
    let b := wordsByte scs sb q
    if b.2 || (upTo g).any (fun i => (el (q * g + i)).nibBad ((q * g + i) % 64)) then 0xFF else b.1)
  let r := (upTo 128).map (fun i =>
    let sc := codes.getD (i / g) 0
    if sc = 0xFF then (((0 : Int), true), false)
    else if sc = 0 then ((0, false), false)
    else
      let v := actCell af 0 ((el i).nib (i % 64)) * (sc8Sig sc : Int)
      let y := sat16s (rneShift v ((sc8Exp sc : Int) - 18 + fb - actD af))
      ((y.1, false), y.2))
  s.vuWrite c (bitsOf j.op 23 21) (r.map (fun e => e.1)) (r.any (fun e => e.2)) (codes.any (fun x => x = 0xFF))

/-- VU.TLD: the table has been read. -/
def State.vuTable (s : State) (c : Nat) (j : Job) : State :=
  let r := (upTo 16).foldl (fun (a : List Int × State) i =>
    let p := a.2.plainBytes (j.word i 0)
    (a.1 ++ (upTo 16).map (fun n => signed 16 (p.1.getD (2 * n) 0 + 256 * p.1.getD (2 * n + 1) 0)), p.2)) ([], s)
  r.2.updCl c (fun k => { k with vu := { k.vu with tabs := k.vu.tabs.set (bitsOf j.op 12 11) r.1 } })

/-- The 64 values of half h of a lane register, as VU.OUT delivers them (R113). -/
def laneDlv (ls : List (Int × Bool)) (h : Nat) : List Dlv :=
  (upTo 64).map (fun i => let e := ls.getD (64 * h + i) (0, false); ⟨e.1, e.2, 0, false, false⟩)

end Sys2Proof.Machine
end

