-- ==== Sys2Proof/Machine/Sequencer.lean ====
section
/-! DEFINITION. The c-cycles of a cluster: scheduled acts, bank accesses and their checks (R223 to R226), stops
(R222), and the issue of bundles (R218 to R221). -/

namespace Sys2Proof.Machine

/-! ### Acts -/

/-- LDA: the word that was read enters ARG[d] ... ARG[d + 7]. -/
def State.ldaDone (s : State) (c : Nat) (j : Job) : State :=
  let (bs, s) := s.plainBytes (j.word 0 0)
  let v := fun (i : Nat) => BitVec.ofNat 32 (leNat ((upTo 4).map (fun b => BitVec.ofNat 8 (bs.getD (4 * i + b) 0))))
  s.updSeq c (fun q =>
    let as := (upTo 8).foldl (fun (t : Table Word32) i => t.set (bitsOf j.op 25 20 + i) (v i)) q.args
    { q with args := as })

/-- The edge engine's descriptor has been read in c-cycle t: with a good one the run claims its region-bus c-cycles
(R204, R263), and its completion is scheduled (R209). -/
def State.edgeBegin (s : State) (c t id : Nat) (j : Job) : State :=
  let s := s.edgeStart c id j
  if (s.cl c).seq.st ≠ .running then s
  else
    let d := j.edgeDesc
    let n := d.endAt j.issued
    let (ok, s) := s.claim c t j.slot [⟨resBus (regionOf c), j.issued + 2, 2, (n - j.issued) / 2, c, id⟩]
    if ok then s.sched c n 0 id uEdge j.slot (.run edgeEnd) else s.setFld (regEe (dieOf c) 4) 0 0 0

/-- A run completes: EE_STAT.RUNS, ERR and BUSY (R209, R211). -/
def State.edgeFinish (s : State) (c id : Nat) : State :=
  let r := regEe (dieOf c) 4
  (((s.count r 31 16).setFld r 9 8 0).setFld r 0 0 0).dropJob c id

/-- Step i of an operation in flight, in c-cycle t. -/
def State.runStep (s : State) (c t id i : Nat) (j : Job) : State :=
  if i = dropStep then s.dropJob c id
  else
    match j.kind with
    | .lda => (s.ldaDone c j).dropJob c id
    | .mx => if i < 1000 then s.mxRow c id i j else s.mxList c id (i - 1000) j
    | .mxLd => s.mxLoaded c i j
    | .mxDr => s.mxDrain c id i t j
    | .edAtt => if i = 0 then s.edMask c id j else if i = 1 then s.edMask2 c j else s.edDone c id (i - 2) j
    | .vuLd => (s.vuLoad c j).dropJob c id
    | .vuTld => (s.vuTable c j).dropJob c id
    | .slP2 => match j.stage with | none => s | some v => s.passTwo c i t j v
    | .slCv => (s.slCvRead c j).dropJob c id
    | .slTld => (s.slTldDone c j).dropJob c id
    | .slZld => (s.slZldDone c j).dropJob c id
    | .slSeed => (s.slSeedDone c j).dropJob c id
    | .slKl => (s.slKlDone c j).dropJob c id
    | .slKa => match j.stage with | none => s | some v => s.slKaRow c i t j v
    | .slKu => (s.slKuDone c t j).dropJob c id
    | .stRing => (s.stRing c j).dropJob c id
    | .stWin => if i < 2000 then s.stWin c id i t j else s.stWinScale c (i - 2000) j
    | .stRpk => s.stRpk c id i t j
    | .stTrp => s.stTrp c id i t j
    | .rdSum => s.rdCollect c id i t j
    | .cpOut => if i = 0 then s.cpStart c id false j else s.cpStep c id i t j
    | .cpIn => s.cpStart c id true j
    | .edge => if i = 0 then s.edgeBegin c t id j else if i = edgeEnd then s.edgeFinish c id else s.edgeStep c id i j

/-- What happens in c-cycle t, but for the bank accesses. -/
def State.fire (s : State) (c t : Nat) (e : Ev) : State :=
  match e.act with
  | .rd _ _ _ => s
  | .wr _ _ => s
  | .run i =>
    match lookup (s.cl c).jobs.rows e.job with
    | none => s
    | some j => s.runStep c t e.job i j
  | .acc w => s.accWrite c w
  | .lanes d v sat poi => s.vuWrite c d v sat poi
  | .dlv tgt d => s.deliver c tgt t e.slot d
  | .drow m => s.directRow c m t e.slot
  | .redIn input r => s.updCl c (fun k => { k with red := { k.red with now := k.red.now ++ [(input, r)] } })
  | .args d vs => s.updSeq c (fun q =>
      let as := (upTo vs.length).foldl (fun (a : Table Word32) i => a.set (d + i) (BitVec.ofNat 32 (vs.getD i 0))) q.args
      { q with args := as })
  | .masks vs => s.updSeq c (fun q => { q with masks := ⟨(upTo vs.length).map (fun i => (i, vs.getD i 0))⟩ })
  | .flagClr m => s.clearNumFlags c m
  | .setFlag bit => s.numFlag c bit
  | .tagClr n => s.tagClear c n
  | .stop kind => s.stopX c kind e.slot

/-! ### Bank accesses of one c-cycle -/

/-- The words of an access. -/
def Act.words : Act → List Nat
  | .rd _ _ ws => ws
  | .wr _ ws => ws.map (fun e => e.1)
  | _ => []

/-- The group in which sub-banks are judged; 99: not judged. -/
def Act.grp (u : Nat) : Act → Nat
  | .rd _ g _ => g
  | .wr sub _ => if sub then u else 99
  | _ => 99

/-- Is the act a write? -/
def Act.isWr : Act → Bool
  | .wr _ _ => true
  | _ => false

/-- The banks of unit `u` in which its accesses `es` of one c-cycle break a rule, with the kind and the place (R223,
R226, R262). -/
def unitFaults (mask u : Nat) (es : List Ev) : List (Nat × Nat × Nat) :=
  let own := es.flatMap (fun e => ((e.act.words.map bankOf).eraseDups.filter (fun b => ¬ bitOf mask b)).map
    (fun b => (b, kBankOwnership, e.slot)))
  let local_ := if u = 9 then
      let rb := ((es.filter (fun e => !e.act.isWr)).flatMap (fun e => e.act.words)).map bankOf
      (es.filter (fun e => e.act.isWr)).flatMap (fun e =>
        ((e.act.words.map bankOf).eraseDups.filter (fun b => rb.contains b)).map (fun b => (b, kBankConflict, e.slot)))
    else []
  let gs := (es.map (fun e => e.act.grp u)).eraseDups.filter (fun g => g ≠ 99)
  let sub := gs.filterMap (fun g =>
    let mine := es.filter (fun e => e.act.grp u = g)
    (subBankMeet (mine.flatMap (fun e => e.act.words)).eraseDups).map (fun b => (b, kBankConflict, (mine.map (fun e => e.slot)).headD 0)))
  own ++ local_ ++ sub

/-- The bank accesses of c-cycle t (R223 to R226): every unit's accesses are checked; an access to a bank where a rule
is broken does not take place, and its operation goes no further; a word that a unit needs twice is read once; reads see
what stood before the writes. -/
def State.access (s : State) (c : Nat) (es : List Ev) : State :=
  let q := (s.cl c).seq
  let units := (upTo 12).filter (fun u => es.any (fun e => e.unit = u))
  let faults := units.flatMap (fun u => (unitFaults (q.maskOf u) u (es.filter (fun e => e.unit = u))).map (fun f => (u, f)))
  let s := match faults with
    | [] => s
    | f :: _ => s.stopAs c f.2.2.1 f.2.2.2 true f.2.1 none
  let ok := fun (u w : Nat) => !faults.any (fun f => f.1 = u ∧ f.2.1 = bankOf w)
  let s := units.foldl (fun (s : State) u => s.noteReads c
    (((es.filter (fun e => e.unit = u ∧ e.act.isWr = false)).flatMap (fun e => e.act.words)).eraseDups.filter (ok u))) s
  let s := es.foldl (fun (s : State) e =>
    match e.act with
    | .rd idx _ ws =>
      let got := ws.map (fun w => s.word c w)
      if ws.all (ok e.unit) then
        match lookup (s.cl c).jobs.rows e.job with
        | none => s
        | some j => (s.updJob c e.job (fun j => { j with got := j.got.set idx got })).numFlagIf c 9
            (decide (j.kind = .edAtt) && edReadBad (edParOf j.op j.args) idx got)
      else s.dropJob c e.job
    | _ => s) s
  es.foldl (fun (s : State) e =>
    match e.act with
    | .wr _ ws =>
      ws.foldl (fun (s : State) w =>
        if ok e.unit w.1 then
          (s.writeWord c w.1 w.2.1 w.2.2).numFlagIf c 17 (decide (e.unit = 8 ∧ w.2.2 ≠ []))
        else s) s
    | _ => s) s

/-! ### C-cycles -/

/-- Take the acts due in c-cycle t up to a phase out of a cluster. -/
def State.takeEvs (s : State) (c t ph : Nat) : List Ev × State :=
  let due := fun (e : Ev) => decide (e.at_ ≤ t ∧ e.ph ≤ ph)
  ((s.cl c).evs.filter due, s.updCl c (fun k => { k with evs := k.evs.filter (fun e => !due e) }))

/-- A stop has taken effect: every unit halts, and an edge-engine run of the cluster with it (R222). -/
def State.halt (s : State) (c : Nat) : State :=
  if (s.cl c).seq.st = .stopped then
    let s := if (s.cl c).jobs.rows.any (fun e => e.2.kind = .edge) then s.setFld (regEe (dieOf c) 4) 0 0 0 else s
    s.updCl c (fun k => { k with evs := [], jobs := ⟨[]⟩, red := { k.red with now := [] } })
  else s

/-- C-cycle t of a cluster: the acts before the accesses, the accesses, the acts after them; a row at a reduction
input that no RD.SUM took stops the cluster (R239); a stop takes effect at the end. -/
def State.runCycle (s : State) (c t : Nat) : State :=
  let (e0, s) := s.takeEvs c t 0
  let s := e0.foldl (fun (s : State) e => s.fire c t e) s
  let (e1, s) := s.takeEvs c t 1
  let s := s.access c (e1.filter (fun e => e.ph = 1))
  let s := (e1.filter (fun e => e.ph ≠ 1)).foldl (fun (s : State) e => s.fire c t e) s
  let (e2, s) := s.takeEvs c t 2
  let s := e2.foldl (fun (s : State) e => s.fire c t e) s
  let s := if (s.cl c).red.now = [] then s else s.stopX c kReductionConflict (s.cl c).seq.place
  s.halt c

/-- The bundle being issued is refused (R221, R222): the cluster is as before the bundle, runs the c-cycle of
detection to its end, and is stopped. `slot` names the operation at fault. -/
def State.refuseAt (s : State) (c kind slot bank : Nat) (addr : Option Nat) : State :=
  let was := s.undo.get c (s.cl c)
  let I := (s.cl c).seq.cyc
  let s := { s with claims := s.claims.filter (fun k => k.cl ≠ c ∨ k.job < was.nextJob) }
  let s := if (s.cl c).jobs.rows.any (fun e => decide (was.nextJob ≤ e.1) && decide (e.2.kind = .edge)) then
      s.setFld (regEe (dieOf c) 4) 0 0 0 else s
  let s := (s.setCl c was).stopAs c kind (was.seq.pc.toNat * 8 + slot) false bank addr
  ((s.runCycle c I).halt c).updSeq c (fun q => { q with ran := max q.ran (I + 1) })

/-- Refuse the bundle for a slot, or for deliveries of a lower slot that break R117 (R222: the first fault in the order of
slots). -/
def State.refuse (s : State) (c kind slot bank : Nat) (addr : Option Nat) : State :=
  match (s.cl c).sl.firstRefused ((s.cl c).seq.due.filter (fun p => p.slot < slot)) with
  | some p => s.refuseAt c p.kind p.slot 0 none
  | none => s.refuseAt c kind slot bank addr

/-- Refuse with a kind. -/
def State.stop (s : State) (c kind slot : Nat) : State := s.refuse c kind slot 0 none

/-- Deliveries of the bundle being issued: checked when it is whole, since the order of its slots has no meaning (R117, R219;
log entry 129). -/
def State.promise (s : State) (c slot kind tgt : Nat) (ds : List Coming) : State :=
  s.updSeq c (fun q => { q with due := q.due ++ [⟨slot, kind, tgt, ds⟩] })

/-- The bundle being issued is whole: its deliveries to Sluice are checked, and their positions taken. -/
def State.seal (s : State) (c : Nat) : State :=
  let k := s.cl c
  if k.seq.due = [] ∨ k.seq.st ≠ .running then s
  else
    match k.sl.firstRefused k.seq.due with
    | some p => s.stop c p.kind p.slot
    | none => (s.updSeq c (fun q => { q with due := [] })).updCl c (fun k' => { k' with sl := k.sl.reserves k.seq.due })

/-- The earliest c-cycle for which an act is scheduled. -/
def Cluster.nextEv (k : Cluster) : Option Nat :=
  match k.evs with
  | [] => none
  | e :: r => some (r.foldl (fun (m : Nat) x => min m x.at_) e.at_)

/-- Run the c-cycles before c-cycle I in which something is scheduled; `fuel` bounds their number. -/
def State.runEvs (c I : Nat) : Nat → State → State
  | 0, s => s
  | fuel + 1, s =>
    match (s.cl c).nextEv with
    | none => s
    | some t => if I ≤ t then s else State.runEvs c I fuel (s.runCycle c (max t (s.cl c).seq.ran))

/-- Run a cluster up to c-cycle I. -/
def State.runTo (s : State) (c I : Nat) : State :=
  let s := if (s.cl c).seq.cyc < I then s.seal c else s
  (State.runEvs c I (I + 1) s).updSeq c (fun q => { q with ran := max q.ran I })

/-- The bound on the c-cycles that a flush runs. -/
def flushFuel : Nat := 2 ^ 40

/-- Run everything that a cluster has scheduled, and the c-cycle after the last act. -/
def State.flushEvs (c : Nat) : Nat → State → State
  | 0, s => s
  | fuel + 1, s =>
    match (s.cl c).nextEv with
    | none => s
    | some t => State.flushEvs c fuel ((s.runCycle c t).updSeq c (fun q => { q with ran := max q.ran (t + 1) }))

/-- A bundle whose cluster waits is closed once its c-cycles run on. -/
def State.closeHeld (s : State) (c : Nat) : State :=
  s.updSeq c (fun q => if q.wait = .none then q else { q with isOpen := false })

def State.flush (s : State) (c : Nat) : State := State.flushEvs c flushFuel ((s.closeHeld c).seal c)

/-! ### Issue -/

/-- Is a cluster ready for slots 1 to 7 of the bundle being issued? -/
def State.issuing (s : State) (c : Nat) : Bool := (s.cl c).seq.st = .running && (s.cl c).seq.isOpen

/-- Open the bundle at the PC for issue in c-cycle I. -/
def State.openAt (s : State) (c I : Nat) : State :=
  let s := s.runTo c I
  let k := s.cl c
  if k.seq.st ≠ .running then s
  else
    let s := { s with undo := s.undo.set c k }
    s.updSeq c (fun q => { q with wait := .none, pcLast := q.pc, pc := q.pc + 1, cyc := I, next := I + 1,
                                  isOpen := true, ports := [], due := [], argSnap := q.args })

/-- The program store's answer for the bundle at the PC (R217): an uncorrectable error stops the cluster before the
bundle issues; a correctable one is reported. -/
def State.psCheck (s : State) (c : Nat) : State :=
  let gs := (upTo 4).map (fun j => s.gran (psKey c (32 * (s.cl c).seq.pc.toNat + 8 * j)))
  if gs.any (fun g => g.isPoison) then
    ((s.stopAs c 0x10 ((s.cl c).seq.pc.toNat * 8) false 0 none).runCycle c (s.cl c).seq.next).halt c
  else if gs.contains .correctable then
    s.send c 0x20 ((s.reg (regCl c 0x204)).toNat % 2 ^ 19) true (s.ctxsOfCluster c)
  else s

/-- A control operation comes: the bundle it belongs to is the next to issue. -/
def State.nextBundle (s : State) (c : Nat) : State :=
  if (s.cl c).seq.st ≠ .running ∨ (s.cl c).seq.wait ≠ .none then s.updSeq c (fun q => { q with isOpen := false })
  else
    let s := s.runTo c (s.cl c).seq.next
    let s := if (s.cl c).seq.st = .running then s.psCheck c else s
    if (s.cl c).seq.st = .running then s.openAt c (s.cl c).seq.next else s

/-- A control operation that issues at once: refused where it is a reserved encoding (R221). -/
def State.control (s : State) (c : Nat) (reserved : Bool) (body : State → State) : State :=
  if (s.cl c).seq.st ≠ .running ∨ (s.cl c).seq.wait ≠ .none then s
  else
    let s := s.nextBundle c
    if !s.issuing c then s else if reserved then s.stop c kReserved 0 else body s

/-- The bundle just opened is held under `wait`: the cluster is as before it (R229). -/
def State.hold (s : State) (c : Nat) (wait : WaitKind) (arg : Nat) : State :=
  let was := s.undo.get c (s.cl c)
  (s.setCl c was).updSeq c (fun q => { q with wait := wait, waitArg := arg, waitSince := s.ticks, pcLast := q.pc, isOpen := false })

/-- A control operation that may hold its own bundle (R229): held under `wait` where `held` says so. -/
def State.holding (s : State) (c : Nat) (reserved : Bool) (wait : WaitKind) (arg : Nat)
    (held : State → Bool) (body : State → State) : State :=
  s.control c reserved (fun s => if held s then s.hold c wait arg else body s)

/-- An engine operation of the bundle being issued: refused where it is a reserved encoding or uses a port that the
bundle uses already (R220, R221). -/
def State.engine (s : State) (c slot : Nat) (ports : List Nat) (reserved : Bool) (body : State → State) : State :=
  if !s.issuing c ∨ slot = 0 ∨ 7 < slot then s
  else if reserved ∨ ports.any (fun p => (s.cl c).seq.ports.contains p) ∨ ports.eraseDups.length ≠ ports.length then
    s.stop c kReserved slot
  else body (s.updSeq c (fun q => { q with ports := q.ports ++ ports }))

/-- The place of a slot of the bundle being issued. -/
def Seq.at (q : Seq) (slot : Nat) : Nat := q.pcLast.toNat * 8 + slot

/-- Enter an operation in flight at its issue: its number, and the state. -/
def State.launch (s : State) (c : Nat) (kind : JobKind) (slot op : Nat) (args : List Nat) : Nat × State :=
  let q := (s.cl c).seq
  (s.nextJob c, s.addJob c ⟨kind, q.at slot, op, args, q.cyc, ⟨[]⟩, [], none⟩)

end Sys2Proof.Machine
end

