-- ==== Sys2Proof/Machine/MatrixOps.lean ====
section
/-! DEFINITION. Issue of the matrix operations MX.T, MX.P, MX.Q, MX.W, MX.G, MX.LD and MX.DR (R80 to R109, R232). -/

namespace Sys2Proof.Machine

/-- Schedule for every number below `n`. -/
def State.each (s : State) (n : Nat) (f : State → Nat → State) : State := (upTo n).foldl f s

/-! ### MX.T, MX.P, MX.Q, MX.W, MX.G -/

/-- The planes that the operation reads. -/
def MxPar.planes (p : MxPar) (k : Cluster) : List Plane := p.tiles.map (fun t => (k.tile t).plane p.pl)

/-- Planes of unlike kind (R97), a GS that is not that of the load, a transposed axis on a plane that does not allow
it (R89). Planes that were never loaded are judged under R88. -/
def MxPar.planesBad (p : MxPar) (k : Cluster) : Bool :=
  let vs := (p.planes k).filter (fun v => v.loaded)
  vs.any (fun v => v.gs ≠ p.gsf ∨ (p.ax = 1 ∧ (wfFour v.wf = false ∨ v.block = false)))
    || vs.any (fun v => vs.any (fun w => wfTwoLane v.wf ≠ wfTwoLane w.wf ∨ wfFour v.wf ≠ wfFour w.wf
      ∨ v.block ≠ w.block ∨ (v.wf = 3) ≠ (w.wf = 3)))

/-- Reserved encodings of Table 7.5. -/
def mxBad (op a1 : Nat) (args : Option (List Nat)) : Bool :=
  let p := mxParOf op ((args.getD []).getD 0 0) a1
  args = none ∨ bitsOf op 8 6 ≠ 0 ∨ p.gsf = 3 ∨ bitsOf a1 31 23 ≠ 0 ∨ (p.shape = shP ∧ bitOf op 24 = true)
    ∨ ((p.shape = shQ ∨ p.shape = shW) ∧ p.tsel ≠ 0) ∨ (p.shape = shG ∧ p.astride ≠ 0)

/-- A tile's edge, or a plane, that the operation may not use yet (R87, R88). -/
def MxPar.held (p : MxPar) (k : Cluster) (I : Nat) : Bool :=
  p.tiles.any (fun t => decide (I < (k.tile t).edgeFree))
    || (p.planes k).any (fun v => !v.loaded || decide (I < v.readyAt))

/-- A matrix operation of a shape in a slot; `bits` are [24:0] (Table 7.5). -/
def doMx (shape c slot bits : Nat) (s : State) : State :=
  let op := shape * 2 ^ 25 + bits % 2 ^ 25
  let q := (s.cl c).seq
  let bl := q.argBlock (bitsOf op 5 0) 2
  let a0 := (bl.getD []).getD 0 0
  let a1 := (bl.getD []).getD 1 0
  let p := mxParOf op a0 a1
  s.engine c slot (p.tiles.map portEdge) (mxBad op a1 bl || p.planesBad (s.cl c)) (fun s =>
    let k := s.cl c
    let I := k.seq.cyc
    if p.held k I then s.stop c kTileConflict slot
    else
      let k4 := p.isK4 k
      let until_ := I + p.occ k4
      let s := p.tiles.foldl (fun (s : State) t => s.updTile c t (fun tl =>
        let v := tl.plane p.pl
        { (tl.setPlane p.pl { v with usedUntil := until_ }) with edgeFree := until_ })) s
      let (id, s) := s.launch c .mx slot op [a0, a1]
      let u := uTile (p.tiles.headD 0)
      let pl := k.seq.at slot
      let s := if p.shape = shG then
          s.each (ceilDiv p.m 8) (fun s i =>
            let t := I + (if k4 then 16 * i else 8 * i)
            (s.sched c t 1 id u pl (.rd (1000 + i) u [(p.abase + i) % 2 ^ 17])).sched c t 2 id u pl (.run (1000 + i)))
        else
          s.each p.m (fun s m =>
            let ws := (upTo (p.k / 64)).map (fun x => (p.abase + m * p.astride + x) % 2 ^ 17)
            s.sched c (p.readAt k4 I m) 1 id u pl (.rd m u (ws ++ clWords (p.sbase * 32 + m * p.nsc) p.nsc)))
      let s := s.each p.m (fun s m => s.sched c (p.readAt k4 I m) 2 id u pl (.run m))
      let last := p.accTiles.foldl (fun a t => max a (p.accAt k4 I (p.m - 1) t)) 0
      let s := p.tiles.foldl (fun (s : State) t => s.done c (uTile t) (last + 1)) s
      s.sched c last 2 id u pl (.run dropStep))

/-! ### MX.LD -/

/-- The tiles of a load (Table 7.6). -/
def ldTiles (op : Nat) : List Nat :=
  let t := bitsOf op 24 23
  if bitsOf op 21 20 = 0 then [t] else if bitsOf op 21 20 = 1 then [t / 2 * 2, t / 2 * 2 + 1] else [0, 1, 2, 3]

/-- Reserved encodings of MX.LD (Table 7.6, R90). -/
def ldBad (op : Nat) (args : Option (List Nat)) : Bool :=
  args = none ∨ bitsOf op 13 6 ≠ 0 ∨ bitsOf op 21 20 = 3 ∨ (bitsOf op 21 20 = 2 ∧ bitsOf op 24 23 ≠ 0) ∨ bitsOf op 15 14 = 3
    ∨ (bitOf op 16 = true ∧ (4 ≤ bitsOf op 19 17 ∨ bitsOf op 15 14 = 2))

def doMxLd (c slot bits : Nat) (s : State) : State :=
  let op := 5 * 2 ^ 25 + bits % 2 ^ 25
  let q := (s.cl c).seq
  let bl := q.argBlock (bitsOf op 5 0) 2
  let ts := ldTiles op
  s.engine c slot (ts.map portWeight) (ldBad op bl) (fun s =>
    let k := s.cl c
    let I := k.seq.cyc
    let pl := bitsOf op 22 22
    if ts.any (fun t => decide (I < (k.tile t).portFree) || decide (I < ((k.tile t).plane pl).usedUntil)) then
      s.stop c kTileConflict slot
    else
      let wf := bitsOf op 19 17
      let ns := ldScaleWords wf (bitOf op 16) (bitsOf op 15 14)
      let fin := I + 64 + ns
      let s := ts.foldl (fun (s : State) t => s.updTile c t (fun tl =>
        let v := tl.plane pl
        { (tl.setPlane pl { v with loaded := true, wf := wf, block := bitOf op 16, gs := bitsOf op 15 14, rows := [],
                                   scales := [], readyAt := fin }) with portFree := fin })) s
      let (id, s) := s.launch c .mxLd slot op []
      let u := uTile (ts.headD 0)
      let wb := bitsOf ((bl.getD []).getD 0 0) 16 0
      let sb := bitsOf ((bl.getD []).getD 1 0) 16 0
      let s := s.each ts.length (fun s j => s.each (64 + ns) (fun s i =>
        let w := if i < 64 then wb + 64 * j + i else sb + j * ns + (i - 64)
        (s.sched c (I + i) 1 id u (k.seq.at slot) (.rd (100 * j + i) (uTile (ts.getD j 0)) [w % 2 ^ 17])).sched c (I + i) 2
          id u (k.seq.at slot) (.run (100 * j + i))))
      (ts.foldl (fun (s : State) t => s.done c (uTile t) fin) s).sched c (fin - 1) 2 id u (k.seq.at slot) (.run dropStep))

/-! ### MX.DR -/

/-- Rows that a drain delivers. -/
def drCount (op : Nat) : Nat := (if bitOf op 21 then 2 else 1) * (bitsOf op 14 9 + 1)

/-- Reserved encodings of MX.DR (Table 7.7, R101). -/
def drBad (op : Nat) : Bool :=
  bitsOf op 3 0 ≠ 0 ∨ 63 < bitsOf op 20 15 + bitsOf op 14 9
    ∨ (if bitOf op 8 then bitOf op 4 = true else bitsOf op 7 6 = 3)

/-- The deliveries of a drain to Sluice. -/
def drComing (op I : Nat) : List Coming :=
  (upTo (drCount op)).map (fun i =>
    let l2 := bitOf op 21
    ⟨bitsOf op 5 4 + (if l2 then i % 2 else 0), bitsOf op 20 15 + (if l2 then i / 2 else i), I + i + 2⟩)

def doMxDr (c slot bits : Nat) (s : State) : State :=
  let op := 6 * 2 ^ 25 + bits % 2 ^ 25
  let t := bitsOf op 24 23
  s.engine c slot [portDrain t] (drBad op) (fun s =>
    let k := s.cl c
    let I := k.seq.cyc
    let toSl := !bitOf op 8
    if I < (k.tile t).drainFree then s.stop c kTileConflict slot
    else
      let n := drCount op
      let s := s.updTile c t (fun tl => { tl with drainFree := I + n })
      let s := if toSl then s.promise c slot kSluiceConflict (bitsOf op 7 6) (drComing op I) else s
      let (id, s) := s.launch c .mxDr slot op []
      let s := s.each n (fun s i => s.sched c (I + i) 0 id (uTile t) (k.seq.at slot) (.run i))
      (s.done c (uTile t) (I + n + 2)).sched c (I + n - 1) 2 id (uTile t) (k.seq.at slot) (.run dropStep))

end Sys2Proof.Machine
end

