-- ==== Sys2Proof/Machine/SluiceOps.lean ====
section
/-! DEFINITION. Issue of the Sluice operations (R116, R117, R118, R127, R131, R139 to R143, R236) and the step of a
staging set to READY. -/

namespace Sys2Proof.Machine

/-- The state with a cluster's Sluice changed. -/
def State.updSl (s : State) (c : Nat) (f : Sluice → Sluice) : State := s.updCl c (fun k => { k with sl := f k.sl })

/-- A FILLING set whose positions are all delivered becomes READY: its scales are fixed (R125) and, with K4 set, the
tensor maxima updated (R141). -/
def State.setReady (s : State) (c i : Nat) : State :=
  let k := (s.cl c).sl
  let v := k.set i
  if v.st = .filling ∧ v.complete = true then
    let mx := if v.par.k4 then k.maxima v.par v.segs else (k.maxPos, k.maxNeg, k.maxBad)
    let v' := { v with st := .ready, scales := (k.allScales v.par v.segs).map (fun e => e.2) }
    s.updSl c (fun _ => { (k.putSet i v') with maxPos := mx.1, maxNeg := mx.2.1, maxBad := mx.2.2 })
  else s

/-- SET_READY (R116): 6 c-cycles after the arrival of the completing delivery. -/
def doSetReady (c i : Nat) (s : State) : State :=
  let v := ((s.seal c).cl c).sl.set i
  if (s.cl c).seq.st = .running ∧ v.st = .filling ∧ v.posn.length = v.par.m * (v.par.w / 64) then
    (s.runTo c (v.lastAt + 6)).setReady c i
  else s

/-- The set that SL.P2 or SL.KA names, as it stands at issue: one whose completing delivery came 6 c-cycles ago is
READY. -/
def State.dueReady (s : State) (c i : Nat) : State :=
  if ((s.cl c).sl.set i).lastAt + 6 ≤ (s.cl c).seq.cyc then s.setReady c i else s

/-- SL.P1 (R116). -/
def doSlP1 (c slot op : Nat) (s : State) : State :=
  let q := (s.cl c).seq
  let i := bitsOf op 23 23
  let w := (q.arg (bitsOf op 5 0)).getD 0
  s.engine c slot [portSluice] (bitsOf op 22 6 ≠ 0 ∨ slParamsBad w) (fun s =>
    let k := s.cl c
    let v := k.sl.set i
    if v.st ≠ .free ∨ k.seq.cyc < v.freeAt then s.stop c kSluiceConflict slot
    else
      (s.updSl c (fun x => x.putSet i ⟨.filling, slParamsOf w, [], ⟨[]⟩, [], 0⟩)).done c uSluice (k.seq.cyc + 1))

/-- SL.P2 (R116, R117, Table 4.6). -/
def doSlP2 (c slot op : Nat) (s : State) : State :=
  let q := (s.cl c).seq
  let i := bitsOf op 23 23
  let bl := q.argBlock (bitsOf op 5 0) 2
  s.engine c slot [portSluice] (bitsOf op 22 6 ≠ 0 ∨ bl = none) (fun s =>
    let s := s.dueReady c i
    let k := s.cl c
    let v := k.sl.set i
    let P := k.seq.cyc
    let outs := (upTo v.par.m).map (fun m => P + m + 8)
    if v.st ≠ .ready ∨ P < v.lastAt + 6 ∨ k.sl.outMeets outs then s.stop c kSluiceConflict slot
    else
      let s := s.updSl c (fun x =>
        { (x.putSet i { StageSet.reset with freeAt := P + v.par.m }) with outBusy := x.outBusy ++ outs })
      let (id, s) := s.launch c .slP2 slot op (bl.getD [])
      let s := s.updJob c id (fun j => { j with stage := some v })
      let s := s.each (v.par.m + 1) (fun s m => s.sched c (P + m + 8) 0 id uSluice (k.seq.at slot) (.run m))
      (s.done c uSluice (P + v.par.m + (if v.par.orient = 0 then 8 else 9))).sched c (P + v.par.m + 8) 2 id uSluice
        (k.seq.at slot) (.run dropStep))

/-- SL.CV (R116, R127). -/
def doSlCv (c slot op : Nat) (s : State) : State :=
  let q := (s.cl c).seq
  let bl := q.argBlock (bitsOf op 5 0) 4
  let w := fun i => (bl.getD []).getD i 0
  let p := slParamsOf (w 0)
  let fsa := bitOf (w 3) 8
  s.engine c slot [portSluice] (bitsOf op 23 6 ≠ 0 ∨ bl = none ∨ slParamsBad (w 0) ∨ bitOf (w 0) 31
      ∨ bitsOf (w 3) 31 26 ≠ 0) (fun s =>
    let k := s.cl c
    let I := k.seq.cyc
    if k.sl.direct.isOpen then s.stop c kSluiceConflict slot
    else
      let kc := kcOf (w 2)
      let sq := bitsOf (w 2) 31 18
      let ws := if fsa then (fsaWordList p kc sq).map (fun r => (bitsOf (w 3) 25 9 + r) % 2 ^ 17) else []
      let d : Direct :=
        { isOpen := true, par := p, obase := bitsOf (w 1) 16 0, ostride := bitsOf (w 1) 31 17,
          osbase := bitsOf (w 2) 16 0, kc := kc, sq := sq, fsc := [bitsOf (w 3) 7 0], fsPoison := [],
          acceptAt := I + ws.length + 1, posn := [], segs := ⟨[]⟩, written := [], bad := [] }
      let s := (s.updSl c (fun x => { x with direct := d })).done c uSluice (I + ws.length + 1)
      if ws = [] then s
      else
        let (id, s) := s.launch c .slCv slot op (bl.getD [])
        let s := s.each ws.length (fun s i =>
          s.sched c (I + 1 + i) 1 id uSluice (k.seq.at slot) (.rd i uSluice [ws.getD i 0]))
        s.sched c (I + ws.length) 2 id uSluice (k.seq.at slot) (.run 0))

/-- SL.TLD (R118). -/
def doSlTld (c slot op : Nat) (s : State) : State :=
  let q := (s.cl c).seq
  let n := bitsOf op 22 17 + 1
  let w := (q.arg (bitsOf op 5 0)).getD 0
  s.engine c slot [portSluice] (bitOf op 23 ∨ bitsOf op 16 6 ≠ 0 ∨ 64 < bitsOf w 22 17 + n) (fun s =>
    let k := s.cl c
    let I := k.seq.cyc
    let (id, s) := s.launch c .slTld slot op [w]
    let s := s.each n (fun s i =>
      s.sched c (I + 1 + i) 1 id uSluice (k.seq.at slot) (.rd i uSluice [(bitsOf w 16 0 + i) % 2 ^ 17]))
    (s.sched c (I + n + 1) 2 id uSluice (k.seq.at slot) (.run 0)).done c uSluice (I + n + 2))

/-- One word read at I + 1 for an operation that completes at I + 3. -/
def State.slWordOp (s : State) (c slot op : Nat) (kind : JobKind) (w : Nat) : State :=
  let k := s.cl c
  let I := k.seq.cyc
  let (id, s) := s.launch c kind slot op [w]
  ((s.sched c (I + 1) 1 id uSluice (k.seq.at slot) (.rd 0 uSluice [bitsOf w 16 0])).sched c (I + 2) 2 id uSluice
    (k.seq.at slot) (.run 0)).done c uSluice (I + 3)

/-- SL.ZLD (R139). -/
def doSlZld (c slot op : Nat) (s : State) : State :=
  let w := ((s.cl c).seq.arg (bitsOf op 5 0)).getD 0
  s.engine c slot [portSluice] (bitOf op 23 ∨ bitsOf op 19 6 ≠ 0) (fun s => s.slWordOp c slot op .slZld w)

/-- SL.SEED (R131). -/
def doSlSeed (c slot op : Nat) (s : State) : State :=
  let w := ((s.cl c).seq.arg (bitsOf op 5 0)).getD 0
  s.engine c slot [portSluice] (bitOf op 23 ∨ bitsOf op 20 6 ≠ 0 ∨ bitsOf op 22 21 = 3) (fun s =>
    let k := s.cl c
    let (id, s) := s.launch c .slSeed slot op [w]
    (s.sched c k.seq.cyc 2 id uSluice (k.seq.at slot) (.run 0)).done c uSluice (k.seq.cyc + 1))

/-- SL.KL (R140). -/
def doSlKl (c slot op : Nat) (s : State) : State :=
  let w := ((s.cl c).seq.arg (bitsOf op 5 0)).getD 0
  s.engine c slot [portSluice] (bitsOf op 23 6 ≠ 0) (fun s => s.slWordOp c slot op .slKl w)

/-- SL.KA (R142). -/
def doSlKa (c slot op : Nat) (s : State) : State :=
  let q := (s.cl c).seq
  let i := bitsOf op 23 23
  let bl := q.argBlock (bitsOf op 5 0) 2
  let w1 := (bl.getD []).getD 1 0
  s.engine c slot [portSluice] (bitsOf op 22 6 ≠ 0 ∨ bl = none) (fun s =>
    let s := s.dueReady c i
    let k := s.cl c
    let v := k.sl.set i
    let p := v.par
    let P := k.seq.cyc
    let outs := (upTo p.m).map (fun m => P + m + 9)
    if v.st ≠ .ready ∨ P < v.lastAt + 6 ∨ k.sl.outMeets outs then s.stop c kSluiceConflict slot
    else
      let poison := (upTo p.m).any (fun m => (upTo p.w).any (fun j => (segVal v.segs m j).poison))
      let ts := if poison || k.sl.maxBad then 0xFF else if bitOf w1 8 then bitsOf w1 7 0 else tensorScale k.sl
      let s := s.updSl c (fun x =>
        { (x.putSet i { StageSet.reset with freeAt := P + p.m }) with
          outBusy := x.outBusy ++ outs, ts := ts, maxBad := x.maxBad || poison })
      let (id, s) := s.launch c .slKa slot op (bl.getD [])
      let s := s.updJob c id (fun j => { j with stage := some v, note := [ts] })
      let s := s.each p.m (fun s m => s.sched c (P + m + 9) 0 id uSluice (k.seq.at slot) (.run m))
      (s.done c uSluice (P + p.m + 9)).sched c (P + p.m + 8) 2 id uSluice (k.seq.at slot) (.run dropStep))

/-- SL.KU (R143). -/
def doSlKu (c slot op : Nat) (s : State) : State :=
  let w := ((s.cl c).seq.arg (bitsOf op 5 0)).getD 0
  s.engine c slot [portSluice] (bitsOf op 23 6 ≠ 0) (fun s =>
    let k := s.cl c
    let (id, s) := s.launch c .slKu slot op [w]
    (s.sched c (k.seq.cyc + 20) 0 id uSluice (k.seq.at slot) (.run 0)).done c uSluice (k.seq.cyc + 21))

end Sys2Proof.Machine
end

