-- ==== Sys2Proof/Machine/UnitOps.lean ====
section
/-! DEFINITION. Issue of the Eddy, vector, stripe, reduction and edge-engine operations (R158, R191, R193, R210, R233
to R235, R237 to R239, R241). -/

namespace Sys2Proof.Machine

/-! ### Eddy -/

/-- The deliveries of a FIN operation. -/
def EdPar.coming (p : EdPar) (I : Nat) : List Coming :=
  (upTo p.qs).flatMap (fun i => (upTo (p.d / 64)).map (fun q => ⟨p.sblk + q, p.srow0 + i, p.dlvAt I i q⟩))

/-- Does a state set not allow the operation at c-cycle I (R158)? -/
def EdSet.refuses (v : EdSet) (p : EdPar) (I : Nat) : Bool :=
  if p.init then v.live && !(v.fin && decide (v.emptyAt ≤ I))
  else !v.live || v.fin || decide (v.chain ≠ p.chain)

/-- ED.ATT (R144 to R158). -/
def doEdAtt (c slot op : Nat) (s : State) : State :=
  let q := (s.cl c).seq
  let bl := q.argBlock (bitsOf op 5 0) 8
  let as := bl.getD []
  let p := edParOf op as
  s.engine c slot [portEddy] (bl = none ∨ edBad op as) (fun s =>
    let k := s.cl c
    let I := k.seq.cyc
    if I < k.ed.next ∨ (k.ed.set p.st).refuses p I then
      s.stop c kEddyConflict slot
    else
      let s := s.updCl c (fun k => { k with ed := { (k.ed.putSet p.st { (k.ed.set p.st) with
        live := true, fin := p.fin, chain := p.chain, stateAt := p.stateAt I,
        emptyAt := if p.fin then p.emptyAt I else 0 }) with next := I + 16 + p.nb * p.cb } })
      let s := if p.fin then s.promise c slot kEddyConflict p.tgt (p.coming I) else s
      let (id, s) := s.launch c .edAtt slot op as
      let pl := k.seq.at slot
      let s := (p.reads I).foldl (fun (s : State) e => s.sched c e.1 1 id uEddy pl (.rd e.2.1 uEddy e.2.2)) s
      let s := s.sched c I 2 id uEddy pl (.run 0)
      let s := s.each p.nb (fun s b => s.sched c (p.blockAt I b) 0 id uEddy pl (.run (2 + b)))
      (s.sched c (p.stateAt I) 2 id uEddy pl (.run dropStep)).done c uEddy
        (if p.fin then p.emptyAt I else p.stateAt I))

/-! ### Vector unit -/

/-- Schedule a result of the vector unit that is readable from c-cycle w on, unless one is scheduled for it already
(R235). -/
def State.vuResult (s : State) (c slot w : Nat) (f : State → State) : State :=
  if (s.cl c).vu.writes.contains w then s.stop c kVectorConflict slot
  else f ((s.updCl c (fun k => { k with vu := { k.vu with writes := k.vu.writes ++ [w] } })).done c uVector w)

/-- An arithmetic operation: opcode o of Table 7.9, result readable at I + n. -/
def State.vuArith (s : State) (c slot op o n : Nat) (reserved : Bool) : State :=
  s.engine c slot [portVector] reserved (fun s =>
    let k := s.cl c
    let w := k.seq.cyc + n
    s.vuResult c slot w (fun s =>
      let r := laneOp k.vu o (bitsOf op 20 18) (bitsOf op 17 15) (bitsOf op 14 11) (bitsOf op 12 11)
      s.sched c (w - 1) 2 0 uVector (k.seq.at slot) (.lanes (bitsOf op 23 21) r.1 r.2 false)))

def doVuAdd (c slot op : Nat) (s : State) : State := s.vuArith c slot op 1 2 false
def doVuSub (c slot op : Nat) (s : State) : State := s.vuArith c slot op 2 2 false
def doVuMul (c slot op : Nat) (s : State) : State := s.vuArith c slot op 3 3 false
def doVuMax (c slot op : Nat) (s : State) : State := s.vuArith c slot op 4 2 false
def doVuMin (c slot op : Nat) (s : State) : State := s.vuArith c slot op 5 2 false
def doVuTab (c slot op : Nat) (s : State) : State := s.vuArith c slot op 6 4 false

/-- VU.SUMR and VU.MAXR: s1 + n - 1 must not exceed 7. -/
def doVuSumr (c slot op : Nat) (s : State) : State :=
  s.vuArith c slot op 7 6 (7 < bitsOf op 20 18 + bitsOf op 17 15)
def doVuMaxr (c slot op : Nat) (s : State) : State :=
  s.vuArith c slot op 8 6 (7 < bitsOf op 20 18 + bitsOf op 17 15)

/-- VU.BCI. -/
def doVuBci (c slot op : Nat) (s : State) : State :=
  s.engine c slot [portVector] false (fun s =>
    let k := s.cl c
    let v := signed 16 ((k.seq.arg (bitsOf op 5 0)).getD 0)
    let w := k.seq.cyc + 2
    s.vuResult c slot w (fun s =>
      s.sched c (w - 1) 2 0 uVector (k.seq.at slot) (.lanes (bitsOf op 23 21) (List.replicate 128 (v, false)) false false)))

/-- VU.LD: the memory port in I + 1 and I + 2. -/
def doVuLd (c slot op : Nat) (s : State) : State :=
  let bl := (s.cl c).seq.argBlock (bitsOf op 5 0) 2
  let as := bl.getD []
  s.engine c slot [portVector] (bl = none ∨ bitsOf op 8 7 = 3) (fun s =>
    let k := s.cl c
    let I := k.seq.cyc
    if I < k.vu.portFree then s.stop c kVectorConflict slot
    else
      s.vuResult c slot (I + 5) (fun s =>
        let s := s.updCl c (fun k => { k with vu := { k.vu with portFree := I + 3 } })
        let (id, s) := s.launch c .vuLd slot op as
        let b := bitsOf (as.getD 0 0) 16 0
        let pl := k.seq.at slot
        let sc := clWords (bitsOf (as.getD 1 0) 21 0) (128 / gsOf (bitsOf op 8 7))
        ((s.sched c (I + 1) 1 id uVector pl (.rd 0 uVector (b :: sc))).sched c (I + 2) 1 id uVector pl
          (.rd 1 uVector [(b + 1) % 2 ^ 17])).sched c (I + 4) 2 id uVector pl (.run 0)))

/-- VU.TLD: the memory port in I + 1 ... I + 16. -/
def doVuTld (c slot op : Nat) (s : State) : State :=
  s.engine c slot [portVector] false (fun s =>
    let k := s.cl c
    let I := k.seq.cyc
    if I < k.vu.portFree then s.stop c kVectorConflict slot
    else
      let b := bitsOf ((k.seq.arg (bitsOf op 5 0)).getD 0) 16 0
      let s := s.updCl c (fun k => { k with vu := { k.vu with portFree := I + 17 } })
      let (id, s) := s.launch c .vuTld slot op [b]
      let pl := k.seq.at slot
      let s := s.each 16 (fun s i => s.sched c (I + 1 + i) 1 id uVector pl (.rd i uVector [(b + i) % 2 ^ 17]))
      (s.sched c (I + 16) 2 id uVector pl (.run 0)).done c uVector (I + 17))

/-- VU.OUT: two blocks of one staging row, delivered at I + 2. -/
def doVuOut (c slot op : Nat) (s : State) : State :=
  let tgt := bitsOf op 10 9
  let row := bitsOf op 20 15
  let b := 2 * bitsOf op 8 8
  s.engine c slot [portVector] (tgt = 3) (fun s =>
    let k := s.cl c
    let t := k.seq.cyc + 2
    let ds : List Coming := [⟨b, row, t⟩, ⟨b + 1, row, t⟩]
    let s := s.promise c slot kSluiceConflict tgt ds
    let ls := k.vu.lane (bitsOf op 23 21)
    let pl := k.seq.at slot
    ((s.sched c t 0 0 uVector pl (.dlv tgt ⟨b, row, laneDlv ls 0⟩)).sched c t 0 0 uVector pl
      (.dlv tgt ⟨b + 1, row, laneDlv ls 1⟩)).done c uVector t)

/-! ### Stripe engine -/

/-- A stripe operation at issue: busy until `next`, or an invalid ring descriptor, is a stripe conflict (R193).
`ring`: the ring that must be valid. -/
def State.stripe (s : State) (c slot : Nat) (reserved : Bool) (lastOp : Nat) (ring : Option Nat)
    (body : State → Nat → State) : State :=
  s.engine c slot [portStripe] reserved (fun s =>
    let k := s.cl c
    let I := k.seq.cyc
    let invalid : Bool := match ring with | none => false | some n => !k.stp.rings.has n
    if I < k.stp.next ∨ invalid = true then s.stop c kStripeConflict slot
    else body (s.updCl c (fun k => { k with stp := { k.stp with lastOp := lastOp } })) I)

/-- The c-cycle from which the next stripe operation may issue. -/
def State.stripeNext (s : State) (c t : Nat) : State :=
  s.updCl c (fun k => { k with stp := { k.stp with next := t } })

/-- ST.RING (R183). -/
def doStRing (c slot op : Nat) (s : State) : State :=
  let w := bitsOf (((s.cl c).seq.arg (bitsOf op 5 0)).getD 0) 16 0
  s.stripe c slot false 1 none (fun s I =>
    let (id, s) := s.launch c .stRing slot op [w]
    let pl := (s.cl c).seq.at slot
    (((s.sched c (I + 1) 1 id uStripe pl (.rd 0 uStripe [w])).sched c (I + 1) 2 id uStripe pl (.run 0)).stripeNext c
      (I + 2)).done c uStripe (I + 2))

/-- ST.WIN (R187). -/
def doStWin (c slot op : Nat) (s : State) : State :=
  let bl := (s.cl c).seq.argBlock (bitsOf op 5 0) 2
  let as := bl.getD []
  let p := winParOf op (as.getD 0 0) (as.getD 1 0)
  s.stripe c slot (bl = none) 2 (some p.ring) (fun s I =>
    let (id, s) := s.launch c .stWin slot op as
    let pl := (s.cl c).seq.at slot
    let s := s.each p.m (fun s m => (s.sched c (I + 1 + m) 0 id uStripe pl (.run m)).sched c (I + 1 + m) 2 id uStripe
      pl (.run (2000 + m)))
    ((s.sched c (I + p.m + 1) 2 id uStripe pl (.run dropStep)).stripeNext c (I + p.m)).done c uStripe (I + p.m + 2))

/-- ST.RPK (R189). -/
def doStRpk (c slot op : Nat) (s : State) : State :=
  let bl := (s.cl c).seq.argBlock (bitsOf op 5 0) 4
  let as := bl.getD []
  let p := rpkParOf op as
  let r := (s.cl c).stp.ring p.ring
  s.stripe c slot (bl = none ∨ (p.c32 = false ∧ bitsOf (as.getD 3 0) 31 0 % 2 ^ 17 ≠ 0)) 3 (some p.ring) (fun s I =>
    let (id, s) := s.launch c .stRpk slot op as
    let pl := (s.cl c).seq.at slot
    let n := p.npx * r.ppw
    let s := s.each n (fun s i => (s.sched c (I + 1 + i) 1 id uStripe pl (.rd i uStripe (p.words r.ppw i))).sched c
      (I + 1 + i) 2 id uStripe pl (.run i))
    let last := I + 3 + n
    ((s.sched c last 2 id uStripe pl (.run dropStep)).stripeNext c (last - 2)).done c uStripe (last + 1))

/-- ST.TRP (R190). -/
def doStTrp (c slot op : Nat) (s : State) : State :=
  let bl := (s.cl c).seq.argBlock (bitsOf op 5 0) 4
  let as := bl.getD []
  let p := trpParOf op as
  let r := (s.cl c).stp.ring p.ring
  s.stripe c slot (bl = none) 4 (some p.ring) (fun s I =>
    let (id, s) := s.launch c .stTrp slot op as
    let pl := (s.cl c).seq.at slot
    let s := s.each 64 (fun s ch =>
      s.sched c (I + 1 + ch) 1 id uStripe pl (.rd ch uStripe [(p.src + ch * p.pitch) % 2 ^ 17]))
    let s := s.each 64 (fun s i =>
      let sb := (upTo r.nb).flatMap (fun g => clWords (p.scaleAt g i) 1)
      (s.sched c (I + 7 + i) 1 id uStripe pl (.rd (1000 + i) uStripe sb.eraseDups)).sched c (I + 8 + i) 0 id uStripe pl
        (.run i))
    ((s.sched c (I + 71) 2 id uStripe pl (.run dropStep)).stripeNext c (I + 64)).done c uStripe (I + 72))

/-! ### Reduction unit -/

/-- Reserved encodings of RD.SUM (R238, R239). -/
def State.rdBad (s : State) (c op a0 : Nat) : Bool :=
  let p := rdParOf op a0
  bitOf op 9 ∨ bitsOf op 7 6 ≠ 0
    ∨ (if p.remote then match s.hostOf p.dest with | none => true | some k => decide (dieOf k ≠ dieOf c)
       else decide (p.tgt = 3))

/-- The deliveries of RD.SUM to Sluice. -/
def RdPar.coming (p : RdPar) (I : Nat) : List Coming := (upTo p.n).map (fun i => ⟨p.block, p.row0 + i, I + 5 + i⟩)

/-- RD.SUM (R238, R239). -/
def doRdSum (c slot op : Nat) (s : State) : State :=
  let a0 := ((s.cl c).seq.arg (bitsOf op 5 0)).getD 0
  let p := rdParOf op a0
  s.engine c slot [portReduction] (s.rdBad c op a0) (fun s =>
    let k := s.cl c
    let I := k.seq.cyc
    if I < k.red.next then s.stop c kReductionConflict slot
    else
      let dest := (s.hostOf p.dest).getD c
      let cl : Claim := ⟨resRed dest p.input, I + 5 + redDelay c dest, 1, p.n, c, s.nextJob c⟩
      match (if p.remote then s.claimMeets [cl] else none) with
      | some h =>
        let s := if h.cl = c then s else s.sched h.cl (max I (s.cl h.cl).seq.ran) 2 h.job 12
          (((lookup (s.cl h.cl).jobs.rows h.job).map (fun j => j.slot)).getD 0) (.stop kSlotConflict)
        s.stop c kSlotConflict slot
      | none =>
        let s := if p.remote then { s with claims := s.claims ++ [cl] }
          else s.promise c slot kSluiceConflict p.tgt (p.coming I)
        let (id, s) := s.launch c .rdSum slot op [a0]
        let s := s.updJob c id (fun j => { j with note := [dest] })
        let s := s.updCl c (fun k => { k with red := { k.red with next := I + p.n } })
        let s := s.each p.n (fun s i => s.sched c (I + 1 + i) 2 id 12 (k.seq.at slot) (.run i))
        s.sched c (I + 5 + p.n) 2 id 12 (k.seq.at slot) (.run dropStep))

/-! ### Edge engine -/

/-- EG.RUN (R204, R210, R241). -/
def doEgRun (c slot op : Nat) (s : State) : State :=
  let w := bitsOf (((s.cl c).seq.arg (bitsOf op 5 0)).getD 0) 16 0
  let die := dieOf c
  let st := regEe die 4
  s.engine c slot [portEdgeEngine] false (fun s =>
    let k := s.cl c
    let I := k.seq.cyc
    if s.fld st 0 0 = 1 then
      let o := die * 16 + s.fld st 7 4
      let same := (s.cl o).jobs.rows.any (fun e => e.2.kind = .edge ∧ e.2.issued = I)
      let s := if same ∧ o ≠ c then s.sched o (max I (s.cl o).seq.ran) 2 0 uEdge (s.cl o).seq.place (.stop kEdgeConflict)
        else s
      s.stop c kEdgeConflict slot
    else if ¬ bitOf (s.reg (regEe die 0)).toNat (c % 16) then s.stop c kEdgeConflict slot
    else
      let (id, s) := s.launch c .edge slot op [w]
      let s := (s.setFld st 7 4 (c % 16)).setFld st 0 0 1
      let pl := k.seq.at slot
      ((s.sched c (I + 1) 1 id uEdge pl (.rd 0 uEdge [w, (w + 1) % 2 ^ 17])).sched c (I + 1) 2 id uEdge pl (.run 0)).done c
        uEdge (I + 2))

/-- EG_RUN_COMPLETE (R209): the cluster reaches the fixed c-cycle of its run's completion. -/
def doEgRunComplete (c : Nat) (s : State) : State :=
  match (s.cl c).jobs.rows.find? (fun e => e.2.kind = .edge) with
  | none => s
  | some e =>
    let s := s.runTo c (e.2.issued + 2)
    match lookup (s.cl c).jobs.rows e.1 with
    | none => s
    | some j => s.runTo c (j.edgeDesc.endAt j.issued + 1)

end Sys2Proof.Machine
end

