-- ==== Sys2Proof/Machine/ControlOps.lean ====
section
/-! DEFINITION. Control operations, their releases, the start of a program and the wait timeout (R215, R216, R219, R224,
R227 to R230, R265, R421). -/

namespace Sys2Proof.Machine

/-- Change the sequencer at the end of an issue, visible from I + 1. -/
def Seq.setArg (q : Seq) (d : Nat) (v : Word32) : Seq := { q with args := q.args.set d v }

/-- An argument register. -/
def Seq.argReg (q : Seq) (d : Nat) : Word32 := q.args.get d 0

/-- A loop counter. -/
def Seq.lcReg (q : Seq) (k : Nat) : BitVec 20 := q.lc.get k 0

/-! ### Operations that issue at once -/

/-- NOP. -/
def doNop (c op : Nat) (s : State) : State := s.control c (bitsOf op 25 0 ≠ 0) (fun s => s)

/-- SETL. -/
def doSetl (c op : Nat) (s : State) : State :=
  s.control c (bitsOf op 19 16 ≠ 0) (fun s => s.updSeq c (fun q =>
    let d := bitsOf op 25 20
    q.setArg d (BitVec.ofNat 32 (putBits (q.argReg d).toNat 15 0 (bitsOf op 15 0)))))

/-- SETH. -/
def doSeth (c op : Nat) (s : State) : State :=
  s.control c (bitsOf op 19 16 ≠ 0) (fun s => s.updSeq c (fun q =>
    let d := bitsOf op 25 20
    q.setArg d (BitVec.ofNat 32 (putBits (q.argReg d).toNat 31 16 (bitsOf op 15 0)))))

/-- ADDI. -/
def doAddi (c op : Nat) (s : State) : State :=
  s.control c false (fun s => s.updSeq c (fun q =>
    let d := bitsOf op 25 20
    q.setArg d (q.argReg d + BitVec.ofInt 32 (signed 20 (bitsOf op 19 0)))))

/-- LDA: the word is read at I + 1, the registers are visible from I + 3. -/
def doLda (c op : Nat) (s : State) : State :=
  s.control c (bitsOf op 25 20 % 8 ≠ 0 ∨ bitsOf op 19 17 ≠ 0) (fun s =>
    let I := (s.cl c).seq.cyc
    let (id, s) := s.launch c .lda 0 op []
    let pl := (s.cl c).seq.at 0
    ((s.sched c (I + 1) 1 id uSeq pl (.rd 0 uSeq [bitsOf op 16 0])).sched c (I + 2) 2 id uSeq pl (.run 0)).done c uSeq
      (I + 3))

/-- The lowest bank that two of the masks share. -/
def maskOverlap (ms : List Nat) : Option Nat :=
  (upTo 32).find? (fun b => decide (1 < (ms.filter (fun m => bitOf m b)).length))

/-- STEP (R224): ARG48 to ARG59 become the bank masks from I + 1 on; masks that share a bit are a bank conflict. -/
def doStep (c op : Nat) (s : State) : State :=
  s.control c (bitsOf op 25 0 ≠ 0) (fun s =>
    let q := (s.cl c).seq
    let ms := (upTo 12).map (fun i => q.argReg (48 + i))
    match maskOverlap (ms.map (fun m => m.toNat)) with
    | some b => s.refuse c kBankConflict 0 b none
    | none => s.sched c q.cyc 2 0 uSeq (q.at 0) (.masks ms))

/-- LSET. -/
def doLset (c op : Nat) (s : State) : State :=
  s.control c (if bitOf op 22 then bitsOf op 21 6 ≠ 0 else bitsOf op 21 20 ≠ 0) (fun s => s.updSeq c (fun q =>
    let n := if bitOf op 22 then (q.argReg (bitsOf op 5 0)).toNat else bitsOf op 19 0
    { q with lc := q.lc.set (bitsOf op 25 23) (BitVec.ofNat 20 n) }))

/-- BLOOP: branch while the counter is at least 2. -/
def doBloop (c op : Nat) (s : State) : State :=
  s.control c (bitsOf op 22 12 ≠ 0) (fun s => s.updSeq c (fun q =>
    let k := bitsOf op 25 23
    let v := q.lcReg k
    if 2 ≤ v.toNat then { q with lc := q.lc.set k (v - 1), pc := BitVec.ofNat 12 (bitsOf op 11 0) }
    else { q with lc := q.lc.set k 0 }))

/-- BR. -/
def doBr (c op : Nat) (s : State) : State :=
  s.control c (bitsOf op 25 12 ≠ 0) (fun s => s.updSeq c (fun q => { q with pc := BitVec.ofNat 12 (bitsOf op 11 0) }))

/-- WAITC: the next bundle issues at I + 1 + n. -/
def doWaitc (c op : Nat) (s : State) : State :=
  s.control c (bitsOf op 25 16 ≠ 0) (fun s => s.updSeq c (fun q =>
    let n := bitsOf op 15 0
    { q with next := q.cyc + 1 + n, wait := if n = 0 then .none else .waitC, waitArg := n }))

/-- WAITC_RELEASE: the count expires. -/
def doWaitcRelease (c : Nat) (s : State) : State :=
  if (s.cl c).seq.st = .running ∧ (s.cl c).seq.wait = .waitC then
    (s.runTo c (s.cl c).seq.next).updSeq c (fun q => if q.st = .running then { q with wait := .none, isOpen := false } else q)
  else s

/-- FLAGCLR: the bits clear at I + 1. -/
def doFlagclr (c op : Nat) (s : State) : State :=
  s.control c (bitsOf op 25 20 ≠ 0) (fun s =>
    let q := (s.cl c).seq
    s.sched c (q.cyc + 1) 0 0 uSeq (q.at 0) (.flagClr (bitsOf op 19 0)))

/-! ### Waits -/

/-- Open the held bundle in c-cycle t. -/
def State.release (s : State) (c t : Nat) : State := s.openAt c (max t (s.cl c).seq.next)

/-- WAITG (R421): held until the Gauge flag is set, then clears it. -/
def State.takeFlag (s : State) (c e : Nat) : State :=
  s.updSeq c (fun q => { q with gflags := q.gflags &&& ~~~ BitVec.ofNat 64 (2 ^ e) })

def doWaitg (c op : Nat) (s : State) : State :=
  let e := bitsOf op 5 0
  s.holding c (bitsOf op 25 6 ≠ 0) .waitG e (fun s => !bitOf (s.cl c).seq.gflags.toNat e) (fun s => s.takeFlag c e)

/-- WAITG_RELEASE: the awaited flag became set in c-cycle t. -/
def doWaitgRelease (c t : Nat) (s : State) : State :=
  let q := (s.cl c).seq
  if q.st = .running ∧ q.wait = .waitG ∧ bitOf q.gflags.toNat q.waitArg = true then
    let s := s.release c t
    if s.issuing c then s.takeFlag c q.waitArg else s
  else s

/-- The pending tags of a mask. -/
def Seq.pendingTags (q : Seq) (m : Nat) : List Nat := (upTo 16).filter (fun n => bitOf m n && bitOf q.tags.toNat n)

/-- WAITX (R229, R267). -/
def doWaitx (c op : Nat) (s : State) : State :=
  let m := bitsOf op 15 0
  s.holding c (bitsOf op 25 16 ≠ 0) .waitX m (fun s => decide ((s.cl c).seq.pendingTags m ≠ [])) (fun s => s)

/-- The c-cycle in which a pending tag clears, once settled. -/
def Cluster.tagTime (k : Cluster) (n : Nat) : Option Nat :=
  (k.evs.find? (fun e => e.act = .tagClr n)).map (fun e => e.at_ + 1)

/-- Run a held cluster until every pending tag of a mask has a settled c-cycle, and give the last of them: none where
a tag has none yet. -/
def State.settleTags (c m : Nat) : Nat → State → Option (Nat × State)
  | 0, _ => none
  | fuel + 1, s =>
    let k := s.cl c
    if k.seq.st ≠ .running then some (0, s)
    else
      let ts := (k.seq.pendingTags m).map (fun n => k.tagTime n)
      if ts.all (fun t => t.isSome) then some (ts.foldl (fun a t => max a (t.getD 0)) 0, s)
      else
        match k.nextEv with
        | none => none
        | some t => State.settleTags c m fuel ((s.runCycle c t).updSeq c (fun q => { q with ran := max q.ran (t + 1) }))

/-- WAITX_RELEASE: the last named tag clears and the bundle issues; nothing happens while one has not settled. -/
def doWaitxRelease (c : Nat) (s : State) : State :=
  let q := (s.cl c).seq
  if q.st = .running ∧ q.wait = .waitX then
    match State.settleTags c q.waitArg flushFuel s with
    | none => s
    | some (t, s) => if (s.cl c).seq.st = .running then s.release c t else s
  else s

/-- Blocks that the batcher has written to a stream since the program took note of them (R176). -/
def State.blocksAhead (s : State) (c b : Nat) : Nat := s.blockNo.get b 0 - (s.cl c).seq.seen.get b 0

def State.takeBlock (s : State) (c b : Nat) : State :=
  s.updSeq c (fun q => { q with seen := q.seen.set b (q.seen.get b 0 + 1) })

/-- WAITB (R227). -/
def doWaitb (c op : Nat) (s : State) : State :=
  let b := bitsOf op 3 0
  s.holding c (bitsOf op 25 4 ≠ 0) .waitB b (fun s => decide (s.blocksAhead c b = 0)) (fun s => s.takeBlock c b)

/-- WAITB_RELEASE: the block arrives in c-cycle t. -/
def doWaitbRelease (c t : Nat) (s : State) : State :=
  let q := (s.cl c).seq
  if q.st = .running ∧ q.wait = .waitB ∧ s.blocksAhead c q.waitArg ≠ 0 then
    let s := s.release c t
    if s.issuing c then s.takeBlock c q.waitArg else s
  else s

/-- BAR (R230, R528): arrives at the barrier, held; a re-execution releases it at issue. The mask names home
clusters. -/
def doBar (c op : Nat) (s : State) : State :=
  s.control c false (fun s =>
    let q := (s.cl c).seq
    let a := bitsOf op 5 0
    let m := (q.argReg a).toNat + (q.argReg (a + 1)).toNat * 2 ^ 32
    if bitsOf op 21 6 ≠ 0 ∨ 62 < a ∨ (s.homesOf c).all (fun h => !bitOf m h) = true then s.stop c kReserved 0
    else if q.rerun then s
    else s.hold c .bar (bitsOf op 25 22 + 16 * m))

/-- BAR_RELEASE (R230, R265): every cluster of the barrier has arrived and names the same mask; those of one die leave
it in the same c-cycle, `n` c-cycles after the last of them arrived. -/
def doBarRelease (c n : Nat) (s : State) : State :=
  let q := (s.cl c).seq
  if q.st = .running ∧ q.wait = .bar then
    let hs := (upTo 64).filter (fun h => bitOf (q.waitArg / 16) h)
    let ks := hs.map (fun h => s.hostOf h)
    let here := fun (k : Nat) =>
      let r := (s.cl k).seq
      decide (r.st = .running ∧ r.wait = .bar ∧ r.waitArg = q.waitArg)
    if ks.all (fun k => match k with | none => false | some k => here k) then
      let cs := ks.filterMap id
      let at_ := fun (die : Nat) => (cs.filter (fun k => dieOf k = die)).foldl (fun a k => max a (s.cl k).seq.next) 0
      cs.foldl (fun (s : State) k => s.release k (at_ (dieOf k) + n)) s
    else s
  else s

/-- The c-cycle by which the operations issued to units are complete. -/
def Seq.unitsDone (q : Seq) (m : Nat) : Nat :=
  (upTo 12).foldl (fun a u => if bitOf m u then max a (q.unitDone.get u 0) else a) 0

/-- FENCE (R227). -/
def doFence (c op : Nat) (s : State) : State :=
  let m := bitsOf op 11 0
  s.holding c (bitsOf op 25 12 ≠ 0) .fence m (fun s => decide ((s.cl c).seq.cyc < (s.cl c).seq.unitsDone m)) (fun s => s)

/-- Run a cluster until the completion of units is settled: a copy's is settled once its descriptor was read. -/
def State.settleUnits (c m : Nat) : Nat → State → State
  | 0, s => s
  | fuel + 1, s =>
    let t := (s.cl c).seq.unitsDone m
    let s' := s.runTo c t
    if (s'.cl c).seq.unitsDone m ≤ t then s' else State.settleUnits c m fuel s'

/-- FENCE_RELEASE: the fixed completion of the fenced operations is reached. -/
def doFenceRelease (c : Nat) (s : State) : State :=
  let q := (s.cl c).seq
  if q.st = .running ∧ q.wait = .fence then
    let s := State.settleUnits c q.waitArg flushFuel s
    if (s.cl c).seq.st = .running then s.release c ((s.cl c).seq.unitsDone q.waitArg) else s
  else s

/-- END: its bundle issues; no other follows, and the program ends once every unit is idle and no tag is pending (log
entry 128). -/
def doEnd (c op : Nat) (s : State) : State :=
  s.control c (bitsOf op 25 0 ≠ 0) (fun s => s.updSeq c (fun q =>
    { q with wait := .ending, waitArg := 0, waitSince := s.ticks, next := q.cyc }))

/-- Is a cluster in a synchronisation wait (R229)? -/
def State.syncWait (s : State) (c : Nat) : Bool :=
  let k := s.cl c
  let bounded := fun (m : Nat) => (k.seq.pendingTags m).any (fun n =>
    k.cp.jobs.any (fun j => decide (j.tag = n) && !j.fixed))
  match k.seq.wait with
  | .waitG => true
  | .waitB => true
  | .bar => true
  | .waitX => bounded k.seq.waitArg
  | .ending => bounded 0xFFFF
  | _ => false

/-- Has the present wait of a cluster lasted longer than CL_SEQCFG.WTO (R230)? WTO counts 100 us, and 0 acts as 1. -/
def State.waitLate (s : State) (c : Nat) : Bool :=
  decide ((s.cl c).seq.waitSince + 50000 * max 1 (s.fld (regCl c 8) 15 0) < s.ticks)

/-- WAIT_TIMEOUT (R230, R521): a synchronisation wait outlasted CL_SEQCFG.WTO. -/
def doWaitTimeout (c : Nat) (s : State) : State :=
  if (s.cl c).seq.st = .running ∧ s.syncWait c = true ∧ s.waitLate c = true then
    let s := s.flush c
    if (s.cl c).seq.st = .running ∧ s.syncWait c = true then
      (s.stopAs c 0x11 (s.cl c).seq.place false 0 none).halt c
    else s
  else s

/-! ### Start of a program (R216, R515) -/

/-- A program starts, or its record is refused with STALE-GENERATION. A running or stopped cluster takes none. -/
def State.startProgram (s : State) (c : Nat) (r : StartRecord) : State :=
  if r.gen ≠ s.fld (regCl c 0x0C) 7 0 then
    s.send c 0x13 ((s.reg (regCl c 4)).toNat % 2 ^ 24) true (s.ctxsOfCluster c)
  else if (s.cl c).seq.st = .running ∨ (s.cl c).seq.st = .stopped then s
  else
    let k := s.cl c
    let t := max r.at_ k.seq.ran
    let q : Seq := { Seq.reset with
      st := .running, pc := r.pc, args := ⟨(upTo (min 8 r.args.length)).map (fun i => (i, r.args.getD i 0))⟩,
      gflags := r.flags, flagsSeen := r.flags, ctx := r.ctx, slcfg := s.reg (regCl c 0x180), next := t, ran := k.seq.ran, rerun := r.rerun,
      seen := s.blockNo }
    let sl := { k.sl with s0 := StageSet.reset, s1 := StageSet.reset, direct := Direct.reset, blockBusy := [], outBusy := [] }
    let s := s.setCl c { k with seq := q, sl := sl, cp := ⟨[], k.cp.nextOrder, [], k.cp.lastOut⟩, evs := [], jobs := ⟨[]⟩ }
    (s.setReg (regCl c 4) 0).setReg (regCl c 0x250) 0

/-- START_RECORD. -/
def doStartRecord (c : Nat) (r : StartRecord) (s : State) : State := s.startProgram c r

/-- CL_SEQSTAT (Table 7.14). -/
def State.seqStat (s : State) (c : Nat) : Nat :=
  let q := (s.cl c).seq
  let w := match q.wait with
    | .none => 0 | .waitG => 1 | .waitX => 2 | .waitB => 3 | .bar => 4 | .fence => 5 | .waitC => 6 | .ending => 7
  let st := match q.st with | .idle => 0 | .running => 1 | .stopped => 2 | .ended => 3
  q.pcLast.toNat * 256 + w * 4 + st

end Sys2Proof.Machine
end

