-- ==== Sys2Proof/Machine/Digest.lean ====
section
/-! DEFINITION. SHA-256 (FIPS 180-4, R291) and CRC-32C (R375). -/

namespace Sys2Proof.Machine

/-! ### SHA-256 -/

/-- The round constants, eight a row. -/
def shaK : List Word32 :=
  [0x428a2f98, 0x71374491, 0xb5c0fbcf, 0xe9b5dba5, 0x3956c25b, 0x59f111f1, 0x923f82a4, 0xab1c5ed5]
  ++ [0xd807aa98, 0x12835b01, 0x243185be, 0x550c7dc3, 0x72be5d74, 0x80deb1fe, 0x9bdc06a7, 0xc19bf174]
  ++ [0xe49b69c1, 0xefbe4786, 0x0fc19dc6, 0x240ca1cc, 0x2de92c6f, 0x4a7484aa, 0x5cb0a9dc, 0x76f988da]
  ++ [0x983e5152, 0xa831c66d, 0xb00327c8, 0xbf597fc7, 0xc6e00bf3, 0xd5a79147, 0x06ca6351, 0x14292967]
  ++ [0x27b70a85, 0x2e1b2138, 0x4d2c6dfc, 0x53380d13, 0x650a7354, 0x766a0abb, 0x81c2c92e, 0x92722c85]
  ++ [0xa2bfe8a1, 0xa81a664b, 0xc24b8b70, 0xc76c51a3, 0xd192e819, 0xd6990624, 0xf40e3585, 0x106aa070]
  ++ [0x19a4c116, 0x1e376c08, 0x2748774c, 0x34b0bcb5, 0x391c0cb3, 0x4ed8aa4a, 0x5b9cca4f, 0x682e6ff3]
  ++ [0x748f82ee, 0x78a5636f, 0x84c87814, 0x8cc70208, 0x90befffa, 0xa4506ceb, 0xbef9a3f7, 0xc67178f2]

/-- The eight working words. -/
structure ShaH where
  a : Word32
  b : Word32
  c : Word32
  d : Word32
  e : Word32
  f : Word32
  g : Word32
  h : Word32
  deriving DecidableEq, Repr

def shaInit : ShaH :=
  ⟨0x6a09e667, 0xbb67ae85, 0x3c6ef372, 0xa54ff53a, 0x510e527f, 0x9b05688c, 0x1f83d9ab, 0x5be0cd19⟩

/-- A word from four big-endian bytes. -/
def beWord (bs : List Byte) : Word32 := bs.foldl (fun (w : Word32) b => w * 256 + b.zeroExtend 32) 0

/-- Big-endian bytes of a number. -/
def beBytes (n v : Nat) : List Byte := (leBytes n v).reverse

/-- The message schedule, newest word first: `n` more words. -/
def shaSched : Nat → List Word32 → List Word32
  | 0, w => w
  | n + 1, w =>
    let x := w.getD 1 0
    let y := w.getD 14 0
    let s1 := x.rotateRight 17 ^^^ x.rotateRight 19 ^^^ (x >>> 10)
    let s0 := y.rotateRight 7 ^^^ y.rotateRight 18 ^^^ (y >>> 3)
    shaSched n ((w.getD 15 0 + s0 + w.getD 6 0 + s1) :: w)

/-- One round with K + W. -/
def shaRound (s : ShaH) (kw : Word32) : ShaH :=
  let s1 := s.e.rotateRight 6 ^^^ s.e.rotateRight 11 ^^^ s.e.rotateRight 25
  let ch := (s.e &&& s.f) ^^^ (~~~ s.e &&& s.g)
  let t1 := s.h + s1 + ch + kw
  let s0 := s.a.rotateRight 2 ^^^ s.a.rotateRight 13 ^^^ s.a.rotateRight 22
  let maj := (s.a &&& s.b) ^^^ (s.a &&& s.c) ^^^ (s.b &&& s.c)
  ⟨t1 + s0 + maj, s.a, s.b, s.c, s.d + t1, s.e, s.f, s.g⟩

/-- One block of 64 bytes. -/
def shaBlock (h : ShaH) (bs : List Byte) : ShaH :=
  let w := (upTo 16).map (fun i => beWord ((bs.drop (4 * i)).take 4))
  let ws := (shaSched 48 w.reverse).reverse
  let r := (shaK.zip ws).foldl (fun (s : ShaH) kw => shaRound s (kw.1 + kw.2)) h
  ⟨h.a + r.a, h.b + r.b, h.c + r.c, h.d + r.d, h.e + r.e, h.f + r.f, h.g + r.g, h.h + r.h⟩

/-- All blocks of a padded message; `fuel`: one a block. -/
def shaBlocks : Nat → ShaH → List Byte → ShaH
  | 0, h, _ => h
  | n + 1, h, bs => shaBlocks n (shaBlock h (bs.take 64)) (bs.drop 64)

/-- SHA-256 of a byte string: 32 bytes. -/
def sha256 (m : List Byte) : List Byte :=
  let z := (119 - m.length % 64) % 64
  let p := m ++ [0x80] ++ List.replicate z 0 ++ beBytes 8 (8 * m.length)
  let h := shaBlocks (p.length / 64) shaInit p
  ([h.a, h.b, h.c, h.d, h.e, h.f, h.g, h.h] : List Word32).flatMap (fun w => beBytes 4 w.toNat)

/-! ### CRC-32C -/

/-- Eight shifts of the reflected polynomial 0x1EDC6F41. -/
def crcShift : Nat → Word32 → Word32
  | 0, c => c
  | n + 1, c => crcShift n (if c.getLsbD 0 then (c >>> 1) ^^^ 0x82F63B78 else c >>> 1)

/-- CRC-32C of a byte string: initial value and final exclusive-or of all ones. -/
def crc32c (bs : List Byte) : Word32 :=
  ~~~ (bs.foldl (fun (c : Word32) b => crcShift 8 (c ^^^ b.zeroExtend 32)) 0xFFFFFFFF)

end Sys2Proof.Machine
end

