-- ==== Sys2Proof/Machine/Time.lean ====
section
/-! DEFINITION. The time base, its references, launch queues and transmit stamps (R401 to R417). -/

namespace Sys2Proof.Machine

/-! ### The counter -/

/-- One second and one nanosecond in units of 2^-32 ns. -/
def oneS : Nat := 1000000000 * 2 ^ 32
def oneNs : Nat := 2 ^ 32

/-- DT_CFG.MODE and DET_STRICT. -/
def State.mode (s : State) : Nat := s.fld (regDt 0) 2 1

/-- The time base as everything reads it: in replay, the stamp of the last released record (R287, R407). -/
def State.now (s : State) : Nat := if s.mode = 2 then s.replayTime else s.time.now

/-- SEC, NS and FR[31:16] of a time. -/
def secOf (t : Nat) : Nat := t / oneS
def nsOf (t : Nat) : Nat := t % oneS / oneNs
def fracOf (t : Nat) : Nat := t % oneNs / 2 ^ 16

/-- A time in the 16-byte format of R375: SEC, NS, FR[31:16], zero. -/
def timeBytes (t : Nat) : List Byte := leBytes 8 (secOf t) ++ leBytes 4 (nsOf t) ++ leBytes 2 (fracOf t) ++ leBytes 2 0

/-- The stamp of an instant in phase `p` (sixteenths) after the last tick (R403). -/
def State.stampAt (s : State) (p : Nat) : Nat := if s.mode = 2 then s.now else s.now + p * s.time.inc / 16

/-- Source of the time base (Table 16.2). -/
def timeSrc : Nat := 0x800

/-- A message of a limited kind: at most one a source in 100 ms (R428, R369). -/
def State.sendLimited (s : State) (src kind addr : Nat) : State :=
  let k := src * 256 + kind
  if s.ticks < s.rateLim.get k 0 then s
  else { s with rateLim := s.rateLim.set k (s.ticks + 100 * ticksPerMs) }.sendEv src kind addr

/-- REFSRC. -/
def State.refSrc (s : State) : Nat := s.fld (regTb 0) 3 0

/-- A refused write of the time block (R404, R407, R408). -/
def State.timeConfig (s : State) : State := (s.orReg (regTb 4) 0x80).sendEv timeSrc 0x6C s.refSrc

/-- Commit one change (R404, R405). -/
def State.timeOp (s : State) : TimeOp → State
  | .set v => ({ s with time := { s.time with now := v } }).orReg (regTb 4) 4
  | .adj d => { s with time := { s.time with now := ((s.time.now : Int) + d).toNat } }
  | .inc v =>
    let far := fun (a b lim : Nat) => decide (lim < a - b ∨ lim < b - a)
    if far v (2 * 2 ^ 32) 4294967 || far v s.time.inc 1717987 then
      (s.orReg (regTb 4) 0x40).sendLimited timeSrc 0x6B s.refSrc
    else { s with time := { s.time with inc := v } }

/-- Is a change an increment? -/
def TimeOp.isInc : TimeOp → Bool
  | .inc _ => true
  | _ => false

/-- TIME_TICK (R401, R417): increments commit first and drive the tick's own update; SET and ADJ apply after it; PPS_OUT
rises where SEC increased. -/
def doTimeTick (s : State) : State :=
  let was := s.time.now
  let ops := s.time.ops
  let s := { s with ticks := s.ticks + 1, time := { s.time with ops := [] } }
  let s := (ops.filter (fun o => o.isInc)).foldl (fun (s : State) o => s.timeOp o) s
  let s := { s with time := { s.time with now := s.time.now + s.time.inc } }
  let s := (ops.filter (fun o => !o.isInc)).foldl (fun (s : State) o => s.timeOp o) s
  if secOf was < secOf s.time.now ∧ s.fld (regTb 0x48) 31 31 = 1 ∧ s.fld (regTb 4) 2 2 = 1 ∧ s.mode ≠ 2 then
    { s with time := { s.time with ppsUntil := s.ticks + 500 * max 1 (s.fld (regTb 0x48) 15 0) } }
  else s

/-- The level of PPS_OUT (R417). -/
def State.ppsOut (s : State) : Bool :=
  decide (s.ticks < s.time.ppsUntil ∧ s.fld (regTb 0x48) 31 31 = 1 ∧ s.fld (regTb 4) 2 2 = 1 ∧ s.mode ≠ 2)

/-- SET. -/
def doSet (s : State) : State :=
  if s.mode = 2 then s.timeConfig
  else
    let ns := (s.reg (regTb 0x28)).toNat
    if 1000000000 ≤ ns then s.timeConfig
    else
      let v := ((s.reg (regTb 0x20)).toNat + (s.reg (regTb 0x24)).toNat * 2 ^ 32) * oneS + ns * oneNs
        + s.fld (regTb 0x2C) 15 0 * 2 ^ 16
      { s with time := { s.time with ops := s.time.ops ++ [.set v] } }

/-- ADJ. -/
def doAdj (s : State) : State :=
  if s.mode = 2 then s.timeConfig
  else
    let v := signed 32 (s.reg (regTb 0x28)).toNat * (oneNs : Int) + ((s.fld (regTb 0x2C) 15 0 * 2 ^ 16 : Nat) : Int)
    { s with time := { s.time with ops := s.time.ops ++ [.adj v] } }

/-- INC_COMMIT: a write of TB_INC_HI (R404, R405). -/
def doIncCommit (v : Word32) (s : State) : State :=
  if s.mode = 2 then s.timeConfig
  else
    let s := s.setReg (regTb 0x1C) v
    { s with time := { s.time with ops := s.time.ops ++ [.inc (v.toNat * 2 ^ 32 + (s.reg (regTb 0x18)).toNat)] } }

/-- TB_SEC_LO: a read latches the shadows (R402). -/
def doTbSecLo (s : State) : State := { s with time := { s.time with shadow := s.now } }

/-! ### References (R408 to R412) -/

/-- TB_STAT.STATE. -/
def State.refState (s : State) : Nat := s.fld (regTb 4) 1 0

/-- Enter a state of Table 14.1; TIME-HOLDOVER is a level kind (R462). -/
def State.refEnter (s : State) (v : Nat) : State :=
  let was := s.refState
  let s := s.setFld (regTb 4) 1 0 v
  let s := if was = 2 ∧ v ≠ 2 then s.send timeSrc 0x68 s.refSrc false [] else s
  if v = 1 then s.sendEv timeSrc 0x69 s.refSrc
  else if v = 2 then s.sendEv timeSrc 0x68 s.refSrc
  else s

/-- REFSRC: a write of TB_CTL selects the reference; the monitor returns to FREE. A reserved value is refused. -/
def doRefsrc (v : Word32) (s : State) : State :=
  if 6 < v.toNat % 16 then s.sendEv timeSrc 0x6C s.refSrc
  else
    let s := s.refEnter 0
    let s := s.setReg (regTb 0) (v &&& 0xFF000F)
    { s with time := { s.time with lastEdge := none, interval := none, okRun := 0 } }

/-- An accepted reference (R412). -/
def State.refOk (s : State) : State :=
  let n := s.time.okRun + 1
  let s := { s with time := { s.time with okRun := n, lastRef := s.ticks } }
  if s.refState ≠ 1 ∧ max 1 (s.fld (regTb 0x44) 23 16) ≤ n then s.refEnter 1 else s

/-- A rising edge at PPS_IN in phase `p`, high for `high` ns (R409, R410). -/
def doPpsEdge (p high : Nat) (s : State) : State :=
  if s.mode = 2 ∨ s.refSrc ≠ 1 then s
  else if high < 100 * max 1 (s.fld (regTb 0x40) 15 0) then
    (s.bump (regTb 0x58) 15 0 1).sendLimited timeSrc 0x6A s.refSrc
  else
    let t := s.stampAt p
    let accept := fun (s : State) => (((s.setReg (regTb 0x50) (BitVec.ofNat 32 (secOf t))).setReg (regTb 0x54)
      (BitVec.ofNat 32 (nsOf t)))).refOk
    let edge := fun (s : State) => { s with time := { s.time with lastEdge := some s.ticks } }
    match s.time.lastEdge with
    | none => accept (edge s)
    | some e =>
      let iv := s.ticks - e
      let r := s.time.interval.getD 500000000
      if 3 * r < 2 * iv then accept (edge { s with time := { s.time with interval := none } })
      else
        let off := if iv < r then r - iv else iv - r
        let lim := match s.time.interval with | some r => r * 200 / 1000000 | none => 250000
        if lim < off then
          let s := edge { s with time := { s.time with okRun := 0 } }
          ((s.bump (regTb 0x58) 31 16 1).orReg (regTb 4) 0x20).sendLimited timeSrc 0x6B s.refSrc
        else
          let s := edge { s with time := { s.time with interval := some iv } }
          accept (s.setReg (regTb 0x5C) (BitVec.ofNat 32 iv))

/-- A gPTP Sync on a port (0-3 lidar ports, 4 Towpath; R411). -/
def doSyncMessage (port domain : Nat) (s : State) : State :=
  if s.mode ≠ 2 ∧ s.refSrc = port + 2 ∧ port ≤ 4 ∧ s.fld (regTb 0) 23 16 = domain then s.refOk else s

/-- The timeout of the monitor in raw ticks (10 ms are 5,000,000). -/
def State.refTimeout (s : State) : Nat :=
  5000000 * max 1 (if s.refSrc = 1 then s.fld (regTb 0x40) 31 16 else s.fld (regTb 0x44) 15 0)

/-- REFERENCE_TIMEOUT: TRACK to HOLD (R412). A run of consecutive references ends with it. -/
def doReferenceTimeout (s : State) : State :=
  if s.mode ≠ 2 ∧ s.refState = 1 ∧ s.time.lastRef + s.refTimeout ≤ s.ticks then
    { s with time := { s.time with okRun := 0 } }.refEnter 2
  else s

/-! ### Launch queues (R415, R416) -/

/-- Link of a launch queue's port: a lidar port or the Towpath. -/
def State.lqLink (s : State) (q : Nat) : Bool := s.fld (if q < 4 then regLp q 4 else regTw 0) 0 0 = 1

def regLq (q o : Nat) : Nat := regTb (0x100 + 0x40 * q + o)

def State.setLaunch (s : State) (q : Nat) (l : List LaunchEntry) : State :=
  { s with time := { s.time with launch := s.time.launch.set q l } }

/-- An entry dropped: counted in LATE. -/
def State.lqLate (s : State) (q : Nat) : State := s.bump (regLq q 0x14) 31 16 1

/-- Judge entries that have reached the head of the queue: those less than 2 us ahead are dropped (R416). `fuel`: one an
entry. -/
def State.lqHead (q : Nat) : Nat → State → State
  | 0, s => s
  | fuel + 1, s =>
    match s.time.launch.get q [] with
    | [] => s
    | e :: r =>
      if e.imm ∨ e.judged then s
      else if e.time < s.now + 2000 * oneNs then
        State.lqHead q fuel (((s.setLaunch q r).lqLate q).sendLimited (0x801 + q) 0x6D q)
      else s.setLaunch q ({ e with judged := true } :: r)

/-- Where an entry stands: immediate ones first in write order, then by time. -/
def lqInsert (e : LaunchEntry) : List LaunchEntry → List LaunchEntry
  | [] => [e]
  | x :: r =>
    if e.imm then (if x.imm then x :: lqInsert e r else e :: x :: r)
    else if x.imm ∨ x.time ≤ e.time then x :: lqInsert e r else e :: x :: r

/-- LAUNCH_GO. -/
def doLaunchGo (q : Nat) (s : State) : State :=
  let l := s.time.launch.get q []
  let len := s.fld (regLq q 4) 13 0
  if 16 ≤ l.length ∨ len < 60 ∨ 9018 < len then s.orReg (regLq q 0x14) 0x80
  else
    let hi := secOf s.now / 2 ^ 32 * 2 ^ 32
    let e : LaunchEntry :=
      { buf := s.fld (regLq q 0) 24 3 * 8, len := len, tag := s.fld (regLq q 4) 31 16, imm := s.fld (regLq q 0xC) 31 31 = 1,
        time := (hi + (s.reg (regLq q 8)).toNat) * oneS + s.fld (regLq q 0xC) 29 0 * oneNs, judged := false }
    if s.lqLink q then State.lqHead q 17 (s.setLaunch q (lqInsert e l)) else s.lqLate q

/-- LAUNCH_SEND: the head leaves at its time, its delimiter in phase `p`; the stamp goes into the FIFO (R415). -/
def doLaunchSend (q p : Nat) (s : State) : State :=
  match s.time.launch.get q [] with
  | [] => s
  | e :: r =>
    if s.mode = 2 ∨ s.lqLink q = false ∨ ¬ (e.imm = true ∨ e.time ≤ s.now + 8 * oneNs) then s
    else
      let (_, s) := s.hubRead 2 e.buf e.len
      let carr := s.fld (if q < 4 then regLp q 0x10 else regTw 0x10) 15 0
      let t := s.stampAt p - (s.fld (regLq q 0x24) 31 16 + carr) * oneNs / 64
      let f := s.time.stamps.get q []
      let s := s.setLaunch q r
      let s := if 16 ≤ f.length then s.bump (regLq q 0x14) 15 8 1
        else { s with time := { s.time with stamps := s.time.stamps.set q (f ++ [(e.tag, t)]) } }
      State.lqHead q 17 s

/-- Link loss drops every held entry (R416). -/
def State.lqDropAll (s : State) (q : Nat) : State :=
  ((s.time.launch.get q []).foldl (fun (s : State) _ => s.lqLate q) s).setLaunch q []

/-- STNS: a read removes the head of the transmit-stamp FIFO. -/
def doStns (q : Nat) (s : State) : State :=
  { s with time := { s.time with stamps := s.time.stamps.set q ((s.time.stamps.get q []).drop 1) } }

end Sys2Proof.Machine
end

