-- ==== Sys2Proof/Machine/Recorder.lean ====
section
/-! DEFINITION. The determinism block and the recorder (R278, R284 to R286, R290 to R294, R374 to R378). -/

namespace Sys2Proof.Machine

/-! ### Captures and records -/

/-- An external input enters the recorder (R284): its capture number, and the state. In replay nothing is captured; the
number is still taken. -/
def State.capture (s : State) (stream typ time : Nat) (payload : List Byte) : Nat × State :=
  let n := s.rcd.nextId
  let w := if s.mode = 2 then s.rcd.waiting else s.rcd.waiting ++ [⟨n, stream, typ, time, payload⟩]
  (n, { s with rcd := { s.rcd with nextId := n + 1, waiting := w } })

/-- The sequence number of a capture, once it is numbered. -/
def State.capSeq (s : State) (id : Nat) : Option Nat := (s.rcd.hist.find? (fun e => e.cap = id)).map (fun e => e.seq)

/-- The bytes of a record (Table 13.1). -/
def recordBytes (stream typ seq time : Nat) (payload : List Byte) : List Byte :=
  let n := payload.length
  let len := 8 * ((44 + n + 7) / 8)
  let body := leBytes 4 len ++ leBytes 2 stream ++ leBytes 1 typ ++ leBytes 1 1 ++ leBytes 8 seq ++ timeBytes time
    ++ leBytes 4 n ++ leBytes 4 0 ++ payload ++ List.replicate (len - 44 - n) 0
  body ++ leBytes 4 (crc32c body).toNat

/-- The chain after one more record (R291). -/
def chainNext (h x : List Byte) : List Byte := sha256 (h ++ sha256 x)

/-! ### The ring (R286, R378) -/

def State.ringBase (s : State) : Nat := s.fld (regDt 8) 31 16 * 2 ^ 16 + s.fld (regDt 0xC) 16 0 * 2 ^ 32
def State.ringSize (s : State) : Nat := s.fld (regDt 0x10) 15 0 * 2 ^ 16
def State.ringCtx (s : State) : Nat := s.fld (regDt 0x10) 31 24
def State.rwr (s : State) : Nat := (s.reg (regDt 0x14)).toNat
def State.rrd (s : State) : Nat := (s.reg (regDt 0x18)).toNat

/-- Free bytes of the ring: one full ring would read as an empty one, so the last 8 bytes stay free (log entry 20). -/
def State.ringFree (s : State) : Nat :=
  if s.ringSize = 0 then 0 else s.ringSize - 8 - (s.rwr + s.ringSize - s.rrd) % s.ringSize

/-- Write bytes at RWR and advance it. -/
def State.ringPut (s : State) (bs : List Byte) : State :=
  let w := s.rwr
  let s := (({ s with actor := [s.ringCtx] }).hubPut 0 (s.ringBase + w) bs)
  { s with actor := [] }.setReg (regDt 0x14) (BitVec.ofNat 32 ((w + bs.length) % max 1 s.ringSize))

/-- A PAD record that fills `n` bytes (R378; its PLEN makes LEN follow R374, log entry 20). -/
def padRecord (n : Nat) : List Byte := recordBytes 0xFFFF 0xFE 0 0 (List.replicate (n - 44) 0)

/-- Bytes that a record of length n needs, with the PAD before it; a rest of less than 48 bytes is passed over. -/
def State.ringNeed (s : State) (n : Nat) : Nat × Nat :=
  let rest := s.ringSize - s.rwr
  if n ≤ rest then (0, n) else (rest, rest + n)

/-- Store a record; false where it does not fit. -/
def State.ringStore (s : State) (x : List Byte) : Bool × State :=
  let (pad, need) := s.ringNeed x.length
  if s.ringFree < need then (false, s)
  else
    let s := if pad = 0 then s else if pad < 48 then s.setReg (regDt 0x14) 0 else s.ringPut (padRecord pad)
    (true, s.ringPut x)

/-- A record takes the next number, and the chain goes on over its bytes x (R285, R291). -/
def State.chainRecord (s : State) (cap stream time : Nat) (x : List Byte) : State :=
  let h := chainNext s.rcd.chain x
  { s with rcd := { s.rcd with
      next := (s.rcd.next + 1) % 2 ^ 64, chain := h, hist := s.rcd.hist ++ [⟨s.rcd.next, cap, time, stream, h⟩] } }

/-- Number a record, hash it, and in MODE 1 store it (R285, R286, R291). -/
def State.numberRecord (s : State) (cap stream typ time : Nat) (payload : List Byte) : State :=
  let n := s.rcd.next
  let x := recordBytes stream typ n time payload
  let s := s.chainRecord cap stream time x
  if s.mode ≠ 1 then s
  else
    match s.rcd.lost with
    | some (a, _) => { s with rcd := { s.rcd with lost := some (a, n) } }
    | none =>
      let (ok, s) := s.ringStore x
      if ok then s
      else
        let s := { s with rcd := { s.rcd with lost := some (n, n), gaps := s.rcd.gaps ++ [n] } }
        (s.orReg (regDt 4) 2).sendEv 0xA01 0x32 0

/-- Does capture a come before b (R285)? -/
def Capture.before (a b : Capture) : Bool :=
  decide (a.time < b.time) || (decide (a.time = b.time) && (decide (a.stream < b.stream)
    || (decide (a.stream = b.stream) && decide (a.id < b.id))))

/-- The waiting capture that is numbered next. -/
def nextCapture : List Capture → Option Capture
  | [] => none
  | a :: r => match nextCapture r with
    | none => some a
    | some b => some (if b.before a then b else a)

/-- RECORD_CAPTURE: the earliest waiting input is formed into a record and numbered. -/
def doRecordCapture (s : State) : State :=
  match nextCapture s.rcd.waiting with
  | none => s
  | some c =>
    ({ s with rcd := { s.rcd with waiting := s.rcd.waiting.filter (fun x => x.id ≠ c.id) } }).numberRecord c.id c.stream
      c.typ c.time c.payload

/-- RECORDING_RESUME: 256 KiB are free, and the gap record is written (R286). -/
def doRecordingResume (s : State) : State :=
  match s.rcd.lost with
  | none => s
  | some (a, b) =>
    if s.mode = 1 ∧ 2 ^ 18 ≤ s.ringFree then
      ({ s with rcd := { s.rcd with lost := none, nextId := s.rcd.nextId + 1 } }).numberRecord s.rcd.nextId 0xFFFF 0xF0 s.now
        (leBytes 8 a ++ leBytes 8 b)
    else s

/-! ### DT_CFG and the ring registers (R278) -/

/-- Is every context disabled? -/
def State.ctxsOff (s : State) : Bool := (upTo 256).all (fun c => decide (s.fld (regCtx c 4) 1 0 = 0))

/-- Does no cluster run? -/
def State.clustersOff (s : State) : Bool := (upTo 64).all (fun c => decide ((s.cl c).seq.st ≠ .running))

def State.dtRefuse (s : State) : State := (s.orReg (regDt 4) 1).sendEv 0xA00 0x31 0

/-- Does the ring lie in HBM windows of RCTX with ACT = 3 (R278)? -/
def State.ringOk (s : State) : Bool :=
  decide (s.ringSize ≠ 0) && ((s.hbmWins s.ringCtx true).filter (fun w => decide (w.2.2 = 3))).any (fun w =>
    decide (w.1 ≤ s.ringBase ∧ s.ringBase + s.ringSize ≤ w.2.1))

/-- DT_CFG: a write of DT_CFG (offset 0) or of a ring field (offsets 8, 0xC, 0x10), under the write condition of R278. An
accepted write of DT_CFG starts a session (R285); the replay time before the first release is not stated (log entry 31). -/
def doDtCfg (off : Nat) (v : Word32) (s : State) : State :=
  let m : Word32 := if off = 0 then 0xF else if off = 8 then 0xFFFF0000 else if off = 0xC then 0x1FFFF
    else if off = 0x10 then 0xFF00FFFF else 0
  let v := v &&& m
  if m = 0 then s
  else if !(s.ctxsOff && s.clustersOff) then (if s.reg (regDt off) = v then s else s.dtRefuse)
  else if off ≠ 0 then s.setReg (regDt off) v
  else
    let mode := bitsOf v.toNat 2 1
    if mode = 3 ∨ ((mode = 1 ∨ mode = 2) ∧ s.ringOk = false) then s.dtRefuse
    else
      let (x, s) := if mode = 2 then s.free (2 ^ 80) else (s.replayTime, s)
      { (s.setReg (regDt 0) v) with rcd := { RecSt.reset with nextId := s.rcd.nextId }, replayTime := x, hostBytes := [] }

/-- A write of RWR or RRD: in live both, in record RRD, in replay RWR. -/
def State.ringPtr (s : State) (off : Nat) (v : Word32) : State :=
  if (off = 0x14 ∧ s.mode ≠ 1) ∨ (off = 0x18 ∧ s.mode ≠ 2) then s.setReg (regDt off) v else s

/-! ### Result digests (R292, R293) -/

/-- H_N: the chain after record N; 32 zero bytes where no such record is known. -/
def State.chainAt (s : State) (n : Nat) : List Byte :=
  match s.rcd.hist.find? (fun e => e.seq = n) with
  | some e => e.chain
  | none => List.replicate 32 0

/-- Does a result with horizon N carry the gap flag (R286, R379)? -/
def State.gapAt (s : State) (n : Nat) : Bool := s.rcd.gaps.any (fun g => decide (g ≤ n))

/-- RD of a result (R293): `res` holds its element bytes, then its scale bytes. -/
def State.rdOf (s : State) (ctx : Nat) (pd wd : List Byte) (n : Nat) (res : List Byte) : List Byte :=
  (sha256 (pd ++ wd ++ s.chainAt n ++ leBytes 8 n ++ leBytes 4 (s.reg (regCtx ctx 0x440)).toNat
    ++ leBytes 1 (s.fld (regDt 0) 0 0) ++ [0, 0, 0] ++ res)).take 16

end Sys2Proof.Machine
end

