-- ==== Sys2Proof/Machine/Host.lean ====
section
/-! DEFINITION. The host interface: context states, doorbells, acceptance, outcomes and records, the program loader, and the
accepted-work rules (R327 to R349). -/

namespace Sys2Proof.Machine

/-! ### Contexts and their rings -/

def ctxSrc (c : Nat) : Nat := 0x500 + c

/-- CTX_STAT.STATE (Table 11.3): 0 DISABLED, 1 ENABLED, 2 DRAINING, 3 ABORTING. -/
def State.ctxState (s : State) (c : Nat) : Nat := s.fld (regCtx c 4) 1 0
def State.setCtxState (s : State) (c v : Nat) : State := s.setFld (regCtx c 4) 1 0 v
def State.hostLoss (s : State) (c : Nat) : Bool := s.fld (regCtx c 4) 11 11 = 1

def State.sqSize (s : State) (c : Nat) : Nat := 2 ^ s.fld (regCtx c 0x18) 3 0
def State.cqSize (s : State) (c : Nat) : Nat := 2 ^ s.fld (regCtx c 0x18) 19 16
def State.infl (s : State) (c : Nat) : Nat := s.fld (regCtx c 0x28) 10 0
def State.sqBase (s : State) (c : Nat) : Nat := s.fld (regCtx c 0x10) 31 12 * 2 ^ 12 + s.fld (regCtx c 0x14) 16 0 * 2 ^ 32
def State.cqBase (s : State) (c : Nat) : Nat := s.fld (regCtx c 0x20) 31 12 * 2 ^ 12 + s.fld (regCtx c 0x24) 16 0 * 2 ^ 32

/-- The next sequence number of a context (48 bits; R332: it starts at 1). -/
def State.ctxSeq (s : State) (c : Nat) : Nat := (s.reg (regCtx c 8)).toNat + s.fld (regCtx c 0xC) 15 0 * 2 ^ 32
def State.setCtxSeq (s : State) (c n : Nat) : State :=
  (s.setReg (regCtx c 8) (BitVec.ofNat 32 n)).setFld (regCtx c 0xC) 15 0 (n / 2 ^ 32)

def HostCtx.reset : HostCtx := ⟨[], true, []⟩
def State.hctx (s : State) (c : Nat) : HostCtx := s.host.ctxs.get c HostCtx.reset
def State.setHctx (s : State) (c : Nat) (h : HostCtx) : State :=
  { s with host := { s.host with ctxs := s.host.ctxs.set c h } }

/-- Journal entries of a context. -/
def State.entries (s : State) (c : Nat) : List JEntry := s.host.journal.filter (fun e => e.ctx = c)
def State.entry (s : State) (c seq : Nat) : Option JEntry :=
  s.host.journal.find? (fun e => decide (e.ctx = c) && decide (e.seq = seq))
def State.updEntry (s : State) (c seq : Nat) (f : JEntry → JEntry) : State :=
  { s with host := { s.host with journal := s.host.journal.map (fun e => if e.ctx = c ∧ e.seq = seq then f e else e) } }

/-- Accepted descriptors without outcome. -/
def State.undecided (s : State) (c : Nat) : List JEntry := (s.entries c).filter (fun e => e.out.isNone)

/-- Free entries of the completion ring: all its entries can be used (R341). -/
def State.cqFree (s : State) (c : Nat) : Nat := s.cqSize c - (s.hctx c).used.length

/-- Can nothing be written to the host for a context (R343 to R345)? -/
def State.hostHeld (s : State) (c : Nat) : Bool :=
  s.host.down || s.host.d3 || (s.hostLoss c && !s.host.soft.contains c)

/-- CTX_STAT.PEND: outcome records are held (R344). -/
def State.ctxPend (s : State) (c : Nat) : Bool :=
  (s.hostHeld c || decide (s.ctxState c = 0)) && (s.entries c).any (fun e => e.out.isSome && !e.written)

/-! ### Interrupts (R328, R345) -/

def IrqSt.reset : IrqSt := ⟨false, false, 0⟩
def State.irq (s : State) (v : Nat) : IrqSt := s.host.irqs.get v IrqSt.reset
def State.setIrq (s : State) (v : Nat) (i : IrqSt) : State := { s with host := { s.host with irqs := s.host.irqs.set v i } }

/-- Can the endpoint send an MSI-X message? -/
def State.irqUp (s : State) : Bool := !s.host.down && !s.host.d3

/-- A trigger of vector v with hold-off present (R328): sent, or due. -/
def State.trigger (s : State) (v : Nat) (holdoff : Bool) : State :=
  let i := s.irq v
  if i.hold || !s.irqUp then s.setIrq v { i with due := true }
  else s.setIrq v ⟨holdoff, false, i.sent + 1⟩

/-- A trigger of a context's vector. -/
def State.ctxIrq (s : State) (c : Nat) : State :=
  if s.fld (regCtx c 0x2C) 31 31 = 1 then s.trigger c (decide (s.fld (regCtx c 0x2C) 15 0 ≠ 0)) else s

/-- MSIX_HOLDOFF_EXPIRY: the hold-off of vector v ends, and a deferred trigger fires. Vector 256 is the collector's. -/
def doMsixHoldoffExpiry (v : Nat) (s : State) : State :=
  let i := s.irq v
  if !i.hold then s
  else if i.due && s.irqUp then s.setIrq v ⟨if v = 256 then true else decide (s.fld (regCtx v 0x2C) 15 0 ≠ 0), false, i.sent + 1⟩
  else s.setIrq v { i with hold := false }

/-- Triggers that fell due while nothing could be sent (R345). -/
def State.sendDue (s : State) : State :=
  (upTo 257).foldl (fun (s : State) v =>
    let i := s.irq v
    if i.due && !i.hold && s.irqUp then
      s.setIrq v ⟨if v = 256 then true else decide (s.fld (regCtx v 0x2C) 15 0 ≠ 0), false, i.sent + 1⟩
    else s) s

/-! ### Completion records (R341, R344) -/

/-- A completion record (Table 11.9). -/
def cqRecord (seq kind code tag : Nat) (mid : List Byte) (flags aux : Nat) (phase : Bool) : List Byte :=
  leBytes 6 seq ++ leBytes 1 kind ++ leBytes 1 code ++ leBytes 4 tag ++ (mid ++ List.replicate 16 0).take 16
    ++ leBytes 2 flags ++ leBytes 1 aux ++ [if phase then 0x80 else 0]

/-- Write a record at CQ_TAIL; `mark` is the sequence number of an outcome record. -/
def State.putRecord (s : State) (c : Nat) (mark : Option Nat) (rec : Bool → List Byte) : State :=
  let h := s.hctx c
  let t := s.fld (regDb c 0xC) 15 0
  let s := s.setBytes (memKey 4 (s.cqBase c + 32 * t)) (rec h.phase)
  let n := (t + 1) % s.cqSize c
  (s.setFld (regDb c 0xC) 15 0 n).setHctx c { h with used := h.used ++ [mark], phase := if n = 0 then !h.phase else h.phase }

/-- Has the ring a free slot, and may records go out? -/
def State.canRecord (s : State) (c : Nat) : Bool :=
  decide (s.ctxState c ≠ 0) && !s.hostHeld c && decide (0 < s.cqFree c)

/-- The next outcome record in sequence order: the oldest entry whose record was not written, once it is decided. -/
def State.nextOutcome (s : State) (c : Nat) : Option (JEntry × HostOut) :=
  match (s.entries c).filter (fun e => !e.written) with
  | [] => none
  | e :: _ => e.out.map (fun o => (e, o))

/-- Write one waiting record: FRAME records that wait first, then the next outcome (R344). -/
def State.writeRecord (s : State) (c : Nat) : State :=
  if !s.canRecord c then s
  else
    match (s.hctx c).frames with
    | f :: r =>
      let s := s.setHctx c { s.hctx c with frames := r }
      (s.putRecord c none (cqRecord f.seq 4 f.code f.frame f.rd f.flags 0)).ctxIrq c
    | [] =>
      match s.nextOutcome c with
      | none => s
      | some (e, o) =>
        let fl := o.flags + (if e.resent then 32 else 0)
        let s := s.putRecord c (some e.seq) (cqRecord e.seq o.kind o.code (fieldAt e.desc 4 4) o.rd fl o.aux)
        let s := s.updEntry c e.seq (fun x => { x with written := true })
        if o.kind = 3 ∨ bitOf (fieldAt e.desc 1 1) 1 then s.ctxIrq c else s

/-- OUTCOME_RECORD. -/
def doOutcomeRecord (c : Nat) (s : State) : State := s.writeRecord c

/-- Write every record that can be written. -/
def State.flushRecords (c : Nat) : Nat → State → State
  | 0, s => s
  | n + 1, s => State.flushRecords c n (s.writeRecord c)

def State.flushAll (s : State) (c : Nat) : State := State.flushRecords c ((s.entries c).length + (s.hctx c).frames.length) s

/-! ### Outcomes and their order (R343, R346) -/

def JEntry.typ (e : JEntry) : Nat := fieldAt e.desc 0 1
def JEntry.fence (e : JEntry) : Bool := bitOf (fieldAt e.desc 1 1) 0
def JEntry.bank (e : JEntry) : Option Nat :=
  if e.typ = 2 then some (fieldAt e.desc 8 1) else if e.typ = 3 then some (fieldAt e.desc 9 1) else none
def JEntry.slot (e : JEntry) : Option Nat :=
  if e.typ = 1 ∨ e.typ = 3 then some (fieldAt e.desc 8 1) else none

/-- Byte ranges that a COPY, LOADP or LOADW touches: (extent, is a destination). -/
def JEntry.ranges (e : JEntry) : List (Extent × Bool) :=
  if e.typ = 1 ∨ e.typ = 2 ∨ e.typ = 4 then
    let a := fieldAt e.desc 16 8
    let b := fieldAt e.desc 24 8
    let n := fieldAt e.desc 32 4
    [(⟨gaSpace a, gaOff a, n⟩, false), (⟨gaSpace b, gaOff b, n⟩, true)]
  else []

/-- Does a rule of R346 order descriptor b after the earlier a? -/
def JEntry.orders (a b : JEntry) : Bool :=
  b.fence
  || (a.bank.isSome && a.bank = b.bank && (a.typ = 2 || b.typ = 2))
  || (a.slot.isSome && a.slot = b.slot && (a.typ = 1 || b.typ = 1))
  || (decide (a.typ = 6) && decide (b.typ = 6))
  || a.ranges.any (fun x => b.ranges.any (fun y => (x.2 || y.2) && x.1.meets y.1))

/-- May a descriptor start: no earlier one of its context that orders it lacks an outcome. -/
def State.mayStart (s : State) (e : JEntry) : Bool :=
  (decide (s.ctxState e.ctx = 1) || decide (s.ctxState e.ctx = 2)) && e.out.isNone && !e.started
    && !(s.entries e.ctx).any (fun a => decide (a.seq < e.seq) && a.out.isNone && a.orders e)

/-- Enter an outcome; a decided one never changes. -/
def State.enterOut (s : State) (c seq : Nat) (o : HostOut) : State :=
  s.updEntry c seq (fun e => if e.out.isNone then { e with out := some o } else e)

/-- What a DISCARDED descriptor leaves behind (R348): a load in progress leaves its slot or bank INVALID. -/
def State.leaveBehind (s : State) (e : JEntry) : State :=
  if e.started ∧ e.typ = 1 then s.setFld (regCtx e.ctx 0x84) (2 * fieldAt e.desc 8 1 + 1) (2 * fieldAt e.desc 8 1) 3
  else if e.started ∧ e.typ = 2 then s.setFld (regCtx e.ctx 0x80) (2 * fieldAt e.desc 8 1 + 1) (2 * fieldAt e.desc 8 1) 3
  else s

/-- Decide DISCARDED for entries, oldest first, and for what R346 orders after them and has not started. -/
def State.discardList (c cause : Nat) : List Nat → State → State
  | [], s => s
  | q :: r, s =>
    match s.entry c q with
    | none => State.discardList c cause r s
    | some e =>
      if e.out.isSome then State.discardList c cause r s
      else
        let s := (s.enterOut c q ⟨3, cause, 0, [], 0⟩).leaveBehind e
        let s := { s with
          runs := s.runs.filter (fun x => ¬ (x.ctx = c ∧ x.seq = q)),
          host := { s.host with
            ends := s.host.ends.filter (fun x => ¬ (x.ctx = c ∧ x.seq = q)),
            reqs := ⟨s.host.reqs.rows.map (fun p => (p.1, p.2.filter (fun x => ¬ (x.ctx = c ∧ x.seq = q))))⟩ } }
        State.discardList c cause r s

/-- The entries that a chain of R346 orders after a discarded one: a left-to-right pass in sequence order finds them. -/
def cascade : List JEntry → List JEntry → List JEntry
  | _, [] => []
  | hit, e :: r =>
    if e.out.isNone && !e.started && hit.any (fun a => decide (a.seq < e.seq) && a.orders e) then
      e :: cascade (hit ++ [e]) r
    else cascade hit r

/-- All outcomes decided: the waiting records go out, and a context that drains or aborts becomes DISABLED (Table 11.3). -/
def State.settle (s : State) (c : Nat) : State :=
  if (s.ctxState c = 2 ∨ s.ctxState c = 3) ∧ s.undecided c = [] then (s.flushAll c).setCtxState c 0 else s

/-- Decide DISCARDED for one descriptor with a cause; what is ordered after it takes cause 0x06. -/
def State.discardOne (s : State) (c seq cause : Nat) : State :=
  match s.entry c seq with
  | none => s
  | some e =>
    if e.out.isSome then s
    else
      let after := cascade [e] (s.entries c)
      (State.discardList c 6 (after.map (fun x => x.seq)) (State.discardList c cause [seq] s)).settle c

/-- Decide DONE for one descriptor. -/
def State.done1 (s : State) (c seq code flags : Nat) (rd : List Byte) (aux : Nat) : State :=
  (s.enterOut c seq ⟨2, code, flags, rd, aux⟩).settle c

/-- Decide DONE with a status alone. -/
def State.status (s : State) (c seq code : Nat) : State := s.done1 c seq code 0 [] 0

/-- Decide DISCARDED for every descriptor of a context (R343). -/
def State.discardAll (s : State) (c cause : Nat) : State :=
  State.discardList c cause ((s.undecided c).map (fun e => e.seq)) s

/-! ### Descriptors (R334, R335) -/

/-- An address of an allowed space, of this module and within the space. -/
def State.hostAddr (s : State) (a : Nat) (spaces : List Nat) : Bool :=
  decide (gaPid a = s.pid) && spaces.contains (gaSpace a) && gaOk a

/-- Are bytes lo ... hi of a descriptor zero? -/
def zeroBytes (d : List Byte) (lo hi : Nat) : Bool := ((d.drop lo).take (hi + 1 - lo)).all (fun b => decide (b = 0))

/-- A region that a RUN names: judged where its length is not zero (log entry 18). -/
def State.regionOk (s : State) (a n : Nat) : Bool := decide (n = 0) || s.hostAddr a [0, 2, 4]

/-- A reserved TYPE, a non-zero reserved field or a value outside Table 11.7. -/
def State.descMalformed (s : State) (d : List Byte) : Bool :=
  let f := fun o n => fieldAt d o n
  let typ := f 0 1
  let head := decide (8 ≤ f 1 1) || (bitOf (f 1 1) 2 && decide (typ ≠ 3)) || !zeroBytes d 2 3
  let body :=
    if typ = 0 then !zeroBytes d 8 63
    else if typ = 1 ∨ typ = 2 then
      decide ((if typ = 1 then 16 else 8) ≤ f 8 1) || !zeroBytes d 9 15 || !zeroBytes d 36 63
        || !s.hostAddr (f 16 8) [4] || !s.hostAddr (f 24 8) [0] || decide (f 24 8 % 32 ≠ 0)
        || decide (typ = 2 ∧ f 32 4 % 32 ≠ 0)
    else if typ = 3 then
      decide (16 ≤ f 8 1) || decide (8 ≤ f 9 1) || decide (59 < f 10 1 ∧ f 10 1 ≠ 0xFF) || !zeroBytes d 11 15
        || !zeroBytes d 44 47 || !zeroBytes d 60 63 || !s.regionOk (f 32 8) (f 40 4) || !s.regionOk (f 48 8) (f 56 4)
    else if typ = 4 then
      !zeroBytes d 8 15 || !zeroBytes d 36 63 || decide (f 32 4 = 0) || decide (2 ^ 30 < f 32 4)
        || !s.hostAddr (f 16 8) [0, 2, 4] || !s.hostAddr (f 24 8) [0, 2, 4]
    else if typ = 5 then
      decide (16 ≤ f 8 1) || !zeroBytes d 9 15 || !zeroBytes d 32 63 || !s.hostAddr (f 16 8) [0]
        || !s.hostAddr (f 24 8) [0, 4]
    else if typ = 6 then
      let op := f 8 1
      decide (op = 0 ∨ 3 < op) || decide (64 ≤ f 9 1) || decide (64 ≤ f 11 1) || !zeroBytes d 18 19 || !zeroBytes d 24 63
        || (decide (op ≠ 1) && (!zeroBytes d 10 11 || !zeroBytes d 16 17))
        || (decide (op = 3) && decide (2 ^ 20 ≤ f 20 4)) || (decide (op ≠ 3) && !zeroBytes d 20 23)
        || (decide (op ≠ 3) && decide (f 14 2 = 0 ∨ 4096 < f 12 2 + f 14 2))
        || (decide (op = 3) && !zeroBytes d 12 15)
        || (decide (op = 1) && decide (4096 < f 16 2 + f 14 2))
    else if typ = 7 then !zeroBytes d 14 63
    else true
  head || body

/-! ### Acceptance (R339, R340) -/

/-- Does an earlier load of the same bank or slot lack its outcome (R347)? -/
def State.busyLoad (s : State) (c : Nat) (e : JEntry) : Bool :=
  (s.entries c).any (fun a => a.out.isNone && !a.busy
    && ((decide (e.typ = 2) && decide (a.typ = 2) && decide (a.bank = e.bank))
      || (decide (e.typ = 1) && decide (a.typ = 1) && decide (a.slot = e.slot))))

/-- Accept a descriptor with a number and a stamp: the journal, SQ_HEAD and the ACCEPT record; a malformed one completes
at once (R335). -/
def State.acceptWith (s : State) (c seq stamp : Nat) (d : List Byte) : State :=
  let (cap, s) := s.capture (256 + c) 0x20 stamp (leBytes 6 seq ++ leBytes 2 0 ++ d)
  let e : JEntry := ⟨c, seq, d, stamp, cap, false, false, none, false, false⟩
  let bad := s.descMalformed d
  let e := { e with busy := !bad && s.busyLoad c e }
  let s := { (s.setCtxSeq c (seq + 1)) with host := { s.host with journal := s.host.journal ++ [e] } }
  let s := s.putRecord c none (cqRecord seq 1 0 (fieldAt d 4 4) (leBytes 4 (secOf stamp) ++ leBytes 4 (nsOf stamp)) 0 0)
  if bad then (s.send (ctxSrc c) 0x49 (seq % 2 ^ 32) true [c]).status c seq 2 else s

/-- The conditions of R339, but for those on the descriptor. -/
def State.mayAccept (s : State) (c : Nat) : Bool :=
  let n := (s.undecided c).length
  decide (s.ctxState c = 1) && decide (n < s.infl c) && decide (2 * (n + 1) ≤ s.cqFree c) && !s.hostLoss c
    && !s.host.down && !s.host.d3 && decide (s.host.journal.length < 4096)

/-- A DECODE waits while its stream holds 1,024 requests (R175). -/
def State.decodeFull (s : State) (d : List Byte) : Bool :=
  decide (fieldAt d 0 1 = 5) && decide (fieldAt d 8 1 < 16) &&
    decide (1024 ≤ (s.host.reqs.get (fieldAt d 8 1) []).length
      + (s.host.journal.filter (fun e => e.out.isNone && !e.started && decide (e.typ = 5)
          && decide (fieldAt e.desc 8 1 = fieldAt d 8 1))).length)

/-- ACCEPT: the host's answer to the read of the slot at SQ_HEAD is `d`, or the read fails. The acceptance falls in phase
p of the tick. -/
def doAccept (c : Nat) (ok : Bool) (d : List Byte) (p : Nat) (s : State) : State :=
  let h := s.fld (regDb c 8) 15 0
  if s.mode = 2 ∨ s.mayAccept c = false ∨ h = s.fld (regDb c 0) 15 0 then s
  else if !ok ∨ d.length ≠ 64 then (s.orReg (regCtx c 4) 0x200).send (ctxSrc c) 0x48 0 true [c]
  else if s.decodeFull d then s
  else (s.setFld (regDb c 8) 15 0 ((h + 1) % s.sqSize c)).acceptWith c (s.ctxSeq c) (s.stampAt p) d

/-! ### Doorbells (R333) -/

def State.dbErr (s : State) (c : Nat) : State := s.orReg (regCtx c 4) 0x100

/-- A doorbell write ends the host loss of its context (R343); in D3hot it does not (R345). -/
def State.ringBell (s : State) (c : Nat) : State :=
  if s.host.d3 then s
  else
    let s := s.setFld (regCtx c 4) 11 11 0
    { s with host := { s.host with soft := s.host.soft.filter (fun x => x ≠ c) } }

/-- SQ_TAIL. -/
def doSqTail (c : Nat) (v : BitVec 16) (s : State) : State :=
  let s := s.ringBell c
  if s.ctxState c ≠ 1 ∨ s.sqSize c ≤ v.toNat then s.dbErr c else s.setFld (regDb c 0) 15 0 v.toNat

/-- CQ_HEAD: journal entries whose outcome record it passes are freed (R340). -/
def doCqHead (c : Nat) (v : BitVec 16) (s : State) : State :=
  let s := s.ringBell c
  let n := s.cqSize c
  let h := s.hctx c
  let adv := (v.toNat + n - s.fld (regDb c 4) 15 0) % n
  if s.ctxState c ≠ 1 ∨ n ≤ v.toNat ∨ h.used.length < adv then s.dbErr c
  else
    let gone := (h.used.take adv).filterMap id
    let s := s.setFld (regDb c 4) 15 0 v.toNat
    let s := s.setHctx c { h with used := h.used.drop adv }
    { s with host := { s.host with
        journal := s.host.journal.filter (fun e => ¬ (e.ctx = c ∧ gone.contains e.seq = true)) } }

/-! ### Context commands (R329 to R331) -/

def State.cmdErr (s : State) (c : Nat) : State := s.orReg (regCtx c 4) 0x80

/-- A ring lies wholly within one enabled host window that grants the direction. -/
def State.ringIn (s : State) (c base n : Nat) (wr : Bool) : Bool :=
  (s.hostWins c wr).any (fun w => decide (w.1 ≤ base ∧ base + n ≤ w.2))

/-- Is ENABLE refused (R331)? -/
def State.enableRefused (s : State) (c : Nat) : Bool :=
  let others := (upTo 256).filter (fun x => x ≠ c ∧ s.ctxState x ≠ 0)
  !s.ringIn c (s.sqBase c) (64 * s.sqSize c) false || !s.ringIn c (s.cqBase c) (32 * s.cqSize c) true
    || decide (s.cqSize c < 2 * s.infl c + 2)
    || decide (4096 < others.foldl (fun a x => a + s.infl x) (s.infl c))
    || (upTo 64).any (fun h => s.clMask c h && (s.relief.contains h || others.any (fun x => s.clMask x h)))
    || (decide (s.mode = 2) && decide (s.fld (regDc 0) 3 3 = 1))

/-- ENABLE, where it is not refused: indices zero, the held outcome records first, with RESENT; an entry without outcome
is decided DISCARDED with cause 0x04 (R344). Entries whose record the old ring held are free. -/
def State.enableCtx (s : State) (c : Nat) : State :=
  let s := ((s.setReg (regDb c 0) 0).setReg (regDb c 4) 0)
  let s := ((s.setReg (regDb c 8) 0).setReg (regDb c 0xC) 0).setHctx c { HostCtx.reset with frames := (s.hctx c).frames }
  let j := s.host.journal.filter (fun e => ¬ (e.ctx = c ∧ e.written = true))
  let j := j.map (fun e => if e.ctx = c then { e with resent := true, out := some (e.out.getD ⟨3, 4, 0, [], 0⟩) } else e)
  let s := { s with host := { s.host with journal := j } }
  (s.setCtxState c 1).flushAll c

/-- ENABLE; during P3 it is held (R562). -/
def doEnable (c : Nat) (s : State) : State :=
  if s.ctxState c ≠ 0 then s.cmdErr c
  else if s.fld (regPw 8) 1 0 ≠ 0 then { s with pw := { s.pw with enables := s.pw.enables ++ [c] } }
  else if s.enableRefused c then (s.orReg (regCtx c 4) 0x40).send (ctxSrc c) 0x4B 0 true [c]
  else s.enableCtx c

/-- DISABLE. -/
def doDisable (c : Nat) (s : State) : State :=
  if s.ctxState c ≠ 1 then s.cmdErr c else (s.setCtxState c 2).settle c

/-- The clusters that carry a context's work: those of its running or armed RUNs, and those whose program is the
context's. -/
def State.ctxClusters (s : State) (c : Nat) : List Nat :=
  (upTo 64).filter (fun k =>
    let q := (s.cl k).seq
    (decide (q.st = .running ∨ q.st = .stopped) && decide (q.ctx = c)))

/-- Decode requests of an aborted context leave their windows; dispatched ones keep their rows (R177). -/
def State.dropRequests (s : State) (c : Nat) : State :=
  { s with host := { s.host with
      reqs := ⟨s.host.reqs.rows.map (fun p => (p.1, p.2.filter (fun x => x.ctx ≠ c)))⟩ } }

/-- The abort of a context (R343): its clusters stop; every descriptor without outcome is discarded with `cause`; `own` gives
the sequence numbers that take cause 0x01. Its Viaduct jobs abort and its clusters are reset by the caller. -/
def State.abortCore (s : State) (c : Nat) (own : List Nat) (cause : Nat) : State :=
  let s := s.setCtxState c 3
  let s := (s.ctxClusters c).foldl (fun (s : State) k =>
    (s.updSeq k (fun q => { q with st := .stopped, wait := .none, isOpen := false })).halt k) s
  let s := State.discardList c 1 own s
  let s := (s.discardAll c cause).dropRequests c
  let s := { s with runs := s.runs.filter (fun r => r.ctx ≠ c), decs := s.decs.filter (fun d => d.ctx ≠ c) }
  s.settle c

/-! ### Host loss (R343, R345) -/

/-- A host loss begins: acceptance stops for every context. -/
def State.loseHost (s : State) : State :=
  (upTo 256).foldl (fun (s : State) c => s.setFld (regCtx c 4) 11 11 1) s

/-- HOST_LOSS: kind 0 link-down, 1 hot reset, 2 function-level reset; HOST-LINK is a level kind, gone at once where the
link stays up. -/
def doHostLoss (kind : Nat) (s : State) : State :=
  let s := s.loseHost
  let s := { s with host := { s.host with soft := [] } }
  let s := s.sendEv 0x406 0x4A 0
  if kind = 2 then s.send 0x406 0x4A 0 false [] else { s with host := { s.host with down := true } }

/-- PCIE_LINK_UP. -/
def doPcieLinkUp (s : State) : State :=
  if s.host.down then
    let s := { s with host := { s.host with down := false } }
    (s.send 0x406 0x4A 0 false []).sendDue
  else s

/-- D3HOT_ENTRY. -/
def doD3hotEntry (s : State) : State :=
  if s.host.d3 then s
  else
    let soft := s.host.soft ++ (upTo 256).filter (fun c => !s.hostLoss c)
    let s := (s.loseHost).sendEv 0x406 0x4A 0
    { s with host := { s.host with d3 := true, soft := soft } }

/-- D0_RETURN: held records are written in sequence order, and interrupts that fell due are sent. -/
def doD0Return (s : State) : State :=
  if s.host.d3 then
    let s := { s with host := { s.host with d3 := false } }
    let s := s.send 0x406 0x4A 0 false []
    ((upTo 256).foldl (fun (s : State) c => s.flushAll c) s).sendDue
  else s

/-! ### Slots, banks and images (R337, R338) -/

/-- SLOT_s and BANK_b (0 EMPTY, 1 VALID, 2 UPDATING, 3 INVALID). -/
def State.slotState (s : State) (c i : Nat) : Nat := s.fld (regCtx c 0x84) (2 * i + 1) (2 * i)
def State.bankState (s : State) (c i : Nat) : Nat := s.fld (regCtx c 0x80) (2 * i + 1) (2 * i)

/-- Set the state of slot i, or of bank i - 16. -/
def State.setImage (s : State) (c i v : Nat) : State :=
  if i < 16 then s.setFld (regCtx c 0x84) (2 * i + 1) (2 * i) v
  else s.setFld (regCtx c 0x80) (2 * (i - 16) + 1) (2 * (i - 16)) v

def ImageRec.none : ImageRec := ⟨0, 0, []⟩
def State.image (s : State) (c i : Nat) : ImageRec := s.host.images.get (32 * c + i) ImageRec.none

/-- The slot or bank (16 + b) that a load names. -/
def JEntry.imageNo (e : JEntry) : Nat := if e.typ = 1 then fieldAt e.desc 8 1 else 16 + fieldAt e.desc 8 1

/-- The header of a program image, with a reader of its bytes (Table 11.8). -/
structure ImgHdr where
  nplc : Nat
  nlc : Nat
  plc : List (Nat × List Nat)
  secs : List (Nat × Nat × Nat)
  args : List Nat
  detwin : List Nat
  deriving DecidableEq, Repr

def imgHdr (get : Nat → Nat → Nat) : ImgHdr :=
  let nplc := get 6 1
  let nlc := get 7 1
  { nplc := nplc, nlc := nlc,
    plc := (upTo nplc).map (fun k => let o := get 12 4 + 64 * k
      (get o 1, (upTo nlc).map (fun i => get (o + 1 + i) 1))),
    secs := (upTo nlc).map (fun i => let o := get 16 4 + 8 * i
      (get o 4, get (o + 4) 2 + 1, get (o + 6) 2)),
    args := (upTo 4).map (fun i => get (20 + 4 * i) 4),
    detwin := (upTo 12).map (fun i => get (36 + 4 * i) 4) }

/-- Is a header valid for an image of `len` bytes (R338)? -/
def imgValid (get : Nat → Nat → Nat) (len : Nat) : Bool :=
  let h := imgHdr get
  decide (128 ≤ len) && decide (get 0 4 = 0x49505947) && decide (get 4 2 = 1) && decide (get 8 4 = len)
    && decide (1 ≤ h.nplc ∧ h.nplc ≤ 5) && decide (1 ≤ h.nlc ∧ h.nlc ≤ 60)
    && decide (get 12 4 + 64 * h.nplc ≤ len) && decide (get 16 4 + 8 * h.nlc ≤ len)
    && h.plc.all (fun p => decide (p.2.eraseDups.length = p.2.length) && p.2.all (fun c => decide (c < 64)))
    && h.secs.all (fun x => decide (x.2.1 ≤ 4096) && decide (x.1 + 32 * x.2.1 ≤ len))

/-- The header of the image in a slot, as it stands in HBM. -/
def State.slotHdr (s : State) (c i : Nat) : ImgHdr :=
  let o := (s.image c i).off
  imgHdr (fun a n => leNat (s.bytes (memKey 0 (o + a)) n))

/-! ### Loads and copies (R336, R338, R347) -/

/-- Windows of the source and destination of a COPY or a load. -/
def State.hostMoveOk (s : State) (e : JEntry) : Bool :=
  e.ranges.all (fun x => s.inWindows e.ctx x.1.space x.1.off x.1.n x.2)

/-- Does an armed standing RUN name a bank (R338, INUSE)? -/
def State.bankArmed (s : State) (c b : Nat) : Bool :=
  s.runs.any (fun r => decide (r.ctx = c) && decide (r.bank = b) && r.standing)

/-- Start a load: BUSY, INUSE, WINDOW, or UPDATING with the copy running. -/
def State.startLoad (s : State) (c seq typ : Nat) : State :=
  match s.entry c seq with
  | none => s
  | some e =>
    if e.typ ≠ typ ∨ e.out.isSome = true ∨ e.started then s
    else if e.busy then s.status c seq 1
    else if typ = 2 ∧ s.bankArmed c (fieldAt e.desc 8 1) = true then s.status c seq 7
    else if !s.mayStart e then s
    else if !s.hostMoveOk e then s.status c seq 3
    else (s.updEntry c seq (fun x => { x with started := true })).setImage c e.imageNo 2

/-- LOADP and LOADW. -/
def doLoadp (c seq : Nat) (s : State) : State := s.startLoad c seq 1
def doLoadw (c seq : Nat) (s : State) : State := s.startLoad c seq 2

/-- COPY: the window check, and the copy starts. -/
def doCopy (c seq : Nat) (s : State) : State :=
  match s.entry c seq with
  | none => s
  | some e =>
    if e.typ ≠ 4 ∨ s.mayStart e = false then s
    else if !s.hostMoveOk e then s.status c seq 3
    else s.updEntry c seq (fun x => { x with started := true })

/-- DESCRIPTOR_NOP. -/
def doDescriptorNop (c seq : Nat) (s : State) : State :=
  match s.entry c seq with
  | none => s
  | some e => if e.typ ≠ 0 ∨ s.mayStart e = false then s else s.status c seq 0

/-- Host bytes that a bounded read took enter the recorder (Table 9.5). -/
def State.hostData (s : State) (c seq addr : Nat) (bs : List Byte) : State :=
  (s.capture (256 + c) 0x21 s.now (leBytes 6 seq ++ leBytes 2 0 ++ leBytes 8 addr ++ leBytes 4 bs.length ++ leBytes 4 0 ++ bs)).2

/-- Take the bytes of reads (address, length) of a descriptor from the HOST-DATA records that replay has released (R287):
the bytes in order and what is left; none while one is missing. -/
def takeHost (ctx seq : Nat) : List (Nat × Nat) → List HostBytes → Option (List Byte × List HostBytes)
  | [], l => some ([], l)
  | (a, n) :: r, l =>
    let hit := fun (b : HostBytes) => decide (b.ctx = ctx ∧ b.seq = seq ∧ b.addr = a ∧ b.bytes.length = n)
    match l.find? hit with
    | none => none
    | some b => match takeHost ctx seq r (l.eraseP hit) with
      | none => none
      | some (bs, l) => some (b.bytes ++ bs, l)

/-- In replay the bytes of host memory come from the records: whether they are there, the bytes, and the state; outside
replay the host's answer stands. -/
def State.hostAnswer (s : State) (ctx seq : Nat) (need : List (Nat × Nat)) (host : List Byte) : Option (List Byte × State) :=
  if s.mode = 2 ∧ need ≠ [] then (takeHost ctx seq need s.hostBytes).map (fun x => (x.1, { s with hostBytes := x.2 }))
  else some (host, s)

/-- The source bytes of a transfer: host memory, whose bytes are recorded, or a memory of the module; poisoned where the read
fails. -/
def State.transferRead (s : State) (c seq src n : Nat) (host fail : Bool) (data : List Byte) : List (Byte × Bool) × State :=
  if fail then (List.replicate n (0, true), s)
  else if host then (data.map (fun b => (b, false)), s.hostData c seq (gaOff src) data)
  else s.readFor c (gaSpace src) (gaOff src) n

/-- HOST_TRANSFER_COMPLETE: the copy of a COPY or a load ends; `ok` and `data` are the host's answer where the source is
host memory. A request that could not be sent waits (R343, R345). -/
def doHostTransferComplete (c seq : Nat) (ok : Bool) (data : List Byte) (s : State) : State :=
  match s.entry c seq with
  | none => s
  | some e =>
    let src := fieldAt e.desc 16 8
    let dst := fieldAt e.desc 24 8
    let n := fieldAt e.desc 32 4
    let host := gaSpace src = 4
    let rep := s.mode = 2 ∧ host
    if e.out.isSome ∨ e.started = false ∨ ¬ (e.typ = 1 ∨ e.typ = 2 ∨ e.typ = 4) then s
    else if ((host ∧ ¬ rep) ∨ gaSpace dst = 4) ∧ ok = true ∧ s.irqUp = false then s
    else
    match s.hostAnswer c seq (if host then [(gaOff src, n)] else []) data with
    | none => s
    | some (data, s) =>
      let ok := if rep then true else ok
      let refusedRd := decide (gaSpace src = 0) && s.calRefuses (gaOff src) n false
      let s := if refusedRd then ({ s with actor := [c] }).calRefused (gaOff src) else s
      let s := { s with actor := [] }
      let refusedWr := decide (gaSpace dst = 0) && s.calRefuses (gaOff dst) n true
      let s := if refusedWr then ({ s with actor := [c] }).calRefused (gaOff dst) else s
      let s := { s with actor := [] }
      let fail := (host && !ok) || refusedRd || (host && decide (data.length ≠ n))
      let (bs, s) := s.transferRead c seq src n host fail data
      let s := if refusedWr then s else s.writeFor c (gaSpace dst) (gaOff dst) bs
      let poi := if bs.any (fun b => b.2) then 1 else 0
      if e.typ = 4 then s.done1 c seq (if fail ∨ refusedWr then 8 else 0) poi [] 0
      else if fail ∨ refusedWr then (s.setImage c e.imageNo 3).status c seq 8
      else
        let get := fun (o k : Nat) => fieldAt data o k
        if e.typ = 1 ∧ imgValid get n = false then (s.setImage c e.imageNo 3).status c seq 4
        else
          let img : ImageRec := ⟨gaOff dst, n, sha256 data⟩
          let s := { s with host := { s.host with images := s.host.images.set (32 * c + e.imageNo) img } }
          (s.setImage c e.imageNo 1).status c seq 0

/-! ### The program loader (R216, R280, R338) -/

/-- Is a compute die offline: fenced as a die (source 0x200 + 16 x die)? -/
def State.dieOff (s : State) (d : Nat) : Bool := s.fences.contains (0x200 + 16 * d)

/-- The placement that the loader selects (R338): none where no placement matches. -/
def State.pickPlacement (s : State) (h : ImgHdr) : Option (List Nat) :=
  let off := (upTo 4).filter (fun d => s.dieOff d)
  match off with
  | [] => (h.plc.find? (fun p => p.1 = 0xFF)).map (fun p => p.2)
  | [d] => (h.plc.find? (fun p => p.1 = d)).map (fun p => p.2)
  | _ => none

/-- The logical clusters that an ENTRY names. -/
def entrySecs (h : ImgHdr) (entry : Nat) : List Nat := if entry = 0xFF then upTo h.nlc else [entry]

/-- Can the loader start a program on a cluster now? -/
def State.canLoad (s : State) (k : Nat) : Bool :=
  !s.dieOff (dieOf k) && !s.rst.busy.contains k && decide ((s.cl k).seq.st ≠ .running) && decide ((s.cl k).seq.st ≠ .stopped) && !s.fences.contains k
    && !s.pw.gated.contains (regionOf k)

/-- Write section lc of the image in a slot to the program store of cluster k, and CL_DETWIN for the die's point. -/
def State.loadSection (s : State) (ctx slot lc k : Nat) : State :=
  let h := s.slotHdr ctx slot
  let x := h.secs.getD lc (0, 0, 0)
  let (bs, s) := s.readFor ctx 0 ((s.image ctx slot).off + x.1) (32 * x.2.1)
  let s := s.setBytes (psKey k 0) (bs.map (fun b => b.1))
  let g0 := psKey k 0 / 8
  let s := { s with marks := (upTo (4 * x.2.1)).foldl (fun t g =>
    setMark t (g0 + g) (if ((bs.drop (8 * g)).take 8).any (fun b => b.2) then .freshUE else .clean)) s.marks }
  let pt := s.fld (regMg (0x480 + 4 * dieOf k)) 5 4
  let s := (upTo 4).foldl (fun (s : State) n =>
    s.setReg (regCl k (0x240 + 4 * n)) (BitVec.ofNat 32 (h.detwin.getD (4 * pt + n) 0))) s
  s.orReg (regCl k 0xC) 0x100

/-- Start sections (logical cluster, physical cluster) of a slot from c-cycle t: each is loaded and its start record is
sent with the present generation. -/
def State.startSections (s : State) (ctx slot : Nat) (args : List Nat) (secs : List (Nat × Nat)) (t : Nat) (flags : BitVec 64)
    (rerun : Bool) : State :=
  secs.foldl (fun (s : State) x =>
    let s := s.loadSection ctx slot x.1 x.2
    let h := s.slotHdr ctx slot
    s.startProgram x.2 ⟨0, (args ++ h.args).map (fun a => BitVec.ofNat 32 a), ctx, s.fld (regCl x.2 0xC) 7 0, flags, rerun, t⟩) s

/-- The sections of a RUN on a placement of home clusters, translated through the host map (R36): none where a home has no
host. -/
def State.placeSecs (s : State) (lcs homes : List Nat) : Option (List (Nat × Nat)) :=
  let ks := lcs.map (fun l => ((homes[l]?).bind (fun h => s.hostOf h)).map (fun k => (l, k)))
  if ks.all (fun k => k.isSome) then some (ks.filterMap id) else none

/-- Keystone outputs of a context and slot. -/
def regKso (o off : Nat) : Nat := regKs (0x100 + 0x40 * o + off)
def State.outsOf (s : State) (ctx slot : Nat) : List Nat :=
  (upTo 32).filter (fun o => s.fld (regKso o 0) 31 31 = 1 ∧ s.fld (regKso o 0) 23 16 = ctx ∧ s.fld (regKso o 0) 27 24 = slot)

/-- The logical clusters of a copy of output o. -/
def State.copyLcs (s : State) (o : Nat) (b : Bool) : List Nat :=
  let r := fun hi lo => s.fld (regKso o 4) hi lo
  if b then (upTo (r 5 0 + 1)).map (fun i => r 13 8 + i) else (upTo (r 21 16 + 1)).map (fun i => r 29 24 + i)

/-- The placement is reported to Keystone: PLERR where a die holds clusters of both copies (R484). -/
def State.reportPlacement (s : State) (ctx slot : Nat) (homes : List Nat) : State :=
  (s.outsOf ctx slot).foldl (fun (s : State) o =>
    let dies := fun (b : Bool) => (s.copyLcs o b).map (fun l => ((homes[l]?).bind (fun h => s.hostOf h)).map dieOf)
    let bad := s.fld (regKso o 0) 30 30 = 1 ∧ (dies false).any (fun d => d.isSome && (dies true).contains d) = true
    s.setFld (regKso o 0x2C) 29 29 (if bad then 1 else 0)) s

/-- The decisions about outputs that a starting step of a RUN leaves to Keystone (R485). -/
def State.newDecisions (s : State) (r : RunRec) (horizon ref : Nat) (secs : List (Nat × Nat)) (outs : List Nat) :
    List Decision :=
  outs.map (fun o =>
    let lcs := s.copyLcs o false ++ (if s.fld (regKso o 0) 30 30 = 1 then s.copyLcs o true else [])
    ⟨o, r.ctx, r.slot, r.seq, r.nextNo, horizon, ref, s.ticks, none, (secs.filter (fun x => lcs.contains x.1)).map (fun x => x.2),
      [], false, decide (s.fld (regKso o 0x2C) 29 29 = 1), 0⟩)

/-- Start a step of a RUN in c-cycle t (R422): number, horizon N, E; the decisions that Keystone in RUN has to make. False
where a cluster cannot take it now. -/
def State.startStep (s : State) (r : RunRec) (horizon ref t : Nat) : Bool × State :=
  let h := s.slotHdr r.ctx r.slot
  let homes := (s.pickPlacement h).getD r.homes
  match s.placeSecs (entrySecs h r.entry) homes with
  | none => (false, s)
  | some secs =>
    if !secs.all (fun x => s.canLoad x.2) then (false, s)
    else
      let st : RunStep := ⟨true, r.nextNo, horizon, ref, s.ticks, secs, [], [], false, false, 0, [], 0⟩
      let s := s.reportPlacement r.ctx r.slot homes
      let r' := { r with homes := homes, step := st, nextNo := r.nextNo + 1, held := none, begun := r.begun ++ [(r.nextNo, s.ticks)] }
      let s := { s with runs := s.runs.map (fun (x : RunRec) => if x.ctx = r.ctx ∧ x.seq = r.seq then r' else x) }
      let outs := if s.fld (regKs 4) 1 0 = 1 ∧ r.standing then s.outsOf r.ctx r.slot else []
      let s := outs.foldl (fun (s : State) o => s.setFld (regKso o 0x2C) 31 30 1)
        { s with decs := s.decs ++ s.newDecisions r horizon ref secs outs }
      (true, s.startSections r.ctx r.slot r.args secs t 0 false)

def RunStep.idle : RunStep := ⟨false, 0, 0, 0, 0, [], [], [], false, false, 0, [], 0⟩

/-- RUN (R338, R349): checked, then armed or started from c-cycle t. -/
def doRun (c seq t : Nat) (s : State) : State :=
  match s.entry c seq with
  | none => s
  | some e =>
    let f := fun o n => fieldAt e.desc o n
    if e.typ ≠ 3 ∨ s.mayStart e = false then s
    else
      let h := s.slotHdr c (f 8 1)
      let inWin := fun (a n : Nat) => decide (n = 0) || s.inWindows c (gaSpace a) (gaOff a) n false
      if s.slotState c (f 8 1) ≠ 1 ∨ s.bankState c (f 9 1) ≠ 1 then s.status c seq 4
      else if !(inWin (f 32 8) (f 40 4) && inWin (f 48 8) (f 56 4)) then s.status c seq 3
      else
        match s.pickPlacement h with
        | none => s.status c seq 5
        | some homes =>
          let lcs := entrySecs h (f 10 1)
          if homes.any (fun k => !s.clMask c k) || (s.placeSecs lcs homes).isNone then s.status c seq 5
          else if f 10 1 ≠ 0xFF ∧ h.nlc ≤ f 10 1 then s.status c seq 2
          else
            let r : RunRec :=
              { ctx := c, seq := seq, slot := f 8 1, bank := f 9 1, standing := bitOf (f 1 1) 2, homes := homes, entry := f 10 1,
                args := (upTo 4).map (fun i => f (16 + 4 * i) 4), res := (f 32 8, f 40 4), sc := (f 48 8, f 56 4),
                step := RunStep.idle, nextNo := 0, held := none, redo := [], begun := [] }
            let started := fun (s : State) => s.updEntry c seq (fun x => { x with started := true })
            let s' := { s with runs := s.runs ++ [r] }
            if r.standing then (started s').reportPlacement c r.slot homes
            else
              let (ok, s'') := s'.startStep r ((s.capSeq e.cap).getD 0) e.stamp t
              if ok then started s'' else s

/-- The RUN that uses a cluster in its present step. -/
def State.runUsing (s : State) (k : Nat) : Option RunRec :=
  s.runs.find? (fun r => r.step.active && r.step.secs.any (fun x => decide (x.2 = k) && !r.step.ended.contains x.1))

/-- Change a RUN. -/
def State.updRun (s : State) (c seq : Nat) (f : RunRec → RunRec) : State :=
  { s with runs := s.runs.map (fun r => if r.ctx = c ∧ r.seq = seq then f r else r) }

/-! ### The end of a run or step (R227, R342, R349, R487) -/

/-- Bytes of a region that a descriptor names, with their poison. -/
def State.regionBytes (s : State) (c a n : Nat) : List (Byte × Bool) × State :=
  if n = 0 then ([], s)
  else if gaSpace a = 4 then ((s.bytes (memKey 4 (gaOff a)) n).map (fun b => (b, false)), s)
  else s.readFor c (gaSpace a) (gaOff a) n

/-- FLAGS of a finished run (R342). -/
def State.runFlags (s : State) (r : RunRec) (ks : List Nat) : Nat × State :=
  let any := fun (p : Nat → Bool) => ks.any p
  let sat := any (fun k => bitOf (s.reg (regCl k 0x100)).toNat 12)
  let unf := any (fun k => bitOf (s.reg (regCl k 0x100)).toNat 13)
  let ovr := any (fun k => decide (s.fld (regCl k 0x250) 15 0 ≠ 0))
  let gap := s.gapAt r.step.horizon
  let (bs, s) := s.regionBytes r.ctx r.sc.1 r.sc.2
  let poi := bs.any (fun b => b.2 || decide (b.1 = 0xFF))
  ((if poi then 1 else 0) + (if sat then 2 else 0) + (if unf then 4 else 0) + (if gap then 8 else 0) + (if ovr then 16 else 0), s)

/-- A FRAME record of a step (R341, R349): dropped where the ring has too little room. -/
def State.frameRecord (s : State) (e : StepEnd) (code : Nat) : State :=
  if s.cqFree e.ctx < 2 * (s.undecided e.ctx).length + 1 then s.bump (regCtx e.ctx 4) 31 16 1
  else
    let h := s.hctx e.ctx
    (s.setHctx e.ctx { h with frames := h.frames ++ [⟨e.seq, code, e.no, e.flags, e.rd⟩] }).writeRecord e.ctx

/-- Is the epoch of step `no` of a standing RUN not committed: a job slot in RUN is bound to its context and slot, and its
OLDEST is not past the epoch (R444, R450)? -/
def State.epochOpen (s : State) (ctx slot no : Nat) : Bool :=
  (upTo 16).any (fun j =>
    let r := regVd (0x1000 + 0x80 * j)
    decide (s.fld (r + 0x14) 1 0 = 1 ∧ s.fld r 31 24 = ctx ∧ s.fld (r + 4) 19 16 = slot)
      && decide (((s.reg (r + 8)).toNat + no + 2 ^ 32 - (s.reg (r + 0x18)).toNat) % 2 ^ 32 < 2 ^ 31))

/-- An ended step whose digest is ready: a host RUN takes its outcome; a standing step takes its FRAME record once
Keystone has decided every release output of the step (R487); while Keystone is in SAFE no FRAME record is written for a
step with such outputs. -/
def State.finishEnd (s : State) (e : StepEnd) : State :=
  let gone := fun (s : State) =>
    { s with host := { s.host with ends := s.host.ends.filter (fun (x : StepEnd) => ¬ (x.ctx = e.ctx ∧ x.seq = e.seq ∧ x.no = e.no)) } }
  if e.hashing then s
  else if s.epochOpen e.ctx e.slot e.no then s
  else if !e.standing then
    let s := gone s
    { s with runs := s.runs.filter (fun r => ¬ (r.ctx = e.ctx ∧ r.seq = e.seq)) }.done1 e.ctx e.seq 0 e.flags e.rd 0
  else
    let mine := s.decs.filter (fun d => d.ctx = e.ctx ∧ d.run = e.seq ∧ d.no = e.no)
    let rel := mine.filter (fun d => s.fld (regKso d.out 0) 28 28 = 0)
    if mine.any (fun d => decide (d.result = 0)) then s
    else
      let s := gone s
      let s := { s with decs := s.decs.filter (fun d => ¬ (d.ctx = e.ctx ∧ d.run = e.seq ∧ d.no = e.no)) }
      let none_ : Bool := decide (s.fld (regKs 4) 1 0 ≠ 1) || decide (rel = []) || rel.any (fun (d : Decision) => decide (d.result = 4))
      if (s.outsOf e.ctx e.slot).any (fun (o : Nat) => decide (s.fld (regKso o 0) 28 28 = 0)) && none_ then s
      else s.frameRecord e (if rel.any (fun (d : Decision) => decide (d.result = 3)) then 2 else if e.again then 1 else 0)

/-- Finish what waits of a RUN. -/
def State.finishEnds (s : State) (c seq : Nat) : State :=
  (s.host.ends.filter (fun e => e.ctx = c ∧ e.seq = seq)).foldl (fun (s : State) e => s.finishEnd e) s

/-- Every section of the step in progress has ended: FLAGS, the digest where the context asks for one, and the step's end
for Keystone. The outputs of a step whose epoch was retracted while it ran are discarded, and its re-run waits (R448). -/
def State.stepEnded (s : State) (r : RunRec) : State :=
  if r.step.retracted then
    s.updRun r.ctx r.seq (fun x =>
      { x with step := { x.step with active := false, endAt := s.ticks }, redo := x.redo ++ [(r.step.no, r.step.horizon, r.step.ref)] })
  else
  let ks := r.step.secs.map (fun x => x.2)
  let (fl, s) := s.runFlags r ks
  let dg := s.fld (regCtx r.ctx 0x444) 0 0 = 1 ∧ 0 < r.res.2 + r.sc.2
  let e : StepEnd :=
    { ctx := r.ctx, seq := r.seq, standing := r.standing, no := r.step.no, horizon := r.step.horizon, flags := fl,
      hashing := decide dg, rd := [], res := r.res, sc := r.sc, slot := r.slot, bank := r.bank,
      again := decide (r.step.again ≠ []) || r.step.rerun }
  let s := s.updRun r.ctx r.seq (fun x => { x with step := { x.step with active := false, endAt := s.ticks } })
  let mark := fun (d : Decision) =>
    if d.ctx = r.ctx ∧ d.run = r.seq ∧ d.no = r.step.no then { d with ended := some s.ticks } else d
  let s := { s with decs := s.decs.map mark, host := { s.host with ends := s.host.ends ++ [e] } }
  s.finishEnd e

/-- A cluster's program has ended: its section of a RUN is done. -/
def State.programEnded (s : State) (k : Nat) : State :=
  match s.runUsing k with
  | none => s
  | some r =>
    let lcs := (r.step.secs.filter (fun x => x.2 = k)).map (fun x => x.1)
    let r' := { r with step := { r.step with ended := r.step.ended ++ lcs } }
    let s := s.updRun r.ctx r.seq (fun _ => r')
    if r'.step.secs.all (fun x => r'.step.ended.contains x.1) then s.stepEnded r' else s

/-- RD_READY: the digest of an ended run or step is ready (R293, R342). -/
def doRdReady (c seq no : Nat) (s : State) : State :=
  match s.host.ends.find? (fun e => decide (e.ctx = c) && decide (e.seq = seq) && decide (e.no = no) && e.hashing) with
  | none => s
  | some e =>
    let (a, s) := s.regionBytes c e.res.1 e.res.2
    let (b, s) := s.regionBytes c e.sc.1 e.sc.2
    let rd := s.rdOf c (s.image c e.slot).digest (s.image c (16 + e.bank)).digest e.horizon ((a ++ b).map (fun x => x.1))
    let e' := { e with hashing := false, rd := rd, flags := e.flags + 64 }
    let s := { s with host := { s.host with
      ends := s.host.ends.map (fun (x : StepEnd) => if x.ctx = c ∧ x.seq = seq ∧ x.no = no then e' else x) } }
    s.finishEnd e'

/-- END_COMPLETION (R227): every unit is idle and no tag is pending; the program ends and the hub is told. -/
def doEndCompletion (k : Nat) (s : State) : State :=
  if (s.cl k).seq.st = .running ∧ (s.cl k).seq.wait = .ending then
    let s := s.flush k
    let q := (s.cl k).seq
    if q.st = .running ∧ q.tags = 0 ∧ (s.cl k).jobs.rows = [] then
      (s.updSeq k (fun q => { q with st := .ended, wait := .none, isOpen := false })).programEnded k
    else s
  else s

/-! ### KVOP, DISARM, DECODE (R167, R172 to R177, R349) -/

/-- A KVOP: the manager's request is made and decides the outcome (0x06 KVREFUSED with LASTERR). -/
def State.kvop (s : State) (c seq op : Nat) (go : List Byte → State → Bool × State) : State :=
  match s.entry c seq with
  | none => s
  | some e =>
    if e.typ ≠ 6 ∨ fieldAt e.desc 8 1 ≠ op ∨ s.mayStart e = false then s
    else
      let (ok, s) := go e.desc s
      if ok then s.status c seq 0 else s.done1 c seq 6 0 [] (s.fld (regCtx c 0x40C) 31 28)

def doKvopShare (c seq : Nat) (s : State) : State :=
  s.kvop c seq 1 (fun d s => s.kvShare (fieldAt d 10 1) (fieldAt d 11 1) (fieldAt d 12 2) c (fieldAt d 9 1) (fieldAt d 16 2)
    (fieldAt d 14 2) (seq % 2 ^ 32))
def doKvopRelease (c seq : Nat) (s : State) : State :=
  s.kvop c seq 2 (fun d s => s.kvRelease c (fieldAt d 9 1) (fieldAt d 12 2) (fieldAt d 14 2) (seq % 2 ^ 32))
def doKvopTruncate (c seq : Nat) (s : State) : State :=
  s.kvop c seq 3 (fun d s => s.kvTruncate c (fieldAt d 9 1) (fieldAt d 20 4) (seq % 2 ^ 32))

/-- DISARM: the standing RUN that it names takes its outcome; a step in progress ends without a FRAME record. -/
def doDisarm (c seq : Nat) (s : State) : State :=
  match s.entry c seq with
  | none => s
  | some e =>
    let q := fieldAt e.desc 8 6
    if e.typ ≠ 7 ∨ s.mayStart e = false then s
    else if s.runs.any (fun r => decide (r.ctx = c) && decide (r.seq = q) && r.standing) then
      let s := { s with runs := s.runs.filter (fun r => ¬ (r.ctx = c ∧ r.seq = q)),
                        decs := s.decs.filter (fun d => ¬ (d.ctx = c ∧ d.run = q)) }
      (s.status c q 0).status c seq 0
    else s.status c seq 2

/-- QDEPTH of a stream. -/
def State.qdepth (s : State) (b : Nat) : Nat := (s.host.reqs.get b []).length

/-- DECODE: without `row` the request enters its stream's window; with `row` the output row of a dispatched request comes
back, is written at OUTADDR, and the request is done (log entry 19). -/
def doDecode (c seq : Nat) (row : Option (List (Byte × Bool))) (s : State) : State :=
  match s.entry c seq with
  | none => s
  | some e =>
    let b := fieldAt e.desc 8 1
    let nch := s.fld (regBat b 8) 31 24
    let i := fieldAt e.desc 16 8
    let o := fieldAt e.desc 24 8
    match row with
    | none =>
      if e.typ ≠ 5 ∨ s.mayStart e = false then s
      else if !s.inWindows c 0 (gaOff i) (32 * nch) false || !s.inWindows c (gaSpace o) (gaOff o) 1 true then s.status c seq 3
      else
        let l := s.host.reqs.get b []
        let s := s.updEntry c seq (fun x => { x with started := true })
        let open_ := if l = [] then s.host.winOpen.set b s.ticks else s.host.winOpen
        { s with host := { s.host with winOpen := open_, reqs := s.host.reqs.set b (l ++ [⟨c, seq, i, o, e.stamp, false⟩]) } }
    | some bs =>
      if e.typ = 5 ∧ e.out.isNone = true ∧ (s.host.inBlock.get b []).any (fun r => decide (r.ctx = c) && decide (r.seq = seq)) then
        let s := { s with host := { s.host with
          inBlock := s.host.inBlock.set b ((s.host.inBlock.get b []).filter (fun r => ¬ (r.ctx = c ∧ r.seq = seq))) } }
        if s.inWindows c (gaSpace o) (gaOff o) bs.length true then (s.writeFor c (gaSpace o) (gaOff o) bs).status c seq 0
        else s.status c seq 3
      else s

/-- T0 of a stream as a time, and WIN in microseconds. -/
def State.batT0 (s : State) (b : Nat) : Nat := (s.reg (regBat b 0x14)).toNat * oneS + (s.reg (regBat b 0x18)).toNat * oneNs
def State.batWin (s : State) (b : Nat) : Nat := s.fld (regBat b 0) 15 0

/-- Insert a request by context, then sequence number. -/
def insertReq (r : DecReq) : List DecReq → List DecReq
  | [] => [r]
  | x :: l => if r.ctx < x.ctx ∨ (r.ctx = x.ctx ∧ r.seq ≤ x.seq) then r :: x :: l else x :: insertReq r l

/-- The requests that a closing window takes, and those that stay (R173 to R175): carried-over ones first, in their order,
then the window's own by context and sequence number. `own` says which belong to the window. -/
def windowOrder (l : List DecReq) (own : DecReq → Bool) : List DecReq × List DecReq :=
  let c := l.filter (fun r => r.carried)
  let w := l.filter (fun r => !r.carried && own r)
  let w := w.foldr insertReq []
  let rest := l.filter (fun r => !r.carried && !own r)
  let all := c ++ w
  (all.take 64, (all.drop 64).map (fun r => { r with carried := true }) ++ rest)

/-- The scale bytes of a chunk in the batcher's block area: two, as for g = 32 (log entry 19). -/
def batScale : Nat := 2

/-- A block is written to the hub buffer (R176): pointer lists, request map, rows and their scales. -/
def State.writeBlock (s : State) (b : Nat) (blk : List DecReq) : State :=
  let nch := s.fld (regBat b 8) 31 24
  let at_ := s.fld (regBat b 4) 24 0
  let rb := s.fld (regBat b 0xC) 16 0
  let rs := s.fld (regBat b 0x10) 16 0
  let ss := s.fld (regBat b 0x10) 31 17
  let lists := (upTo nch).flatMap (fun q => (upTo 64).flatMap (fun m =>
    leBytes 4 (if m < blk.length then (ss + m * nch + q) * 2 ^ 17 + (rb + m * rs + q) else 0xFFFFFFFF)))
  let map := (upTo 64).flatMap (fun m => match blk[m]? with
    | some r => leBytes 8 (r.ctx + 256 + r.seq * 65536)
    | none => leBytes 8 0)
  let s := (s.hubPut 2 at_ lists).hubPut 2 (at_ + 256 * nch) map
  let r0 := at_ + 256 * nch + 512
  (upTo blk.length).foldl (fun (s : State) m =>
    let r := blk.getD m ⟨0, 0, 0, 0, 0, false⟩
    let (el, s) := s.readFor r.ctx 0 (gaOff r.inAddr) (32 * nch)
    let (sc, s) := s.readFor r.ctx 0 (gaOff r.inAddr + 32 * nch) (batScale * nch)
    (s.hubWrite 2 (r0 + m * 32 * nch) el).hubWrite 2 (r0 + 64 * 32 * nch + m * batScale * nch) sc) s

/-- DECODE_WINDOW_CLOSE: the window of a stream closes and its block is written; a window without request dispatches
nothing. -/
def doDecodeWindowClose (b : Nat) (s : State) : State :=
  let l := s.host.reqs.get b []
  let win := s.batWin b
  let strict := s.fld (regDt 0) 0 0 = 1
  let us := 1000 * oneNs
  let t := s.now
  if s.fld (regBat b 0) 31 31 = 0 ∨ win = 0 ∨ l = [] then s
  else
    let k := (t - s.batT0 b) / (win * us)
    let due := if strict then decide (s.batT0 b ≤ t ∧ 0 < k ∧ l.any (fun r => r.carried || decide (r.stamp < s.batT0 b + k * win * us)))
      else decide (64 ≤ l.length ∨ s.host.winOpen.get b 0 + 500 * win ≤ s.ticks)
    if !due then s
    else
      let own := fun (r : DecReq) => !decide strict || decide (r.stamp < s.batT0 b + k * win * us)
      let (blk, rest) := windowOrder l own
      let s := s.writeBlock b blk
      { s with
        blockNo := s.blockNo.set b (s.blockNo.get b 0 + 1),
        host := { s.host with
          reqs := s.host.reqs.set b rest, inBlock := s.host.inBlock.set b (s.host.inBlock.get b [] ++ blk),
          winOpen := s.host.winOpen.set b s.ticks } }

/-! ### Requests to the KV page manager (R167) -/

/-- KV_SHARE, KV_RELEASE, KV_TRUNCATE: a request of the manager; `addr` as Table 16.4. -/
def doKvShare (src shg stb dst dhg dtb n addr : Nat) (s : State) : State := (s.kvShare src shg stb dst dhg dtb n addr).2
def doKvRelease (ctx hg tb n addr : Nat) (s : State) : State := (s.kvRelease ctx hg tb n addr).2
def doKvTruncate (ctx hg p addr : Nat) (s : State) : State := (s.kvTruncate ctx hg p addr).2

end Sys2Proof.Machine
end

