-- ==== Sys2Proof/Machine/CopyOps.lean ====
section
/-! DEFINITION. Copies: CP.RUN, landings, commits, outbound completion, multicast pulls, deadlines (R240, R257 to R270,
R279 to R283), service access (R271), CL_MEMCLR (R251) and window enables (R256). -/

namespace Sys2Proof.Machine

/-! ### Issue (R240) -/

/-- CP_RUN. -/
def doCpRun (c slot : Nat) (inbound : Bool) (op : Nat) (s : State) : State :=
  let w := ((s.cl c).seq.arg (bitsOf op 5 0)).getD 0
  let port := if inbound then portCopyIn else portCopyOut
  s.engine c slot [port] (bitsOf op 27 24 ≠ 0 ∨ bitsOf op 19 6 ≠ 0 ∨ bitsOf w 16 0 % 2 = 1) (fun s =>
    let k := s.cl c
    let I := k.seq.cyc
    let tag := bitsOf op 23 20
    if bitOf k.seq.tags.toNat tag ∨ 4 ≤ (k.cp.jobs.filter (fun j => j.inbound = inbound)).length then
      s.stop c kCopyConflict slot
    else
      let o := 2 * I + (if inbound then 1 else 0)
      let unit := if inbound then uCopyIn else uCopyOut
      let (id, s) := s.launch c (if inbound then .cpIn else .cpOut) slot op [w]
      let s := s.updJob c id (fun (j : Job) => { j with note := [o] })
      let e : CopyJob :=
      { order := o, inbound := inbound, tag := tag, word := bitsOf w 16 0, desc := none, issued := I,
        lastRead := 0, fixed := false, landed := false, doneAt := 0, rows := [], comp := [], deadline := 0, cls := 0,
        passed := false, sent := false, mcNo := 0, remote := none, place := k.seq.at slot }
      let s := s.updCl c (fun k =>
        let js := (k.cp.jobs.filter (fun j => j.order < o)) ++ [e] ++ (k.cp.jobs.filter (fun j => o < j.order))
        { k with cp := { k.cp with jobs := js }, seq := { k.seq with tags := k.seq.tags ||| BitVec.ofNat 16 (2 ^ tag) } })
      let dw := bitsOf w 16 0
      ((s.sched c (I + 1) 1 id unit (k.seq.at slot) (.rd 0 unit [dw, dw + 1])).sched c (I + 1) 2 id unit (k.seq.at slot)
        (.run 0)).done c unit (I + 2))

/-! ### Order in the outer memories (R270) -/

/-- What a copy touches outside the cluster. -/
def State.copyExtents (s : State) (e : CopyJob) : List Extent :=
  match e.desc with
  | none => []
  | some d =>
    if d.isKv then [⟨17, (d.sel.ctx * 64 + d.sel.hg) * 4096 + d.sel.pos / 256, 1⟩]
    else
      let a := if e.inbound then d.src else d.dst
      let q := if e.inbound then d.ssrc else d.sdst
      let st := if e.inbound then d.sstr else d.dstr
      if gaSpace a = 1 ∨ gaPid a ≠ s.pid then []
      else (upTo (d.nrow + 1)).map (fun r => (⟨gaSpace a, gaOff a + r * st, d.rlen⟩ : Extent))
        ++ (if d.sco then [⟨gaSpace q, gaOff q, d.slen⟩] else [])

/-- Must a copy wait for an earlier copy of its cluster that overlaps it and has not taken effect? -/
def State.copyWaits (s : State) (c : Nat) (e : CopyJob) : Bool :=
  (s.cl c).cp.jobs.any (fun x => decide (x.order < e.order) && !(x.inbound && e.inbound) && !x.landed
    && (x.desc.isNone || extentsMeet (s.copyExtents x) (s.copyExtents e)))

/-- Run a cluster up to c-cycle t where its program does not issue before it. -/
def State.catchUp (s : State) (c t : Nat) : State :=
  let q := (s.cl c).seq
  if q.st ≠ .running then s
  else (s.closeHeld c).runTo c (if q.wait = .none ∨ q.wait = .waitC then min t q.next else t)

/-- The pending copy of a tag. -/
def State.copyOf (s : State) (c tag : Nat) : Option CopyJob := (s.cl c).cp.jobs.find? (fun e => e.tag = tag)

/-- The fault ADDR of a copy (Table 16.4). -/
def CopyJob.addr (e : CopyJob) : Nat := e.tag * 2 ^ 20 + e.word

/-- An overrun (R283, Table 9.6). -/
def State.overrun (s : State) (c : Nat) (e : CopyJob) : State :=
  ((s.bump (regCl c 0x250) 15 0 1).setFld (regCl c 0x250) 31 30 e.cls).send c 0x30 e.addr true (s.ctxsOfCluster c)

/-! ### Reading the source of a pull (R268) -/

/-- The sequence number of the RUN whose section a cluster runs. -/
def State.seqOfCluster (s : State) (c : Nat) : Nat :=
  match s.runs.find? (fun r => r.ctx = (s.cl c).seq.ctx ∧ r.step.secs.any (fun x => x.2 = c) = true) with
  | none => 0
  | some r => r.seq

/-- Read one part of a pull's source: bytes, whether it was delivered, and the host bytes that are left. -/
def State.pullPart (s : State) (c ctx space off n : Nat) (host : List Byte) :
    List (Byte × Bool) × Bool × List Byte × State :=
  if space = 4 then
    let bs := host.take n
    if bs.length < n then (List.replicate n (0, true), false, [], s)
    else (bs.map (fun b => (b, false)), true, host.drop n, s.hostData ctx (s.seqOfCluster c) off bs)
  else if decide (space = 0) && s.calRefuses off n false then
    (List.replicate n (0, true), false, host, { (({ s with actor := [ctx] }).calRefused off) with actor := [] })
  else
    let (bs, s) := s.readFor ctx space off n
    (bs, true, host, s)

/-- Read the rows and the companion of a pull: bytes of each, and whether the source delivered. -/
def State.pullData (s : State) (c : Nat) (d : CopyDesc) (ok : Bool) (host : List Byte) :
    List (Byte × Bool) × List (Byte × Bool) × Bool × State :=
  let ctx := (s.cl c).seq.ctx
  if d.isKv then
    let v := d.sel
    let (sp, s) := ({ s with actor := [ctx] }).kvRead ctx v.hg v.pos v.n v.k v.v
    let s := { s with actor := [] }
    let kinds := (kvSpans (s.kvKg ctx) (s.kvVg ctx) v.k v.v (v.pos % 256) v.n).zip sp
    let rows := ((kinds.filter (fun x => !x.1.1)).map (fun x => x.2)).flatten
    let comp := ((kinds.filter (fun x => x.1.1)).map (fun x => x.2)).flatten
    if ok then (rows, comp, true, s)
    else (rows.map (fun b => (b.1, true)), comp.map (fun b => (b.1, true)), false, s)
  else if !ok then (List.replicate (d.rlen * (d.nrow + 1)) (0, true), List.replicate d.slen (0, true), false, s)
  else
    let r := (upTo (d.nrow + 1)).foldl (fun (a : List (Byte × Bool) × Bool × List Byte × State) i =>
      let p := a.2.2.2.pullPart c ctx (gaSpace d.src) (gaOff d.src + i * d.sstr) d.rlen a.2.2.1
      (a.1 ++ p.1, a.2.1 && p.2.1, p.2.2.1, p.2.2.2)) ([], true, host, s)
    let q : List (Byte × Bool) × Bool × List Byte × State :=
      if d.sco then r.2.2.2.pullPart c ctx (gaSpace d.ssrc) (gaOff d.ssrc) d.slen r.2.2.1 else ([], true, [], r.2.2.2)
    if r.2.1 && q.2.1 then (r.1, q.1, true, q.2.2.2)
    else (r.1.map (fun b => (b.1, true)), q.1.map (fun b => (b.1, true)), false, q.2.2.2)

/-- The reads of host memory that a pull makes: addresses and lengths, rows first. -/
def CopyDesc.hostReads (d : CopyDesc) : List (Nat × Nat) :=
  if d.isKv then []
  else (if gaSpace d.src = 4 then (upTo (d.nrow + 1)).map (fun i => (gaOff d.src + i * d.sstr, d.rlen)) else [])
    ++ (if d.sco && decide (gaSpace d.ssrc = 4) then [(gaOff d.ssrc, d.slen)] else [])

/-- The host bytes of a pull of a cluster (R287); none while replay has not released them. -/
def State.pullHost (s : State) (c : Nat) (d : CopyDesc) (ok : Bool) (host : List Byte) : Option (List Byte × Bool × State) :=
  let need := d.hostReads
  (s.hostAnswer (s.cl c).seq.ctx (s.seqOfCluster c) need host).map (fun x =>
    (x.1, (ok || (decide (s.mode = 2) && !need.isEmpty)), x.2))

/-! ### Landing (R267, R268, R514) -/

/-- PULL_LANDING: the data of the pull with a tag lands in c-cycle L. A landing of another generation is dropped
(R514). -/
def doPullLanding (c tag gen L : Nat) (ok : Bool) (host : List Byte) (s : State) : State :=
  if gen ≠ s.genOf c then s.bump (regCl c 0x0C) 23 16 1
  else
    let s := s.catchUp c L
    match s.copyOf c tag with
    | none => s
    | some e =>
      match e.desc with
      | none => s
      | some d =>
        if e.inbound = false ∨ e.landed = true ∨ s.copyWaits c e = true ∨ (e.mcNo ≠ 0 ∧ e.sent = false) then s
        else
        match (if e.sent then some (host, ok, s) else s.pullHost c d ok host) with
        | none => s
        | some (host, ok, s) =>
          let (rows, comp, good, s) : List (Byte × Bool) × List (Byte × Bool) × Bool × State :=
            if e.sent then (e.rows, e.comp, true, s) else s.pullData c d ok host
          let s := if good then s else s.send c 0x26 e.addr true (s.ctxsOfCluster c)
          let L := max L (e.issued + 2)
          let s := s.updCopy c e.order (fun x => { x with landed := true, doneAt := L, rows := rows, comp := comp, sent := true })
          if e.deadline < L then s.overrun c e else s

/-- The fields in which paired descriptors must agree (R269). -/
def CopyDesc.mcKey (d : CopyDesc) : List Nat :=
  [d.src, d.rlen, d.nrow, d.sstr, d.dstr, (if d.sco then 1 else 0), d.ssrc, d.slen, gaOff d.dst, gaOff d.sdst]

/-- MCAST_PULL: the hub reads the source of the oldest multicast pull with this mask that every member has issued. -/
def doMcastPull (mask : Nat) (ok : Bool) (host : List Byte) (s : State) : State :=
  let ks := ((upTo 64).filter (fun h => bitOf mask h)).map (fun h => s.hostOf h)
  if ks.isEmpty ∨ ks.any (fun k => k.isNone) then s
  else
    let ks := ks.filterMap id
    let mine := fun (k n : Nat) => (s.cl k).cp.jobs.find? (fun e => decide (e.mcNo = n + 1) && !e.sent
      && (match e.desc with | some d => decide (d.kind = 1 ∧ d.mask = mask) | none => false))
    match (upTo ((s.cl (ks.headD 0)).cp.jobs.foldl (fun a e => max a e.mcNo) 0)).find? (fun n =>
        ks.all (fun k => (mine k n).isSome)) with
    | none => s
    | some n =>
      let es := ks.filterMap (fun k => (mine k n).map (fun e => (k, e)))
      if es.any (fun x => s.copyWaits x.1 x.2) then s
      else
        match es with
        | [] => s
        | (c, e) :: _ =>
          match e.desc with
          | none => s
          | some d =>
          match s.pullHost c d ok host with
          | none => s
          | some (host, ok, s) =>
            let keys := es.map (fun x => (x.2.desc.map (fun y => y.mcKey)))
            let agree := keys.all (fun y => y = some d.mcKey)
            let (rows, comp, good, s) : List (Byte × Bool) × List (Byte × Bool) × Bool × State :=
              if agree then s.pullData c d ok host else ([], [], true, s)
            es.foldl (fun (s : State) x =>
              let y := x.2.desc.getD d
              let rows := if agree then rows else List.replicate (y.rlen * (y.nrow + 1)) (0, true)
              let comp := if agree then comp else List.replicate y.slen (0, true)
              let s := s.updCopy x.1 x.2.order (fun j => { j with sent := true, rows := rows, comp := comp })
              if !agree then s.send x.1 0x27 x.2.addr true (s.ctxsOfCluster x.1)
              else if good then s else s.send x.1 0x26 x.2.addr true (s.ctxsOfCluster x.1)) s

/-! ### Commit (R267, R281) -/

/-- Split off the words that one c-cycle commits: up to `k`, in distinct banks, in destination order. -/
def commitPick : Nat → List Nat → List (Nat × List (Nat × Nat) × List Nat) →
    List (Nat × List (Nat × Nat) × List Nat) × List (Nat × List (Nat × Nat) × List Nat)
  | 0, _, ws => ([], ws)
  | _, _, [] => ([], [])
  | k + 1, banks, w :: r =>
    if banks.contains (bankOf w.1) then
      let p := commitPick (k + 1) banks r
      (p.1, w :: p.2)
    else
      let p := commitPick k (bankOf w.1 :: banks) r
      (w :: p.1, p.2)

/-- Does a push write into the cluster in c-cycle t? -/
def Cluster.pushAt (k : Cluster) (t : Nat) : Bool :=
  k.evs.any (fun e => decide (e.at_ = t ∧ e.unit = uCopyIn ∧ e.job = 0) && e.act.isWr)

/-- Schedule the commit writes from c-cycle t on: the c-cycle after the last. -/
def State.commitFrom (c id place : Nat) : Nat → Nat → List (Nat × List (Nat × Nat) × List Nat) → State → Nat × State
  | 0, t, _, s => (t, s)
  | _, t, [], s => (t, s)
  | fuel + 1, t, w :: r, s =>
    if (s.cl c).pushAt t then State.commitFrom c id place fuel (t + 1) (w :: r) s
    else
      let p := commitPick 4 [] (w :: r)
      State.commitFrom c id place fuel (t + 1) p.2 (s.sched c t 1 id uCopyIn place (.wr true p.1))

/-- The words that a landed pull writes. -/
def State.commitWords (s : State) (d : CopyDesc) (e : CopyJob) : List (Nat × List (Nat × Nat) × List Nat) :=
  let bs := e.rows ++ e.comp
  ((copyWords (s.copyPieces d)).foldl (fun (a : List (Nat × List (Nat × Nat) × List Nat) × List (Byte × Bool)) x =>
    let mine := a.2.take x.n
    let nibs := (mine.zip (upTo x.n)).flatMap (fun b => byteNibs (x.off + b.2) b.1.1.toNat)
    let carry := (((mine.zip (upTo x.n)).filter (fun b => b.1.2)).map (fun b => (x.off + b.2) / 8)).eraseDups
    (a.1 ++ [(x.word, nibs, carry)], a.2.drop x.n)) ([], bs)).1

/-- PULL_COMMIT: the oldest landed pull of a held cluster that its wait covers is committed. -/
def doPullCommit (c : Nat) (s : State) : State :=
  let k := s.cl c
  let q := k.seq
  let ins := k.cp.jobs.filter (fun e => e.inbound)
  match ins.find? (fun e => !e.fixed) with
  | none => s
  | some e =>
    match e.desc with
    | none => s
    | some d =>
      let named := decide (q.wait = .ending) || (decide (q.wait = .waitX)
        && ins.any (fun x => decide (e.order ≤ x.order) && bitOf q.waitArg x.tag))
      if q.st ≠ .running ∨ named = false ∨ e.landed = false ∨ (s.strict = true ∧ e.passed = false ∧ e.doneAt ≤ e.deadline) then s
      else
        let last := (ins.filter (fun x => x.order < e.order)).foldl (fun a x => max a (x.doneAt + 1)) 0
        let C := max (max e.doneAt q.next) (max last (max q.ran (if s.strict then e.deadline else 0)))
        let ws := s.commitWords d e
        let id := s.nextJob c
        let s := s.updCl c (fun k => { k with nextJob := k.nextJob + 1 })
        let (n, s) := State.commitFrom c id e.place (ws.length + s.clusters.rows.foldl (fun a x => a + x.2.evs.length) 0) C ws s
        (s.updCopy c e.order (fun x => { x with fixed := true, doneAt := n - 1 })).tagAt c n 0 uCopyIn e.place e.tag

/-! ### Outbound copies (R266, R281) -/

/-- The tag of an outbound copy clears in c-cycle t. -/
def State.outTag (s : State) (c t : Nat) (e : CopyJob) : State :=
  (s.updCopy c e.order (fun x => { x with fixed := true })).tagAt c t 0 uCopyOut e.place e.tag

/-- Write the data of an outbound copy to spaces 0, 2 and 4 of the module. -/
def State.outWrite (s : State) (c : Nat) (d : CopyDesc) (rows comp : List (Byte × Bool)) : State :=
  let ctx := (s.cl c).seq.ctx
  let put := fun (s : State) (a off : Nat) (bs : List (Byte × Bool)) =>
    if gaPid a ≠ s.pid then s
    else if decide (gaSpace a = 0) && s.calRefuses off bs.length true then
      { (({ s with actor := [ctx] }).calRefused off) with actor := [] }
    else s.writeFor ctx (gaSpace a) off bs
  let s := (upTo (d.nrow + 1)).foldl (fun (s : State) r =>
    put s d.dst (gaOff d.dst + r * d.dstr) ((rows.drop (r * d.rlen)).take d.rlen)) s
  if d.sco then put s d.sdst (gaOff d.sdst) comp else s

/-- OUTBOUND_COMPLETE: the destination has taken the last byte in c-cycle n. A KVWR needs its KV_WRITE, and a copy to a
remote module its acknowledgements, first; a copy to host memory needs the link. -/
def doOutboundComplete (c tag n : Nat) (s : State) : State :=
  let s := s.catchUp c n
  match s.copyOf c tag with
  | none => s
  | some e =>
    match e.desc with
    | none => s
    | some d =>
      let far := d.kind = 3 ∨ e.remote.isSome = true
      let host := gaSpace d.dst = 4 ∨ (d.sco = true ∧ gaSpace d.sdst = 4)
      if e.inbound = true ∨ e.sent = false ∨ e.doneAt ≠ 0 ∨ s.copyWaits c e = true ∨ (far ∧ e.landed = false)
          ∨ (d.kind = 0 ∧ host ∧ s.irqUp = false) then s
      else
        let n := max n (e.lastRead + 1)
        let s := if d.kind = 3 then s else s.outWrite c d e.rows e.comp
        let s := s.updCopy c e.order (fun x => { x with landed := true, doneAt := n })
        let s := if e.deadline < n then s.overrun c e else s
        if !s.strict then s.outTag c n e
        else if e.deadline < n then s.outTag c (n + 1) e
        else if e.passed then s.outTag c (e.deadline + 1) e
        else s

/-- COPY_DEADLINE: the c-cycle count reaches DL (R281). -/
def doCopyDeadline (c tag : Nat) (s : State) : State :=
  match s.copyOf c tag with
  | none => s
  | some e =>
    if e.desc.isNone then s
    else
      let s := s.updCopy c e.order (fun x => { x with passed := true })
      if s.strict = true ∧ e.inbound = false ∧ e.fixed = false ∧ e.doneAt ≠ 0 then s.outTag c (e.deadline + 1) e else s

/-- KV_WRITE: the page manager takes the rows of a KVWR (R168); a refused request writes nothing, and its entry is
answered. -/
def doKvWrite (c tag : Nat) (s : State) : State :=
  match s.copyOf c tag with
  | none => s
  | some e =>
    match e.desc with
    | none => s
    | some d =>
      if d.kind ≠ 3 ∨ e.inbound = true ∨ e.sent = false ∨ e.landed = true ∨ s.copyWaits c e = true then s
      else
        let ctx := (s.cl c).seq.ctx
        let v := d.sel
        let sp := kvSpans (s.kvKg ctx) (s.kvVg ctx) v.k v.v (v.pos % 256) v.n
        let cut := sp.foldl (fun (a : List (List (Byte × Bool)) × List (Byte × Bool) × List (Byte × Bool)) x =>
          if x.1 then (a.1 ++ [a.2.2.take x.2.2], a.2.1, a.2.2.drop x.2.2)
          else (a.1 ++ [a.2.1.take x.2.2], a.2.1.drop x.2.2, a.2.2)) ([], e.rows, e.comp)
        let (_, s) := ({ s with actor := [ctx] }).kvWrite ctx v.hg v.pos v.n v.k v.v cut.1 e.addr
        ({ s with actor := [] }).updCopy c e.order (fun x => { x with landed := true })

/-! ### Service access (R271) and CL_MEMCLR (R251) -/

/-- SERVICE_ACCESS: a write of one word, or a read where no data is given; refused while the cluster runs. -/
def doServiceAccess (c w : Nat) (data : Option (List Byte)) (s : State) : State :=
  if (s.cl c).seq.st = .running then s
  else
    match data with
    | none => s.noteReads c [w]
    | some bs => s.writeWord c w ((bs.zip (upTo 32)).flatMap (fun b => byteNibs b.2 b.1.toNat)) []

/-- CL_MEMCLR.CLR. -/
def doClMemclr (c : Nat) (s : State) : State := s.setReg (regCl c 0x200) 0

/-! ### Windows (R256, R299) -/

/-- The reserved ranges of a space (R584) that take part in the enable check, as (start, end): the training area is always one;
a record ring (KIND 6) is shown only. -/
def State.reserved (s : State) (space : Nat) : List (Nat × Nat) :=
  (if space = 0 then [(0xBFFFF0000, 0xC00000000)] else [])
    ++ (s.mg.ranges.filter (fun r => decide (r.1 = space ∧ r.2.2.2 ≠ 6))).map (fun r => (r.2.1, r.2.1 + r.2.2.1))

/-- The KV pool's ranges in HBM (R161). -/
def State.kvRanges (s : State) : List (Nat × Nat) :=
  if s.kvpPages = 0 then []
  else [(s.kvpE, s.kvpE + s.kvpPages * 2 ^ 16), (s.kvpS, s.kvpS + s.kvpPages * 2 ^ 12 + 6 * s.kvpPages)]

def rangesMeet (a b : Nat × Nat) : Bool := decide (a.1 < b.2 ∧ b.1 < a.2)

/-- Is an HBM window refused? -/
def State.winRefused (s : State) (c w : Nat) : Bool :=
  let r := fun o => regCtx c (0x300 + 0x10 * w + o)
  let b := s.fld (r 0) 31 21 * 2 ^ 21 + s.fld (r 4) 16 0 * 2 ^ 32
  let n := s.fld (r 8) 14 0
  let act := s.fld (r 0xC) 5 3
  let me := (b, b + n * 2 ^ 21)
  decide (n = 0 ∨ 24576 < n ∨ 0xC00000000 < me.2)
    || (upTo 256).any (fun x => decide (x ≠ c) && (upTo 16).any (fun v =>
      let q := fun o => regCtx x (0x300 + 0x10 * v + o)
      let e := s.fld (q 0) 31 21 * 2 ^ 21 + s.fld (q 4) 16 0 * 2 ^ 32
      decide (s.fld (q 0xC) 0 0 = 1) && rangesMeet me (e, e + s.fld (q 8) 14 0 * 2 ^ 21)))
    || (s.kvRanges ++ s.reserved 0).any (rangesMeet me)
    || (upTo (ceilDiv me.2 (2 ^ 31) - me.1 / 2 ^ 31)).any (fun i => decide (s.pairCls (me.1 / 2 ^ 31 + i) ≠ act))

/-- Is the hub-buffer window refused? -/
def State.hubWinRefused (s : State) (c : Nat) : Bool :=
  let b := s.fld (regCtx c 0x420) 24 16
  let n := s.fld (regCtx c 0x420) 9 0
  decide (n = 0 ∨ 512 < n ∨ 512 < b + n) || (s.reserved 2).any (rangesMeet (b * 2 ^ 16, (b + n) * 2 ^ 16))
    || (upTo 256).any (fun x => decide (x ≠ c) && decide (s.fld (regCtx x 0x420) 31 31 = 1)
      && rangesMeet (b, b + n) (s.fld (regCtx x 0x420) 24 16, s.fld (regCtx x 0x420) 24 16 + s.fld (regCtx x 0x420) 9 0))

/-- WINDOW-CONFIG. -/
def State.winErr (s : State) (c bit : Nat) : State := (s.orReg (regCtx c 0x424) (2 ^ bit)).sendEv (ctxSrc c) 0x28 0

/-- WINDOW_ENABLE: a write of the control register of window w (w = 16: the hub-buffer window). -/
def doWindowEnable (c w : Nat) (v : Word32) (s : State) : State :=
  if s.ctxState c ≠ 0 then s
  else if w < 16 then
    let off := regCtx c (0x300 + 0x10 * w + 0xC)
    let was := s.fld off 0 0 = 1
    if bitOf v.toNat 0 then
      if was then s
      else
        let t := s.setReg off (BitVec.ofNat 32 (bitsOf v.toNat 5 1 * 2))
        if t.winRefused c w then t.winErr c w else t.setFld off 0 0 1
    else s.setReg off (BitVec.ofNat 32 (bitsOf v.toNat 5 1 * 2))
  else
    let off := regCtx c 0x420
    let body := BitVec.ofNat 32 (v.toNat % 2 ^ 31) &&& 0x01FF03FF#32
    if bitOf v.toNat 31 then
      if s.fld off 31 31 = 1 then s
      else
        let t := s.setReg off body
        if t.hubWinRefused c then t.winErr c 16 else t.setFld off 31 31 1
    else s.setReg off body

end Sys2Proof.Machine
end

