-- ==== Sys2Proof/Machine/Sensors.lean ====
section
/-! DEFINITION. Sensor ports, power over coax, triggers and Weir (R351 to R373), and the records of their inputs (R377). -/

namespace Sys2Proof.Machine

/-! ### Streams, sources, stamps -/

def portSrc (n : Nat) : Nat := 0x600 + n
def streamSrc (x : Nat) : Nat := 0x700 + x
def viewSrc (v : Nat) : Nat := 0x780 + v

/-- Raw ticks of a number of 100 us. -/
def ticks100us (n : Nat) : Nat := n * 50000

/-- The stamp of an instant `ago` sixteenths of a tick before now, less the latencies of a port (R367). -/
def State.mediumStamp (s : State) (lat ago : Nat) : Nat :=
  s.now - ago * s.time.inc / 16 - (s.fld lat 31 16 + s.fld lat 15 0) * oneNs / 64

def State.cam (s : State) (x : Nat) : CamSt := s.sens.cams.get x CamSt.reset
def State.setCam (s : State) (x : Nat) (c : CamSt) : State := { s with sens := { s.sens with cams := s.sens.cams.set x c } }
def State.buf (s : State) (p : Nat) : List BufItem := s.sens.bufs.get p []
def State.setBuf (s : State) (p : Nat) (l : List BufItem) : State := { s with sens := { s.sens with bufs := s.sens.bufs.set p l } }

/-- The port of a stream (R351): cameras 0 to 15, lidar 16 to 19. -/
def portOf (x : Nat) : Nat := if x < 64 then x / 4 else 16 + (x - 64) / 8

/-- AP_STAT.FOPEN, AP_LINE, AP_FRAME show virtual channel 0 (Table 12.6). -/
def State.camShow (s : State) (port : Nat) : State :=
  let c := s.cam (4 * port)
  ((s.setFld (regAp port 0x10) 3 3 (if c.isOpen then 1 else 0)).setFld (regAp port 0x14) 14 0
    (if c.isOpen then c.lines else 0)).setReg (regAp port 0x1C) c.frame

/-! ### Events for the Gauge scheduler (R418) -/

/-- An enabled generator of a kind with a source observes an event. -/
def State.gaugeSee (s : State) (kinds : List Nat) (src : Nat) (p : Nat → Bool) (e cap : Nat) (atClose : Bool) : State :=
  (upTo 64).foldl (fun (s : State) g =>
    let c := regGa (0x20 * g)
    if s.fld c 31 31 = 1 ∧ kinds.contains (s.fld c 30 28) = true ∧ s.fld c 14 8 = src ∧ p (s.fld (c + 4) 15 0) = true then
      { s with gauge := { s.gauge with events := s.gauge.events ++ [⟨g, e, cap, atClose⟩] } }
    else s) s

/-! ### Port buffers and Weir (R368, R369) -/

def BufItem.size (b : BufItem) : Nat := if b.kind = .close then 0 else b.bytes.length

/-- Mark the frame of a dropped group (R368, R369): WEIR 0x800000 or OVERFLOW 0x400000, at the port or in its close. -/
def State.markDrop (s : State) (x frame bit : Nat) : State :=
  let c := s.cam x
  if c.isOpen = true ∧ c.frame.toNat = frame then
    s.setCam x { c with dropped := true, flags := c.flags ||| bit }
  else
    s.setBuf (portOf x) ((s.buf (portOf x)).map (fun (b : BufItem) =>
      if b.kind = .close ∧ b.stream = x ∧ b.frame = frame then
        { b with status := (b.status ||| bit) % 2 ^ 31 } else b))

/-- Weir's record and count of a drop (R368): cause 0 age, 1 overflow. -/
def State.dropRecord (s : State) (b : BufItem) (cause : Nat) : State :=
  let x := b.stream
  let lim := s.fld (regWr (0x100 + 4 * x)) 15 0
  let idx := if b.kind = .packet then 0xFFFF else b.index
  let (_, s) := s.capture x 0x40 s.now (leBytes 4 b.frame ++ leBytes 2 idx ++ leBytes 1 cause ++ leBytes 1 0
    ++ timeBytes b.stamp ++ leBytes 2 lim)
  (s.bump (regWr (0x300 + 4 * x)) 31 0 1).sendLimited (streamSrc x) 0x59 b.frame

/-- Handle a drop (R368): a group takes every later group of its frame with it; a packet marks the open sector WEIR. -/
def State.weirDrop (s : State) (b : BufItem) (cause : Nat) : State :=
  let p := portOf b.stream
  let s := s.dropRecord b cause
  if b.kind = .packet then
    let l := s.inp.lids.get b.stream LidSt.reset
    let s := s.setBuf p ((s.buf p).filter (fun y => ¬ (y.stream = b.stream ∧ y.frame = b.frame)))
    if l.sector.isSome then
      { s with inp := { s.inp with lids := s.inp.lids.set b.stream { l with flags := l.flags ||| 0x20000000 } } }
    else s
  else
    let s := s.setBuf p ((s.buf p).filter (fun y => ¬ (y.kind = .group ∧ y.stream = b.stream ∧ y.frame = b.frame)))
    s.markDrop b.stream b.frame (if cause = 0 then 0x800000 else 0x400000)

/-- An input comes to its port buffer (R369, R371). -/
def State.enterBuf (s : State) (b : BufItem) : State :=
  let p := portOf b.stream
  let cap := if p < 16 then 512 * 1024 else 256 * 1024
  let used := (s.buf p).foldl (fun a y => a + y.size) 0
  if s.mode ≠ 2 ∧ cap < used + b.size then s.weirDrop b 1 else s.setBuf p (s.buf p ++ [b])

/-- Weir's verdict on an input (R368; the recorded one in replay, R371): the cause of a drop. -/
def State.judge (s : State) (b : BufItem) : Option Nat :=
  if s.mode = 2 then b.verdict
  else
    let lim := max 1 (s.fld (regWr (0x100 + 4 * b.stream)) 15 0)
    if lim * 10000 * oneNs < s.now - b.stamp then some 0 else none

/-- Footbridge takes the groups that Weir passes (R497): the oldest stamp of the frame it assembles, and at the close the
newest complete frame of the stream. -/
def State.fbGroup (s : State) (b : BufItem) : State :=
  let t := match lookup s.saf.fbOpen.rows b.stream with
    | some (f, t) => if f = b.frame then min t b.stamp else b.stamp
    | none => b.stamp
  { s with saf := { s.saf with fbOpen := s.saf.fbOpen.set b.stream (b.frame, t) } }

def State.fbClose (s : State) (b : BufItem) : State :=
  match lookup s.saf.fbOpen.rows b.stream with
  | some (f, t) =>
    if f = b.frame then
      { s with saf := { s.saf with
          fbOpen := s.saf.fbOpen.erase b.stream,
          fbCams := s.saf.fbCams.set b.stream (f, t, decide (2 ^ 31 ≤ b.status)) } }
    else s
  | none => s

/-- MAXAGE of the stream (Table 12.8). -/
def State.noteAge (s : State) (b : BufItem) : State :=
  let r := regWr (0x500 + 4 * b.stream)
  s.setFld r 15 0 (max (s.fld r 15 0) (min 65535 ((s.now - b.stamp) / (10000 * oneNs))))

/-- WEIR_DROP: the head of a port buffer is judged stale. -/
def doWeirDrop (port : Nat) (s : State) : State :=
  match s.buf port with
  | [] => s
  | b :: _ =>
    if b.kind = .close then s
    else
      match s.judge b with
      | none => s
      | some cause => (s.noteAge b).weirDrop b cause

/-! ### Camera frames (R353 to R358) -/

/-- Deliver the group being filled (R355), with its record and the LINE event (R418). -/
def State.deliverGroup (s : State) (x : Nat) : State :=
  let c := s.cam x
  if c.gLines = 0 then s
  else
    let len := max 1 (s.fld (regAp (x / 4) 4) 15 0)
    let (cap, s) := s.capture x 2 c.gStamp (leBytes 4 c.frame.toNat ++ leBytes 2 c.gFirst ++ leBytes 2 c.gLines
      ++ leBytes 4 len ++ leBytes 4 0 ++ c.gBytes)
    let b : BufItem :=
    { kind := .group, stream := x, frame := c.frame.toNat, first := c.gFirst, n := c.gLines, index := c.gIndex,
      bytes := c.gBytes, stamp := c.gStamp, cap := cap, status := 0, off := 0, verdict := none }
    let s := s.setCam x { c with gLines := 0, gBytes := [], gFirst := c.lines, gIndex := c.gIndex + 1 }
    let s := if x % 4 = 0 then
        s.gaugeSee [2] (x / 4) (fun p => decide (c.gFirst < p ∧ p ≤ c.gFirst + c.gLines)) c.gStamp cap false
      else s
    if c.dropped then s else s.enterBuf b

/-- The status word of a frame that closes with flags (Table 12.2). -/
def statusWord (flags lines : Nat) : Nat :=
  (if flags = 0 then 2 ^ 31 else flags) + lines

/-- A frame closes, with the bits of the closing event (R354, R357). -/
def State.closeFrame (s : State) (x bits : Nat) : State :=
  let c := s.cam x
  if !c.isOpen then s
  else
    let port := x / 4
    let s := s.deliverGroup x
    let c := s.cam x
    let flags := c.flags ||| bits ||| (if c.lines ≠ s.fld (regAp port 4) 31 16 then 0x4000000 else 0)
    let st := statusWord flags c.lines
    let (cap, s) := s.capture x 4 s.now (leBytes 4 c.frame.toNat ++ leBytes 4 st)
    let s := s.setCam x { c with isOpen := false, flags := 0, lines := 0, gFirst := 0, gIndex := 0, dropped := false }
    let s := s.setReg (regAp port 0x18) (BitVec.ofNat 32 st)
    let s := if flags = 0 then s
      else (s.bump (regAp port 0x20) 7 0 1).sendLimited (streamSrc x) 0x51 c.frame.toNat
    let s := if x % 4 = 0 then s.gaugeSee [2] port (fun p => decide (c.lines < p)) s.now cap true else s
    let b : BufItem :=
    { kind := .close, stream := x, frame := c.frame.toNat, first := 0, n := 0, index := 0, bytes := [], stamp := s.now,
      cap := cap, status := st, off := 0, verdict := none }
    (s.setBuf port (s.buf port ++ [b])).camShow port

/-- Is a virtual channel of a port able to receive? -/
def State.camLive (s : State) (port vc : Nat) : Bool :=
  s.mode ≠ 2 && decide (s.fld (regAp port 0) 31 31 = 1 ∧ s.fld (regAp port 0x10) 2 2 = 1) && decide (vc < 4)
    && !s.fences.contains (portSrc port)

def State.dropPkt (s : State) (port : Nat) : State := s.bump (regAp port 0x20) 15 8 1

/-- What the header of a packet does (R353): 0 good, 1 corrected, 2 uncorrectable; and a retransmission is counted. False
where the packet is lost or its virtual channel is not enabled. -/
def State.camHeader (s : State) (port vc hdr : Nat) (retx : Bool) : Bool × State :=
  let s := if retx then s.bump (regAp port 0x20) 23 16 1 else s
  if hdr = 2 then
    (false, (upTo 4).foldl (fun (s : State) v =>
      let c := s.cam (4 * port + v)
      if c.isOpen then s.setCam (4 * port + v) { c with flags := c.flags ||| 0x1000000 } else s) (s.dropPkt port))
  else
    let s := if hdr = 1 then s.bump (regAp port 0x20) 31 24 1 else s
    if bitOf (s.fld (regAp port 0) 25 22) vc then (true, s) else (false, s.dropPkt port)

/-- FRAME_START. -/
def doFrameStart (port vc hdr : Nat) (retx : Bool) (ago : Nat) (s : State) : State :=
  if !s.camLive port vc then s
  else
    let (ok, s) := s.camHeader port vc hdr retx
    if !ok then s
    else
      let x := 4 * port + vc
      let s := s.closeFrame x 0x10000000
      let c := s.cam x
      let stamp := s.mediumStamp (regAp port 0x28) ago
      let rate := match c.lastFs with
        | none => false
        | some t => decide (stamp < t + s.fld (regAp port 0xC) 15 0 * 10000 * oneNs)
      let s := if c.late then s.send (streamSrc x) 0x52 0 false [] else s
      let f := c.frame + 1
      let (_, s) := s.capture x 1 stamp (leBytes 4 f.toNat)
      (s.setCam x
        { CamSt.reset with isOpen := true, frame := f, flags := if rate then 0x100000 else 0, lastFs := some stamp,
                           seenAt := s.ticks }).camShow port

/-- A line as delivered: cut or padded to LINELEN bytes (R355). -/
def fitLine (len : Nat) (bs : List Byte) : List Byte := bs.take len ++ List.replicate (len - bs.length) 0

/-- LONG_PACKET: a line. `crcOk`: its payload CRC holds. -/
def doLongPacket (port vc dt hdr : Nat) (retx crcOk : Bool) (bs : List Byte) (ago : Nat) (s : State) : State :=
  if !s.camLive port vc then s
  else
    let (ok, s) := s.camHeader port vc hdr retx
    if !ok then s
    else
      let x := 4 * port + vc
      let c := s.cam x
      if dt ≠ s.fld (regAp port 0) 21 16 ∨ c.isOpen = false then s.dropPkt port
      else if s.fld (regAp port 4) 31 16 ≤ c.lines then s.setCam x { c with flags := c.flags ||| 0x4000000 }
      else
        let len := max 1 (s.fld (regAp port 4) 15 0)
        let fl := (if bs.length ≠ len then 0x8000000 else 0) ||| (if crcOk then 0 else 0x2000000)
        let stamp := if c.gLines = 0 then s.mediumStamp (regAp port 0x28) ago else c.gStamp
        let s := s.setCam x
          { c with lines := c.lines + 1, flags := c.flags ||| fl, gLines := c.gLines + 1,
                   gBytes := c.gBytes ++ fitLine len bs, gStamp := stamp }
        let s := if c.gLines + 1 = s.fld (regAp port 0) 5 0 + 1 then s.deliverGroup x else s
        s.camShow port

/-- FRAME_END. -/
def doFrameEnd (port vc hdr : Nat) (retx : Bool) (s : State) : State :=
  if !s.camLive port vc then s
  else
    let (ok, s) := s.camHeader port vc hdr retx
    if !ok then s
    else if (s.cam (4 * port + vc)).isOpen then s.closeFrame (4 * port + vc) 0 else s.dropPkt port

/-- EMBEDDED_DATA: recorded with its frame, and not counted as a line. -/
def doEmbeddedData (port vc hdr : Nat) (retx : Bool) (bs : List Byte) (ago : Nat) (s : State) : State :=
  if !s.camLive port vc then s
  else
    let (ok, s) := s.camHeader port vc hdr retx
    let c := s.cam (4 * port + vc)
    if !ok then s
    else if c.isOpen = false then s.dropPkt port
    else (s.capture (4 * port + vc) 3 (s.mediumStamp (regAp port 0x28) ago) (leBytes 4 c.frame.toNat ++ leBytes 4 bs.length
      ++ bs)).2

/-- FRAME_TIMEOUT: FTO has elapsed since FS. -/
def doFrameTimeout (port vc : Nat) (s : State) : State :=
  let c := s.cam (4 * port + vc)
  if s.mode ≠ 2 ∧ c.isOpen = true ∧ c.seenAt + ticks100us (max 1 (s.fld (regAp port 8) 31 16)) ≤ s.ticks then
    s.closeFrame (4 * port + vc) 0x20000000
  else s

/-- Close every open frame of a port. -/
def State.closeAll (s : State) (port bits : Nat) : State :=
  (upTo 4).foldl (fun (s : State) v => s.closeFrame (4 * port + v) bits) s

/-- LOSS_OF_LOCK (R356). -/
def doLossOfLock (port : Nat) (s : State) : State :=
  if s.fld (regAp port 0x10) 2 2 = 0 then s
  else
    let s := if s.mode = 2 then s else s.closeAll port 0x40000000
    (s.setFld (regAp port 0x10) 2 0 0).sendLimited (portSrc port) 0x50 0

/-- LOCK_ACQUIRED in a gear up to GMAX. -/
def doLockAcquired (port gear : Nat) (s : State) : State :=
  if s.fld (regAp port 0) 31 31 = 1 ∧ 1 ≤ gear ∧ gear ≤ s.fld (regAp port 0) 27 26 ∧ s.fld (regAp port 0x10) 2 2 = 0
      ∧ s.fences.contains (portSrc port) = false then
    ((s.setFld (regAp port 0x10) 1 0 gear).setFld (regAp port 0x10) 2 2 1).send (portSrc port) 0x50 0 false []
  else s

/-! ### Lidar sectors that a port closes: the pipeline emits them (R396) -/

/-- Mark a lidar stream's open sector to close with TIMEOUT. -/
def State.lidFlag (s : State) (x bit : Nat) : State :=
  let l := s.inp.lids.get x LidSt.reset
  if l.sector.isSome then
    { s with inp := { s.inp with lids := s.inp.lids.set x { l with flags := l.flags ||| bit } } }
  else s

/-! ### Triggers (R359, R360) -/

def State.trigs (s : State) (port : Nat) : List Nat := s.sens.trigs.get port []
def State.setTrigs (s : State) (port : Nat) (l : List Nat) : State :=
  { s with sens := { s.sens with trigs := s.sens.trigs.set port l } }.setFld (regAp port 0x44) 2 0 l.length

def State.trigMiss (s : State) (port : Nat) : State :=
  (s.bump (regAp port 0x44) 31 16 1).sendLimited (portSrc port) 0x54 0

def sortIn (t : Nat) : List Nat → List Nat
  | [] => [t]
  | x :: r => if t < x then t :: x :: r else x :: sortIn t r

/-- TLEAD in time units. -/
def State.tlead (s : State) (port : Nat) : Nat := s.fld (regAp port 0x40) 15 0 * oneNs

/-- TRIGGER_REQUEST for instant T. -/
def doTriggerRequest (port T : Nat) (s : State) : State :=
  let l := s.trigs port
  if 4 ≤ l.length ∨ T < s.now + s.tlead port then s.trigMiss port else s.setTrigs port (sortIn T l)

/-- TRIGGER_SEND: the send instant of the first request is reached. -/
def doTriggerSend (port : Nat) (s : State) : State :=
  match s.trigs port with
  | [] => s
  | T :: r =>
    if s.now + s.tlead port < T then s
    else
      let s := s.setTrigs port r
      if s.fld (regAp port 0x10) 2 2 = 0 then s.trigMiss port
      else { s with sens := { s.sens with sent := s.sens.sent.set port (s.sens.sent.get port 0 + 1) } }

/-! ### Power over coax (R361 to R364) -/

/-- AP_POCSTAT.STATE. -/
def State.poc (s : State) (port : Nat) : Nat := s.fld (regAp port 0x34) 27 25
def State.setPoc (s : State) (port v : Nat) : State := s.setFld (regAp port 0x34) 27 25 v

/-- Set POWER on the open frames of a port. -/
def State.powerMark (s : State) (port : Nat) : State :=
  (upTo 4).foldl (fun (s : State) v =>
    let c := s.cam (4 * port + v)
    if c.isOpen then s.setCam (4 * port + v) { c with flags := c.flags ||| 0x200000 } else s) s

/-- Entry into CUT with a cause. -/
def State.pocCut (s : State) (port cause kind : Nat) : State :=
  let r := regAp port 0x34
  let s := ((s.setPoc port 3).setFld r 24 23 cause).bump r 22 16 1
  let s := (s.setFld (regAp port 0x30) 31 31 0).powerMark port
  { s with sens := { s.sens with cutAt := s.sens.cutAt.set port s.ticks } }.send (portSrc port) kind 0 true []

/-- CLR of AP_POC (Table 12.3). -/
def doClr (port : Nat) (s : State) : State :=
  if s.poc port = 3 ∧ s.sens.cutAt.get port 0 + 100 * ticksPerMs ≤ s.ticks then s.setPoc port 0 else s

/-- PEN: a write of AP_POC. VSET and PLIM are taken in OFF; PEN = 1 needs them in range and the budget of R362. -/
def doPen (port : Nat) (v : Word32) (s : State) : State :=
  let r := regAp port 0x30
  let s := if s.poc port = 0 then s.setFld r 12 0 (bitsOf v.toNat 12 0) else s
  let st := s.poc port
  if bitOf v.toNat 31 then
    if st ≠ 0 then s
    else
      let pl := s.fld r 12 8
      if pl = 0 ∨ 24 < pl ∨ 120 < s.fld r 7 0 then s
      else
        let sum := (upTo 16).foldl (fun a p => if s.poc p = 1 ∨ s.poc p = 2 then a + s.fld (regAp p 0x30) 12 8 else a) 0
        if 256 < sum + pl then s.send (portSrc port) 0x58 0 true [] else (s.setFld r 31 31 1).setPoc port 1
  else
    let s := s.setFld r 31 31 0
    if st = 1 ∨ st = 2 then (s.setPoc port 4).powerMark port else s

/-- RAMP_END: the output came within 5 % of VSET by 4 ms, or it did not. -/
def doRampEnd (port : Nat) (reached : Bool) (s : State) : State :=
  if s.poc port ≠ 1 then s else if reached then s.setPoc port 2 else s.pocCut port 1 0x56

/-- POC_SHORT: a short, or a backfeed (Table 12.4). -/
def doPocShort (port : Nat) (backfeed : Bool) (s : State) : State :=
  if s.poc port = 2 then s.pocCut port (if backfeed then 3 else 1) 0x56 else s

/-- POC_OVERLOAD. -/
def doPocOverload (port : Nat) (s : State) : State := if s.poc port = 2 then s.pocCut port 2 0x57 else s

/-- OPEN_LOAD. -/
def doOpenLoad (port : Nat) (s : State) : State := if s.poc port = 2 then s.setFld (regAp port 0x34) 15 15 1 else s

/-- DISCHARGE_END. -/
def doDischargeEnd (port : Nat) (s : State) : State := if s.poc port = 4 then s.setPoc port 0 else s

/-- POC_MEASUREMENT in mV and mA. -/
def doPocMeasurement (port mv ma : Nat) (s : State) : State :=
  (s.setFld (regAp port 0x38) 31 16 mv).setFld (regAp port 0x38) 15 0 ma

/-! ### Lidar ports (R365, R366) -/

/-- A number stored most significant byte first. -/
def beNat (bs : List Byte) (off n : Nat) : Nat := leNat ((bs.drop off).take n).reverse

/-- The EtherType of a frame, its VLAN ID where it has a tag, and where its content begins. -/
def etherOf (bs : List Byte) : Nat × Option Nat × Nat :=
  if beNat bs 12 2 = 0x8100 then (beNat bs 16 2, some (beNat bs 14 2 % 4096), 18) else (beNat bs 12 2, none, 14)

/-- The UDP destination port of a frame, and where its UDP payload begins. -/
def udpOf (bs : List Byte) : Option (Nat × Nat) :=
  let (et, _, o) := etherOf bs
  if et = 0x0800 ∧ beNat bs (o + 9) 1 = 17 then
    let u := o + 4 * (beNat bs o 1 % 16)
    some (beNat bs (u + 2) 2, u + 8)
  else if et = 0x86DD ∧ beNat bs (o + 6) 1 = 17 then some (beNat bs (o + 42) 2, o + 48)
  else none

/-- Does filter f of lidar port p claim a frame: the offset of the payload. -/
def State.lpClaim (s : State) (p f : Nat) (bs : List Byte) : Option Nat :=
  let r := regLp p (0x40 + 0x10 * f)
  let (et, vid, o) := etherOf bs
  let mac := beNat bs 6 6
  if s.fld r 31 31 = 0 then none
  else if s.fld r 30 30 = 1 ∧ vid ≠ some (s.fld r 27 16) then none
  else if s.fld r 28 28 = 1 ∧ mac ≠ s.fld (r + 4) 15 0 * 2 ^ 32 + (s.reg (r + 8)).toNat then none
  else if s.fld r 29 29 = 1 then
    match udpOf bs with
    | some (d, u) => if d = s.fld (r + 4) 31 16 then some u else none
    | none => none
  else if et = s.fld r 15 0 then some o else none

/-- A gPTP message enters the recorder (Table 13.3). -/
def State.ptpRecord (s : State) (x dir stamp : Nat) (msg : List Byte) : State :=
  (s.capture x 0x10 stamp (leBytes 4 dir ++ leBytes 2 msg.length ++ leBytes 2 0 ++ msg)).2

/-- ETH_FRAME: a frame (FCS excluded) on lidar port p. -/
def doEthFrame (p : Nat) (fcsOk : Bool) (bs : List Byte) (ago : Nat) (s : State) : State :=
  if s.mode = 2 ∨ s.fld (regLp p 0) 31 31 = 0 ∨ s.fld (regLp p 4) 0 0 = 0 ∨ s.fences.contains (portSrc (16 + p)) = true then s
  else if fcsOk = false ∨ bs.length + 4 < 64 ∨ 9022 < bs.length + 4 then s.bump (regLp p 8) 31 16 1
  else
    let stamp := s.mediumStamp (regLp p 0x10) ago
    let (et, _, o) := etherOf bs
    if et = 0x88F7 then s.ptpRecord (100 + p) 0 stamp (bs.drop o)
    else
      let rec_ := fun (s : State) (x off no : Nat) =>
        s.capture x 8 stamp (leBytes 2 bs.length ++ leBytes 2 off ++ leBytes 4 no ++ bs)
      let hit := if et = 0x8808 then none
        else (upTo 8).findSome? (fun f => (s.lpClaim p f bs).map (fun u => (f, u)))
      match hit with
      | none =>
        let s := (rec_ s (96 + p) 0 0).2
        if et = 0x8808 then s else s.bump (regLp p 8) 15 0 1
      | some (f, u) =>
        let x := 64 + 8 * p + f
        let r := regLp p (0x4C + 0x10 * f)
        let n := bs.length - u
        if n < s.fld r 17 4 ∨ s.fld r 31 18 < n then
          ((rec_ s (96 + p) 0 0).2.bump (regLp p 0xC) 31 16 1).sendLimited (streamSrc x) 0x53 (s.sens.packets.get x 0).toNat
        else
          let no := (s.sens.packets.get x 0)
          let (cap, s) := rec_ s x u no.toNat
          let s := if (s.sens.lidSeen.get x (0, false)).2 then s.send (streamSrc x) 0x52 0 false [] else s
          let s := { s with sens := { s.sens with packets := s.sens.packets.set x (no + 1),
                                                  lidSeen := s.sens.lidSeen.set x (s.ticks, false) } }
          let b : BufItem :=
          { kind := .packet, stream := x, frame := no.toNat, first := 0, n := 0, index := 0xFFFF, bytes := bs,
            stamp := stamp, cap := cap, status := 0, off := u, verdict := none }
          s.enterBuf b

/-- AP_CNTCLR, LP_CNTCLR, WR_CLR. -/
def doApCntclr (p : Nat) (s : State) : State := (s.setReg (regAp p 0x20) 0).setFld (regAp p 0x44) 31 16 0
def doLpCntclr (p : Nat) (s : State) : State := (s.setReg (regLp p 8) 0).setFld (regLp p 0xC) 31 16 0
def doWrClr (s : State) : State :=
  (upTo 96).foldl (fun (s : State) x => (s.setReg (regWr (0x300 + 4 * x)) 0).setReg (regWr (0x500 + 4 * x)) 0) s

end Sys2Proof.Machine
end

