-- ==== Sys2Proof/Machine/Pipeline.lean ====
section
/-! DEFINITION. The input pipeline: source rings, views, meshes, stripes, tags, lidar range images (R383 to R400). -/

namespace Sys2Proof.Machine

/-! ### Set-up of streams and views (Tables 13.7, 13.8) -/

def regView (v o : Nat) : Nat := regIp (0x2000 + 0x80 * v + o)
def regCam (x o : Nat) : Nat := regIp (0x1000 + 0x10 * x + o)
def regLid (x o : Nat) : Nat := regIp (0x4000 + 0x80 * (x - 64) + o)

/-- A 49-bit address of two registers whose low register holds bits [31:lo]. -/
def State.addr49 (s : State) (off lo : Nat) : Nat := s.fld off 31 lo * 2 ^ lo + s.fld (off + 4) 16 0 * 2 ^ 32

def State.pipe (s : State) (x : Nat) : PipeSt := s.inp.cams.get x ⟨false, 0, [], []⟩
def State.setPipe (s : State) (x : Nat) (p : PipeSt) : State := { s with inp := { s.inp with cams := s.inp.cams.set x p } }
def State.view (s : State) (v : Nat) : ViewSt := s.inp.views.get v ⟨[], ⟨[]⟩, false⟩
def State.setView (s : State) (v : Nat) (w : ViewSt) : State := { s with inp := { s.inp with views := s.inp.views.set v w } }

def State.camFmt (s : State) (x : Nat) : Nat := s.fld (regCam x 0) 30 28
def State.camBits (s : State) (x : Nat) : Nat := s.fld (regCam x 0) 27 23
def State.camSW (s : State) (x : Nat) : Nat := s.fld (regCam x 8) 15 0
def State.camSH (s : State) (x : Nat) : Nat := s.fld (regCam x 0xC) 31 16
def State.camRows (s : State) (x : Nat) : Nat := max 1 (s.fld (regCam x 8) 31 16)
def State.camBpp (s : State) (x : Nat) : Nat := if s.camFmt x = 2 then 3 else 2

/-- Bytes of a row of the source ring (R385). -/
def State.camRRow (s : State) (x : Nat) : Nat := 32 * ceilDiv (s.camSW x * s.camBpp x) 32
def State.ringAt (s : State) (x r : Nat) : Nat := s.fld (regCam x 4) 24 5 * 32 + r % s.camRows x * s.camRRow x

def State.vOW (s : State) (v : Nat) : Nat := s.fld (regView v 4) 15 0
def State.vOH (s : State) (v : Nat) : Nat := s.fld (regView v 4) 31 16
def State.vSR (s : State) (v : Nat) : Nat := max 1 (s.fld (regView v 8) 6 0)
def State.vSlots (s : State) (v : Nat) : Nat := max 1 (s.fld (regView v 8) 31 16)
def State.vNpl (s : State) (v : Nat) : Nat := if s.fld (regView v 0) 12 12 = 1 then 3 else 1
def State.vG (s : State) (v : Nat) : Nat := gsOf (s.fld (regView v 0) 11 10)
def State.vStream (s : State) (v : Nat) : Nat := s.fld (regView v 0) 23 18
def State.vCtx (s : State) (v : Nat) : Nat := s.fld (regView v 0x1C) 31 24
def State.vSpace (s : State) (v : Nat) : Nat := if s.fld (regView v 0) 8 8 = 1 then 2 else 0
def State.vStripes (s : State) (v : Nat) : Nat := ceilDiv (s.vOH v) (s.vSR v)
def State.vOn (s : State) (v : Nat) : Bool := s.fld (regView v 0) 31 31 = 1

/-- A 16-bit half of a register array, entry k at byte 2k, signed. -/
def State.half (s : State) (off k : Nat) : Int :=
  let w := (s.reg (off + 2 * k / 4 * 4)).toNat
  signed 16 (if k % 2 = 0 then w else w / 65536)

/-! ### Meshes and needed rows (R388, R391) -/

def State.meshPt (s : State) (v i j : Nat) : Int × Int :=
  ((s.inp.mesh.get (s.fld (regView v 0) 17 14) [])).getD (j * s.fld (regView v 0xC) 31 24 + i) (0, 0)
def State.vIdent (s : State) (v : Nat) : Bool := s.fld (regView v 0) 13 13 = 1
def State.vCwl (s : State) (v : Nat) : Nat := s.fld (regView v 0xC) 15 12
def State.vChl (s : State) (v : Nat) : Nat := s.fld (regView v 0xC) 11 8

/-- The source coordinate of an output pixel. -/
def State.srcAt (s : State) (v x y : Nat) : Int × Int :=
  if s.vIdent v then
    (((x : Int) + s.half (regView v 0x10) 0) * 256, ((y : Int) + s.half (regView v 0x10) 1) * 256)
  else
    let cw := s.vCwl v
    let ch := s.vChl v
    let i := x / 2 ^ cw
    let j := y / 2 ^ ch
    let u : Int := (x % 2 ^ cw : Nat)
    let w : Int := (y % 2 ^ ch : Nat)
    let W : Int := ((2 ^ cw : Nat) : Int)
    let H : Int := ((2 ^ ch : Nat) : Int)
    let r : Int := if cw + ch = 0 then 0 else ((2 ^ (cw + ch - 1) : Nat) : Int)
    let mix := fun (a b c d : Int) => (a * (W - u) * (H - w) + b * u * (H - w) + c * (W - u) * w + d * u * w + r) / (W * H)
    let p := s.meshPt v i j
    let q := s.meshPt v (i + 1) j
    let p' := s.meshPt v i (j + 1)
    let q' := s.meshPt v (i + 1) (j + 1)
    (mix p.1 q.1 p'.1 q'.1, mix p.2 q.2 p'.2 q'.2)

/-- The output rows of a stripe that hold image data. -/
def State.stripeRows (s : State) (v n : Nat) : List Nat :=
  (upTo (s.vSR v)).filterMap (fun r => if n * s.vSR v + r < s.vOH v then some (n * s.vSR v + r) else none)

/-- The first and last source rows that a stripe needs (R391). -/
def State.needRows (s : State) (v n : Nat) : Nat × Nat :=
  let ys : List Int :=
    if s.vIdent v then (s.stripeRows v n).map (fun (y : Nat) => ((y : Int) + s.half (regView v 0x10) 1) * 256)
    else
      let js := (((s.stripeRows v n).map (fun y => y / 2 ^ s.vChl v)).flatMap (fun j => [j, j + 1])).eraseDups
      js.flatMap (fun j => (upTo ((s.vOW v - 1) / 2 ^ s.vCwl v + 2)).map (fun i => (s.meshPt v i j).2))
  let a := ys.foldl min (ys.headD 0)
  let b := ys.foldl max (ys.headD 0)
  let top : Int := ((s.camSH (s.vStream v) - 1 : Nat) : Int)
  let clamp := fun (z : Int) => (max 0 (min top z)).toNat
  (clamp (a / 256 - 1), clamp (b / 256 + 2))

/-! ### Source pixels (R386) -/

/-- Raw code of pixel i of a line in the packings of CSI-2 (log entry 21). -/
def rawPixel (bits : Nat) (bs : List Byte) (i : Nat) : Nat :=
  let b := fun (k : Nat) => (bs.getD k 0).toNat
  if bits = 8 then b i
  else if bits = 10 then b (i / 4 * 5 + i % 4) * 4 + bitsOf (b (i / 4 * 5 + 4)) (2 * (i % 4) + 1) (2 * (i % 4))
  else if bits = 12 then b (i / 2 * 3 + i % 2) * 16 + bitsOf (b (i / 2 * 3 + 2)) (4 * (i % 2) + 3) (4 * (i % 2))
  else if bits = 14 then
    let g := i / 4 * 7
    let low := b (g + 4) + 256 * b (g + 5) + 65536 * b (g + 6)
    b (g + i % 4) * 64 + bitsOf low (6 * (i % 4) + 5) (6 * (i % 4))
  else if bits = 16 then b (2 * i) * 256 + b (2 * i + 1)
  else Config.rawPixel bits bs i % 2 ^ bits

/-- The bytes that a line takes in the source ring: 16-bit raw codes, or B, G, R bytes. -/
def State.ringLine (s : State) (x : Nat) (bs : List Byte) : List Byte :=
  if s.camFmt x = 2 then bs.take (3 * s.camSW x)
  else (upTo (s.camSW x)).flatMap (fun i => leBytes 2 (rawPixel (s.camBits x) bs i))

/-- Rows of a source ring as read: row and bytes. -/
abbrev SrcRows := List (Nat × List (Byte × Bool))

/-- Read rows lo to hi of a stream's source ring. -/
def State.readRows (s : State) (x lo hi : Nat) : SrcRows × State :=
  (upTo (hi + 1 - lo)).foldl (fun (a : SrcRows × State) i =>
    let (bs, t) := a.2.hubRead 2 (a.2.ringAt x (lo + i)) (a.2.camSW x * a.2.camBpp x)
    (a.1 ++ [(lo + i, bs)], t)) ([], s)

/-- A number of `n` bytes of a row, with its poison. -/
def rowNum (rs : SrcRows) (y o n : Nat) : Nat × Bool :=
  let bs := (((lookup rs y).getD []).drop o).take n
  (leNat (bs.map (fun b => b.1)), bs.any (fun b => b.2))

/-- q of a Bayer or mono pixel; outside the image the nearest pixel inside. -/
def State.camQ (s : State) (x : Nat) (rs : SrcRows) (px py : Int) : Nat × Bool :=
  let cx := (max 0 (min px (((s.camSW x - 1 : Nat) : Int)))).toNat
  let cy := (max 0 (min py (((s.camSH x - 1 : Nat) : Int)))).toNat
  let (w, p) := rowNum rs cy (2 * cx) 2
  (w * 2 ^ (16 - s.camBits x) - s.fld (regCam x 0) 15 0, p)

/-- The colour of a source pixel inside the image: (R, G, B) and poison. -/
def State.camRgb (s : State) (x : Nat) (rs : SrcRows) (px py : Nat) : List Nat × Bool :=
  if s.camFmt x = 2 then
    let (b, p) := rowNum rs py (3 * px) 1
    let (g, q) := rowNum rs py (3 * px + 1) 1
    let (r, t) := rowNum rs py (3 * px + 2) 1
    ([r * 256, g * 256, b * 256], p || q || t)
  else
    let at_ := fun (dx dy : Int) => s.camQ x rs ((px : Int) + dx) ((py : Int) + dy)
    let (q, pq) := at_ 0 0
    if s.camFmt x = 1 then ([q, q, q], pq)
    else
      let cfa := s.fld (regCam x 0) 22 21
      let red := decide (px % 2 = (if cfa = 1 ∨ cfa = 3 then 1 else 0))
      let redRow := decide (py % 2 = (if cfa = 2 ∨ cfa = 3 then 1 else 0))
      let sum := fun (l : List (Int × Int)) => l.foldl (fun (a : Nat × Bool) d =>
        let w := at_ d.1 d.2
        (a.1 + w.1, a.2 || w.2)) (0, pq)
      let cross := sum [(0, -1), (0, 1), (1, 0), (-1, 0)]
      let diag := sum [(1, -1), (-1, -1), (1, 1), (-1, 1)]
      let horiz := sum [(1, 0), (-1, 0)]
      let vert := sum [(0, -1), (0, 1)]
      let c4 := (cross.1 + 2) / 4
      let d4 := (diag.1 + 2) / 4
      let h2 := (horiz.1 + 1) / 2
      let v2 := (vert.1 + 1) / 2
      if redRow && red then ([q, c4, d4], cross.2 || diag.2)
      else if !redRow && !red then ([d4, c4, q], cross.2 || diag.2)
      else if redRow then ([h2, q, v2], horiz.2 || vert.2)
      else ([v2, q, h2], horiz.2 || vert.2)

/-! ### Colour, tone and interpolation (R387, R388) -/

/-- The toned value of plane i of a colour. -/
def State.tone (s : State) (v i : Nat) (c : List Nat) : Int :=
  let m := fun (j : Nat) => s.half (regView v 0x40) (3 * i + j)
  let off := s.half (regView v 0x54) i
  let sum := (upTo 3).foldl (fun (a : Int) j => a + m j * ((c.getD j 0 : Nat) : Int)) 0
  let o := (max 0 (min 65535 ((sum + 2048) / 4096 + off))).toNat
  let t := fun (k : Nat) => s.half (regIp (0x8000 + 0x1000 * v + 0x400 * i)) k
  t (o / 256) + ((t (o / 256 + 1) - t (o / 256)) * ((o % 256 : Nat) : Int) + 128) / 256

/-- A toned source pixel: value, poison, FILL. -/
def State.tonedAt (s : State) (v i : Nat) (rs : SrcRows) (px py : Int) : Int × Bool × Bool :=
  let x := s.vStream v
  if px < 0 ∨ py < 0 ∨ ((s.camSW x : Nat) : Int) ≤ px ∨ ((s.camSH x : Nat) : Int) ≤ py then
    (s.half (regView v 0x5C) i, false, true)
  else
    let (c, p) := s.camRgb x rs px.toNat py.toNat
    (s.tone v i c, p, false)

/-- Output pixel (x, y) of plane i. -/
def State.pixel (s : State) (v i : Nat) (rs : SrcRows) (x y : Nat) : Int × Bool × Bool :=
  let (sx, sy) := s.srcAt v x y
  let ix := sx / 256
  let iy := sy / 256
  let fx := sx % 256
  let fy := sy % 256
  let a := s.tonedAt v i rs ix iy
  let b := s.tonedAt v i rs (ix + 1) iy
  let c := s.tonedAt v i rs ix (iy + 1)
  let d := s.tonedAt v i rs (ix + 1) (iy + 1)
  ((a.1 * (256 - fx) * (256 - fy) + b.1 * fx * (256 - fy) + c.1 * (256 - fx) * fy + d.1 * fx * fy + 32768) / 65536,
    a.2.1 || b.2.1 || c.2.1 || d.2.1, a.2.2 || b.2.2 || c.2.2 || d.2.2)

/-! ### Groups (R389, R397) -/

/-- A converted group: codes, scale, SAT, UNF, POI. -/
structure GroupOut where
  codes : List Nat
  scale : Nat
  sat : Bool
  unf : Bool
  poi : Bool
  deriving DecidableEq, Repr

/-- A poisoned group of n elements. -/
def GroupOut.bad (n : Nat) : GroupOut := ⟨List.replicate n 0, 0xFF, false, false, true⟩

/-- Convert the members of a group (value, hash of stochastic rounding) with format f, zero point z, rounding and scale. -/
def convGroup (f rnd : Nat) (z : Int) (scale : Nat) (ms : List (Frac × Nat)) : GroupOut :=
  let es := ms.map (fun m => convElem f rnd z m.2 m.1 scale)
  ⟨es.map (fun e => e.1), scale, es.any (fun e => e.2.1), es.any (fun e => e.2.2), false⟩

/-- A view's group through the pipeline's Sluice. -/
def viewGroup (entry fb : Nat) (fixed : Option Nat) (ms : List (Int × Bool)) (hash : Nat → Nat) : GroupOut :=
  let c := entryPar entry false
  if ms.any (fun m => m.2) ∨ 4 ≤ c.ofmt ∨ c.rnd = 3 then GroupOut.bad ms.length
  else
    let z := zpOf c.ofmt c.zp
    let xs := ms.map (fun m => rescaleX c fb ⟨m.1, false, 0, false, false⟩)
    let scale := match fixed with
      | some k => k
      | none => findScale c.ofmt (xs.map (fun x => (x, z))) false
    if scale = 0xFF then GroupOut.bad ms.length
    else convGroup c.ofmt c.rnd z scale ((xs.zip (upTo xs.length)).map (fun e => (e.1, hash e.2)))

/-- A zero group of an entry. -/
def zeroGroup (entry n : Nat) : GroupOut :=
  let c := entryPar entry false
  convGroup (if c.ofmt < 4 then c.ofmt else 0) 0 (zpOf c.ofmt c.zp) 0 (List.replicate n ((⟨0, 1⟩ : Frac), 0))

/-- Two codes a byte (R9). -/
def packNibs : List Nat → List Byte
  | a :: b :: r => BitVec.ofNat 8 (a % 16 + 16 * (b % 16)) :: packNibs r
  | [a] => [BitVec.ofNat 8 (a % 16)]
  | [] => []

/-- Bytes `n` of a row of elements. -/
def rowBytes (gs : List GroupOut) (n : Nat) : List (Byte × Bool) :=
  let bs := packNibs (gs.flatMap (fun g => g.codes))
  (bs.take n ++ List.replicate (n - bs.length) 0).map (fun b => (b, false))

/-- Where a ring lies and what a slot holds (R390). -/
structure RingGeo where
  ctx : Nat
  space : Nat
  obase : Nat
  sbase : Nat
  tbase : Nat
  npl : Nat
  sr : Nat
  ow : Nat
  g : Nat
  slots : Nat
  deriving DecidableEq, Repr

def RingGeo.rowB (r : RingGeo) : Nat := ceilDiv r.ow 64 * 32
def RingGeo.rowS (r : RingGeo) : Nat := ceilDiv r.ow r.g
def RingGeo.slotB (r : RingGeo) : Nat := r.npl * r.sr * r.rowB
def RingGeo.slotS (r : RingGeo) : Nat := 32 * ceilDiv (r.npl * r.sr * r.rowS) 32

/-- Write a slot: rows (plane x SR + row) of groups. -/
def State.writeSlot (s : State) (r : RingGeo) (k : Nat) (rows : List (List GroupOut)) : State :=
  (rows.zip (upTo rows.length)).foldl (fun (s : State) e =>
    let s := s.writeFor r.ctx r.space (r.obase + k * r.slotB + e.2 * r.rowB) (rowBytes e.1 r.rowB)
    s.writeFor r.ctx r.space (r.sbase + k * r.slotS + e.2 * r.rowS)
      (e.1.map (fun g => (BitVec.ofNat 8 g.scale, false)))) s

/-- A tag (Table 13.6). -/
def tagBytes (stream view flags frame stripe rows status : Nat) (time : List Byte) (seq slot : Nat) : List Byte :=
  leBytes 2 stream ++ leBytes 1 view ++ leBytes 1 flags ++ leBytes 4 frame ++ leBytes 2 stripe ++ leBytes 2 rows
    ++ leBytes 4 status ++ time ++ leBytes 8 seq ++ leBytes 4 slot ++ List.replicate 20 0

/-- A free time stamp: of a stripe or sector that read no input (log entry 21). -/
def State.freeTime (s : State) : List Byte × State :=
  let (v, s) := s.free (2 ^ 112)
  (leBytes 14 v ++ leBytes 2 0, s)

/-! ### Stripes (R389 to R393) -/

def State.viewGeo (s : State) (v : Nat) : RingGeo :=
  ⟨s.vCtx v, s.vSpace v, s.addr49 (regView v 0x14) 5, s.addr49 (regView v 0x20) 5, s.addr49 (regView v 0x28) 6, s.vNpl v,
    s.vSR v, s.vOW v, s.vG v, s.vSlots v⟩

/-- The status of a stream's frame as known now (R393): the flags at the port, or the status word of its close. -/
def State.frameStatus (s : State) (x frame : Nat) : Nat :=
  let c := s.cam x
  match (s.buf (portOf x)).find? (fun b => b.kind = .close ∧ b.stream = x ∧ b.frame = frame) with
  | some b => b.status
  | none => if c.isOpen = true ∧ c.frame.toNat = frame then statusWord c.flags c.lines else 2 ^ 31

/-- The rows of groups of a stripe: converted, or poisoned. -/
def State.stripeData (s : State) (v n frame : Nat) (rs : SrcRows) (bad : Bool) : List (List GroupOut) × Bool :=
  let g := s.vG v
  let ow := s.vOW v
  let ng := ceilDiv ow g
  let fixed := if s.fld (regView v 0) 9 9 = 1 then some (s.fld (regView v 0x3C) 7 0) else none
  let fb := s.fld (regView v 0) 7 4
  let key := (s.reg (regView v 0x64)).toNat
  let seed := (s.reg (regView v 0x68)).toNat
  let rows := (upTo (s.vNpl v)).flatMap (fun p => (upTo (s.vSR v)).map (fun r =>
    let y := n * s.vSR v + r
    let entry := (s.reg (regView v (0x30 + 4 * p))).toNat
    if bad then ((upTo ng).map (fun _ => GroupOut.bad g), false)
    else if s.vOH v ≤ y then ((upTo ng).map (fun _ => zeroGroup entry g), false)
    else
      let px := (upTo ow).map (fun x => s.pixel v p rs x y)
      ((upTo ng).map (fun u =>
        let ms := (upTo g).map (fun i =>
          let e := px.getD (u * g + i) (0, false, false)
          (e.1, e.2.1))
        viewGroup entry fb fixed ms (fun i =>
          stochR key seed ((((frame * s.vNpl v + p) * s.vOH v + y) * ow + u * g + i) % 2 ^ 32))),
        px.any (fun e => e.2.2))))
  (rows.map (fun r => r.1), rows.any (fun r => r.2))

/-- Emit stripe n of view v of the open frame: data, scales, tag, counters, Gauge event. `cap` is the capture whose
arrival made it ready, `seq` its number. -/
def State.emitStripe (s : State) (v n : Nat) (bad : Bool) (cap seq : Nat) : State :=
  let x := s.vStream v
  let p := s.pipe x
  let (lo, hi) := s.needRows v n
  let geo := s.viewGeo v
  let k := (p.frame * s.vStripes v + n) % geo.slots
  let (rs, s) := if bad then ([], s) else s.readRows x lo hi
  let (rows, fill) := s.stripeData v n p.frame rs bad
  let gs := rows.flatten
  let sat := gs.any (fun g => g.sat)
  let unf := gs.any (fun g => g.unf)
  let poi := gs.any (fun g => g.poi)
  let used := p.groups.filter (fun g => decide (g.1 ≤ hi ∧ lo < g.1 + g.2.1))
  let (time, s) := match used with
    | [] => s.freeTime
    | g :: r => (timeBytes (r.foldl (fun (a : Nat) (y : Nat × Nat × Nat × Nat) => min a y.2.2.1) g.2.2.1), s)
  let st := s.frameStatus x p.frame
  let valid := !poi && decide (2 ^ 31 ≤ st)
  let bit := fun (b : Bool) (i : Nat) => if b then 2 ^ i else 0
  let flags := bit valid 0 + bit poi 2 + bit fill 3 + bit sat 4 + bit unf 5
  let tag := tagBytes x v flags p.frame n (s.stripeRows v n).length st time seq k
  let s := (s.writeSlot geo k rows).writeFor geo.ctx geo.space (geo.tbase + 64 * k) (tag.map (fun b => (b, false)))
  let s := s.orReg (regIp 0x10) (bit sat 12 + bit unf 13 + bit poi 14)
  let s := s.count (regView v 0x6C) 31 16
  let w := s.view v
  let s := s.setView v { w with emitted := w.emitted ++ [n], tags := w.tags.set k tag }
  let s := if bad then s.sendLimited (viewSrc v) 0x65 p.frame else s
  let e := ((s.rcd.hist.find? (fun (h : RecEntry) => h.seq = seq)).map (fun (h : RecEntry) => h.time)).getD s.now
  s.gaugeSee [3] v (fun q => decide (q = n ∨ q = 0xFFFF)) e cap false

/-- The views of a stream's open frame. -/
def State.frameViews (s : State) (x : Nat) : List Nat := (s.pipe x).views

/-- Unemitted stripes of the open frame of a stream. -/
def State.unemitted (s : State) (x : Nat) : List (Nat × Nat) :=
  (s.frameViews x).flatMap (fun v => ((upTo (s.vStripes v)).filter (fun n => !(s.view v).emitted.contains n)).map (fun n => (v, n)))

/-- The index and capture of the admitted group that brought row hi. -/
def PipeSt.readyBy (p : PipeSt) (hi : Nat) : Option (Nat × Nat) :=
  (p.groups.zip (upTo p.groups.length)).findSome? (fun g =>
    if hi < g.1.1 + g.1.2.1 then some (g.2, g.1.2.2.2) else none)

/-- The stripe of a stream that emerges next: its view, number and capture (R391). -/
def State.nextStripe (s : State) (x : Nat) : Option (Nat × Nat × Nat) :=
  let p := s.pipe x
  let c := (s.unemitted x).filterMap (fun e => (p.readyBy (s.needRows e.1 e.2).2).map (fun r => (r.1, e.1, e.2, r.2)))
  c.foldl (fun (b : Option (Nat × Nat × Nat × Nat)) e =>
    match b with
    | none => some e
    | some a => if e.1 < a.1 then some e else some a) none |>.map (fun e => e.2)

/-- STRIPE_READY: the next ready stripe of a stream is processed once its record has its number. -/
def doStripeReady (x : Nat) (s : State) : State :=
  match s.nextStripe x with
  | none => s
  | some (v, n, cap) =>
    match s.capSeq cap with
    | none => s
    | some seq => s.emitStripe v n false cap seq

/-- A frame opens in the pipeline. -/
def State.pipeOpen (s : State) (x frame : Nat) : State :=
  let vs := (upTo 32).filter (fun v => s.vOn v && decide (s.vStream v = x))
  let s := vs.foldl (fun (s : State) v => s.setView v { s.view v with emitted := [], tags := ⟨[]⟩ }) s
  s.setPipe x ⟨true, frame, [], vs⟩

/-- Does an unemitted stripe need a row that a group overwrites (R385)? -/
def State.ringBusy (s : State) (x first n : Nat) : Bool :=
  let q := s.camRows x
  (s.unemitted x).any (fun e =>
    let (lo, hi) := s.needRows e.1 e.2
    (upTo n).any (fun i => decide (q ≤ first + i ∧ lo ≤ first + i - q ∧ first + i - q ≤ hi)))

/-- LINE_GROUP_ADMISSION: the head of a camera port's buffer is judged and enters its source ring. -/
def doLineGroupAdmission (port : Nat) (s : State) : State :=
  match s.buf port with
  | [] => s
  | b :: r =>
    if b.kind ≠ .group ∨ 16 ≤ port then s
    else
      let x := b.stream
      let on := decide (s.fld (regCam x 0) 31 31 = 1)
      let s := if on && !(decide ((s.pipe x).isOpen = true ∧ (s.pipe x).frame = b.frame)) then s.pipeOpen x b.frame else s
      if on && s.ringBusy x b.first b.n then s
      else
        match s.judge b with
        | some cause => (s.noteAge b).weirDrop b cause
        | none =>
          let s := ((s.noteAge b).setBuf port r).fbGroup b
          if !on then s
          else
            let len := b.bytes.length / max 1 b.n
            let s := (upTo b.n).foldl (fun (s : State) i =>
              s.hubPut 2 (s.ringAt x (b.first + i)) (s.ringLine x ((b.bytes.drop (i * len)).take len))) s
            let p := s.pipe x
            s.setPipe x { p with groups := p.groups ++ [(b.first, b.n, b.stamp, b.cap)] }

/-- Rewrite the tags of a view's frame at its close (R393). -/
def State.closeTags (s : State) (v st : Nat) : State :=
  let geo := s.viewGeo v
  (s.view v).tags.rows.foldl (fun (s : State) e =>
    let fl := (e.2.getD 3 0).toNat
    let fl' := (fl &&& 0xFC) ||| 2 ||| (if 2 ^ 31 ≤ st ∧ bitOf fl 2 = false then 1 else 0)
    let tag := (e.2.take 3) ++ leBytes 1 fl' ++ (e.2.drop 4).take 8 ++ leBytes 4 st ++ e.2.drop 16
    s.writeFor geo.ctx geo.space (geo.tbase + 64 * e.1) (tag.map (fun b => (b, false)))) s

/-- FRAME_CLOSE_EMIT: the close at the head of a camera port's buffer reaches the pipeline. -/
def doFrameCloseEmit (port : Nat) (s : State) : State :=
  match s.buf port with
  | [] => s
  | b :: r =>
    if b.kind ≠ .close ∨ 16 ≤ port then s
    else
      let x := b.stream
      match s.capSeq b.cap with
      | none => s
      | some cseq =>
        let s := s.fbClose b
        let s := if s.fld (regCam x 0) 31 31 = 1 ∧ ¬ ((s.pipe x).isOpen = true ∧ (s.pipe x).frame = b.frame) then
            s.pipeOpen x b.frame else s
        if (s.pipe x).isOpen = false then s.setBuf port r
        else
          let s := (s.unemitted x).foldl (fun (s : State) e =>
            let (_, hi) := s.needRows e.1 e.2
            match (s.pipe x).readyBy hi with
            | some (_, cap) => s.emitStripe e.1 e.2 false cap ((s.capSeq cap).getD cseq)
            | none => s.emitStripe e.1 e.2 true b.cap cseq) s
          let s := (s.frameViews x).foldl (fun (s : State) v =>
            let s := (s.closeTags v b.status).setReg (regView v 0x70) (BitVec.ofNat 32 b.frame)
            let w := s.view v
            let s := if w.off then s.setFld (regView v 0) 31 31 0 else s
            s.setView v ⟨[], ⟨[]⟩, false⟩) s
          let p := s.pipe x
          (s.setPipe x ⟨false, p.frame, [], []⟩).setBuf port r

/-! ### Enables (R394, R400) -/

/-- Does a range lie within a window of a context that may be written, with ACT = 2 in HBM (R394)? -/
def State.ringInWin (s : State) (ctx space off n : Nat) : Bool :=
  if space = 0 then (s.hbmWins ctx true).any (fun w => decide (w.2.2 = 2 ∧ w.1 ≤ off ∧ off + n ≤ w.2.1))
  else
    let w := s.hubWin ctx
    decide (w.1 ≤ off ∧ off + n ≤ w.2)

def State.ringsOk (s : State) (r : RingGeo) : Bool :=
  s.ringInWin r.ctx r.space r.obase (r.slots * r.slotB) && s.ringInWin r.ctx r.space r.sbase (r.slots * r.slotS)
    && s.ringInWin r.ctx r.space r.tbase (r.slots * 64)

/-- Is the set-up of a view refused? -/
def State.viewBad (s : State) (v : Nat) : Bool :=
  let x := s.vStream v
  let mw := s.fld (regView v 0xC) 31 24
  let mh := s.fld (regView v 0xC) 23 16
  let span := (upTo (s.vStripes v)).foldl (fun a n => max a ((s.needRows v n).2 + 1 - (s.needRows v n).1)) 0
  decide (s.fld (regView v 0) 11 10 = 3) || decide (s.vOW v = 0 ∨ 8192 < s.vOW v ∨ s.vOH v = 0 ∨ 16384 < s.vOH v)
    || decide (s.fld (regView v 8) 31 16 = 0 ∨ 1024 < s.fld (regView v 8) 31 16)
    || decide (s.fld (regView v 8) 6 0 = 0 ∨ 64 < s.fld (regView v 8) 6 0)
    || (!s.vIdent v && (decide (mw < 2 ∨ 128 < mw ∨ mh < 2 ∨ 128 < mh ∨ 12 < s.vCwl v ∨ 12 < s.vChl v)
      || decide ((mw - 1) * 2 ^ s.vCwl v < s.vOW v) || decide ((mh - 1) * 2 ^ s.vChl v < s.vOH v)))
    || decide (s.fld (regCam x 0) 31 31 = 0) || decide (s.fld (regCam x 8) 31 16 < span + 64)
    || !s.ringsOk (s.viewGeo v)

/-- VIEW_ENABLE: a write of a view's first register. -/
def doViewEnable (v : Nat) (w : Word32) (s : State) : State :=
  let r := regView v 0
  if s.vOn v then
    if bitOf w.toNat 31 then s.setView v { s.view v with off := false }
    else if (s.pipe (s.vStream v)).isOpen then s.setView v { s.view v with off := true }
    else s.setFld r 31 31 0
  else
    let t := s.setReg r (w &&& 0x00FFFFF0#32)
    if !bitOf w.toNat 31 then t
    else if t.viewBad v then t.sendEv (viewSrc v) 0x64 0 else t.setFld r 31 31 1

/-- MESH_LOAD: a write of IP_MSHCMD. The points are those of the lowest view that names the slot. -/
def doMeshLoad (w : Word32) (s : State) : State :=
  let slot := bitsOf w.toNat 3 0
  let s := s.setFld (regIp 4) 3 0 slot
  if !bitOf w.toNat 31 then s
  else
    let names := (upTo 32).filter (fun v => decide (s.fld (regView v 0) 17 14 = slot))
    match names with
    | [] => s
    | v :: _ =>
      match names.find? (fun u => s.vOn u && !s.vIdent u) with
      | some u => s.sendEv (viewSrc u) 0x64 0
      | none =>
        let n := s.fld (regView v 0xC) 31 24 * s.fld (regView v 0xC) 23 16
        let (bs, s) := s.hubRead 2 (s.fld (regIp 0) 24 3 * 8) (8 * n)
        let num := fun (o : Nat) => signed 32 (leNat (((bs.drop o).take 4).map (fun b => b.1)))
        { s with inp := { s.inp with mesh := s.inp.mesh.set slot ((upTo n).map (fun i => (num (8 * i), num (8 * i + 4)))) } }

/-! ### Lidar range images (R395 to R398) -/

def State.lid (s : State) (x : Nat) : LidSt := s.inp.lids.get x LidSt.reset
def State.setLid (s : State) (x : Nat) (l : LidSt) : State := { s with inp := { s.inp with lids := s.inp.lids.set x l } }
def State.lNch (s : State) (x : Nat) : Nat := s.fld (regLid x 0) 29 23 + 1
def State.lAzb (s : State) (x : Nat) : Nat := max 1 (s.fld (regLid x 0xC) 15 0)
def State.lSec (s : State) (x : Nat) : Nat := max 1 (s.fld (regLid x 0x10) 15 0)
def State.lIoff (s : State) (x : Nat) : Nat := s.fld (regLid x 0xC) 23 16
def State.lOn (s : State) (x : Nat) : Bool := s.fld (regLid x 0) 31 31 = 1

def State.lidGeo (s : State) (x : Nat) : RingGeo :=
  ⟨s.fld (regLid x 0x1C) 31 24, 0, s.addr49 (regLid x 0x20) 5, s.addr49 (regLid x 0x28) 5, s.addr49 (regLid x 0x30) 6,
    if s.lIoff x = 0xFF then 2 else 3, s.lNch x, s.lSec x, gsOf (s.fld (regLid x 0) 17 16), max 1 (s.fld (regLid x 0x38) 9 0)⟩

/-- The three planes' groups of one channel row and group of bins (R397): ranges and intensities of the bins. -/
def lidGroup (resc resci : Nat) (rs is : List Nat) (hash : Nat → Nat → Nat) : GroupOut × GroupOut × GroupOut :=
  let gain := fun (e : Nat) (raw : Nat) => rescaleX { entryPar e false with negz := false } 0 ⟨raw, false, 0, true, false⟩
  let c := entryPar resc false
  let xs := rs.map (gain resc)
  let n := rs.length
  let inten :=
    let ci := entryPar resci false
    if ci.rnd = 3 then GroupOut.bad n
    else
      let ys := is.map (gain resci)
      convGroup 1 ci.rnd 0 (findScale 1 (ys.map (fun y => (y, 0))) false) ((ys.zip (upTo n)).map (fun e => (e.1, hash 2 e.2)))
  if c.rnd = 3 then (GroupOut.bad n, GroupOut.bad n, inten)
  else
    let sc := findScale 1 (xs.map (fun y => (y, 0))) false
    let co := convGroup 1 c.rnd 0 sc ((xs.zip (upTo n)).map (fun e => (e.1, hash 0 e.2)))
    let v := sc8Val sc
    let res := (xs.zip co.codes).map (fun e =>
      e.1.add (if sc = 0 then (⟨0, 1⟩ : Frac) else ⟨-((e.2 : Int) * v.num), v.den⟩))
    let sf := findScale 0 (res.map (fun y => (y, 0))) false
    (co, convGroup 0 c.rnd 0 sf ((res.zip (upTo n)).map (fun e => (e.1, hash 1 e.2))), inten)

/-- Emit a sector: returns, status flags (Table 13.9) and its time; `seq`: none where no record closed it. -/
def State.emitSector (s : State) (x rev n : Nat) (vals : List (Nat × Nat × Nat × Nat)) (flags pkts : Nat) (stamp : Option Nat)
    (seq : Option Nat) : State :=
  let geo := s.lidGeo x
  let k := (rev * (s.lAzb x / s.lSec x) + n) % geo.slots
  let key := (s.reg (regLid x 0x3C)).toNat
  let seed := (s.reg (regLid x 0x40)).toNat
  let resc := (s.reg (regLid x 0x14)).toNat
  let resci := (s.reg (regLid x 0x18)).toNat
  let ng := ceilDiv geo.ow geo.g
  let val := fun (ch bin : Nat) => ((vals.find? (fun v => v.1 = ch ∧ v.2.1 = bin)).map (fun v => v.2.2)).getD (0, 0)
  let rows := (upTo geo.sr).map (fun ch => (upTo ng).map (fun u =>
    let bins := (upTo geo.g).map (fun i => n * geo.ow + u * geo.g + i)
    lidGroup resc resci (bins.map (fun b => (val ch b).1)) (bins.map (fun b => (val ch b).2)) (fun p i =>
      stochR key seed (((p * geo.sr + ch) * s.lAzb x + bins.getD i 0) % 2 ^ 32))))
  let all := rows.map (fun r => r.map (fun g => g.1)) ++ rows.map (fun r => r.map (fun g => g.2.1))
    ++ (if geo.npl = 3 then rows.map (fun r => r.map (fun g => g.2.2)) else [])
  let gs := all.flatten
  let bit := fun (b : Bool) (i : Nat) => if b then 2 ^ i else 0
  let poi := gs.any (fun g => g.poi)
  let sat := gs.any (fun g => g.sat)
  let unf := gs.any (fun g => g.unf)
  let st := (if flags = 0 then 2 ^ 31 else flags) + min 65535 pkts
  let (time, s) := match stamp with
    | some t => (timeBytes t, s)
    | none => s.freeTime
  let (sq, s) := match seq with
    | some q => (q, s)
    | none => s.free (2 ^ 64)
  let fl := bit (decide (flags = 0) && !poi) 0 + 2 + bit poi 2 + bit sat 4 + bit unf 5 + 64
  let tag := tagBytes x 0xFF fl rev n geo.sr st time sq k
  let s := (s.writeSlot geo k all).writeFor geo.ctx geo.space (geo.tbase + 64 * k) (tag.map (fun b => (b, false)))
  (s.orReg (regIp 0x10) (bit sat 12 + bit unf 13 + bit poi 14)).count (regLid x 0x44) 31 16

/-- Close the open sector of a lidar stream. -/
def State.closeSector (s : State) (x extra : Nat) (seq : Option Nat) : State :=
  let l := s.lid x
  match l.sector with
  | none => s
  | some n =>
    let s := s.emitSector x l.rev n l.vals (l.flags ||| extra) l.pkts l.stamp seq
    s.setLid x { l with sector := none, vals := [], stamp := none, flags := 0, pkts := 0, closed := l.closed ++ [n] }

/-- Emit passed-over sectors empty with MISSING. -/
def State.missed (s : State) (x rev a b : Nat) (seq : Option Nat) : State :=
  (upTo (b - a)).foldl (fun (s : State) i =>
    let s := s.emitSector x rev (a + i) [] 0x10000000 0 none seq
    let l := s.lid x
    s.setLid x { l with closed := l.closed ++ [a + i] }) s

/-- Keep the smallest non-zero range of a channel and bin (R396). -/
def keepReturn (ch bin r i : Nat) : List (Nat × Nat × Nat × Nat) → List (Nat × Nat × Nat × Nat)
  | [] => [(ch, bin, r, i)]
  | e :: t => if e.1 = ch ∧ e.2.1 = bin then (if r < e.2.2.1 then (ch, bin, r, i) :: t else e :: t)
    else e :: keepReturn ch bin r i t

/-- Is angle A crossed from a' to a (R419)? -/
def crossed (A a' a : Nat) : Bool :=
  let arc := (a + 36000 - a') % 36000
  let d := (A % 36000 + 36000 - a') % 36000
  decide (arc < 18000 ∧ 1 ≤ d ∧ d ≤ arc)

/-- The next revolution of a stream begins; `l` is the stream as it was. -/
def State.revStart (s : State) (x : Nat) (l : LidSt) : State :=
  s.setLid x { s.lid x with rev := (l.rev + 1) % 2 ^ 32, closed := [] }

/-- The stream moves on to sector n, over the end of a revolution where `wrap` says so: the open sector closes, those passed
over are emitted empty; `l` is the stream as it was. -/
def State.toSector (s : State) (x seq n total : Nat) (wrap : Bool) (l : LidSt) : State :=
  let s := s.closeSector x 0 (some seq)
  let s := match l.sector with
    | none => if wrap then s.revStart x l else s
    | some o =>
      if wrap then
        ((s.missed x l.rev (o + 1) total (some seq)).revStart x l).missed x ((l.rev + 1) % 2 ^ 32) 0 n (some seq)
      else s.missed x l.rev (o + 1) n (some seq)
  s.setLid x { s.lid x with sector := some n }

/-- Parse block i of a packet (R395, R396). -/
def State.lidBlock (s : State) (x : Nat) (b : BufItem) (seq i : Nat) (fresh : Bool) : Bool × State :=
  let pl := b.bytes.drop b.off
  let base := s.fld (regLid x 4) 15 0 + i * s.fld (regLid x 4) 31 16
  let rb := if s.fld (regLid x 0) 30 30 = 1 then 4 else 2
  let nch := s.lNch x
  let chAt := fun (ch : Nat) => base + s.fld (regLid x 8) 31 16 + ch * s.fld (regLid x 0xC) 31 24
  let azAt := base + s.fld (regLid x 8) 15 0
  let ioff := s.lIoff x
  let fits := decide (azAt + 2 ≤ pl.length) && (upTo nch).all (fun ch => decide (chAt ch + rb ≤ pl.length)
    && (decide (ioff = 0xFF) || decide (chAt ch + ioff < pl.length)))
  let az := fieldAt pl azAt 2
  if !fits ∨ 36000 ≤ az then
    let l := s.lid x
    let s := if l.sector.isSome then s.setLid x { l with flags := l.flags ||| 0x4000000 } else s
    (fresh, (s.bump (regLid x 0x44) 15 0 1).sendLimited (streamSrc x) 0x66 b.frame)
  else
    let l := s.lid x
    let s := match l.az with
      | none => s
      | some a' => s.gaugeSee [1, 4] x (fun p => crossed p a' az) b.stamp b.cap false
    let bin := az * s.lAzb x / 36000
    let n := bin / s.lSec x
    let wrap := match l.bin with
      | none => false
      | some p => decide (bin + s.lAzb x / 2 < p)
    let total := s.lAzb x / s.lSec x
    let s := s.setLid x { s.lid x with az := some az, bin := some bin }
    if !wrap && l.closed.contains n && decide (l.sector ≠ some n) then
      let l := s.lid x
      (fresh, if l.sector.isSome then s.setLid x { l with flags := l.flags ||| 0x8000000 } else s)
    else
      let same := !wrap && decide (l.sector = some n)
      let s := if same then s else s.toSector x seq n total wrap l
      let fresh := fresh || !same
      let l := s.lid x
      let none_ := 2 ^ (8 * rb) - 1
      let vals := (upTo nch).foldl (fun vs ch =>
        let r := fieldAt pl (chAt ch) rb
        if r = 0 ∨ r = none_ then vs
        else keepReturn ch bin r (if ioff = 0xFF then 0 else fieldAt pl (chAt ch + ioff) 1) vs) l.vals
      let stamp := match l.stamp with | none => b.stamp | some t => min t b.stamp
      (false, s.setLid x { l with vals := vals, stamp := some stamp, pkts := l.pkts + (if fresh then 1 else 0) })

/-- Footbridge's own parser (R497, with the fields that it copied at its enable: first, second and third register of the
stream): the azimuths of a packet of stream LSTR, the oldest stamp and whether every block of the revolution was read;
where the azimuth falls by half a turn or more, the revolution is complete. -/
def State.fbPacket (s : State) (b : BufItem) : State :=
  if s.fld (regKs 0xA00) 31 31 = 0 ∨ s.fld (regKs 0xA00) 22 16 ≠ b.stream then s
  else
    let w := fun (i : Nat) => (s.saf.lidCopy.getD i 0).toNat
    let pl := b.bytes.drop b.off
    (upTo (bitsOf (w 0) 22 18 + 1)).foldl (fun (s : State) i =>
      let at_ := bitsOf (w 1) 15 0 + i * bitsOf (w 1) 31 16 + bitsOf (w 2) 15 0
      let az := fieldAt pl at_ 2
      let good := decide (at_ + 2 ≤ pl.length ∧ az < 36000)
      match s.saf.fbAz with
      | none => { s with saf := { s.saf with fbAz := if good then some (az, b.stamp, false) else none } }
      | some (a, t, ok) =>
        if !good then { s with saf := { s.saf with fbAz := some (a, min t b.stamp, false) } }
        else if az + 18000 < a then
          { s with saf := { s.saf with fbAz := some (az, b.stamp, true), fbRev := some (t, ok) } }
        else { s with saf := { s.saf with fbAz := some (az, min t b.stamp, ok) } }) s

/-- LIDAR_BLOCK: the packet at the head of a lidar port's buffer is judged and parsed once its record has its number. -/
def doLidarBlock (p : Nat) (s : State) : State :=
  match s.buf (16 + p) with
  | [] => s
  | b :: r =>
    match s.capSeq b.cap with
    | none => s
    | some seq =>
      match s.judge b with
      | some cause => (s.noteAge b).weirDrop b cause
      | none =>
        let s := ((s.noteAge b).setBuf (16 + p) r).fbPacket b
        let x := b.stream
        if !s.lOn x then s
        else
          ((upTo (s.fld (regLid x 0) 22 18 + 1)).foldl (fun (a : Bool × State) i => a.2.lidBlock x b seq i a.1) (true, s)).2

/-- Is the set-up of a lidar stream refused (Table 13.11, R394)? -/
def State.lidBad (s : State) (x : Nat) : Bool :=
  let azb := s.fld (regLid x 0xC) 15 0
  let sec := s.fld (regLid x 0x10) 15 0
  let g := gsOf (s.fld (regLid x 0) 17 16)
  decide (s.fld (regLid x 0) 17 16 = 3 ∨ s.fld (regLid x 0xC) 31 24 < 2 ∨ azb < 64 ∨ 16384 < azb ∨ sec = 0 ∨ sec % g ≠ 0
    ∨ azb % max 1 sec ≠ 0 ∨ 16384 < s.lNch x * sec ∨ s.fld (regLid x 0x38) 9 0 = 0) || !s.ringsOk (s.lidGeo x)

/-- LIDAR_ENABLE: a write of a lidar stream's first register. -/
def doLidarEnable (x : Nat) (w : Word32) (s : State) : State :=
  let r := regLid x 0
  if s.lOn x then (if bitOf w.toNat 31 then s else (s.setFld r 31 31 0).setLid x LidSt.reset)
  else
    let t := s.setReg r (w &&& 0x7FFF0000#32)
    if !bitOf w.toNat 31 then t
    else if t.lidBad x then t.sendEv (streamSrc x) 0x64 0 else (t.setFld r 31 31 1).setLid x LidSt.reset

/-! ### Timeouts, links, enables of receivers (R354, R358, R366, R396) -/

/-- SENS_STREAM_TIMEOUT (R358, R366): once until the next FS or point packet. -/
def doSensStreamTimeout (x : Nat) (s : State) : State :=
  if s.mode = 2 then s
  else if x < 64 then
    let port := x / 4
    let c := s.cam x
    if s.fld (regAp port 0) 31 31 = 1 ∧ bitOf (s.fld (regAp port 0) 25 22) (x % 4) = true ∧ c.late = false
        ∧ c.seenAt + ticks100us (max 1 (s.fld (regAp port 8) 15 0)) ≤ s.ticks then
      (s.setCam x { c with late := true }).send (streamSrc x) 0x52 0 true []
    else s
  else
    let p := (x - 64) / 8
    let f := (x - 64) % 8
    let l := s.sens.lidSeen.get x (0, false)
    if s.fld (regLp p 0) 31 31 = 1 ∧ s.fld (regLp p (0x40 + 0x10 * f)) 31 31 = 1 ∧ l.2 = false
        ∧ l.1 + ticks100us (max 1 (s.fld (regLp p (0xC0 + 4 * f)) 15 0)) ≤ s.ticks then
      (({ s with sens := { s.sens with lidSeen := s.sens.lidSeen.set x (l.1, true) } }).send (streamSrc x) 0x52 0 true
        []).closeSector x 0x40000000 none
    else s

/-- The sectors of a lidar port close with TIMEOUT. -/
def State.closeSectors (s : State) (p : Nat) : State :=
  (upTo 8).foldl (fun (s : State) f => s.closeSector (64 + 8 * p + f) 0x40000000 none) s

/-- ETH_LINK: link loss of lidar port q, or of the Towpath (q = 4). -/
def doEthLink (q : Nat) (s : State) : State :=
  if !s.lqLink q then s
  else
    let s := (s.setFld (if q < 4 then regLp q 4 else regTw 0) 0 0 0).lqDropAll q
    let s := if q < 4 then s.closeSectors q else s
    s.send (portSrc (16 + q)) 0x55 0 true []

/-- ETH_LINK_UP. -/
def doEthLinkUp (q : Nat) (s : State) : State :=
  if s.lqLink q ∨ (q < 4 ∧ (s.fld (regLp q 0) 31 31 = 0 ∨ s.fences.contains (portSrc (16 + q)) = true)) then s
  else (s.setFld (if q < 4 then regLp q 4 else regTw 0) 0 0 1).send (portSrc (16 + q)) 0x55 0 false []

/-- RECEIVER_ENABLE: a write of AP_CFG (ports 0 to 15) or LP_CFG (16 to 19). -/
def doReceiverEnable (port : Nat) (v : Word32) (s : State) : State :=
  if port < 16 then
    let r := regAp port 0
    if s.fld r 31 31 = 1 then
      if bitOf v.toNat 31 then s
      else
        let s := if s.mode = 2 then s else s.closeAll port 0x80000
        (s.setFld r 31 31 0).setFld (regAp port 0x10) 2 0 0
    else
      let s := s.setReg r (v &&& 0x8FFF003F#32)
      if !bitOf v.toNat 31 then s
      else ((upTo 4).foldl (fun (s : State) c => s.setCam (4 * port + c) { CamSt.reset with seenAt := s.ticks }) s).camShow port
  else
    let p := port - 16
    let r := regLp p 0
    if s.fld r 31 31 = 1 then
      if bitOf v.toNat 31 then s else (((s.closeSectors p).setFld r 31 31 0).setFld (regLp p 4) 0 0 0).lqDropAll p
    else
      let s := s.setReg r (v &&& 0xC0000000#32)
      if !bitOf v.toNat 31 then s
      else (upTo 8).foldl (fun (s : State) f =>
        { s with sens := { s.sens with packets := s.sens.packets.set (64 + 8 * p + f) 0,
                                       lidSeen := s.sens.lidSeen.set (64 + 8 * p + f) (s.ticks, false) } }) s

end Sys2Proof.Machine
end

