-- ==== Sys2Proof/Machine/Gauge.lean ====
section
/-! DEFINITION. The Gauge scheduler (R418 to R429). -/

namespace Sys2Proof.Machine

def gaugeSrc (g : Nat) : Nat := 0x840 + g
def regGen (g o : Nat) : Nat := regGa (0x20 * g + o)
def regGst (g o : Nat) : Nat := regGa (0x800 + 0x10 * g + o)

def State.gen (s : State) (g : Nat) : GaGen := s.gauge.gens.get g ⟨0, 0, none⟩
def State.setGen (s : State) (g : Nat) (x : GaGen) : State := { s with gauge := { s.gauge with gens := s.gauge.gens.set g x } }
def State.gOn (s : State) (g : Nat) : Bool := s.fld (regGen g 0) 31 31 = 1
def State.gKind (s : State) (g : Nat) : Nat := s.fld (regGen g 0) 30 28

/-- A missed action or skipped instant. -/
def State.gMiss (s : State) (g : Nat) : State := (s.bump (regGst g 4) 15 0 1).sendLimited (gaugeSrc g) 0x6E g
/-- A late firing. -/
def State.gLate (s : State) (g : Nat) : State := (s.bump (regGst g 4) 31 16 1).sendLimited (gaugeSrc g) 0x6F g

/-! ### Actions (R420 to R422) -/

/-- FLAG: set the event flag in every running cluster of the context; one MISS where one of them has it set (R421). -/
def State.gFlag (s : State) (g : Nat) : State :=
  let e := s.fld (regGen g 0) 24 19
  let ctx := s.fld (regGen g 0) 7 0
  let ks := (upTo 64).filter (fun k => decide ((s.cl k).seq.st = .running ∧ (s.cl k).seq.ctx = ctx))
  let hit := ks.any (fun k => bitOf (s.cl k).seq.gflags.toNat e)
  let s := ks.foldl (fun (s : State) k => s.updSeq k (fun q =>
    { q with gflags := q.gflags ||| BitVec.ofNat 64 (2 ^ e), flagsSeen := q.flagsSeen ||| BitVec.ofNat 64 (2 ^ e) })) s
  if hit then s.gMiss g else s

/-- A step of a standing RUN of a context and slot starts, is held, or is missed (R422): true where it is missed. -/
def State.takeStep (s : State) (ctx slot horizon e t : Nat) : Bool × State :=
  match s.runs.find? (fun (r : RunRec) => decide (r.ctx = ctx ∧ r.slot = slot) && r.standing) with
  | none => (true, s)
  | some r =>
    let hold := fun (s : State) => s.updRun r.ctx r.seq (fun x => { x with held := some (horizon, e) })
    if r.step.active then (if r.held.isSome then (true, s) else (false, hold s))
    else
      let (ok, s) := s.startStep r horizon e t
      (false, if ok then s else hold s)

/-- The STEP action. -/
def State.gStep (s : State) (g horizon e t : Nat) : State :=
  let (miss, s) := s.takeStep (s.fld (regGen g 0) 7 0) (s.fld (regGen g 0) 18 15) horizon e t
  if miss then s.gMiss g else s

/-- A firing at E with a horizon: FIRES, FLAG, STEP; steps start in c-cycle t. -/
def State.gFire (s : State) (g horizon e t : Nat) : State :=
  let s := s.count (regGst g 0) 31 0
  let x := s.gen g
  let s := s.setGen g { x with ePrev := e }
  let s := if s.fld (regGen g 0) 27 27 = 1 then s.gFlag g else s
  if s.fld (regGen g 0) 26 26 = 1 then s.gStep g horizon e t else s

/-! ### Horizons (R426) -/

/-- TIME of the record at RRD, where 48 bytes of it are there. -/
def State.peekTime (s : State) : Option Nat :=
  let size := max 1 s.ringSize
  let at_ := if size - s.rrd < 48 then 0 else s.rrd
  if (s.rwr + size - at_) % size < 48 then none
  else
    let b := s.bytes (memKey 0 (s.ringBase + at_)) 48
    some (fieldAt b 16 8 * oneS + fieldAt b 24 4 * oneNs + fieldAt b 28 2 * 2 ^ 16)

/-- The highest sequence number among records with TIME < E; where there is none, a constant without a body (log entry
22). -/
def State.lastBefore (s : State) (e : Nat) : Nat :=
  let l := s.rcd.hist.filter (fun (h : RecEntry) => decide (h.time < e))
  if l = [] then Config.emptyHorizon else l.foldl (fun a (h : RecEntry) => max a h.seq) 0

/-- The horizon of a TIME firing or fallback at E, where it can be decided (Table 14.3). -/
def State.timeHorizon (s : State) (e : Nat) : Option Nat :=
  if s.mode = 2 then
    match s.peekTime with
    | some t => if e ≤ t then some (s.lastBefore e) else none
    | none => none
  else if s.now < e then none
  else if s.strict then
    if s.rcd.waiting.any (fun (c : Capture) => decide (c.time < e)) then none else some (s.lastBefore e)
  else some (if s.rcd.next = 0 then Config.emptyHorizon else s.rcd.next - 1)

/-! ### Firings -/

/-- The instant T0 + k x PER. -/
def State.gInstant (s : State) (g k : Nat) : Nat :=
  ((s.reg (regGen g 0xC)).toNat + (s.reg (regGen g 0x14)).toNat * 2 ^ 32) * oneS + s.fld (regGen g 0x10) 29 0 * oneNs
    + k * (s.reg (regGen g 8)).toNat * oneNs

/-- TIME_FIRING. Where the time base has passed several instants, the last of them is the firing, and each of the others
counts one MISS (R425). -/
def doTimeFiring (g t : Nat) (s : State) : State :=
  if !s.gOn g ∨ s.gKind g ≠ 0 then s
  else
    let x := s.gen g
    let per := max 1 (s.reg (regGen g 8)).toNat * oneNs
    let first := s.gInstant g x.k
    let last := if s.now < first then x.k else x.k + (s.now - first) / per
    let e := s.gInstant g last
    match s.timeHorizon e with
    | none => s
    | some h =>
      let s := s.setGen g { x with k := last + 1 }
      let s := (upTo (last - x.k)).foldl (fun (s : State) _ => s.gMiss g) s
      s.gFire g h e t

/-- Take the first waiting event of a generator once its record has its number. -/
def State.gTake (s : State) (g : Nat) : Option (GaEvent × Nat) :=
  match s.gauge.events.find? (fun (e : GaEvent) => e.gen = g) with
  | none => none
  | some e => (s.capSeq e.cap).map (fun n => (e, n))

/-- Take an event off the list. -/
def dropEvent (e : GaEvent) : List GaEvent → List GaEvent
  | [] => []
  | x :: r => if x = e then r else x :: dropEvent e r

/-- A firing of a generator of a kind on its next event. -/
def State.gSensor (s : State) (kind g t : Nat) : Option (GaEvent × State) :=
  if !s.gOn g ∨ s.gKind g ≠ kind then none
  else
    match s.gTake g with
    | none => none
    | some (e, n) =>
      let s := { s with gauge := { s.gauge with events := dropEvent e s.gauge.events } }
      let s := if e.atClose then s.gLate g else s
      some (e, s.gFire g n e.e t)

/-- AZIMUTH_FIRING. -/
def doAzimuthFiring (g t : Nat) (s : State) : State := match s.gSensor 1 g t with | none => s | some (_, s) => s
/-- LINE_FIRING. -/
def doLineFiring (g t : Nat) (s : State) : State := match s.gSensor 2 g t with | none => s | some (_, s) => s
/-- STRIPE_FIRING. -/
def doStripeFiring (g t : Nat) (s : State) : State := match s.gSensor 3 g t with | none => s | some (_, s) => s

/-- PREDICT_FIRING (R423). -/
def doPredictFiring (g t : Nat) (s : State) : State :=
  match s.gSensor 4 g t with
  | none => s
  | some (e, s) =>
    let x := s.gen g
    let s := s.setGen g { x with eCross := some e.e }
    let trig := s.fld (regGen g 0) 25 25 = 1
    match x.eCross with
    | none => if trig then s.gMiss g else s
    | some e' =>
      let p := (e.e - e') / oneNs
      let s := s.setReg (regGst g 8) (BitVec.ofNat 32 p)
      if !trig then s
      else if 4000000000 < p then s.gMiss g
      else
        let d := (s.fld (regGen g 4) 31 16 + 36000 - s.fld (regGen g 4) 15 0 % 36000) % 36000
        let off := signed 32 (s.reg (regGen g 8)).toNat
        let T : Int := (e.e : Int) + (((d * p + 18000) / 36000 : Nat) : Int) * (oneNs : Int) + off * (oneNs : Int)
        doTriggerRequest (s.fld (regGen g 0x18) 31 28) T.toNat s

/-- FALLBACK (R424). -/
def doFallback (g t : Nat) (s : State) : State :=
  let dl := s.fld (regGen g 0x18) 15 0
  if !s.gOn g ∨ s.gKind g = 0 ∨ dl = 0 then s
  else
    let e := (s.gen g).ePrev + dl * 100000 * oneNs
    if s.gauge.events.any (fun (x : GaEvent) => decide (x.gen = g ∧ x.e ≤ e)) then s
    else
      match s.timeHorizon e with
      | none => s
      | some h => (s.gLate g).gFire g h e t

/-- HELD_STEP_START: the running step of a standing RUN has ended, and the held one starts in c-cycle t (R422). -/
def doHeldStepStart (c seq t : Nat) (s : State) : State :=
  match s.runs.find? (fun (r : RunRec) => decide (r.ctx = c ∧ r.seq = seq)) with
  | none => s
  | some r =>
    match r.held with
    | none => s
    | some (h, e) => if r.step.active then s else (s.startStep r h e t).2

/-! ### Enable and counters (R427, R429) -/

/-- Is the set-up of a generator refused? -/
def State.genBad (s : State) (g : Nat) : Bool :=
  let r := regGen g 0
  let kind := s.fld r 30 28
  let src := s.fld r 14 8
  let p0 := s.fld (r + 4) 15 0
  let p1 := s.fld (r + 4) 31 16
  decide (5 ≤ kind) || decide (kind = 0 ∧ src ≠ 0) || decide ((kind = 1 ∨ kind = 4) ∧ (src < 64 ∨ 95 < src))
    || decide (kind = 2 ∧ 15 < src) || decide (kind = 3 ∧ 31 < src)
    || decide ((kind = 1 ∨ kind = 4) ∧ (36000 ≤ p0 ∨ 36000 ≤ p1)) || decide (kind = 2 ∧ (p0 = 0 ∨ 16384 < p0))
    || decide (kind = 0 ∧ (s.reg (r + 8)).toNat < 10000) || decide (s.fld r 27 25 = 0)
    || decide (s.fld r 25 25 = 1 ∧ kind ≠ 4)
    || (decide (s.fld r 26 26 = 1) && (upTo 64).any (fun o => decide (o ≠ g) && s.gOn o
      && decide (s.fld (regGen o 0) 26 26 = 1 ∧ s.fld (regGen o 0) 7 0 = s.fld r 7 0
        ∧ s.fld (regGen o 0) 18 15 = s.fld r 18 15)))

/-- The first k whose instant is not past. -/
def State.firstK (s : State) (g : Nat) : Nat :=
  let per := max 1 (s.reg (regGen g 8)).toNat * oneNs
  let t0 := s.gInstant g 0
  if s.now ≤ t0 then 0 else ceilDiv (s.now - t0) per

/-- GAUGE_ENABLE: a write of a generator's first register. -/
def doGaugeEnable (g : Nat) (w : Word32) (s : State) : State :=
  let r := regGen g 0
  if s.gOn g then
    if bitOf w.toNat 31 then s
    else
      { s with gauge := { s.gauge with events := s.gauge.events.filter (fun (e : GaEvent) => e.gen ≠ g) } }.setFld r 31 31 0
  else
    let t := s.setReg r (w &&& 0x7FFFFFFF#32)
    if !bitOf w.toNat 31 then t
    else if t.genBad g then t.sendEv (gaugeSrc g) 0x70 g
    else (t.setGen g ⟨t.firstK g, t.now, none⟩).setFld r 31 31 1

/-- GA_CNTCLR. -/
def doGaCntclr (g : Nat) (s : State) : State := (s.setReg (regGst g 0) 0).setReg (regGst g 4) 0

/-- TB_CNTCLR and LQ_CNTCLR (Tables 14.6, 14.7). -/
def doTbCntclr (s : State) : State := s.setReg (regTb 0x58) 0
def doLqCntclr (q : Nat) (s : State) : State := (s.setFld (regLq q 0x14) 31 16 0).setFld (regLq q 0x14) 15 8 0

end Sys2Proof.Machine
end

