-- ==== Sys2Proof/Machine/Viaduct.lean ====
section
/-! DEFINITION. Viaduct: link layer, port states, routing, packets, job slots, epochs, CONFIRM and RETRACT (R430 to R455).
What aborts a job stands in Machine/ViaductOps.lean. -/

namespace Sys2Proof.Machine

/-! ### Ports (R433 to R436) -/

def vpSrc (p : Nat) : Nat := 0x900 + p
def jobSrc (j : Nat) : Nat := 0x910 + j
def routerSrc : Nat := 0x920
def regVp (p o : Nat) : Nat := regVd (0x100 + 0x40 * p + o)
def regJob (j o : Nat) : Nat := regVd (0x1000 + 0x80 * j + o)

def State.vp (s : State) (p : Nat) : VdPort := s.vd.ports.get p VdPort.reset
def State.setVp (s : State) (p : Nat) (x : VdPort) : State := { s with vd := { s.vd with ports := s.vd.ports.set p x } }

/-- Table 15.3: 0 DISABLED, 1 TRAIN, 2 UP, 3 RETRAIN, 4 DOWN, 5 MISWIRED, 6 BYPASSED. -/
def State.vpState (s : State) (p : Nat) : Nat := s.fld (regVp p 4) 31 29

/-- Enter a port state; leaving DOWN ends the level condition VD-PORT-DOWN. -/
def State.vpEnter (s : State) (p v : Nat) : State :=
  let was := s.vpState p
  let s := s.setFld (regVp p 4) 31 29 v
  let s := if was = 4 ∧ v ≠ 4 then s.send (vpSrc p) 0x7A p false [] else s
  if v = 4 then (s.setVp p { s.vp p with replay := [] }).send (vpSrc p) 0x7A p true [] else s

/-- Enter TRAIN afresh. -/
def State.vpTrain (s : State) (p : Nat) : State := (s.setVp p VdPort.reset).vpEnter p 1

/-- RETRAIN: the retry limit, or loss of FEC alignment. -/
def doRetrain (p : Nat) (s : State) : State :=
  if s.vpState p ≠ 2 then s
  else ((s.bump (regVp p 0xC) 31 16 1).vpEnter p 3).send (vpSrc p) 0x79 p true []

/-- Sizes of the torus. -/
def State.dimOf (s : State) (d : Nat) : Nat :=
  1 + (if d = 0 then s.fld (regVd 0) 15 12 else if d = 1 then s.fld (regVd 0) 19 16 else s.fld (regVd 0) 22 20)

/-- Coordinate d of a PID (R435). -/
def State.coord (s : State) (pid d : Nat) : Nat :=
  if d = 0 then pid % s.dimOf 0 else if d = 1 then pid / s.dimOf 0 % s.dimOf 1 else pid / (s.dimOf 0 * s.dimOf 1)

/-- The PID that lies `k` steps away in dimension d. -/
def State.shifted (s : State) (d k : Nat) : Nat :=
  let c := fun (e : Nat) => if e = d then (s.coord s.pid e + k) % s.dimOf e else s.coord s.pid e
  c 0 + s.dimOf 0 * (c 1 + s.dimOf 1 * c 2)

/-- The neighbour of port p (0 to 5): V0, V2, V4 plus; V1, V3, V5 minus. -/
def State.neighbour (s : State) (p : Nat) : Nat := s.shifted (p / 2) (if p % 2 = 0 then 1 else s.dimOf (p / 2) - 1)

/-- ROLE of a port: V0 to V5 have none. -/
def State.vpRole (s : State) (p : Nat) : Nat := if p < 6 then 0 else s.fld (regVp p 0) 29 28

/-- The PID and port that the identity check of a port expects (R435, R436). -/
def State.partner (s : State) (p : Nat) : Option (Nat × Nat) :=
  let port := if p % 2 = 0 then p + 1 else p - 1
  if p < 6 then some (s.neighbour p, port)
  else if s.vpRole p = 1 ∧ s.fld (regVp p 0) 27 25 < 6 then some (s.neighbour (s.fld (regVp p 0) 27 25), port)
  else if s.vpRole p = 2 ∧ s.fld (regVd 0) 24 23 < 3 then
    let d := s.fld (regVd 0) 24 23
    let e := s.fld (regVd 0) 28 25 % s.dimOf d
    some (s.shifted d (if p = 6 then e else s.dimOf d - e), port)
  else none

/-- PORT_ENABLE: a write of VP_CTL but for BYP. -/
def doPortEnable (p : Nat) (v : Word32) (s : State) : State :=
  let r := regVp p 0
  let on := s.fld r 31 31 = 1
  let s := if p < 6 then s else (s.setFld r 29 28 (bitsOf v.toNat 29 28)).setFld r 27 25 (bitsOf v.toNat 27 25)
  let s := if p < 6 then s.setFld r 27 25 (bitsOf v.toNat 27 25) else s
  if bitOf v.toNat 31 then
    if on then s else (s.setFld r 31 31 1).vpTrain p
  else if on then (((s.setFld r 31 31 0).setFld r 30 30 0).setVp p VdPort.reset).vpEnter p 0 else s

/-- BYP written. -/
def doByp (p : Nat) (on : Bool) (s : State) : State :=
  let s := s.setFld (regVp p 0) 30 30 (if on then 1 else 0)
  if on then (if s.vpState p = 2 then s.vpEnter p 6 else s)
  else if s.vpState p = 6 then s.vpTrain p else s

/-- TRAIN_RESULT: success with the identity that the partner sent, or a failed attempt. -/
def doTrainResult (p : Nat) (ok : Bool) (pid port : Nat) (s : State) : State :=
  if s.vpState p = 1 then
    if ok then
      let s := (s.setFld (regVp p 4) 28 26 port).setFld (regVp p 4) 25 15 pid
      if s.partner p = some (pid, port) then
        let s := s.vpEnter p 2
        if s.fld (regVp p 0) 30 30 = 1 then s.vpEnter p 6 else s
      else (s.vpEnter p 5).send (vpSrc p) 0x7B p true []
    else
      let x := s.vp p
      let s := s.setVp p { x with tries := x.tries + 1 }
      if 3 ≤ x.tries + 1 then s.vpEnter p 4 else s
  else if s.vpState p = 3 then
    if ok then
      let x := s.vp p
      (s.setVp p { x with replay := x.replay.map (fun f => (f.1, f.2.1, 0)) }).vpEnter p 2
    else s.vpEnter p 4
  else s

/-- Replay of every unacknowledged flit after `lack` (R433). -/
def State.vpReplay (s : State) (p lack : Nat) : State :=
  let x := s.vp p
  let acked := fun (q : Nat) => decide ((lack + 4096 - q) % 4096 < 2048)
  let left := (x.replay.filter (fun f => !acked f.1)).map (fun f => (f.1, f.2.1, f.2.2 + 1))
  let s := s.setVp p { x with replay := left }
  if left = [] then s
  else
    let s := (s.bump (regVp p 8) 31 16 left.length).sendLimited (vpSrc p) 0x78 p
    if left.any (fun f => decide (8 ≤ f.2.2)) then doRetrain p s else s

/-- NAK: the partner asks for replay from LACK + 1. -/
def doNak (p lack : Nat) (s : State) : State := if s.vpState p = 2 then s.vpReplay p lack else s

/-- Acknowledge flits up to LACK. -/
def State.vpAck (s : State) (p lack : Nat) : State :=
  let x := s.vp p
  s.setVp p { x with replay := x.replay.filter (fun f => decide (2048 ≤ (lack + 4096 - f.1) % 4096)) }

/-! ### Packets (R438, Table 15.4) -/

/-- Fields of a packet. -/
def pkDst (b : List Byte) : Nat := fieldAt b 0 2
def pkSrc (b : List Byte) : Nat := fieldAt b 2 2
def pkKind (b : List Byte) : Nat := fieldAt b 4 1
def pkGen (b : List Byte) : Nat := fieldAt b 5 1
def pkJob (b : List Byte) : Nat := fieldAt b 6 2
def pkEpoch (b : List Byte) : Nat := fieldAt b 8 4
def pkAtt (b : List Byte) : Nat := fieldAt b 12 1 % 16
def pkAux (b : List Byte) : Nat := fieldAt b 13 1
def pkDidx (b : List Byte) : Nat := fieldAt b 14 2
def pkMsg (b : List Byte) : Nat := fieldAt b 16 4
def pkLen (b : List Byte) : Nat := fieldAt b 20 2
def pkFlags (b : List Byte) : Nat := fieldAt b 22 1
def pkHops (b : List Byte) : Nat := fieldAt b 23 1
def pkAddr (b : List Byte) : Nat := fieldAt b 24 8

/-- A packet's header. -/
def pkHeader (dst src kind gen job epoch att aux didx msg len flags hops addr : Nat) : List Byte :=
  leBytes 2 dst ++ leBytes 2 src ++ leBytes 1 kind ++ leBytes 1 gen ++ leBytes 2 job ++ leBytes 4 epoch ++ leBytes 1 att
    ++ leBytes 1 aux ++ leBytes 2 didx ++ leBytes 4 msg ++ leBytes 2 len ++ leBytes 1 flags ++ leBytes 1 hops ++ leBytes 8 addr

/-- A reserved KIND or a zero-field that is not zero (R438). -/
def pkBad (b : List Byte) : Bool :=
  decide (b.length < 32 ∨ 2048 ≤ pkDst b ∨ pkKind b = 0 ∨ 6 < pkKind b ∨ 16 ≤ fieldAt b 12 1 ∨ 16 ≤ pkFlags b ∨ 2 ^ 49 ≤ pkAddr b)
    || decide ((pkKind b = 1 ∨ pkKind b = 2 ∨ pkKind b = 5) ∧ pkAux b ≠ 0)

/-- Put a packet on its way. -/
def State.inject (s : State) (vc : Nat) (b : List Byte) : State := { s with vd := { s.vd with transit := s.vd.transit ++ [(vc, b)] } }

/-- A PROTO drop (R438). -/
def State.vdProto (s : State) : State := (s.bump (regVd 8) 15 0 1).sendLimited routerSrc 0x7D 0

/-! ### Routing (R437) -/

/-- Is a port able to carry packets: UP, and not fenced? -/
def State.vpUp (s : State) (p : Nat) : Bool := decide (s.vpState p = 2)

/-- The port that carries a chosen port's packets: itself, or its spare. -/
def State.viaPort (s : State) (p : Nat) : Option Nat :=
  if s.vpUp p then some p
  else [6, 7].find? (fun q => decide (s.vpRole q = 1 ∧ s.fld (regVp q 0) 27 25 = p) && s.vpUp q)

/-- Remaining distance in dimension d. -/
def State.distTo (s : State) (dst d : Nat) : Nat := (s.coord dst d + s.dimOf d - s.coord s.pid d) % s.dimOf d

/-- The chosen port in dimension d in a direction, with the wrap link noted. -/
def State.dimPort (s : State) (dst d : Nat) (plus : Bool) : Nat × Bool :=
  let n := s.dimOf d
  let k := if plus then s.distTo dst d else n - s.distTo dst d
  let here := s.coord s.pid d
  let x := s.fld (regVd 0) 28 25
  let ex := if plus then 6 else 7
  if s.fld (regVd 0) 24 23 = d ∧ s.vpRole ex = 2 ∧ x ≤ k then
    (ex, if plus then decide (n ≤ here + x) else decide (here < x))
  else (2 * d + (if plus then 0 else 1), if plus then decide (here + 1 = n) else decide (here = 0))

/-- The route of a packet at this hop: port, whether it crosses a wrap link, and whether it is marked reversed. `pref` is
the dimension with the most free credits, for data packets while DET_STRICT is clear. -/
def State.route (s : State) (b : List Byte) (pref : Nat) : Option (Nat × Bool × Bool) :=
  let dst := pkDst b
  let open_ := (upTo 3).filter (fun d => decide (s.distTo dst d ≠ 0))
  let free := decide (pkKind b = 1) && !s.strict
  match (if free && open_.contains pref then some pref else open_.head?) with
  | none => none
  | some d =>
    let rev := bitOf (pkFlags b) 3
    let plus := xor (decide (2 * s.distTo dst d ≤ s.dimOf d)) rev
    let c := s.dimPort dst d plus
    match s.viaPort c.1 with
    | some p => some (p, c.2, rev)
    | none =>
      if rev then none
      else
        let c := s.dimPort dst d (!plus)
        (s.viaPort c.1).map (fun p => (p, c.2, true))

/-- Cut a packet into flit payloads of 248 bytes. -/
def cutFlits : Nat → List Byte → List (List Byte)
  | 0, _ => []
  | n + 1, b => (b.take 248 ++ List.replicate (248 - b.length) 0) :: cutFlits n (b.drop 248)

/-- A flit (R432). -/
def mkFlit (lseq lack vc : Nat) (nak sop eop : Bool) (pl : List Byte) : List Byte :=
  let bit := fun (b : Bool) (i : Nat) => if b then 2 ^ i else 0
  let h := lseq % 4096 * 2 ^ 20 + lack % 4096 * 256 + vc % 4 * 64 + bit nak 5 + bit sop 4 + bit eop 3
  let body := leBytes 4 h ++ pl
  body ++ leBytes 4 (crc32c body).toNat

/-- Free credits of a port for a VC (R432): the receiver holds 32 flits of the control VC and 256 of each data VC. -/
def VdPort.credits (x : VdPort) (vc : Nat) : Nat := (if vc = 0 then 32 else 256) - x.spent.get vc 0

/-- The credits that a link flit returns. -/
def State.creditBack (s : State) (p : Nat) (b : List Byte) : State :=
  let x := s.vp p
  s.setVp p { x with spent := (upTo 3).foldl (fun t vc => t.set vc (t.get vc 0 - Config.creditReturn b vc)) x.spent }

/-- Send a packet on a port: its flits enter the replay buffer and spend a credit each. False where they do not fit
(R433) or the credits do not suffice. -/
def State.sendFlits (s : State) (p vc : Nat) (b : List Byte) : Bool × State :=
  let x := s.vp p
  let fs := cutFlits (ceilDiv b.length 248) b
  if 512 < x.replay.length + fs.length ∨ x.credits vc < fs.length then (false, s)
  else
    let n := fs.length
    let mk := (fs.zip (upTo n)).map (fun e =>
      ((x.tx + e.2) % 4096, mkFlit (x.tx + e.2) (x.rx + 4095) vc x.nak (decide (e.2 = 0)) (decide (e.2 + 1 = n)) e.1, 0))
    (true, s.setVp p { x with tx := (x.tx + n) % 4096, replay := x.replay ++ mk, nak := false, spent := x.spent.set vc (x.spent.get vc 0 + n) })

/-! ### Job slots -/

def State.job (s : State) (j : Nat) : VdSlot := s.vd.slots.get j VdSlot.reset
def State.setJob (s : State) (j : Nat) (x : VdSlot) : State := { s with vd := { s.vd with slots := s.vd.slots.set j x } }
def State.jState (s : State) (j : Nat) : Nat := s.fld (regJob j 0x14) 1 0
def State.jCtx (s : State) (j : Nat) : Nat := s.fld (regJob j 0) 31 24
def State.jGen (s : State) (j : Nat) : Nat := s.fld (regJob j 0) 23 16
def State.jId (s : State) (j : Nat) : Nat := s.fld (regJob j 0) 15 0
def State.jWave (s : State) (j : Nat) : Bool := s.fld (regJob j 4) 31 31 = 1
def State.jDps (s : State) (j : Nat) : Nat := s.fld (regJob j 4) 15 10 + 1
def State.jStg (s : State) (j : Nat) : Nat := s.fld (regJob j 4) 9 4 + 1
def State.jOldest (s : State) (j : Nat) : Nat := (s.reg (regJob j 0x18)).toNat
def State.jPeer (s : State) (j p : Nat) : Nat := (s.reg (regJob j (0x40 + 4 * p))).toNat
def State.jPeers (s : State) (j : Nat) : List Nat := (upTo 8).filter (fun p => bitOf (s.jPeer j p) 31)
def State.jUps (s : State) (j : Nat) : List Nat := (s.jPeers j).filter (fun p => bitOf (s.jPeer j p) 30)
def State.jDns (s : State) (j : Nat) : List Nat := (s.jPeers j).filter (fun p => bitOf (s.jPeer j p) 29)
def State.jPid (s : State) (j p : Nat) : Nat := bitsOf (s.jPeer j p) 10 0

/-- Attempts (R448): in WAVE mode one for all members. -/
def State.jExp (s : State) (j epoch p : Nat) : Nat := (s.job j).expAtt.get (epoch * 8 + p) 0
def State.jOut (s : State) (j epoch : Nat) : Nat := (s.job j).outAtt.get epoch 0

/-- Show the outbound attempt of OLDEST. -/
def State.jShow (s : State) (j : Nat) : State := s.setFld (regJob j 0x14) 23 20 (s.jOut j (s.jOldest j))

/-- A control packet of a job to peer p. -/
def State.jSend (s : State) (j p kind epoch att aux msg : Nat) : State :=
  s.inject 0 (pkHeader (s.jPid j p) s.pid kind (s.jGen j) (s.jId j) epoch att aux 0 msg 0 0 0 0)

/-- A stale packet of a slot (R448, R453). -/
def State.jStale (s : State) (j : Nat) : State :=
  (s.bump (regJob j 0x1C) 15 0 1).sendLimited (jobSrc j) 0x7E (s.jOldest j)

/-- The RUN slot that holds JOB and GEN. -/
def State.jobFor (s : State) (b : List Byte) : Option Nat :=
  (upTo 16).find? (fun j => decide (s.jState j = 1 ∧ s.jId j = pkJob b ∧ s.jGen j = pkGen b))

/-- The peer of a slot with a PID. -/
def State.peerOf (s : State) (j pid : Nat) : Option Nat := (s.jPeers j).find? (fun p => decide (s.jPid j p = pid))

/-- A slot that packet counts can be charged to where no RUN slot holds it: one with that JOB. -/
def State.jobNamed (s : State) (b : List Byte) : Option Nat := (upTo 16).find? (fun j => decide (s.jId j = pkJob b ∧ s.jState j ≠ 0))

/-! ### Arrivals (R445) -/

/-- Has stage n of an epoch completed? -/
def State.stageDone (s : State) (j epoch n : Nat) : Bool :=
  let x := s.job j
  let d := s.jDps j
  !(s.jUps j).isEmpty && (s.jUps j).all (fun p => (upTo d).all (fun i =>
    x.lasts.any (fun l => decide (l.peer = p ∧ l.epoch = epoch ∧ l.didx = n * d + i ∧ l.msg < x.rxNo.get p 0))))

/-- The Gauge flag of a stage, in the context's running clusters. -/
def State.stageFlag (s : State) (j epoch n : Nat) (on : Bool) : State :=
  let e := s.fld (regJob j 4) 25 20 + (epoch * s.jStg j + n) % 4
  (upTo 64).foldl (fun (s : State) k =>
    if (s.cl k).seq.st = .running ∧ (s.cl k).seq.ctx = s.jCtx j then
      s.updSeq k (fun q =>
        if on then { q with gflags := q.gflags ||| BitVec.ofNat 64 (2 ^ e), flagsSeen := q.flagsSeen ||| BitVec.ofNat 64 (2 ^ e) }
        else { q with gflags := q.gflags &&& ~~~ BitVec.ofNat 64 (2 ^ e) })
    else s) s

/-- Set the flags of completed stages of OLDEST in ascending order. `fuel`: one a stage. -/
def State.stageFlags (j : Nat) : Nat → State → State
  | 0, s => s
  | fuel + 1, s =>
    let x := s.job j
    if x.stages < s.jStg j ∧ s.stageDone j (s.jOldest j) x.stages = true then
      State.stageFlags j fuel ((s.stageFlag j (s.jOldest j) x.stages true).setJob j { x with stages := x.stages + 1 })
    else s

/-! ### Retraction (R448, R449) -/

/-- The standing RUN of a slot. -/
def State.jRun (s : State) (j : Nat) : Option RunRec :=
  s.runs.find? (fun (r : RunRec) => decide (r.ctx = s.jCtx j ∧ r.slot = s.fld (regJob j 4) 19 16) && r.standing)

/-- The step number of an epoch. -/
def State.stepOf (s : State) (j epoch : Nat) : Nat := (epoch + 2 ^ 32 - (s.reg (regJob j 8)).toNat) % 2 ^ 32

/-- The step of a retracted epoch: its outputs are discarded, and it waits for its re-run. -/
def State.retractStep (s : State) (j epoch : Nat) : State :=
  match s.jRun j with
  | none => s
  | some r =>
    let no := s.stepOf j epoch
    if r.step.no = no ∧ r.step.active = true then
      s.updRun r.ctx r.seq (fun x => { x with step := { x.step with retracted := true } })
    else
      match s.host.ends.find? (fun (e : StepEnd) => decide (e.ctx = r.ctx ∧ e.seq = r.seq ∧ e.no = no)) with
      | none => s
      | some e =>
        let d := (s.decs.find? (fun (d : Decision) => decide (d.ctx = r.ctx ∧ d.run = r.seq ∧ d.no = no))).map (fun (d : Decision) => d.ref)
        let s := { s with host := { s.host with ends := s.host.ends.filter (fun (x : StepEnd) =>
          ¬ (x.ctx = r.ctx ∧ x.seq = r.seq ∧ x.no = no)) } }
        let s := { s with decs := s.decs.map (fun (d : Decision) =>
          if d.ctx = r.ctx ∧ d.run = r.seq ∧ d.no = no then { d with ended := none } else d) }
        s.updRun r.ctx r.seq (fun x => { x with redo := x.redo ++ [(no, e.horizon, d.getD r.step.ref)] })

/-- Steps 1 to 4 of a retraction of an epoch; `att` is the new outbound attempt; RETRACT goes to `peers` with `old`. -/
def State.retractCore (s : State) (j epoch old att : Nat) (peers : List Nat) : State :=
  let s := peers.foldl (fun (s : State) p => s.jSend j p 5 epoch old 0 0) s
  let s := if epoch = s.jOldest j then (upTo (s.job j).stages).foldl (fun (s : State) n => s.stageFlag j epoch n false) s else s
  let x := s.job j
  let s := s.setJob j { x with
    outAtt := x.outAtt.set epoch att, lasts := x.lasts.filter (fun l => decide (l.epoch ≠ epoch)),
    stages := if epoch = s.jOldest j then 0 else x.stages, passed := if epoch = s.jOldest j then false else x.passed,
    rounds := if epoch = s.jOldest j then 0 else x.rounds,
    sent := ⟨x.sent.rows.filter (fun e => decide (e.1 / 8 ≠ epoch))⟩ }
  let s := (s.retractStep j epoch).bump (regJob j 0x1C) 31 16 1
  (s.jShow j).send (jobSrc j) 0x7F epoch true [s.jCtx j]

/-- A retraction on RETRACT(E, A) from peer p, A at least the expected attempt. -/
def State.retractFrom (s : State) (j epoch a p : Nat) : State :=
  let x := s.job j
  if s.jWave j then
    let s := s.setJob j { x with expAtt := (s.jPeers j).foldl (fun (t : Table Nat) q => t.set (epoch * 8 + q) (a + 1)) x.expAtt }
    s.retractCore j epoch a (a + 1) ((s.jPeers j).filter (fun q => q ≠ p))
  else
    let s := s.setJob j { x with expAtt := x.expAtt.set (epoch * 8 + p) (a + 1) }
    s.retractCore j epoch (s.jOut j epoch) (s.jOut j epoch + 1) (s.jDns j)

/-- A local retraction: false where the outbound attempt would pass MAXATT. -/
def State.retractOwn (s : State) (j epoch : Nat) : Bool × State :=
  let a := s.jOut j epoch
  if max 1 (s.fld (regJob j 4) 3 0) < a + 1 then (false, s)
  else
    let s := if s.jWave j then
        let x := s.job j
        s.setJob j { x with expAtt := (s.jPeers j).foldl (fun (t : Table Nat) q => t.set (epoch * 8 + q) (a + 1)) x.expAtt }
      else s
    (true, s.retractCore j epoch a (a + 1) (if s.jWave j then s.jPeers j else s.jDns j))

/-! ### Commit (R447, R449, R450) -/

/-- Does a slot hold CONFIRM of OLDEST from a peer for a round at its expected attempt? -/
def State.confHeld (s : State) (j p round : Nat) : Bool :=
  (s.job j).confs.any (fun c => decide (c.peer = p ∧ c.epoch = s.jOldest j ∧ c.att = s.jExp j (s.jOldest j) p ∧ c.round = round))

/-- OLDEST commits. -/
def State.commit (s : State) (j : Nat) : State :=
  let e := s.jOldest j
  let s := if s.jWave j then s else (s.jDns j).foldl (fun (s : State) p => s.jSend j p 4 e (s.jOut j e) 0 0) s
  let n := (e + 1) % 2 ^ 32
  let s := s.setReg (regJob j 0x18) (BitVec.ofNat 32 n)
  let x := s.job j
  let s := s.setJob j { x with
    stages := 0, passed := false, rounds := 0, since := s.ticks, confs := x.confs.filter (fun c => decide (c.epoch ≠ e)),
    lasts := x.lasts.filter (fun l => decide (l.epoch ≠ e)), expAtt := ⟨x.expAtt.rows.filter (fun y => decide (y.1 / 8 ≠ e))⟩,
    outAtt := x.outAtt.erase e, sent := ⟨x.sent.rows.filter (fun y => decide (y.1 / 8 ≠ e))⟩ }
  let s := State.stageFlags j 64 (s.jShow j)
  match s.jRun j with
  | none => s
  | some r => s.finishEnds r.ctx r.seq

/-- Send WAVE rounds while they may be sent. `fuel`: one a round. -/
def State.waveRounds (j : Nat) : Nat → State → State
  | 0, s => s
  | fuel + 1, s =>
    let x := s.job j
    let rounds := s.fld (regJob j 4) 30 26 + 1
    let ready := x.passed && decide (x.rounds < rounds)
      && (decide (x.rounds = 0) || (s.jPeers j).all (fun p => s.confHeld j p (x.rounds - 1)))
    if ready then
      let e := s.jOldest j
      let s := (s.jPeers j).foldl (fun (s : State) p => s.jSend j p 4 e (s.jOut j e) x.rounds 0) s
      State.waveRounds j fuel (s.setJob j { x with rounds := x.rounds + 1 })
    else s

/-- Commit OLDEST where everything is there. -/
def State.tryCommit (s : State) (j : Nat) : State :=
  if s.jState j ≠ 1 ∨ (s.job j).passed = false then s
  else if s.jWave j then
    let s := State.waveRounds j 33 s
    let last := s.fld (regJob j 4) 30 26
    if (s.job j).rounds = last + 1 ∧ (s.jPeers j).all (fun p => s.confHeld j p last) = true then s.commit j else s
  else if (s.jUps j).all (fun p => s.confHeld j p 0) then s.commit j else s

/-- Do the own checks of OLDEST hold, but for faults (R446): its step has ended with CHKWIN past, its WRITEs are
acknowledged, no retracted run of it waits, and Keystone found its duplicated outputs equal? -/
def State.checksHold (s : State) (j : Nat) : Bool :=
  match s.jRun j with
  | none => false
  | some r =>
    let no := s.stepOf j (s.jOldest j)
    let mine := fun (d : Decision) => decide (d.ctx = r.ctx ∧ d.run = r.seq ∧ d.no = no)
    let ended := if r.step.no = no then !r.step.active && decide (r.step.endAt + 500 * max 1 (s.fld (regJob j 0xC) 15 0) ≤ s.ticks)
      else decide (no < r.step.no)
    decide (no < r.nextNo) && ended && !r.redo.any (fun x => decide (x.1 = no))
      && !s.vd.outs.any (fun o => decide (o.slot = j ∧ o.epoch = s.jOldest j)) && !s.decs.any (fun d => mine d && (d.differs || decide (d.bad ≠ [])))

/-- OWN_CHECKS: CHKWIN after the end of the last step of OLDEST. -/
def doOwnChecks (j : Nat) (s : State) : State :=
  if s.jState j ≠ 1 ∨ (s.job j).passed = true ∨ s.checksHold j = false then s
  else (s.setJob j { s.job j with passed := true }).tryCommit j

/-- CONFIRM received (R447, R449). -/
def State.gotConfirm (s : State) (b : List Byte) : State :=
  match s.jobFor b with
  | none => match s.jobNamed b with | none => s | some j => s.jStale j
  | some j =>
    match s.peerOf j (pkSrc b) with
    | none => s.jStale j
    | some p =>
      if pkAtt b < s.jExp j (pkEpoch b) p ∨ 2 ^ 31 ≤ (pkEpoch b + 2 ^ 32 - s.jOldest j) % 2 ^ 32 then s.jStale j
      else
        let x := s.job j
        let c : VdConf := ⟨p, pkEpoch b, pkAtt b, pkAux b⟩
        (s.setJob j { x with confs := if x.confs.contains c then x.confs else x.confs ++ [c] }).tryCommit j

/-- RETRACT received (R448). -/
def State.gotRetract (s : State) (b : List Byte) : State :=
  match s.jobFor b with
  | none => match s.jobNamed b with | none => s | some j => s.jStale j
  | some j =>
    match s.peerOf j (pkSrc b) with
    | none => s.jStale j
    | some p =>
      if pkAtt b < s.jExp j (pkEpoch b) p ∨ 2 ^ 31 ≤ (pkEpoch b + 2 ^ 32 - s.jOldest j) % 2 ^ 32 then s.jStale j
      else s.retractFrom j (pkEpoch b) (pkAtt b) p

/-! ### Remote writes (R439 to R442) -/

/-- A packet of a delivery before its numbers: space bit, destination offset, bytes. -/
structure VdChunk where
  space : Nat
  addr : Nat
  bytes : List (Byte × Bool)
  deriving DecidableEq, Repr

/-- Cut contiguous bytes into packets of up to 16,384 bytes. -/
def cutChunk (space : Nat) : Nat → Nat → List (Byte × Bool) → List VdChunk
  | 0, _, _ => []
  | n + 1, a, bs => if bs = [] then [] else ⟨space, a, bs.take 16384⟩ :: cutChunk space n (a + 16384) (bs.drop 16384)

/-- The packets of an outbound copy (R439). -/
def copyChunks (d : CopyDesc) (rows comp : List (Byte × Bool)) : List VdChunk :=
  let sp := fun (a : Nat) => if gaSpace a = 2 then 1 else 0
  (upTo (d.nrow + 1)).flatMap (fun r =>
      cutChunk (sp d.dst) 5 (gaOff d.dst + r * d.dstr) ((rows.drop (r * d.rlen)).take d.rlen))
    ++ (if d.sco then cutChunk (sp d.sdst) 2 (gaOff d.sdst) comp else [])

/-- The poison map of a packet's data: one bit for each 8-byte granule of its bytes (R439). -/
def poisonMap (bs : List (Byte × Bool)) : List Byte :=
  (upTo (ceilDiv bs.length 64)).map (fun k => BitVec.ofNat 8 ((upTo 8).foldl (fun a i =>
    if ((bs.drop (64 * k + 8 * i)).take 8).any (fun b => b.2) then a + 2 ^ i else a) 0))

/-- Copies to remote modules whose data was read and whose packets were not made: cluster and entry, in issue order. -/
def State.readyCopies (s : State) : List (Nat × CopyJob) :=
  (upTo 64).flatMap (fun c => ((s.cl c).cp.jobs.filter (fun e =>
    e.remote.isSome && e.sent && !e.landed && !s.vd.copies.any (fun x => decide (x.1 = c ∧ x.2.1 = e.order)))).map (fun e => (c, e)))

/-- The epoch of the step that a cluster runs, and whether its epoch was retracted while it ran (R444, R448). -/
def State.epochOf (s : State) (c j : Nat) : Nat × Bool :=
  match s.runUsing c with
  | none => ((s.reg (regJob j 8)).toNat, false)
  | some r => (((s.reg (regJob j 8)).toNat + r.step.no) % 2 ^ 32, r.step.retracted)

/-- May delivery d of an epoch to peer p be injected now (R440)? -/
def State.mayInject (s : State) (j epoch p d : Nat) : Bool :=
  if !(s.strict || s.jWave j) then true
  else
    let n := fun (q : Nat) => (s.job j).sent.get (epoch * 8 + q) 0
    let st := d / s.jDps j
    (s.jDns j).all (fun q => decide (st * s.jDps j ≤ n q) && (decide (p ≤ q) || decide ((st + 1) * s.jDps j ≤ n q)))

/-- Make the packets of one copy, or discard a copy of a retracted attempt. -/
def State.makePackets (s : State) (c : Nat) (e : CopyJob) (d : CopyDesc) (j p : Nat) : State :=
  let (epoch, old) := s.epochOf c j
  if old || decide (s.jState j ≠ 1) then s.updCopy c e.order (fun x => { x with landed := true })
  else
    let x := s.job j
    let didx := x.sent.get (epoch * 8 + p) 0
    let att := s.jOut j epoch
    let ch := copyChunks d e.rows e.comp
    let n := ch.length
    let m0 := x.txNo.get p 0
    let mk := fun (k : Nat) (h : VdChunk) =>
      let poi := h.bytes.any (fun b => b.2)
      let fl := (if k + 1 = n then 1 else 0) + 2 * h.space + (if poi then 4 else 0)
      pkHeader (s.jPid j p) s.pid 1 (s.jGen j) (s.jId j) epoch att 0 didx ((m0 + k) % 2 ^ 32) h.bytes.length fl 0 h.addr
        ++ h.bytes.map (fun b => b.1) ++ (if poi then poisonMap h.bytes else [])
    let s := s.setJob j { x with txNo := x.txNo.set p (m0 + n), sent := x.sent.set (epoch * 8 + p) (didx + 1) }
    let s := (ch.zip (upTo n)).foldl (fun (s : State) h =>
      let b := mk h.2 h.1
      let o : VdSent := ⟨j, p, (m0 + h.2) % 2 ^ 32, epoch, att, didx, b, 1, s.ticks, none, c, e.order⟩
      { s with vd := { s.vd with transit := s.vd.transit ++ [(1, b)], outs := s.vd.outs ++ [o] } }) s
    { s with vd := { s.vd with copies := s.vd.copies ++ [(c, e.order, n)] } }

/-- Make the packets of every copy that may go. -/
def State.makeAll (s : State) : State :=
  s.readyCopies.foldl (fun (s : State) x =>
    match x.2.desc, x.2.remote with
    | some d, some i =>
      let j := i / 8
      let p := i % 8
      let (epoch, _) := s.epochOf x.1 j
      if s.mayInject j epoch p ((s.job j).sent.get (epoch * 8 + p) 0) then s.makePackets x.1 x.2 d j p else s
    | _, _ => s) s

/-- A WRITE has its WACK: the copy lands when all have. -/
def State.acked (s : State) (o : VdSent) : State :=
  let s := { s with vd := { s.vd with outs := s.vd.outs.filter (fun y => ¬ (y.slot = o.slot ∧ y.peer = o.peer ∧ y.msg = o.msg)) } }
  match s.vd.copies.find? (fun x => decide (x.1 = o.cl ∧ x.2.1 = o.order)) with
  | none => s
  | some (c, ord, n) =>
    let rest := s.vd.copies.filter (fun x => ¬ (x.1 = c ∧ x.2.1 = ord))
    if n ≤ 1 then ({ s with vd := { s.vd with copies := rest } }).updCopy c ord (fun e => { e with landed := true })
    else { s with vd := { s.vd with copies := rest ++ [(c, ord, n - 1)] } }

/-- The sent WRITE that a WACK or WNAK names. -/
def State.sentFor (s : State) (b : List Byte) : Option VdSent :=
  match s.jobFor b with
  | none => none
  | some j =>
    match s.peerOf j (pkSrc b) with
    | none => none
    | some p => s.vd.outs.find? (fun o => decide (o.slot = j ∧ o.peer = p ∧ o.msg = pkMsg b))

/-- WACK received. -/
def State.gotWack (s : State) (b : List Byte) : State :=
  match s.sentFor b with
  | none => match s.jobFor b, s.jobNamed b with | none, some j => s.jStale j | _, _ => s
  | some o => s.acked o

/-- Send a WRITE again. -/
def State.resend (s : State) (o : VdSent) (sends : Nat) : State :=
  let up := fun (y : VdSent) => if y.slot = o.slot ∧ y.peer = o.peer ∧ y.msg = o.msg then
    { y with sends := sends, sentAt := s.ticks, wnakAt := none } else y
  { s with vd := { s.vd with outs := s.vd.outs.map up, transit := s.vd.transit ++ [(1, o.packet)] } }

/-- Note a completed MSGNO from a peer (R442). -/
def rxNote : Nat → Nat → List Nat → Nat × List Nat
  | 0, n, m => (n, m)
  | fuel + 1, n, m => if m.contains n then rxNote fuel (n + 1) (m.filter (fun x => x ≠ n)) else (n, m)

/-- Was a MSGNO completed? -/
def VdSlot.done (x : VdSlot) (p m : Nat) : Bool := decide (m < x.rxNo.get p 0) || (x.rxMap.get p []).contains m

/-- Write an accepted WRITE, note it, answer WACK, and set stage flags. -/
def State.takeWrite (s : State) (j p : Nat) (b : List Byte) : State :=
  let ctx := s.jCtx j
  let n := pkLen b
  let data := (b.drop 32).take n
  let map := b.drop (32 + n)
  let poi := bitOf (pkFlags b) 2
  let bs := (data.zip (upTo n)).map (fun e => (e.1, poi && bitOf (map.getD (e.2 / 64) 0).toNat (e.2 / 8 % 8)))
  let sp := if bitOf (pkFlags b) 1 then 2 else 0
  if decide (sp = 0) && s.calRefuses (pkAddr b) n true then { (({ s with actor := [ctx] }).calRefused (pkAddr b)) with actor := [] }
  else
    let s := s.writeFor ctx sp (pkAddr b) bs
    let x := s.job j
    let r := rxNote 65 (x.rxNo.get p 0) (pkMsg b :: x.rxMap.get p [])
    let l : List VdLast := if bitOf (pkFlags b) 0 then [⟨p, pkEpoch b, pkDidx b, pkMsg b⟩] else []
    let s := s.setJob j { x with rxNo := x.rxNo.set p r.1, rxMap := x.rxMap.set p r.2, lasts := x.lasts ++ l }
    State.stageFlags j 64 (s.jSend j p 2 (pkEpoch b) (pkAtt b) 0 (pkMsg b))

/-- Does a WRITE lie in windows of its context (R441)? -/
def State.writeOk (s : State) (j : Nat) (b : List Byte) : Bool :=
  let a := pkAddr b
  let n := pkLen b
  if bitOf (pkFlags b) 1 then (let w := s.hubWin (s.jCtx j); decide (w.1 ≤ a ∧ a + n ≤ w.2))
  else (s.hbmWins (s.jCtx j) true).any (fun w => decide (w.2.2 = 4 ∧ w.1 ≤ a ∧ a + n ≤ w.2.1))

/-- WRITE received (Table 15.5). -/
def State.gotWrite (s : State) (b : List Byte) : State :=
  let refuse := fun (s : State) (cause : Nat) =>
    s.inject 0 (pkHeader (pkSrc b) s.pid 3 (pkGen b) (pkJob b) (pkEpoch b) (pkAtt b) cause 0 (pkMsg b) 0 0 0 0)
  match s.jobFor b with
  | none =>
    if (upTo 16).any (fun j => decide (s.jState j = 0 ∧ s.jId j = pkJob b)) then refuse s 4
    else match s.jobNamed b with | none => s | some j => s.jStale j
  | some j =>
    match s.peerOf j (pkSrc b) with
    | none => s.jStale j
    | some p =>
      let off := (pkEpoch b + 2 ^ 32 - s.jOldest j) % 2 ^ 32
      if (s.job j).done p (pkMsg b) then s.jSend j p 2 (pkEpoch b) (pkAtt b) 0 (pkMsg b)
      else if !s.writeOk j b then refuse s 2
      else if 2 ^ 31 ≤ off then refuse s 3
      else if 1 < off then refuse s 1
      else if pkAtt b < s.jExp j (pkEpoch b) p then s.jSend j p 2 (pkEpoch b) (pkAtt b) 0 (pkMsg b)
      else
        let s := if s.jExp j (pkEpoch b) p < pkAtt b then s.retractFrom j (pkEpoch b) (pkAtt b - 1) p else s
        s.takeWrite j p b

/-! ### Hops -/

/-- The first data packet of those that wait. -/
def firstData (tr : List (Nat × List Byte)) : Option (Nat × List Byte) := tr.find? (fun x => decide (x.1 ≠ 0))

/-- The VC of a packet behind a hop (R432): a data packet that crosses a wrap link goes on in the high data VC. -/
def hopVc (vc : Nat) (wrap : Bool) : Nat := if vc = 1 ∧ wrap = true then 2 else vc

/-- Free credits in dimension d for a packet: those of the port that would carry it. -/
def State.dimCredits (s : State) (vc : Nat) (b : List Byte) (d : Nat) : Nat :=
  let plus := xor (decide (2 * s.distTo (pkDst b) d ≤ s.dimOf d)) (bitOf (pkFlags b) 3)
  let c := s.dimPort (pkDst b) d plus
  match s.viaPort c.1 with
  | some p => (s.vp p).credits (hopVc vc c.2)
  | none => 0

/-- The dimension, of those with distance left, whose port has the most free credits, the lower one on a tie; 3 where the
packet has been blocked for 1 us and goes on in dimension order (R437). -/
def State.hopDim (s : State) (vc : Nat) (b : List Byte) : Nat :=
  let open_ := (upTo 3).filter (fun d => decide (s.distTo (pkDst b) d ≠ 0))
  let most := open_.foldl (fun a d => max a (s.dimCredits vc b d)) 0
  match s.vd.blocked with
  | some t => if t + 500 ≤ s.ticks then 3 else (open_.find? (fun d => decide (s.dimCredits vc b d = most))).getD 3
  | none => (open_.find? (fun d => decide (s.dimCredits vc b d = most))).getD 3

/-- The hop of one waiting packet: it is dropped, or it leaves by its port; false where it is blocked. -/
def State.hopOne (s : State) (vc : Nat) (b : List Byte) : Bool × State :=
  let gone := { s with vd := { s.vd with transit := s.vd.transit.erase (vc, b), blocked := if vc = 0 then s.vd.blocked else none } }
  let drop := (gone.bump (regVd 8) 31 16 1).sendLimited routerSrc 0x7C 0
  if pkBad b then (true, gone.vdProto)
  else if 64 ≤ pkHops b + 1 then (true, drop)
  else
    match s.route b (s.hopDim vc b) with
    | none => (true, drop)
    | some (p, wrap, rev) =>
      let b := b.take 22 ++ leBytes 1 ((pkFlags b &&& 0xF7) ||| (if rev then 8 else 0)) ++ leBytes 1 (pkHops b + 1) ++ b.drop 24
      let (ok, t) := gone.sendFlits p (hopVc vc wrap) b
      if ok then (true, t) else (false, s)

/-- The hop of the first data packet that waits; where it is blocked, the raw tick since which it is. -/
def State.hopData (s : State) : State :=
  match firstData s.vd.transit with
  | none => s
  | some x =>
    let (ok, t) := s.hopOne x.1 x.2
    if ok then t else { s with vd := { s.vd with blocked := some (s.vd.blocked.getD s.ticks) } }

/-- PACKET_HOP: the first control packet that waits takes its hop, or, where there is none or it is blocked, the first
data packet. -/
def doPacketHop (s : State) : State :=
  let s := s.makeAll
  match s.vd.transit.find? (fun x => decide (x.1 = 0)) with
  | none => s.hopData
  | some x =>
    let (ok, t) := s.hopOne x.1 x.2
    if ok then t else s.hopData

/-! ### Job control that cannot abort -/

/-- A slot leaves RUN for QUIET (R452, R453): ABORT to every peer but one; nothing of the job is sent any more. -/
def State.jobQuiet (s : State) (j cause : Nat) (from_ : Option Nat) : State :=
  if s.jState j ≠ 1 then s
  else
    let s := ((s.jPeers j).filter (fun p => decide (some p ≠ from_))).foldl (fun (s : State) p =>
      s.jSend j p 6 (s.jOldest j) 0 cause 0) s
    let mine := s.vd.outs.filter (fun o => o.slot = j)
    let tr := s.vd.transit.filter (fun x => ¬ (pkKind x.2 ≠ 6 ∧ pkJob x.2 = s.jId j ∧ pkGen x.2 = s.jGen j ∧ pkSrc x.2 = s.pid))
    let s := { s with vd := { s.vd with
      outs := s.vd.outs.filter (fun o => o.slot ≠ j),
      copies := s.vd.copies.filter (fun x => !mine.any (fun o => decide (o.cl = x.1 ∧ o.order = x.2.1))),
      transit := tr, blocked := if firstData tr = firstData s.vd.transit then s.vd.blocked else none } }
    let s := (s.setFld (regJob j 0x14) 31 24 cause).setFld (regJob j 0x14) 1 0 3
    s.setJob j { s.job j with lastGen := some (s.jGen j), quietAt := s.ticks }

/-- QUIET_EXPIRY. -/
def doQuietExpiry (j : Nat) (s : State) : State :=
  if s.jState j = 3 ∧ (s.job j).quietAt + ticksPerMs ≤ s.ticks then s.setFld (regJob j 0x14) 1 0 2 else s

/-- Is ARM refused (R443)? -/
def State.armBad (s : State) (j : Nat) : Bool :=
  let ps := s.jPeers j
  decide (s.ctxState (s.jCtx j) ≠ 1)
    || (upTo 16).any (fun i => decide (i ≠ j ∧ s.jState i ≠ 0 ∧ s.jId i = s.jId j))
    || ps.isEmpty || (s.jWave j && ps.any (fun p => !(bitOf (s.jPeer j p) 30 && bitOf (s.jPeer j p) 29)))
    || decide ((ps.map (fun p => s.jPid j p)).eraseDups.length ≠ ps.length)
    || decide ((s.job j).lastGen = some (s.jGen j)) || decide (63 < s.fld (regJob j 4) 25 20 + 3)
    || decide (s.jState j = 3) || decide (s.jState j = 1)

/-- ARM. -/
def doArm (j : Nat) (s : State) : State :=
  if s.armBad j then s.send (jobSrc j) 0x86 0 true [s.jCtx j]
  else
    let s := s.setJob j { VdSlot.reset with lastGen := (s.job j).lastGen, since := s.ticks }
    ((s.setReg (regJob j 0x18) (s.reg (regJob j 8))).setReg (regJob j 0x14) 1).setReg (regJob j 0x1C) 0

/-- VD_CNTCLR and VP_CNTCLR. -/
def doVdCntclr (s : State) : State := s.setReg (regVd 8) 0
def doVpCntclr (p : Nat) (s : State) : State := (s.setReg (regVp p 8) 0).setReg (regVp p 0xC) 0

/-- WNAK_RESEND: 10 us after a WNAK with cause 1 or 4. -/
def doWnakResend (j p msg : Nat) (s : State) : State :=
  match s.vd.outs.find? (fun o => decide (o.slot = j ∧ o.peer = p ∧ o.msg = msg)) with
  | none => s
  | some o =>
    match o.wnakAt with
    | none => s
    | some t => if t + 5000 ≤ s.ticks then s.resend o o.sends else s

end Sys2Proof.Machine
end

