-- ==== Sys2Proof/Machine/Keystone.lean ====
section
/-! DEFINITION. Keystone's states, pins, release and cover of outputs, and Footbridge (R481 to R504, R511). -/

namespace Sys2Proof.Machine

def keySrc : Nat := 0xB00
def fbSrc : Nat := 0xB01
def spiSrc : Nat := 0xB02

/-- KS_STAT.STATE: 0 BOOT, 1 RUN, 2 SAFE. -/
def State.ks (s : State) : Nat := s.fld (regKs 4) 1 0
def State.fbDown (s : State) : Bool := s.fld (regKs 4) 7 7 = 1
def State.setFbDown (s : State) (b : Bool) : State :=
  let v := if b then 1 else 0
  (s.setFld (regKs 4) 7 7 v).setFld (regKs 0xA08) 0 0 v

/-- The decisions of a RUN's step on an output. -/
def State.updDec (s : State) (d : Decision) (f : Decision → Decision) : State :=
  { s with decs := s.decs.map (fun (x : Decision) =>
      if x.out = d.out ∧ x.ctx = d.ctx ∧ x.run = d.run ∧ x.no = d.no then f x else x) }

/-! ### SAFE (R500 to R502) -/

/-- Enter SAFE: KS_CAUSE, SAFE_A_N low, the safe line to the pin monitor; nothing that waits is released or covered
(R488). Keystone in BOOT or SAFE stays where it is (R488: one entry). -/
def State.enterSafe (s : State) (source kind path : Nat) : State :=
  if s.ks ≠ 1 then s
  else
    let s := s.setReg (regKs 0xC) (BitVec.ofNat 32 (source * 2 ^ 20 + kind * 2 ^ 12 + path))
    let s := (s.setFld (regKs 4) 1 0 2).setFld (regKs 4) 3 3 0
    let waiting := s.decs.filter (fun (d : Decision) => d.result = 0)
    let s := waiting.foldl (fun (s : State) d => s.setFld (regKso d.out 0x2C) 31 30 0) s
    let s := { s with
      saf := { s.saf with safeLine := true, rel := 0, cov := 0 },
      decs := s.decs.map (fun (d : Decision) => if d.result = 0 then { d with result := 4 } else d) }
    (waiting.map (fun (d : Decision) => (d.ctx, d.run))).eraseDups.foldl (fun (s : State) x => s.finishEnds x.1 x.2) s

/-! ### Release and cover (R485 to R487) -/

/-- The age of an instant in 10 us units, rounded up: at most AGELIM means not older than AGELIM x 10 us. -/
def State.age10 (s : State) (t : Nat) : Nat := ceilDiv (s.now - t) (10000 * oneNs)

/-- An output is decided: its registers, the status bits, and what waits for it. -/
def State.decideOut (s : State) (d : Decision) (result : Nat) : State :=
  let r := fun o => regKso d.out o
  let s := s.updDec d (fun x => { x with result := result })
  let s := (s.setFld (r 0x2C) 31 30 result).setReg (r 0x30) (BitVec.ofNat 32 d.no)
  let bit := 2 ^ d.out
  let s := if result = 2 then
      { (s.count (r 0x34) 15 0).setFld (r 0x2C) 23 16 0 with
        saf := { s.saf with rel := s.saf.rel ||| bit, cov := s.saf.cov &&& (2 ^ 32 - 1 - bit) } }
    else
      { (s.count (r 0x34) 31 16).bump (r 0x2C) 23 16 1 with
        saf := { s.saf with cov := s.saf.cov ||| bit, rel := s.saf.rel &&& (2 ^ 32 - 1 - bit) } }
  s.finishEnds d.ctx d.run

/-- A record of Footbridge in memory (Table 17.7). -/
def FbRec.bytes (r : FbRec) : List Byte :=
  leBytes 4 0x42464B53 ++ leBytes 4 r.frame ++ timeBytes r.time ++ leBytes 2 r.near ++ leBytes 2 r.bear ++ leBytes 1 r.flags
    ++ List.replicate 35 0 ++ r.space

/-- The Footbridge record that may cover an output (R486). -/
def State.coverRec (s : State) (o : Nat) : Option FbRec :=
  if s.fbDown then none
  else s.saf.fbRec.filter (fun r => bitOf r.flags 0 && decide (s.age10 r.time ≤ s.fld (regKso o 8) 31 16))

/-- Has CONSEC reached COVMAX? -/
def State.coversFull (s : State) (o : Nat) : Bool :=
  decide (s.fld (regKso o 0) 15 8 ≠ 0) && decide (s.fld (regKso o 0x2C) 23 16 = s.fld (regKso o 0) 15 8)

/-- Cover an output for a step (R486): the record is written and FB-SELECT sent, or RESULT-AGE is sent and SAFE entered. -/
def State.cover (s : State) (d : Decision) : State :=
  if s.ks ≠ 1 ∨ d.result ≠ 0 ∨ s.fld (regKso d.out 0) 28 28 = 1 then s
  else
    match s.coverRec d.out with
    | none =>
      let age := match s.saf.fbRec with | none => 0xFFFFFF | some r => min 0xFFFFFF (s.age10 r.time)
      (s.send 0xB03 0xA1 (d.out * 2 ^ 24 + age) true []).enterSafe 0xB03 0xA1 2
    | some r =>
      let s := { s with actor := [d.ctx] }.hubPut 0 ((s.reg (regKso d.out 0x28)).toNat * 32) r.bytes
      let s := { s with actor := [] }.send keySrc 0xA6 (d.out * 2 ^ 24 + d.no % 2 ^ 24) true []
      let s := s.decideOut d 3
      if s.coversFull d.out then s.enterSafe keySrc 0xA6 3 else s

/-- The status word of a copy (Table 17.2), none where it cannot be read. -/
structure StatusWord where
  frame : Nat
  flags : Nat
  time : Nat
  deriving DecidableEq, Repr

def State.statusAt (s : State) (ctx off : Nat) : Option StatusWord × State :=
  let (b, s) := { s with actor := [ctx] }.hubRead 0 off 32
  let s := { s with actor := [] }
  if b.any (fun x => x.2) then (none, s)
  else
    let d := b.map (fun x => x.1)
    (some ⟨fieldAt d 0 4, fieldAt d 4 1, fieldAt d 16 8 * oneS + fieldAt d 24 4 * oneNs + fieldAt d 28 2 * 2 ^ 16⟩, s)

/-- A copy's result: its elements and scales; none where any byte is poisoned. -/
def State.resultAt (s : State) (ctx off n : Nat) : Option (List Byte) × State :=
  let (b, s) := { s with actor := [ctx] }.hubRead 0 off n
  let s := { s with actor := [] }
  (if b.any (fun x => x.2) then none else some (b.map (fun x => x.1)), s)

/-- Condition 3 on a status word. -/
def State.statusOk (s : State) (o no : Nat) (w : StatusWord) : Bool :=
  decide (w.frame = no) && bitOf w.flags 0 && !bitOf w.flags 1 && (!bitOf w.flags 2 || decide (s.fld (regKso o 0) 29 29 = 1))

/-- KCHK in raw ticks. -/
def State.kchk (s : State) (o : Nat) : Nat := 500 * max 5 (s.fld (regKso o 0xC) 15 0)

/-- What a decision finds in its copies: condition 3, condition 4, and condition 5 (none: not read), and the earlier TIME. -/
structure CopyCheck where
  c3 : Bool
  c4 : Bool
  c5 : Bool
  time : Nat
  deriving DecidableEq, Repr

def State.checkCopies (s : State) (d : Decision) : CopyCheck × State :=
  let o := d.out
  let at_ := fun (x : Nat) => s.fld (regKso o x) 30 0 * 32
  let dup := s.fld (regKso o 0) 30 30 = 1
  let n := s.fld (regKso o 0x18) 23 0
  let sc := s.fld (regKso o 0x1C) 23 0
  let img := fun (i : Nat) => (s.image d.ctx i).digest
  let bank := ((s.runs.find? (fun (r : RunRec) => r.ctx = d.ctx ∧ r.seq = d.run)).map (fun (r : RunRec) => r.bank)).getD 0
  let (wa, s) := s.statusAt d.ctx (at_ 0x20)
  let (wb, s) := if dup then s.statusAt d.ctx (at_ 0x24) else (wa, s)
  let (ra, s) := s.resultAt d.ctx (at_ 0x10) n
  let (rb, s) := if dup then s.resultAt d.ctx (at_ 0x14) n else (ra, s)
  let ok := fun (w : Option StatusWord) => w.any (fun x => s.statusOk o d.no x)
  let clean := fun (r : Option (List Byte)) => r.any (fun x => !(x.drop sc).contains 0xFF)
  let rd := fun (r : Option (List Byte)) => s.rdOf d.ctx (img d.slot) (img (16 + bank)) d.horizon (r.getD [])
  let t := fun (w : Option StatusWord) => (w.map (fun x => x.time)).getD 0
  (⟨ok wa && ok wb, clean ra && clean rb, !dup || (ra.isSome && rb.isSome && decide (rd ra = rd rb)), min (t wa) (t wb)⟩, s)

/-- Has the step's epoch committed where a Viaduct job binds it (R485, condition 1)? -/
def State.stepDone (s : State) (d : Decision) : Bool :=
  match d.ended with
  | none => false
  | some t => decide (t + s.kchk d.out ≤ s.ticks) && !s.epochOpen d.ctx d.slot d.no

/-- DUP-MISMATCH (R493): the message, the cover, the clusters of both copies first in the self-test order. A checkpoint
that differs makes the release outputs of the step fail (R487). -/
def State.dupMismatch (s : State) (d : Decision) : State :=
  let s := s.send keySrc 0xA0 (d.out * 2 ^ 24 + d.no % 2 ^ 24) true []
  let s := { s with saf := { s.saf with head := (s.saf.head ++ d.units).eraseDups } }
  (s.updDec d (fun x => { x with differs := true })).cover d

/-- Is a checkpoint of the step undecided or failed? -/
def State.checkpointsOk (s : State) (d : Decision) : Bool :=
  s.decs.all (fun (x : Decision) =>
    if x.ctx = d.ctx ∧ x.run = d.run ∧ x.no = d.no ∧ s.fld (regKso x.out 0) 28 28 = 1 then
      decide (x.result ≠ 0 ∧ x.bad = []) && !x.differs
    else true)

/-- RELEASE (R485): the oldest waiting decision of output o is evaluated. A checkpoint output is compared and no more
(R483, R487). -/
def doRelease (o : Nat) (s : State) : State :=
  match s.decs.find? (fun (d : Decision) => d.out = o ∧ d.result = 0) with
  | none => s
  | some d =>
    if s.ks ≠ 1 ∨ s.stepDone d = false ∨ d.want = true then s
    else
      let (c, s) := s.checkCopies d
      let checkpoint := s.fld (regKso o 0) 28 28 = 1
      if checkpoint then
        let s := if c.c5 then s else s.dupMismatch d
        let s := s.updDec d (fun x => { x with differs := !c.c5 || !c.c4 || x.differs, result := 2 })
        s.setFld (regKso o 0x2C) 31 30 0
      else if d.ref + s.fld (regKso o 8) 15 0 * 10000 * oneNs < s.now then s
      else if !c.c5 then s.dupMismatch d
      else if c.c3 && c.c4 && decide (d.bad = []) && !d.differs && s.checkpointsOk d
          && decide (s.age10 c.time ≤ s.fld (regKso o 8) 31 16) then s.decideOut d 2
      else s

/-- RELEASE_DEADLINE (R486): the deadline of output o has passed, or a cover is requested. -/
def doReleaseDeadline (o : Nat) (s : State) : State :=
  match s.decs.find? (fun (d : Decision) => d.out = o ∧ d.result = 0) with
  | none => s
  | some d => if d.want = true ∨ d.ref + s.fld (regKso o 8) 15 0 * 10000 * oneNs ≤ s.now then s.cover d else s

/-- A cover request for every output whose step in progress or undecided uses one of some clusters (Table 17.9). -/
def State.coverUnits (s : State) (ks : List Nat) : State :=
  let ds := s.decs.filter (fun (d : Decision) => decide (d.result = 0) && d.units.any (fun k => ks.contains k))
  ds.foldl (fun (s : State) d => (s.updDec d (fun x => { x with want := true })).cover { d with want := true }) s

/-! ### KS_CMD, enables (R500, R504, R511) -/

/-- Is a record of effective severity `n` or above open? -/
def State.openAbove (s : State) (n : Nat) : Bool := s.fc.recs.rows.any (fun r => decide (n ≤ r.2.eff))

def State.ksErr (s : State) : State := s.setFld (regKs 4) 8 8 1

/-- Enter RUN: both pins rise; SAFE_B_N follows through the pin monitor (R504). -/
def State.ksRun (s : State) : State :=
  { (s.setFld (regKs 4) 1 0 1).setFld (regKs 4) 3 3 1 with saf := { s.saf with safeLine := false } }

/-- KS_GO (Table 17.8). -/
def doKsGo (s : State) : State :=
  if s.ks = 0 ∧ s.fld (regKs 0xA08) 2 1 = 3 ∧ s.fbDown = false ∧ s.fld (regFc 4) 0 0 = 1 ∧ s.openAbove 4 = false then s.ksRun
  else s.ksErr

/-- KS_CLEAR (R504). -/
def doKsClear (s : State) : State :=
  if s.ks = 2 ∧ s.fld (regKs 0) 0 0 = 1 ∧ s.openAbove 4 = false ∧ s.fbDown = false then s.ksRun else s.ksErr

/-- KS_ENTER (Table 17.9). KS_CAUSE takes PATH 5; no message stands behind it, so SOURCE and KIND are free values. -/
def doKsEnter (s : State) : State :=
  if s.ks ≠ 1 then s
  else
    let (x, s) := s.free (2 ^ 20)
    s.enterSafe (x / 256) (x % 256) 5

/-- Does the field of an output set-up lie outside its range, or a region outside the HBM windows of CTX (R511)? -/
def State.outBad (s : State) (o : Nat) : Bool :=
  let r := fun x => (s.reg (regKso o x)).toNat
  let ctx := s.fld (regKso o 0) 23 16
  let n := r 0x18
  let dup := decide (s.fld (regKso o 0) 30 30 = 1)
  let win := fun (a n : Nat) (wr : Bool) => s.inWindows ctx 0 (a * 32) n wr
  let lc := fun (hi lo hj lj : Nat) => decide (59 < s.fld (regKso o 4) hi lo + s.fld (regKso o 4) hj lj)
  let release := decide (s.fld (regKso o 0) 28 28 = 0)
  decide (s.fld (regKso o 8) 31 16 = 0 ∨ s.fld (regKso o 8) 15 0 = 0 ∨ n % 32 ≠ 0 ∨ n < r 0x1C)
    || lc 29 24 21 16 || (dup && lc 13 8 5 0)
    || !(win (r 0x10) n false && win (r 0x20) 32 false && (!release || win (r 0x28) 576 true))
    || (dup && !(win (r 0x14) n false && win (r 0x24) 32 false))

/-- OUTPUT_ENABLE: a write of the first register of output o (o below 32), or of Footbridge (o = 32). -/
def doOutputEnable (o : Nat) (v : Word32) (s : State) : State :=
  let off := if o < 32 then regKso o 0 else regKs 0xA00
  let m : Word32 := if o < 32 then 0x7FFFFF00 else 0x7E7F0000
  if s.fld off 31 31 = 1 then (if bitOf v.toNat 31 then s else
    let s := s.setFld off 31 31 0
    if o < 32 then s else { s with saf := { s.saf with fbRun := none } })
  else
    let s := s.setReg off (v &&& m)
    if !bitOf v.toNat 31 then s
    else if o < 32 then (if s.outBad o then s.ksErr else s.setFld off 31 31 1)
    else
      let x := s.fld off 22 16
      if x < 64 ∨ 95 < x ∨ s.fld (regKs 0xA08) 1 1 = 0 then s.ksErr
      else
        let regs := (upTo 7).map (fun i => s.reg (regIp (0x4000 + 0x80 * (x - 64) + 4 * i)))
        { s.setFld off 31 31 1 with
          saf := { s.saf with lidCopy := regs, fbNo := 0, fbFire := [], fbAz := none, fbRev := none, fbRun := none } }

/-! ### Footbridge (R498, R499) -/

/-- FB-FAULT (R499): the message; Keystone sets FBDOWN. ADDR: 1 residue, 2 memory, 3 run bound, 4 known answer, 5 firing
gap. -/
def State.fbFault (s : State) (why : Nat) : State :=
  let s := (s.send fbSrc 0xA7 why true []).setFbDown true
  { s with saf := { s.saf with fbKat := false } }

def State.fbOn (s : State) : Bool := s.fld (regKs 0xA00) 31 31 = 1

/-- FOOTBRIDGE_RUN: generator GEN has fired: the newest inputs are taken (Table 17.7). -/
def doFootbridgeRun (s : State) : State :=
  if !s.fbOn then s
  else
    let lim := s.fld (regKso 0 8) 31 16
    let cams := (upTo 4).filter (fun k => s.fld (regKs 0xA04) (8 * k + 7) (8 * k + 7) = 1)
    let got := cams.map (fun k => lookup s.saf.fbCams.rows (s.fld (regKs 0xA04) (8 * k + 5) (8 * k)))
    let lid := s.saf.fbRev
    let good := fun (t : Nat) (v : Bool) => v && decide (s.age10 t ≤ lim)
    let ok := got.all (fun g => g.any (fun x => good x.2.1 x.2.2)) && lid.any (fun x => good x.1 x.2)
    let times := got.filterMap (fun g => g.map (fun x => x.2.1)) ++ (lid.map (fun x => x.1)).toList
    let t := match times with | [] => s.now | a :: r => r.foldl min a
    let fl := (if lid.isSome then 2 else 0)
      + ((cams.zip got).foldl (fun a e => if e.2.isSome then a + 4 * 2 ^ e.1 else a) 0)
    { s with saf := { s.saf with
        fbRun := some ⟨s.ticks, t, ok, fl⟩, fbFire := (s.ticks :: s.saf.fbFire).take 2 } }

/-- FOOTBRIDGE_RUN_END: the run's record. What its network computes is a free value (log entry 24). -/
def doFootbridgeRunEnd (s : State) : State :=
  match s.saf.fbRun with
  | none => s
  | some r =>
    if s.ticks < r.at_ then s
    else
      let (near, s) := s.free (2 ^ 16)
      let (bear, s) := s.free (2 ^ 16)
      let x : FbRec := ⟨s.saf.fbNo, r.time, near, bear, r.flags + (if r.ok then 1 else 0), Config.freeBytes s.freeCount 512⟩
      let t := { s with
        freeCount := s.freeCount + 1,
        saf := { s.saf with fbRec := some x, fbRun := none, fbNo := (s.saf.fbNo + 1) % 2 ^ 32 } }
      t.setReg (regKs 0xA0C) (BitVec.ofNat 32 s.saf.fbNo)

/-- FB_FAULT: what Footbridge found (the codes of its ADDR). A run bound needs a run older than RUNUS + 100 us, a firing gap
one longer than twice the interval before (R498). -/
def doFbFault (why : Nat) (s : State) : State :=
  if why = 3 then
    match s.saf.fbRun with
    | none => s
    | some r => if r.at_ + 500 * (s.fld (regKs 0xA08) 31 16 + 100) ≤ s.ticks then
        { s with saf := { s.saf with fbRun := none } }.fbFault 3 else s
  else if why = 5 then
    match s.saf.fbFire with
    | [a, b] => if s.fbOn = true ∧ a + 2 * (a - b) < s.ticks then { s with saf := { s.saf with fbFire := [] } }.fbFault 5 else s
    | _ => s
  else if why = 1 ∨ why = 2 then s.fbFault why
  else s

/-- KNOWN_ANSWER_RUN (R499): between runs. FBDOWN clears with the first one that passes after the FB-FAULT record closed. -/
def doKnownAnswerRun (pass : Bool) (s : State) : State :=
  if s.saf.fbRun.isSome ∨ s.fld (regKs 0xA08) 1 1 = 0 then s
  else if !pass then (s.setFld (regKs 0xA08) 2 2 0).fbFault 4
  else
    let s := s.setFld (regKs 0xA08) 2 2 1
    let faulted := s.fc.recs.rows.any (fun r => decide (r.2.msg.toNat / 2 ^ 44 = fbSrc * 256 + 0xA7))
      || s.net.any (fun m => decide (m.bits.toNat / 2 ^ 44 = fbSrc * 256 + 0xA7))
    if s.fbDown ∧ faulted = false then s.setFbDown false else s

end Sys2Proof.Machine
end

