-- ==== Sys2Proof/Machine/Reset.lean ====
section
/-! DEFINITION. Generations, resets, aborts, fences, the host map, dumps, re-execution, package halt (R34 to R40, R343,
R476, R512 to R531). -/

namespace Sys2Proof.Machine

/-! ### Generations (R514, R516) -/

/-- The next generation: 0 is skipped. -/
def nextGen (g : Nat) : Nat := if (g + 1) % 256 = 0 then 1 else (g + 1) % 256

/-- A reset of a unit starts: its generation increases, the collector takes the new one 2 us later (R516), and the unit's
messages count from SEQ 0 (R460). -/
def State.bumpGen (s : State) (u : Nat) : State :=
  let g := s.genOf u
  let s := if u < 64 then s.setFld (regCl u 0xC) 7 0 (nextGen g)
    else { s with gens := s.gens.set u (BitVec.ofNat 8 (nextGen g)) }
  { s with srcSeq := s.srcSeq.set u 0, fc := { s.fc with adopt := s.fc.adopt.set u (s.ticks + 1000, g) } }

def State.isBusy (s : State) (u : Nat) : Bool := s.rst.busy.contains u
def State.setBusy (s : State) (u : Nat) (b : Bool) : State :=
  { s with rst := { s.rst with busy := if b then s.rst.busy ++ [u] else s.rst.busy.filter (fun x => x ≠ u) } }

/-! ### Crash dumps (R526) -/

/-- A cluster dump of cluster c, with the generation before its reset. -/
def State.dumpCl (s : State) (c gen : Nat) : ClDump :=
  let r := fun o => s.reg (regCl c o)
  let wins := (upTo 4).flatMap (fun i =>
    let w := (s.reg (regRc (0x10 + 4 * i))).toNat
    (upTo (bitsOf w 27 17)).map (fun n => s.word c ((bitsOf w 16 0 + n) % 2 ^ 17)))
  ⟨c, gen, (s.cl c).seq, [BitVec.ofNat 32 (s.seqStat c), r 4, r 0x100, r 0x200, r 0x204], wins⟩

/-- Bytes of a dump (the sequencer state's size is not stated, log entry 26). -/
def Dump.size (d : Dump) : Nat :=
  64 + (if d.kind = 0 then 0 else 65536 + 129 * 32 + 16)
    + d.cls.foldl (fun a x => a + Config.dumpStateLen + 32 + 32 * x.words.length) 0

def stagingBytes : Nat := 512 * 1024

def dumpBytes (l : List Dump) : Nat := l.foldl (fun a d => a + d.size) 0

/-- A package dump overwrites the oldest cluster dumps until it fits. `fuel`: one a dump. -/
def makeRoom : Nat → Nat → List Dump → List Dump
  | 0, _, l => l
  | fuel + 1, n, l =>
    if dumpBytes l + n ≤ stagingBytes then l
    else
      match l.find? (fun d => d.kind = 0) with
      | none => l
      | some d => makeRoom fuel n (l.erase d)

/-- Put a dump into the staging area: a cluster dump that finds it full is dropped. -/
def State.stage (s : State) (d : Dump) : State :=
  let l := if d.kind = 0 then s.rst.dumps else makeRoom s.rst.dumps.length d.size s.rst.dumps
  if d.kind = 0 ∧ stagingBytes < dumpBytes l + d.size then s.orReg (regRc 4) 2
  else { s with rst := { s.rst with dumps := l ++ [d] } }.setFld (regRc 4) 23 16 (l.length + 1)

/-- Capture a cluster dump. -/
def State.captureCl (s : State) (c gen : Nat) : State :=
  let t := s.rst.trigger
  s.stage ⟨0, t.1, t.2.1, s.now, t.2.2, ⟨[]⟩, ⟨[]⟩, [], [s.dumpCl c gen]⟩

/-- Capture a package dump: `kind` 1 at a halt, 2 on request. -/
def State.capturePkg (s : State) (kind : Nat) : State :=
  let t := s.rst.trigger
  let stopped := (upTo 64).filter (fun c => (s.cl c).seq.st = .stopped)
  s.stage ⟨kind, t.1, t.2.1, s.now, t.2.2, s.fc.log, s.fc.recs, (upTo 4).map (fun i => s.reg (regKs (4 * i))),
    stopped.map (fun c => s.dumpCl c (s.genOf c))⟩

/-! ### Cluster reset (R517) -/

/-- Phase 1 of a cluster reset: stop, generation, claims; merged where a reset is in progress (R513). -/
def State.reqReset (s : State) (c : Nat) : State :=
  if s.isBusy c then s
  else
    let s := (s.updSeq c (fun q => { q with st := .stopped, wait := .none, isOpen := false })).halt c
    { s.bumpGen c with claims := s.claims.filter (fun k => k.cl ≠ c) }.setBusy c true

/-- The memory of a cluster cleared: every byte zero, every granule clean. -/
def State.clearMem (s : State) (c : Nat) : State :=
  let a := clKey c 0
  let b := a + 2 ^ 22
  { s with
    mem := s.mem.filter (fun e => decide (e.1 < a) || decide (b ≤ e.1)),
    marks := ⟨s.marks.rows.filter (fun e => decide (e.1 < a / 8) || decide (b / 8 ≤ e.1))⟩ }

/-- Phases 2 to 5 of a cluster reset. The program store and CL_MEMCNT are kept. -/
def State.runReset (s : State) (c : Nat) : State :=
  let old := (lookup s.fc.adopt.rows c).map (fun x => x.2)
  let s := if s.fld (regRc 0) 1 1 = 1 then s.captureCl c (old.getD (s.genOf c)) else s
  let k := s.cl c
  let s := s.setCl c { Cluster.reset with
    seq := { Seq.reset with ran := k.seq.ran }, cp := { k.cp with jobs := [], mcCount := [] }, nextJob := k.nextJob, memLim := k.memLim }
  let s := { s.clearMem c with undo := s.undo.erase c }
  let s := [0x100, 0x204, 4].foldl (fun (s : State) o => s.setReg (regCl c o) 0) s
  (s.setFld (regCl c 0xC) 8 8 0).setBusy c false

/-- CLUSTER_RESET: the phases of Table 18.3. -/
def State.resetCluster (s : State) (c : Nat) : State := (s.reqReset c).runReset c

/-! ### Contexts (R343, R452, R517) -/

/-- RUN job slots of a context go QUIET (R452). -/
def State.quietJobs (s : State) (ctx cause : Nat) (from_ : Option (Nat × Nat)) : State :=
  (upTo 16).foldl (fun (s : State) j =>
    if s.jState j = 1 ∧ s.jCtx j = ctx then
      s.jobQuiet j cause (from_.bind (fun x => if x.1 = j then some x.2 else none)) else s) s

/-- The abort of a context: its jobs, its work (`own`: the sequence numbers that take cause 0x01), its clusters, which are
reset unless RC_CFG.HOLDSTOP is set. A disabled context has nothing to abort. -/
def State.abortCtx (s : State) (ctx : Nat) (own : List Nat) (cause jobCause : Nat) : State :=
  let s := s.quietJobs ctx jobCause none
  if s.ctxState ctx ≠ 1 ∧ s.ctxState ctx ≠ 2 then s
  else
    let ks := s.ctxClusters ctx
    let s := s.abortCore ctx own cause
    if s.fld (regRc 0) 2 2 = 1 then s else ks.foldl (fun (s : State) k => s.reqReset k) s

/-- ABORT. -/
def doAbort (ctx : Nat) (s : State) : State :=
  if s.ctxState ctx ≠ 1 ∧ s.ctxState ctx ≠ 2 then s.cmdErr ctx else s.abortCtx ctx [] 3 2

/-- CONTEXT_RESET: KV entries released, slots and banks EMPTY (Table 11.4). -/
def doContextReset (ctx : Nat) (s : State) : State :=
  if s.ctxState ctx ≠ 0 then s.cmdErr ctx
  else
    let s := if s.fld (regCtx ctx 0x408) 7 7 = 1 then
        (upTo 64).foldl (fun (s : State) hg => (s.kvRelease ctx hg 0 4096 0).2) s else s
    (s.setReg (regCtx ctx 0x80) 0).setReg (regCtx ctx 0x84) 0

/-! ### Relief clusters and the host map (R36 to R39) -/

/-- Is a physical cluster in service? -/
def State.inService (s : State) (k : Nat) : Bool := !s.fences.contains k && !s.dieOff (dieOf k)

/-- Relief homes with the cluster that carries each, in service, but for clusters on the dies `not`. -/
def State.reliefs (s : State) (not : List Nat) : List (Nat × Nat) :=
  s.relief.filterMap (fun h => (s.hostOf h).bind (fun k =>
    if s.inService k ∧ not.contains (dieOf k) = false then some (h, k) else none))

/-- The relief home that takes over for a cluster of a die (R38, R39): its own die first, then the lowest cluster. -/
def State.reliefFor (s : State) (die : Nat) (not : List Nat) : Option (Nat × Nat) :=
  let l := s.reliefs not
  match l.find? (fun x => dieOf x.2 = die) with
  | some x => some x
  | none => l.foldl (fun (b : Option (Nat × Nat)) x =>
      match b with
      | none => some x
      | some y => if x.2 < y.2 then some x else some y) none

def State.setHost (s : State) (h : Nat) (k : Option Nat) : State := { s with hostMap := s.hostMap.set h k }

/-- The host map after a fence of physical cluster c (R36, second and third rules). -/
def State.fenceMap (s : State) (c : Nat) : State :=
  (s.homesOf c).foldl (fun (s : State) h =>
    if s.relief.contains h then s.setHost h none
    else
      match s.reliefFor (dieOf c) [] with
      | none => s.setHost h none
      | some x => (s.setHost h (some x.2)).setHost x.1 none) s

/-- The host map after the return of physical cluster c (R36, fourth rule). -/
def State.returnMap (s : State) (c : Nat) : State :=
  if s.homesOf c ≠ [] then s
  else
    let free := (upTo 16).map (fun i => 16 * dieOf c + i) |>.filter (fun h => (s.hostOf h).isNone)
    match free.filter (fun h => !s.relief.contains h) ++ free.filter (fun h => s.relief.contains h) with
    | [] => s
    | h :: _ => s.setHost h (some c)

/-! ### Work on a cluster that is lost (R343, R528, R529) -/

/-- Dies that run the other copy of an output that section lc belongs to (R38). -/
def State.otherCopyDies (s : State) (r : RunRec) (lc : Nat) : List Nat :=
  (s.outsOf r.ctx r.slot).flatMap (fun o =>
    let a := s.copyLcs o false
    let b := if s.fld (regKso o 0) 30 30 = 1 then s.copyLcs o true else []
    let other := if a.contains lc then b else if b.contains lc then a else []
    r.step.secs.filterMap (fun x => if other.contains x.1 then some (dieOf x.2) else none))

/-- RX of a section (R527). -/
def State.sectionRx (s : State) (r : RunRec) (lc : Nat) : Bool :=
  bitOf ((s.slotHdr r.ctx r.slot).secs.getD lc (0, 0, 0)).2.2 0

/-- May the section of the present step be re-run (R528, R529)? `x`: the relief home and cluster chosen. -/
def State.rerunOn (s : State) (r : RunRec) (lc : Nat) : Option (Nat × Nat) :=
  if s.sectionRx r lc = false ∨ r.step.again ≠ [] ∨ (r.step.lost.filter (fun l => l ≠ lc)) ≠ [] then none
  else
    let at_ := ((r.step.secs.find? (fun x => x.1 = lc)).map (fun x => x.2)).getD 0
    let home := r.homes[lc]?
    match home.bind (fun h => s.hostOf h) with
    | some k => if k ≠ at_ ∧ s.inService k ∧ (s.otherCopyDies r lc).contains (dieOf k) = false then some (home.getD 0, k)
        else s.reliefFor (dieOf at_) (s.otherCopyDies r lc)
    | none => s.reliefFor (dieOf at_) (s.otherCopyDies r lc)

/-- A step that cannot be re-run (R529): its safety-relevant outputs are covered; a standing RUN without such outputs is
decided and its context aborted. -/
def State.stepLost (s : State) (r : RunRec) (lcs : List Nat) : State :=
  let rel := (s.outsOf r.ctx r.slot).filter (fun o => s.fld (regKso o 0) 28 28 = 0)
  if rel = [] then s.abortCtx r.ctx [r.seq] 3 2
  else
    let ds := s.decs.filter (fun (d : Decision) => decide (d.ctx = r.ctx ∧ d.run = r.seq ∧ d.no = r.step.no ∧ d.result = 0))
    let s := ds.foldl (fun (s : State) d => (s.updDec d (fun x => { x with want := true })).cover { d with want := true }) s
    let s := s.updRun r.ctx r.seq (fun (x : RunRec) =>
      { x with step := { x.step with ended := x.step.ended ++ lcs, lost := x.step.lost.filter (fun l => !lcs.contains l) } })
    match s.runs.find? (fun (x : RunRec) => decide (x.ctx = r.ctx ∧ x.seq = r.seq)) with
    | none => s
    | some x => if x.step.active && x.step.secs.all (fun y => x.step.ended.contains y.1) then s.stepEnded x else s

/-- The present work of physical cluster c is lost: `cause` 0x01 the cluster, 0x02 its die. -/
def State.workLost (s : State) (c cause : Nat) : State :=
  match s.runUsing c with
  | none => s
  | some r =>
    if !r.standing then s.discardOne r.ctx r.seq cause
    else
      let lcs := (r.step.secs.filter (fun x => x.2 = c)).map (fun x => x.1)
      let fl := (s.cl c).seq.flagsSeen
      let s := s.updRun r.ctx r.seq (fun (x : RunRec) =>
        { x with step := { x.step with lost := x.step.lost ++ lcs, lostFlags := fl } })
      let r' : RunRec := { r with step := { r.step with lost := r.step.lost ++ lcs } }
      if lcs.all (fun l => (s.rerunOn r' l).isSome) then s else s.stepLost r' r'.step.lost

/-! ### Fences (R26, R476) -/

/-- Fence physical cluster c: held in reset, its homes move, its work is lost or re-run. -/
def State.fenceCl (s : State) (c : Nat) : State :=
  if s.inService c = false then s
  else
    let s := ({ s with fences := s.fences ++ [c] }).fenceMap c
    (s.reqReset c).workLost c 1

/-- Contexts whose image in use has no placement for the dies that remain (R40). -/
def State.noPlacement (s : State) : List Nat :=
  ((s.runs.filter (fun (r : RunRec) => (s.pickPlacement (s.slotHdr r.ctx r.slot)).isNone)).map (fun (r : RunRec) => r.ctx)).eraseDups

/-- Take a compute die offline (R26, R40): host work on it is discarded with cause 0x02, clusters stop and are reset, homes
of other dies that one of its clusters carries move on. -/
def State.fenceDie (s : State) (d : Nat) : State :=
  if s.dieOff d then s
  else
    let s := { s with fences := s.fences ++ [0x200 + 16 * d] }
    let ks := (upTo 16).map (fun i => 16 * d + i)
    let s := ks.foldl (fun (s : State) k => s.workLost k 2) s
    let s := ks.foldl (fun (s : State) k => s.reqReset k) s
    let s := ks.foldl (fun (s : State) k => if (s.homesOf k).any (fun h => decide (dieOf h ≠ d)) then s.fenceMap k else s) s
    s.noPlacement.foldl (fun (s : State) x => s.abortCtx x [] 2 2) s

/-- The unit that a source fences (Table 16.10). -/
inductive Fenced where
  | cluster (c : Nat)
  | region (r : Nat)
  | die (d : Nat)
  | camera (n : Nat)
  | lidar (p : Nat)
  | viaduct (p : Nat)
  deriving DecidableEq, Repr

def fencedBy (src : Nat) : Option Fenced :=
  if src < 0x40 then some (.cluster src)
  else if 0x100 ≤ src ∧ src < 0x110 then some (.region (src - 0x100))
  else if 0x200 ≤ src ∧ src < 0x240 then some (.die ((src - 0x200) / 16))
  else if 0x600 ≤ src ∧ src < 0x610 then some (.camera (src - 0x600))
  else if 0x610 ≤ src ∧ src < 0x614 then some (.lidar (src - 0x610))
  else if 0x900 ≤ src ∧ src < 0x908 then some (.viaduct (src - 0x900))
  else none

/-- Fence a unit (Table 16.10). -/
def State.fence (s : State) : Fenced → State
  | .cluster c => s.fenceCl c
  | .region r => (upTo 4).foldl (fun (s : State) i => s.fenceCl (4 * r + i)) s
  | .die d => s.fenceDie d
  | .camera n =>
    if s.fences.contains (portSrc n) then s
    else { (doReceiverEnable n (s.reg (regAp n 0) &&& 0x7FFFFFFF#32) s) with fences := s.fences ++ [portSrc n] }
  | .lidar p =>
    if s.fences.contains (portSrc (16 + p)) then s
    else { (doReceiverEnable (16 + p) (s.reg (regLp p 0) &&& 0x7FFFFFFF#32) s) with fences := s.fences ++ [portSrc (16 + p)] }
  | .viaduct p => if s.vpState p = 6 then s else doByp p true s

/-! ### Regions, dies, hub sub-blocks (R518 to R520) -/

/-- REGION_RESET. -/
def State.resetRegion (s : State) (r : Nat) : State :=
  let u := 0x100 + r
  let s := if s.isBusy u then s else (s.bumpGen u).setBusy u true
  let s := (upTo 4).foldl (fun (s : State) i => s.reqReset (4 * r + i)) s
  let s := { s with claims := s.claims.filter (fun k => k.res ≠ resBus r) }
  let s := (upTo 4).foldl (fun (s : State) i => s.runReset (4 * r + i)) s
  { s with pw := { s.pw with gated := s.pw.gated.filter (fun x => x ≠ r) } }.setBusy u false

/-- The registers on a compute die back at their reset values (R587), but for CL_MEMCNT and CL_GEN (R517). -/
def State.dieRegs (s : State) (d : Nat) : State :=
  let on := fun (a : Nat) =>
    (decide (regCl (16 * d) 0 ≤ a ∧ a < regCl (16 * d + 16) 0) && !(decide (a % 0x1000 = 0x200 ∨ a % 0x1000 = 0xC)))
      || decide (regRg (4 * d) 0 ≤ a ∧ a < regRg (4 * d + 4) 0) || decide (regEe d 0 ≤ a ∧ a < regEe (d + 1) 0)
  { s with regs := ⟨s.regs.rows.filter (fun e => !on e.1)⟩ }

/-- DIE_RESET: the die stays online or offline as it was. Work that uses the die is discarded (Table 18.6, R343). -/
def State.resetDie (s : State) (d : Nat) : State :=
  let u := 0x200 + 16 * d
  let ks := (upTo 16).map (fun i => 16 * d + i)
  let s := if s.isBusy u then s else (s.bumpGen u).setBusy u true
  let s := ks.foldl (fun (s : State) k => s.workLost k 2) s
  let s := ks.foldl (fun (s : State) k => s.reqReset k) s
  let s := (upTo 4).foldl (fun (s : State) i => if s.isBusy (0x100 + 4 * d + i) then s else s.bumpGen (0x100 + 4 * d + i)) s
  let s := (upTo 4).foldl (fun (s : State) i => s.setBusy (0x100 + 4 * d + i) false) s
  let s := ks.foldl (fun (s : State) k => s.runReset k) s
  (s.dieRegs d).setBusy u false

/-- HUB_SUBBLOCK_RESET (Table 18.4). -/
def State.resetHub (s : State) (u : Nat) : State :=
  if !hubSubBlocks.contains u then s
  else
    let s := s.bumpGen u
    if u = 0x403 then
      let cs := ((s.host.reqs.rows.flatMap (fun p => p.2.map (fun (x : DecReq) => x.ctx)))
        ++ (s.host.inBlock.rows.flatMap (fun p => p.2.map (fun (x : DecReq) => x.ctx)))).eraseDups
      let s := { s with host := { s.host with reqs := ⟨[]⟩, inBlock := ⟨[]⟩, winOpen := ⟨[]⟩ } }
      cs.foldl (fun (s : State) c => s.abortCtx c [] 3 2) s
    else if u = 0x404 then
      let cs := ((s.host.journal.filter (fun (e : JEntry) => e.typ = 3 && e.started && e.out.isNone
        && s.runs.any (fun (r : RunRec) => decide (r.ctx = e.ctx ∧ r.seq = e.seq) && r.held.isSome))).map (fun (e : JEntry) => e.ctx)).eraseDups
      cs.foldl (fun (s : State) c => s.abortCtx c [] 3 2) s
    else if u = 0xA02 then { s with rcd := { s.rcd with starved := none, starveSent := false } }
    else if u = 0xB01 then
      { s with saf := { s.saf with fbRun := none, fbKat := true } }.setFbDown true
    else s

/-- RESET_ESCALATION (R521): a reset in progress exceeds its bound. -/
def doResetEscalation (u : Nat) (s : State) : State :=
  if !s.isBusy u then s
  else if u < 64 then
    let r := u / 4
    let s := if s.isBusy (0x100 + r) then s else (s.bumpGen (0x100 + r)).setBusy (0x100 + r) true
    (upTo 4).foldl (fun (s : State) i => s.reqReset (4 * r + i)) s
  else if u < 0x110 then
    let d := (u - 0x100) / 4
    let x := 0x200 + 16 * d
    let s := if s.isBusy x then s else (s.bumpGen x).setBusy x true
    (upTo 16).foldl (fun (s : State) i => s.reqReset (16 * d + i)) s
  else if u < 0x240 then
    let s := (s.setBusy u false).fenceDie ((u - 0x200) / 16)
    { s.send (u + 1) 0xA4 0 true [] with rst := { s.rst with busy := s.rst.busy.filter (fun x => x ≠ u) } }
  else (s.setBusy u false).sendSev u 0xA4 0 5

/-! ### Package reset, first phase (R522, R525, Table 18.6) -/

/-- The bits of a register that survive package reset (R12, "retained"). -/
def retainMask (a : Nat) : Nat :=
  if a = regKs 0xC ∨ a = regFc 0x10 ∨ a = regFc 0x14 ∨ a = regFc 0x50 then 0xFFFFFFFF
  else if a = regRc 4 then 0xFFFF0000
  else if a = regFc 4 then 0xFF000000
  else if a = regMg 0x10 then 0xF8FF0000
  else if regCtx 0 0 ≤ a ∧ a < regCtx 256 0 ∧ (a % 0x1000 = 8 ∨ a % 0x1000 = 0xC) then 0xFFFFFFFF
  else 0

/-- The registers after package reset: reset values but for retained bits. -/
def State.resetRegs (s : State) : Table Word32 :=
  ⟨s.regs.rows.filterMap (fun e =>
    let m := BitVec.ofNat 32 (retainMask e.1)
    if m = 0 then none else some (e.1, (e.2 &&& m) ||| (regReset e.1 &&& ~~~m)))⟩

/-- The state that a package reset leaves: every block's reset state but for what Table 18.6 keeps; the boot is due. Accepted
work without an outcome is discarded with cause 0x04 (R343). -/
def State.pkgKept (s : State) (cause : Nat) : State :=
  let j := s.host.journal.map (fun (e : JEntry) =>
    { e with started := false, busy := false, out := some (e.out.getD ⟨3, 4, 0, [], 0⟩) })
  let recs : Table FaultRecord := ⟨s.fc.recs.rows.map (fun e => (e.1, { e.2 with carried := true }))⟩
  { State.reset with
    pending := s.pending, regs := s.resetRegs, mem := s.mem.filter (fun e => decide (e.1 / 2 ^ 49 = 4)),
    host := { HostSt.reset with journal := j },
    fc := { FcSt.reset with
      recs := recs, log := s.fc.log, flash := s.fc.flash, due := s.fc.due, staged := s.fc.staged, hoursFlash := s.fc.hoursFlash },
    rst := { RstSt.reset with
      boot := some cause, dumps := s.rst.dumps, flashDumps := s.rst.flashDumps, nextSlot := s.rst.nextSlot },
    mg := { MgSt.reset with
      seen := s.mg.seen, ownerKey := s.mg.ownerKey, out := s.mg.out, powerCount := s.mg.powerCount, svnFloor := s.mg.svnFloor,
      flash := s.mg.flash },
    saf := { SafSt.reset with tested := ⟨(upTo 64).map (fun c => (c, s.ticks))⟩, alive := s.ticks },
    freeCount := s.freeCount, ticks := s.ticks }

/-- A package reset starts, with its cause in RC_STAT. -/
def State.pkgBegin (s : State) (cause : Nat) : State := (s.pkgKept cause).setFld (regRc 4) 31 24 cause

/-! ### Package halt (R523) -/

/-- The package is halted, and FC_STAT.HALT says so. -/
def State.markHalted (s : State) : State := { s with rst := { s.rst with halted := true } }.setFld (regFc 4) 1 1 1

/-- PACKAGE_HALT; with AUTORST set, the package reset follows at once. -/
def State.haltPkg (s : State) : State :=
  if s.rst.halted then s
  else
    let t := s.rst.trigger
    let s := s.enterSafe t.1 t.2.1 1
    let s := (upTo 64).foldl (fun (s : State) k =>
      if (s.cl k).seq.st = .running then
        (s.updSeq k (fun q => { q with st := .stopped, wait := .none, isOpen := false })).halt k else s) s
    let s := (upTo 16).foldl (fun (s : State) j => s.jobQuiet j 9 none) s
    let s := (upTo 256).foldl (fun (s : State) c =>
      let s := s.discardAll c 4
      { s with runs := s.runs.filter (fun (r : RunRec) => r.ctx ≠ c), decs := s.decs.filter (fun (d : Decision) => d.ctx ≠ c) }.settle c) s
    let s := (s.capturePkg 1).markHalted
    if s.fld (regRc 0) 0 0 = 1 then s.pkgBegin 4 else s

/-! ### Re-execution (R527 to R530) -/

/-- The relief cluster chosen for a re-run is made ready: a self-test on it stops (R37), and it is reset where it is not
idle. -/
def State.readyRelief (s : State) (k : Nat) : State :=
  let s := { s with saf := { s.saf with testing := ⟨s.saf.testing.rows.filter (fun e => e.2 ≠ k)⟩ } }
  let s := (upTo 4).foldl (fun (s : State) d => if (lookup s.saf.testing.rows d).isNone then s.setFld (regKs (0xC04 + 4 * d)) 7 7 0 else s) s
  s.resetCluster k

/-- RE_EXECUTION: the sections of a step that lost their cluster run again on a relief cluster from c-cycle t (R528), or the
retracted step at the head of the queue runs again with every section (R530). -/
def doReExecution (c seq t : Nat) (s : State) : State :=
  match s.runs.find? (fun (r : RunRec) => decide (r.ctx = c ∧ r.seq = seq) && r.standing) with
  | none => s
  | some r =>
    match r.step.lost with
    | lc :: _ =>
      match s.rerunOn r lc with
      | none => s.stepLost r r.step.lost
      | some x =>
        let was := ((r.step.secs.find? (fun y => y.1 = lc)).map (fun y => y.2)).getD 0
        let s := s.readyRelief x.2
        let s := s.updRun c seq (fun (y : RunRec) =>
          { y with step := { y.step with
              secs := y.step.secs.map (fun z => if z.1 = lc then (lc, x.2) else z),
              lost := y.step.lost.filter (fun l => l ≠ lc), again := y.step.again ++ [lc] } })
        let s := { s with decs := s.decs.map (fun (d : Decision) =>
          if d.ctx = c ∧ d.run = seq ∧ d.no = r.step.no then
            { d with units := d.units.map (fun k => if k = was then x.2 else k), bad := d.bad.filter (fun k => k ≠ was) } else d) }
        s.startSections r.ctx r.slot r.args [(lc, x.2)] t r.step.lostFlags true
    | [] =>
      match r.redo with
      | [] => s
      | (no, horizon, ref) :: rest =>
        if r.step.active then s
        else
          match s.placeSecs (entrySecs (s.slotHdr r.ctx r.slot) r.entry) r.homes with
          | none => s
          | some secs =>
            if !secs.all (fun x => s.canLoad x.2) then s
            else
              let moved := fun (x : Nat × Nat) => r.step.secs.any (fun y => decide (y.1 = x.1 ∧ y.2 ≠ x.2))
              let st : RunStep :=
                { active := true, no := no, horizon := horizon, ref := ref, start := s.ticks, secs := secs, ended := [], again := [],
                  retracted := false, rerun := true, endAt := 0, lost := [], lostFlags := 0 }
              let s := s.updRun c seq (fun (y : RunRec) => { y with step := st, redo := rest })
              secs.foldl (fun (s : State) x => s.startSections r.ctx r.slot r.args [x] t 0 (moved x)) s

end Sys2Proof.Machine
end

