-- ==== Sys2Proof/Machine/Fault.lean ====
section
/-! DEFINITION. The fault collector: messages, records, severity actions, escalation, reports, fence commands, history
(R456 to R480). -/

namespace Sys2Proof.Machine

def fcSrc : Nat := 0xE00

/-! ### Fields of a message (Table 16.1) -/

def msgSrc (m : Nat) : Nat := bitsOf m 63 52
def msgKind (m : Nat) : Nat := bitsOf m 51 44
def msgAddr (m : Nat) : Nat := bitsOf m 43 12
def msgGen (m : Nat) : Nat := bitsOf m 11 4
def msgSeq (m : Nat) : Nat := bitsOf m 3 1
def msgC (m : Nat) : Bool := bitOf m 0

def FaultRecord.src (r : FaultRecord) : Nat := msgSrc r.msg.toNat
def FaultRecord.kind (r : FaultRecord) : Nat := msgKind r.msg.toNat

/-- The 32 bytes of a record (Table 16.8). -/
def FaultRecord.bytes (r : FaultRecord) : List Byte :=
  let b := fun (x : Bool) (i : Nat) => if x then 2 ^ i else 0
  leBytes 8 r.msg.toNat ++ leBytes 16 r.time.toNat ++ leBytes 1 (r.sev + 8 * r.eff + b r.carried 6)
    ++ leBytes 1 (b r.isOpen 0 + b r.acked 1 + b r.gone 2 + b r.escRep 3 + b r.escDl 4 + b r.nofence 5 + b r.noctx 6
      + b r.displaced 7)
    ++ leBytes 2 r.rep ++ leBytes 4 r.lseq.toNat

/-! ### Log, FAULT_N, reports (R469, R472, R475) -/

/-- The number of the next log entry. -/
def State.logSeq (s : State) : Nat := (s.reg (regFc 0x10)).toNat

/-- Append an entry in the layout of a record, with the next LSEQ. -/
def State.logAdd (s : State) (r : FaultRecord) : State :=
  let w := s.fld (regFc 0x14) 10 0
  let q := s.logSeq
  let s := { s with fc := { s.fc with log := s.fc.log.set w ({ r with lseq := BitVec.ofNat 32 q }).bytes } }
  (s.setReg (regFc 0x10) (BitVec.ofNat 32 (q + 1))).setFld (regFc 0x14) 10 0 (w + 1)

/-- NOPEN, the level of FAULT_N (FC_STAT.PINLOW) and MGTDEG follow the open records. -/
def State.fcShow (s : State) : State :=
  let th := max 1 (s.fld (regFc 0) 6 4)
  let low := s.fc.recs.rows.any (fun e => decide (th ≤ e.2.eff)) || decide (s.fld (regFc 4) 0 0 = 0)
  let deg := s.fc.recs.rows.any (fun e => decide (e.2.kind = 0xA5) && decide (e.2.src = 0xC00 ∨ e.2.src = 0xC01))
  ((s.setFld (regFc 4) 31 24 s.fc.recs.rows.length).setFld (regFc 4) 2 2 (if low then 1 else 0)).setFld (regKs 4) 5 5
    (if deg then 1 else 0)

/-- Big-endian bytes of a MAC address. -/
def macBytes (hi lo : Nat) : List Byte := (leBytes 6 (hi % 65536 * 2 ^ 32 + lo)).reverse

/-- Queue a report of a record event (Table in R475): 1 open, 2 repeat, 3 escalation, 4 gone, 5 acknowledged, 6 closed,
7 displaced. -/
def State.report (s : State) (event slot : Nat) (r : FaultRecord) : State :=
  if s.fld (regFc 0x40) 31 31 = 0 then s
  else if 64 ≤ s.fc.reports.length ∨ s.fld (regTw 0) 0 0 = 0 then s.bump (regFc 0x48) 31 16 1
  else
    let payload := leBytes 1 1 ++ leBytes 1 event ++ leBytes 2 slot ++ r.bytes ++ leBytes 2 s.pid ++ List.replicate 10 0
    let t := s.fld (regFc 0x40) 15 0
    let frame := macBytes (s.fld (regFc 0x48) 15 0) (s.reg (regFc 0x44)).toNat
      ++ macBytes (s.fld (regTw 0xC) 15 0) (s.reg (regTw 8)).toNat ++ [BitVec.ofNat 8 (t / 256), BitVec.ofNat 8 t] ++ payload
    { s with fc := { s.fc with reports := s.fc.reports ++ [frame] } }

/-- Vector 256 (R474). -/
def State.fcIrq (s : State) (eff : Nat) : State :=
  if s.fld (regFc 0) 0 0 = 1 ∧ s.fld (regFc 0) 10 8 ≤ eff then s.trigger 256 true else s

/-- A record event: the record as it now is, its log entry, its report, FAULT_N. -/
def State.recEvent (s : State) (event slot : Nat) (r : FaultRecord) : State :=
  let recs := if r.isOpen ∧ r.displaced = false then s.fc.recs.set slot r else s.fc.recs.erase slot
  let s := ({ s with fc := { s.fc with recs := recs } }).logAdd r
  (s.report event slot r).fcShow

/-- The open record of a source and kind. -/
def State.openRec (s : State) (src kind : Nat) : Option (Nat × FaultRecord) :=
  s.fc.recs.rows.find? (fun e => decide (e.2.src = src ∧ e.2.kind = kind))

/-- A record that holds ACKED and GONE closes (R466). -/
def State.closeIf (s : State) (slot : Nat) (r : FaultRecord) : State :=
  if r.acked ∧ r.gone then s.recEvent 6 slot { r with isOpen := false } else s

/-! ### History (R478) -/

/-- The history entries of a record that reaches severity 2. -/
def State.histNote (s : State) (r : FaultRecord) : State :=
  let units := match fencedBy r.src with
    | some (.region g) => (upTo 4).map (fun i => 4 * g + i)
    | some _ => [r.src]
    | none => if 0x300 ≤ r.src ∧ r.src < 0x380 then [r.src] else []
  let mk := fun (u : Nat) => (⟨u, r.kind, r.eff, 0, (s.reg (regFc 0x50)).toNat, r.lseq.toNat⟩ : HistEntry)
  { s with fc := { s.fc with due := s.fc.due ++ units.map mk } }

/-- HISTORY_WRITE: the oldest entry that waits goes to flash, or to the staging area where the region is full. -/
def doHistoryWrite (s : State) : State :=
  match s.fc.due with
  | [] => s
  | e :: r =>
    if s.fc.flash.length < 16384 then { s with fc := { s.fc with due := r, flash := s.fc.flash ++ [e] } }
    else if s.fc.staged.length < 64 then { s with fc := { s.fc with due := r, staged := s.fc.staged ++ [e] } }
    else s

/-- OPERATING_HOURS: 0.1 h in P0, P1 or P2 has passed; the counter is copied to flash (R479). -/
def doOperatingHours (s : State) : State :=
  if s.fld (regPw 8) 1 0 = 2 then s
  else
    let n := (s.reg (regFc 0x50)).toNat + 1
    { s.setReg (regFc 0x50) (BitVec.ofNat 32 n) with fc := { s.fc with hoursFlash := n % 2 ^ 32 } }

/-! ### What a fault of severity 2 spoils (R446, R485) -/

/-- The physical clusters of a source of class 0 to 2. -/
def unitClusters (src : Nat) : List Nat :=
  if src < 64 then [src]
  else if 0x100 ≤ src ∧ src < 0x110 then (upTo 4).map (fun i => 4 * (src - 0x100) + i)
  else if 0x200 ≤ src ∧ src < 0x240 then (upTo 16).map (fun i => 16 * ((src - 0x200) / 16) + i)
  else []

/-- Condition 2 of R485 fails for the decisions that a record concerns. -/
def State.spoil (s : State) (src : Nat) (ctxs : List Nat) : State :=
  let ks := unitClusters src
  let byCtx := ([3, 4, 5, 9] : List Nat).contains (src / 256)
  { s with decs := s.decs.map (fun (d : Decision) =>
      let inTime := match d.ended with
        | none => true
        | some t => decide (s.ticks ≤ t + s.kchk d.out)
      let hit := if byCtx then ctxs.contains d.ctx else d.units.any (fun k => ks.contains k)
      if d.result = 0 ∧ inTime = true ∧ hit = true then { d with bad := (d.bad ++ [src]).eraseDups } else d) }

/-- A job and its context abort for a cause of Table 15.8 with its kind (R452). -/
def State.jobAbort (s : State) (j cause : Nat) (kind : Option Nat) (from_ : Option Nat) : State :=
  if s.jState j ≠ 1 then s
  else
    let ctx := s.jCtx j
    let s := match kind with
      | none => s
      | some k => s.send (jobSrc j) k (s.jOldest j) true [ctx]
    (s.jobQuiet j cause from_).abortCtx ctx [] 5 2

/-- The own checks of epoch `e` of a slot fail (R446, R448): it is retracted, unless its CONFIRM was sent. -/
def State.checksFail (s : State) (j e : Nat) : State :=
  if 2 ^ 31 ≤ (e + 2 ^ 32 - s.jOldest j) % 2 ^ 32 ∨ (e = s.jOldest j ∧ 0 < (s.job j).rounds) then s
  else
    let (ok, t) := s.retractOwn j e
    if ok then t else s.jobAbort j 8 (some 0x84) none

/-- The job slots whose own checks a record of severity 2 fails. -/
def State.spoilJobs (s : State) (src : Nat) : State :=
  let ks := unitClusters src
  if ks = [] then s
  else (upTo 16).foldl (fun (s : State) j =>
    if s.jState j ≠ 1 then s
    else
      match s.jRun j with
      | none => s
      | some r =>
        let inTime := r.step.active || decide (s.ticks ≤ r.step.endAt + 500 * max 1 (s.fld (regJob j 0xC) 15 0))
        if inTime && r.step.secs.any (fun x => ks.contains x.2) then
          s.checksFail j (((s.reg (regJob j 8)).toNat + r.step.no) % 2 ^ 32)
        else s) s

/-! ### Actions (Table 16.5, Table 17.9) -/

/-- Keystone's reaction to a message of effective severity 4 (Table 17.9). -/
def State.safetyRequest (s : State) (src kind : Nat) : State :=
  if src < 0x300 then s.coverUnits (unitClusters src)
  else if kind = 0xA0 ∨ kind = 0xA7 then s
  else if kind = 0xA5 ∧ (src = 0xC00 ∨ src = 0xC01) then s
  else s.enterSafe src kind 1

/-- The sequence numbers of a context's RUNs whose present step uses clusters. -/
def State.runsOn (s : State) (ctx : Nat) (ks : List Nat) : List Nat :=
  (s.runs.filter (fun (r : RunRec) => decide (r.ctx = ctx) && r.step.active && r.step.secs.any (fun x => ks.contains x.2))).map
    (fun (r : RunRec) => r.seq)

/-- Take the action of a level for a source: NOFENCE, NOCTX, and the state. -/
def State.act (s : State) (level src kind lseq : Nat) (ctxs : List Nat) : Bool × Bool × State :=
  let s := { s with rst := { s.rst with trigger := (src, kind, lseq) } }
  if level = 2 then
    match fencedBy src with
    | none => (true, false, s)
    | some u => (false, false, s.fence u)
  else if level = 3 then
    (false, decide (ctxs = []), ctxs.foldl (fun (s : State) c => s.abortCtx c (s.runsOn c (unitClusters src)) 3 2) s)
  else if level = 4 then
    match fencedBy src with
    | none => (true, false, s.safetyRequest src kind)
    | some u => (false, false, (s.safetyRequest src kind).fence u)
  else if level = 5 then (false, false, s.haltPkg)
  else (false, false, s)

/-- The domain's reaction to CLK-MON (Table 20.6), taken as its record opens (R568): none, a fence, or the halt. -/
inductive ClkReact where
  | none | halt | hostLoss
  | fences (l : List Fenced)
  deriving DecidableEq, Repr

def clkReact (i : Nat) : ClkReact :=
  if i < 4 then .fences [.die i]
  else if i = 4 then .halt
  else if i < 9 then .fences [.die (i - 5)]
  else if i < 13 then .halt
  else if i < 21 then .fences [.viaduct (i - 13)]
  else if i < 25 then .fences ((upTo 4).map (fun k => .camera (4 * (i - 21) + k)))
  else if i < 29 then .fences [.lidar (i - 25)]
  else if i = 29 then .hostLoss
  else if i = 31 ∨ i = 32 ∨ i = 35 ∨ i = 36 ∨ i = 39 then .halt
  else .none

/-- What a record's own kind does beside its severity (R568, R576). -/
def State.kindAct (s : State) (src kind : Nat) : State :=
  if kind = 0xB8 then
    match clkReact (src - 0xD10) with
    | .fences l => l.foldl (fun (s : State) u => s.fence u) s
    | .hostLoss => doHostLoss 0 s
    | _ => s
  else s

/-- Effective severity of a new record: the programmed one, or 5 where R568 and R576 call for a halt. -/
def effOf (src kind sev : Nat) : Nat :=
  if kind = 0xB8 ∧ 0xD10 ≤ src ∧ clkReact (src - 0xD10) = .halt then 5
  else if kind = 0xBD ∧ src = 0xD00 then 5
  else sev

/-- The first steps of a record that has reached severity 2: what it spoils, and its history. -/
def State.reached2 (s : State) (r : FaultRecord) : State :=
  ((s.histNote r).spoil r.src r.ctxs).spoilJobs r.src

/-! ### Messages (R460, R463 to R467, R471) -/

/-- The programmed severity of a class and kind (R461). -/
def regSev (cls kind : Nat) : Nat := regFc (0x2000 + 0x100 * cls + kind / 4 * 4)
def State.sevOf (s : State) (src kind : Nat) : Nat := s.fld (regSev (src / 256) kind) (8 * (kind % 4) + 2) (8 * (kind % 4))

/-- Open a record in a slot: the action's flags are in it from the start. -/
def State.openIn (s : State) (slot : Nat) (r : FaultRecord) : State :=
  let s := s.recEvent 1 slot r
  let s := (if 2 ≤ r.eff then s.reached2 r else s).fcIrq r.eff
  let s := s.kindAct r.src r.kind
  let (nf, nc, s) := s.act r.eff r.src r.kind r.lseq.toNat r.ctxs
  match lookup s.fc.recs.rows slot with
  | none => s
  | some x => { s with fc := { s.fc with recs := s.fc.recs.set slot { x with nofence := x.nofence || nf, noctx := x.noctx || nc } } }

/-- The lowest free slot; slot 128 is FC-OVERFLOW's own (R471). -/
def State.freeSlot (s : State) (src kind : Nat) : Option Nat :=
  if src = fcSrc ∧ kind = 0xF0 then some 128 else (upTo 128).find? (fun i => !s.fc.recs.has i)

/-- The oldest open record of effective severity 1. -/
def State.oldest1 (s : State) : Option (Nat × FaultRecord) :=
  (s.fc.recs.rows.filter (fun e => decide (e.1 < 128 ∧ e.2.eff = 1))).foldl (fun (b : Option (Nat × FaultRecord)) e =>
    match b with
    | none => some e
    | some x => if e.2.at_ < x.2.at_ ∨ (e.2.at_ = x.2.at_ ∧ e.2.lseq.toNat < x.2.lseq.toNat) then some e else some x) none

/-- A message opens a record (R465, R471). -/
def State.openRecord (s : State) (r : FaultRecord) : State :=
  match s.freeSlot r.src r.kind with
  | some i => s.openIn i r
  | none =>
    match s.oldest1 with
    | some (i, x) =>
      let s := s.recEvent 7 i { x with displaced := true }
      s.openIn i { r with lseq := BitVec.ofNat 32 s.logSeq }
    | none =>
      let s := (((s.logAdd r).setFld (regFc 4) 3 3 1).sendEv fcSrc 0xF0 0)
      let s := if 2 ≤ r.eff then s.reached2 r else s
      ((s.kindAct r.src r.kind).act r.eff r.src r.kind r.lseq.toNat r.ctxs).2.2

/-- Raise a record one level (R467, R468) and take the action of the new level; `r` carries the ESC flag already. -/
def State.escalate (s : State) (slot : Nat) (r : FaultRecord) : State :=
  let eff := min 5 (r.eff + 1)
  let x := { r with eff := eff }
  let s := s.recEvent 3 slot x
  let s := (if 2 ≤ eff ∧ r.eff < 2 then s.reached2 x else s).fcIrq eff
  let (nf, nc, s) := s.act eff r.src r.kind r.lseq.toNat r.ctxs
  match lookup s.fc.recs.rows slot with
  | none => s
  | some y => { s with fc := { s.fc with recs := s.fc.recs.set slot { y with nofence := y.nofence || nf, noctx := y.noctx || nc } } }

/-- A further C = 1 message of an open record (R467); a record that was carried takes no action (R473). -/
def State.repeatRec (s : State) (slot : Nat) (r : FaultRecord) : State :=
  let gone := if kindLevel r.kind then false else r.gone
  let x := { r with rep := satAdd 16 r.rep 1, gone := gone }
  if r.acked ∨ r.carried then s.recEvent 2 slot x
  else
    let s := s.recEvent 2 slot { x with escRep := true }
    if r.escRep then s else s.escalate slot { x with escRep := true }

/-- A C = 0 message of an open record of a level kind (R466). -/
def State.goneRec (s : State) (slot : Nat) (r : FaultRecord) : State :=
  let x := { r with gone := true }
  ((s.recEvent 4 slot x).fcIrq x.eff).closeIf slot x

/-- A message without a record: the log entry alone. -/
def State.plainRec (s : State) (m : NetMsg) (sev : Nat) : FaultRecord :=
  { msg := m.bits, time := BitVec.ofNat 128 (leNat (timeBytes s.now)), sev := sev, eff := sev, carried := false,
    isOpen := false, acked := false, gone := false, escRep := false, escDl := false, nofence := false, noctx := false,
    displaced := false, rep := 0, lseq := BitVec.ofNat 32 s.logSeq, ctxs := m.ctxs, at_ := s.ticks }

/-- The generation that the collector holds for a source (R456, R516). -/
def State.colGen (s : State) (src : Nat) : Nat :=
  match lookup s.fc.adopt.rows src with
  | some (t, old) => if s.ticks < t then old else s.genOf src
  | none => s.genOf src

/-- Process a message that arrived (R460 to R467). -/
def State.process (s : State) (m : NetMsg) : State :=
  let b := m.bits.toNat
  let src := msgSrc b
  let kind := msgKind b
  if msgGen b ≠ s.colGen src then s.bump (regFc 0xC) 31 16 1
  else
    let want := match lookup s.fc.expSeq.rows src with
      | some (g, q) => if g = msgGen b then q else 0
      | none => 0
    let s := if want = msgSeq b then s else s.sendEv fcSrc 0xF1 src
    let s := { s with fc := { s.fc with expSeq := s.fc.expSeq.set src (msgGen b, (msgSeq b + 1) % 8) } }
    if kind = 0 then s
    else
      let sev := if m.sev = 0 then s.sevOf src kind else m.sev
      let r := s.plainRec m sev
      match s.openRec src kind with
      | some (i, x) => if msgC b then s.repeatRec i x else if kindLevel kind then s.goneRec i x else s.logAdd r
      | none =>
        let eff := effOf src kind sev
        if msgC b ∧ 1 ≤ eff then s.openRecord { r with eff := eff, isOpen := true, gone := !kindLevel kind }
        else s.logAdd r

/-- FAULT_MESSAGE: the oldest message of a source arrives, or is lost to its parity check; `raw` is a message of an upset in
hardware that no other command stands for (log entry 25). -/
def doFaultMessage (src : Nat) (ok : Bool) (raw : Option Word64) (s : State) : State :=
  match raw with
  | some w =>
    let x := msgSrc w.toNat
    let ctxs := if x < 64 then s.ctxsOfCluster x
      else if 0x100 ≤ x ∧ x < 0x110 then ((unitClusters x).flatMap (fun c => s.ctxsOfCluster c)).eraseDups
      else if 0x500 ≤ x ∧ x < 0x600 then [x - 0x500]
      else if 0x910 ≤ x ∧ x < 0x920 then [s.jCtx (x - 0x910)]
      else []
    let s := { s with srcSeq := s.srcSeq.set x (BitVec.ofNat 3 (msgSeq w.toNat + 1)) }
    if ok then s.process ⟨w, ctxs, 0⟩ else s
  | none =>
    match s.net.find? (fun m => decide (msgSrc m.bits.toNat = src)) with
    | none => s
    | some m =>
      let s := { s with net := s.net.erase m }
      if ok then s.process m else s

/-- KEEP_ALIVE of a source of class 0 to 2 or 9: it takes its place behind the source's other messages. -/
def doKeepAlive (src : Nat) (s : State) : State :=
  if ¬ (src < 0x300 ∨ src / 256 = 9) then s
  else
    let first := !s.net.any (fun m => decide (msgSrc m.bits.toNat = src))
    let s := s.send src 0 0 true []
    if first then doFaultMessage src true none s else s

/-! ### Acknowledgement, deadlines (R466, R468) -/

/-- Acknowledge the record in a slot: true where it was open and CHK matched. -/
def State.ackRec (s : State) (slot chk : Nat) : Bool × State :=
  match lookup s.fc.recs.rows slot with
  | none => (false, s.bump (regFc 0xC) 15 0 1)
  | some r =>
    if r.lseq.toNat % 65536 ≠ chk then (false, s.bump (regFc 0xC) 15 0 1)
    else if r.acked then (true, s)
    else
      let x := { r with acked := true }
      (true, (s.recEvent 5 slot x).closeIf slot x)

/-- FC_ACK. -/
def doFcAck (v : Word32) (s : State) : State := (s.ackRec (bitsOf v.toNat 7 0) (bitsOf v.toNat 31 16)).2

/-- ACK_DEADLINE of the record in a slot. -/
def doAckDeadline (slot : Nat) (s : State) : State :=
  match lookup s.fc.recs.rows slot with
  | none => s
  | some r =>
    if r.acked ∨ r.escDl ∨ r.carried ∨ s.ticks < r.at_ + max 1 (s.fld (regFc 0) 23 16) * ticksPerMs then s
    else s.escalate slot { r with escDl := true }

/-! ### FC_FENCECMD, FC_SEV, PINTH, reports (R461, R469, R475, R477, R531) -/

def State.fcConfig (s : State) : State := s.sendEv fcSrc 0xF2 0

/-- FC_FENCECMD with OP = 0. -/
def doFenceCmd (unit : Nat) (s : State) : State :=
  match fencedBy unit with
  | none => (s.bump (regFc 0xC) 15 0 1).fcConfig
  | some u => { s with rst := { s.rst with trigger := (fcSrc, 0, 0) } }.fence u

/-- Is a unit marked permanent (R479)? -/
def State.isPerm (s : State) : Fenced → Bool
  | .cluster c => bitOf (s.reg (regFc (0x30 + 4 * (c / 32)))).toNat (c % 32)
  | .region r => (upTo 4).any (fun i => bitOf (s.reg (regFc (0x30 + 4 * ((4 * r + i) / 32)))).toNat ((4 * r + i) % 32))
  | .die d => bitOf (s.reg (regFc 0x38)).toNat d
  | .viaduct p => bitOf (s.reg (regFc 0x38)).toNat (4 + p)
  | .camera n => bitOf (s.reg (regFc 0x38)).toNat (12 + n)
  | .lidar p => bitOf (s.reg (regFc 0x38)).toNat (28 + p)

/-- A return is refused (R477). -/
def State.returnBad (s : State) (unit : Nat) (u : Fenced) : Bool :=
  let offline := match u with
    | .cluster c => s.dieOff (dieOf c)
    | .region r => s.dieOff (r / 4)
    | _ => false
  let same := fun (src : Nat) => match u with
    | .die d => decide (0x200 + 16 * d ≤ src ∧ src < 0x210 + 16 * d)
    | _ => decide (src = unit)
  s.isPerm u || offline || s.fc.recs.rows.any (fun e => decide (2 ≤ e.2.eff) && same e.2.src)

/-- A cluster's test of Table 18.8: the phase in which it fails, 0 where it passes. -/
def State.returnCl (s : State) (c phase : Nat) : State :=
  if s.fences.contains c = false then s
  else
    let s := s.resetCluster c
    if phase = 0 then
      let s := { s with
        fences := s.fences.filter (fun f => f ≠ c), saf := { s.saf with tested := s.saf.tested.set c s.ticks } }
      (s.returnMap c).resetCluster c
    else
      let e : HistEntry := ⟨c, 0xA2, 2, 1, (s.reg (regFc 0x50)).toNat, s.logSeq⟩
      { s.send c 0xA2 phase true [] with fc := { s.fc with due := s.fc.due ++ [e] } }

/-- RETURN_TO_SERVICE: `fails` gives the clusters that fail their test with the phase (Table 17.6). -/
def doReturnToService (unit : Nat) (fails : List (Nat × Nat)) (s : State) : State :=
  match fencedBy unit with
  | none => (s.bump (regFc 0xC) 15 0 1).fcConfig
  | some u =>
    if s.returnBad unit u then (s.bump (regFc 0xC) 15 0 1).fcConfig
    else
      let ph := fun (c : Nat) => (lookup fails c).getD 0
      match u with
      | .cluster c => s.returnCl c (ph c)
      | .region r => (upTo 4).foldl (fun (s : State) i => s.returnCl (4 * r + i) (ph (4 * r + i))) (s.resetRegion r)
      | .die d =>
        if !s.dieOff d then s
        else
          let s := s.resetDie d
          match ((upTo 16).map (fun i => 16 * d + i)).find? (fun c => decide (ph c ≠ 0)) with
          | none =>
            (upTo 16).foldl (fun (s : State) i => s.resetCluster (16 * d + i))
              { s with fences := s.fences.filter (fun f => f ≠ 0x200 + 16 * d) }
          | some c =>
            let e : HistEntry := ⟨0x200 + 16 * d, 0xA2, 2, 1, (s.reg (regFc 0x50)).toNat, s.logSeq⟩
            { s.send c 0xA2 (ph c) true [] with fc := { s.fc with due := s.fc.due ++ [e] } }
      | .camera n => { s with fences := s.fences.filter (fun f => f ≠ portSrc n) }
      | .lidar p => { s with fences := s.fences.filter (fun f => f ≠ portSrc (16 + p)) }
      | .viaduct p => doByp p false s

/-- FC_SEV: a write of one severity register (R461). -/
def doFcSev (off : Nat) (v : Word32) (s : State) : State :=
  if off < 0x2000 ∨ 0x3000 ≤ off ∨ off % 4 ≠ 0 then s
  else
    let q := off % 0x100 / 4 * 4
    let bad := (upTo 4).any (fun j =>
      let x := bitsOf v.toNat (8 * j + 2) (8 * j)
      decide (5 < x) || (decide (2 ≤ kindDefault (q + j)) && decide (x < kindDefault (q + j))))
    if bad then s.fcConfig else s.setReg (regFc off) (v &&& 0x07070707#32)

/-- PINTH_WRITE: a write of FC_CFG. -/
def doPinthWrite (v : Word32) (s : State) : State := (s.setReg (regFc 0) (v &&& 0x00FF0771#32)).fcShow

/-- TOWPATH_REPORT: the oldest report goes out while the link is up (R475). -/
def doTowpathReport (s : State) : State :=
  match s.fc.reports with
  | [] => s
  | f :: r =>
    if s.fld (regTw 0) 0 0 = 0 then s
    else { s with fc := { s.fc with reports := r }, mg := { s.mg with out := s.mg.out ++ [f] } }

end Sys2Proof.Machine
end

