-- ==== Sys2Proof/Machine/ViaductOps.lean ====
section
/-! DEFINITION. Viaduct: flits that arrive, what a packet that arrives does, resends, own checks, and what aborts a job (R432,
R433, R441, R442, R446, R448, R452, R453). -/

namespace Sys2Proof.Machine

/-! ### Packets that arrive -/

/-- ABORT received (R452): it names JOB and GEN of a RUN slot; a packet of another generation or a slot that left RUN is
stale (R453). -/
def State.gotAbort (s : State) (b : List Byte) : State :=
  match s.jobFor b with
  | none => match s.jobNamed b with | none => s | some j => s.jStale j
  | some j => s.jobAbort j 3 (some 0x85) (s.peerOf j (pkSrc b))

/-- WNAK received (R442): causes 1 and 4 are resent 10 us later, causes 2 and 3 abort the job. -/
def State.gotWnak (s : State) (b : List Byte) : State :=
  match s.sentFor b with
  | none => match s.jobFor b, s.jobNamed b with | none, some j => s.jStale j | _, _ => s
  | some o =>
    if pkAux b = 1 ∨ pkAux b = 4 then
      let up := fun (y : VdSent) => if y.slot = o.slot ∧ y.peer = o.peer ∧ y.msg = o.msg then { y with wnakAt := some s.ticks } else y
      { s with vd := { s.vd with outs := s.vd.outs.map up } }
    else if pkAux b = 2 then s.jobAbort o.slot 6 (some 0x81) none
    else if pkAux b = 3 then s.jobAbort o.slot 7 (some 0x82) none
    else s

/-- A packet whose destination is this module. -/
def State.gotPacket (s : State) (b : List Byte) : State :=
  if pkKind b = 1 then s.gotWrite b
  else if pkKind b = 2 then s.gotWack b
  else if pkKind b = 3 then s.gotWnak b
  else if pkKind b = 4 then s.gotConfirm b
  else if pkKind b = 5 then s.gotRetract b
  else s.gotAbort b

/-- A packet that has arrived complete: dropped (R438), passed on, or taken. -/
def State.gotAny (s : State) (vc : Nat) (b : List Byte) : State :=
  if pkBad b then s.vdProto
  else if pkDst b = s.pid then s.gotPacket b
  else s.inject vc b

/-- A packet of one KIND that arrives here: the commands WRITE_PACKET, WACK, WNAK, CONFIRM, RETRACT and ABORT_MESSAGE. A
packet of another KIND or for another module is not what the command names (log entry 23). -/
def State.arrive (s : State) (kind : Nat) (b : List Byte) : State :=
  if pkBad b then s.vdProto
  else if pkKind b = kind ∧ pkDst b = s.pid then s.gotPacket b
  else s

def doWritePacket (b : List Byte) (s : State) : State := s.arrive 1 b
def doWack (b : List Byte) (s : State) : State := s.arrive 2 b
def doWnak (b : List Byte) (s : State) : State := s.arrive 3 b
def doConfirm (b : List Byte) (s : State) : State := s.arrive 4 b
def doAbortMessage (b : List Byte) (s : State) : State := s.arrive 6 b

/-! ### Flits (R432, R433) -/

/-- A good flit's payload joins the packet of its VC; the last flit completes it. The length of a packet follows from its
header (R438, R439). -/
def State.takeFlit (s : State) (p : Nat) (b : List Byte) : State :=
  let h := fieldAt b 0 4
  let vc := bitsOf h 7 6
  let x := s.vp p
  let had := if bitOf h 4 then [] else x.part.get vc []
  let all := had ++ (b.drop 4).take 248
  if bitOf h 3 then
    let n := pkLen all
    let len := if pkKind all = 1 then 32 + n + (if bitOf (pkFlags all) 2 then ceilDiv n 64 else 0) else 32
    (s.setVp p { x with part := x.part.erase vc }).gotAny vc (all.take len)
  else s.setVp p { x with part := x.part.set vc all }

/-- FLIT_RECEIVE: a flit arrives at a port in UP. `fec`: 0 a clean codeword, 1 a corrected one, 2 an uncorrectable one. -/
def doFlitReceive (p fec : Nat) (b : List Byte) (s : State) : State :=
  if s.vpState p ≠ 2 then s
  else
    let s := if fec = 1 then s.bump (regVp p 0xC) 15 0 1 else if fec = 2 then s.bump (regVp p 8) 15 0 1 else s
    let h := fieldAt b 0 4
    let good := decide (fec ≠ 2 ∧ b.length = 256) && decide (fieldAt b 252 4 = (crc32c (b.take 252)).toNat)
    if !good then s.setVp p { s.vp p with nak := true }
    else if bitsOf h 7 6 = 3 then
      let s := s.vpAck p (bitsOf h 19 8)
      (if bitOf h 5 then s.vpReplay p (bitsOf h 19 8) else s).creditBack p b
    else
      let s := s.vpAck p (bitsOf h 19 8)
      let s := if bitOf h 5 then s.vpReplay p (bitsOf h 19 8) else s
      let x := s.vp p
      if bitsOf h 31 20 ≠ x.rx then s.setVp p { x with nak := true }
      else (s.setVp p { x with rx := (x.rx + 1) % 4096 }).takeFlit p b

/-! ### Timers and commands (R442, R446, R452) -/

/-- RTO in raw ticks (Table 15.9). -/
def State.rto (s : State) : Nat := 500 * min 200 (max 10 (s.fld (regVd 4) 7 0))

/-- RTO_EXPIRY: no reply within RTO; the fourth send was the last. -/
def doRtoExpiry (j p msg : Nat) (s : State) : State :=
  match s.vd.outs.find? (fun o => decide (o.slot = j ∧ o.peer = p ∧ o.msg = msg)) with
  | none => s
  | some o =>
    if o.wnakAt.isSome ∨ s.ticks < o.sentAt + s.rto then s
    else if o.sends < 4 then s.resend o (o.sends + 1)
    else s.jobAbort j 5 (some 0x80) none

/-- EPOCH_TIMEOUT: OLDEST did not commit within ETO of its first local step's start, or of the commit before it. -/
def doEpochTimeout (j : Nat) (s : State) : State :=
  if s.jState j ≠ 1 then s
  else
    match s.jRun j with
    | none => s
    | some r =>
      match r.begun.find? (fun x => decide (x.1 = s.stepOf j (s.jOldest j))) with
      | none => s
      | some x =>
        if max x.2 (s.job j).since + 50000 * max 1 (s.fld (regJob j 0xC) 31 16) ≤ s.ticks then
          s.jobAbort j 4 (some 0x83) none
        else s

/-- JOB_ABORT: the slot's ABORT command. -/
def doJobAbort (j : Nat) (s : State) : State := s.jobAbort j 1 none none

/-- Are the duplicated outputs of an epoch's step equal, as far as Keystone can compare them (R446, R487)? -/
def State.dupsEqual (s : State) (j epoch : Nat) : Bool × State :=
  match s.jRun j with
  | none => (true, s)
  | some r =>
    let no := s.stepOf j epoch
    let ds := s.decs.filter (fun (d : Decision) => decide (d.ctx = r.ctx ∧ d.run = r.seq ∧ d.no = no) && d.ended.isSome)
    ds.foldl (fun (a : Bool × State) d => let (c, t) := a.2.checkCopies d; (a.1 && c.c5, t)) (true, s)

/-- OWN_CHECKS: CHKWIN after the end of the last step of OLDEST. -/
def doOwnChecksAll (j : Nat) (s : State) : State :=
  if s.jState j ≠ 1 then s
  else
    let (eq, t) := s.dupsEqual j (s.jOldest j)
    if eq then doOwnChecks j t else s

/-- RETRACT: one that arrives, or (`own`: slot and epoch) the own checks of an epoch fail by unequal outputs. Faults that fail
them act as their record opens (State.spoilJobs). -/
def doRetract (b : List Byte) (own : Option (Nat × Nat)) (s : State) : State :=
  match own with
  | none => s.arrive 5 b
  | some (j, e) =>
    if s.jState j ≠ 1 then s
    else
      let (eq, t) := s.dupsEqual j e
      if eq then s else t.checksFail j e

end Sys2Proof.Machine
end

