-- ==== Sys2Proof/Machine/SafetyOps.lean ====
section
/-! DEFINITION. Safety requests, SAFE pins, the safety SPI, the rotating self-test, command timeouts (R491 to R496, R501 to
R509). -/

namespace Sys2Proof.Machine

/-! ### Requests and pins (R501, R503) -/

/-- SAFETY_REQUEST: Keystone's reaction to an open record of effective severity 4 or above. The collector's own action has
taken it already (Table 16.5); taken again it changes nothing that is decided. -/
def doSafetyRequest (src kind : Nat) (s : State) : State :=
  match s.openRec src kind with
  | none => s
  | some (_, r) => if 4 ≤ r.eff then s.safetyRequest src kind else s

/-- PIN_MONITOR: SAFE_B_N follows the safe line, Keystone's heartbeat, the halt line and the level of the SAFE_A_N
contact. -/
def doPinMonitor (beat aHigh : Bool) (s : State) : State :=
  let drive := decide (s.ks = 1)
  let low := s.saf.safeLine || !beat || s.rst.halted || (drive && !aHigh)
  (s.setFld (regKs 4) 3 3 (if drive && aHigh then 1 else 0)).setFld (regKs 4) 4 4 (if low then 0 else 1)

/-- SAFE_PIN: the contacts differ for 200 us. -/
def doSafePin (a b : Bool) (s : State) : State :=
  let v := fun (x : Bool) => if x then 1 else 0
  if a = b then s
  else ((s.setFld (regKs 4) 3 3 (v a)).setFld (regKs 4) 4 4 (v b)).sendEv 0xB04 0xAA (2 * v a + v b)

/-! ### The safety SPI (R505 to R508) -/

def regSs (o : Nat) : Nat := regKs (0xB00 + o)

/-- The status frame (Table 17.11): eight words. -/
def State.statusFrame (s : State) : List Byte :=
  let b := fun (x : Bool) (i : Nat) => if x then 2 ^ i else 0
  let w0 := 0xA5 * 2 ^ 24 + 2 ^ 20 + s.ks * 2 ^ 18 + b s.fbDown 17 + b (decide (s.refState = 2)) 16
    + s.fld (regKs 4) 5 5 * 2 ^ 15 + s.saf.spiSeq % 2 ^ 15
  let fb := s.saf.fbRec
  let w3 := (fb.map (fun r => r.near * 2 ^ 16 + r.bear)).getD 0
  let errs := s.fld (regSs 8) 31 16 + s.fld (regSs 4) 15 0 + s.fld (regSs 8) 15 0
  let w6 := s.fld (regSs 0xC) 31 16 * 2 ^ 16 + errs % 256 * 256 + s.fld (regFc 4) 31 24
  let on := if s.ks = 1 then 1 else 0
  let ws := [w0, s.saf.rel * on, s.saf.cov * on, w3, (fb.map (fun r => r.frame)).getD 0, (s.reg (regKs 0xC)).toNat, w6]
  let bs := ws.flatMap (fun w => leBytes 4 w)
  bs ++ leBytes 4 (crc32c bs).toNat

/-- SELECT_FALLING_EDGE: a frame starts, unless select rose less than 1 us before. Modes 0 and 3. Mode 4 of the model marks a
select that stays low after its timeout. -/
def doSelectFallingEdge (mode : Nat) (s : State) : State :=
  let soon := match s.saf.spiRose with
    | none => false
    | some t => decide (s.ticks < t + 500)
  if s.saf.spi.isSome ∨ soon = true then s
  else { s with saf := { s.saf with spi := some (if mode = 0 then 0 else 3, s.statusFrame) } }

/-- A frame that is discarded (Table 17.10). -/
def State.spiFrameErr (s : State) (n : Nat) : State := (s.bump (regSs 8) 31 16 1).sendEv spiSrc 0xA8 n
def State.spiContentErr (s : State) (n : Nat) : State := (s.bump (regSs 8) 15 0 1).sendEv spiSrc 0xA8 n
def State.spiLengthErr (s : State) (n : Nat) : State := (s.bump (regSs 4) 15 0 1).sendEv spiSrc 0xA9 n

/-- A Good frame: the counters and the command's code. -/
def State.spiGood (s : State) (cmd : Nat) : State :=
  let s := (s.bump (regSs 4) 31 16 1).setFld (regSs 0xC) 15 8 cmd
  { s with saf := { s.saf with spiSeq := (s.saf.spiSeq + 1) % 2 ^ 15 } }

/-- SSPI_NOP. -/
def doSspiNop (s : State) : State := s.spiGood 0

/-- ALIVE: the counter is recorded and the heartbeat timer restarts. -/
def doAlive (v : BitVec 16) (s : State) : State :=
  let s := (s.spiGood 1).setFld (regSs 0xC) 31 16 v.toNat
  { s with saf := { s.saf with alive := s.ticks, spiLate := false } }

/-- REQSAFE. KS_CAUSE takes PATH 4; no message stands behind it, so SOURCE and KIND are free values. -/
def doReqsafe (s : State) : State :=
  let s := s.spiGood 2
  if s.fld (regSs 0) 1 1 = 0 ∨ s.ks ≠ 1 then s
  else
    let (x, s) := s.free (2 ^ 20)
    s.enterSafe (x / 256) (x % 256) 4

/-- Are magic, zero words and CRC of a command frame good (R508)? -/
def spiFrameGood (ws : List Nat) : Bool :=
  let w := fun (i : Nat) => ws.getD i 0 % 2 ^ 32
  let bs := (upTo 7).flatMap (fun i => leBytes 4 (w i))
  decide (ws.length = 8) && decide (bitsOf (w 0) 31 24 = 0x5C) && decide (bitsOf (w 0) 23 16 ≤ 2)
    && ([2, 3, 4, 5, 6] : List Nat).all (fun i => decide (w i = 0)) && decide (w 7 = (crc32c bs).toNat)

/-- SELECT_RELEASE: select rises after `n` rising edges of SCLK; `ws` are the words that 256 of them clocked in. -/
def doSelectRelease (n : Nat) (ws : List Nat) (s : State) : State :=
  let up := { s with saf := { s.saf with spi := none, spiRose := some s.ticks } }
  match s.saf.spi with
  | none => up
  | some (mode, _) =>
    if mode = 4 then up
    else if n % 32 ≠ 0 then up.spiFrameErr n
    else if n ≠ 256 then up.spiLengthErr n
    else if !spiFrameGood ws then up.spiContentErr n
    else
      let cmd := bitsOf (ws.getD 0 0) 23 16
      if cmd = 1 then doAlive (BitVec.ofNat 16 (ws.getD 1 0)) up
      else if cmd = 2 then doReqsafe up
      else doSspiNop up

/-- SELECT_TIMEOUT: select low for 1 ms. -/
def doSelectTimeout (n : Nat) (s : State) : State :=
  match s.saf.spi with
  | none => s
  | some (mode, _) =>
    if mode = 4 then s else { s with saf := { s.saf with spi := some (4, []) } }.spiLengthErr n

/-- SPI_HEARTBEAT_TIMEOUT: sent once until the next Good ALIVE. -/
def doSpiHeartbeatTimeout (s : State) : State :=
  let t := s.fld (regSs 0) 15 8
  if t = 0 ∨ s.saf.spiLate = true ∨ s.ticks < s.saf.alive + t * ticksPerMs then s
  else { s with saf := { s.saf with spiLate := true } }.sendEv spiSrc 0xA4 0

/-- SS_CNTCLR. -/
def doSsCntclr (s : State) : State := (s.setReg (regSs 4) 0).setReg (regSs 8) 0

/-! ### Rotating self-test (R494 to R496) -/

def regSt (d : Nat) : Nat := regKs (0xC04 + 4 * d)

/-- Bytes [a, a + n) of a memory put in the place of [b, b + n). -/
def moveCells (m : List Host.Cell) (a b n : Nat) : List Host.Cell :=
  m.filter (fun e => decide (e.1 < b))
    ++ (m.filter (fun e => decide (a ≤ e.1) && decide (e.1 < a + n))).map (fun e => (e.1 - a + b, e.2))
    ++ m.filter (fun e => decide (b + n ≤ e.1))

/-- The marks of granules [a, a + n) put in the place of [b, b + n). -/
def moveMarks (t : Table Gran) (a b n : Nat) : Table Gran :=
  ⟨t.rows.filter (fun e => decide (e.1 < b))
    ++ (t.rows.filter (fun e => decide (a ≤ e.1) && decide (e.1 < a + n))).map (fun e => (e.1 - a + b, e.2))
    ++ t.rows.filter (fun e => decide (b + n ≤ e.1))⟩

/-- The program and the state of physical cluster c move to cluster k (R35), which is reset first (Table 18.1): memory, program
store, every unit, and the registers that the program's load and run wrote (log entry 27). -/
def State.moveCluster (s : State) (c k : Nat) : State :=
  let s := s.resetCluster k
  let mv := fun (s : State) (a b n : Nat) =>
    { s with mem := moveCells s.mem a b n, marks := moveMarks s.marks (a / 8) (b / 8) (n / 8) }
  let s := mv s (clKey c 0) (clKey k 0) (2 ^ 22)
  let s := mv s (psKey c 0) (psKey k 0) (2 ^ 17)
  let own := s.cl k
  let from_ := s.cl c
  let s := s.setCl k { from_ with nextJob := max own.nextJob from_.nextJob, memLim := own.memLim }
  let s := s.setFld (regCl k 0xC) 8 8 (s.fld (regCl c 0xC) 8 8)
  ([0x100, 0x240, 0x244, 0x248, 0x24C, 0x250] ++ (upTo 8).map (fun i => 0x110 + 4 * i)).foldl (fun (s : State) o =>
    s.setReg (regCl k o) (s.reg (regCl c o))) s

/-- May a cluster be tested? -/
def State.testable (s : State) (c : Nat) : Bool := s.inService c && !s.isPerm (.cluster c)

/-- The cluster that the next slot of a die tests, and whether R493 placed it at the head. -/
def State.nextTest (s : State) (d : Nat) : Option (Nat × Bool) :=
  match s.saf.head.find? (fun c => decide (dieOf c = d) && s.testable c) with
  | some c => some (c, true)
  | none =>
    let p := s.fld (regSt d) 5 0
    let at_ := if dieOf p = d then p % 16 else 0
    (((upTo 16).map (fun i => 16 * d + (at_ + i) % 16)).find? (fun c => s.testable c)).map (fun c => (c, false))

/-- Is a cluster at a frame boundary of its program? -/
def State.atBoundary (s : State) (c : Nat) : Bool :=
  decide ((s.cl c).seq.st ≠ .running ∧ (s.cl c).seq.st ≠ .stopped) && (s.runUsing c).isNone && !s.isBusy c

/-- SELFTEST_SLOT of a die, at the instant at which its cluster can be tested: in place where it is the relief cluster, else
once its work has moved there. Away from a frame boundary nothing happens, and the pointer stays. -/
def doSelftestSlot (d : Nat) (s : State) : State :=
  if s.fld (regKs 0xC00) 31 31 = 0 ∨ s.dieOff d = true ∨ s.saf.testing.has d = true then s
  else
    match (s.reliefs []).find? (fun x => dieOf x.2 = d) with
    | none => s.setFld (regSt d) 6 6 1
    | some (h, k) =>
      let s := s.setFld (regSt d) 6 6 0
      match s.nextTest d with
      | none => s
      | some (c, first) =>
        let start := fun (s : State) =>
          let s := s.resetCluster c
          let s := { s with saf := { s.saf with testing := s.saf.testing.set d c } }
          let s := s.setFld (regSt d) 7 7 1
          if first then s else s.setFld (regSt d) 5 0 c
        if c = k then (if s.isBusy k then s else start s)
        else if s.atBoundary c = false ∨ s.isBusy k = true then s
        else
          let s := s.moveCluster c k
          let s := (s.homesOf c).foldl (fun (s : State) x => s.setHost x (some k)) s
          start (s.setHost h (some c))

/-- SELFTEST_COMPLETE: `phase` 0 where every phase passed, else the first that failed. -/
def doSelftestComplete (d phase : Nat) (s : State) : State :=
  match lookup s.saf.testing.rows d with
  | none => s
  | some c =>
    let s := { s with saf := { s.saf with testing := s.saf.testing.erase d, head := s.saf.head.filter (fun x => x ≠ c) } }
    let s := (s.setFld (regSt d) 7 7 0).resetCluster c
    let s := if s.fld (regSt d) 5 0 = c then s.setFld (regSt d) 5 0 (16 * d + (c + 1) % 16) else s
    if !s.inService c then s
    else if phase = 0 then
      let s := s.count (regSt d) 31 16
      { s with saf := { s.saf with tested := s.saf.tested.set c s.ticks, overdue := s.saf.overdue.filter (fun x => x ≠ c) } }
    else s.send c 0xA2 (phase % 16) true []

/-- LTMAX in raw ticks. -/
def State.ltmax (s : State) : Nat := max 1 (s.fld (regKs 0xC00) 23 16) * 100 * ticksPerMs

/-- SELFTEST_OVERDUE, once per overdue period. -/
def doSelftestOverdue (c : Nat) (s : State) : State :=
  if s.saf.overdue.contains c ∨ s.ticks ≤ s.saf.tested.get c 0 + s.ltmax then s
  else { s with saf := { s.saf with overdue := s.saf.overdue ++ [c] } }.sendEv keySrc 0xA2 (2 ^ 15 + c)

/-- ST_AGE: the age of a cluster's last passed test in units of 100 ms, saturating (Table 17.18). -/
def State.testAge (s : State) (c : Nat) : Nat := min 65535 ((s.ticks - s.saf.tested.get c 0) / (100 * ticksPerMs))

/-! ### Command timeouts (R491) -/

/-- The source of a timeout by the row of Table 17.5: `unit` is the die, the PC or the output. -/
def timeoutSrc (row unit : Nat) : Nat :=
  if row = 0 then 0x201 + 16 * unit
  else if row = 1 then hbSrc unit
  else if row = 2 then 0x404
  else if row = 3 then 0x402
  else if row = 4 then keySrc
  else 0x406

/-- CMD_TIMEOUT: the message, with the command's sequence or tag as ADDR. A pull whose source timed out lands poisoned
(`pull`: cluster, tag, generation, c-cycle); an HBM piece leaves its queue; the output of a digest request is covered. -/
def doCmdTimeout (row unit addr : Nat) (pull : Option (Nat × Nat × Nat × Nat)) (s : State) : State :=
  if 5 < row then s
  else
    let s := s.sendEv (timeoutSrc row unit) 0xA4 addr
    let s := if row = 1 then
        { s with hbm := { s.hbm with queues := s.hbm.queues.set unit ((s.hbm.queues.get unit []).filter (fun p => p.no ≠ addr)) } }
      else if row = 4 then
        match s.decs.find? (fun (d : Decision) => d.out = unit ∧ d.result = 0) with
        | none => s
        | some d => (s.updDec d (fun x => { x with want := true })).cover { d with want := true }
      else s
    match pull with
    | none => s
    | some (c, tag, gen, l) => doPullLanding c tag gen l false [] s

end Sys2Proof.Machine
end

