-- ==== Sys2Proof/Machine/Package.lean ====
section
/-! DEFINITION. Reset commands and the package reset with its boot (R319, R478, R479, R513, R517 to R526, R531, R532, R541 to
R544, R557). -/

namespace Sys2Proof.Machine

def rootSrc : Nat := 0xC04
def flashSrc : Nat := 0xC03

/-! ### Resets that were requested (R512, R532) -/

/-- CLUSTER_RESET: the phases of a reset that was requested. -/
def doClusterReset (c : Nat) (s : State) : State := if s.isBusy c then s.resetCluster c else s

/-- A region reset starts. -/
def State.reqRegion (s : State) (r : Nat) : State :=
  let u := 0x100 + r
  let s := if s.isBusy u then s else (s.bumpGen u).setBusy u true
  (upTo 4).foldl (fun (s : State) i => s.reqReset (4 * r + i)) s

/-- REGION_RESET: of a region whose reset was requested, or that returns from power gating. -/
def doRegionReset (r : Nat) (s : State) : State :=
  if s.isBusy (0x100 + r) ∨ s.pw.gated.contains r = true then s.resetRegion r else s

/-- A die reset starts: the work that uses the die is discarded. -/
def State.reqDie (s : State) (d : Nat) : State :=
  let u := 0x200 + 16 * d
  let ks := (upTo 16).map (fun i => 16 * d + i)
  let s := if s.isBusy u then s else (s.bumpGen u).setBusy u true
  let s := ks.foldl (fun (s : State) k => s.workLost k 2) s
  ks.foldl (fun (s : State) k => s.reqReset k) s

/-- DIE_RESET. -/
def doDieReset (d : Nat) (s : State) : State := if s.isBusy (0x200 + 16 * d) then s.resetDie d else s

/-- HUB_SUBBLOCK_RESET. -/
def doHubReset (u : Nat) (s : State) : State := if s.isBusy u then (s.resetHub u).setBusy u false else s

/-- KEY of RC_CMD. -/
def rcKey : Nat := 0x5253

/-- RC_CMD, OP 1 to 5. A unit not of the OP's kind sends FC-CONFIG. -/
def doRcCluster (key unit : Nat) (s : State) : State :=
  if key ≠ rcKey then s else if unit < 64 then s.reqReset unit else s.fcConfig

def doRcRegion (key unit : Nat) (s : State) : State :=
  if key ≠ rcKey then s else if 0x100 ≤ unit ∧ unit < 0x110 then s.reqRegion (unit - 0x100) else s.fcConfig

def doRcDie (key unit : Nat) (s : State) : State :=
  if key ≠ rcKey then s
  else if 0x200 ≤ unit ∧ unit < 0x240 ∧ unit % 16 ≤ 4 then s.reqDie ((unit - 0x200) / 16) else s.fcConfig

def doRcHub (key unit : Nat) (s : State) : State :=
  if key ≠ rcKey then s
  else if hubSubBlocks.contains unit then (if s.isBusy unit then s else s.setBusy unit true) else s.fcConfig

def doRcPackage (key : Nat) (s : State) : State := if key ≠ rcKey then s else s.pkgBegin 3

/-- RC_CMD, OP 6: a package dump on request. -/
def doRcDump (key : Nat) (s : State) : State :=
  if key ≠ rcKey then s else { s with rst := { s.rst with trigger := (fcSrc, 0, 0) } }.capturePkg 2

/-- PKG_RST_N low for `us` microseconds. -/
def doPkgRstN (us : Nat) (s : State) : State := if us < 10 ∨ s.pw.powered = false then s else s.pkgBegin 1

/-! ### Package halt (R523) -/

/-- PACKAGE_HALT: the action of an open record of effective severity 5. The collector's own action has taken it already when
the record opened; on a halted package it changes nothing (log entry 26). -/
def doPackageHalt (s : State) : State :=
  match s.fc.recs.rows.find? (fun e => e.2.isOpen && !e.2.carried && decide (5 ≤ e.2.eff)) with
  | none => s
  | some (_, r) =>
    { s with rst := { s.rst with trigger := (msgSrc r.msg.toNat, msgKind r.msg.toNat, r.lseq.toNat) } }.haltPkg

/-! ### Dumps in flash (R526) -/

/-- DUMPMOVE: the oldest staged dump goes to the flash slot that was written longest ago. -/
def doDumpmove (s : State) : State :=
  match s.rst.dumps with
  | [] => s
  | d :: r =>
    { s with rst := { s.rst with
        dumps := r, flashDumps := s.rst.flashDumps.set s.rst.nextSlot d, nextSlot := (s.rst.nextSlot + 1) % 4 } }.setFld (regRc 4) 23 16
      r.length

/-- Move the package dumps that a halt captured, `fuel` dumps at most. -/
def State.moveHalt : Nat → State → State
  | 0, s => s
  | n + 1, s =>
    match s.rst.dumps.find? (fun d => d.kind = 1) with
    | none => s
    | some d =>
      State.moveHalt n (doDumpmove { s with rst := { s.rst with dumps := d :: s.rst.dumps.erase d } })

/-- The bytes of a dump: the header of Table 18.7, then its contents (log entry 26). -/
def Dump.bytes (d : Dump) : List Byte :=
  let gen := match d.kind, d.cls with | 0, c :: _ => c.gen | _, _ => 0
  let head := fun (crc : Nat) => leBytes 4 0x504D5544 ++ leBytes 1 1 ++ leBytes 1 d.kind ++ leBytes 2 d.source ++ leBytes 1 d.tkind
    ++ leBytes 1 gen ++ leBytes 2 d.cls.length ++ leBytes 4 d.size ++ timeBytes d.time ++ leBytes 4 d.lseq ++ List.replicate 24 0
    ++ leBytes 4 crc
  let body := (upTo (d.size - 64)).map (fun i => Config.dumpBody d.time i)
  head (crc32c (head 0 ++ body)).toNat ++ body

/-! ### History at boot (R478, R479) -/

/-- Compaction of a full history region. -/
def State.compact (s : State) : State :=
  if s.fc.flash.length < 16384 ∧ s.fc.staged = [] then s
  else
    let now := (s.reg (regFc 0x50)).toNat
    let keep := s.fc.flash.filter (fun e => decide (e.typ = 2 ∨ now < e.hours + 10000))
    { s with fc := { s.fc with flash := (keep ++ s.fc.staged).take 16384, staged := (keep ++ s.fc.staged).drop 16384 } }

/-- Entries that count for a unit: transient ones of the last 10,000 units of 0.1 h, and failed returns. -/
def State.countedHist (s : State) (u : Nat) : List HistEntry :=
  let now := (s.reg (regFc 0x50)).toNat
  s.fc.flash.filter (fun e => decide (e.source = u) && (decide (e.typ = 0 ∧ now < e.hours + 10000) || decide (e.typ = 1)))

/-- Mark a unit permanent: its bit, its fence, its entry, HIST-PERMANENT. -/
def State.markPerm (s : State) (u : Nat) : State :=
  let n := (s.countedHist u).length
  let s := match fencedBy u with
    | none => s
    | some f =>
      let s := match f with
        | .cluster c => s.orReg (regFc (0x30 + 4 * (c / 32))) (2 ^ (c % 32))
        | .die d => s.orReg (regFc 0x38) (2 ^ d)
        | .viaduct p => s.orReg (regFc 0x38) (2 ^ (4 + p))
        | .camera n => s.orReg (regFc 0x38) (2 ^ (12 + n))
        | .lidar p => s.orReg (regFc 0x38) (2 ^ (28 + p))
        | .region _ => s
      s.fence f
  let e : HistEntry := ⟨u, 0xB5, 0, 2, (s.reg (regFc 0x50)).toNat, s.logSeq⟩
  { s with fc := { s.fc with due := s.fc.due ++ [e] } }.sendEv u 0xB5 n

/-- History applied at boot. -/
def State.applyHistory (s : State) : State :=
  let s := s.compact
  let us := (s.fc.flash.map (fun (e : HistEntry) => e.source)).eraseDups
  let perm := us.filter (fun u =>
    let l := s.countedHist u
    decide (3 ≤ (l.filter (fun e => e.typ = 0)).length) || l.any (fun e => e.typ = 1))
  perm.foldl (fun (s : State) u => s.markPerm u) s

/-! ### Boot (R319, R541 to R544, R557) -/

/-- The boot stops: FW-MEASURE. -/
def State.bootStop (s : State) : State := { s.sendEv rootSrc 0xB3 0 with rst := { s.rst with boot := none } }

/-- The chain M_1 to M_4 over the digests of the items. -/
def measChain : List Byte → List (List Byte) → List (List Byte)
  | _, [] => []
  | m, d :: r => sha384 (m ++ d) :: measChain (sha384 (m ++ d)) r

/-- The factory's delay codes in the place of HBS_DLY. -/
def State.delayCodes (s : State) (st : Nat) : State :=
  let base := regHbs st 0x1000
  let new := (upTo 672).map (fun i =>
    let a := base + i / 21 * 0x80 + i % 21 * 4
    (a, Config.factoryReg a &&& 0x7F7F7F7F#32))
  { s with regs := ⟨s.regs.rows.filter (fun e => decide (e.1 < base)) ++ new
      ++ s.regs.rows.filter (fun e => decide (base + 0x1000 ≤ e.1))⟩ }

/-- Bring-up of a stack: one repeat. -/
def State.bringUp (s : State) (st : Nat) (bad : List Nat) : State :=
  let s := s.delayCodes st
  match bad with
  | [] => doGo st none s
  | p :: r =>
    let s := doGo st (some p) s
    match r with
    | [] => doGo st none s
    | q :: _ =>
      let e : HistEntry := ⟨hbSrc (32 * st + q % 32), 0x41, 5, 0, (s.reg (regFc 0x50)).toNat, s.logSeq⟩
      let s := doGo st (some q) s
      { s with fc := { s.fc with due := s.fc.due ++ [e] } }

/-- The relief clusters that the boot configuration names, where it names one on each die (R34). -/
def bootRelief (l : List Nat) : List Nat :=
  if l.map dieOf = [0, 1, 2, 3] then l else [15, 31, 47, 63]

/-- Phases 3 to 6 of Table 18.5. -/
def State.bootRest (s : State) (b : BootInfo) (bank : Nat) (recov : Bool) : State :=
  let hours := max (s.reg (regFc 0x50)).toNat s.fc.hoursFlash
  let s := (s.setReg (regFc 0x50) (BitVec.ofNat 32 hours)).setFld (regFc 4) 0 0 1
  let s := State.moveHalt s.rst.dumps.length s
  let s := { s with relief := bootRelief (if b.cfg < 2 then b.relief else []) }
  let s := s.applyHistory
  let s := (s.bringUp 0 ((b.hbm.filter (fun x => x.1 = 0)).map (fun x => x.2))).bringUp 1
    ((b.hbm.filter (fun x => x.1 = 1)).map (fun x => x.2))
  let s := (upTo 8).foldl (fun (s : State) p =>
    if b.cfg < 2 ∧ bitOf b.ports p = true then doPortEnable p (s.reg (regVp p 0) ||| 0x80000000#32) s else s) s
  let s := match b.net with
    | none => { s.sendEv rootSrc 0xB3 0 with mg := { s.mg with fbDig := [] } }
    | some (us, dig) => { (s.setFld (regKs 0xA08) 31 16 us).setFld (regKs 0xA08) 1 1 1 with mg := { s.mg with fbDig := dig } }
  let s := ((s.setFld (regMg 0) 8 8 bank).setFld (regMg 0) 9 9 (if recov then 1 else 0)).setFld (regMg 0x10) 15 0 b.svn
  let s := ((s.setFld (regMg 0) 13 12 0).setFld (regMg 0) 15 14 0)
  { s.fcShow with
    mg := { s.mg with cfgUse := if b.cfg < 2 then b.cfg else 0, none_ := none, kicks := ⟨[(0, s.ticks), (1, s.ticks)]⟩ },
    rst := { s.rst with boot := none } }

/-- The measurements of a boot (R542). -/
def State.measure (s : State) (b : BootInfo) : State :=
  let zeros := sha384 (List.replicate 65536 0)
  let it := (upTo 4).map (fun i => if i = 3 ∧ 2 ≤ b.cfg then zeros else b.items.getD i [])
  { s with mg := { s.mg with meas := measChain (List.replicate 48 0) it } }

/-- The count K of power-ups goes up, and every context's next sequence number starts from it (R557). -/
def State.countPower (s : State) (k : Nat) : State :=
  let s := (upTo 256).foldl (fun (s : State) c => s.setCtxSeq c (k * 2 ^ 32 + 1)) s
  { s with mg := { s.mg with powerCount := k + 1 } }

/-- PACKAGE_RESET: the phases after the first; a boot that stops leaves READY clear. -/
def doPackageReset (b : BootInfo) (s : State) : State :=
  match s.rst.boot with
  | none => s
  | some cause =>
    let k := s.mg.powerCount
    match b.fuse with
    | some f => { s.sendEv 0xD02 0xC0 (f % 256) with rst := { s.rst with boot := none } }
    | none =>
    if cause = 0 ∧ (k = 0xFFFF ∨ b.stored = false) then s.bootStop
    else
      let s := if cause = 0 then s.countPower k else s
      let failed := s.fld (regMg 0x10) 31 28 ≠ 0
      let fb := s.fld (regMg 0x10) 27 27
      let act := s.mg.bankSel.getD b.bank % 2
      let bank := if failed ∧ fb = act then 1 - act else act
      let miss := fun (st n : Nat) => b.fails.contains (st, n)
      let twice := ([1, 2, 3] : List Nat).find? (fun st => miss st 0 && miss st 1)
      let last := twice.getD 3
      let reloads := (([1, 2, 3] : List Nat).filter (fun st => decide (st ≤ last) && miss st 0)).length
      let s := s.bump (regMg 0x10) 23 16 reloads
      match twice with
      | none => (s.measure b).bootRest b bank false
      | some st =>
        let s := (s.setFld (regMg 0x10) 31 28 st).setFld (regMg 0x10) 27 27 bank
        let s := if failed ∧ fb ≠ bank then s.setFld (regMg 0) 9 9 1 else s
        s.bootStop

/-- The count K is stored anew where a context's next sequence number comes near its end (R557). -/
def State.keepCount (s : State) (c : Nat) : State :=
  if s.mg.powerCount * 2 ^ 32 ≤ s.ctxSeq c + 2 ^ 30 ∧ s.mg.powerCount < 0xFFFF then
    { s with mg := { s.mg with powerCount := s.mg.powerCount + 1 } }
  else s

end Sys2Proof.Machine
end

