-- ==== Sys2Proof/Machine/Power.lean ====
section
/-! DEFINITION. Power and clocks: supply, stretch, operating points, heat, standby, region gating, clock monitors, oscillators
(R550, R553 to R569, R576). -/

namespace Sys2Proof.Machine

def pwSrc : Nat := 0xD00
def vinSrc : Nat := 0xD01
def regOp (d : Nat) : Nat := regMg (0x480 + 4 * d)
def regTj (d : Nat) : Nat := regPw (0x20 + 4 * d)

/-! ### Points, limit, stretch (R558, R559) -/

def State.cur (s : State) (d : Nat) : Nat := s.fld (regOp d) 5 4
def State.stretch (s : State) (d : Nat) : Nat := s.fld (regTj d) 19 16
def State.onDies (s : State) : List Nat := (upTo 4).filter (fun d => !s.dieOff d)
def State.inP3 (s : State) : Bool := s.fld (regPw 8) 1 0 = 2

/-- The module limit in W (Table 20.3): by the fastest point of the dies that are online, not above the fused PMAX. -/
def State.limitW (s : State) : Nat :=
  if s.inP3 then 4
  else
    let best := (s.onDies.map (fun d => s.cur d)).foldl min 2
    min (if best = 0 then 220 else if best = 1 then 150 else 90) (s.fld (regMg 0x440) 15 8)

/-- Is a sensor of a compute die (0 to 3) or of H (4) at or above TJTHR? -/
def State.dieHot (s : State) (d : Nat) : Bool :=
  s.pw.hot.any (fun x => if d < 4 then decide (5 * d ≤ x ∧ x < 5 * d + 5) else decide (32 ≤ x))

def State.hbmHot (s : State) : Bool := s.hbm.hot.contains true

/-- The floor under the stretch of a die. -/
def State.sFloor (s : State) (d : Nat) : Nat :=
  if s.fld (regPw 8) 2 2 = 1 then 8 else if s.dieHot d || s.dieHot 4 || s.hbmHot then 4 else 0

/-- HOLD of a die (Table 20.13). -/
def State.holdBits (s : State) (d : Nat) : Nat :=
  let b := fun (x : Bool) (i : Nat) => if x then 2 ^ i else 0
  if d = 4 then 0
  else b (decide (s.sFloor d < s.stretch d)) 3 + b (s.dieHot d || s.dieHot 4) 2 + b s.hbmHot 1 + b (decide (s.fld (regPw 8) 2 2 = 1)) 0

/-- Set the stretch of a die: since when it is at least 4, and since when it is 0. -/
def State.setStretch (s : State) (d v : Nat) : State :=
  let was := s.stretch d
  let held := if v < 4 then s.pw.held.erase d else if was < 4 then s.pw.held.set d s.ticks else s.pw.held
  let zero := if v ≠ 0 then s.pw.zero.erase d else if was ≠ 0 then s.pw.zero.set d s.ticks else s.pw.zero
  { s with pw := { s.pw with held := held, zero := zero } }.setFld (regTj d) 19 16 v

/-- Every online die at or above its floor. -/
def State.applyFloors (s : State) : State :=
  s.onDies.foldl (fun (s : State) d => if s.stretch d < s.sFloor d then s.setStretch d (s.sFloor d) else s) s

/-- STRETCH_WINDOW: the end of a 100 us window. -/
def doStretchWindow (x : PowerSample) (s : State) : State :=
  let s := ((s.setFld (regPw 0x10) 31 16 x.pmod).setFld (regPw 0x10) 15 0 x.pcam).setFld (regPw 0xC) 31 16 x.vin
  let s := s.setFld (regPw 0xC) 15 0 x.iin
  let s := (upTo 5).foldl (fun (s : State) d => s.setFld (regTj d) 31 24 (unsigned 8 (x.tj.getD d 0))) s
  if s.inP3 then s
  else
    let lim := s.limitW * 10
    s.onDies.foldl (fun (s : State) d =>
      let now := s.stretch d
      let n := s.pw.below.get d 0 + 1
      let note := fun (s : State) (n : Nat) => { s with pw := { s.pw with below := s.pw.below.set d n } }
      if lim < x.pmod then (note s 0).setStretch d (max (s.sFloor d) (min 8 (now + 1)))
      else if x.pmod * 100 < lim * 95 then
        if n = 10 then (note s 0).setStretch d (max (s.sFloor d) (now - 1)) else note s n
      else note s 0) s

/-! ### Operating points (R550, R560) -/

/-- PWR-LIMIT. -/
def State.pwrLimit (s : State) (d point : Nat) : State := s.sendEv pwSrc 0xC1 (d + 16 * point)

/-- PW_OPREQ: a write of a die's request register. A refused request leaves REQ as it is. -/
def doPwOpreq (d : Nat) (v : Word32) (s : State) : State :=
  let req := bitsOf v.toNat 1 0
  let s := if bitOf v.toNat 2 then s.setFld (regOp d) 2 2 0 else s
  if req = 3 ∨ req < s.fld (regMg (0x400 + 4 * d)) 1 0 ∨ s.dieOff d = true then (s.setFld (regOp d) 2 2 1).pwrLimit d req
  else
    let s := (s.setFld (regOp d) 1 0 req).setFld (regOp d) 3 3 1
    { s with pw := { s.pw with pendAt := s.pw.pendAt.set d s.ticks } }

/-- Is a cluster of the die running? -/
def State.dieRuns (s : State) (d : Nat) : Bool := (upTo 16).any (fun i => decide ((s.cl (16 * d + i)).seq.st = .running))

/-- OP_POINT_CHANGE: a change that waits is carried out while no cluster of the die runs. A request for a faster point waits
while the die is held (R564). -/
def doOpPointChange (d : Nat) (s : State) : State :=
  if s.dieOff d || s.dieRuns d || s.inP3 then s
  else
    match lookup s.pw.lower.rows d with
    | some p => { s with pw := { s.pw with lower := s.pw.lower.erase d } }.setFld (regOp d) 5 4 p
    | none =>
      let req := s.fld (regOp d) 1 0
      if s.fld (regOp d) 3 3 = 0 ∨ (req < s.cur d ∧ s.holdBits d ≠ 0) then s
      else (s.setFld (regOp d) 5 4 req).setFld (regOp d) 3 3 0

/-- OP_REQUEST_TIMEOUT: pending for 1 s. -/
def doOpRequestTimeout (d : Nat) (s : State) : State :=
  if s.fld (regOp d) 3 3 = 0 ∨ s.ticks < s.pw.pendAt.get d 0 + 1000 * ticksPerMs then s
  else ((s.setFld (regOp d) 3 3 0).setFld (regOp d) 2 2 1).pwrLimit d (s.fld (regOp d) 1 0)

/-- POINT_LOWERING: one step down after 100 ms at a stretch of 4 or more, one step towards REQ after 1 s at 0. -/
def doPointLowering (d : Nat) (s : State) : State :=
  if s.dieOff d || s.pw.lower.has d then s
  else
    let long := fun (t : Table Nat) (ms : Nat) => match lookup t.rows d with
      | none => false
      | some x => decide (x + ms * ticksPerMs ≤ s.ticks)
    if long s.pw.held 100 && decide (s.cur d < 2) then
      { s with pw := { s.pw with lower := s.pw.lower.set d (s.cur d + 1), held := s.pw.held.set d s.ticks } }.pwrLimit d (s.cur d + 1)
    else if long s.pw.zero 1000 && decide (s.fld (regOp d) 1 0 < s.cur d) && decide (s.fld (regOp d) 3 3 = 0) then
      { s with pw := { s.pw with lower := s.pw.lower.set d (s.cur d - 1), zero := s.pw.zero.set d s.ticks } }
    else s

/-! ### Supply (R553 to R557) -/

/-- Loss of supply: the flash and what the root of trust holds stay (R556). -/
def State.powerLost (s : State) : State :=
  { State.reset with
    pending := s.pending, mem := s.mem.filter (fun e => decide (e.1 / 2 ^ 49 = 4)),
    fc := { FcSt.reset with flash := s.fc.flash, hoursFlash := s.fc.hoursFlash },
    rst := { RstSt.reset with boot := none, flashDumps := s.rst.flashDumps, nextSlot := s.rst.nextSlot },
    mg := { MgSt.reset with
      ownerKey := s.mg.ownerKey, out := s.mg.out, powerCount := s.mg.powerCount, svnFloor := s.mg.svnFloor, flash := s.mg.flash },
    pw := { PwSt.reset with powered := false, offAt := s.ticks },
    freeCount := s.freeCount, ticks := s.ticks }

/-- POWER_UP: the bulk is charged; voltages in mV. A failed charge is retried after 1 s, and a power-up follows a loss of supply
after 100 ms. -/
def doPowerUp (bulk input : Nat) (s : State) : State :=
  let waits := decide (s.ticks < s.pw.offAt + 100 * ticksPerMs)
    || (match s.pw.charge with | none => false | some t => decide (s.ticks < t + 1000 * ticksPerMs))
  if s.pw.powered || waits || decide (bulk < 35000 ∨ bulk + 1000 < input) then s
  else { s with pw := { s.pw with powered := true, charge := none } }.pkgBegin 0

/-- CHARGE_TIMEOUT. -/
def doChargeTimeout (s : State) : State := if s.pw.powered then s else { s with pw := { s.pw with charge := some s.ticks } }

/-- VIN_UV: `v` is the bulk voltage in units of 10 mV. -/
def doVinUv (v : Nat) (s : State) : State :=
  if s.fld (regPw 8) 2 2 = 1 ∨ 3500 ≤ v then s
  else ((((s.setFld (regPw 0xC) 31 16 v).setFld (regPw 8) 2 2 1).send vinSrc 0xBB v true [])).applyFloors

/-- VIN_UV_CLEAR. -/
def doVinUvClear (v : Nat) (s : State) : State :=
  if s.fld (regPw 8) 2 2 = 0 ∨ v ≤ 3550 then s
  else ((s.setFld (regPw 0xC) 31 16 v).setFld (regPw 8) 2 2 0).send vinSrc 0xBB v false []

/-- VIN_OV: the message halts the package. -/
def doVinOv (v : Nat) (s : State) : State :=
  if v ≤ 5500 then s else ((s.setFld (regPw 0xC) 31 16 v).setFld (regPw 8) 3 3 1).sendEv vinSrc 0xBC v

/-- POWER_FAIL and DISCONNECT. -/
def doPowerFail (v : Nat) (s : State) : State := if 3200 ≤ v then s else s.powerLost
def doDisconnect (v : Nat) (s : State) : State := if v ≤ 5800 then s else s.powerLost

/-! ### Heat (R561) -/

/-- The source of thermal and regulator faults of a die, or of H. -/
def dieSub (d sub : Nat) : Nat := if d < 4 then 0x200 + 16 * d + sub else pwSrc

def sensorId (d n : Nat) : Nat := if d < 4 then 5 * d + n % 5 else 32 + n % 8

/-- DIE_HOT: the record is one for all sensors of a die, so C = 1 goes out with the first and C = 0 with the last. -/
def doDieHot (d n : Nat) (t : Int) (s : State) : State :=
  if t < (s.fld (regMg 0x440) 31 24 : Int) ∨ s.pw.hot.contains (sensorId d n) = true then s
  else
    let first := !s.dieHot d
    let s := { s with pw := { s.pw with hot := s.pw.hot ++ [sensorId d n] } }
    let s := if first then s.send (dieSub d 4) 0xBE (n + 256 * unsigned 8 t) true [] else s
    s.applyFloors

/-- DIE_HOT_CLEAR. -/
def doDieHotClear (d n : Nat) (t : Int) (s : State) : State :=
  if (s.fld (regMg 0x440) 31 24 : Int) - 5 ≤ t ∨ s.pw.hot.contains (sensorId d n) = false then s
  else
    let s := { s with pw := { s.pw with hot := s.pw.hot.filter (fun x => x ≠ sensorId d n) } }
    if s.dieHot d then s else s.send (dieSub d 4) 0xBE (n + 256 * unsigned 8 t) false []

/-- DIE_OVERTEMP: the message halts the package. -/
def doDieOvertemp (d n : Nat) (t : Int) (s : State) : State :=
  if t < (s.fld (regMg 0x440) 23 16 : Int) then s else s.send (dieSub d 4) 0xBF (n + 256 * unsigned 8 t) true []

/-! ### Standby (R562) -/

/-- STANDBY_ENTRY: a write of STBY = 1. -/
def doStandbyEntry (s : State) : State :=
  if s.inP3 then s
  else if s.allDisabled = false ∨ (upTo 16).any (fun j => decide (s.jState j = 1)) = true ∨ s.mode ≠ 0 then s.setFld (regPw 8) 4 4 1
  else
    let s := s.setFld (regPw 4) 0 0 1
    let s := ((s.setFld (regKs 4) 1 0 0).setFld (regKs 4) 3 3 0).setFld (regKs 4) 4 4 0
    let s := { s with saf := { s.saf with safeLine := true, rel := 0, cov := 0, fbRun := none }, decs := [] }
    let s := (upTo 16).foldl (fun (s : State) n => doPen n (s.reg (regAp n 0x30) &&& 0x7FFFFFFF#32) s) s
    let s := doSrenter s
    let s := (upTo 64).foldl (fun (s : State) c => s.resetCluster c) s
    let s := (upTo 8).foldl (fun (s : State) p => (s.setVp p VdPort.reset).vpEnter p 0) s
    { s with sens := { s.sens with cams := ⟨[]⟩, bufs := ⟨[]⟩ }, inp := { s.inp with cams := ⟨[]⟩, lids := ⟨[]⟩ } }.setFld (regPw 8) 1 0 2

/-- STANDBY_EXIT: a write of STBY = 0; ENABLEs that were held are carried out. -/
def doStandbyExit (s : State) : State :=
  if !s.inP3 then s.setFld (regPw 4) 0 0 0
  else
    let s := (s.setFld (regPw 4) 0 0 0).setFld (regPw 8) 1 0 0
    let s := (doSrexit s).setFbDown true
    let s := { s with saf := { s.saf with fbKat := true } }
    let s := (upTo 8).foldl (fun (s : State) p => if s.fld (regVp p 0) 31 31 = 1 then s.vpTrain p else s) s
    let held := s.pw.enables
    held.foldl (fun (s : State) c => doEnable c s) { s with pw := { s.pw with enables := [] } }

/-- REGION_GATING: GATEDLY after all four clusters of a region became idle or fenced (R563). -/
def doRegionGating (r : Nat) (s : State) : State :=
  let idle := fun (c : Nat) => s.fences.contains c || decide ((s.cl c).seq.st ≠ .running ∧ (s.cl c).seq.st ≠ .stopped)
  if s.fld (regPw 0) 0 0 = 0 ∨ s.pw.gated.contains r = true ∨ (upTo 4).all (fun i => idle (4 * r + i)) = false then s
  else { s with pw := { s.pw with gated := s.pw.gated ++ [r] } }

/-! ### Clocks (R565 to R569) -/

/-- The always-on supervisor halts the package: no log entry, no dump (R568). -/
def State.superHalt (s : State) : State :=
  let s := (upTo 64).foldl (fun (s : State) k =>
    if (s.cl k).seq.st = .running then
      (s.updSeq k (fun q => { q with st := .stopped, wait := .none, isOpen := false })).halt k else s) s
  let s := { s with rst := { s.rst with halted := true }, saf := { s.saf with safeLine := true } }
  ((s.setFld (regKs 4) 3 3 0).setFld (regKs 4) 4 4 0).setFld (regFc 4) 2 2 1

/-- Is a domain stopped by design, so that its monitor does not judge it (R567)? -/
def State.clkStopped (s : State) (i : Nat) : Bool :=
  if i < 4 then s.dieOff i || s.inP3
  else if 5 ≤ i ∧ i < 9 then s.dieOff (i - 5)
  else if 9 ≤ i ∧ i < 13 then s.selfRefresh
  else if 13 ≤ i ∧ i < 21 then decide (s.vpState (i - 13) ≠ 2 ∧ s.vpState (i - 13) ≠ 3)
  else if 21 ≤ i ∧ i < 25 then (upTo 4).all (fun k => decide (s.fld (regAp (4 * (i - 21) + k) 0) 31 31 = 0))
  else if 25 ≤ i ∧ i < 29 then decide (s.fld (regLp (i - 25) 0) 31 31 = 0)
  else false

def regMon (i : Nat) : Nat := if i < 32 then regClk 8 else regClk 0xC
def State.monBit (s : State) (i : Nat) : Bool := bitOf (s.reg (regMon i)).toNat (i % 32)

/-- CLK_MON: a window of domain i with its count, in tolerance or not; `lost`: no edge arrives. -/
def doClkMon (i count : Nat) (ok lost : Bool) (s : State) : State :=
  if 40 ≤ i ∨ s.clkStopped i = true then s
  else if lost ∧ (i = 4 ∨ i = 39) then (s.orReg (regMon i) (2 ^ (i % 32))).superHalt
  else if !ok || lost then
    let s := { s with pw := { s.pw with good := s.pw.good.erase i } }
    if s.monBit i then s else (s.orReg (regMon i) (2 ^ (i % 32))).send (0xD10 + i) 0xB8 count true []
  else if s.monBit i then
    let n := s.pw.good.get i 0 + 1
    if n < 10 then { s with pw := { s.pw with good := s.pw.good.set i n } }
    else ({ s with pw := { s.pw with good := s.pw.good.erase i } }.clrReg (regMon i) (2 ^ (i % 32))).send (0xD10 + i) 0xB8 count false []
  else s

/-- OSC_FAIL: oscillator n stops (n below 2), or the two disagree (n = 2) by `ppm`. -/
def doOscFail (n : Nat) (ppm : Int) (s : State) : State :=
  if n = 2 then
    let s := s.setFld (regClk 4) 15 0 (unsigned 16 ppm)
    if -300 ≤ ppm ∧ ppm ≤ 300 then s else s.sendEv 0xD03 0xBA 2
  else if 2 < n ∨ s.fld (regClk 0) (2 + n) (2 + n) = 0 then s
  else
    let s := s.setFld (regClk 0) (2 + n) (2 + n) 0
    if s.fld (regClk 0) 1 1 = n then
      if s.fld (regClk 0) (3 - n) (3 - n) = 1 then
        ((s.setFld (regClk 0) 1 1 (1 - n)).sendEv pwSrc 0xB9 (1 - n)).send (0xD03 + n) 0xBA 1 true []
      else s.superHalt
    else s.send (0xD03 + n) 0xBA 1 true []

/-- CLK_OSC: a write of SEL, taken only while every context is DISABLED. A failed oscillator does not become active. -/
def doClkOsc (v : Word32) (s : State) : State :=
  if s.allDisabled = false then s
  else
    let n := bitsOf v.toNat 0 0
    let s := s.setFld (regClk 0) 0 0 n
    if s.fld (regClk 0) (2 + n) (2 + n) = 1 then s.setFld (regClk 0) 1 1 n else s

/-- VR_FAULT: a rail of a compute die, or of H (d = 4). -/
def doVrFault (d rail : Nat) (s : State) : State := s.sendEv (dieSub d 3) 0xBD (rail % 256)

end Sys2Proof.Machine
end

