-- ==== Sys2Proof/Machine/Mgmt.lean ====
section
/-! DEFINITION. The management complex: pairs, watchdog, shedding, telemetry, the firmware fields of the Span Table, attestation
(R533 to R539, R545, R546, R548, R580, R584). -/

namespace Sys2Proof.Machine

/-! ### Pairs and the watchdog (R534, R536) -/

/-- State of a pair (Table 19.1): 0 SERVING, 1 RESETTING, 2 TESTING, 3 OUT. -/
def State.pairSt (s : State) (q : Nat) : Nat := s.fld (regMg 0) (13 + 2 * q) (12 + 2 * q)
def State.setPair (s : State) (q v : Nat) : State := s.setFld (regMg 0) (13 + 2 * q) (12 + 2 * q) v
def State.serves (s : State) : Bool := decide (s.pairSt 0 = 0) || decide (s.pairSt 1 = 0)
def State.wdt (s : State) : Nat := s.fld (regMg 4) 6 0

/-- One hour in raw ticks. -/
def ticksPerHour : Nat := 3600000 * ticksPerMs

/-- A pair is lost: LOCKSTEP; its third entry to RESETTING within 1 h takes it OUT. -/
def State.pairLoss (s : State) (q cause : Nat) : State :=
  if 1 < q ∨ s.pairSt q ≠ 0 then s
  else
    let l := (s.mg.resets.get q []).filter (fun t => decide (s.ticks < t + ticksPerHour)) ++ [s.ticks]
    let s := { s with mg := { s.mg with resets := s.mg.resets.set q l } }
    let s := (s.setPair q (if 3 ≤ l.length then 3 else 1)).setFld (regMg 0) (16 + q) (16 + q) cause
    let s := s.sendEv (0xC00 + q) 0xA5 0
    if s.serves then s else { s with mg := { s.mg with none_ := some s.ticks } }

/-- LOCKSTEP: the checker of pair 0 or 1, or of Keystone's decision logic (R492). -/
def doLockstep (unit : Nat) (s : State) : State :=
  if unit = 2 then s.sendEv keySrc 0xA5 0 else s.pairLoss unit 0

/-- MG_KICK. -/
def doMgKick (q : Nat) (v : Word32) (s : State) : State :=
  if bitOf v.toNat 0 then { s with mg := { s.mg with kicks := s.mg.kicks.set q s.ticks } } else s

/-- PAIR_WATCHDOG. -/
def doPairWatchdog (q : Nat) (s : State) : State :=
  if s.ticks < s.mg.kicks.get q 0 + s.wdt * ticksPerMs then s else s.pairLoss q 1

/-- PAIR_RESET_END. -/
def doPairResetEnd (q : Nat) (s : State) : State := if q ≤ 1 ∧ s.pairSt q = 1 then s.setPair q 2 else s

/-- MGT_WDOG: no pair has served for WDT. -/
def doMgtWdog (s : State) : State :=
  match s.mg.none_, s.mg.wdog with
  | some t, none =>
    if s.ticks < t + s.wdt * ticksPerMs then s
    else { s with mg := { s.mg with wdog := some s.ticks } }.sendEv 0xC02 0xB0 0
  | _, _ => s

/-- MWDRST_RESET: 100 ms after MGT-WDOG with no pair serving. -/
def doMwdrstReset (s : State) : State :=
  match s.mg.wdog with
  | none => s
  | some t => if s.serves = true ∨ s.fld (regMg 4) 15 15 = 0 ∨ s.ticks < t + 100 * ticksPerMs then s else s.pkgBegin 5

/-! ### Shedding (R538) -/

def State.shed (s : State) : Nat := s.fld (regMg 0) 11 10

/-- A new shed level. -/
def State.setShed (s : State) (l : Nat) : State := (s.setFld (regMg 0) 11 10 l).sendEv 0xC00 0xB1 l

/-- SHED_WINDOW: the busy shares of both pairs, in per cent, at the end of a 10 ms window. -/
def doShedWindow (b0 b1 : Nat) (s : State) : State :=
  let on := ([(0, b0), (1, b1)] : List (Nat × Nat)).filter (fun x => decide (s.pairSt x.1 = 0))
  let calm := fun (s : State) (n : Nat) => { s with mg := { s.mg with calm := n } }
  if on = [] then s
  else if on.any (fun x => decide (s.fld (regMg 8) 23 16 < x.2)) then
    if s.shed < 3 then (calm s 0).setShed (s.shed + 1) else calm s 0
  else if on.all (fun x => decide (x.2 < s.fld (regMg 8) 15 8)) then
    if s.mg.calm + 1 < 10 then calm s (s.mg.calm + 1)
    else if s.shed = 0 then calm s 0
    else (calm s 0).setShed (s.shed - 1)
  else calm s 0

/-! ### Frames (R547, R548) -/

/-- Source MAC of the Towpath. -/
def State.twMac (s : State) : Nat := (s.reg (regTw 8)).toNat + s.fld (regTw 0xC) 15 0 * 2 ^ 32

/-- A management frame to a MAC address. -/
def State.twFrame (s : State) (dst : List Byte) (payload : List Byte) : State :=
  let t := s.fld (regMg 0xC) 15 0
  let f := dst ++ (leBytes 6 s.twMac).reverse ++ [BitVec.ofNat 8 (t / 256), BitVec.ofNat 8 t] ++ payload
  { s with mg := { s.mg with out := s.mg.out ++ [f] } }

/-- The 16 bytes before a body. -/
def twHead (cls op status seq len : Nat) : List Byte :=
  leBytes 1 1 ++ leBytes 1 cls ++ leBytes 1 op ++ leBytes 1 status ++ leBytes 4 seq ++ leBytes 4 len ++ List.replicate 4 0

/-- FENCE_CL: is a cluster fenced or offline? -/
def State.clOut (s : State) (c : Nat) : Bool := s.fences.contains c || s.dieOff (dieOf c)

/-- A word of bits. -/
def packBits (n : Nat) (f : Nat → Bool) : Nat := (upTo n).foldl (fun a i => if f i then a + 2 ^ i else a) 0

/-- TELEMETRY. Its destination address is not stated: a free value. -/
def doTelemetry (s : State) : State :=
  if s.shed ≠ 0 ∨ s.serves = false ∨ s.fld (regTw 0) 0 0 = 0 then s
  else
    let body := timeBytes s.now
      ++ (upTo 5).flatMap (fun d => leBytes 1 (s.fld (regTj d) 31 24))
      ++ (upTo 2).flatMap (fun st => leBytes 1 (s.fld (regHbs st 0x14) 7 0))
      ++ leBytes 1 s.shed ++ leBytes 2 (s.fld (regPw 0x10) 31 16) ++ leBytes 2 (s.fld (regPw 0x10) 15 0) ++ leBytes 1 s.ks
      ++ leBytes 1 (s.fld (regFc 4) 31 24) ++ leBytes 2 0 ++ leBytes 8 (packBits 64 (fun c => s.clOut c)) ++ leBytes 4 s.logSeq
    let dst := Config.freeBytes s.freeCount 6
    let s := { s with freeCount := s.freeCount + 1 }.twFrame dst (twHead 0 0x40 0 s.mg.telSeq body.length ++ body)
    { s with mg := { s.mg with telSeq := (s.mg.telSeq + 1) % 2 ^ 32 } }

/-! ### Firmware fields of the Span Table (R580, R584) -/

/-- Does a range overlap an enabled window of any context? -/
def State.rangeBad (s : State) (r : Nat × Nat × Nat × Nat) : Bool :=
  let (sp, off, n, kind) := r
  let me := (off, off + n)
  decide (n = 0 ∨ (sp ≠ 0 ∧ sp ≠ 2) ∨ kind = 0 ∨ 6 < kind)
    || (decide (kind ≠ 6) && (upTo 256).any (fun x =>
      if sp = 2 then
        decide (s.fld (regCtx x 0x420) 31 31 = 1) && rangesMeet me
          (s.fld (regCtx x 0x420) 24 16 * 2 ^ 16, (s.fld (regCtx x 0x420) 24 16 + s.fld (regCtx x 0x420) 9 0) * 2 ^ 16)
      else (upTo 16).any (fun v =>
        let q := fun o => regCtx x (0x300 + 0x10 * v + o)
        let e := s.fld (q 0) 31 21 * 2 ^ 21 + s.fld (q 4) 16 0 * 2 ^ 32
        decide (s.fld (q 0xC) 0 0 = 1) && rangesMeet me (e, e + s.fld (q 8) 14 0 * 2 ^ 21))))

/-- SPANREF: RELIEF and RTS are refreshed unless the task is shed; `list` is a new list of reserved ranges, refused whole where
a new entry is bad. UPDCNT ends even. -/
def doSpanref (list : Option (List (Nat × Nat × Nat × Nat))) (s : State) : State :=
  if !s.serves then s
  else
    let s := match list with
      | none => s
      | some l =>
        let bad := decide (31 < l.length) || l.any (fun r => !s.mg.ranges.contains r && s.rangeBad r)
        let s := { s with mg := { s.mg with updcnt := (s.mg.updcnt + 2) % 2 ^ 32 } }
        if bad then s.sendEv 0x400 0x28 0 else { s with mg := { s.mg with ranges := l } }
    if 3 ≤ s.shed then s
    else
      let hosts := s.relief.filterMap (fun h => s.hostOf h)
      { s with mg := { s.mg with
          updcnt := (s.mg.updcnt + 2) % 2 ^ 32, relief := packBits 64 (fun c => hosts.contains c), rts := s.now } }

/-! ### Attestation (R545, R546) -/

/-- The report over a nonce (Table 19.7). -/
def State.attest (s : State) (nonce : List Byte) : List Byte :=
  let b := fun (x : Bool) (i : Nat) => if x then 2 ^ i else 0
  let bank := if s.fld (regMg 0) 9 9 = 1 then 0xFF else s.fld (regMg 0) 8 8
  let loaded := s.fld (regKs 0xA08) 1 1 = 1
  let body := leBytes 4 0x54415947 ++ leBytes 1 1 ++ leBytes 1 bank ++ leBytes 2 (s.fld (regMg 0x10) 15 0)
    ++ leBytes 8 Config.serial.toNat ++ leBytes 1 (s.fld (regMg 0x440) 7 4)
    ++ leBytes 1 (s.ks + b (decide (s.fld (regKs 4) 5 5 = 1)) 2 + b (decide loaded) 3) ++ List.replicate 6 0
    ++ (nonce ++ List.replicate 32 0).take 32 ++ timeBytes s.now
    ++ (upTo 4).flatMap (fun i => (s.mg.meas.getD i [] ++ List.replicate 48 0).take 48)
    ++ (if loaded then (s.mg.fbDig ++ List.replicate 32 0).take 32 else List.replicate 32 0) ++ List.replicate 8 0
  body ++ (Config.deviceSign (sha384 body) ++ List.replicate 96 0).take 96

/-- The host's report is placed and DONE set. -/
def State.placeReport (s : State) : State :=
  let nonce := (upTo 8).flatMap (fun i => leBytes 4 (s.reg (regMg (0x100 + 4 * i))).toNat)
  let r := s.attest nonce
  let s := (upTo 100).foldl (fun (s : State) i => s.setReg (regMg (0x200 + 4 * i)) (BitVec.ofNat 32 (fieldAt r (4 * i) 4))) s
  { s.setFld (regMg 0x120) 1 1 1 with mg := { s.mg with repWait := false } }

/-- MB_GO: a write of MB_CTL. A report waits while no pair serves; GO is refused meanwhile. -/
def doMbGo (v : Word32) (s : State) : State :=
  let s := if bitOf v.toNat 2 then s.setFld (regMg 0x120) 2 2 0 else s
  if !bitOf v.toNat 0 then s
  else if s.mg.repWait then s.setFld (regMg 0x120) 2 2 1
  else
    let s := s.setFld (regMg 0x120) 1 1 0
    if s.serves then s.placeReport else { s with mg := { s.mg with repWait := true } }

end Sys2Proof.Machine
end

