-- ==== Sys2Proof/Machine/Registers.lean ====
section
/-! DEFINITION. Reads and writes of the set-up registers and the Span Table (R326, R578 to R595). -/

namespace Sys2Proof.Machine

/-! ### The Span Table (R578 to R586) -/

/-- A block type of Tables 21.4 and 21.5: TYPE, FLAGS, INST, BASE, STRIDE, SIZE, CAP. -/
structure SpanBlock where
  typ : Nat
  flags : Nat
  inst : Nat
  base : Nat
  stride : Nat
  size : Nat
  cap : Nat
  deriving DecidableEq, Repr

/-- Tables 21.4 and 21.5, in ascending TYPE. -/
def spanBlocks : List SpanBlock :=
  [ ⟨0x0001, 3, 64, 0x100000, 0x1000, 0x1000, 0x000410FF⟩, ⟨0x0002, 3, 16, 0x140000, 0x1000, 0x1000, 0x00000014⟩,
    ⟨0x0003, 3, 4, 0x150000, 0x1000, 0x1000, 0x00030400⟩, ⟨0x0004, 0, 256, 0x200000, 0x1000, 0x1000, 0x08100410⟩,
    ⟨0x0005, 0, 256, 0x300000, 0x1000, 0x1000, 0⟩, ⟨0x0010, 0, 1, 0x400000, 0, 0x1000, 0⟩,
    ⟨0x0011, 0, 1, 0x401000, 0, 0x1000, 0x00000010⟩, ⟨0x0012, 0, 1, 0x402000, 0, 0x1000, 0⟩,
    ⟨0x0013, 0, 1, 0x410000, 0, 0x8000, 0x00304002⟩, ⟨0x0020, 1, 16, 0x420000, 0x1000, 0x1000, 0x00000047⟩,
    ⟨0x0021, 1, 4, 0x430000, 0x1000, 0x1000, 0x00000008⟩, ⟨0x0022, 0, 1, 0x434000, 0, 0x1000, 0⟩,
    ⟨0x0023, 0, 1, 0x440000, 0, 0x1000, 0⟩, ⟨0x0024, 0, 1, 0x480000, 0, 0x40000, 0x00201020⟩,
    ⟨0x0025, 0, 1, 0x4C0000, 0, 0x1000, 0⟩, ⟨0x0030, 0, 1, 0x4D0000, 0, 0x1000, 0⟩,
    ⟨0x0031, 0, 1, 0x4D1000, 0, 0x1000, 0x00000040⟩, ⟨0x0040, 1, 1, 0x4E0000, 0, 0x2000, 0x00001008⟩,
    ⟨0x0050, 0, 1, 0x500000, 0, 0x4000, 0x08000081⟩, ⟨0x0051, 0, 1, 0x510000, 0, 0x2000, 0⟩,
    ⟨0x0052, 0, 1, 0x520000, 0, 0x1000, 0⟩, ⟨0x0060, 0, 1, 0x530000, 0, 0x1000, 0⟩,
    ⟨0x0061, 0, 1, 0x540000, 0, 0x1000, 0⟩, ⟨0x0062, 0, 1, 0x541000, 0, 0x1000, 0⟩ ]

/-- FMAP of a type (R582, Table 21.4). -/
def State.fmap (s : State) (typ : Nat) : Nat :=
  if typ = 0x01 then packBits 64 (fun c => s.clOut c)
  else if typ = 0x02 then packBits 16 (fun r => (upTo 4).all (fun i => s.clOut (4 * r + i)))
  else if typ = 0x03 then packBits 4 (fun d => s.dieOff d)
  else if typ = 0x20 then packBits 16 (fun n => s.fences.contains (portSrc n))
  else if typ = 0x21 then packBits 4 (fun p => s.fences.contains (portSrc (16 + p)))
  else if typ = 0x40 then packBits 8 (fun p => decide (s.vpState p = 4 ∨ s.vpState p = 6))
  else 0

/-- Is the table published (R578)? -/
def State.published (s : State) : Bool := s.rst.boot.isNone && decide (s.fld (regFc 4) 0 0 = 1)

/-- FMAP_READ: a read of FMAP bytes 24 to 27 of entry k latches bytes 28 to 31. -/
def doFmapRead (k : Nat) (s : State) : State :=
  { s with mg := { s.mg with latch := s.mg.latch.set k (s.fmap (spanBlocks.getD k ⟨0, 0, 0, 0, 0, 0, 0⟩).typ / 2 ^ 32) } }

/-- Dword `o` of entry k (Table 21.2). -/
def State.entryDword (s : State) (k o : Nat) : Nat :=
  let b := spanBlocks.getD k ⟨0, 0, 0, 0, 0, 0, 0⟩
  ([b.typ + 2 ^ 16 + b.flags * 2 ^ 24, b.inst, b.base, b.stride, b.size, b.cap, s.fmap b.typ % 2 ^ 32, s.mg.latch.get k 0] :
    List Nat).getD o 0

/-- The reserved ranges in force, the training area first (Table 21.3): space, offset, length, KIND. -/
def State.rangeList (s : State) : List (Nat × Nat × Nat × Nat) := (0, 0xBFFFF0000, 0x10000, 1) :: s.mg.ranges

/-- Dword `o` of the header (Table 21.1). -/
def State.headDword (s : State) (o : Nat) : Nat :=
  ([0x4E505347, 1 + s.fld (regMg 0x440) 7 4 * 2 ^ 8 + 24 * 2 ^ 16, 0x1F4D + 0x4704 * 2 ^ 16,
    Config.revision.toNat + s.fld (regVd 0) 10 0 * 2 ^ 16, Config.serial.toNat % 2 ^ 32, Config.serial.toNat / 2 ^ 32,
    s.mg.updcnt, 0x40, 0x1000, s.rangeList.length + s.fld (regMg 0x10) 15 0 * 2 ^ 16, s.mg.relief % 2 ^ 32,
    s.mg.relief / 2 ^ 32, secOf s.mg.rts % 2 ^ 32, nsOf s.mg.rts] : List Nat).getD o 0

/-- Dword of a reserved-range entry. -/
def rangeDword (r : Nat × Nat × Nat × Nat) (o : Nat) : Nat :=
  let (sp, off, n, kind) := r
  ([memKey sp off % 2 ^ 32, memKey sp off / 2 ^ 32, n % 2 ^ 32, n / 2 ^ 32 % 2 ^ 16 + kind * 2 ^ 16] : List Nat).getD o 0

/-- A dword of the Span Table. While MAGIC reads zero the rest is undefined: a free value. -/
def State.spanRead (s : State) (off : Nat) : Nat × State :=
  if s.published = false then (if off = 0 then (0, s) else s.free (2 ^ 32))
  else if off < 0x40 then (s.headDword (off / 4), s)
  else if off < 0x340 then
    let k := (off - 0x40) / 32
    let o := (off - 0x40) % 32 / 4
    (s.entryDword k o, if o = 6 then doFmapRead k s else s)
  else if 0x1000 ≤ off ∧ off < 0x1200 then
    match s.rangeList[(off - 0x1000) / 16]? with
    | some r => (rangeDword r ((off - 0x1000) % 16 / 4), s)
    | none => (0, s)
  else (0, s)

/-! ### Reads (R326, R587) -/

/-- Does the instance that holds an offset lie on a compute die that is offline, in P3 or in the rail phases of its reset? -/
def State.dieDark (s : State) (off : Nat) : Bool :=
  let d :=
    if 0x100000 ≤ off ∧ off < 0x140000 then some ((off - 0x100000) / 0x10000)
    else if 0x140000 ≤ off ∧ off < 0x150000 then some ((off - 0x140000) / 0x4000)
    else if 0x150000 ≤ off ∧ off < 0x154000 then some ((off - 0x150000) / 0x1000)
    else none
  match d with
  | none => false
  | some d => s.dieOff d || s.inP3 || s.isBusy (0x200 + 16 * d)

/-- The c-cycle up to which a cluster has run. -/
def Seq.time (q : Seq) : Nat := max q.cyc q.ran

def StageSet.code (x : StageSet) (t : Nat) : Nat :=
  match x.st with
  | .filling => 1
  | .ready => 2
  | .free => if t < x.freeAt then 3 else 0

def EdSet.code (v : EdSet) (t : Nat) : Nat :=
  if v.live = false then 0
  else if v.fin = false ∨ t < v.stateAt then 1
  else if t < v.emptyAt then 2
  else 0

/-- Status registers of a cluster that follow its units (Tables 7.14, 4.7, 5.6, 6.5). -/
def State.clView (s : State) (c o : Nat) : Option Nat :=
  let k := s.cl c
  let t := k.seq.time
  if o = 0 then some (s.seqStat c)
  else if o = 0x184 then some ((if k.sl.direct.isOpen then 16 else 0) + k.sl.s1.code t * 4 + k.sl.s0.code t)
  else if o = 0x1A0 then some (k.ed.st1.code t * 8 + k.ed.st0.code t * 2 + (if t < k.ed.next then 1 else 0))
  else if o = 0x1C0 then
    some (packBits 8 (fun n => k.stp.rings.has n) * 256 + k.stp.lastOp * 2 + (if t < k.stp.next then 1 else 0))
  else none

/-- Registers whose value stands elsewhere in the state than in the register table. -/
def State.regView (s : State) (off : Nat) : Option Nat :=
  let plain := (s.reg off).toNat
  if 0x100000 ≤ off ∧ off < 0x140000 then s.clView ((off - 0x100000) / 0x1000) (off % 0x1000)
  else if 0x200000 ≤ off ∧ off < 0x300000 ∧ off % 0x1000 = 4 then
    some (putBits plain 10 10 (if s.ctxPend ((off - 0x200000) / 0x1000) then 1 else 0))
  else if off = regKv 0x14 then some s.kv.free.length
  else if 0x401000 ≤ off ∧ off < 0x401200 ∧ off % 0x20 = 0x1C then some (s.qdepth ((off - 0x401000) / 0x20))
  else if off = regDt 0x20 then some (s.rcd.next % 2 ^ 32)
  else if off = regDt 0x24 then some (s.rcd.next / 2 ^ 32 % 2 ^ 32)
  else if regDt 0x30 ≤ off ∧ off < regDt 0x50 then some (fieldAt s.rcd.chain (off - regDt 0x30) 4)
  else if off = regDc 0x10 then some (s.rcd.expect.getD 0 % 2 ^ 32)
  else if off = regDc 0x14 then some (s.rcd.expect.getD 0 / 2 ^ 32 % 2 ^ 32)
  else if off = regTb 8 then some (secOf s.now % 2 ^ 32)
  else if off = regTb 0xC then some (secOf s.time.shadow / 2 ^ 32 % 2 ^ 32)
  else if off = regTb 0x10 then some (nsOf s.time.shadow)
  else if off = regTb 0x14 then some (fracOf s.time.shadow)
  else if regTb 0x100 ≤ off ∧ off < regTb 0x240 ∧ off % 0x40 = 0x14 then
    let q := (off - regTb 0x100) / 0x40
    some (putBits plain 4 0 (s.time.launch.get q []).length)
  else if regTb 0x100 ≤ off ∧ off < regTb 0x240 ∧ (off % 0x40 = 0x18 ∨ off % 0x40 = 0x1C ∨ off % 0x40 = 0x20) then
    match s.time.stamps.get ((off - regTb 0x100) / 0x40) [] with
    | [] => some 0
    | (tag, t) :: _ =>
      some (if off % 0x40 = 0x18 then 2 ^ 31 + tag else if off % 0x40 = 0x1C then secOf t % 2 ^ 32 else nsOf t)
  else if off = regFc 0x20 then some (packBits 32 (fun c => s.clOut c))
  else if off = regFc 0x24 then some (packBits 32 (fun c => s.clOut (32 + c)))
  else if off = regFc 0x28 then some (s.fmap 0x21 * 2 ^ 28 + s.fmap 0x20 * 2 ^ 12 + s.fmap 0x40 * 16 + s.fmap 0x03)
  else if regFc 0x100 ≤ off ∧ off < regFc 0x1120 then
    match lookup s.fc.recs.rows ((off - regFc 0x100) / 0x20) with
    | some r => some (fieldAt r.bytes ((off - regFc 0x100) % 0x20) 4)
    | none => some 0
  else if off = regKs 4 then some (putBits plain 6 6 (if s.refState = 2 then 1 else 0))
  else if regKs 0xE00 ≤ off ∧ off < regKs 0x1040 then
    match s.saf.fbRec with
    | some r => some (fieldAt r.bytes (off - regKs 0xE00) 4)
    | none => some 0
  else if regKs 0xC20 ≤ off ∧ off < regKs 0xD20 then some (s.testAge ((off - regKs 0xC20) / 4))
  else if off = regRc 4 then some (putBits plain 0 0 (if s.rst.busy = [] then 0 else 1))
  else if regRc 0x100 ≤ off ∧ off < regRc 0x200 then
    match s.hostOf ((off - regRc 0x100) / 4) with
    | some k => some k
    | none => some 64
  else if off = regMg 0x444 then some (match s.mg.svnFloor with | some v => v | none => plain)
  else if off = regPw 8 then some (putBits plain 31 24 s.limitW)
  else if regPw 0x20 ≤ off ∧ off < regPw 0x34 then some (putBits plain 15 12 (s.holdBits ((off - regPw 0x20) / 4)))
  else none

/-- A read of a dword of BAR0. An offset that no register covers reads zero. Reads that the tables give an effect have it:
FMAP, TB_SEC_LO (R402), STNS (Table 14.7). -/
def State.regRead (s : State) (off : Nat) : Nat × State :=
  let off := off / 4 * 4
  if off < 0x10000 then s.spanRead off
  else if s.dieDark off then (0, s)
  else
    let v := match s.regView off with
      | some v => v
      | none => match regRow off with
        | some r => (s.reg off &&& BitVec.ofNat 32 r.rd).toNat
        | none => 0
    let s :=
      if off = regTb 8 then doTbSecLo s
      else if regTb 0x100 ≤ off ∧ off < regTb 0x240 ∧ off % 0x40 = 0x20 then doStns ((off - regTb 0x100) / 0x40) s
      else s
    (v % 2 ^ 32, s)

/-- Dwords from an offset on. -/
def State.regReads : Nat → Nat → State → List Nat × State
  | 0, _, s => ([], s)
  | n + 1, off, s =>
    let (v, s) := s.regRead off
    let (vs, s) := State.regReads n (off + 4) s
    (v :: vs, s)

/-! ### Writes (R588) -/

/-- The RW fields take the value, the W1C bits clear where 1 is written (Table 0.3). -/
def State.plainWrite (s : State) (off : Nat) (v : Word32) : State :=
  match regRow off with
  | none => s
  | some r =>
    if r.rw = 0 ∧ r.w1c = 0 then s
    else
      let rw := BitVec.ofNat 32 r.rw
      s.setReg off (((s.reg off &&& ~~~ rw) ||| (v &&& rw)) &&& ~~~ (v &&& BitVec.ofNat 32 r.w1c))

/-- Only the W1C bits of a write. -/
def State.clearWrite (s : State) (off : Nat) (v : Word32) : State :=
  match regRow off with
  | none => s
  | some r => s.setReg off (s.reg off &&& ~~~ (v &&& BitVec.ofNat 32 r.w1c))

/-- A plain write where a condition holds; otherwise it is ignored. -/
def State.writeIf (s : State) (p : Bool) (off : Nat) (v : Word32) : State := if p then s.plainWrite off v else s

/-- KV_INIT as it is written: refused unless the KV pool lies in class-1 pairs (R299). -/
def doKvInitWrite (s : State) : State :=
  if s.kvInUse then s
  else if s.kvRanges.any (fun r => (upTo (ceilDiv r.2 (2 ^ 31) - r.1 / 2 ^ 31)).any (fun i =>
      decide (s.pairCls (r.1 / 2 ^ 31 + i) ≠ 1))) then s.sendEv 0x402 0x28 0
  else doKvInit s

/-- CTX_CMD (Table 11.4). -/
def State.writeCtxCmd (s : State) (c op : Nat) : State :=
  if op = 1 then doEnable c s else if op = 2 then doDisable c s else if op = 3 then doAbort c s
  else if op = 4 then doContextReset c s else s

/-- A register of a context (Table 21.8). -/
def State.writeCtx (s : State) (c o off : Nat) (v : Word32) : State :=
  let idle := decide (s.ctxState c = 0)
  if o = 0 then s.writeCtxCmd c (bitsOf v.toNat 2 0)
  else if o = 0x2C then s.plainWrite off v
  else if o = 0x424 then s.plainWrite off v
  else if 0x300 ≤ o ∧ o < 0x400 then
    let w := (o - 0x300) / 0x10
    if o % 0x10 = 0xC then doWindowEnable c w v s
    else s.writeIf (idle && decide (s.fld (regCtx c (0x300 + 0x10 * w + 0xC)) 0 0 = 0)) off v
  else if o = 0x420 then doWindowEnable c 16 v s
  else s.writeIf idle off v

/-- A register of the HBM block. -/
def State.writeHbm (s : State) (o off : Nat) (v : Word32) : State :=
  let w := v.toNat
  if o = 0 then
    let t := bitsOf w 30 16
    let s := if t < 256 ∨ 16384 < t then s.hbConfig 0 else s.setFld off 30 16 t
    let s := s.setFld off 2 2 (bitsOf w 2 2)
    let s := if bitOf w 1 then doSrexit s else s
    if bitOf w 0 then doSrenter s else s
  else if 0x10 ≤ o ∧ o < 0x1C then doHbPaircls ((o - 0x10) / 4) w s
  else if 0x100 ≤ o ∧ o < 0x200 then doHbCal ((o - 0x100) / 4) w s
  else if o = 0x1020 ∨ o = 0x3020 then (if bitOf w 0 then doGo ((o - 0x1020) / 0x2000) none s else s)
  else if (0x2000 ≤ o ∧ o < 0x3000) ∨ 0x4000 ≤ o then
    s.writeIf (decide (s.fld (regHbs ((o - 0x2000) / 0x2000) 0x20) 31 31 = 0)) off v
  else s.plainWrite off v

/-- A register of the input pipeline. -/
def State.writeIp (s : State) (o off : Nat) (v : Word32) : State :=
  let used := fun (x : Nat) => (upTo 32).any (fun i => s.vOn i && decide (s.vStream i = x))
  if o = 4 then doMeshLoad v s
  else if 0x1000 ≤ o ∧ o < 0x1400 then s.writeIf (!used ((o - 0x1000) / 0x10)) off v
  else if 0x2000 ≤ o ∧ o < 0x3000 then
    let i := (o - 0x2000) / 0x80
    if o % 0x80 = 0 then doViewEnable i v s else s.writeIf (!s.vOn i) off v
  else if 0x4000 ≤ o ∧ o < 0x5000 then
    let x := 64 + (o - 0x4000) / 0x80
    if o % 0x80 = 0 then doLidarEnable x v s else s.writeIf (!s.lOn x) off v
  else if 0x8000 ≤ o ∧ o < 0x28000 then s.writeIf (!s.vOn ((o - 0x8000) / 0x1000)) off v
  else s.plainWrite off v

/-- A register of the time block, launch queues included. -/
def State.writeTb (s : State) (o off : Nat) (v : Word32) : State :=
  let w := v.toNat
  if o = 0 then doRefsrc v s
  else if o = 0x18 then (if s.mode = 2 then s.timeConfig else s.plainWrite off v)
  else if o = 0x1C then doIncCommit v s
  else if o = 0x30 then
    let s := if bitOf w 0 then doSet s else s
    if bitOf w 1 then doAdj s else s
  else if o = 0x60 then (if bitOf w 0 then doTbCntclr s else s)
  else if 0x100 ≤ o ∧ o < 0x240 then
    let q := (o - 0x100) / 0x40
    if o % 0x40 = 0x10 then (if bitOf w 0 then doLaunchGo q s else s)
    else if o % 0x40 = 0x24 then (if bitOf w 0 then doLqCntclr q s else s)
    else s.plainWrite off v
  else s.plainWrite off v

/-- A register of the Viaduct block. -/
def State.writeVd (s : State) (o off : Nat) (v : Word32) : State :=
  let w := v.toNat
  if o = 0 then
    let n := (1 + bitsOf w 15 12) * (1 + bitsOf w 19 16) * (1 + bitsOf w 22 20)
    let exd := bitsOf w 28 25
    if (upTo 8).any (fun p => decide (s.vpState p ≠ 0)) = true ∨ n ≤ bitsOf w 10 0 ∨ exd < 2 ∨ 8 < exd then
      s.sendEv routerSrc 0x86 0
    else s.plainWrite off v
  else if o = 0xC then (if bitOf w 0 then doVdCntclr s else s)
  else if 0x100 ≤ o ∧ o < 0x300 then
    let p := (o - 0x100) / 0x40
    if o % 0x40 = 0 then
      let s := doPortEnable p v s
      if bitOf w 30 = bitOf (s.reg off).toNat 30 then s else doByp p (bitOf w 30) s
    else if o % 0x40 = 0x10 then (if bitOf w 0 then doVpCntclr p s else s)
    else s.plainWrite off v
  else if 0x1000 ≤ o then
    let j := (o - 0x1000) / 0x80
    if o % 0x80 = 0x10 then
      let s := if bitOf w 0 then doArm j s else s
      if bitOf w 1 then doJobAbort j s else s
    else if s.jState j = 1 then s.send (jobSrc j) 0x86 0 true [s.jCtx j]
    else s.plainWrite off v
  else s.plainWrite off v

/-- KS_CMD (Table 17.14). Any other KEY is a refused command (log entry 30). -/
def State.writeKsCmd (s : State) (w : Nat) : State :=
  let op := bitsOf w 1 0
  if op = 0 then s
  else if bitsOf w 31 16 ≠ 0x4B53 then s.ksErr
  else if op = 1 then doKsGo s else if op = 2 then doKsClear s else doKsEnter s

/-- A register of the Keystone block. -/
def State.writeKs (s : State) (o off : Nat) (v : Word32) : State :=
  if o = 8 then s.writeKsCmd v.toNat
  else if 0x100 ≤ o ∧ o < 0x900 then
    let i := (o - 0x100) / 0x40
    if o % 0x40 = 0 then doOutputEnable i v s else s.writeIf (decide (s.fld (regKso i 0) 31 31 = 0)) off v
  else if o = 0xA00 then doOutputEnable 32 v s
  else if o = 0xA04 then s.writeIf (!s.fbOn) off v
  else if o = 0xB10 then (if bitOf v.toNat 0 then doSsCntclr s else s)
  else s.plainWrite off v

/-- RC_CMD (Table 18.10). -/
def State.writeRcCmd (s : State) (w : Nat) : State :=
  let key := bitsOf w 31 16
  let u := bitsOf w 11 0
  match bitsOf w 14 12 with
  | 1 => doRcCluster key u s
  | 2 => doRcRegion key u s
  | 3 => doRcDie key u s
  | 4 => doRcHub key u s
  | 5 => doRcPackage key s
  | 6 => doRcDump key s
  | _ => s

/-- A register of the recovery block. -/
def State.writeRc (s : State) (o off : Nat) (v : Word32) : State :=
  if o = 8 then s.writeRcCmd v.toNat
  else if 0x10 ≤ o ∧ o < 0x20 then
    let sum := (upTo 4).foldl (fun a i => a + (if 0x10 + 4 * i = o then bitsOf v.toNat 27 17 else s.fld (regRc (0x10 + 4 * i)) 27 17)) 0
    s.writeIf (decide (sum ≤ 2048)) off v
  else s.plainWrite off v

/-- A register of the management block. -/
def State.writeMg (s : State) (o off : Nat) (v : Word32) : State :=
  let w := v.toNat
  if o = 4 then
    let s := s.setFld off 15 15 (bitsOf w 15 15)
    let t := bitsOf w 6 0
    if t < 2 ∨ 100 < t then s else s.setFld off 6 0 t
  else if o = 8 then
    let hi := bitsOf w 23 16
    let lo := bitsOf w 15 8
    if hi ≤ lo ∨ 100 < hi then s else s.plainWrite off v
  else if o = 0x120 then doMbGo v s
  else if 0x480 ≤ o ∧ o < 0x490 then doPwOpreq ((o - 0x480) / 4) v s
  else if 0x500 ≤ o ∧ o < 0x508 then doMgKick ((o - 0x500) / 4) v s
  else s.plainWrite off v

/-- A register of the fault collector. -/
def State.writeFc (s : State) (o off : Nat) (v : Word32) : State :=
  let w := v.toNat
  if o = 0 then doPinthWrite v s
  else if o = 8 then doFcAck v s
  else if o = 0x18 then (if bitOf w 31 then doReturnToService (bitsOf w 11 0) [] s else doFenceCmd (bitsOf w 11 0) s)
  else if 0x2000 ≤ o then doFcSev o v s
  else s.plainWrite off v

/-- DC_RESYNC (R380). -/
def doDcResync (off : Nat) (s : State) : State :=
  if s.fld (regDc 0) 3 3 = 0 ∨ off % 8 ≠ 0 then s
  else (s.setReg (regDt 0x18) (BitVec.ofNat 32 off)).setFld (regDc 0) 3 3 0

/-- TW_CNTCLR (Table 21.10). -/
def doTwCntclr (s : State) : State := s.setReg (regTw 4) 0

/-- A write of a dword of BAR0 by the host or the management complex: commands go to their meanings, other registers take
the write under their chapter's condition (R588, R590). -/
def State.regWrite (s : State) (off : Nat) (v : Word32) : State :=
  let off := off / 4 * 4
  let o := off % 0x1000
  let w := v.toNat
  if off < 0x100000 ∨ s.dieDark off = true then s
  else if off < 0x140000 then
    let c := (off - 0x100000) / 0x1000
    if o = 0x208 then (if bitOf w 0 then doClMemclr c s else s) else s.plainWrite off v
  else if off < 0x150000 then
    let r := (off - 0x140000) / 0x1000
    s.writeIf ((upTo 4).all (fun i => decide ((s.cl (4 * r + i)).seq.st ≠ .running))) off v
  else if off < 0x200000 then s.plainWrite off v
  else if off < 0x300000 then s.writeCtx ((off - 0x200000) / 0x1000) o off v
  else if off < 0x400000 then
    let c := (off - 0x300000) / 0x1000
    if o = 0 then doSqTail c (v.truncate 16) s else if o = 4 then doCqHead c (v.truncate 16) s else s
  else if off < 0x401000 then
    if o = 0x18 then (if bitOf w 0 then doKvInitWrite s else s) else s.writeIf (!s.kvInUse) off v
  else if off < 0x402000 then s.plainWrite off v
  else if off < 0x403000 then
    if o = 4 then s.clearWrite off v
    else if o = 0x14 ∨ o = 0x18 then s.ringPtr o v
    else doDtCfg o v s
  else if 0x410000 ≤ off ∧ off < 0x418000 then s.writeHbm (off - 0x410000) off v
  else if 0x420000 ≤ off ∧ off < 0x430000 then
    let n := (off - 0x420000) / 0x1000
    if o = 0 then doReceiverEnable n v s
    else if o = 0x24 then (if bitOf w 0 then doApCntclr n s else s)
    else if o = 0x30 then doPen n v (if bitOf w 30 then doClr n s else s)
    else if o = 0x40 then s.plainWrite off v
    else s.writeIf (decide (s.fld (regAp n 0) 31 31 = 0)) off v
  else if 0x430000 ≤ off ∧ off < 0x434000 then
    let p := (off - 0x430000) / 0x1000
    if o = 0 then doReceiverEnable (16 + p) v s
    else if o = 0xC then (if bitOf w 0 then doLpCntclr p s else s)
    else s.writeIf (decide (s.fld (regLp p 0) 31 31 = 0)) off v
  else if off = regTw 0x14 then (if bitOf w 0 then doTwCntclr s else s)
  else if off = regWr 0x700 then (if bitOf w 0 then doWrClr s else s)
  else if 0x480000 ≤ off ∧ off < 0x4C0000 then s.writeIp (off - 0x480000) off v
  else if off = regDc 4 then doDcResync w s
  else if 0x4D0000 ≤ off ∧ off < 0x4D1000 then s.writeTb o off v
  else if 0x4D1000 ≤ off ∧ off < 0x4D2000 then
    if o < 0x800 then
      let g := o / 0x20
      if o % 0x20 = 0 then doGaugeEnable g v s else s.writeIf (!s.gOn g) off v
    else if o < 0xC00 ∧ o % 0x10 = 0xC then (if bitOf w 0 then doGaCntclr ((o - 0x800) / 0x10) s else s)
    else s
  else if 0x4E0000 ≤ off ∧ off < 0x4E2000 then s.writeVd (off - 0x4E0000) off v
  else if 0x500000 ≤ off ∧ off < 0x504000 then s.writeFc (off - 0x500000) off v
  else if 0x510000 ≤ off ∧ off < 0x512000 then s.writeKs (off - 0x510000) off v
  else if 0x520000 ≤ off ∧ off < 0x521000 then s.writeRc o off v
  else if 0x530000 ≤ off ∧ off < 0x531000 then s.writeMg o off v
  else if off = regPw 4 then (if bitOf w 0 then doStandbyEntry s else doStandbyExit s)
  else if off = regClk 0 then doClkOsc v s
  else s.plainWrite off v

/-- Dwords written from an offset on, in ascending order. -/
def State.regWrites : Nat → List Nat → State → State
  | _, [], s => s
  | off, v :: r, s => State.regWrites (off + 4) r (s.regWrite off (BitVec.ofNat 32 v))

/-- REGISTER_WRITE: a write through BAR0 whose byte enables cover the dword or not (R326). -/
def doRegisterWrite (off : Nat) (v : Word32) (whole : Bool) (s : State) : State := if whole then s.regWrite off v else s

end Sys2Proof.Machine
end

