-- ==== Sys2Proof/Machine/Towpath.lean ====
section
/-! DEFINITION. The Towpath management protocol (R544, R547, R549; Table 19.6). The widths that Table 19.6 does not give are those
of log entry 28: a count, an index, a slot, CHK, KEY and the offsets of CFGWRITE, DUMPREAD and FWCHUNK take 4 bytes each. -/

namespace Sys2Proof.Machine

/-! ### Requests -/

def twCls (p : List Byte) : Nat := fieldAt p 1 1
def twOp (p : List Byte) : Nat := fieldAt p 2 1
def twLen (p : List Byte) : Nat := fieldAt p 8 4
def twBody (p : List Byte) : List Byte := (p.drop 16).take (twLen p)

/-- STATUS codes of R547. -/
def twOk : Nat := 0
def twAuthBad : Nat := 1
def twRange : Nat := 2
def twReplay : Nat := 4
def twVerify : Nat := 5
def twUnknown : Nat := 6

/-- TAG of class 1. -/
def State.twTag (s : State) (m : List Byte) : Option (List Byte) := s.mg.ownerKey.map (fun k => (hmac256 k m).take 16)

/-- The class that an operation has (Table 19.6); none: unknown. OWNERKEY is open while no owner key is set. -/
def State.twClass (s : State) (op : Nat) : Option Nat :=
  if 1 ≤ op ∧ op ≤ 4 then some 0
  else if (0x10 ≤ op ∧ op ≤ 0x14) ∨ op = 0x20 ∨ op = 0x21 then some 1
  else if op = 0x30 ∨ op = 0x31 then some 2
  else if op = 0x32 then some (if s.mg.ownerKey.isNone then 0 else 2)
  else none

/-- The class-1 SEQ of a MAC address becomes the last accepted; eight addresses are kept. -/
def State.twSeen (s : State) (mac seq : Nat) : State :=
  let l := s.mg.seen.filter (fun e => e.1 ≠ mac) ++ [(mac, seq)]
  { s with mg := { s.mg with seen := if 8 < l.length then l.drop 1 else l } }

/-- Authentication of a request under its class (R547): whether it holds, and the state after it. A class-2 body ends with
SERIAL, challenge and signature. -/
def State.twAuth (s : State) (mac : Nat) (p : List Byte) : Bool × State :=
  let n := twLen p
  match twCls p with
  | 0 => (true, s)
  | 1 =>
    let seq := fieldAt p 4 4
    let last := (s.mg.seen.find? (fun e => e.1 = mac)).map (fun e => e.2)
    if s.twTag (p.take (16 + n)) = some ((p.drop (16 + n)).take 16) ∧ (match last with | none => true | some l => decide (l < seq)) = true
    then (true, s.twSeen mac seq) else (false, s)
  | 2 =>
    let b := twBody p
    if n < 136 then (false, s)
    else if fieldAt b (n - 136) 8 = Config.serial.toNat ∧ s.mg.chal = some ((b.drop (n - 128)).take 32)
        ∧ Config.serviceVerify (p.take (16 + n - 96)) (b.drop (n - 96)) = true then
      (true, { s with mg := { s.mg with chal := none } })
    else (false, s)
  | _ => (false, s)

/-- Flash offsets of a firmware bank and of a boot configuration copy (Table 19.3). -/
def flashBank (b : Nat) : Nat := 0x0100000 + 0x1800000 * b
def flashCfg (c : Nat) : Nat := 0x3340000 + 0x10000 * c

def putTable (t : Table Byte) (a : Nat) (bs : List Byte) : Table Byte :=
  ((upTo bs.length).zip bs).foldl (fun (t : Table Byte) e => t.set (a + e.1) e.2) t

/-- Dwords of a body. -/
def bodyWords (b : List Byte) (off n : Nat) : List Nat := (upTo n).map (fun i => fieldAt b (off + 4 * i) 4)

/-- The effect of an authenticated request (Table 19.6): STATUS, response body, state. `pass`: whether every stage of the
inactive bank passes R541. `replay`: the message comes from a record. -/
def State.twAct (s : State) (op : Nat) (b : List Byte) (pass replay : Bool) : Nat × List Byte × State :=
  let n := b.length
  match op with
  | 0x01 =>
    let off := fieldAt b 0 8
    let cnt := fieldAt b 8 4
    if n ≠ 12 ∨ cnt = 0 ∨ 64 < cnt ∨ off % 4 ≠ 0 then (twRange, [], s)
    else
      let (vs, s) := State.regReads cnt off s
      (twOk, vs.flatMap (fun v => leBytes 4 v), s)
  | 0x02 => if n ≠ 32 then (twRange, [], s) else (twOk, s.attest b, s)
  | 0x03 =>
    let i := fieldAt b 0 4
    if n ≠ 4 ∨ Config.certChain.length ≤ 1024 * i then (twRange, [], s)
    else (twOk, (Config.certChain.drop (1024 * i)).take 1024, s)
  | 0x04 =>
    let c := Config.freeBytes s.freeCount 32
    (twOk, c, { s with freeCount := s.freeCount + 1, mg := { s.mg with chal := some c } })
  | 0x10 =>
    let off := fieldAt b 0 8
    let cnt := fieldAt b 8 4
    if n < 12 ∨ n ≠ 12 + 4 * cnt ∨ cnt = 0 ∨ off % 4 ≠ 0 then (twRange, [], s)
    else if s.mode = 2 ∧ replay = false ∧ ¬ (0x402000 ≤ off ∧ off + 4 * cnt ≤ 0x403000) then (twReplay, [], s)
    else (twOk, [], State.regWrites off (bodyWords b 12 cnt) s)
  | 0x11 =>
    if n ≠ 8 then (twRange, [], s)
    else
      let (ok, s) := s.ackRec (fieldAt b 0 4) (fieldAt b 4 4)
      (if ok then twOk else twRange, [], s)
  | 0x12 => (if n = 4 ∧ fieldAt b 0 4 = 0x5253 then twOk else twRange, [], s)
  | 0x13 =>
    let off := fieldAt b 0 4
    if n < 5 ∨ 0x10000 < off + (n - 4) then (twRange, [], s)
    else if s.mode = 2 ∧ replay = false then (twReplay, [], s)
    else
      let a := flashCfg (1 - s.mg.cfgUse) + off
      (twOk, [], { s with mg := { s.mg with flash := putTable s.mg.flash a (b.drop 4), bankSel := none } })
  | 0x14 =>
    let slot := fieldAt b 0 4
    let off := fieldAt b 4 4
    if n ≠ 8 ∨ 3 < slot ∨ 512 * 1024 < off + 1024 then (twRange, [], s)
    else
      let d := match lookup s.rst.flashDumps.rows slot with
        | some d => (d.bytes.drop off).take 1024
        | none => []
      (twOk, d ++ Config.freeBytes s.freeCount (1024 - d.length), { s with freeCount := s.freeCount + 1 })
  | 0x20 =>
    let off := fieldAt b 0 4
    if n < 5 ∨ 1012 < n ∨ 24 * 2 ^ 20 < off + (n - 4) then (twRange, [], s)
    else if s.fld (regMg 0) 9 9 = 1 then (twOk, [], { s with mg := { s.mg with sram := putTable s.mg.sram off (b.drop 4) } })
    else
      let a := flashBank (1 - s.fld (regMg 0) 8 8) + off
      (twOk, [], { s with mg := { s.mg with flash := putTable s.mg.flash a (b.drop 4) } })
  | 0x21 =>
    if pass then (twOk, [], { s with mg := { s.mg with bankSel := some (1 - s.fld (regMg 0) 8 8) } })
    else (twVerify, [], s.sendEv (if s.pairSt 1 = 0 then 0xC01 else 0xC00) 0xB2 0)
  | 0x30 =>
    let v := s.fld (regMg 0x10) 15 0
    let old := match s.mg.svnFloor with | some x => x | none => s.fld (regMg 0x444) 15 0
    (twOk, [], { s with mg := { s.mg with svnFloor := some (max old v) } })
  | 0x31 => (twOk, [], { s with fc := { s.fc with flash := [] } })
  | 0x32 => if n < 32 then (twRange, [], s) else (twOk, [], { s with mg := { s.mg with ownerKey := some (b.take 32) } })
  | _ => (twUnknown, [], s)

/-- A request: its form, its class, its effect. A record holds no source address: in replay the TAG alone is checked (log
entry 31). -/
def State.twRun (s : State) (mac : Nat) (p : List Byte) (pass replay : Bool) : Nat × List Byte × State :=
  let n := twLen p
  let tag := if twCls p = 1 then 16 else 0
  if fieldAt p 0 1 ≠ 1 then (twUnknown, [], s)
  else if 1024 < n ∨ p.length < 16 + n + tag then (twRange, [], s)
  else
    match s.twClass (twOp p) with
    | none => (twUnknown, [], s)
    | some c =>
      if twCls p ≠ c then (twAuthBad, [], s)
      else
        let (ok, s) : Bool × State :=
          if replay then (decide (s.twTag (p.take (16 + n)) = some ((p.drop (16 + n)).take 16)), s) else s.twAuth mac p
        if ok then s.twAct (twOp p) (twBody p) pass replay else (twAuthBad, [], s)

/-- Serve a request and send its response; RESET starts a package reset after it. -/
def State.twServe (s : State) (mac : Nat) (p : List Byte) (pass : Bool) : State :=
  let (st, body, s) := s.twRun mac p pass false
  let head := twHead (twCls p) (twOp p) st (fieldAt p 4 4) body.length ++ body
  let tag := if twCls p = 1 then (s.twTag head).getD [] else []
  let s := s.twFrame (leBytes 6 mac).reverse (head ++ tag)
  if twOp p = 0x12 ∧ st = twOk then s.pkgBegin 2 else s

/-- Does a message enter the recorder (Table 9.5): those that write set-up state or command firmware? -/
def twRecorded (op : Nat) : Bool := decide ((0x10 ≤ op ∧ op ≤ 0x13) ∨ (0x20 ≤ op ∧ op ≤ 0x32))

/-- A management frame with its source address and payload: recorded, then served, or queued while no pair serves. In recovery
the ROM takes FWCHUNK alone. -/
def State.twFrameIn (s : State) (mac : Nat) (p : List Byte) (pass : Bool) : State :=
  if s.fld (regTw 0) 0 0 = 0 then s
  else
    let s := s.count (regTw 4) 15 0
    let s := if twRecorded (twOp p) then
        (s.capture 512 0x30 s.now (leBytes 4 p.length ++ leBytes 4 0 ++ p)).2
      else s
    if s.fld (regMg 0) 9 9 = 1 then (if twOp p = 0x20 then s.twServe mac p pass else s)
    else if s.serves then s.twServe mac p pass
    else if s.mg.queue.length < 32 then { s with mg := { s.mg with queue := s.mg.queue ++ [(mac, p)] } }
    else s.bump (regMg 0) 31 24 1

/-- A command of one operation takes the frames that name it; READ also takes those that name no operation of Table 19.6. -/
def State.twCommand (s : State) (op mac : Nat) (p : List Byte) (pass : Bool) : State :=
  if twOp p = op ∨ (op = 1 ∧ s.twClass (twOp p) = none) then s.twFrameIn mac p pass else s

def doRead (mac : Nat) (p : List Byte) (s : State) : State := s.twCommand 0x01 mac p false
def doAttest (mac : Nat) (p : List Byte) (s : State) : State := s.twCommand 0x02 mac p false
def doCert (mac : Nat) (p : List Byte) (s : State) : State := s.twCommand 0x03 mac p false
def doChallenge (mac : Nat) (p : List Byte) (s : State) : State := s.twCommand 0x04 mac p false
def doWrite (mac : Nat) (p : List Byte) (s : State) : State := s.twCommand 0x10 mac p false
def doAck (mac : Nat) (p : List Byte) (s : State) : State := s.twCommand 0x11 mac p false
def doTowpathReset (mac : Nat) (p : List Byte) (s : State) : State := s.twCommand 0x12 mac p false
def doCfgwrite (mac : Nat) (p : List Byte) (s : State) : State := s.twCommand 0x13 mac p false
def doDumpread (mac : Nat) (p : List Byte) (s : State) : State := s.twCommand 0x14 mac p false
def doFwchunk (mac : Nat) (p : List Byte) (s : State) : State := s.twCommand 0x20 mac p false
def doFwcommit (mac : Nat) (p : List Byte) (pass : Bool) (s : State) : State := s.twCommand 0x21 mac p pass
def doSvnbump (mac : Nat) (p : List Byte) (s : State) : State := s.twCommand 0x30 mac p false
def doHistclear (mac : Nat) (p : List Byte) (s : State) : State := s.twCommand 0x31 mac p false
def doOwnerkey (mac : Nat) (p : List Byte) (s : State) : State := s.twCommand 0x32 mac p false

/-! ### A pair that returns (R534, R535) -/

/-- Serve what waited, oldest first; the check of a commit that waited is a free value. -/
def State.serveQueue : List (Nat × List Byte) → State → State
  | [], s => s
  | (mac, p) :: r, s =>
    let (x, s) := s.free 2
    State.serveQueue r (s.twServe mac p (decide (x = 1)))

/-- PAIR_TEST_END: the self-test of a pair passed or failed. -/
def doPairTestEnd (q : Nat) (pass : Bool) (s : State) : State :=
  if 1 < q ∨ s.pairSt q ≠ 2 then s
  else if !pass then s.setPair q 3
  else
    let s := s.setPair q 0
    let l := s.mg.queue
    let s := { s with mg := { s.mg with none_ := none, wdog := none, kicks := s.mg.kicks.set q s.ticks, queue := [] } }
    let s := State.serveQueue l s
    if s.mg.repWait then s.placeReport else s

end Sys2Proof.Machine
end

