-- ==== Sys2Proof/Machine/Replay.lean ====
section
/-! DEFINITION. Replay: the Oxbow decoder (R287 to R289, R371, R374 to R382), and the recorded inputs of the time base and
the Towpath port (Table 9.5). -/

namespace Sys2Proof.Machine

def decSrc : Nat := 0xA02

/-! ### Records in the ring -/

/-- The header of a record: its ring offset, LEN, STREAM, TYPE, SEQ, TIME, PLEN. -/
structure OxHdr where
  at_ : Nat
  len : Nat
  stream : Nat
  typ : Nat
  seq : Nat
  time : Nat
  plen : Nat
  deriving DecidableEq, Repr

/-- Read a time in the format of R375. -/
def timeOf (bs : List Byte) (o : Nat) : Nat := fieldAt bs o 8 * oneS + fieldAt bs (o + 8) 4 * oneNs + fieldAt bs (o + 12) 2 * 2 ^ 16

def oxHdr (a : Nat) (b : List Byte) : OxHdr :=
  ⟨a, fieldAt b 0 4, fieldAt b 4 2, fieldAt b 6 1, fieldAt b 8 8, timeOf b 16, fieldAt b 32 4⟩

/-- Bytes between a ring offset and RWR. -/
def State.ringAvail (s : State) (a : Nat) : Nat := (s.rwr + s.ringSize - a) % max 1 s.ringSize

/-- Bytes of the ring, without the accounting of a read. -/
def State.ringLook (s : State) (a n : Nat) : List Byte := s.bytes (memKey 0 (s.ringBase + a)) n

/-- Check 1 of Table 13.4: is LEN good? -/
def State.lenOk (s : State) (h : OxHdr) : Bool :=
  decide (h.len % 8 = 0 ∧ 48 ≤ h.len ∧ h.len ≤ 2097216 ∧ h.at_ + h.len ≤ s.ringSize)

/-- Check 2: the CRC of a whole record. -/
def crcOk (x : List Byte) : Bool :=
  decide ((crc32c (x.take (x.length - 4))).toNat = fieldAt x (x.length - 4) 4)

/-- Is a stream valid for a type (Table 13.3)? -/
def streamOk (typ stream : Nat) : Bool :=
  if 1 ≤ typ ∧ typ ≤ 4 then decide (stream < 64)
  else if typ = 8 then decide (64 ≤ stream ∧ stream < 100)
  else if typ = 0x10 then decide (100 ≤ stream ∧ stream ≤ 104)
  else if typ = 0x11 then decide (stream = 105)
  else if typ = 0x20 ∨ typ = 0x21 then decide (256 ≤ stream ∧ stream < 512)
  else if typ = 0x30 then decide (stream = 512)
  else if typ = 0x40 then decide (stream < 96)
  else if typ = 0xF0 ∨ typ = 0xFE then decide (stream = 0xFFFF)
  else false

/-- Are the payload's unlisted bytes zero (Table 13.3)? -/
def payloadZero (typ : Nat) (p : List Byte) : Bool :=
  let z := fun (lo hi : Nat) => zeroBytes p lo hi
  let n := p.length
  if typ = 1 then z 4 n
  else if typ = 2 then z 12 15
  else if typ = 4 then z 8 n
  else if typ = 0x10 then z 1 3 && z 6 7
  else if typ = 0x11 then z 8 n
  else if typ = 0x20 then z 6 7 && z 72 n
  else if typ = 0x21 then z 6 7 && z 20 23
  else if typ = 0x30 then z 4 7
  else if typ = 0x40 then z 7 7 && z 26 n
  else if typ = 0xF0 then z 16 n
  else if typ = 0xFE then z 0 n
  else true

/-- Check 3 of a whole record. -/
def formOk (h : OxHdr) (x : List Byte) : Bool :=
  decide (fieldAt x 7 1 = 1) && streamOk h.typ h.stream && decide (h.len = 8 * ((44 + h.plen + 7) / 8))
    && zeroBytes x 36 39 && zeroBytes x 30 31 && zeroBytes x (40 + h.plen) (h.len - 5)
    && payloadZero h.typ ((x.drop 40).take h.plen)

/-! ### Waiting, sync loss, skipping (R379, R380) -/

/-- The decoder waits (R289). -/
def State.decWait (s : State) : State :=
  { (s.orReg (regDt 4) 4) with rcd := { s.rcd with starved := some (s.rcd.starved.getD s.ticks) } }

/-- Sync loss (R380). -/
def State.syncLoss (s : State) : State :=
  (((s.decWait.setFld (regDc 0) 3 3 1).setReg (regDc 0xC) (BitVec.ofNat 32 s.rrd)).sendEv decSrc 0x60 0)

/-- RRD passes over a record. -/
def State.ringPass (s : State) (n : Nat) : State :=
  { (s.setReg (regDt 0x18) (BitVec.ofNat 32 ((s.rrd + n) % max 1 s.ringSize))) with
    rcd := { s.rcd with starved := none, starveSent := false } }

/-- A record that fails a check is counted and noted. -/
def State.recBad (s : State) : State := (s.bump (regDc 8) 31 0 1).setReg (regDc 0xC) (BitVec.ofNat 32 s.rrd)

/-- A record is skipped under check 2 or 3, with the effect of a gap. -/
def State.recSkip (s : State) (n bit kind : Nat) : State :=
  let s := ((s.recBad).orReg (regDc 0) bit).sendLimited decSrc kind 0
  { s with rcd := { s.rcd with gaps := s.rcd.gaps ++ [s.rcd.expect.getD 0] } }.ringPass n

/-! ### Pacing and verdicts (R289, R381) -/

/-- May a record with this stamp be released now? A raw tick is 2 ns (R402). -/
def State.paced (s : State) (time : Nat) : Bool :=
  match s.rcd.first with
  | none => true
  | some (t0, k0) => decide (s.fld (regDt 0) 3 3 = 1) || decide (time - t0 ≤ (s.ticks - k0) * 2 * oneNs)

/-- A verdict that is not known yet, or is: pass or the cause of a drop. -/
inductive Verdict where
  | unknown
  | known (cause : Option Nat)
  deriving DecidableEq, Repr

/-- The scan of record headers ahead of the release point for the Weir record that names an input. `fuel`: one a record. -/
def State.scan (s : State) (stream frame index limit : Nat) : Nat → Nat → Verdict
  | 0, _ => .unknown
  | fuel + 1, a =>
    let a := if s.ringSize - a < 48 then 0 else a
    let h := oxHdr a (s.ringLook a 40)
    if s.ringAvail a < 48 then .unknown
    else if !s.lenOk h then .known none
    else if s.ringAvail a < h.len then .unknown
    else
      let x := s.ringLook a h.len
      let next := (a + h.len) % max 1 s.ringSize
      if !crcOk x || !formOk h x || decide (h.typ = 0xFE) then State.scan s stream frame index limit fuel next
      else if limit < h.time then .known none
      else
        let p := x.drop 40
        if h.typ = 0x40 ∧ h.stream = stream ∧ fieldAt p 0 4 = frame ∧ fieldAt p 4 2 = index then .known (some (fieldAt p 6 1))
        else State.scan s stream frame index limit fuel next

/-- The verdict on an input that the record after offset `a` follows. -/
def State.verdict (s : State) (b : BufItem) (a : Nat) : Verdict :=
  s.scan b.stream b.frame b.index (b.stamp + max 1 (s.fld (regWr (0x100 + 4 * b.stream)) 15 0) * 10000 * oneNs)
    (s.ringSize / 48 + 2) (a % max 1 s.ringSize)

/-- Does an input fit its port buffer (R371)? -/
def State.bufFits (s : State) (b : BufItem) : Bool :=
  let p := portOf b.stream
  decide ((s.buf p).foldl (fun a y => a + y.size) 0 + b.size ≤ (if p < 16 then 512 * 1024 else 256 * 1024))

/-! ### Release -/

/-- The port-buffer input that a CAM-LINES or ETH-FRAME record holds, without its verdict. -/
def State.inputOf (s : State) (h : OxHdr) (p : List Byte) (cap : Nat) : Option BufItem :=
  if h.typ = 2 then
    let c := s.cam h.stream
    some { kind := .group, stream := h.stream, frame := fieldAt p 0 4, first := fieldAt p 4 2, n := fieldAt p 6 2,
           index := c.gIndex, bytes := p.drop 16, stamp := h.time, cap := cap, status := 0, off := 0, verdict := none }
  else if h.typ = 8 ∧ h.stream < 96 then
    some { kind := .packet, stream := h.stream, frame := fieldAt p 4 4, first := 0, n := 0, index := 0xFFFF,
           bytes := p.drop 8, stamp := h.time, cap := cap, status := 0, off := fieldAt p 2 2, verdict := none }
  else none

/-- The effect of a released record on what reads it (R287). -/
def State.apply (s : State) (h : OxHdr) (p : List Byte) (cap : Nat) (v : Option Nat) : State :=
  let x := h.stream
  match h.typ with
  | 0x01 => (s.setCam x { CamSt.reset with isOpen := true, frame := BitVec.ofNat 32 (fieldAt p 0 4) }).camShow (x / 4)
  | 0x02 =>
    match s.inputOf h p cap with
    | none => s
    | some b =>
      let c := s.cam x
      let s := s.setCam x { c with gIndex := c.gIndex + 1, lines := b.first + b.n, gFirst := b.first + b.n }
      let s := if x % 4 = 0 then
          s.gaugeSee [2] (x / 4) (fun q => decide (b.first < q ∧ q ≤ b.first + b.n)) h.time cap false
        else s
      (if c.dropped then s else s.enterBuf { b with verdict := v }).camShow (x / 4)
  | 0x04 =>
    let c := s.cam x
    let st := if c.flags = 0 then fieldAt p 4 4 else (fieldAt p 4 4 ||| c.flags) % 2 ^ 31
    let s := s.setCam x { c with isOpen := false, flags := 0, lines := 0, gFirst := 0, gIndex := 0, dropped := false }
    let s := s.setReg (regAp (x / 4) 0x18) (BitVec.ofNat 32 st)
    let s := if x % 4 = 0 then s.gaugeSee [2] (x / 4) (fun q => decide (c.lines < q)) h.time cap true else s
    let b : BufItem :=
    { kind := .close, stream := x, frame := fieldAt p 0 4, first := 0, n := 0, index := 0, bytes := [], stamp := h.time,
      cap := cap, status := st, off := 0, verdict := none }
    (s.setBuf (x / 4) (s.buf (x / 4) ++ [b])).camShow (x / 4)
  | 0x08 =>
    match s.inputOf h p cap with
    | none => s
    | some b => s.enterBuf { b with verdict := v }
  | 0x21 => { s with hostBytes := s.hostBytes ++ [⟨x - 256, fieldAt p 0 6, fieldAt p 8 8, (p.drop 24).take (fieldAt p 16 4)⟩] }
  | 0x30 =>
    let m := (p.drop 8).take (fieldAt p 0 4)
    if twOp m = 0x10 ∨ twOp m = 0x13 then (s.twRun 0 m false true).2.2 else s
  | _ => s

/-- Release a record that passed its checks: replay time, numbering, chain, and its effect. -/
def State.releaseRec (s : State) (h : OxHdr) (x : List Byte) (v : Option Nat) : State :=
  let p := (x.drop 40).take h.plen
  let want := s.rcd.expect.getD h.seq
  let late := decide (want < h.seq)
  let s := if late then ((s.orReg (regDc 0) 4).setReg (regDc 0xC) (BitVec.ofNat 32 s.rrd)).sendLimited decSrc 0x63 0 else s
  let cap := s.rcd.nextId
  let chain := chainNext s.rcd.chain x
  let e : RecEntry := ⟨h.seq, cap, h.time, h.stream, chain⟩
  let gaps := if late ∨ h.typ = 0xF0 then s.rcd.gaps ++ [want] else s.rcd.gaps
  let s :=
  { s with
    replayTime := h.time,
    rcd := { s.rcd with
      next := (h.seq + 1) % 2 ^ 64,
      expect := some ((h.seq + 1) % 2 ^ 64),
      chain := chain,
      gaps := gaps,
      hist := s.rcd.hist ++ [e],
      first := some (s.rcd.first.getD (h.time, s.ticks)) } }
  let s := s.ringPass h.len
  if h.typ = 0x20 ∧ s.ctxState (h.stream - 256) = 1 then
    (s.acceptWith (h.stream - 256) (fieldAt p 0 6) h.time ((p.drop 8).take 64)).keepCount (h.stream - 256)
  else ({ s with rcd := { s.rcd with nextId := cap + 1 } }).apply h p cap v

/-- May a record's input be taken: a buffer with space and a known verdict, and for a descriptor the conditions of R339. -/
def State.takes (s : State) (h : OxHdr) (x : List Byte) : Verdict :=
  let p := (x.drop 40).take h.plen
  if h.typ = 0x20 ∧ s.ctxState (h.stream - 256) = 1 ∧ (s.mayAccept (h.stream - 256) = false ∨ s.decodeFull ((p.drop 8).take 64) = true) then .unknown
  else
    match s.inputOf h p 0 with
    | none => .known none
    | some b => if s.bufFits b then s.verdict b (h.at_ + h.len) else .unknown

/-- Is the verdict that holds a record back the one of a scan that reached RWR? -/
def State.scanStarved (s : State) (h : OxHdr) (x : List Byte) : Bool :=
  match s.inputOf h ((x.drop 40).take h.plen) 0 with
  | none => false
  | some b => s.bufFits b

/-- RECORD_RELEASE: the decoder checks the record at RRD in the order of Table 13.4 and releases, skips or passes it, or
waits. -/
def doRecordRelease (s : State) : State :=
  if s.mode ≠ 2 ∨ s.fld (regDc 0) 3 3 = 1 then s
  else
    let s := if s.rrd ≠ s.rwr ∧ s.rrd < s.ringSize ∧ s.ringSize - s.rrd < 48 then s.setReg (regDt 0x18) 0 else s
    let h := oxHdr s.rrd (s.ringLook s.rrd 40)
    if s.ringAvail s.rrd < 48 ∨ s.ringAvail s.rrd < h.len then s.decWait
    else if !s.lenOk h then s.syncLoss
    else
      let (xs, s) := ({ s with actor := [s.ringCtx] }).hubRead 0 (s.ringBase + s.rrd) h.len
      let s := { s with actor := [] }
      let x := xs.map (fun b => b.1)
      if (xs.take 4).any (fun b => b.2) then s.syncLoss
      else if xs.any (fun b => b.2) || !crcOk x then s.recSkip h.len 1 0x61
      else if !formOk h x then s.recSkip h.len 2 0x62
      else if h.typ = 0xFE then s.ringPass h.len
      else if h.seq < s.rcd.expect.getD h.seq then s.recBad.ringPass h.len
      else if !s.paced h.time then s
      else
        match s.takes h x with
        | .unknown => if s.scanStarved h x then s.decWait else s
        | .known v => s.releaseRec h x v

/-- REPLAY_STARVED: replay has waited more than 1 ms for a record (R295); said once a wait. -/
def doReplayStarved (s : State) : State :=
  match s.rcd.starved with
  | none => s
  | some t =>
    if s.mode = 2 ∧ t + ticksPerMs < s.ticks ∧ s.rcd.starveSent = false then
      { s with rcd := { s.rcd with starveSent := true } }.sendEv 0xA00 0x33 0
    else s

/-! ### Recorded inputs of the time base and the Towpath port -/

/-- PPS_EDGE as the pin sees it: every edge is counted and recorded, then goes to the monitor. -/
def doPpsInput (p high : Nat) (s : State) : State :=
  if s.mode = 2 then s
  else
    let n := s.sens.ppsEdges + 1
    let s := { s with sens := { s.sens with ppsEdges := n } }
    doPpsEdge p high (s.capture 105 0x11 (s.stampAt p) (leBytes 8 n)).2

/-- LAUNCH_SEND with the record of a gPTP message that it sends. -/
def doLaunchFrame (q p : Nat) (s : State) : State :=
  match s.time.launch.get q [] with
  | [] => s
  | e :: _ =>
    let bs := s.bytes (memKey 2 e.buf) e.len
    let (et, _, o) := etherOf bs
    let t := doLaunchSend q p s
    if et = 0x88F7 ∧ s.mode ≠ 2 ∧ s.lqLink q = true ∧ (e.imm = true ∨ e.time ≤ s.now + 8 * oneNs) then
      let carr := s.fld (if q < 4 then regLp q 0x10 else regTw 0x10) 15 0
      t.ptpRecord (100 + q) 1 (s.stampAt p - (s.fld (regLq q 0x24) 31 16 + carr) * oneNs / 64) (bs.drop o)
    else t

/-- A frame on the Towpath port that is no management request: FCS and length, and gPTP messages (Table 13.2). -/
def State.twEth (s : State) (fcsOk : Bool) (bs : List Byte) (ago : Nat) : State :=
  if s.fld (regTw 0) 0 0 = 0 then s
  else if fcsOk = false ∨ bs.length + 4 < 64 ∨ 9022 < bs.length + 4 then s.bump (regTw 4) 31 16 1
  else
    let s := s.count (regTw 4) 15 0
    let (et, _, o) := etherOf bs
    if et = 0x88F7 ∧ s.mode ≠ 2 then s.ptpRecord 104 0 (s.mediumStamp (regTw 0x10) ago) (bs.drop o) else s

/-- ETH_FRAME: ports 0 to 3 are lidar ports, 4 the Towpath (log entry 31). -/
def doEthInput (p : Nat) (fcsOk : Bool) (bs : List Byte) (ago : Nat) (s : State) : State :=
  if p < 4 then doEthFrame p fcsOk bs ago s else if p = 4 then s.twEth fcsOk bs ago else s

/-- ACCEPT, with the watch on the sequence-number space (R342). -/
def doAcceptKeep (c : Nat) (ok : Bool) (d : List Byte) (p : Nat) (s : State) : State := (doAccept c ok d p s).keepCount c

end Sys2Proof.Machine
end

