-- ==== Sys2Proof/Machine/ControlCmds.lean ====
section
/-! DEFINITION. Meanings of the commands: control operations and the sequencer (spec/07). -/

namespace Sys2Proof.Machine

/-- START_RECORD (R216). -/
def execStartRecord (c : Nat) (r : StartRecord) (s : State) : Host.Outcome State Fault Refusal :=
  answer (below 64 c) (doStartRecord c r s)

/-- NOP (R227). -/
def execNop (c op : Nat) (s : State) : Host.Outcome State Fault Refusal :=
  answer (below 64 c && below (2 ^ 32) op) (doNop c op s)

/-- SETL (R227). -/
def execSetl (c op : Nat) (s : State) : Host.Outcome State Fault Refusal :=
  answer (below 64 c && below (2 ^ 32) op) (doSetl c op s)

/-- SETH (R227). -/
def execSeth (c op : Nat) (s : State) : Host.Outcome State Fault Refusal :=
  answer (below 64 c && below (2 ^ 32) op) (doSeth c op s)

/-- ADDI (R227). -/
def execAddi (c op : Nat) (s : State) : Host.Outcome State Fault Refusal :=
  answer (below 64 c && below (2 ^ 32) op) (doAddi c op s)

/-- LDA (R227). -/
def execLda (c op : Nat) (s : State) : Host.Outcome State Fault Refusal :=
  answer (below 64 c && below (2 ^ 32) op) (doLda c op s)

/-- STEP (R224). -/
def execStep (c op : Nat) (s : State) : Host.Outcome State Fault Refusal :=
  answer (below 64 c && below (2 ^ 32) op) (doStep c op s)

/-- LSET (R227). -/
def execLset (c op : Nat) (s : State) : Host.Outcome State Fault Refusal :=
  answer (below 64 c && below (2 ^ 32) op) (doLset c op s)

/-- BLOOP (R227). -/
def execBloop (c op : Nat) (s : State) : Host.Outcome State Fault Refusal :=
  answer (below 64 c && below (2 ^ 32) op) (doBloop c op s)

/-- BR (R228). -/
def execBr (c op : Nat) (s : State) : Host.Outcome State Fault Refusal :=
  answer (below 64 c && below (2 ^ 32) op) (doBr c op s)

/-- WAITC (R229). -/
def execWaitc (c op : Nat) (s : State) : Host.Outcome State Fault Refusal :=
  answer (below 64 c && below (2 ^ 32) op) (doWaitc c op s)

/-- WAITC_RELEASE (R229). -/
def execWaitcRelease (c : Nat) (s : State) : Host.Outcome State Fault Refusal :=
  answer (below 64 c) (doWaitcRelease c s)

/-- WAITG (R421). -/
def execWaitg (c op : Nat) (s : State) : Host.Outcome State Fault Refusal :=
  answer (below 64 c && below (2 ^ 32) op) (doWaitg c op s)

/-- WAITG_RELEASE (R421). -/
def execWaitgRelease (c t : Nat) (s : State) : Host.Outcome State Fault Refusal :=
  answer (below 64 c) (doWaitgRelease c t s)

/-- WAITX (R267). -/
def execWaitx (c op : Nat) (s : State) : Host.Outcome State Fault Refusal :=
  answer (below 64 c && below (2 ^ 32) op) (doWaitx c op s)

/-- WAITX_RELEASE (R267). -/
def execWaitxRelease (c : Nat) (s : State) : Host.Outcome State Fault Refusal :=
  answer (below 64 c) (doWaitxRelease c s)

/-- WAITB (R227). -/
def execWaitb (c op : Nat) (s : State) : Host.Outcome State Fault Refusal :=
  answer (below 64 c && below (2 ^ 32) op) (doWaitb c op s)

/-- WAITB_RELEASE (R176). -/
def execWaitbRelease (c t : Nat) (s : State) : Host.Outcome State Fault Refusal :=
  answer (below 64 c) (doWaitbRelease c t s)

/-- BAR (R230). -/
def execBar (c op : Nat) (s : State) : Host.Outcome State Fault Refusal :=
  answer (below 64 c && below (2 ^ 32) op) (doBar c op s)

/-- BAR_RELEASE (R265). -/
def execBarRelease (c n : Nat) (s : State) : Host.Outcome State Fault Refusal :=
  answer (below 64 c) (doBarRelease c n s)

/-- FENCE (R227). -/
def execFence (c op : Nat) (s : State) : Host.Outcome State Fault Refusal :=
  answer (below 64 c && below (2 ^ 32) op) (doFence c op s)

/-- FENCE_RELEASE (R227). -/
def execFenceRelease (c : Nat) (s : State) : Host.Outcome State Fault Refusal :=
  answer (below 64 c) (doFenceRelease c s)

/-- FLAGCLR (R74). -/
def execFlagclr (c op : Nat) (s : State) : Host.Outcome State Fault Refusal :=
  answer (below 64 c && below (2 ^ 32) op) (doFlagclr c op s)

/-- END (R227). -/
def execEndProgram (c op : Nat) (s : State) : Host.Outcome State Fault Refusal :=
  answer (below 64 c && below (2 ^ 32) op) (doEnd c op s)

/-- END_COMPLETION (R227). -/
def execEndCompletion (c : Nat) (s : State) : Host.Outcome State Fault Refusal :=
  answer (below 64 c) (doEndCompletion c s)

/-- WAIT_TIMEOUT (R230). -/
def execWaitTimeout (c : Nat) (s : State) : Host.Outcome State Fault Refusal :=
  answer (below 64 c) (doWaitTimeout c s)

end Sys2Proof.Machine
end

