-- ==== Sys2Proof/Machine/CopyCmds.lean ====
section
/-! DEFINITION. Meanings of the commands: copies, service access, windows (spec/08). -/

namespace Sys2Proof.Machine

/-- CP_RUN (R240). -/
def execCpRun (c slot : Nat) (inbound : Bool) (op : Nat) (s : State) : Host.Outcome State Fault Refusal :=
  answer (below 64 c && isSlot slot && below (2 ^ 32) op) (doCpRun c slot inbound op s)

/-- PULL_LANDING (R267). -/
def execPullLanding (c tag gen landed : Nat) (ok : Bool) (host : List Byte) (s : State) : Host.Outcome State Fault Refusal :=
  answer (below 64 c && below 16 tag && below 256 gen) (doPullLanding c tag gen landed ok host s)

/-- PULL_COMMIT (R267). -/
def execPullCommit (c : Nat) (s : State) : Host.Outcome State Fault Refusal := answer (below 64 c) (doPullCommit c s)

/-- OUTBOUND_COMPLETE (R266). -/
def execOutboundComplete (c tag t : Nat) (s : State) : Host.Outcome State Fault Refusal :=
  answer (below 64 c && below 16 tag) (doOutboundComplete c tag t s)

/-- MCAST_PULL (R269). -/
def execMcastPull (mask : Nat) (ok : Bool) (host : List Byte) (s : State) : Host.Outcome State Fault Refusal :=
  answer (below (2 ^ 64) mask) (doMcastPull mask ok host s)

/-- COPY_DEADLINE (R281). -/
def execCopyDeadline (c tag : Nat) (s : State) : Host.Outcome State Fault Refusal :=
  answer (below 64 c && below 16 tag) (doCopyDeadline c tag s)

/-- SERVICE_ACCESS (R271). -/
def execServiceAccess (c w : Nat) (data : Option (List Byte)) (s : State) : Host.Outcome State Fault Refusal :=
  answer (below 64 c && below (2 ^ 17) w && isWordData data) (doServiceAccess c w data s)

/-- CL_MEMCLR (R251). -/
def execClMemclr (c : Nat) (s : State) : Host.Outcome State Fault Refusal := answer (below 64 c) (doClMemclr c s)

/-- WINDOW_ENABLE (R256). -/
def execWindowEnable (c w : Nat) (v : Word32) (s : State) : Host.Outcome State Fault Refusal :=
  answer (below 256 c && below 17 w) (doWindowEnable c w v s)

end Sys2Proof.Machine
end

