-- ==== Sys2Proof/Machine/FaultCmds.lean ====
section
/-! DEFINITION. Meanings of the commands: the fault collector (spec/16). -/

namespace Sys2Proof.Machine

/-- FAULT_MESSAGE (R463). -/
def execFaultMessage (src : Nat) (ok : Bool) (raw : Option Word64) (s : State) : Host.Outcome State Fault Refusal :=
  answer (below (2 ^ 12) src) (doFaultMessage src ok raw s)

/-- KEEP_ALIVE (R460). -/
def execKeepAlive (src : Nat) (s : State) : Host.Outcome State Fault Refusal :=
  answer (below (2 ^ 12) src) (doKeepAlive src s)

/-- FC_ACK (R466). -/
def execFcAck (v : Word32) (s : State) : Host.Outcome State Fault Refusal := answer true (doFcAck v s)

/-- ACK_DEADLINE (R468). -/
def execAckDeadline (slot : Nat) (s : State) : Host.Outcome State Fault Refusal :=
  answer (below 256 slot) (doAckDeadline slot s)

/-- FC_FENCECMD_FENCE (R477). -/
def execFcFence (unit : Nat) (s : State) : Host.Outcome State Fault Refusal :=
  answer (below (2 ^ 12) unit) (doFenceCmd unit s)

/-- RETURN_TO_SERVICE (R531). -/
def execReturnToService (unit : Nat) (fails : List (Nat × Nat)) (s : State) : Host.Outcome State Fault Refusal :=
  answer (below (2 ^ 12) unit) (doReturnToService unit fails s)

/-- FC_SEV (R461). -/
def execFcSev (off : Nat) (v : Word32) (s : State) : Host.Outcome State Fault Refusal :=
  answer (below (2 ^ 32) off) (doFcSev off v s)

/-- PINTH_WRITE (R469). -/
def execPinthWrite (v : Word32) (s : State) : Host.Outcome State Fault Refusal := answer true (doPinthWrite v s)

/-- TOWPATH_REPORT (R475). -/
def execTowpathReport (s : State) : Host.Outcome State Fault Refusal := answer true (doTowpathReport s)

/-- HISTORY_WRITE (R478). -/
def execHistoryWrite (s : State) : Host.Outcome State Fault Refusal := answer true (doHistoryWrite s)

/-- OPERATING_HOURS (R479). -/
def execOperatingHours (s : State) : Host.Outcome State Fault Refusal := answer true (doOperatingHours s)

end Sys2Proof.Machine
end

