-- ==== Sys2Proof/Machine/HbmCmds.lean ====
section
/-! DEFINITION. Meanings of the commands: the HBM controllers (spec/10). -/

namespace Sys2Proof.Machine

/-- PIECE_ARRIVAL (R302). -/
def execPieceArrival (off n : Nat) (wr : Bool) (s : State) : Host.Outcome State Fault Refusal :=
  answer true (doPieceArrival off n wr s)

/-- DATA_TURN (R303). -/
def execDataTurn (t : Nat) (s : State) : Host.Outcome State Fault Refusal := answer (below 64 t) (doDataTurn t s)

/-- NORMAL_SERVE (R306). -/
def execNormalServe (pc : Nat) (s : State) : Host.Outcome State Fault Refusal :=
  answer (below 64 pc) (doNormalServe pc s)

/-- REF_TURN (R308). -/
def execRefTurn (t : Nat) (s : State) : Host.Outcome State Fault Refusal := answer (below 64 t) (doRefTurn t s)

/-- TRR_TURN (R310). -/
def execTrrTurn (t : Nat) (s : State) : Host.Outcome State Fault Refusal := answer (below 64 t) (doTrrTurn t s)

/-- SCRUB_TURN (R313). -/
def execScrubTurn (t : Nat) (s : State) : Host.Outcome State Fault Refusal := answer (below 64 t) (doScrubTurn t s)

/-- HBM_LINK_RETRY (R316). -/
def execHbmLinkRetry (pc : Nat) (s : State) : Host.Outcome State Fault Refusal :=
  answer (below 64 pc) (doHbmLinkRetry pc s)

/-- HBM_TEMP_READ (R317). -/
def execHbmTempRead (st : Nat) (temp : Int) (s : State) : Host.Outcome State Fault Refusal :=
  answer (below 2 st) (doHbmTempRead st temp s)

/-- SRENTER (R320). -/
def execSrenter (s : State) : Host.Outcome State Fault Refusal := answer true (doSrenter s)

/-- SREXIT (R321). -/
def execSrexit (s : State) : Host.Outcome State Fault Refusal := answer true (doSrexit s)

/-- GO (R319). -/
def execHbmGo (st : Nat) (failPc : Option Nat) (s : State) : Host.Outcome State Fault Refusal :=
  answer (below 2 st && isFailPc failPc) (doGo st failPc s)

/-- HB_CAL (R301). -/
def execHbCal (t v : Nat) (s : State) : Host.Outcome State Fault Refusal :=
  answer (below 64 t && below (2 ^ 32) v) (doHbCal t v s)

/-- HB_PAIRCLS (R298). -/
def execHbPaircls (q v : Nat) (s : State) : Host.Outcome State Fault Refusal :=
  answer (below 3 q && below (2 ^ 32) v) (doHbPaircls q v s)

end Sys2Proof.Machine
end

