-- ==== Sys2Proof/Machine/HostCmds.lean ====
section
/-! DEFINITION. Meanings of the commands: the host interface (spec/11). -/

namespace Sys2Proof.Machine

/-- SQ_TAIL (R333). -/
def execSqTail (c : Nat) (v : BitVec 16) (s : State) : Host.Outcome State Fault Refusal :=
  answer (below 256 c) (doSqTail c v s)

/-- CQ_HEAD (R333). -/
def execCqHead (c : Nat) (v : BitVec 16) (s : State) : Host.Outcome State Fault Refusal :=
  answer (below 256 c) (doCqHead c v s)

/-- ACCEPT (R340). -/
def execAccept (c : Nat) (ok : Bool) (d : List Byte) (p : Nat) (s : State) : Host.Outcome State Fault Refusal :=
  answer (below 256 c && below (2 ^ 16) d.length && below 16 p) (doAcceptKeep c ok d p s)

/-- DESCRIPTOR_NOP (R334). -/
def execDescriptorNop (c seq : Nat) (s : State) : Host.Outcome State Fault Refusal :=
  answer (below 256 c && below (2 ^ 48) seq) (doDescriptorNop c seq s)

/-- LOADP (R338). -/
def execLoadp (c seq : Nat) (s : State) : Host.Outcome State Fault Refusal :=
  answer (below 256 c && below (2 ^ 48) seq) (doLoadp c seq s)

/-- LOADW (R338). -/
def execLoadw (c seq : Nat) (s : State) : Host.Outcome State Fault Refusal :=
  answer (below 256 c && below (2 ^ 48) seq) (doLoadw c seq s)

/-- RUN (R338). -/
def execRun (c seq t : Nat) (s : State) : Host.Outcome State Fault Refusal :=
  answer (below 256 c && below (2 ^ 48) seq) (doRun c seq t s)

/-- COPY (R336). -/
def execCopy (c seq : Nat) (s : State) : Host.Outcome State Fault Refusal :=
  answer (below 256 c && below (2 ^ 48) seq) (doCopy c seq s)

/-- DECODE (R172). -/
def execDecode (c seq : Nat) (row : Option (List (Byte × Bool))) (s : State) : Host.Outcome State Fault Refusal :=
  answer (below 256 c && below (2 ^ 48) seq) (doDecode c seq row s)

/-- KVOP_SHARE (R334). -/
def execKvopShare (c seq : Nat) (s : State) : Host.Outcome State Fault Refusal :=
  answer (below 256 c && below (2 ^ 48) seq) (doKvopShare c seq s)

/-- KVOP_RELEASE (R334). -/
def execKvopRelease (c seq : Nat) (s : State) : Host.Outcome State Fault Refusal :=
  answer (below 256 c && below (2 ^ 48) seq) (doKvopRelease c seq s)

/-- KVOP_TRUNCATE (R334). -/
def execKvopTruncate (c seq : Nat) (s : State) : Host.Outcome State Fault Refusal :=
  answer (below 256 c && below (2 ^ 48) seq) (doKvopTruncate c seq s)

/-- DISARM (R349). -/
def execDisarm (c seq : Nat) (s : State) : Host.Outcome State Fault Refusal :=
  answer (below 256 c && below (2 ^ 48) seq) (doDisarm c seq s)

/-- OUTCOME_RECORD (R344). -/
def execOutcomeRecord (c : Nat) (s : State) : Host.Outcome State Fault Refusal :=
  answer (below 256 c) (doOutcomeRecord c s)

/-- MSIX_HOLDOFF_EXPIRY (R328). -/
def execMsixHoldoffExpiry (v : Nat) (s : State) : Host.Outcome State Fault Refusal :=
  answer (below 257 v) (doMsixHoldoffExpiry v s)

/-- ENABLE (R331). -/
def execEnable (c : Nat) (s : State) : Host.Outcome State Fault Refusal := answer (below 256 c) (doEnable c s)

/-- DISABLE (R330). -/
def execDisable (c : Nat) (s : State) : Host.Outcome State Fault Refusal := answer (below 256 c) (doDisable c s)

/-- ABORT (R343). -/
def execAbort (c : Nat) (s : State) : Host.Outcome State Fault Refusal := answer (below 256 c) (doAbort c s)

/-- CONTEXT_RESET (R330). -/
def execContextReset (c : Nat) (s : State) : Host.Outcome State Fault Refusal :=
  answer (below 256 c) (doContextReset c s)

/-- HOST_LOSS (R343). -/
def execHostLoss (kind : Nat) (s : State) : Host.Outcome State Fault Refusal :=
  answer (below 3 kind) (doHostLoss kind s)

/-- D3HOT_ENTRY (R345). -/
def execD3hotEntry (s : State) : Host.Outcome State Fault Refusal := answer true (doD3hotEntry s)

/-- D0_RETURN (R345). -/
def execD0Return (s : State) : Host.Outcome State Fault Refusal := answer true (doD0Return s)

/-- HOST_TRANSFER_COMPLETE (R338). -/
def execHostTransferComplete (c seq : Nat) (ok : Bool) (data : List Byte) (s : State) : Host.Outcome State Fault Refusal :=
  answer (below 256 c && below (2 ^ 48) seq) (doHostTransferComplete c seq ok data s)

/-- PCIE_LINK_UP (R343). -/
def execPcieLinkUp (s : State) : Host.Outcome State Fault Refusal := answer true (doPcieLinkUp s)

/-- RD_READY (R293). -/
def execRdReady (c seq no : Nat) (s : State) : Host.Outcome State Fault Refusal :=
  answer (below 256 c && below (2 ^ 48) seq) (doRdReady c seq no s)

end Sys2Proof.Machine
end

