-- ==== Sys2Proof/Machine/KvCmds.lean ====
section
/-! DEFINITION. Meanings of the commands: the KV page manager and the decode batcher (spec/05). -/

namespace Sys2Proof.Machine

/-- KV_WRITE (R168). -/
def execKvWrite (c tag : Nat) (s : State) : Host.Outcome State Fault Refusal :=
  answer (below 64 c && below 16 tag) (doKvWrite c tag s)

/-- KV_SHARE (R169). -/
def execKvShare (src shg stb dst dhg dtb n addr : Nat) (s : State) : Host.Outcome State Fault Refusal :=
  answer (below 256 src && below 64 shg && below 256 dst && below 64 dhg) (doKvShare src shg stb dst dhg dtb n addr s)

/-- KV_RELEASE (R167). -/
def execKvRelease (c hg tb n addr : Nat) (s : State) : Host.Outcome State Fault Refusal :=
  answer (below 256 c && below 64 hg) (doKvRelease c hg tb n addr s)

/-- KV_TRUNCATE (R167). -/
def execKvTruncate (c hg p addr : Nat) (s : State) : Host.Outcome State Fault Refusal :=
  answer (below 256 c && below 64 hg) (doKvTruncate c hg p addr s)

/-- KV_INIT (R165). -/
def execKvInit (s : State) : Host.Outcome State Fault Refusal := answer true (doKvInitWrite s)

/-- DECODE_WINDOW_CLOSE (R175). -/
def execDecodeWindowClose (b : Nat) (s : State) : Host.Outcome State Fault Refusal :=
  answer (below 16 b) (doDecodeWindowClose b s)

end Sys2Proof.Machine
end

