-- ==== Sys2Proof/Machine/MgmtCmds.lean ====
section
/-! DEFINITION. Meanings of the commands: management, the Towpath and firmware (spec/19). -/

namespace Sys2Proof.Machine

/-- LOCKSTEP (R534). -/
def execLockstep (u : Nat) (s : State) : Host.Outcome State Fault Refusal := answer (below 3 u) (doLockstep u s)

/-- MG_KICK (R534). -/
def execMgKick (q : Nat) (v : Word32) (s : State) : Host.Outcome State Fault Refusal :=
  answer (below 2 q) (doMgKick q v s)

/-- PAIR_WATCHDOG (R534). -/
def execPairWatchdog (q : Nat) (s : State) : Host.Outcome State Fault Refusal :=
  answer (below 2 q) (doPairWatchdog q s)

/-- PAIR_RESET_END (R534). -/
def execPairResetEnd (q : Nat) (s : State) : Host.Outcome State Fault Refusal :=
  answer (below 2 q) (doPairResetEnd q s)

/-- PAIR_TEST_END (R534). -/
def execPairTestEnd (q : Nat) (pass : Bool) (s : State) : Host.Outcome State Fault Refusal :=
  answer (below 2 q) (doPairTestEnd q pass s)

/-- MGT_WDOG (R536). -/
def execMgtWdog (s : State) : Host.Outcome State Fault Refusal := answer true (doMgtWdog s)

/-- MWDRST_RESET (R536). -/
def execMwdrstReset (s : State) : Host.Outcome State Fault Refusal := answer true (doMwdrstReset s)

/-- SHED_WINDOW (R538). -/
def execShedWindow (b0 b1 : Nat) (s : State) : Host.Outcome State Fault Refusal :=
  answer (below 101 b0 && below 101 b1) (doShedWindow b0 b1 s)

/-- TELEMETRY (R548). -/
def execTelemetry (s : State) : Host.Outcome State Fault Refusal := answer true (doTelemetry s)

/-- SPANREF (R580). -/
def execSpanref (list : Option (List (Nat × Nat × Nat × Nat))) (s : State) : Host.Outcome State Fault Refusal :=
  answer true (doSpanref list s)

/-- DUMPMOVE (R537). -/
def execDumpmove (s : State) : Host.Outcome State Fault Refusal := answer true (doDumpmove s)

/-- READ (R547). -/
def execRead (mac : Nat) (p : List Byte) (s : State) : Host.Outcome State Fault Refusal :=
  answer (below (2 ^ 48) mac && below (2 ^ 16) p.length) (doRead mac p s)

/-- ATTEST (R545). -/
def execAttest (mac : Nat) (p : List Byte) (s : State) : Host.Outcome State Fault Refusal :=
  answer (below (2 ^ 48) mac && below (2 ^ 16) p.length) (doAttest mac p s)

/-- CERT (R547). -/
def execCert (mac : Nat) (p : List Byte) (s : State) : Host.Outcome State Fault Refusal :=
  answer (below (2 ^ 48) mac && below (2 ^ 16) p.length) (doCert mac p s)

/-- CHALLENGE (R547). -/
def execChallenge (mac : Nat) (p : List Byte) (s : State) : Host.Outcome State Fault Refusal :=
  answer (below (2 ^ 48) mac && below (2 ^ 16) p.length) (doChallenge mac p s)

/-- WRITE (R547). -/
def execWrite (mac : Nat) (p : List Byte) (s : State) : Host.Outcome State Fault Refusal :=
  answer (below (2 ^ 48) mac && below (2 ^ 16) p.length) (doWrite mac p s)

/-- ACK (R466). -/
def execAck (mac : Nat) (p : List Byte) (s : State) : Host.Outcome State Fault Refusal :=
  answer (below (2 ^ 48) mac && below (2 ^ 16) p.length) (doAck mac p s)

/-- TOWPATH_RESET (R547). -/
def execTowpathReset (mac : Nat) (p : List Byte) (s : State) : Host.Outcome State Fault Refusal :=
  answer (below (2 ^ 48) mac && below (2 ^ 16) p.length) (doTowpathReset mac p s)

/-- CFGWRITE (R547). -/
def execCfgwrite (mac : Nat) (p : List Byte) (s : State) : Host.Outcome State Fault Refusal :=
  answer (below (2 ^ 48) mac && below (2 ^ 16) p.length) (doCfgwrite mac p s)

/-- DUMPREAD (R547). -/
def execDumpread (mac : Nat) (p : List Byte) (s : State) : Host.Outcome State Fault Refusal :=
  answer (below (2 ^ 48) mac && below (2 ^ 16) p.length) (doDumpread mac p s)

/-- FWCHUNK (R549). -/
def execFwchunk (mac : Nat) (p : List Byte) (s : State) : Host.Outcome State Fault Refusal :=
  answer (below (2 ^ 48) mac && below (2 ^ 16) p.length) (doFwchunk mac p s)

/-- FWCOMMIT (R549). -/
def execFwcommit (mac : Nat) (p : List Byte) (pass : Bool) (s : State) : Host.Outcome State Fault Refusal :=
  answer (below (2 ^ 48) mac && below (2 ^ 16) p.length) (doFwcommit mac p pass s)

/-- SVNBUMP (R547). -/
def execSvnbump (mac : Nat) (p : List Byte) (s : State) : Host.Outcome State Fault Refusal :=
  answer (below (2 ^ 48) mac && below (2 ^ 16) p.length) (doSvnbump mac p s)

/-- HISTCLEAR (R479). -/
def execHistclear (mac : Nat) (p : List Byte) (s : State) : Host.Outcome State Fault Refusal :=
  answer (below (2 ^ 48) mac && below (2 ^ 16) p.length) (doHistclear mac p s)

/-- OWNERKEY (R547). -/
def execOwnerkey (mac : Nat) (p : List Byte) (s : State) : Host.Outcome State Fault Refusal :=
  answer (below (2 ^ 48) mac && below (2 ^ 16) p.length) (doOwnerkey mac p s)

/-- MB_GO (R546). -/
def execMbGo (v : Word32) (s : State) : Host.Outcome State Fault Refusal := answer true (doMbGo v s)

/-- TW_CNTCLR (R593). -/
def execTwCntclr (s : State) : Host.Outcome State Fault Refusal := answer true (doTwCntclr s)

end Sys2Proof.Machine
end

