-- ==== Sys2Proof/Machine/PipelineCmds.lean ====
section
/-! DEFINITION. Meanings of the commands: the input pipeline, the recorder and the decoder (spec/09, spec/13). -/

namespace Sys2Proof.Machine

/-- LINE_GROUP_ADMISSION (R385). -/
def execLineGroupAdmission (port : Nat) (s : State) : Host.Outcome State Fault Refusal :=
  answer (below 16 port) (doLineGroupAdmission port s)

/-- STRIPE_READY (R391). -/
def execStripeReady (x : Nat) (s : State) : Host.Outcome State Fault Refusal :=
  answer (below 64 x) (doStripeReady x s)

/-- FRAME_CLOSE_EMIT (R393). -/
def execFrameCloseEmit (port : Nat) (s : State) : Host.Outcome State Fault Refusal :=
  answer (below 16 port) (doFrameCloseEmit port s)

/-- VIEW_ENABLE (R394). -/
def execViewEnable (v : Nat) (w : Word32) (s : State) : Host.Outcome State Fault Refusal :=
  answer (below 32 v) (doViewEnable v w s)

/-- MESH_LOAD (R400). -/
def execMeshLoad (v : Word32) (s : State) : Host.Outcome State Fault Refusal := answer true (doMeshLoad v s)

/-- LIDAR_BLOCK (R395). -/
def execLidarBlock (p : Nat) (s : State) : Host.Outcome State Fault Refusal := answer (below 4 p) (doLidarBlock p s)

/-- LIDAR_ENABLE (R400). -/
def execLidarEnable (x : Nat) (v : Word32) (s : State) : Host.Outcome State Fault Refusal :=
  answer (isLidarStream x) (doLidarEnable x v s)

/-- RECORD_CAPTURE (R284). -/
def execRecordCapture (s : State) : Host.Outcome State Fault Refusal := answer true (doRecordCapture s)

/-- RECORDING_RESUME (R286). -/
def execRecordingResume (s : State) : Host.Outcome State Fault Refusal := answer true (doRecordingResume s)

/-- RECORD_RELEASE (R379). -/
def execRecordRelease (s : State) : Host.Outcome State Fault Refusal := answer true (doRecordRelease s)

/-- DC_RESYNC (R380). -/
def execDcResync (off : Nat) (s : State) : Host.Outcome State Fault Refusal :=
  answer (below (2 ^ 32) off) (doDcResync off s)

/-- REPLAY_STARVED (R295). -/
def execReplayStarved (s : State) : Host.Outcome State Fault Refusal := answer true (doReplayStarved s)

/-- DT_CFG (R278). -/
def execDtCfg (off : Nat) (v : Word32) (s : State) : Host.Outcome State Fault Refusal :=
  answer (isDtReg off) (doDtCfg off v s)

end Sys2Proof.Machine
end

