-- ==== Sys2Proof/Machine/PowerCmds.lean ====
section
/-! DEFINITION. Meanings of the commands: power, heat and clocks (spec/20). -/

namespace Sys2Proof.Machine

/-- PW_OPREQ (R550). -/
def execPwOpreq (d : Nat) (v : Word32) (s : State) : Host.Outcome State Fault Refusal :=
  answer (below 4 d) (doPwOpreq d v s)

/-- OP_POINT_CHANGE (R550). -/
def execOpPointChange (d : Nat) (s : State) : Host.Outcome State Fault Refusal :=
  answer (below 4 d) (doOpPointChange d s)

/-- OP_REQUEST_TIMEOUT (R550). -/
def execOpRequestTimeout (d : Nat) (s : State) : Host.Outcome State Fault Refusal :=
  answer (below 4 d) (doOpRequestTimeout d s)

/-- POWER_UP (R553). -/
def execPowerUp (bulk input : Nat) (s : State) : Host.Outcome State Fault Refusal :=
  answer true (doPowerUp bulk input s)

/-- CHARGE_TIMEOUT (R553). -/
def execChargeTimeout (s : State) : Host.Outcome State Fault Refusal := answer true (doChargeTimeout s)

/-- VIN_UV (R554). -/
def execVinUv (v : Nat) (s : State) : Host.Outcome State Fault Refusal := answer (below (2 ^ 16) v) (doVinUv v s)

/-- VIN_UV_CLEAR (R554). -/
def execVinUvClear (v : Nat) (s : State) : Host.Outcome State Fault Refusal :=
  answer (below (2 ^ 16) v) (doVinUvClear v s)

/-- POWER_FAIL (R555). -/
def execPowerFail (v : Nat) (s : State) : Host.Outcome State Fault Refusal :=
  answer (below (2 ^ 16) v) (doPowerFail v s)

/-- VIN_OV (R554). -/
def execVinOv (v : Nat) (s : State) : Host.Outcome State Fault Refusal := answer (below (2 ^ 16) v) (doVinOv v s)

/-- DISCONNECT (R554). -/
def execDisconnect (v : Nat) (s : State) : Host.Outcome State Fault Refusal :=
  answer (below (2 ^ 16) v) (doDisconnect v s)

/-- STRETCH_WINDOW (R559). -/
def execStretchWindow (x : PowerSample) (s : State) : Host.Outcome State Fault Refusal :=
  answer true (doStretchWindow x s)

/-- POINT_LOWERING (R560). -/
def execPointLowering (d : Nat) (s : State) : Host.Outcome State Fault Refusal :=
  answer (below 4 d) (doPointLowering d s)

/-- DIE_HOT (R561). -/
def execDieHot (d n : Nat) (temp : Int) (s : State) : Host.Outcome State Fault Refusal :=
  answer (below 5 d && below 256 n) (doDieHot d n temp s)

/-- DIE_HOT_CLEAR (R561). -/
def execDieHotClear (d n : Nat) (temp : Int) (s : State) : Host.Outcome State Fault Refusal :=
  answer (below 5 d && below 256 n) (doDieHotClear d n temp s)

/-- DIE_OVERTEMP (R561). -/
def execDieOvertemp (d n : Nat) (temp : Int) (s : State) : Host.Outcome State Fault Refusal :=
  answer (below 5 d && below 256 n) (doDieOvertemp d n temp s)

/-- STANDBY_ENTRY (R562). -/
def execStandbyEntry (s : State) : Host.Outcome State Fault Refusal := answer true (doStandbyEntry s)

/-- STANDBY_EXIT (R562). -/
def execStandbyExit (s : State) : Host.Outcome State Fault Refusal := answer true (doStandbyExit s)

/-- REGION_GATING (R563). -/
def execRegionGating (r : Nat) (s : State) : Host.Outcome State Fault Refusal :=
  answer (below 16 r) (doRegionGating r s)

/-- CLK_MON (R567). -/
def execClkMon (m count : Nat) (ok lost : Bool) (s : State) : Host.Outcome State Fault Refusal :=
  answer (below 40 m) (doClkMon m count ok lost s)

/-- OSC_FAIL (R569). -/
def execOscFail (n : Nat) (ppm : Int) (s : State) : Host.Outcome State Fault Refusal :=
  answer (below 3 n) (doOscFail n ppm s)

/-- CLK_OSC (R565). -/
def execClkOsc (v : Word32) (s : State) : Host.Outcome State Fault Refusal := answer true (doClkOsc v s)

/-- VR_FAULT (R576). -/
def execVrFault (d rail : Nat) (s : State) : Host.Outcome State Fault Refusal :=
  answer (below 5 d && below 256 rail) (doVrFault d rail s)

end Sys2Proof.Machine
end

