-- ==== Sys2Proof/Machine/RegisterCmds.lean ====
section
/-! DEFINITION. Meanings of the commands: set-up registers and the Span Table (spec/21). -/

namespace Sys2Proof.Machine

/-- FMAP_READ (R582). -/
def execFmapRead (k : Nat) (s : State) : Host.Outcome State Fault Refusal := answer (below 24 k) (doFmapRead k s)

/-- REGISTER_WRITE (R588). -/
def execRegisterWrite (off : Nat) (v : Word32) (whole : Bool) (s : State) : Host.Outcome State Fault Refusal :=
  answer (isRegOff off) (doRegisterWrite off v whole s)

end Sys2Proof.Machine
end

