-- ==== Sys2Proof/Machine/ResetCmds.lean ====
section
/-! DEFINITION. Meanings of the commands: resets, dumps and re-execution (spec/18). -/

namespace Sys2Proof.Machine

/-- CLUSTER_RESET (R517). -/
def execClusterReset (c : Nat) (s : State) : Host.Outcome State Fault Refusal :=
  answer (below 64 c) (doClusterReset c s)

/-- REGION_RESET (R518). -/
def execRegionReset (r : Nat) (s : State) : Host.Outcome State Fault Refusal :=
  answer (below 16 r) (doRegionReset r s)

/-- DIE_RESET (R519). -/
def execDieReset (d : Nat) (s : State) : Host.Outcome State Fault Refusal := answer (below 4 d) (doDieReset d s)

/-- HUB_SUBBLOCK_RESET (R520). -/
def execHubSubblockReset (unit : Nat) (s : State) : Host.Outcome State Fault Refusal :=
  answer (below (2 ^ 12) unit) (doHubReset unit s)

/-- RESET_ESCALATION (R521). -/
def execResetEscalation (unit : Nat) (s : State) : Host.Outcome State Fault Refusal :=
  answer (below (2 ^ 12) unit) (doResetEscalation unit s)

/-- PACKAGE_HALT (R523). -/
def execPackageHalt (s : State) : Host.Outcome State Fault Refusal := answer true (doPackageHalt s)

/-- PACKAGE_RESET (R524). -/
def execPackageReset (b : BootInfo) (s : State) : Host.Outcome State Fault Refusal := answer true (doPackageReset b s)

/-- PKG_RST_N (R522). -/
def execPkgRstN (us : Nat) (s : State) : Host.Outcome State Fault Refusal := answer true (doPkgRstN us s)

/-- RC_CMD_CLUSTER (R532). -/
def execRcCluster (key unit : Nat) (s : State) : Host.Outcome State Fault Refusal :=
  answer (below (2 ^ 16) key && below (2 ^ 12) unit) (doRcCluster key unit s)

/-- RC_CMD_REGION (R532). -/
def execRcRegion (key unit : Nat) (s : State) : Host.Outcome State Fault Refusal :=
  answer (below (2 ^ 16) key && below (2 ^ 12) unit) (doRcRegion key unit s)

/-- RC_CMD_DIE (R532). -/
def execRcDie (key unit : Nat) (s : State) : Host.Outcome State Fault Refusal :=
  answer (below (2 ^ 16) key && below (2 ^ 12) unit) (doRcDie key unit s)

/-- RC_CMD_HUB_SUBBLOCK (R532). -/
def execRcHub (key unit : Nat) (s : State) : Host.Outcome State Fault Refusal :=
  answer (below (2 ^ 16) key && below (2 ^ 12) unit) (doRcHub key unit s)

/-- RC_CMD_PACKAGE (R522). -/
def execRcPackage (key : Nat) (s : State) : Host.Outcome State Fault Refusal :=
  answer (below (2 ^ 16) key) (doRcPackage key s)

/-- RC_CMD_DUMP (R526). -/
def execRcDump (key : Nat) (s : State) : Host.Outcome State Fault Refusal :=
  answer (below (2 ^ 16) key) (doRcDump key s)

/-- RE_EXECUTION (R528). -/
def execReExecution (c seq t : Nat) (s : State) : Host.Outcome State Fault Refusal :=
  answer (below 256 c && below (2 ^ 48) seq) (doReExecution c seq t s)

end Sys2Proof.Machine
end

