-- ==== Sys2Proof/Machine/SafetyCmds.lean ====
section
/-! DEFINITION. Meanings of the commands: keystone, Footbridge, the safety SPI and the self-test (spec/17). -/

namespace Sys2Proof.Machine

/-- RELEASE (R485). -/
def execRelease (o : Nat) (s : State) : Host.Outcome State Fault Refusal := answer (below 32 o) (doRelease o s)

/-- RELEASE_DEADLINE (R486). -/
def execReleaseDeadline (o : Nat) (s : State) : Host.Outcome State Fault Refusal :=
  answer (below 32 o) (doReleaseDeadline o s)

/-- SAFETY_REQUEST (R501). -/
def execSafetyRequest (src kind : Nat) (s : State) : Host.Outcome State Fault Refusal :=
  answer (below (2 ^ 12) src && below 256 kind) (doSafetyRequest src kind s)

/-- PIN_MONITOR (R503). -/
def execPinMonitor (beat aHigh : Bool) (s : State) : Host.Outcome State Fault Refusal :=
  answer true (doPinMonitor beat aHigh s)

/-- SAFE_PIN (R503). -/
def execSafePin (a b : Bool) (s : State) : Host.Outcome State Fault Refusal := answer true (doSafePin a b s)

/-- KS_GO (R500). -/
def execKsGo (s : State) : Host.Outcome State Fault Refusal := answer true (doKsGo s)

/-- KS_CLEAR (R504). -/
def execKsClear (s : State) : Host.Outcome State Fault Refusal := answer true (doKsClear s)

/-- KS_ENTER (R501). -/
def execKsEnter (s : State) : Host.Outcome State Fault Refusal := answer true (doKsEnter s)

/-- OUTPUT_ENABLE (R511). -/
def execOutputEnable (o : Nat) (v : Word32) (s : State) : Host.Outcome State Fault Refusal :=
  answer (below 33 o) (doOutputEnable o v s)

/-- FOOTBRIDGE_RUN (R498). -/
def execFootbridgeRun (s : State) : Host.Outcome State Fault Refusal := answer true (doFootbridgeRun s)

/-- FOOTBRIDGE_RUN_END (R498). -/
def execFootbridgeRunEnd (s : State) : Host.Outcome State Fault Refusal := answer true (doFootbridgeRunEnd s)

/-- FB_FAULT (R499). -/
def execFbFault (why : Nat) (s : State) : Host.Outcome State Fault Refusal := answer (below 256 why) (doFbFault why s)

/-- KNOWN_ANSWER_RUN (R499). -/
def execKnownAnswerRun (pass : Bool) (s : State) : Host.Outcome State Fault Refusal :=
  answer true (doKnownAnswerRun pass s)

/-- SELECT_FALLING_EDGE (R507). -/
def execSelectFallingEdge (mode : Nat) (s : State) : Host.Outcome State Fault Refusal :=
  answer (isSpiMode mode) (doSelectFallingEdge mode s)

/-- SELECT_RELEASE (R506). -/
def execSelectRelease (n : Nat) (ws : List Nat) (s : State) : Host.Outcome State Fault Refusal :=
  answer (areWords ws) (doSelectRelease n ws s)

/-- SELECT_TIMEOUT (R505). -/
def execSelectTimeout (n : Nat) (s : State) : Host.Outcome State Fault Refusal := answer true (doSelectTimeout n s)

/-- SSPI_NOP (R508). -/
def execSspiNop (s : State) : Host.Outcome State Fault Refusal := answer true (doSspiNop s)

/-- ALIVE (R508). -/
def execAlive (v : BitVec 16) (s : State) : Host.Outcome State Fault Refusal := answer true (doAlive v s)

/-- REQSAFE (R508). -/
def execReqsafe (s : State) : Host.Outcome State Fault Refusal := answer true (doReqsafe s)

/-- SPI_HEARTBEAT_TIMEOUT (R508). -/
def execSpiHeartbeatTimeout (s : State) : Host.Outcome State Fault Refusal := answer true (doSpiHeartbeatTimeout s)

/-- SS_CNTCLR (R511). -/
def execSsCntclr (s : State) : Host.Outcome State Fault Refusal := answer true (doSsCntclr s)

/-- SELFTEST_SLOT (R494). -/
def execSelftestSlot (d : Nat) (s : State) : Host.Outcome State Fault Refusal :=
  answer (below 4 d) (doSelftestSlot d s)

/-- SELFTEST_COMPLETE (R496). -/
def execSelftestComplete (d phase : Nat) (s : State) : Host.Outcome State Fault Refusal :=
  answer (below 4 d && below 256 phase) (doSelftestComplete d phase s)

/-- SELFTEST_OVERDUE (R496). -/
def execSelftestOverdue (c : Nat) (s : State) : Host.Outcome State Fault Refusal :=
  answer (below 64 c) (doSelftestOverdue c s)

/-- CMD_TIMEOUT (R491). -/
def execCmdTimeout (row unit addr : Nat) (pull : Option (Nat × Nat × Nat × Nat)) (s : State) : Host.Outcome State Fault Refusal :=
  answer (below 256 row && below (2 ^ 12) unit && isPull pull) (doCmdTimeout row unit addr pull s)

end Sys2Proof.Machine
end

