-- ==== Sys2Proof/Machine/SensorCmds.lean ====
section
/-! DEFINITION. Meanings of the commands: sensor ports and Weir (spec/12). -/

namespace Sys2Proof.Machine

/-- FRAME_START (R354). -/
def execFrameStart (port vc hdr : Nat) (retx : Bool) (ago : Nat) (s : State) : Host.Outcome State Fault Refusal :=
  answer (below 16 port && below 4 vc && below 3 hdr) (doFrameStart port vc hdr retx ago s)

/-- LONG_PACKET (R355). -/
def execLongPacket (port vc dt hdr : Nat) (retx crcGood : Bool) (bs : List Byte) (ago : Nat) (s : State) : Host.Outcome State Fault Refusal :=
  answer (below 16 port && below 4 vc && below 64 dt && below 3 hdr && below (2 ^ 16) bs.length) (doLongPacket port vc dt hdr retx crcGood bs ago s)

/-- FRAME_END (R354). -/
def execFrameEnd (port vc hdr : Nat) (retx : Bool) (s : State) : Host.Outcome State Fault Refusal :=
  answer (below 16 port && below 4 vc && below 3 hdr) (doFrameEnd port vc hdr retx s)

/-- EMBEDDED_DATA (R353). -/
def execEmbeddedData (port vc hdr : Nat) (retx : Bool) (bs : List Byte) (ago : Nat) (s : State) : Host.Outcome State Fault Refusal :=
  answer (below 16 port && below 4 vc && below 3 hdr && below (2 ^ 16) bs.length) (doEmbeddedData port vc hdr retx bs ago s)

/-- FRAME_TIMEOUT (R354). -/
def execFrameTimeout (port vc : Nat) (s : State) : Host.Outcome State Fault Refusal :=
  answer (below 16 port && below 4 vc) (doFrameTimeout port vc s)

/-- LOSS_OF_LOCK (R356). -/
def execLossOfLock (port : Nat) (s : State) : Host.Outcome State Fault Refusal :=
  answer (below 16 port) (doLossOfLock port s)

/-- LOCK_ACQUIRED (R356). -/
def execLockAcquired (port gear : Nat) (s : State) : Host.Outcome State Fault Refusal :=
  answer (below 16 port && isGear gear) (doLockAcquired port gear s)

/-- SENS_STREAM_TIMEOUT (R358). -/
def execSensStreamTimeout (x : Nat) (s : State) : Host.Outcome State Fault Refusal :=
  answer (below 96 x) (doSensStreamTimeout x s)

/-- TRIGGER_REQUEST (R360). -/
def execTriggerRequest (port time : Nat) (s : State) : Host.Outcome State Fault Refusal :=
  answer (below 16 port) (doTriggerRequest port time s)

/-- TRIGGER_SEND (R359). -/
def execTriggerSend (port : Nat) (s : State) : Host.Outcome State Fault Refusal :=
  answer (below 16 port) (doTriggerSend port s)

/-- PEN (R362). -/
def execPen (port : Nat) (v : Word32) (s : State) : Host.Outcome State Fault Refusal :=
  answer (below 16 port) (doPen port v s)

/-- CLR (R363). -/
def execClr (port : Nat) (s : State) : Host.Outcome State Fault Refusal := answer (below 16 port) (doClr port s)

/-- RAMP_END (R363). -/
def execRampEnd (port : Nat) (reached : Bool) (s : State) : Host.Outcome State Fault Refusal :=
  answer (below 16 port) (doRampEnd port reached s)

/-- POC_SHORT (R364). -/
def execPocShort (port : Nat) (backfeed : Bool) (s : State) : Host.Outcome State Fault Refusal :=
  answer (below 16 port) (doPocShort port backfeed s)

/-- POC_OVERLOAD (R364). -/
def execPocOverload (port : Nat) (s : State) : Host.Outcome State Fault Refusal :=
  answer (below 16 port) (doPocOverload port s)

/-- OPEN_LOAD (R364). -/
def execOpenLoad (port : Nat) (s : State) : Host.Outcome State Fault Refusal :=
  answer (below 16 port) (doOpenLoad port s)

/-- DISCHARGE_END (R363). -/
def execDischargeEnd (port : Nat) (s : State) : Host.Outcome State Fault Refusal :=
  answer (below 16 port) (doDischargeEnd port s)

/-- POC_MEASUREMENT (R364). -/
def execPocMeasurement (port mv ma : Nat) (s : State) : Host.Outcome State Fault Refusal :=
  answer (below 16 port && below (2 ^ 16) mv && below (2 ^ 16) ma) (doPocMeasurement port mv ma s)

/-- ETH_FRAME (R366). -/
def execEthFrame (q : Nat) (fcsOk : Bool) (bs : List Byte) (ago : Nat) (s : State) : Host.Outcome State Fault Refusal :=
  answer (below 5 q && below (2 ^ 16) bs.length) (doEthInput q fcsOk bs ago s)

/-- ETH_LINK (R366). -/
def execEthLink (q : Nat) (s : State) : Host.Outcome State Fault Refusal := answer (below 5 q) (doEthLink q s)

/-- ETH_LINK_UP (R416). -/
def execEthLinkUp (q : Nat) (s : State) : Host.Outcome State Fault Refusal := answer (below 5 q) (doEthLinkUp q s)

/-- RECEIVER_ENABLE (R354). -/
def execReceiverEnable (port : Nat) (v : Word32) (s : State) : Host.Outcome State Fault Refusal :=
  answer (below 20 port) (doReceiverEnable port v s)

/-- WEIR_DROP (R368). -/
def execWeirDrop (port : Nat) (s : State) : Host.Outcome State Fault Refusal :=
  answer (below 20 port) (doWeirDrop port s)

/-- AP_CNTCLR (R373). -/
def execApCntclr (port : Nat) (s : State) : Host.Outcome State Fault Refusal :=
  answer (below 16 port) (doApCntclr port s)

/-- LP_CNTCLR (R373). -/
def execLpCntclr (p : Nat) (s : State) : Host.Outcome State Fault Refusal := answer (below 4 p) (doLpCntclr p s)

/-- WR_CLR (R373). -/
def execWrClr (s : State) : Host.Outcome State Fault Refusal := answer true (doWrClr s)

end Sys2Proof.Machine
end

