-- ==== Sys2Proof/Machine/TimeCmds.lean ====
section
/-! DEFINITION. Meanings of the commands: the time base, references, launch queues and the Gauge scheduler (spec/14). -/

namespace Sys2Proof.Machine

/-- TIME_TICK (R401). -/
def execTimeTick (s : State) : Host.Outcome State Fault Refusal := answer true (doTimeTick s)

/-- SET (R404). -/
def execSetTime (s : State) : Host.Outcome State Fault Refusal := answer true (doSet s)

/-- ADJ (R404). -/
def execAdjTime (s : State) : Host.Outcome State Fault Refusal := answer true (doAdj s)

/-- INC_COMMIT (R405). -/
def execIncCommit (v : Word32) (s : State) : Host.Outcome State Fault Refusal := answer true (doIncCommit v s)

/-- TB_SEC_LO (R402). -/
def execTbSecLo (s : State) : Host.Outcome State Fault Refusal := answer true (doTbSecLo s)

/-- REFSRC (R408). -/
def execRefsrc (v : Word32) (s : State) : Host.Outcome State Fault Refusal := answer true (doRefsrc v s)

/-- PPS_EDGE (R410). -/
def execPpsEdge (p high : Nat) (s : State) : Host.Outcome State Fault Refusal :=
  answer (below 16 p) (doPpsInput p high s)

/-- SYNC_MESSAGE (R411). -/
def execSyncMessage (q domain : Nat) (s : State) : Host.Outcome State Fault Refusal :=
  answer (below 5 q && below 256 domain) (doSyncMessage q domain s)

/-- REFERENCE_TIMEOUT (R412). -/
def execReferenceTimeout (s : State) : Host.Outcome State Fault Refusal := answer true (doReferenceTimeout s)

/-- LAUNCH_GO (R416). -/
def execLaunchGo (q : Nat) (s : State) : Host.Outcome State Fault Refusal := answer (below 5 q) (doLaunchGo q s)

/-- LAUNCH_SEND (R416). -/
def execLaunchSend (q p : Nat) (s : State) : Host.Outcome State Fault Refusal :=
  answer (below 5 q && below 16 p) (doLaunchFrame q p s)

/-- STNS (R415). -/
def execStns (q : Nat) (s : State) : Host.Outcome State Fault Refusal := answer (below 5 q) (doStns q s)

/-- TIME_FIRING (R418). -/
def execTimeFiring (g t : Nat) (s : State) : Host.Outcome State Fault Refusal :=
  answer (below 64 g) (doTimeFiring g t s)

/-- AZIMUTH_FIRING (R419). -/
def execAzimuthFiring (g t : Nat) (s : State) : Host.Outcome State Fault Refusal :=
  answer (below 64 g) (doAzimuthFiring g t s)

/-- LINE_FIRING (R418). -/
def execLineFiring (g t : Nat) (s : State) : Host.Outcome State Fault Refusal :=
  answer (below 64 g) (doLineFiring g t s)

/-- STRIPE_FIRING (R418). -/
def execStripeFiring (g t : Nat) (s : State) : Host.Outcome State Fault Refusal :=
  answer (below 64 g) (doStripeFiring g t s)

/-- PREDICT_FIRING (R423). -/
def execPredictFiring (g t : Nat) (s : State) : Host.Outcome State Fault Refusal :=
  answer (below 64 g) (doPredictFiring g t s)

/-- FALLBACK (R424). -/
def execFallback (g t : Nat) (s : State) : Host.Outcome State Fault Refusal := answer (below 64 g) (doFallback g t s)

/-- HELD_STEP_START (R422). -/
def execHeldStepStart (c seq t : Nat) (s : State) : Host.Outcome State Fault Refusal :=
  answer (below 256 c && below (2 ^ 48) seq) (doHeldStepStart c seq t s)

/-- GAUGE_ENABLE (R427). -/
def execGaugeEnable (g : Nat) (v : Word32) (s : State) : Host.Outcome State Fault Refusal :=
  answer (below 64 g) (doGaugeEnable g v s)

/-- TB_CNTCLR (R429). -/
def execTbCntclr (s : State) : Host.Outcome State Fault Refusal := answer true (doTbCntclr s)

/-- LQ_CNTCLR (R429). -/
def execLqCntclr (q : Nat) (s : State) : Host.Outcome State Fault Refusal := answer (below 5 q) (doLqCntclr q s)

/-- GA_CNTCLR (R429). -/
def execGaCntclr (g : Nat) (s : State) : Host.Outcome State Fault Refusal := answer (below 64 g) (doGaCntclr g s)

end Sys2Proof.Machine
end

