-- ==== Sys2Proof/Machine/UnitCmds.lean ====
section
/-! DEFINITION. Meanings of the commands: operations of the units of a cluster (spec/03 to spec/07). -/

namespace Sys2Proof.Machine

/-- MX_T (R98). -/
def execMxT (c slot op : Nat) (s : State) : Host.Outcome State Fault Refusal :=
  answer (below 64 c && isSlot slot && below (2 ^ 32) op) (doMx 0 c slot op s)

/-- MX_P (R98). -/
def execMxP (c slot op : Nat) (s : State) : Host.Outcome State Fault Refusal :=
  answer (below 64 c && isSlot slot && below (2 ^ 32) op) (doMx 1 c slot op s)

/-- MX_Q (R96). -/
def execMxQ (c slot op : Nat) (s : State) : Host.Outcome State Fault Refusal :=
  answer (below 64 c && isSlot slot && below (2 ^ 32) op) (doMx 2 c slot op s)

/-- MX_W (R96). -/
def execMxW (c slot op : Nat) (s : State) : Host.Outcome State Fault Refusal :=
  answer (below 64 c && isSlot slot && below (2 ^ 32) op) (doMx 3 c slot op s)

/-- MX_G (R106). -/
def execMxG (c slot op : Nat) (s : State) : Host.Outcome State Fault Refusal :=
  answer (below 64 c && isSlot slot && below (2 ^ 32) op) (doMx 4 c slot op s)

/-- MX_LD (R86). -/
def execMxLd (c slot op : Nat) (s : State) : Host.Outcome State Fault Refusal :=
  answer (below 64 c && isSlot slot && below (2 ^ 32) op) (doMxLd c slot op s)

/-- MX_DR (R101). -/
def execMxDr (c slot op : Nat) (s : State) : Host.Outcome State Fault Refusal :=
  answer (below 64 c && isSlot slot && below (2 ^ 32) op) (doMxDr c slot op s)

/-- ED_ATT (R156). -/
def execEdAtt (c slot op : Nat) (s : State) : Host.Outcome State Fault Refusal :=
  answer (below 64 c && isSlot slot && below (2 ^ 32) op) (doEdAtt c slot op s)

/-- VU_LD (R234). -/
def execVuLd (c slot op : Nat) (s : State) : Host.Outcome State Fault Refusal :=
  answer (below 64 c && isSlot slot && below (2 ^ 32) op) (doVuLd c slot op s)

/-- VU_ADD (R234). -/
def execVuAdd (c slot op : Nat) (s : State) : Host.Outcome State Fault Refusal :=
  answer (below 64 c && isSlot slot && below (2 ^ 32) op) (doVuAdd c slot op s)

/-- VU_SUB (R234). -/
def execVuSub (c slot op : Nat) (s : State) : Host.Outcome State Fault Refusal :=
  answer (below 64 c && isSlot slot && below (2 ^ 32) op) (doVuSub c slot op s)

/-- VU_MUL (R234). -/
def execVuMul (c slot op : Nat) (s : State) : Host.Outcome State Fault Refusal :=
  answer (below 64 c && isSlot slot && below (2 ^ 32) op) (doVuMul c slot op s)

/-- VU_MAX (R234). -/
def execVuMax (c slot op : Nat) (s : State) : Host.Outcome State Fault Refusal :=
  answer (below 64 c && isSlot slot && below (2 ^ 32) op) (doVuMax c slot op s)

/-- VU_MIN (R234). -/
def execVuMin (c slot op : Nat) (s : State) : Host.Outcome State Fault Refusal :=
  answer (below 64 c && isSlot slot && below (2 ^ 32) op) (doVuMin c slot op s)

/-- VU_TAB (R234). -/
def execVuTab (c slot op : Nat) (s : State) : Host.Outcome State Fault Refusal :=
  answer (below 64 c && isSlot slot && below (2 ^ 32) op) (doVuTab c slot op s)

/-- VU_SUMR (R234). -/
def execVuSumr (c slot op : Nat) (s : State) : Host.Outcome State Fault Refusal :=
  answer (below 64 c && isSlot slot && below (2 ^ 32) op) (doVuSumr c slot op s)

/-- VU_MAXR (R234). -/
def execVuMaxr (c slot op : Nat) (s : State) : Host.Outcome State Fault Refusal :=
  answer (below 64 c && isSlot slot && below (2 ^ 32) op) (doVuMaxr c slot op s)

/-- VU_OUT (R234). -/
def execVuOut (c slot op : Nat) (s : State) : Host.Outcome State Fault Refusal :=
  answer (below 64 c && isSlot slot && below (2 ^ 32) op) (doVuOut c slot op s)

/-- VU_TLD (R234). -/
def execVuTld (c slot op : Nat) (s : State) : Host.Outcome State Fault Refusal :=
  answer (below 64 c && isSlot slot && below (2 ^ 32) op) (doVuTld c slot op s)

/-- VU_BCI (R234). -/
def execVuBci (c slot op : Nat) (s : State) : Host.Outcome State Fault Refusal :=
  answer (below 64 c && isSlot slot && below (2 ^ 32) op) (doVuBci c slot op s)

/-- SL_P1 (R116). -/
def execSlP1 (c slot op : Nat) (s : State) : Host.Outcome State Fault Refusal :=
  answer (below 64 c && isSlot slot && below (2 ^ 32) op) (doSlP1 c slot op s)

/-- SL_P2 (R133). -/
def execSlP2 (c slot op : Nat) (s : State) : Host.Outcome State Fault Refusal :=
  answer (below 64 c && isSlot slot && below (2 ^ 32) op) (doSlP2 c slot op s)

/-- SL_CV (R127). -/
def execSlCv (c slot op : Nat) (s : State) : Host.Outcome State Fault Refusal :=
  answer (below 64 c && isSlot slot && below (2 ^ 32) op) (doSlCv c slot op s)

/-- SL_TLD (R118). -/
def execSlTld (c slot op : Nat) (s : State) : Host.Outcome State Fault Refusal :=
  answer (below 64 c && isSlot slot && below (2 ^ 32) op) (doSlTld c slot op s)

/-- SL_ZLD (R139). -/
def execSlZld (c slot op : Nat) (s : State) : Host.Outcome State Fault Refusal :=
  answer (below 64 c && isSlot slot && below (2 ^ 32) op) (doSlZld c slot op s)

/-- SL_SEED (R131). -/
def execSlSeed (c slot op : Nat) (s : State) : Host.Outcome State Fault Refusal :=
  answer (below 64 c && isSlot slot && below (2 ^ 32) op) (doSlSeed c slot op s)

/-- SL_KL (R140). -/
def execSlKl (c slot op : Nat) (s : State) : Host.Outcome State Fault Refusal :=
  answer (below 64 c && isSlot slot && below (2 ^ 32) op) (doSlKl c slot op s)

/-- SL_KA (R142). -/
def execSlKa (c slot op : Nat) (s : State) : Host.Outcome State Fault Refusal :=
  answer (below 64 c && isSlot slot && below (2 ^ 32) op) (doSlKa c slot op s)

/-- SL_KU (R143). -/
def execSlKu (c slot op : Nat) (s : State) : Host.Outcome State Fault Refusal :=
  answer (below 64 c && isSlot slot && below (2 ^ 32) op) (doSlKu c slot op s)

/-- SET_READY (R116). -/
def execSetReady (c n : Nat) (s : State) : Host.Outcome State Fault Refusal :=
  answer (below 64 c && below 2 n) (doSetReady c n s)

/-- ST_RING (R183). -/
def execStRing (c slot op : Nat) (s : State) : Host.Outcome State Fault Refusal :=
  answer (below 64 c && isSlot slot && below (2 ^ 32) op) (doStRing c slot op s)

/-- ST_WIN (R187). -/
def execStWin (c slot op : Nat) (s : State) : Host.Outcome State Fault Refusal :=
  answer (below 64 c && isSlot slot && below (2 ^ 32) op) (doStWin c slot op s)

/-- ST_RPK (R189). -/
def execStRpk (c slot op : Nat) (s : State) : Host.Outcome State Fault Refusal :=
  answer (below 64 c && isSlot slot && below (2 ^ 32) op) (doStRpk c slot op s)

/-- ST_TRP (R190). -/
def execStTrp (c slot op : Nat) (s : State) : Host.Outcome State Fault Refusal :=
  answer (below 64 c && isSlot slot && below (2 ^ 32) op) (doStTrp c slot op s)

/-- RD_SUM (R238). -/
def execRdSum (c slot op : Nat) (s : State) : Host.Outcome State Fault Refusal :=
  answer (below 64 c && isSlot slot && below (2 ^ 32) op) (doRdSum c slot op s)

/-- EG_RUN (R204). -/
def execEgRun (c slot op : Nat) (s : State) : Host.Outcome State Fault Refusal :=
  answer (below 64 c && isSlot slot && below (2 ^ 32) op) (doEgRun c slot op s)

/-- EG_RUN_COMPLETE (R209). -/
def execEgRunComplete (d : Nat) (s : State) : Host.Outcome State Fault Refusal :=
  answer (below 4 d) (doEgRunComplete d s)

end Sys2Proof.Machine
end

