-- ==== Sys2Proof/Machine/ViaductCmds.lean ====
section
/-! DEFINITION. Meanings of the commands: viaduct links and multi-module jobs (spec/15). -/

namespace Sys2Proof.Machine

/-- FLIT_RECEIVE (R433). -/
def execFlitReceive (p fec : Nat) (b : List Byte) (s : State) : Host.Outcome State Fault Refusal :=
  answer (below 8 p && below 3 fec && below (2 ^ 16) b.length) (doFlitReceive p fec b s)

/-- NAK (R433). -/
def execNak (p lack : Nat) (s : State) : Host.Outcome State Fault Refusal :=
  answer (below 8 p && below 4096 lack) (doNak p lack s)

/-- PORT_ENABLE (R434). -/
def execPortEnable (p : Nat) (v : Word32) (s : State) : Host.Outcome State Fault Refusal :=
  answer (below 8 p) (doPortEnable p v s)

/-- BYP (R434). -/
def execByp (p : Nat) (on : Bool) (s : State) : Host.Outcome State Fault Refusal := answer (below 8 p) (doByp p on s)

/-- TRAIN_RESULT (R434). -/
def execTrainResult (p : Nat) (ok : Bool) (pid port : Nat) (s : State) : Host.Outcome State Fault Refusal :=
  answer (below 8 p && below (2 ^ 11) pid && below 8 port) (doTrainResult p ok pid port s)

/-- RETRAIN (R434). -/
def execRetrain (p : Nat) (s : State) : Host.Outcome State Fault Refusal := answer (below 8 p) (doRetrain p s)

/-- PACKET_HOP (R437). -/
def execPacketHop (s : State) : Host.Outcome State Fault Refusal := answer true (doPacketHop s)

/-- WRITE_PACKET (R441). -/
def execWritePacket (b : List Byte) (s : State) : Host.Outcome State Fault Refusal :=
  answer (below (2 ^ 16) b.length) (doWritePacket b s)

/-- WACK (R442). -/
def execWack (b : List Byte) (s : State) : Host.Outcome State Fault Refusal :=
  answer (below (2 ^ 16) b.length) (doWack b s)

/-- WNAK (R442). -/
def execWnak (b : List Byte) (s : State) : Host.Outcome State Fault Refusal :=
  answer (below (2 ^ 16) b.length) (doWnak b s)

/-- RTO_EXPIRY (R442). -/
def execRtoExpiry (j p msg : Nat) (s : State) : Host.Outcome State Fault Refusal :=
  answer (below 16 j && below 8 p && below (2 ^ 32) msg) (doRtoExpiry j p msg s)

/-- WNAK_RESEND (R442). -/
def execWnakResend (j p msg : Nat) (s : State) : Host.Outcome State Fault Refusal :=
  answer (below 16 j && below 8 p && below (2 ^ 32) msg) (doWnakResend j p msg s)

/-- CONFIRM (R447). -/
def execConfirm (b : List Byte) (s : State) : Host.Outcome State Fault Refusal :=
  answer (below (2 ^ 16) b.length) (doConfirm b s)

/-- RETRACT (R448). -/
def execRetract (b : List Byte) (own : Option (Nat × Nat)) (s : State) : Host.Outcome State Fault Refusal :=
  answer (below (2 ^ 16) b.length && isJobEpoch own) (doRetract b own s)

/-- OWN_CHECKS (R446). -/
def execOwnChecks (j : Nat) (s : State) : Host.Outcome State Fault Refusal := answer (below 16 j) (doOwnChecksAll j s)

/-- EPOCH_TIMEOUT (R446). -/
def execEpochTimeout (j : Nat) (s : State) : Host.Outcome State Fault Refusal :=
  answer (below 16 j) (doEpochTimeout j s)

/-- ARM (R443). -/
def execArm (j : Nat) (s : State) : Host.Outcome State Fault Refusal := answer (below 16 j) (doArm j s)

/-- JOB_ABORT (R452). -/
def execJobAbort (j : Nat) (s : State) : Host.Outcome State Fault Refusal := answer (below 16 j) (doJobAbort j s)

/-- ABORT_MESSAGE (R452). -/
def execAbortMessage (b : List Byte) (s : State) : Host.Outcome State Fault Refusal :=
  answer (below (2 ^ 16) b.length) (doAbortMessage b s)

/-- QUIET_EXPIRY (R453). -/
def execQuietExpiry (j : Nat) (s : State) : Host.Outcome State Fault Refusal :=
  answer (below 16 j) (doQuietExpiry j s)

/-- VD_CNTCLR (R455). -/
def execVdCntclr (s : State) : Host.Outcome State Fault Refusal := answer true (doVdCntclr s)

/-- VP_CNTCLR (R455). -/
def execVpCntclr (p : Nat) (s : State) : Host.Outcome State Fault Refusal := answer (below 8 p) (doVpCntclr p s)

end Sys2Proof.Machine
end

