-- ==== Sys2Proof/Machine/Dispatch.lean ====
section
/-! DEFINITION. One arm for each command, in the order of the table. -/

namespace Sys2Proof.Machine

def exec (i : Instr) (s : State) : Host.Outcome State Fault Refusal :=
  match i with
  | .startRecord c r => Sys2Proof.Machine.execStartRecord c r s
  | .nop c op => Sys2Proof.Machine.execNop c op s
  | .setl c op => Sys2Proof.Machine.execSetl c op s
  | .seth c op => Sys2Proof.Machine.execSeth c op s
  | .addi c op => Sys2Proof.Machine.execAddi c op s
  | .lda c op => Sys2Proof.Machine.execLda c op s
  | .step c op => Sys2Proof.Machine.execStep c op s
  | .lset c op => Sys2Proof.Machine.execLset c op s
  | .bloop c op => Sys2Proof.Machine.execBloop c op s
  | .br c op => Sys2Proof.Machine.execBr c op s
  | .waitc c op => Sys2Proof.Machine.execWaitc c op s
  | .waitcRelease c => Sys2Proof.Machine.execWaitcRelease c s
  | .waitg c op => Sys2Proof.Machine.execWaitg c op s
  | .waitgRelease c t => Sys2Proof.Machine.execWaitgRelease c t s
  | .waitx c op => Sys2Proof.Machine.execWaitx c op s
  | .waitxRelease c => Sys2Proof.Machine.execWaitxRelease c s
  | .waitb c op => Sys2Proof.Machine.execWaitb c op s
  | .waitbRelease c t => Sys2Proof.Machine.execWaitbRelease c t s
  | .bar c op => Sys2Proof.Machine.execBar c op s
  | .barRelease c n => Sys2Proof.Machine.execBarRelease c n s
  | .fence c op => Sys2Proof.Machine.execFence c op s
  | .fenceRelease c => Sys2Proof.Machine.execFenceRelease c s
  | .flagclr c op => Sys2Proof.Machine.execFlagclr c op s
  | .endProgram c op => Sys2Proof.Machine.execEndProgram c op s
  | .endCompletion c => Sys2Proof.Machine.execEndCompletion c s
  | .waitTimeout c => Sys2Proof.Machine.execWaitTimeout c s
  | .mxT c slot op => Sys2Proof.Machine.execMxT c slot op s
  | .mxP c slot op => Sys2Proof.Machine.execMxP c slot op s
  | .mxQ c slot op => Sys2Proof.Machine.execMxQ c slot op s
  | .mxW c slot op => Sys2Proof.Machine.execMxW c slot op s
  | .mxG c slot op => Sys2Proof.Machine.execMxG c slot op s
  | .mxLd c slot op => Sys2Proof.Machine.execMxLd c slot op s
  | .mxDr c slot op => Sys2Proof.Machine.execMxDr c slot op s
  | .edAtt c slot op => Sys2Proof.Machine.execEdAtt c slot op s
  | .vuLd c slot op => Sys2Proof.Machine.execVuLd c slot op s
  | .vuAdd c slot op => Sys2Proof.Machine.execVuAdd c slot op s
  | .vuSub c slot op => Sys2Proof.Machine.execVuSub c slot op s
  | .vuMul c slot op => Sys2Proof.Machine.execVuMul c slot op s
  | .vuMax c slot op => Sys2Proof.Machine.execVuMax c slot op s
  | .vuMin c slot op => Sys2Proof.Machine.execVuMin c slot op s
  | .vuTab c slot op => Sys2Proof.Machine.execVuTab c slot op s
  | .vuSumr c slot op => Sys2Proof.Machine.execVuSumr c slot op s
  | .vuMaxr c slot op => Sys2Proof.Machine.execVuMaxr c slot op s
  | .vuOut c slot op => Sys2Proof.Machine.execVuOut c slot op s
  | .vuTld c slot op => Sys2Proof.Machine.execVuTld c slot op s
  | .vuBci c slot op => Sys2Proof.Machine.execVuBci c slot op s
  | .slP1 c slot op => Sys2Proof.Machine.execSlP1 c slot op s
  | .slP2 c slot op => Sys2Proof.Machine.execSlP2 c slot op s
  | .slCv c slot op => Sys2Proof.Machine.execSlCv c slot op s
  | .slTld c slot op => Sys2Proof.Machine.execSlTld c slot op s
  | .slZld c slot op => Sys2Proof.Machine.execSlZld c slot op s
  | .slSeed c slot op => Sys2Proof.Machine.execSlSeed c slot op s
  | .slKl c slot op => Sys2Proof.Machine.execSlKl c slot op s
  | .slKa c slot op => Sys2Proof.Machine.execSlKa c slot op s
  | .slKu c slot op => Sys2Proof.Machine.execSlKu c slot op s
  | .setReady c n => Sys2Proof.Machine.execSetReady c n s
  | .stRing c slot op => Sys2Proof.Machine.execStRing c slot op s
  | .stWin c slot op => Sys2Proof.Machine.execStWin c slot op s
  | .stRpk c slot op => Sys2Proof.Machine.execStRpk c slot op s
  | .stTrp c slot op => Sys2Proof.Machine.execStTrp c slot op s
  | .rdSum c slot op => Sys2Proof.Machine.execRdSum c slot op s
  | .cpRun c slot inbound op => Sys2Proof.Machine.execCpRun c slot inbound op s
  | .pullLanding c tag gen landed ok host => Sys2Proof.Machine.execPullLanding c tag gen landed ok host s
  | .pullCommit c => Sys2Proof.Machine.execPullCommit c s
  | .outboundComplete c tag t => Sys2Proof.Machine.execOutboundComplete c tag t s
  | .mcastPull mask ok host => Sys2Proof.Machine.execMcastPull mask ok host s
  | .copyDeadline c tag => Sys2Proof.Machine.execCopyDeadline c tag s
  | .egRun c slot op => Sys2Proof.Machine.execEgRun c slot op s
  | .egRunComplete d => Sys2Proof.Machine.execEgRunComplete d s
  | .serviceAccess c w data => Sys2Proof.Machine.execServiceAccess c w data s
  | .clMemclr c => Sys2Proof.Machine.execClMemclr c s
  | .sqTail c v => Sys2Proof.Machine.execSqTail c v s
  | .cqHead c v => Sys2Proof.Machine.execCqHead c v s
  | .accept c ok d p => Sys2Proof.Machine.execAccept c ok d p s
  | .descriptorNop c seq => Sys2Proof.Machine.execDescriptorNop c seq s
  | .loadp c seq => Sys2Proof.Machine.execLoadp c seq s
  | .loadw c seq => Sys2Proof.Machine.execLoadw c seq s
  | .run c seq t => Sys2Proof.Machine.execRun c seq t s
  | .copy c seq => Sys2Proof.Machine.execCopy c seq s
  | .decode c seq row => Sys2Proof.Machine.execDecode c seq row s
  | .kvopShare c seq => Sys2Proof.Machine.execKvopShare c seq s
  | .kvopRelease c seq => Sys2Proof.Machine.execKvopRelease c seq s
  | .kvopTruncate c seq => Sys2Proof.Machine.execKvopTruncate c seq s
  | .disarm c seq => Sys2Proof.Machine.execDisarm c seq s
  | .outcomeRecord c => Sys2Proof.Machine.execOutcomeRecord c s
  | .msixHoldoffExpiry v => Sys2Proof.Machine.execMsixHoldoffExpiry v s
  | .enable c => Sys2Proof.Machine.execEnable c s
  | .disable c => Sys2Proof.Machine.execDisable c s
  | .abort c => Sys2Proof.Machine.execAbort c s
  | .contextReset c => Sys2Proof.Machine.execContextReset c s
  | .hostLoss kind => Sys2Proof.Machine.execHostLoss kind s
  | .d3hotEntry => Sys2Proof.Machine.execD3hotEntry s
  | .d0Return => Sys2Proof.Machine.execD0Return s
  | .kvWrite c tag => Sys2Proof.Machine.execKvWrite c tag s
  | .kvShare src shg stb dst dhg dtb n addr => Sys2Proof.Machine.execKvShare src shg stb dst dhg dtb n addr s
  | .kvRelease c hg tb n addr => Sys2Proof.Machine.execKvRelease c hg tb n addr s
  | .kvTruncate c hg p addr => Sys2Proof.Machine.execKvTruncate c hg p addr s
  | .kvInit => Sys2Proof.Machine.execKvInit s
  | .decodeWindowClose b => Sys2Proof.Machine.execDecodeWindowClose b s
  | .frameStart port vc hdr retx ago => Sys2Proof.Machine.execFrameStart port vc hdr retx ago s
  | .longPacket port vc dt hdr retx crcGood bs ago => Sys2Proof.Machine.execLongPacket port vc dt hdr retx crcGood bs ago s
  | .frameEnd port vc hdr retx => Sys2Proof.Machine.execFrameEnd port vc hdr retx s
  | .embeddedData port vc hdr retx bs ago => Sys2Proof.Machine.execEmbeddedData port vc hdr retx bs ago s
  | .frameTimeout port vc => Sys2Proof.Machine.execFrameTimeout port vc s
  | .lossOfLock port => Sys2Proof.Machine.execLossOfLock port s
  | .lockAcquired port gear => Sys2Proof.Machine.execLockAcquired port gear s
  | .sensStreamTimeout x => Sys2Proof.Machine.execSensStreamTimeout x s
  | .triggerRequest port time => Sys2Proof.Machine.execTriggerRequest port time s
  | .triggerSend port => Sys2Proof.Machine.execTriggerSend port s
  | .pen port v => Sys2Proof.Machine.execPen port v s
  | .clr port => Sys2Proof.Machine.execClr port s
  | .rampEnd port reached => Sys2Proof.Machine.execRampEnd port reached s
  | .pocShort port backfeed => Sys2Proof.Machine.execPocShort port backfeed s
  | .pocOverload port => Sys2Proof.Machine.execPocOverload port s
  | .openLoad port => Sys2Proof.Machine.execOpenLoad port s
  | .dischargeEnd port => Sys2Proof.Machine.execDischargeEnd port s
  | .pocMeasurement port mv ma => Sys2Proof.Machine.execPocMeasurement port mv ma s
  | .ethFrame q fcsOk bs ago => Sys2Proof.Machine.execEthFrame q fcsOk bs ago s
  | .ethLink q => Sys2Proof.Machine.execEthLink q s
  | .weirDrop port => Sys2Proof.Machine.execWeirDrop port s
  | .lineGroupAdmission port => Sys2Proof.Machine.execLineGroupAdmission port s
  | .stripeReady x => Sys2Proof.Machine.execStripeReady x s
  | .frameCloseEmit port => Sys2Proof.Machine.execFrameCloseEmit port s
  | .viewEnable v w => Sys2Proof.Machine.execViewEnable v w s
  | .meshLoad v => Sys2Proof.Machine.execMeshLoad v s
  | .lidarBlock p => Sys2Proof.Machine.execLidarBlock p s
  | .lidarEnable x v => Sys2Proof.Machine.execLidarEnable x v s
  | .recordCapture => Sys2Proof.Machine.execRecordCapture s
  | .recordingResume => Sys2Proof.Machine.execRecordingResume s
  | .recordRelease => Sys2Proof.Machine.execRecordRelease s
  | .dcResync off => Sys2Proof.Machine.execDcResync off s
  | .replayStarved => Sys2Proof.Machine.execReplayStarved s
  | .rdReady c seq no => Sys2Proof.Machine.execRdReady c seq no s
  | .dtCfg off v => Sys2Proof.Machine.execDtCfg off v s
  | .windowEnable c w v => Sys2Proof.Machine.execWindowEnable c w v s
  | .pieceArrival off n wr => Sys2Proof.Machine.execPieceArrival off n wr s
  | .dataTurn t => Sys2Proof.Machine.execDataTurn t s
  | .normalServe pc => Sys2Proof.Machine.execNormalServe pc s
  | .refTurn t => Sys2Proof.Machine.execRefTurn t s
  | .trrTurn t => Sys2Proof.Machine.execTrrTurn t s
  | .scrubTurn t => Sys2Proof.Machine.execScrubTurn t s
  | .hbmLinkRetry pc => Sys2Proof.Machine.execHbmLinkRetry pc s
  | .hbmTempRead st temp => Sys2Proof.Machine.execHbmTempRead st temp s
  | .srenter => Sys2Proof.Machine.execSrenter s
  | .srexit => Sys2Proof.Machine.execSrexit s
  | .hbmGo st failPc => Sys2Proof.Machine.execHbmGo st failPc s
  | .hbCal t v => Sys2Proof.Machine.execHbCal t v s
  | .hbPaircls q v => Sys2Proof.Machine.execHbPaircls q v s
  | .timeTick => Sys2Proof.Machine.execTimeTick s
  | .setTime => Sys2Proof.Machine.execSetTime s
  | .adjTime => Sys2Proof.Machine.execAdjTime s
  | .incCommit v => Sys2Proof.Machine.execIncCommit v s
  | .tbSecLo => Sys2Proof.Machine.execTbSecLo s
  | .refsrc v => Sys2Proof.Machine.execRefsrc v s
  | .ppsEdge p high => Sys2Proof.Machine.execPpsEdge p high s
  | .syncMessage q domain => Sys2Proof.Machine.execSyncMessage q domain s
  | .referenceTimeout => Sys2Proof.Machine.execReferenceTimeout s
  | .launchGo q => Sys2Proof.Machine.execLaunchGo q s
  | .launchSend q p => Sys2Proof.Machine.execLaunchSend q p s
  | .stns q => Sys2Proof.Machine.execStns q s
  | .timeFiring g t => Sys2Proof.Machine.execTimeFiring g t s
  | .azimuthFiring g t => Sys2Proof.Machine.execAzimuthFiring g t s
  | .lineFiring g t => Sys2Proof.Machine.execLineFiring g t s
  | .stripeFiring g t => Sys2Proof.Machine.execStripeFiring g t s
  | .predictFiring g t => Sys2Proof.Machine.execPredictFiring g t s
  | .fallback g t => Sys2Proof.Machine.execFallback g t s
  | .heldStepStart c seq t => Sys2Proof.Machine.execHeldStepStart c seq t s
  | .gaugeEnable g v => Sys2Proof.Machine.execGaugeEnable g v s
  | .flitReceive p fec b => Sys2Proof.Machine.execFlitReceive p fec b s
  | .nak p lack => Sys2Proof.Machine.execNak p lack s
  | .portEnable p v => Sys2Proof.Machine.execPortEnable p v s
  | .byp p on => Sys2Proof.Machine.execByp p on s
  | .trainResult p ok pid port => Sys2Proof.Machine.execTrainResult p ok pid port s
  | .retrain p => Sys2Proof.Machine.execRetrain p s
  | .packetHop => Sys2Proof.Machine.execPacketHop s
  | .writePacket b => Sys2Proof.Machine.execWritePacket b s
  | .wack b => Sys2Proof.Machine.execWack b s
  | .wnak b => Sys2Proof.Machine.execWnak b s
  | .rtoExpiry j p msg => Sys2Proof.Machine.execRtoExpiry j p msg s
  | .confirm b => Sys2Proof.Machine.execConfirm b s
  | .retract b own => Sys2Proof.Machine.execRetract b own s
  | .ownChecks j => Sys2Proof.Machine.execOwnChecks j s
  | .epochTimeout j => Sys2Proof.Machine.execEpochTimeout j s
  | .arm j => Sys2Proof.Machine.execArm j s
  | .jobAbort j => Sys2Proof.Machine.execJobAbort j s
  | .abortMessage b => Sys2Proof.Machine.execAbortMessage b s
  | .quietExpiry j => Sys2Proof.Machine.execQuietExpiry j s
  | .faultMessage src ok raw => Sys2Proof.Machine.execFaultMessage src ok raw s
  | .keepAlive src => Sys2Proof.Machine.execKeepAlive src s
  | .fcAck v => Sys2Proof.Machine.execFcAck v s
  | .ackDeadline slot => Sys2Proof.Machine.execAckDeadline slot s
  | .fcFence unit => Sys2Proof.Machine.execFcFence unit s
  | .returnToService unit fails => Sys2Proof.Machine.execReturnToService unit fails s
  | .fcSev off v => Sys2Proof.Machine.execFcSev off v s
  | .towpathReport => Sys2Proof.Machine.execTowpathReport s
  | .historyWrite => Sys2Proof.Machine.execHistoryWrite s
  | .operatingHours => Sys2Proof.Machine.execOperatingHours s
  | .release o => Sys2Proof.Machine.execRelease o s
  | .releaseDeadline o => Sys2Proof.Machine.execReleaseDeadline o s
  | .safetyRequest src kind => Sys2Proof.Machine.execSafetyRequest src kind s
  | .pinMonitor beat aHigh => Sys2Proof.Machine.execPinMonitor beat aHigh s
  | .safePin a b => Sys2Proof.Machine.execSafePin a b s
  | .ksGo => Sys2Proof.Machine.execKsGo s
  | .ksClear => Sys2Proof.Machine.execKsClear s
  | .ksEnter => Sys2Proof.Machine.execKsEnter s
  | .outputEnable o v => Sys2Proof.Machine.execOutputEnable o v s
  | .footbridgeRun => Sys2Proof.Machine.execFootbridgeRun s
  | .footbridgeRunEnd => Sys2Proof.Machine.execFootbridgeRunEnd s
  | .fbFault why => Sys2Proof.Machine.execFbFault why s
  | .knownAnswerRun pass => Sys2Proof.Machine.execKnownAnswerRun pass s
  | .selectRelease n ws => Sys2Proof.Machine.execSelectRelease n ws s
  | .selectTimeout n => Sys2Proof.Machine.execSelectTimeout n s
  | .sspiNop => Sys2Proof.Machine.execSspiNop s
  | .alive v => Sys2Proof.Machine.execAlive v s
  | .reqsafe => Sys2Proof.Machine.execReqsafe s
  | .spiHeartbeatTimeout => Sys2Proof.Machine.execSpiHeartbeatTimeout s
  | .selftestSlot d => Sys2Proof.Machine.execSelftestSlot d s
  | .selftestComplete d phase => Sys2Proof.Machine.execSelftestComplete d phase s
  | .selftestOverdue c => Sys2Proof.Machine.execSelftestOverdue c s
  | .cmdTimeout row unit addr pull => Sys2Proof.Machine.execCmdTimeout row unit addr pull s
  | .clusterReset c => Sys2Proof.Machine.execClusterReset c s
  | .regionReset r => Sys2Proof.Machine.execRegionReset r s
  | .dieReset d => Sys2Proof.Machine.execDieReset d s
  | .hubSubblockReset unit => Sys2Proof.Machine.execHubSubblockReset unit s
  | .resetEscalation unit => Sys2Proof.Machine.execResetEscalation unit s
  | .packageHalt => Sys2Proof.Machine.execPackageHalt s
  | .packageReset b => Sys2Proof.Machine.execPackageReset b s
  | .pkgRstN us => Sys2Proof.Machine.execPkgRstN us s
  | .rcCluster key unit => Sys2Proof.Machine.execRcCluster key unit s
  | .rcRegion key unit => Sys2Proof.Machine.execRcRegion key unit s
  | .rcDie key unit => Sys2Proof.Machine.execRcDie key unit s
  | .rcHub key unit => Sys2Proof.Machine.execRcHub key unit s
  | .rcPackage key => Sys2Proof.Machine.execRcPackage key s
  | .rcDump key => Sys2Proof.Machine.execRcDump key s
  | .reExecution c seq t => Sys2Proof.Machine.execReExecution c seq t s
  | .lockstep u => Sys2Proof.Machine.execLockstep u s
  | .mgKick q v => Sys2Proof.Machine.execMgKick q v s
  | .pairWatchdog q => Sys2Proof.Machine.execPairWatchdog q s
  | .pairResetEnd q => Sys2Proof.Machine.execPairResetEnd q s
  | .pairTestEnd q pass => Sys2Proof.Machine.execPairTestEnd q pass s
  | .mgtWdog => Sys2Proof.Machine.execMgtWdog s
  | .mwdrstReset => Sys2Proof.Machine.execMwdrstReset s
  | .shedWindow b0 b1 => Sys2Proof.Machine.execShedWindow b0 b1 s
  | .telemetry => Sys2Proof.Machine.execTelemetry s
  | .spanref list => Sys2Proof.Machine.execSpanref list s
  | .dumpmove => Sys2Proof.Machine.execDumpmove s
  | .read mac p => Sys2Proof.Machine.execRead mac p s
  | .attest mac p => Sys2Proof.Machine.execAttest mac p s
  | .cert mac p => Sys2Proof.Machine.execCert mac p s
  | .challenge mac p => Sys2Proof.Machine.execChallenge mac p s
  | .write mac p => Sys2Proof.Machine.execWrite mac p s
  | .ack mac p => Sys2Proof.Machine.execAck mac p s
  | .towpathReset mac p => Sys2Proof.Machine.execTowpathReset mac p s
  | .cfgwrite mac p => Sys2Proof.Machine.execCfgwrite mac p s
  | .dumpread mac p => Sys2Proof.Machine.execDumpread mac p s
  | .fwchunk mac p => Sys2Proof.Machine.execFwchunk mac p s
  | .fwcommit mac p pass => Sys2Proof.Machine.execFwcommit mac p pass s
  | .svnbump mac p => Sys2Proof.Machine.execSvnbump mac p s
  | .histclear mac p => Sys2Proof.Machine.execHistclear mac p s
  | .ownerkey mac p => Sys2Proof.Machine.execOwnerkey mac p s
  | .mbGo v => Sys2Proof.Machine.execMbGo v s
  | .pwOpreq d v => Sys2Proof.Machine.execPwOpreq d v s
  | .opPointChange d => Sys2Proof.Machine.execOpPointChange d s
  | .powerUp bulk input => Sys2Proof.Machine.execPowerUp bulk input s
  | .chargeTimeout => Sys2Proof.Machine.execChargeTimeout s
  | .vinUv v => Sys2Proof.Machine.execVinUv v s
  | .powerFail v => Sys2Proof.Machine.execPowerFail v s
  | .vinOv v => Sys2Proof.Machine.execVinOv v s
  | .disconnect v => Sys2Proof.Machine.execDisconnect v s
  | .stretchWindow x => Sys2Proof.Machine.execStretchWindow x s
  | .pointLowering d => Sys2Proof.Machine.execPointLowering d s
  | .dieHot d n temp => Sys2Proof.Machine.execDieHot d n temp s
  | .dieOvertemp d n temp => Sys2Proof.Machine.execDieOvertemp d n temp s
  | .standbyEntry => Sys2Proof.Machine.execStandbyEntry s
  | .standbyExit => Sys2Proof.Machine.execStandbyExit s
  | .regionGating r => Sys2Proof.Machine.execRegionGating r s
  | .clkMon m count ok lost => Sys2Proof.Machine.execClkMon m count ok lost s
  | .oscFail n ppm => Sys2Proof.Machine.execOscFail n ppm s
  | .clkOsc v => Sys2Proof.Machine.execClkOsc v s
  | .vrFault d rail => Sys2Proof.Machine.execVrFault d rail s
  | .fmapRead k => Sys2Proof.Machine.execFmapRead k s
  | .apCntclr port => Sys2Proof.Machine.execApCntclr port s
  | .lpCntclr p => Sys2Proof.Machine.execLpCntclr p s
  | .wrClr => Sys2Proof.Machine.execWrClr s
  | .tbCntclr => Sys2Proof.Machine.execTbCntclr s
  | .lqCntclr q => Sys2Proof.Machine.execLqCntclr q s
  | .gaCntclr g => Sys2Proof.Machine.execGaCntclr g s
  | .vdCntclr => Sys2Proof.Machine.execVdCntclr s
  | .vpCntclr p => Sys2Proof.Machine.execVpCntclr p s
  | .ssCntclr => Sys2Proof.Machine.execSsCntclr s
  | .twCntclr => Sys2Proof.Machine.execTwCntclr s
  | .registerWrite off v whole => Sys2Proof.Machine.execRegisterWrite off v whole s
  | .hostTransferComplete c seq ok data => Sys2Proof.Machine.execHostTransferComplete c seq ok data s
  | .pcieLinkUp => Sys2Proof.Machine.execPcieLinkUp s
  | .ethLinkUp q => Sys2Proof.Machine.execEthLinkUp q s
  | .selectFallingEdge mode => Sys2Proof.Machine.execSelectFallingEdge mode s
  | .vinUvClear v => Sys2Proof.Machine.execVinUvClear v s
  | .dieHotClear d n temp => Sys2Proof.Machine.execDieHotClear d n temp s
  | .opRequestTimeout d => Sys2Proof.Machine.execOpRequestTimeout d s
  | .wnakResend j p msg => Sys2Proof.Machine.execWnakResend j p msg s
  | .receiverEnable port v => Sys2Proof.Machine.execReceiverEnable port v s
  | .pinthWrite v => Sys2Proof.Machine.execPinthWrite v s

end Sys2Proof.Machine
end

