-- ==== Sys2Proof/Safety.lean ====
section
/-! DEFINITION. What a safe run is: every waiting command names only what exists, and the memories and their marks stand in
their canonical form. Such a run answers a next state at every step (Obligations.QueueDrains). Beside it, when a cluster may
issue a bundle, and when a slot may take an operation. -/

namespace Sys2Proof.Machine

/-- The memories and their marks stand in their canonical form. -/
def State.formed (s : State) : Bool := Memory.wf s.mem && Marks.wf s.marks

/-- Every waiting command is well formed. -/
def State.queued (s : State) : Bool := s.pending.all Instr.wf

/-- A state from which every step that takes a waiting command answers a next state. -/
def State.safe (s : State) : Bool := s.formed && s.queued

/-- The steps of `n` taken from a state all answer a next state. -/
def SafeRun (n : Nat) (s : State) : Prop := ∃ t : State, Sys2Proof.core.run n s = .next t ∧ t.formed = true

/-- Cluster c may issue a bundle: it runs, it holds no bundle, and nothing that is due before the bundle stops it. -/
def State.mayIssue (s : State) (c : Nat) : Prop :=
  (s.cl c).seq.st = .running ∧ (s.cl c).seq.wait = .none ∧ (s.nextBundle c).issuing c = true

/-- The bundle of cluster c is open, and a slot may take an operation that uses the given ports (R218, R220). -/
def State.mayUse (s : State) (c slot : Nat) (ports : List Nat) : Prop :=
  s.issuing c = true ∧ 1 ≤ slot ∧ slot ≤ 7 ∧ (∀ p ∈ ports, p ∉ (s.cl c).seq.ports) ∧ ports.Nodup

/-- The two words of an operation's argument block, as the bundle reads them (R219). -/
def Seq.arg2 (q : Seq) (a : Nat) : List Nat := (q.argBlock a 2).getD []

end Sys2Proof.Machine
end

