-- ==== Sys2Proof/Certificates/Slice0/Obligations.lean ====
section
/-! DEFINITION. The statements: what the commands of the module do, family by family, and what holds of every step. -/

open Sys2Proof Sys2Proof.Machine

/-! ### Control operations (spec/07) -/

/-- NOP, SETL, SETH and ADDI (R227), and LSET, BR and BLOOP (R227, R228). -/
def Obligations.ArgumentsLoopsAndBranches : Prop :=
  (∀ (s : State) (c op : Nat), c < 64 → op < 2 ^ 32 → s.mayIssue c →
      let u := s.nextBundle c
      let d := bitsOf op 25 20
      let was := (u.cl c).seq.args.get d 0
      let put := fun (v : Word32) => u.updSeq c (fun q => { q with args := q.args.set d v })
      (bitsOf op 25 0 = 0 → exec (.nop c op) s = .next u)
        ∧ (bitsOf op 19 16 = 0 →
          exec (.setl c op) s = .next (put (was.extractLsb' 16 16 ++ BitVec.ofNat 16 op)))
        ∧ (bitsOf op 19 16 = 0 →
          exec (.seth c op) s = .next (put (BitVec.ofNat 16 op ++ was.extractLsb' 0 16)))
        ∧ exec (.addi c op) s = .next (put (was + (BitVec.ofNat 20 op).signExtend 32)))
    ∧ (∀ (s : State) (c op : Nat), c < 64 → op < 2 ^ 32 → s.mayIssue c →
      let u := s.nextBundle c
      let q := (u.cl c).seq
      let k := bitsOf op 25 23
      let n := q.lc.get k 0
      (bitOf op 22 = false → bitsOf op 21 20 = 0 →
          exec (.lset c op) s = .next (u.updSeq c (fun q => { q with lc := q.lc.set k (BitVec.ofNat 20 op) })))
        ∧ (bitOf op 22 = true → bitsOf op 21 6 = 0 →
          exec (.lset c op) s = .next (u.updSeq c (fun q =>
            { q with lc := q.lc.set k ((q.args.get (bitsOf op 5 0) 0).setWidth 20) })))
        ∧ (bitsOf op 25 12 = 0 → exec (.br c op) s = .next (u.updSeq c (fun q => { q with pc := BitVec.ofNat 12 op })))
        ∧ (bitsOf op 22 12 = 0 → 1 < n.toNat →
          exec (.bloop c op) s = .next (u.updSeq c (fun q => { q with lc := q.lc.set k (n - 1), pc := BitVec.ofNat 12 op })))
        ∧ (bitsOf op 22 12 = 0 → n.toNat ≤ 1 →
          exec (.bloop c op) s = .next (u.updSeq c (fun q => { q with lc := q.lc.set k 0 }))))

/-- WAITC, FLAGCLR, STEP and LDA (R224, R227): what they schedule, and for WAITC the c-cycle from which the next bundle may
issue. -/
def Obligations.TimedControl : Prop :=
  ∀ (s : State) (c op : Nat), c < 64 → op < 2 ^ 32 → s.mayIssue c →
    let u := s.nextBundle c
    let q := (u.cl c).seq
    let place := q.pcLast.toNat * 8
    let masks := (upTo 12).map (fun i => q.args.get (48 + i) 0)
    (bitsOf op 25 16 = 0 → ∃ t, exec (.waitc c op) s = .next t ∧ t = u.setCl c (t.cl c)
        ∧ (t.cl c).seq.next = q.cyc + 1 + op % 2 ^ 16 ∧ ((t.cl c).seq.wait = .none ↔ op % 2 ^ 16 = 0))
      ∧ (bitsOf op 25 20 = 0 → ∃ t, exec (.flagclr c op) s = .next t ∧ t = u.setCl c (t.cl c)
        ∧ (t.cl c).evs = (u.cl c).evs ++ [⟨q.cyc + 1, 0, 0, 0, place, .flagClr (op % 2 ^ 20)⟩])
      ∧ (bitsOf op 25 0 = 0 → (∀ b, b < 32 → (masks.filter (fun m => bitOf m.toNat b)).length ≤ 1) →
        ∃ t, exec (.step c op) s = .next t ∧ t = u.setCl c (t.cl c)
          ∧ (t.cl c).evs = (u.cl c).evs ++ [⟨q.cyc, 2, 0, 0, place, .masks masks⟩])
      ∧ (bitsOf op 19 17 = 0 → bitsOf op 22 20 = 0 → ∃ t, exec (.lda c op) s = .next t ∧ t = u.setCl c (t.cl c)
        ∧ (t.cl c).evs = (u.cl c).evs ++ [⟨q.cyc + 1, 1, (u.cl c).nextJob, 0, place, .rd 0 0 [op % 2 ^ 17]⟩,
            ⟨q.cyc + 2, 2, (u.cl c).nextJob, 0, place, .run 0⟩]
        ∧ (t.cl c).jobs.get (u.cl c).nextJob ⟨.mx, 0, 0, [], 0, ⟨[]⟩, [], none⟩
            = ⟨.lda, place, op, [], q.cyc, ⟨[]⟩, [], none⟩)

/-- WAITG, WAITX, WAITB, FENCE, BAR and END (R227, R229, R230): each but END holds its own bundle while what it waits for is not
there, and issues it at once where it is; the bundle of END issues and is the last (log entry 128). -/
def Obligations.HeldBundles : Prop :=
  ∀ (s : State) (c op : Nat), c < 64 → op < 2 ^ 32 → s.mayIssue c →
    let u := s.nextBundle c
    let q := (u.cl c).seq
    let issues := fun (i : Instr) (p : Bool) (w : WaitKind) (arg : Nat) (t : State) =>
      exec i s = .next (if p then t else u.hold c w arg)
    (bitsOf op 25 6 = 0 → issues (.waitg c op) (q.gflags.getLsbD (op % 64)) .waitG (op % 64)
        (u.updSeq c (fun q => { q with gflags := q.gflags &&& ~~~ BitVec.ofNat 64 (2 ^ (op % 64)) })))
      ∧ (bitsOf op 25 16 = 0 → issues (.waitx c op) (decide (BitVec.ofNat 16 op &&& q.tags = 0)) .waitX (op % 2 ^ 16) u)
      ∧ (bitsOf op 25 4 = 0 → issues (.waitb c op) (decide (q.seen.get (op % 16) 0 < u.blockNo.get (op % 16) 0)) .waitB (op % 16)
        (u.updSeq c (fun q => { q with seen := q.seen.set (op % 16) (q.seen.get (op % 16) 0 + 1) })))
      ∧ (bitsOf op 25 12 = 0 → issues (.fence c op)
        ((upTo 12).all (fun k => !bitOf op k || decide (q.unitDone.get k 0 ≤ q.cyc))) .fence (op % 2 ^ 12) u)
      ∧ (bitsOf op 25 0 = 0 → exec (.endProgram c op) s = .next (u.updSeq c (fun q =>
        { q with wait := .ending, waitArg := 0, waitSince := u.ticks, next := q.cyc })))
      ∧ (let a := op % 64
        let m := (q.args.get a 0).toNat + (q.args.get (a + 1) 0).toNat * 2 ^ 32
        bitsOf op 21 6 = 0 → a < 63 → (∃ h, h < 64 ∧ u.hostOf h = some c ∧ bitOf m h = true) →
          issues (.bar c op) q.rerun .bar (bitsOf op 25 22 + 16 * m) u)

/-! ### Operations of the units (spec/03 to spec/07) -/

/-- MX.T, MX.P, MX.Q, MX.W, MX.G, MX.LD and MX.DR (R80 to R88, R101, R219 to R232). -/
def Obligations.MatrixUnit : Prop :=
  (∀ (s : State) (c slot op shape : Nat) (i : Instr), c < 64 → op < 2 ^ 32 →
      ((shape = 0 ∧ i = .mxT c slot op) ∨ (shape = 1 ∧ i = .mxP c slot op) ∨ (shape = 2 ∧ i = .mxQ c slot op)
        ∨ (shape = 3 ∧ i = .mxW c slot op) ∨ (shape = 4 ∧ i = .mxG c slot op)) →
      let o := shape * 2 ^ 25 + op % 2 ^ 25
      let k := s.cl c
      let I := k.seq.cyc
      let bl := k.seq.argBlock (bitsOf o 5 0) 2
      let as := bl.getD []
      let p := mxParOf o (as.getD 0 0) (as.getD 1 0)
      s.mayUse c slot (p.tiles.map portEdge) → mxBad o (as.getD 1 0) bl = false → p.planesBad k = false → p.held k I = false →
        ∃ k', exec i s = .next (s.setCl c k')
          ∧ k'.jobs = k.jobs.set k.nextJob ⟨.mx, k.seq.at slot, o, [as.getD 0 0, as.getD 1 0], I, ⟨[]⟩, [], none⟩
          ∧ k'.nextJob = k.nextJob + 1
          ∧ (∀ t ∈ p.tiles, (k'.tile t).edgeFree = I + p.occ (p.isK4 k))
          ∧ (∀ m, m < p.m → (⟨p.readAt (p.isK4 k) I m, 2, k.nextJob, uTile (p.tiles.headD 0), k.seq.at slot, .run m⟩ : Ev) ∈ k'.evs)
          ∧ k'.sl = k.sl ∧ k'.vu = k.vu ∧ k'.ed = k.ed ∧ k'.cp = k.cp)
    ∧ (∀ (s : State) (c slot op : Nat), c < 64 → op < 2 ^ 32 →
      let k := s.cl c
      let I := k.seq.cyc
      (let o := 5 * 2 ^ 25 + op % 2 ^ 25
        let bl := k.seq.argBlock (bitsOf o 5 0) 2
        let fin := I + 64 + ldScaleWords (bitsOf o 19 17) (bitOf o 16) (bitsOf o 15 14)
        let pl := bitsOf o 22 22
        s.mayUse c slot ((ldTiles o).map portWeight) → ldBad o bl = false →
        (∀ t ∈ ldTiles o, (k.tile t).portFree ≤ I ∧ ((k.tile t).plane pl).usedUntil ≤ I) →
          ∃ k', exec (.mxLd c slot op) s = .next (s.setCl c k')
            ∧ k'.jobs = k.jobs.set k.nextJob ⟨.mxLd, k.seq.at slot, o, [], I, ⟨[]⟩, [], none⟩
            ∧ (∀ t ∈ ldTiles o, (k'.tile t).portFree = fin ∧ ((k'.tile t).plane pl).readyAt = fin
                ∧ ((k'.tile t).plane pl).loaded = true ∧ ((k'.tile t).plane pl).wf = bitsOf o 19 17))
        ∧ (let o := 6 * 2 ^ 25 + op % 2 ^ 25
          let t := bitsOf o 24 23
          let n := drCount o
          s.mayUse c slot [portDrain t] → drBad o = false → (k.tile t).drainFree ≤ I →
            ∃ k', exec (.mxDr c slot op) s = .next (s.setCl c k')
              ∧ k'.jobs = k.jobs.set k.nextJob ⟨.mxDr, k.seq.at slot, o, [], I, ⟨[]⟩, [], none⟩
              ∧ (k'.tile t).drainFree = I + n
              ∧ k'.evs = k.evs ++ (upTo n).map (fun i => ⟨I + i, 0, k.nextJob, uTile t, k.seq.at slot, .run i⟩)
                  ++ [⟨I + n - 1, 2, k.nextJob, uTile t, k.seq.at slot, .run dropStep⟩]
              ∧ k'.sl = k.sl ∧ k'.seq.due = if bitOf o 8 then k.seq.due
                else k.seq.due ++ [⟨slot, kSluiceConflict, bitsOf o 7 6, drComing o I⟩]))

/-- The vector operations (R117, R220, R233 to R235). -/
def Obligations.VectorUnit : Prop :=
  (∀ (s : State) (c slot op : Nat), c < 64 → op < 2 ^ 32 → s.mayUse c slot [portVector] →
      let k := s.cl c
      let I := k.seq.cyc
      let lanes := fun (o : Nat) => laneOp k.vu o (bitsOf op 20 18) (bitsOf op 17 15) (bitsOf op 14 11) (bitsOf op 12 11)
      let does := fun (i : Instr) (n : Nat) (r : List (Int × Bool) × Bool) => (I + n) ∉ k.vu.writes →
        ∃ k', exec i s = .next (s.setCl c k') ∧ k'.vu = { k.vu with writes := k.vu.writes ++ [I + n] }
          ∧ k'.evs = k.evs ++ [⟨I + n - 1, 2, 0, uVector, k.seq.at slot, .lanes (bitsOf op 23 21) r.1 r.2 false⟩]
          ∧ k'.seq.ports = k.seq.ports ++ [portVector] ∧ k'.jobs = k.jobs ∧ k'.sl = k.sl ∧ k'.tiles = k.tiles
      does (.vuAdd c slot op) 2 (lanes 1) ∧ does (.vuSub c slot op) 2 (lanes 2) ∧ does (.vuMul c slot op) 3 (lanes 3)
        ∧ does (.vuMax c slot op) 2 (lanes 4) ∧ does (.vuMin c slot op) 2 (lanes 5) ∧ does (.vuTab c slot op) 4 (lanes 6)
        ∧ (bitsOf op 20 18 + bitsOf op 17 15 ≤ 7 → does (.vuSumr c slot op) 6 (lanes 7) ∧ does (.vuMaxr c slot op) 6 (lanes 8))
        ∧ does (.vuBci c slot op) 2
            (List.replicate 128 ((BitVec.ofNat 16 ((k.seq.arg (bitsOf op 5 0)).getD 0)).toInt, false), false))
    ∧ (∀ (s : State) (c slot op : Nat), c < 64 → op < 2 ^ 32 → s.mayUse c slot [portVector] →
      let k := s.cl c
      let I := k.seq.cyc
      let pl := k.seq.at slot
      let as := k.seq.arg2 (bitsOf op 5 0)
      let w := (k.seq.arg (bitsOf op 5 0)).getD 0 % 2 ^ 17
      (bitsOf op 5 0 < 63 → bitsOf op 8 7 ≠ 3 → k.vu.portFree ≤ I → (I + 5) ∉ k.vu.writes →
        ∃ k', exec (.vuLd c slot op) s = .next (s.setCl c k')
          ∧ k'.vu = { k.vu with portFree := I + 3, writes := k.vu.writes ++ [I + 5] }
          ∧ k'.jobs = k.jobs.set k.nextJob ⟨.vuLd, pl, op, as, I, ⟨[]⟩, [], none⟩
          ∧ (⟨I + 4, 2, k.nextJob, uVector, pl, .run 0⟩ : Ev) ∈ k'.evs)
        ∧ (k.vu.portFree ≤ I → ∃ k', exec (.vuTld c slot op) s = .next (s.setCl c k')
          ∧ k'.vu = { k.vu with portFree := I + 17 }
          ∧ k'.evs = k.evs ++ (upTo 16).map (fun i => ⟨I + 1 + i, 1, k.nextJob, uVector, pl, .rd i uVector [(w + i) % 2 ^ 17]⟩)
              ++ [⟨I + 16, 2, k.nextJob, uVector, pl, .run 0⟩])
        ∧ (let tgt := bitsOf op 10 9
          let b := 2 * bitsOf op 8 8
          let row := bitsOf op 20 15
          let ds : List Coming := [⟨b, row, I + 2⟩, ⟨b + 1, row, I + 2⟩]
          let ls := k.vu.lane (bitsOf op 23 21)
          tgt ≠ 3 → ∃ k', exec (.vuOut c slot op) s = .next (s.setCl c k')
            ∧ k'.sl = k.sl ∧ k'.seq.due = k.seq.due ++ [⟨slot, kSluiceConflict, tgt, ds⟩]
            ∧ k'.evs = k.evs ++ [⟨I + 2, 0, 0, uVector, pl, .dlv tgt ⟨b, row, laneDlv ls 0⟩⟩,
                ⟨I + 2, 0, 0, uVector, pl, .dlv tgt ⟨b + 1, row, laneDlv ls 1⟩⟩]))

/-- SL.P1, SL.P2, SL.KA and SET_READY (R116, R117, R125, R141, R142): a staging set goes from FREE to FILLING, from FILLING to
READY, and from READY to drained and FREE again. -/
def Obligations.StagingSets : Prop :=
  ∀ (s : State) (c slot op : Nat), c < 64 → op < 2 ^ 32 →
    let k := s.cl c
    let I := k.seq.cyc
    let x := bitsOf op 23 23
    let v := k.sl.set x
    let as := k.seq.arg2 (bitsOf op 5 0)
    let w := (k.seq.arg (bitsOf op 5 0)).getD 0
    (s.mayUse c slot [portSluice] → bitsOf op 22 6 = 0 → slParamsBad w = false → v.st = .free → v.freeAt ≤ I →
        ∃ k', exec (.slP1 c slot op) s = .next (s.setCl c k')
          ∧ k'.sl = k.sl.putSet x ⟨.filling, slParamsOf w, [], ⟨[]⟩, [], 0⟩ ∧ k'.evs = k.evs ∧ k'.jobs = k.jobs)
      ∧ (s.mayUse c slot [portSluice] → bitsOf op 22 6 = 0 → bitsOf op 5 0 < 63 → v.st = .ready → v.lastAt + 6 ≤ I →
        k.sl.outMeets ((upTo v.par.m).map (fun m => I + m + 8)) = false →
        ∃ k', exec (.slP2 c slot op) s = .next (s.setCl c k')
          ∧ k'.sl.set x = { StageSet.reset with freeAt := I + v.par.m }
          ∧ k'.sl.outBusy = k.sl.outBusy ++ (upTo v.par.m).map (fun m => I + m + 8)
          ∧ (lookup k'.jobs.rows k.nextJob) = some ⟨.slP2, k.seq.at slot, op, as, I, ⟨[]⟩, [], some v⟩)
      ∧ (s.mayUse c slot [portSluice] → bitsOf op 22 6 = 0 → bitsOf op 5 0 < 63 → v.st = .ready → v.lastAt + 6 ≤ I →
        k.sl.outMeets ((upTo v.par.m).map (fun m => I + m + 9)) = false →
        ∃ k', exec (.slKa c slot op) s = .next (s.setCl c k')
          ∧ k'.sl.set x = { StageSet.reset with freeAt := I + v.par.m }
          ∧ k'.sl.outBusy = k.sl.outBusy ++ (upTo v.par.m).map (fun m => I + m + 9)
          ∧ (k.sl.maxBad = true → k'.sl.ts = 0xFF))
      ∧ (∀ n, n < 2 → k.seq.st = .running →
        let v := ((s.seal c).cl c).sl.set n
        v.st = .filling → v.posn.length = v.par.m * (v.par.w / 64) →
        let u := s.runTo c (v.lastAt + 6)
        let y := (u.cl c).sl.set n
        y.st = .filling → y.complete = true →
        ∃ k', exec (.setReady c n) s = .next (u.setCl c k') ∧ (k'.sl.set n).st = .ready
          ∧ (k'.sl.set n).scales = ((u.cl c).sl.allScales y.par y.segs).map (fun e => e.2)
          ∧ k'.evs = (u.cl c).evs ∧ k'.seq = (u.cl c).seq)
      ∧ (k.seq.st = .running → k.seq.wait = .none → k.seq.cyc < k.seq.next → k.seq.due ≠ [] →
        k.sl.firstRefused k.seq.due = none →
        exec (.nop c op) s = exec (.nop c op) ((s.updSeq c (fun q => { q with due := [] })).updCl c (fun k' =>
          { k' with sl := k.sl.reserves k.seq.due })))

/-- SL.TLD, SL.ZLD, SL.KL, SL.SEED and SL.KU (R118, R131, R139, R140, R143): the words that they read and the c-cycle in which
they take effect. -/
def Obligations.SluiceLoads : Prop :=
  ∀ (s : State) (c slot op : Nat), c < 64 → op < 2 ^ 32 → s.mayUse c slot [portSluice] →
    let k := s.cl c
    let I := k.seq.cyc
    let pl := k.seq.at slot
    let w := (k.seq.arg (bitsOf op 5 0)).getD 0
    let n := bitsOf op 22 17 + 1
    let goes := fun (i : Instr) (kind : JobKind) (evs : List Ev) => ∃ k', exec i s = .next (s.setCl c k')
        ∧ k'.jobs = k.jobs.set k.nextJob ⟨kind, pl, op, [w], I, ⟨[]⟩, [], none⟩ ∧ k'.evs = k.evs ++ evs ∧ k'.sl = k.sl
    let word : List Ev := [⟨I + 1, 1, k.nextJob, uSluice, pl, .rd 0 uSluice [w % 2 ^ 17]⟩, ⟨I + 2, 2, k.nextJob, uSluice, pl, .run 0⟩]
    (bitOf op 23 = false → bitsOf op 16 6 = 0 → bitsOf w 22 17 + n ≤ 64 → goes (.slTld c slot op) .slTld
        ((upTo n).map (fun i => ⟨I + 1 + i, 1, k.nextJob, uSluice, pl, .rd i uSluice [(w % 2 ^ 17 + i) % 2 ^ 17]⟩)
          ++ [⟨I + n + 1, 2, k.nextJob, uSluice, pl, .run 0⟩]))
      ∧ (bitOf op 23 = false → bitsOf op 19 6 = 0 → goes (.slZld c slot op) .slZld word)
      ∧ (bitsOf op 23 6 = 0 → goes (.slKl c slot op) .slKl word)
      ∧ (bitOf op 23 = false → bitsOf op 20 6 = 0 → bitsOf op 22 21 ≠ 3 →
        goes (.slSeed c slot op) .slSeed [⟨I, 2, k.nextJob, uSluice, pl, .run 0⟩])
      ∧ (bitsOf op 23 6 = 0 → goes (.slKu c slot op) .slKu [⟨I + 20, 0, k.nextJob, uSluice, pl, .run 0⟩])

/-- SL.CV and ED.ATT (R116, R127, R144 to R158). -/
def Obligations.DirectPathAndEddy : Prop :=
  ∀ (s : State) (c slot op : Nat), c < 64 → op < 2 ^ 32 →
    let k := s.cl c
    let I := k.seq.cyc
    (let bl := k.seq.argBlock (bitsOf op 5 0) 4
      let w := fun (i : Nat) => (bl.getD []).getD i 0
      s.mayUse c slot [portSluice] → bl ≠ none → bitsOf op 23 6 = 0 → slParamsBad (w 0) = false → bitOf (w 0) 31 = false →
      bitsOf (w 3) 31 26 = 0 → bitOf (w 3) 8 = false → k.sl.direct.isOpen = false →
        ∃ k', exec (.slCv c slot op) s = .next (s.setCl c k')
          ∧ k'.sl = { k.sl with direct := ⟨true, slParamsOf (w 0), bitsOf (w 1) 16 0, bitsOf (w 1) 31 17, bitsOf (w 2) 16 0,
              kcOf (w 2), bitsOf (w 2) 31 18, [bitsOf (w 3) 7 0], [], I + 1, [], ⟨[]⟩, [], []⟩ }
          ∧ k'.evs = k.evs ∧ k'.jobs = k.jobs)
      ∧ (let bl := k.seq.argBlock (bitsOf op 5 0) 8
        let as := bl.getD []
        let p := edParOf op as
        s.mayUse c slot [portEddy] → bl ≠ none → edBad op as = false → k.ed.next ≤ I → (k.ed.set p.st).refuses p I = false →
          ∃ k', exec (.edAtt c slot op) s = .next (s.setCl c k')
            ∧ k'.jobs = k.jobs.set k.nextJob ⟨.edAtt, k.seq.at slot, op, as, I, ⟨[]⟩, [], none⟩
            ∧ k'.ed.next = I + 16 + p.nb * p.cb ∧ (k'.ed.set p.st).live = true ∧ (k'.ed.set p.st).fin = p.fin
            ∧ (k'.ed.set p.st).chain = p.chain
            ∧ k'.sl = k.sl ∧ k'.seq.due = (if p.fin then k.seq.due ++ [⟨slot, kEddyConflict, p.tgt, p.coming I⟩] else k.seq.due))

/-- ST.RING, ST.WIN, ST.RPK, ST.TRP, RD.SUM, EG.RUN and EG_RUN_COMPLETE (R183 to R210, R237 to R241). -/
def Obligations.StripeReductionAndEdge : Prop :=
  (∀ (s : State) (c slot op : Nat), c < 64 → op < 2 ^ 32 → s.mayUse c slot [portStripe] →
      let k := s.cl c
      let I := k.seq.cyc
      let pl := k.seq.at slot
      k.stp.next ≤ I →
      let goes := fun (i : Instr) (kind : JobKind) (as : List Nat) (last next : Nat) => ∃ k', exec i s = .next (s.setCl c k')
        ∧ k'.jobs = k.jobs.set k.nextJob ⟨kind, pl, op, as, I, ⟨[]⟩, [], none⟩
        ∧ k'.stp = { k.stp with lastOp := last, next := next } ∧ k'.sl = k.sl ∧ k'.tiles = k.tiles
      let a2 := k.seq.arg2 (bitsOf op 5 0)
      let a4 := (k.seq.argBlock (bitsOf op 5 0) 4).getD []
      goes (.stRing c slot op) .stRing [(k.seq.arg (bitsOf op 5 0)).getD 0 % 2 ^ 17] 1 (I + 2)
        ∧ (let p := winParOf op (a2.getD 0 0) (a2.getD 1 0)
          bitsOf op 5 0 < 63 → k.stp.rings.has p.ring = true → goes (.stWin c slot op) .stWin a2 2 (I + p.m))
        ∧ (let p := rpkParOf op a4
          bitsOf op 5 0 < 61 → (p.c32 = true ∨ a4.getD 3 0 % 2 ^ 17 = 0) → k.stp.rings.has p.ring = true →
            goes (.stRpk c slot op) .stRpk a4 3 (I + 1 + p.npx * (k.stp.ring p.ring).ppw))
        ∧ (let p := trpParOf op a4
          bitsOf op 5 0 < 61 → k.stp.rings.has p.ring = true → goes (.stTrp c slot op) .stTrp a4 4 (I + 64)))
    ∧ ((∀ (s : State) (c slot op : Nat), c < 64 → op < 2 ^ 32 → s.mayUse c slot [portReduction] →
      let k := s.cl c
      let I := k.seq.cyc
      let a0 := (k.seq.arg (bitsOf op 5 0)).getD 0
      let p := rdParOf op a0
      let dest := (s.hostOf p.dest).getD c
      let cl : Claim := ⟨resRed dest p.input, I + 5 + redDelay c dest, 1, p.n, c, k.nextJob⟩
      s.rdBad c op a0 = false → k.red.next ≤ I →
      (p.remote = true → s.claimMeets [cl] = none) →
        ∃ t, exec (.rdSum c slot op) s = .next t ∧ (t.cl c).red.next = I + p.n
          ∧ lookup (t.cl c).jobs.rows k.nextJob = some ⟨.rdSum, k.seq.at slot, op, [a0], I, ⟨[]⟩, [dest], none⟩
          ∧ t.claims = (if p.remote then s.claims ++ [cl] else s.claims)
          ∧ (t.cl c).sl = k.sl ∧ (t.cl c).seq.due
            = (if p.remote then k.seq.due else k.seq.due ++ [⟨slot, kSluiceConflict, p.tgt, p.coming I⟩])
          ∧ t.mem = s.mem ∧ t.regs = s.regs ∧ ∀ d, d ≠ c → t.cl d = s.cl d)
      ∧ (∀ (s : State) (c slot op : Nat), c < 64 → op < 2 ^ 32 → s.mayUse c slot [portEdgeEngine] →
        let k := s.cl c
        let w := (k.seq.arg (bitsOf op 5 0)).getD 0 % 2 ^ 17
        let st := regEe (dieOf c) 4
        s.fld st 0 0 = 0 → bitOf (s.reg (regEe (dieOf c) 0)).toNat (c % 16) = true →
          ∃ t, exec (.egRun c slot op) s = .next t ∧ t.fld st 0 0 = 1 ∧ t.fld st 7 4 = c % 16
            ∧ lookup (t.cl c).jobs.rows k.nextJob = some ⟨.edge, k.seq.at slot, op, [w], k.seq.cyc, ⟨[]⟩, [], none⟩
            ∧ t.mem = s.mem ∧ (∀ off, off ≠ st → t.reg off = s.reg off) ∧ ∀ d, d ≠ c → t.cl d = s.cl d)
      ∧ (∀ (s : State) (c id : Nat) (j : Job), c < 64 →
        (s.cl c).jobs.rows.find? (fun e => e.2.kind = .edge) = some (id, j) →
        let u := s.runTo c (j.issued + 2)
        ∀ j', lookup (u.cl c).jobs.rows id = some j' →
          exec (.egRunComplete c) s = .next (u.runTo c (j'.edgeDesc.endAt j'.issued + 1))))

/-! ### Releases, the start of a program and copies (spec/07, spec/08) -/

/-- WAITC_RELEASE, WAITG_RELEASE, WAITX_RELEASE, WAITB_RELEASE and FENCE_RELEASE (R227, R229): the held bundle issues in the
first c-cycle in which what it waits for is there, and not before the c-cycle from which it may issue. -/
def Obligations.ReleasedBundles : Prop :=
  ∀ (s : State) (c t : Nat), c < 64 → (s.cl c).seq.st = .running →
    let q := (s.cl c).seq
    let u := s.openAt c (max t q.next)
    (q.wait = .waitC → ((s.runTo c q.next).cl c).seq.st = .running →
        exec (.waitcRelease c) s = .next ((s.runTo c q.next).updSeq c (fun q => { q with wait := .none, isOpen := false })))
      ∧ (q.wait = .waitG → q.gflags.getLsbD q.waitArg = true → u.issuing c = true →
        exec (.waitgRelease c t) s
          = .next (u.updSeq c (fun r => { r with gflags := r.gflags &&& ~~~ BitVec.ofNat 64 (2 ^ q.waitArg) })))
      ∧ (q.wait = .waitB → q.seen.get q.waitArg 0 < s.blockNo.get q.waitArg 0 → u.issuing c = true →
        exec (.waitbRelease c t) s
          = .next (u.updSeq c (fun r => { r with seen := r.seen.set q.waitArg (r.seen.get q.waitArg 0 + 1) })))
      ∧ (∀ n v, q.wait = .waitX → State.settleTags c q.waitArg flushFuel s = some (n, v) → (v.cl c).seq.st = .running →
        exec (.waitxRelease c) s = .next (v.openAt c (max n (v.cl c).seq.next)))
      ∧ (∀ v, q.wait = .fence → v = State.settleUnits c q.waitArg flushFuel s → (v.cl c).seq.st = .running →
        exec (.fenceRelease c) s = .next (v.openAt c (max ((v.cl c).seq.unitsDone q.waitArg) (v.cl c).seq.next)))

/-- START_RECORD, BAR_RELEASE, END_COMPLETION and WAIT_TIMEOUT (R216, R227, R230, R265, R521). -/
def Obligations.ProgramsStartAndEnd : Prop :=
  ∀ (s : State) (c : Nat), c < 64 →
    let q := (s.cl c).seq
    (∀ r : StartRecord, r.gen = s.fld (regCl c 0x0C) 7 0 → (q.st = .idle ∨ q.st = .ended) →
      ∃ t, exec (.startRecord c r) s = .next t ∧ (t.cl c).seq.st = .running ∧ (t.cl c).seq.wait = .none ∧ (t.cl c).seq.pc = r.pc
        ∧ (t.cl c).seq.next = max r.at_ q.ran
        ∧ (∀ i, (t.cl c).seq.args.get i 0 = if i < 8 then r.args.getD i 0 else 0)
        ∧ (t.cl c).seq.gflags = r.flags ∧ (t.cl c).seq.tags = 0 ∧ (t.cl c).cp.jobs = [] ∧ (t.cl c).evs = []
        ∧ t.reg (regCl c 4) = 0 ∧ t.mem = s.mem ∧ t.net = s.net ∧ ∀ d, d ≠ c → t.cl d = s.cl d)
      ∧ (∀ r : StartRecord, r.gen ≠ s.fld (regCl c 0x0C) 7 0 →
        exec (.startRecord c r) s
          = .next (s.send c 0x13 ((s.reg (regCl c 4)).toNat % 2 ^ 24) true (s.ctxsOfCluster c)))
      ∧ (∀ n, q.st = .running → q.wait = .bar →
        let hs := (upTo 64).filter (fun h => bitOf (q.waitArg / 16) h)
        let ks := hs.filterMap (fun h => s.hostOf h)
        let last := fun (k : Nat) => (ks.filter (fun j => dieOf j = dieOf k)).foldl (fun a j => max a (s.cl j).seq.next) 0
        (∀ h ∈ hs, ∃ k, s.hostOf h = some k ∧ (s.cl k).seq.st = .running ∧ (s.cl k).seq.wait = .bar
            ∧ (s.cl k).seq.waitArg = q.waitArg) →
          exec (.barRelease c n) s
            = .next (ks.foldl (fun (u : State) k => u.openAt k (max (last k + n) (u.cl k).seq.next)) s))
      ∧ (q.st = .running → q.wait = .ending → ((s.flush c).cl c).seq.st = .running → ((s.flush c).cl c).seq.tags = 0 →
        ((s.flush c).cl c).jobs.rows = [] →
          exec (.endCompletion c) s = .next (((s.flush c).updSeq c (fun q =>
            { q with st := .ended, wait := .none, isOpen := false })).programEnded c))
      ∧ (q.st = .running →
        let late := q.waitSince + 50000 * max 1 (s.fld (regCl c 8) 15 0) < s.ticks
        let u := s.flush c
        (¬ (s.syncWait c = true ∧ late) → exec (.waitTimeout c) s = .next s)
            ∧ (s.syncWait c = true → late → (u.cl c).seq.st = .running → u.syncWait c = true →
              ∃ t, exec (.waitTimeout c) s = .next t ∧ (t.cl c).seq.st = .stopped
              ∧ (t.cl c).evs = [] ∧ (t.cl c).jobs.rows = []
              ∧ t.reg (regCl c 4) = BitVec.ofNat 32 (0x11 * 2 ^ 24 + (u.cl c).seq.pcLast.toNat * 2 ^ 8)
              ∧ t.net.length = u.net.length + 1 ∧ t.mem = u.mem))

/-- CP.RUN, PULL_LANDING, PULL_COMMIT, OUTBOUND_COMPLETE and COPY_DEADLINE (R240, R258 to R270, R279 to R281, R514). -/
def Obligations.CopiesOfACluster : Prop :=
  ∀ (s : State) (c : Nat), c < 64 →
    (∀ (slot op : Nat) (inbound : Bool), op < 2 ^ 32 → s.mayUse c slot [if inbound then portCopyIn else portCopyOut] →
      let k := s.cl c
      let I := k.seq.cyc
      let w := (k.seq.arg (bitsOf op 5 0)).getD 0
      let tag := bitsOf op 23 20
      let unit := if inbound then uCopyIn else uCopyOut
      bitsOf op 27 24 = 0 → bitsOf op 19 6 = 0 → w % 2 = 0 → k.seq.tags.getLsbD tag = false →
      (k.cp.jobs.filter (fun j => j.inbound = inbound)).length < 4 →
        ∃ k', exec (.cpRun c slot inbound op) s = .next (s.setCl c k')
          ∧ k'.seq.tags = k.seq.tags ||| BitVec.ofNat 16 (2 ^ tag)
          ∧ (∃ e ∈ k'.cp.jobs, e.tag = tag ∧ e.inbound = inbound ∧ e.issued = I ∧ e.word = w % 2 ^ 17 ∧ e.desc = none)
          ∧ k'.evs = k.evs ++ [⟨I + 1, 1, k.nextJob, unit, k.seq.at slot, .rd 0 unit [w % 2 ^ 17, w % 2 ^ 17 + 1]⟩,
              ⟨I + 1, 2, k.nextJob, unit, k.seq.at slot, .run 0⟩])
      ∧ (∀ tag gen l ok host, tag < 16 → gen < 256 → gen ≠ s.genOf c →
        exec (.pullLanding c tag gen l ok host) s = .next (s.bump (regCl c 0x0C) 23 16 1))
      ∧ (∀ (tag l : Nat) (ok : Bool) (host : List Byte) (e : CopyJob) (d : CopyDesc), tag < 16 →
        let u := s.catchUp c l
        let r := if e.sent then (e.rows, e.comp, true, u) else u.pullData c d ok host
        u.copyOf c tag = some e → e.desc = some d → e.inbound = true → e.landed = false → (e.mcNo ≠ 0 → e.sent = true) →
        u.mode ≠ 2 → u.copyWaits c e = false → r.2.2.1 = true → max l (e.issued + 2) ≤ e.deadline →
          exec (.pullLanding c tag (s.genOf c) l ok host) s = .next (r.2.2.2.updCopy c e.order (fun x =>
            { x with landed := true, doneAt := max l (e.issued + 2), rows := r.1, comp := r.2.1, sent := true })))
      ∧ (∀ (e : CopyJob) (d : CopyDesc),
        ((s.cl c).cp.jobs.filter (fun e => e.inbound)).find? (fun e => !e.fixed) = some e → e.desc = some d →
        s.commitWords d e ≠ [] → e.landed = true → (s.cl c).seq.st = .running → (s.cl c).seq.wait = .ending →
        (s.strict = true → e.passed = true) →
          ∃ k', exec (.pullCommit c) s = .next (s.setCl c k')
            ∧ (∀ x ∈ k'.cp.jobs, x.order = e.order → x.fixed = true)
            ∧ (∀ x ∈ k'.evs, x ∉ (s.cl c).evs → e.doneAt ≤ x.at_ ∧ (s.strict = true → e.deadline ≤ x.at_)))
      ∧ (∀ (tag : Nat) (e : CopyJob), tag < 16 → s.copyOf c tag = some e → e.desc.isSome = true → s.strict = false →
        exec (.copyDeadline c tag) s = .next (s.updCopy c e.order (fun x => { x with passed := true })))

/-- OUTBOUND_COMPLETE, MCAST_PULL, SERVICE_ACCESS and CL_MEMCLR (R251, R266, R269, R271). -/
def Obligations.OutboundMulticastAndService : Prop :=
  (∀ (s : State) (c tag n : Nat) (e : CopyJob) (d : CopyDesc), c < 64 → tag < 16 →
    let u := s.catchUp c n
    let m := max n (e.lastRead + 1)
    u.copyOf c tag = some e → e.desc = some d → e.inbound = false → e.sent = true → e.doneAt = 0 → d.kind = 0 → e.remote = none →
    u.copyWaits c e = false → u.irqUp = true → m ≤ e.deadline →
      let v := (u.outWrite c d e.rows e.comp).updCopy c e.order (fun x => { x with landed := true, doneAt := m })
      v.strict = false →
        exec (.outboundComplete c tag n) s = .next ((v.updCopy c e.order (fun x => { x with fixed := true })).tagAt c m 0
          uCopyOut e.place e.tag))
    ∧ (∀ (s : State) (mask : Nat) (ok : Bool) (host : List Byte), mask < 2 ^ 64 →
      let hs := (upTo 64).filter (fun h => bitOf mask h)
      ((hs = [] ∨ ∃ h ∈ hs, s.hostOf h = none) → exec (.mcastPull mask ok host) s = .next s)
        ∧ ∀ (c : Nat) (e : CopyJob) (d : CopyDesc) (es : List (Nat × CopyJob)), hs.map s.hostOf = some c :: es.map (fun x => some x.1) →
          e.desc = some d → s.mode ≠ 2 →
          (∀ x ∈ (c, e) :: es, (s.cl x.1).cp.jobs = [x.2] ∧ x.2.mcNo = 1 ∧ x.2.sent = false
            ∧ ∃ y, x.2.desc = some y ∧ y.kind = 1 ∧ y.mask = mask ∧ y.mcKey = d.mcKey) →
          let r := s.pullData c d ok host
          exec (.mcastPull mask ok host) s = .next (((c, e) :: es).foldl (fun (u : State) x =>
            let v := u.updCopy x.1 x.2.order (fun j => { j with sent := true, rows := r.1, comp := r.2.1 })
            if r.2.2.1 then v else v.send x.1 0x26 x.2.addr true (v.ctxsOfCluster x.1)) r.2.2.2))
    ∧ (∀ (s : State) (c w : Nat), c < 64 → w < 2 ^ 17 → (s.cl c).seq.st ≠ .running →
      exec (.serviceAccess c w none) s = .next (s.noteReads c [w])
        ∧ ∀ bs : List Byte, bs.length = 32 → ∃ t, exec (.serviceAccess c w (some bs)) s = .next t
          ∧ (∀ i, i < 32 → t.byte (clKey c (32 * w) + i) = bs.getD i 0)
          ∧ ∀ a, (a < clKey c (32 * w) ∨ clKey c (32 * w) + 32 ≤ a) → t.byte a = s.byte a)
    ∧ (∀ (s : State) (c : Nat), c < 64 → exec (.clMemclr c) s = .next (s.setReg (regCl c 0x200) 0))

/-! ### The host interface (spec/11) -/

/-- SQ_TAIL, CQ_HEAD, ENABLE, DISABLE, ABORT and the context RESET (R329 to R333, R340, R343). -/
def Obligations.ContextCommands : Prop :=
  ∀ (s : State) (c : Nat), c < 256 →
    (∀ v : BitVec 16, s.host.d3 = false → s.ctxState c = 1 → v.toNat < s.sqSize c →
      ∃ t : State, exec (.sqTail c v) s = .next t ∧ t.fld (regDb c 0) 15 0 = v.toNat ∧ t.hostLoss c = false
        ∧ (∀ off, off ≠ regDb c 0 → off ≠ regCtx c 4 → t.reg off = s.reg off)
        ∧ t.mem = s.mem ∧ t.clusters = s.clusters ∧ t.host.journal = s.host.journal)
      ∧ (∀ v : BitVec 16, (s.ctxState c ≠ 1 ∨ s.sqSize c ≤ v.toNat) →
        exec (.sqTail c v) s = .next ((s.ringBell c).orReg (regCtx c 4) 0x100))
      ∧ (∀ v : BitVec 16, s.host.d3 = false → s.ctxState c = 1 → v.toNat < s.cqSize c →
        let n := (v.toNat + s.cqSize c - s.fld (regDb c 4) 15 0) % s.cqSize c
        n ≤ (s.hctx c).used.length →
          ∃ t : State, exec (.cqHead c v) s = .next t ∧ t.fld (regDb c 4) 15 0 = v.toNat ∧ (t.hctx c).used = (s.hctx c).used.drop n
            ∧ (∀ e, e ∈ t.host.journal ↔ e ∈ s.host.journal ∧ ¬ (e.ctx = c ∧ some e.seq ∈ (s.hctx c).used.take n))
            ∧ t.mem = s.mem ∧ t.clusters = s.clusters)
      ∧ (s.ctxState c = 0 → s.fld (regPw 8) 1 0 = 0 → s.enableRefused c = false →
        ∃ t : State, exec (.enable c) s = .next t ∧ t.ctxState c = 1 ∧ t.reg (regDb c 0) = 0 ∧ t.reg (regDb c 4) = 0
          ∧ t.reg (regDb c 8) = 0 ∧ (∀ e ∈ t.host.journal, e.ctx = c → e.out.isSome = true ∧ e.resent = true)
          ∧ t.clusters = s.clusters ∧ t.runs = s.runs)
      ∧ (s.ctxState c = 0 → s.fld (regPw 8) 1 0 = 0 → s.enableRefused c = true →
        exec (.enable c) s = .next ((s.orReg (regCtx c 4) 0x40).send (0x500 + c) 0x4B 0 true [c]))
      ∧ (s.ctxState c ≠ 0 → exec (.enable c) s = .next (s.orReg (regCtx c 4) 0x80)
        ∧ exec (.contextReset c) s = .next (s.orReg (regCtx c 4) 0x80))
      ∧ (s.ctxState c = 1 → s.undecided c ≠ [] → exec (.disable c) s = .next (s.setFld (regCtx c 4) 1 0 2))
      ∧ (s.ctxState c = 1 → s.undecided c = [] → ∃ t : State, exec (.disable c) s = .next t ∧ t.ctxState c = 0 ∧ t.runs = s.runs
        ∧ t.clusters = s.clusters)
      ∧ ((∀ e ∈ s.host.journal, ∀ x ∈ s.host.journal, e.ctx = c → x.ctx = c → e.seq = x.seq → e = x) →
        (s.ctxState c = 1 ∨ s.ctxState c = 2) → ∃ t : State, exec (.abort c) s = .next t ∧ t.ctxState c = 0 ∧ t.undecided c = []
        ∧ (∀ r ∈ t.runs, r.ctx ≠ c) ∧ ∀ d ∈ t.decs, d.ctx ≠ c)
      ∧ (s.ctxState c = 0 → ∃ t : State, exec (.contextReset c) s = .next t ∧ t.ctxState c = 0 ∧ t.reg (regCtx c 0x80) = 0
        ∧ t.reg (regCtx c 0x84) = 0 ∧ t.clusters = s.clusters ∧ t.host.journal = s.host.journal)

/-- ACCEPT, OUTCOME_RECORD and MSIX_HOLDOFF_EXPIRY, and the host's losses and returns (R328, R339 to R345). -/
def Obligations.AcceptanceAndRecords : Prop :=
  ∀ (s : State),
    (∀ (c p : Nat) (d : List Byte), c < 256 → p < 16 → d.length = 64 → s.mode ≠ 2 → s.mayAccept c = true →
      s.fld (regDb c 8) 15 0 ≠ s.fld (regDb c 0) 15 0 → s.decodeFull d = false → s.descMalformed d = false →
        ∃ (t : State) (e : JEntry), exec (.accept c true d p) s = .next t ∧ t.host.journal = s.host.journal ++ [e] ∧ e.ctx = c ∧ e.seq = s.ctxSeq c
          ∧ e.desc = d ∧ e.stamp = s.stampAt p ∧ e.out = none ∧ e.started = false
          ∧ t.ctxSeq c = (s.ctxSeq c + 1) % 2 ^ 48 ∧ t.fld (regDb c 8) 15 0 = (s.fld (regDb c 8) 15 0 + 1) % s.sqSize c
          ∧ t.clusters = s.clusters ∧ t.runs = s.runs)
      ∧ (∀ (c p : Nat) (d : List Byte), c < 256 → p < 16 → d.length < 2 ^ 16 → s.mode ≠ 2 →
        (s.mayAccept c = false ∨ s.fld (regDb c 8) 15 0 = s.fld (regDb c 0) 15 0) →
          ∀ ok, exec (.accept c ok d p) s = .next (s.keepCount c))
      ∧ (∀ (c : Nat) (e : JEntry) (o : HostOut), c < 256 → s.canRecord c = true → (s.hctx c).frames = [] →
        s.nextOutcome c = some (e, o) →
          let u := s.putRecord c (some e.seq) (cqRecord e.seq o.kind o.code (fieldAt e.desc 4 4) o.rd
            (o.flags + (if e.resent then 32 else 0)) o.aux)
          let v := u.updEntry c e.seq (fun x => { x with written := true })
          exec (.outcomeRecord c) s = .next (if o.kind = 3 ∨ bitOf (fieldAt e.desc 1 1) 1 = true then v.ctxIrq c else v))
      ∧ (∀ v, v < 257 → (s.irq v).hold = true → (s.irq v).due = true → s.irqUp = true → ∃ t : State, exec (.msixHoldoffExpiry v) s = .next t
        ∧ (t.irq v).sent = (s.irq v).sent + 1 ∧ (t.irq v).due = false ∧ t.regs = s.regs ∧ t.host.journal = s.host.journal)
      ∧ (∀ v, v < 257 → (s.irq v).hold = true → (s.irq v).due = false →
        exec (.msixHoldoffExpiry v) s = .next (s.setIrq v { s.irq v with hold := false }))
      ∧ (∀ kind, kind < 3 → ∃ t : State, exec (.hostLoss kind) s = .next t ∧ (∀ c, c < 256 → t.hostLoss c = true)
        ∧ t.host.down = (s.host.down || decide (kind ≠ 2)) ∧ t.host.journal = s.host.journal ∧ t.runs = s.runs
        ∧ t.clusters = s.clusters ∧ t.mem = s.mem)
      ∧ (s.host.down = true → ∃ t : State, exec .pcieLinkUp s = .next t ∧ t.host.down = false ∧ t.host.journal = s.host.journal
        ∧ t.regs = s.regs ∧ t.clusters = s.clusters)
      ∧ (s.host.d3 = false → ∃ t : State, exec .d3hotEntry s = .next t ∧ t.host.d3 = true ∧ (∀ c, c < 256 → t.hostLoss c = true)
        ∧ t.host.journal = s.host.journal ∧ t.clusters = s.clusters ∧ t.mem = s.mem)
      ∧ (s.host.d3 = true → ∃ t : State, exec .d0Return s = .next t ∧ t.host.d3 = false ∧ t.clusters = s.clusters ∧ t.runs = s.runs)

/-- Descriptors that load, copy or do nothing (R335 to R338, R347). -/
def Obligations.LoadAndCopyDescriptors : Prop :=
  ∀ (s : State) (c seq : Nat) (e : JEntry), c < 256 → seq < 2 ^ 48 → s.entry c seq = some e →
    (∀ v i, (e.typ = 1 ∧ i = .loadp c seq ∨ e.typ = 2 ∧ i = .loadw c seq) → e.out = none → e.started = false →
      (v = s.updEntry c seq (fun x => { x with started := true })) →
        (e.busy = true → exec i s = .next (s.status c seq 1))
          ∧ (e.busy = false → e.typ = 2 → s.bankArmed c (fieldAt e.desc 8 1) = true → exec i s = .next (s.status c seq 7))
          ∧ (e.busy = false → (e.typ = 2 → s.bankArmed c (fieldAt e.desc 8 1) = false) → s.mayStart e = true →
            exec i s = .next (if s.hostMoveOk e then v.setImage c e.imageNo 2 else s.status c seq 3)))
      ∧ (e.typ = 0 → s.mayStart e = true → exec (.descriptorNop c seq) s = .next (s.status c seq 0))
      ∧ (e.typ = 4 → s.mayStart e = true → exec (.copy c seq) s = .next
        (if s.hostMoveOk e then s.updEntry c seq (fun x => { x with started := true }) else s.status c seq 3))
      ∧ (∀ ok data, (e.typ = 2 ∨ e.typ = 4) → e.out = none → e.started = true → s.mode ≠ 2 → s.irqUp = true → s.strict = false →
        let src := fieldAt e.desc 16 8
        let dst := fieldAt e.desc 24 8
        let n := fieldAt e.desc 32 4
        let host := decide (gaSpace src = 4)
        (host = true → ok = true ∧ data.length = n) →
          let r := { s with actor := [] }.transferRead c seq src n host false data
          let u := r.2.writeFor c (gaSpace dst) (gaOff dst) r.1
          (e.typ = 4 → exec (.hostTransferComplete c seq ok data) s
              = .next (u.done1 c seq 0 (if r.1.any (fun b => b.2) then 1 else 0) [] 0))
            ∧ (e.typ = 2 → fieldAt e.desc 8 1 < 8 → ∃ t : State, exec (.hostTransferComplete c seq ok data) s = .next (t.status c seq 0)
              ∧ t.bankState c (fieldAt e.desc 8 1) = 1 ∧ t.mem = u.mem ∧ t.image c e.imageNo = ⟨gaOff dst, n, sha256 data⟩))

/-- KVOP, DISARM and DECODE (R167, R172 to R177, R349). -/
def Obligations.ManagerAndStreamDescriptors : Prop :=
  ∀ (s : State) (c seq : Nat) (e : JEntry), c < 256 → seq < 2 ^ 48 → s.entry c seq = some e →
    let f := fun (o n : Nat) => fieldAt e.desc o n
    (∀ i op r, ((op = 1 ∧ i = .kvopShare c seq ∧ r = s.kvShare (f 10 1) (f 11 1) (f 12 2) c (f 9 1) (f 16 2) (f 14 2) (seq % 2 ^ 32))
        ∨ (op = 2 ∧ i = .kvopRelease c seq ∧ r = s.kvRelease c (f 9 1) (f 12 2) (f 14 2) (seq % 2 ^ 32))
        ∨ (op = 3 ∧ i = .kvopTruncate c seq ∧ r = s.kvTruncate c (f 9 1) (f 20 4) (seq % 2 ^ 32))) →
      e.typ = 6 → f 8 1 = op → s.mayStart e = true →
        exec i s = .next (if r.1 then r.2.status c seq 0 else r.2.done1 c seq 6 0 [] (r.2.fld (regCtx c 0x40C) 31 28)))
      ∧ (e.typ = 7 → s.mayStart e = true →
        let named := fun (r : RunRec) => r.ctx = c ∧ r.seq = f 8 6
        ((∃ r ∈ s.runs, named r ∧ r.standing = true) → ∃ t : State, exec (.disarm c seq) s = .next ((t.status c (f 8 6) 0).status c seq 0)
            ∧ (∀ r, r ∈ t.runs ↔ r ∈ s.runs ∧ ¬ named r) ∧ t.host = s.host ∧ t.regs = s.regs ∧ t.clusters = s.clusters)
          ∧ ((∀ r ∈ s.runs, named r → r.standing = false) → exec (.disarm c seq) s = .next (s.status c seq 2)))
      ∧ (let b := f 8 1
        let nch := s.fld (regBat b 8) 31 24
        let inp := f 16 8
        let out := f 24 8
        (e.typ = 5 → s.mayStart e = true → s.inWindows c 0 (gaOff inp) (32 * nch) false = true →
          s.inWindows c (gaSpace out) (gaOff out) 1 true = true →
            ∃ t : State, exec (.decode c seq none) s = .next t
              ∧ t.host.reqs.get b [] = s.host.reqs.get b [] ++ [⟨c, seq, inp, out, e.stamp, false⟩]
              ∧ t.mem = s.mem ∧ t.regs = s.regs ∧ t.runs = s.runs)
          ∧ ∀ bs : List (Byte × Bool), e.typ = 5 → e.out = none →
            (∃ r : DecReq, r ∈ s.host.inBlock.get b [] ∧ r.ctx = c ∧ r.seq = seq) →
            s.inWindows c (gaSpace out) (gaOff out) bs.length true = true →
              ∃ u : State, exec (.decode c seq (some bs)) s = .next ((u.writeFor c (gaSpace out) (gaOff out) bs).status c seq 0)
                ∧ (∀ r : DecReq, r ∈ u.host.inBlock.get b [] → ¬ (r.ctx = c ∧ r.seq = seq)) ∧ u.mem = s.mem ∧ u.regs = s.regs)

/-- RUN and RD_READY (R293, R338, R342, R349). -/
def Obligations.RunsOfAContext : Prop :=
  ∀ (s : State) (c seq : Nat), c < 256 → seq < 2 ^ 48 →
    (∀ (e : JEntry) (t : Nat) (homes : List Nat), s.entry c seq = some e → e.typ = 3 → s.mayStart e = true →
      let f := fun (o n : Nat) => fieldAt e.desc o n
      let h := s.slotHdr c (f 8 1)
      s.slotState c (f 8 1) = 1 → s.bankState c (f 9 1) = 1 → f 40 4 = 0 → f 56 4 = 0 → s.pickPlacement h = some homes →
      (∀ k ∈ homes, s.clMask c k = true) → (s.placeSecs (entrySecs h (f 10 1)) homes).isSome = true →
      (f 10 1 = 0xFF ∨ f 10 1 < h.nlc) →
        let r : RunRec :=
          { ctx := c, seq := seq, slot := f 8 1, bank := f 9 1, standing := bitOf (f 1 1) 2, homes := homes, entry := f 10 1,
            args := (upTo 4).map (fun i => f (16 + 4 * i) 4), res := (f 32 8, 0), sc := (f 48 8, 0),
            step := ⟨false, 0, 0, 0, 0, [], [], [], false, false, 0, [], 0⟩, nextNo := 0, held := none, redo := [], begun := [] }
        let u := { s with runs := s.runs ++ [r] }
        let started := fun (v : State) => v.updEntry c seq (fun x => { x with started := true })
        (r.standing = true → exec (.run c seq t) s = .next ((started u).reportPlacement c (f 8 1) homes))
          ∧ (∀ v, r.standing = false → u.startStep r ((s.capSeq e.cap).getD 0) e.stamp t = (true, v) →
            exec (.run c seq t) s = .next (started v)))
      ∧ (∀ (e : JEntry) (t : Nat), s.entry c seq = some e → e.typ = 3 → s.mayStart e = true →
        (s.slotState c (fieldAt e.desc 8 1) ≠ 1 ∨ s.bankState c (fieldAt e.desc 9 1) ≠ 1) →
          exec (.run c seq t) s = .next (s.status c seq 4))
      ∧ (∀ (no : Nat) (e : StepEnd), s.host.ends = [e] → e.ctx = c → e.seq = seq → e.no = no → e.hashing = true → e.standing = false →
        s.epochOpen c e.slot no = false →
        (∀ r q : List (Byte × Bool), s.regionBytes c e.res.1 e.res.2 = (r, s) → s.regionBytes c e.sc.1 e.sc.2 = (q, s) →
          ∃ u : State, exec (.rdReady c seq no) s = .next (u.done1 c seq 0 (e.flags + 64)
            (s.rdOf c (s.image c e.slot).digest (s.image c (16 + e.bank)).digest e.horizon ((r ++ q).map (fun x => x.1))) 0)
            ∧ u.host.ends = [] ∧ u.host.journal = s.host.journal ∧ u.mem = s.mem ∧ u.regs = s.regs))

/-! ### The KV page manager and the sensor ports (spec/05, spec/12) -/

/-- KV_SHARE, KV_RELEASE, KV_TRUNCATE, KV_WRITE, KV_INIT and DECODE_WINDOW_CLOSE (R162 to R176). -/
def Obligations.PageManager : Prop :=
  ∀ (s : State),
    (∀ src shg stb dst dhg dtb n addr, src < 256 → shg < 64 → dst < 256 → dhg < 64 →
      let dom := fun (c : Nat) => s.fld (regCtx c 0x408) 31 24
      let none_ : Pte := ⟨false, 0, 0⟩
      ((s.kvOn src = false ∨ s.kvOn dst = false) →
          exec (.kvShare src shg stb dst dhg dtb n addr) s = .next (s.kvRefuse dst 1 addr))
        ∧ (s.kvOn src = true → s.kvOn dst = true → src ≠ dst → (dom src = 0 ∨ dom src ≠ dom dst) →
          exec (.kvShare src shg stb dst dhg dtb n addr) s = .next (s.kvRefuse dst 3 addr))
        ∧ (∀ (es ds : List Pte) (u v : State), s.kvOn src = true → s.kvOn dst = true →
          (src = dst ∨ (dom src ≠ 0 ∧ dom src = dom dst)) →
          s.ptes src shg stb n = (some es, u) → u.ptes dst dhg dtb n = (some ds, v) →
          let pages := (es.filter (fun e => e.valid)).map (fun e => e.ppn)
          ∀ (cs : List (Nat × Nat)) (w : State), v.kvCounts pages.eraseDups = (some cs, w) →
          (∀ x ∈ cs, x.2 + pages.count x.1 ≤ 65535) →
            exec (.kvShare src shg stb dst dhg dtb n addr) s = .next
              ((upTo n).foldl (fun (t : State) i => t.setPte dst dhg (dtb + i) (ds.getD i none_).valid (es.getD i none_))
                (cs.foldl (fun (t : State) x => t.kvSetCount x.1 (x.2 + pages.count x.1)) w))))
      ∧ (∀ ctx hg tb n addr (es : List Pte) (u : State), ctx < 256 → hg < 64 → s.ptes ctx hg tb n = (some es, u) →
        let none_ : Pte := ⟨false, 0, 0⟩
        let live := (upTo n).filter (fun i => (es.getD i none_).valid)
        let pages := live.map (fun i => (es.getD i none_).ppn)
        ∀ (cs : List (Nat × Nat)) (v : State), u.kvCounts pages.eraseDups = (some cs, v) →
          exec (.kvRelease ctx hg tb n addr) s = .next (cs.foldl (fun (t : State) x => t.kvDrop x.1 x.2 (pages.count x.1))
            (live.foldl (fun (t : State) i => t.setPte ctx hg (tb + i) true none_) v)))
      ∧ (∀ ctx hg p addr, ctx < 256 → hg < 64 →
        (p % 256 = 0 → exec (.kvTruncate ctx hg p addr) s = exec (.kvRelease ctx hg (p / 256) (4096 - p / 256) addr) s)
          ∧ ∀ (e : Pte) (u v : State), p % 256 ≠ 0 → s.pte ctx hg (p / 256) = (some e, u) →
            u.kvRelease ctx hg (p / 256 + 1) (4096 - (p / 256 + 1)) addr = (true, v) →
              exec (.kvTruncate ctx hg p addr) s = .next
                (if e.valid = true ∧ p % 256 < e.ntok then v.setPte ctx hg (p / 256) true { e with ntok := p % 256 } else v))
      ∧ (∀ (c tag : Nat) (e : CopyJob) (d : CopyDesc), c < 64 → tag < 16 → s.copyOf c tag = some e → e.desc = some d →
        d.kind = 3 → e.inbound = false → e.sent = true → e.landed = false → s.copyWaits c e = false →
          let ctx := (s.cl c).seq.ctx
          ∃ (spans : List (List (Byte × Bool))) (ok : Bool) (u : State),
            ({ s with actor := [ctx] } : State).kvWrite ctx d.sel.hg d.sel.pos d.sel.n d.sel.k d.sel.v spans e.addr = (ok, u)
              ∧ spans.length = (kvSpans (s.kvKg ctx) (s.kvVg ctx) d.sel.k d.sel.v (d.sel.pos % 256) d.sel.n).length
              ∧ exec (.kvWrite c tag) s
                = .next (({ u with actor := [] } : State).updCopy c e.order (fun x => { x with landed := true })))
      ∧ (s.kvInUse = false → (∀ r ∈ s.kvRanges, ∀ i, i < ceilDiv r.2 (2 ^ 31) - r.1 / 2 ^ 31 → s.pairCls (r.1 / 2 ^ 31 + i) = 1) →
        ∃ t, exec .kvInit s = .next t ∧ t.kv.free = (upTo s.kvpPages).filter (fun x => !s.kv.quar.contains x)
          ∧ t.reg (regKv 0x14) = BitVec.ofNat 32 t.kv.free.length
          ∧ (∀ a, s.kvCountAt 0 ≤ a → a < s.kvCountAt 0 + 2 * s.kvpPages → t.byte a = 0)
          ∧ (∀ a, (a < s.kvCountAt 0 ∨ s.kvCountAt 0 + 2 * s.kvpPages ≤ a) → t.byte a = s.byte a))
      ∧ (s.kvInUse = true → exec .kvInit s = .next s)
      ∧ (∀ b, b < 16 → s.host.reqs.get b [] = [] → exec (.decodeWindowClose b) s = .next s)
      ∧ (∀ b, b < 16 → s.fld (regBat b 0) 31 31 = 1 → s.batWin b ≠ 0 → s.fld (regDt 0) 0 0 = 0 →
        64 ≤ (s.host.reqs.get b []).length →
          let cut := windowOrder (s.host.reqs.get b []) (fun _ => true)
          ∃ t, exec (.decodeWindowClose b) s = .next t ∧ t.blockNo.get b 0 = s.blockNo.get b 0 + 1
            ∧ t.host.reqs.get b [] = cut.2 ∧ t.host.inBlock.get b [] = s.host.inBlock.get b [] ++ cut.1
            ∧ t.host.winOpen.get b 0 = s.ticks)

/-- FRAME_START, LONG_PACKET, FRAME_END, EMBEDDED_DATA and FRAME_TIMEOUT (R353 to R355). -/
def Obligations.CameraFrames : Prop :=
  ∀ (s : State) (port vc hdr ago : Nat), port < 16 → vc < 4 → hdr < 2 → s.camLive port vc = true →
    bitOf (s.fld (regAp port 0) 25 22) vc = true →
    let x := 4 * port + vc
    let k := s.cam x
    (∃ t, exec (.frameStart port vc hdr false ago) s = .next t ∧ (t.cam x).isOpen = true ∧ (t.cam x).frame = k.frame + 1
        ∧ (t.cam x).lines = 0 ∧ (∀ y, y ≠ x → t.cam y = s.cam y) ∧ t.mem = s.mem ∧ t.clusters = s.clusters)
      ∧ (∀ (dt : Nat) (crc : Bool) (bs : List Byte), dt < 64 → bs.length < 2 ^ 16 → dt = s.fld (regAp port 0) 21 16 →
        k.isOpen = true → k.lines < s.fld (regAp port 4) 31 16 →
          ∃ t, exec (.longPacket port vc dt hdr false crc bs ago) s = .next t ∧ (t.cam x).isOpen = true
            ∧ (t.cam x).lines = k.lines + 1 ∧ (t.cam x).frame = k.frame ∧ (∀ y, y ≠ x → t.cam y = s.cam y)
            ∧ t.mem = s.mem ∧ t.clusters = s.clusters)
      ∧ (∀ (dt : Nat) (crc : Bool) (bs : List Byte), dt < 64 → bs.length < 2 ^ 16 → hdr = 0 →
        (dt ≠ s.fld (regAp port 0) 21 16 ∨ k.isOpen = false) →
          exec (.longPacket port vc dt hdr false crc bs ago) s = .next (s.bump (regAp port 0x20) 15 8 1))
      ∧ (∀ i, (i = .frameEnd port vc hdr false
          ∨ (i = .frameTimeout port vc ∧ k.seenAt + ticks100us (max 1 (s.fld (regAp port 8) 31 16)) ≤ s.ticks)) → k.isOpen = true →
        ∃ t l b, exec i s = .next t ∧ (t.cam x).isOpen = false ∧ (t.cam x).frame = k.frame
          ∧ (∀ y, y ≠ x → t.cam y = s.cam y) ∧ t.buf port = l ++ [b] ∧ b.kind = .close ∧ b.stream = x
          ∧ b.frame = k.frame.toNat ∧ t.mem = s.mem ∧ t.clusters = s.clusters
          ∧ (i = .frameEnd port vc hdr false → k.flags = 0 → k.gLines = 0 → k.lines = s.fld (regAp port 4) 31 16 →
              b.status = 2 ^ 31 + k.lines))
      ∧ (∀ bs : List Byte, bs.length < 2 ^ 16 → hdr = 0 → k.isOpen = true →
        exec (.embeddedData port vc hdr false bs ago) s = .next (s.capture x 3 (s.mediumStamp (regAp port 0x28) ago)
          (leBytes 4 k.frame.toNat ++ leBytes 4 bs.length ++ bs)).2)

/-- LOSS_OF_LOCK, LOCK_ACQUIRED, SENS_STREAM_TIMEOUT, ETH_FRAME, ETH_LINK, ETH_LINK_UP and RECEIVER_ENABLE (R352, R354, R356,
R358, R366). -/
def Obligations.PortsAndLinks : Prop :=
  ∀ (s : State),
    (∀ port, port < 16 → s.fld (regAp port 0x10) 2 2 = 1 → ∃ t, exec (.lossOfLock port) s = .next t
        ∧ t.fld (regAp port 0x10) 2 2 = 0 ∧ (s.mode ≠ 2 → ∀ v, v < 4 → (t.cam (4 * port + v)).isOpen = false)
        ∧ t.mem = s.mem ∧ t.clusters = s.clusters)
      ∧ (∀ port gear, port < 16 → 1 ≤ gear → gear ≤ 3 → s.fld (regAp port 0) 31 31 = 1 → gear ≤ s.fld (regAp port 0) 27 26 →
        s.fld (regAp port 0x10) 2 2 = 0 → s.fences.contains (0x600 + port) = false →
          exec (.lockAcquired port gear) s = .next (((s.setFld (regAp port 0x10) 1 0 gear).setFld (regAp port 0x10) 2 2 1).send
            (0x600 + port) 0x50 0 false []))
      ∧ (∀ x, x < 64 → s.mode ≠ 2 → s.fld (regAp (x / 4) 0) 31 31 = 1 → bitOf (s.fld (regAp (x / 4) 0) 25 22) (x % 4) = true →
        (s.cam x).late = false → (s.cam x).seenAt + ticks100us (max 1 (s.fld (regAp (x / 4) 8) 15 0)) ≤ s.ticks →
          exec (.sensStreamTimeout x) s = .next ((s.setCam x { s.cam x with late := true }).send (0x700 + x) 0x52 0 true []))
      ∧ (∀ p f, p < 4 → f < 8 → s.mode ≠ 2 → s.fld (regLp p 0) 31 31 = 1 → s.fld (regLp p (0x40 + 0x10 * f)) 31 31 = 1 →
        let x := 64 + 8 * p + f
        (s.sens.lidSeen.get x (0, false)).2 = false →
        (s.sens.lidSeen.get x (0, false)).1 + ticks100us (max 1 (s.fld (regLp p (0xC0 + 4 * f)) 15 0)) ≤ s.ticks →
          ∃ t, exec (.sensStreamTimeout x) s = .next t ∧ (t.sens.lidSeen.get x (0, false)).2 = true
            ∧ ((t.inp.lids.get x LidSt.reset).sector = none) ∧ t.clusters = s.clusters)
      ∧ (∀ q, q < 5 → s.lqLink q = true → ∃ t, exec (.ethLink q) s = .next t ∧ t.lqLink q = false
        ∧ t.time.launch.get q [] = [] ∧ t.clusters = s.clusters)
      ∧ (∀ q, q < 5 → s.lqLink q = false →
        (q < 4 → s.fld (regLp q 0) 31 31 = 1 ∧ s.fences.contains (0x610 + q) = false) →
          exec (.ethLinkUp q) s
            = .next ((s.setFld (if q < 4 then regLp q 4 else regTw 0) 0 0 1).send (0x610 + q) 0x55 0 false []))
      ∧ (∀ (port : Nat) (v : Word32), port < 16 → s.fld (regAp port 0) 31 31 = 0 → bitOf v.toNat 31 = true →
        ∃ t, exec (.receiverEnable port v) s = .next t ∧ t.reg (regAp port 0) = v &&& 0x8FFF003F#32
          ∧ (∀ c, c < 4 → t.cam (4 * port + c) = { CamSt.reset with seenAt := s.ticks })
          ∧ t.mem = s.mem ∧ t.clusters = s.clusters)
      ∧ (∀ (port : Nat) (v : Word32), port < 20 → bitOf v.toNat 31 = false →
        s.fld (if port < 16 then regAp port 0 else regLp (port - 16) 0) 31 31 = 1 →
          ∃ t, exec (.receiverEnable port v) s = .next t
            ∧ t.fld (if port < 16 then regAp port 0 else regLp (port - 16) 0) 31 31 = 0
            ∧ (port < 16 → t.fld (regAp port 0x10) 2 0 = 0) ∧ (16 ≤ port → t.lqLink (port - 16) = false) ∧ t.clusters = s.clusters)
      ∧ (∀ (q ago : Nat) (fcsOk : Bool) (bs : List Byte), q < 4 → bs.length < 2 ^ 16 → s.mode ≠ 2 → s.fld (regLp q 0) 31 31 = 1 →
        s.lqLink q = true → s.fences.contains (0x610 + q) = false →
          ((fcsOk = false ∨ bs.length < 60 ∨ 9018 < bs.length) →
              exec (.ethFrame q fcsOk bs ago) s = .next (s.bump (regLp q 8) 31 16 1))
            ∧ (fcsOk = true → 60 ≤ bs.length → bs.length ≤ 9018 →
              ((etherOf bs).1 = 0x88F7 → exec (.ethFrame q fcsOk bs ago) s
                  = .next (s.ptpRecord (100 + q) 0 (s.mediumStamp (regLp q 0x10) ago) (bs.drop (etherOf bs).2.2)))
                ∧ ∀ f u, (etherOf bs).1 ≠ 0x88F7 → (etherOf bs).1 ≠ 0x8808 →
                  (upTo 8).findSome? (fun f => (s.lpClaim q f bs).map (fun u => (f, u))) = some (f, u) →
                  s.fld (regLp q (0x4C + 0x10 * f)) 17 4 ≤ bs.length - u → bs.length - u ≤ s.fld (regLp q (0x4C + 0x10 * f)) 31 18 →
                    ∃ t, exec (.ethFrame q fcsOk bs ago) s = .next t
                      ∧ t.sens.packets.get (64 + 8 * q + f) 0 = s.sens.packets.get (64 + 8 * q + f) 0 + 1
                      ∧ t.sens.lidSeen.get (64 + 8 * q + f) (0, false) = (s.ticks, false)
                      ∧ t.mem = s.mem ∧ t.clusters = s.clusters))

/-- Triggers and power over coax (R359 to R364, Tables 12.3 and 12.4). -/
def Obligations.TriggersAndCoaxPower : Prop :=
  ∀ (s : State) (port : Nat), port < 16 →
    (∀ time, exec (.triggerRequest port time) s = .next
        (if (s.trigs port).length < 4 ∧ s.now + s.tlead port ≤ time then s.setTrigs port (sortIn time (s.trigs port))
          else s.trigMiss port))
      ∧ (∀ x r, s.trigs port = x :: r → x ≤ s.now + s.tlead port →
        ∃ t, exec (.triggerSend port) s = .next t ∧ t.trigs port = r
          ∧ t.sens.sent.get port 0 = s.sens.sent.get port 0 + s.fld (regAp port 0x10) 2 2
          ∧ t.clusters = s.clusters ∧ t.mem = s.mem)
      ∧ (s.poc port = 3 → s.sens.cutAt.get port 0 + 100 * ticksPerMs ≤ s.ticks →
        exec (.clr port) s = .next (s.setFld (regAp port 0x34) 27 25 0))
      ∧ (∀ v : Word32, bitOf v.toNat 31 = true → s.poc port = 0 →
        let pl := bitsOf v.toNat 12 8
        let sum := (upTo 16).foldl (fun a p => if s.poc p = 1 ∨ s.poc p = 2 then a + s.fld (regAp p 0x30) 12 8 else a) 0
        1 ≤ pl → pl ≤ 24 → bitsOf v.toNat 7 0 ≤ 120 →
          ∃ t, exec (.pen port v) s = .next t ∧ t.fld (regAp port 0x30) 12 0 = bitsOf v.toNat 12 0
            ∧ t.poc port = (if sum + pl ≤ 256 then 1 else 0)
            ∧ t.fld (regAp port 0x30) 31 31 = (if sum + pl ≤ 256 then 1 else s.fld (regAp port 0x30) 31 31)
            ∧ t.net.length = s.net.length + (if sum + pl ≤ 256 then 0 else 1))
      ∧ (∀ v : Word32, bitOf v.toNat 31 = false → (s.poc port = 1 ∨ s.poc port = 2) →
        ∃ t, exec (.pen port v) s = .next t ∧ t.poc port = 4 ∧ t.fld (regAp port 0x30) 31 31 = 0 ∧ t.net = s.net)
      ∧ (s.poc port = 1 → exec (.rampEnd port true) s = .next (s.setFld (regAp port 0x34) 27 25 2))
      ∧ (∀ i cause, ((s.poc port = 1 ∧ i = .rampEnd port false ∧ cause = 1) ∨ (s.poc port = 2 ∧ i = .pocShort port false ∧ cause = 1)
          ∨ (s.poc port = 2 ∧ i = .pocOverload port ∧ cause = 2) ∨ (s.poc port = 2 ∧ i = .pocShort port true ∧ cause = 3)) →
        ∃ t, exec i s = .next t ∧ t.poc port = 3 ∧ t.fld (regAp port 0x34) 24 23 = cause
          ∧ t.fld (regAp port 0x34) 22 16 = min (s.fld (regAp port 0x34) 22 16 + 1) 127 ∧ t.fld (regAp port 0x30) 31 31 = 0
          ∧ t.sens.cutAt.get port 0 = s.ticks ∧ t.net.length = s.net.length + 1 ∧ t.mem = s.mem ∧ t.clusters = s.clusters)
      ∧ (s.poc port = 2 → exec (.openLoad port) s = .next (s.setFld (regAp port 0x34) 15 15 1))
      ∧ (s.poc port = 4 → exec (.dischargeEnd port) s = .next (s.setFld (regAp port 0x34) 27 25 0))
      ∧ (∀ mv ma, mv < 2 ^ 16 → ma < 2 ^ 16 → exec (.pocMeasurement port mv ma) s
        = .next (s.setReg (regAp port 0x38) (BitVec.ofNat 32 (mv * 2 ^ 16 + ma))))

/-- WEIR_DROP and the counter clears of the module (R368, R373 and the tables of the counters). -/
def Obligations.DropsAndCounterClears : Prop :=
  ∀ (s : State),
    (∀ (port cause : Nat) (b : BufItem) (r : List BufItem), port < 20 → s.buf port = b :: r → b.kind = .group → b.stream < 64 →
      portOf b.stream = port → s.judge b = some cause →
        ∃ t, exec (.weirDrop port) s = .next t
          ∧ (∀ y ∈ t.buf port, ¬ (y.kind = .group ∧ y.stream = b.stream ∧ y.frame = b.frame))
          ∧ (t.reg (regWr (0x300 + 4 * b.stream))).toNat = min ((s.reg (regWr (0x300 + 4 * b.stream))).toNat + 1) (2 ^ 32 - 1)
          ∧ t.mem = s.mem ∧ t.clusters = s.clusters)
      ∧ (∀ (port : Nat) (b : BufItem) (r : List BufItem), port < 20 → s.buf port = b :: r → s.judge b = none →
        exec (.weirDrop port) s = .next s)
      ∧ (let clears := fun (i : Instr) (whole : List Nat) (part : List (Nat × Nat × Nat)) =>
          ∃ t, exec i s = .next t ∧ (∀ off ∈ whole, t.reg off = 0) ∧ (∀ f ∈ part, t.fld f.1 f.2.1 f.2.2 = 0)
            ∧ (∀ off, off ∉ whole → off ∉ part.map (fun f => f.1) → t.reg off = s.reg off)
            ∧ t = { s with regs := t.regs }
        (∀ p, p < 16 → clears (.apCntclr p) [regAp p 0x20] [(regAp p 0x44, 31, 16)])
          ∧ (∀ p, p < 4 → clears (.lpCntclr p) [regLp p 8] [(regLp p 0xC, 31, 16)])
          ∧ clears .wrClr ((upTo 96).map (fun x => regWr (0x300 + 4 * x)) ++ (upTo 96).map (fun x => regWr (0x500 + 4 * x))) []
          ∧ clears .tbCntclr [regTb 0x58] []
          ∧ (∀ q, q < 5 → clears (.lqCntclr q) [] [(regLq q 0x14, 31, 16), (regLq q 0x14, 15, 8)])
          ∧ (∀ g, g < 64 → clears (.gaCntclr g) [regGst g 0, regGst g 4] [])
          ∧ clears .vdCntclr [regVd 8] []
          ∧ (∀ p, p < 8 → clears (.vpCntclr p) [regVp p 8, regVp p 0xC] [])
          ∧ clears .ssCntclr [regSs 4, regSs 8] []
          ∧ clears .twCntclr [regTw 4] [])

/-! ### The input pipeline and the recorder (spec/09, spec/13) -/

/-- LINE_GROUP_ADMISSION, STRIPE_READY, FRAME_CLOSE_EMIT, VIEW_ENABLE, MESH_LOAD, LIDAR_BLOCK and LIDAR_ENABLE (R383 to R400). -/
def Obligations.InputPipeline : Prop :=
  ∀ (s : State),
    (∀ (port : Nat) (b : BufItem) (r : List BufItem), port < 16 → s.buf port = b :: r → b.kind = .group → s.judge b = none →
      let x := b.stream
      (s.fld (regCam x 0) 31 31 = 0 → exec (.lineGroupAdmission port) s = .next (((s.noteAge b).setBuf port r).fbGroup b))
        ∧ (s.fld (regCam x 0) 31 31 = 1 → (s.pipe x).isOpen = true → (s.pipe x).frame = b.frame → s.ringBusy x b.first b.n = false →
          ∃ t, exec (.lineGroupAdmission port) s = .next t
            ∧ (t.pipe x).groups = (s.pipe x).groups ++ [(b.first, b.n, b.stamp, b.cap)] ∧ t.buf port = r
            ∧ (∀ y, y ≠ x → t.pipe y = s.pipe y) ∧ t.clusters = s.clusters))
      ∧ (∀ x, x < 64 → s.nextStripe x = none → exec (.stripeReady x) s = .next s)
      ∧ (∀ x v n cap seq, x < 64 → v < 32 → s.nextStripe x = some (v, n, cap) → s.capSeq cap = some seq →
        ∃ t, exec (.stripeReady x) s = .next t ∧ (t.view v).emitted = (s.view v).emitted ++ [n]
          ∧ t.fld (regView v 0x6C) 31 16 = (s.fld (regView v 0x6C) 31 16 + 1) % 2 ^ 16
          ∧ (∀ u, u ≠ v → t.view u = s.view u) ∧ t.sens = s.sens ∧ t.clusters = s.clusters)
      ∧ (∀ (port seq : Nat) (b : BufItem) (r : List BufItem), port < 16 → s.buf port = b :: r → b.kind = .close →
        s.capSeq b.cap = some seq → ∃ t, exec (.frameCloseEmit port) s = .next t ∧ t.buf port = r
          ∧ (t.pipe b.stream).isOpen = false ∧ t.clusters = s.clusters)
      ∧ (∀ (v : Nat) (w : Word32), v < 32 →
        let t := s.setReg (regView v 0) (w &&& 0x00FFFFF0#32)
        (s.vOn v = false → bitOf w.toNat 31 = false → exec (.viewEnable v w) s = .next t)
          ∧ (s.vOn v = false → bitOf w.toNat 31 = true → exec (.viewEnable v w) s
            = .next (if t.viewBad v then t.sendEv (0x780 + v) 0x64 0 else t.setFld (regView v 0) 31 31 1))
          ∧ (s.vOn v = true → bitOf w.toNat 31 = false → exec (.viewEnable v w) s
            = .next (if (s.pipe (s.vStream v)).isOpen then s.setView v { s.view v with off := true }
                else s.setFld (regView v 0) 31 31 0)))
      ∧ (∀ w : Word32, let slot := bitsOf w.toNat 3 0
        let u := s.setFld (regIp 4) 3 0 slot
        let names := (upTo 32).filter (fun v => decide (u.fld (regView v 0) 17 14 = slot))
        (bitOf w.toNat 31 = false → exec (.meshLoad w) s = .next u)
          ∧ ∀ v r, bitOf w.toNat 31 = true → names = v :: r → (∀ y ∈ names, (u.vOn y && !u.vIdent y) = false) →
            let n := u.fld (regView v 0xC) 31 24 * u.fld (regView v 0xC) 23 16
            let bs := (u.hubRead 2 (u.fld (regIp 0) 24 3 * 8) (8 * n)).1
            let num := fun (o : Nat) => signed 32 (leNat (((bs.drop o).take 4).map (fun b => b.1)))
            ∃ t, exec (.meshLoad w) s = .next t
              ∧ t.inp.mesh.get slot [] = (upTo n).map (fun i => (num (8 * i), num (8 * i + 4)))
              ∧ t.mem = s.mem ∧ t.clusters = s.clusters)
      ∧ (∀ (p seq : Nat) (b : BufItem) (r : List BufItem), p < 4 → s.buf (16 + p) = b :: r → s.capSeq b.cap = some seq →
        s.judge b = none →
          let u := ((s.noteAge b).setBuf (16 + p) r).fbPacket b
          (u.lOn b.stream = false → exec (.lidarBlock p) s = .next u)
            ∧ (u.lOn b.stream = true → ∃ t, exec (.lidarBlock p) s = .next t ∧ t.buf (16 + p) = r ∧ t.clusters = s.clusters))
      ∧ (∀ (x : Nat) (w : Word32), 64 ≤ x → x < 96 →
        let t := s.setReg (regLid x 0) (w &&& 0x7FFF0000#32)
        (s.lOn x = false → bitOf w.toNat 31 = false → exec (.lidarEnable x w) s = .next t)
          ∧ (s.lOn x = false → bitOf w.toNat 31 = true → exec (.lidarEnable x w) s
            = .next (if t.lidBad x then t.sendEv (0x700 + x) 0x64 0 else (t.setFld (regLid x 0) 31 31 1).setLid x LidSt.reset))
          ∧ (s.lOn x = true → bitOf w.toNat 31 = false →
            exec (.lidarEnable x w) s = .next ((s.setFld (regLid x 0) 31 31 0).setLid x LidSt.reset)))

/-- RECORD_CAPTURE, RECORDING_RESUME, RECORD_RELEASE, DC_RESYNC, REPLAY_STARVED and DT_CFG (R278, R284 to R291, R379 to R381). -/
def Obligations.RecorderAndReplay : Prop :=
  ∀ (s : State),
    (s.rcd.waiting = [] → exec .recordCapture s = .next s)
      ∧ (s.rcd.waiting ≠ [] → ∃ (t : State) (k : Capture), exec .recordCapture s = .next t ∧ k ∈ s.rcd.waiting
        ∧ (∀ x ∈ s.rcd.waiting, x.before k = false)
        ∧ t.rcd.waiting = s.rcd.waiting.filter (fun x => x.id ≠ k.id) ∧ t.rcd.next = (s.rcd.next + 1) % 2 ^ 64
        ∧ t.rcd.chain = sha256 (s.rcd.chain ++ sha256 (recordBytes k.stream k.typ s.rcd.next k.time k.payload))
        ∧ t.rcd.hist = s.rcd.hist ++ [⟨s.rcd.next, k.id, k.time, k.stream, t.rcd.chain⟩]
        ∧ t.clusters = s.clusters ∧ (s.mode ≠ 1 → t.mem = s.mem ∧ t.regs = s.regs))
      ∧ (∀ a b, s.rcd.lost = some (a, b) → s.mode = 1 → 2 ^ 18 ≤ s.ringFree →
        exec .recordingResume s = .next (({ s with rcd := { s.rcd with lost := none, nextId := s.rcd.nextId + 1 } } : State).numberRecord
          s.rcd.nextId 0xFFFF 0xF0 s.now (leBytes 8 a ++ leBytes 8 b)))
      ∧ ((s.mode ≠ 2 ∨ s.fld (regDc 0) 3 3 = 1) → exec .recordRelease s = .next s)
      ∧ (let h := oxHdr s.rrd (s.ringLook s.rrd 40)
        let r := ({ s with actor := [s.ringCtx] } : State).hubRead 0 (s.ringBase + s.rrd) h.len
        let u := { r.2 with actor := [] }
        let x := r.1.map (fun b => b.1)
        s.mode = 2 → s.fld (regDc 0) 3 3 = 0 → s.rrd + 48 ≤ s.ringSize → 48 ≤ s.ringAvail s.rrd → h.len ≤ s.ringAvail s.rrd →
          (s.lenOk h = false → exec .recordRelease s = .next s.syncLoss)
            ∧ (s.lenOk h = true → r.1.any (fun b => b.2) = false →
              (crcOk x = false → exec .recordRelease s = .next (u.recSkip h.len 1 0x61))
                ∧ (crcOk x = true → formOk h x = false → exec .recordRelease s = .next (u.recSkip h.len 2 0x62))
                ∧ (∀ v, crcOk x = true → formOk h x = true → h.typ ≠ 0xFE → u.rcd.expect.getD h.seq ≤ h.seq → u.paced h.time = true →
                  u.takes h x = .known v → exec .recordRelease s = .next (u.releaseRec h x v))))
      ∧ (∀ off, off < 2 ^ 32 → off % 8 = 0 → s.fld (regDc 0) 3 3 = 1 →
        exec (.dcResync off) s = .next ((s.setReg (regDt 0x18) (BitVec.ofNat 32 off)).setFld (regDc 0) 3 3 0))
      ∧ (∀ t, s.rcd.starved = some t → s.mode = 2 → t + ticksPerMs < s.ticks → s.rcd.starveSent = false →
        exec .replayStarved s = .next (({ s with rcd := { s.rcd with starveSent := true } } : State).sendEv 0xA00 0x33 0))
      ∧ (∀ v : Word32, (s.ctxsOff && s.clustersOff) = false → s.reg (regDt 0) ≠ v &&& 0xF →
        exec (.dtCfg 0 v) s = .next ((s.orReg (regDt 4) 1).sendEv 0xA00 0x31 0))
      ∧ (∀ v : Word32, (s.ctxsOff && s.clustersOff) = true → bitsOf v.toNat 2 1 ≠ 3 → (bitsOf v.toNat 2 1 ≠ 0 → s.ringOk = true) →
        ∃ t, exec (.dtCfg 0 v) s = .next t ∧ t.reg (regDt 0) = v &&& 0xF
          ∧ t.rcd = { RecSt.reset with nextId := s.rcd.nextId } ∧ t.hostBytes = []
          ∧ (∀ off, off ≠ regDt 0 → t.reg off = s.reg off) ∧ t.mem = s.mem ∧ t.clusters = s.clusters)
      ∧ (∀ v : Word32, (s.ctxsOff && s.clustersOff) = true →
        exec (.dtCfg 8 v) s = .next (s.setReg (regDt 8) (v &&& 0xFFFF0000))
          ∧ exec (.dtCfg 0x10 v) s = .next (s.setReg (regDt 0x10) (v &&& 0xFF00FFFF)))

/-! ### The HBM controller and windows (spec/08, spec/10) -/

/-- PIECE_ARRIVAL, DATA_TURN, NORMAL_SERVE, REF_TURN, TRR_TURN, SCRUB_TURN and HBM_LINK_RETRY (R302 to R313, R316). -/
def Obligations.HbmTurns : Prop :=
  ∀ (s : State),
    (∀ (off n : Nat) (wr : Bool), off < 0xC00000000 → n ≠ 0 →
      let m := min n (1024 - off % 1024)
      (s.calRefuses off m wr = true → exec (.pieceArrival off n wr) s = .next (s.calRefused off))
        ∧ (s.calRefuses off m wr = false → ∃ (t : State) (p : HbPiece), exec (.pieceArrival off n wr) s = .next t
          ∧ t.hbQueue (hbPc off) = s.hbQueue (hbPc off) ++ [p] ∧ p.no = s.hbm.nextNo ∧ p.bank = hbBank off ∧ p.row = hbRow off
          ∧ p.col = hbCol off ∧ p.n = (off % 32 + m + 31) / 32 ∧ p.write = wr ∧ (wr = false → p.slots = p.n)
          ∧ (∀ pc, pc ≠ hbPc off → t.hbQueue pc = s.hbQueue pc) ∧ t.hbm.nextNo = s.hbm.nextNo + 1
          ∧ t.mem = s.mem ∧ t.regs = s.regs ∧ t.clusters = s.clusters))
      ∧ (∀ t, t < 64 → s.strict = true → s.selfRefresh = false → calKind t = 0 →
        let e := (s.turnStart t).calEntry t
        ∃ u, exec (.dataTurn t) s = .next u ∧ u.fld (regHb 4) 15 10 = t ∧ u.mem = s.mem ∧ u.clusters = s.clusters
          ∧ ∀ pc, pc < 64 →
            let q := s.hbQueue pc
            let cand := q.filter (fun p => decide (p.no < s.hbm.curNo) && (p.write == bitOf e 3)
              && decide (s.pairCls (p.bank / 2) = bitsOf e 2 0))
            ((5 < bitsOf e 2 0 ∨ cand = []) → u.hbQueue pc = q)
              ∧ ∀ h r, bitsOf e 2 0 ≤ 5 → cand = h :: r →
                u.hbQueue pc = q.filter (fun p => !((h :: takeRow h.bank h.row r h.slots).map (fun x => x.no)).contains p.no))
      ∧ (∀ pc p, pc < 64 → s.strict = false → s.selfRefresh = false → s.hbPick pc = some p →
        ∃ t, exec (.normalServe pc) s = .next t
          ∧ t.hbQueue pc = (s.hbQueue pc).filterMap (fun o =>
              if o.no = p.no then none else if o.no < p.no then some { o with passed := o.passed + 1 } else some o)
          ∧ (p.bank, p.row) ∈ t.hbm.opens.get pc [] ∧ (∀ k, k ≠ pc → t.hbQueue k = s.hbQueue k)
          ∧ t.mem = s.mem ∧ t.clusters = s.clusters)
      ∧ (∀ t, t < 64 → s.selfRefresh = false → calKind t = 1 →
        let sid := if t = 0 ∨ t = 32 then 0 else if t = 11 ∨ t = 43 then 1 else 2
        ∃ u, exec (.refTurn t) s = .next u ∧ u.fld (regHb 4) 15 10 = t ∧ u.hbm.opens = ⟨[]⟩
          ∧ u.hbm.refs = s.hbm.refs.set sid ((s.hbm.refs.getD sid 0 + 1) % 8192) ∧ u.mem = s.mem ∧ u.clusters = s.clusters)
      ∧ (∀ t, t < 64 → s.selfRefresh = false → calKind t = 2 →
        ∃ u, exec (.trrTurn t) s = .next u ∧ u.fld (regHb 4) 15 10 = t ∧ u.hbm.opens = ⟨[]⟩
          ∧ (∀ pc, pc < 64 →
            let q := s.hbm.aggrs.get pc []
            u.hbm.aggrs.get pc [] = if q = [] then [] else
              q.drop 2 ++ (s.hbm.pends.get pc []).take (32 - (q.drop 2).length))
          ∧ u.mem = s.mem ∧ u.clusters = s.clusters)
      ∧ (∀ t, t < 64 → s.selfRefresh = false → calKind t = 0 → bitsOf (s.calEntry t) 2 0 = 6 → s.fld (regHb 0) 2 2 = 1 →
        let at_ := scrubPos s.hbm.scrub
        ∃ u, exec (.scrubTurn t) s = .next u ∧ u.hbm.scrub = (s.hbm.scrub + 1) % (48 * 16384 * 2)
          ∧ (∀ a, u.gran a = if a < 0xC00000000 ∧ hbBank a = at_.1 ∧ hbRow a = at_.2.1 ∧ hbCol a / 16 = at_.2.2 then
              (match s.gran a with | .correctable => .clean | .freshUE => .poisoned | g => g) else s.gran a)
          ∧ u.mem = s.mem ∧ u.clusters = s.clusters)
      ∧ (∀ pc p r, pc < 64 → s.hbQueue pc = p :: r →
        let adr := (p.bank / 2 * 2 ^ 31 + p.row * 2 ^ 17 + p.bank % 2 * 2 ^ 16 + pc * 2 ^ 10) / 32 + p.col
        (p.tries < 2 → exec (.hbmLinkRetry pc) s
            = .next ((s.setHbQueue pc ({ p with tries := p.tries + 1 } :: r)).sendEv (hbSrc pc) 0x3C adr))
          ∧ (2 ≤ p.tries → ∃ t, exec (.hbmLinkRetry pc) s = .next t ∧ t.hbQueue pc = r
            ∧ t.reg (regHbs (pc / 32) 8) = BitVec.ofNat 32 adr ∧ (p.write = false → t.hbm.fails = s.hbm.fails)
            ∧ (p.write = true → s.hbm.fails = [] → p.n ≤ 64 → ∀ i, i < p.n → adr + i ∈ t.hbm.fails)
            ∧ t.mem = s.mem ∧ t.clusters = s.clusters))

/-- HBM_TEMP_READ, SRENTER, SREXIT, GO, HB_CAL, HB_PAIRCLS and WINDOW_ENABLE (R256, R298, R301, R317 to R321). -/
def Obligations.HbmControlAndWindows : Prop :=
  ∀ (s : State),
    (∀ (st : Nat) (temp : Int), st < 2 → st < s.hbm.hot.length → st < s.hbm.hotOver.length →
      ∃ t, exec (.hbmTempRead st temp) s = .next t ∧ t.fld (regHbs st 0x14) 7 0 = (temp % 256).toNat
        ∧ t.hbm.hot.getD st false = decide (95 ≤ temp) ∧ t.hbm.hotOver.getD st false = decide (105 ≤ temp)
        ∧ t.net.length = s.net.length + (if s.hbm.hot.getD st false = decide (95 ≤ temp) then 0 else 1)
            + (if s.hbm.hotOver.getD st false = decide (105 ≤ temp) then 0 else 1)
        ∧ t.mem = s.mem ∧ t.clusters = s.clusters)
      ∧ ((s.allDisabled = false ∨ s.detMode ≠ 0) → exec .srenter s = .next (s.hbConfig 0))
      ∧ (s.allDisabled = true → s.detMode = 0 → s.selfRefresh = false →
        ∃ t, exec .srenter s = .next t ∧ t.selfRefresh = true ∧ t.hbm.queues = ⟨[]⟩ ∧ t.hbm.acts = ⟨[]⟩ ∧ t.hbm.aggrs = ⟨[]⟩
          ∧ t.hbm.pends = ⟨[]⟩ ∧ t.mem = s.mem ∧ t.net = s.net ∧ t.clusters = s.clusters)
      ∧ (s.selfRefresh = true → ∃ t, exec .srexit s = .next t ∧ t.selfRefresh = false ∧ t.fld (regHb 4) 15 10 = 0
        ∧ t.hbm.cal = ⟨[]⟩ ∧ t.mem = s.mem ∧ t.clusters = s.clusters)
      ∧ (∀ st, st < 2 →
        (∃ t, exec (.hbmGo st none) s = .next t ∧ t.reg (regHbs st 0x20) = 0x80000000#32
            ∧ (t.fld (regHb 4) 1 1 = 1 ↔ s.fld (regHbs (1 - st) 0x20) 31 31 = 1) ∧ t.net = s.net ∧ t.mem = s.mem)
          ∧ ∀ p, p < 32 → ∃ t, exec (.hbmGo st (some p)) s = .next t
            ∧ t.reg (regHbs st 0x20) = BitVec.ofNat 32 (2 ^ 30 + p * 2 ^ 25) ∧ t.fld (regHb 4) 1 1 = 0
            ∧ t.net.length = s.net.length + (if s.hbm.badGo.getD st 0 = 0 then 0 else 1) ∧ t.mem = s.mem)
      ∧ (∀ t v, t < 64 → v < 2 ^ 32 →
        (s.quiet = true → calKind t = 0 → ∃ u, exec (.hbCal t v) s = .next u ∧ u.fld (regHb (0x100 + 4 * t)) 3 0 = v % 16
            ∧ (s.strict = true → u.calEntry t = s.calEntry t) ∧ u.mem = s.mem ∧ u.clusters = s.clusters)
          ∧ ((s.quiet = false ∨ calKind t ≠ 0) → exec (.hbCal t v) s = .next (s.hbConfig 0)))
      ∧ (∀ q v, q < 3 → v < 2 ^ 32 →
        let changed := fun (i : Nat) => bitsOf (s.reg (regHb (0x10 + 4 * q))).toNat (3 * i + 2) (3 * i) ≠ bitsOf v (3 * i + 2) (3 * i)
        (s.quiet = true → (∀ i, i < 8 → changed i → s.pairCovered (8 * q + i) = false) →
            exec (.hbPaircls q v) s = .next (s.setReg (regHb (0x10 + 4 * q)) (BitVec.ofNat 32 (v % 2 ^ 24))))
          ∧ ((s.quiet = false ∨ ∃ i, i < 8 ∧ changed i ∧ s.pairCovered (8 * q + i) = true) →
            exec (.hbPaircls q v) s = .next (s.hbConfig 0)))
      ∧ (∀ (c w : Nat) (v : Word32), c < 256 → w < 17 →
        (s.ctxState c ≠ 0 → exec (.windowEnable c w v) s = .next s)
          ∧ (let off := if w < 16 then regCtx c (0x300 + 0x10 * w + 0xC) else regCtx c 0x420
            let en := if w < 16 then 0 else 31
            let t := s.setReg off (if w < 16 then BitVec.ofNat 32 (bitsOf v.toNat 5 1 * 2)
              else BitVec.ofNat 32 (v.toNat % 2 ^ 31) &&& 0x01FF03FF#32)
            let bad := if w < 16 then t.winRefused c w else t.hubWinRefused c
            s.ctxState c = 0 →
              (bitOf v.toNat en = false → exec (.windowEnable c w v) s = .next t)
                ∧ (bitOf v.toNat en = true → s.fld off en en = 1 → exec (.windowEnable c w v) s = .next s)
                ∧ (bitOf v.toNat en = true → s.fld off en en = 0 → exec (.windowEnable c w v) s
                  = .next (if bad then (t.orReg (regCtx c 0x424) (2 ^ w)).sendEv (0x500 + c) 0x28 0 else t.setFld off en en 1))))

/-! ### The time base and the Gauge scheduler (spec/14) -/

/-- TIME_TICK, SET, ADJ, INC_COMMIT and the latch of TB_SEC_LO (R401 to R407). -/
def Obligations.TimeBase : Prop :=
  ∀ (s : State),
    (s.time.ops = [] → ∃ t, exec .timeTick s = .next t ∧ t.ticks = s.ticks + 1 ∧ t.time.now = s.time.now + s.time.inc
        ∧ t.time.inc = s.time.inc ∧ t.regs = s.regs ∧ t.mem = s.mem ∧ t.clusters = s.clusters)
      ∧ (∀ v, s.time.ops = [.set v] → ∃ t, exec .timeTick s = .next t ∧ t.ticks = s.ticks + 1 ∧ t.time.now = v
        ∧ t.time.ops = [] ∧ t.fld (regTb 4) 2 2 = 1 ∧ (∀ off, off ≠ regTb 4 → t.reg off = s.reg off) ∧ t.mem = s.mem)
      ∧ (∀ d, s.time.ops = [.adj d] → ∃ t, exec .timeTick s = .next t ∧ t.ticks = s.ticks + 1
        ∧ t.time.now = (((s.time.now + s.time.inc : Nat) : Int) + d).toNat ∧ t.time.ops = [] ∧ t.regs = s.regs ∧ t.mem = s.mem)
      ∧ (∀ v, s.time.ops = [.inc v] → v - 2 ^ 33 ≤ 4294967 → 2 ^ 33 - v ≤ 4294967 → v - s.time.inc ≤ 1717987 →
        s.time.inc - v ≤ 1717987 → ∃ t, exec .timeTick s = .next t ∧ t.ticks = s.ticks + 1 ∧ t.time.inc = v
          ∧ t.time.now = s.time.now + v ∧ t.time.ops = [] ∧ t.regs = s.regs ∧ t.mem = s.mem)
      ∧ (∀ v, s.time.ops = [.inc v] → (4294967 < v - 2 ^ 33 ∨ 4294967 < 2 ^ 33 - v ∨ 1717987 < v - s.time.inc
          ∨ 1717987 < s.time.inc - v) → ∃ t, exec .timeTick s = .next t ∧ t.time.inc = s.time.inc
          ∧ t.time.now = s.time.now + s.time.inc ∧ t.fld (regTb 4) 6 6 = 1 ∧ t.mem = s.mem)
      ∧ (s.mode ≠ 2 → (s.reg (regTb 0x28)).toNat < 1000000000 → exec .setTime s = .next { s with time := { s.time with ops :=
        s.time.ops ++ [.set (((s.reg (regTb 0x20)).toNat + (s.reg (regTb 0x24)).toNat * 2 ^ 32) * (1000000000 * 2 ^ 32)
          + (s.reg (regTb 0x28)).toNat * 2 ^ 32 + s.fld (regTb 0x2C) 15 0 * 2 ^ 16)] } })
      ∧ ((s.mode = 2 ∨ 1000000000 ≤ (s.reg (regTb 0x28)).toNat) → exec .setTime s = .next s.timeConfig)
      ∧ (s.mode ≠ 2 → exec .adjTime s = .next { s with time := { s.time with ops :=
        s.time.ops ++ [.adj ((s.reg (regTb 0x28)).toInt * 2 ^ 32 + ((s.fld (regTb 0x2C) 15 0 : Nat) : Int) * 2 ^ 16)] } })
      ∧ (∀ v, s.mode ≠ 2 → exec (.incCommit v) s = .next { s.setReg (regTb 0x1C) v with time := { s.time with ops :=
        s.time.ops ++ [.inc (v.toNat * 2 ^ 32 + (s.reg (regTb 0x18)).toNat)] } })
      ∧ (s.mode = 2 → exec .adjTime s = .next s.timeConfig ∧ ∀ v, exec (.incCommit v) s = .next s.timeConfig)
      ∧ exec .tbSecLo s = .next { s with time := { s.time with shadow := s.now } }

/-- REFSRC, PPS_EDGE, SYNC_MESSAGE, REFERENCE_TIMEOUT and the launch queues (R408 to R416). -/
def Obligations.ReferencesAndLaunches : Prop :=
  ∀ (s : State),
    (∀ v : Word32, v.toNat % 16 ≤ 6 → ∃ t, exec (.refsrc v) s = .next t ∧ t.refState = 0 ∧ t.reg (regTb 0) = v &&& 0xFF000F
        ∧ t.time.lastEdge = none ∧ t.time.interval = none ∧ t.time.okRun = 0 ∧ t.time.now = s.time.now ∧ t.clusters = s.clusters)
      ∧ (∀ v : Word32, 6 < v.toNat % 16 → exec (.refsrc v) s = .next (s.sendEv 0x800 0x6C s.refSrc))
      ∧ (∀ p high, p < 16 → s.mode = 2 → exec (.ppsEdge p high) s = .next s)
      ∧ (∀ p high, p < 16 → s.mode ≠ 2 → s.refSrc = 1 → 100 * max 1 (s.fld (regTb 0x40) 15 0) ≤ high → s.time.lastEdge = none →
        ∃ t, exec (.ppsEdge p high) s = .next t ∧ t.sens.ppsEdges = s.sens.ppsEdges + 1 ∧ t.time.lastEdge = some s.ticks
          ∧ t.time.okRun = s.time.okRun + 1 ∧ t.reg (regTb 0x50) = BitVec.ofNat 32 (secOf (s.stampAt p))
          ∧ t.reg (regTb 0x54) = BitVec.ofNat 32 (nsOf (s.stampAt p)) ∧ t.mem = s.mem ∧ t.clusters = s.clusters)
      ∧ (∀ p high, p < 16 → s.mode ≠ 2 → s.refSrc = 1 → high < 100 * max 1 (s.fld (regTb 0x40) 15 0) →
        ∃ t, exec (.ppsEdge p high) s = .next t ∧ t.time = s.time
          ∧ t.fld (regTb 0x58) 15 0 = min (s.fld (regTb 0x58) 15 0 + 1) (2 ^ 16 - 1) ∧ t.clusters = s.clusters)
      ∧ (∀ q domain, q < 5 → domain < 256 → s.mode ≠ 2 → s.refSrc = q + 2 → s.fld (regTb 0) 23 16 = domain →
        ∃ t, exec (.syncMessage q domain) s = .next t ∧ t.time.okRun = s.time.okRun + 1 ∧ t.time.lastRef = s.ticks
          ∧ t.refState = (if max 1 (s.fld (regTb 0x44) 23 16) ≤ s.time.okRun + 1 then 1 else s.refState) ∧ t.clusters = s.clusters)
      ∧ (∀ q domain, q < 5 → domain < 256 → (s.mode = 2 ∨ s.refSrc ≠ q + 2 ∨ s.fld (regTb 0) 23 16 ≠ domain) →
        exec (.syncMessage q domain) s = .next s)
      ∧ (s.mode ≠ 2 → s.refState = 1 → s.time.lastRef + s.refTimeout ≤ s.ticks →
        ∃ t, exec .referenceTimeout s = .next t ∧ t.refState = 2 ∧ t.time.okRun = 0 ∧ t.net.length = s.net.length + 1)
      ∧ (∀ q, q < 5 →
        let l := s.time.launch.get q []
        let n := s.fld (regLq q 4) 13 0
        let e : LaunchEntry :=
          { buf := s.fld (regLq q 0) 24 3 * 8, len := n, tag := s.fld (regLq q 4) 31 16, imm := s.fld (regLq q 0xC) 31 31 = 1,
            time := (secOf s.now / 2 ^ 32 * 2 ^ 32 + (s.reg (regLq q 8)).toNat) * oneS + s.fld (regLq q 0xC) 29 0 * oneNs,
            judged := false }
        ((16 ≤ l.length ∨ n < 60 ∨ 9018 < n) → exec (.launchGo q) s = .next (s.orReg (regLq q 0x14) 0x80))
          ∧ (l.length < 16 → 60 ≤ n → n ≤ 9018 → s.lqLink q = false → exec (.launchGo q) s = .next (s.lqLate q))
          ∧ (l.length < 16 → 60 ≤ n → n ≤ 9018 → s.lqLink q = true → (e.imm = true ∨ s.now + 2000 * oneNs ≤ e.time) → l = [] →
            exec (.launchGo q) s = .next (s.setLaunch q [{ e with judged := !e.imm }])))
      ∧ (∀ (q p : Nat) (e : LaunchEntry) (r : List LaunchEntry), q < 5 → p < 16 → s.time.launch.get q [] = e :: r → s.mode ≠ 2 →
        s.lqLink q = true → (e.imm = true ∨ e.time ≤ s.now + 8 * oneNs) → (s.time.stamps.get q []).length < 16 →
          ∃ t, exec (.launchSend q p) s = .next t
            ∧ t.time.stamps.get q [] = s.time.stamps.get q [] ++ [(e.tag, s.stampAt p
                - (s.fld (regLq q 0x24) 31 16 + s.fld (if q < 4 then regLp q 0x10 else regTw 0x10) 15 0) * oneNs / 64)]
            ∧ (r = [] → t.time.launch.get q [] = []) ∧ t.mem = s.mem ∧ t.clusters = s.clusters)
      ∧ (∀ q, q < 5 → exec (.stns q) s
        = .next { s with time := { s.time with stamps := s.time.stamps.set q ((s.time.stamps.get q []).drop 1) } })

/-- The firings of the Gauge generators, and their enable (R418 to R427). -/
def Obligations.GaugeFirings : Prop :=
  ∀ (s : State) (g t : Nat), g < 64 →
    (s.gOn g = true → s.gKind g = 0 →
      let x := s.gen g
      let first := s.gInstant g x.k
      let last := if s.now < first then x.k else x.k + (s.now - first) / (max 1 (s.reg (regGen g 8)).toNat * oneNs)
      let e := s.gInstant g last
      (s.timeHorizon e = none → exec (.timeFiring g t) s = .next s)
        ∧ ∀ h, s.timeHorizon e = some h → exec (.timeFiring g t) s = .next
          (((upTo (last - x.k)).foldl (fun (u : State) _ => u.gMiss g) (s.setGen g { x with k := last + 1 })).gFire g h e t))
      ∧ (∀ (kind n : Nat) (i : Instr) (e : GaEvent), s.gOn g = true → s.gKind g = kind → s.gTake g = some (e, n) →
        let u := { s with gauge := { s.gauge with events := dropEvent e s.gauge.events } }
        let v := (if e.atClose then u.gLate g else u).gFire g n e.e t
        (((kind = 1 ∧ i = .azimuthFiring g t) ∨ (kind = 2 ∧ i = .lineFiring g t) ∨ (kind = 3 ∧ i = .stripeFiring g t)) →
            exec i s = .next v)
          ∧ (kind = 4 → (v.gen g).eCross = none → v.fld (regGen g 0) 25 25 = 0 →
            exec (.predictFiring g t) s = .next (v.setGen g { v.gen g with eCross := some e.e }))
          ∧ (∀ b, kind = 4 → (v.gen g).eCross = some b →
            let p := (e.e - b) / oneNs
            let w := (v.setGen g { v.gen g with eCross := some e.e }).setReg (regGst g 8) (BitVec.ofNat 32 p)
            let d := (w.fld (regGen g 4) 31 16 + 36000 - w.fld (regGen g 4) 15 0 % 36000) % 36000
            v.fld (regGen g 0) 25 25 = 1 → p ≤ 4000000000 →
              exec (.predictFiring g t) s = exec (.triggerRequest (w.fld (regGen g 0x18) 31 28) (((e.e : Int)
                + (((d * p + 18000) / 36000 : Nat) : Int) * (oneNs : Int)
                + (w.reg (regGen g 8)).toInt * (oneNs : Int)).toNat)) w))
      ∧ (∀ i, (i = .azimuthFiring g t ∨ i = .lineFiring g t ∨ i = .stripeFiring g t ∨ i = .predictFiring g t) →
        (s.gOn g = false ∨ s.gTake g = none) → exec i s = .next s)
      ∧ (let e := (s.gen g).ePrev + s.fld (regGen g 0x18) 15 0 * 100000 * oneNs
        s.gOn g = true → s.gKind g ≠ 0 → s.fld (regGen g 0x18) 15 0 ≠ 0 →
          ((∃ x ∈ s.gauge.events, x.gen = g ∧ x.e ≤ e) → exec (.fallback g t) s = .next s)
            ∧ ∀ h, (∀ x ∈ s.gauge.events, x.gen = g → e < x.e) → s.timeHorizon e = some h →
              exec (.fallback g t) s = .next ((s.gLate g).gFire g h e t))
      ∧ (∀ (c seq h e : Nat) (r : RunRec) (ok : Bool) (u : State), c < 256 → seq < 2 ^ 48 →
        s.runs.find? (fun (r : RunRec) => decide (r.ctx = c ∧ r.seq = seq)) = some r → r.held = some (h, e) → r.step.active = false →
        s.startStep r h e t = (ok, u) → exec (.heldStepStart c seq t) s = .next u)
      ∧ (∀ w : Word32,
        let u := s.setReg (regGen g 0) (w &&& 0x7FFFFFFF#32)
        (s.gOn g = false → bitOf w.toNat 31 = false → exec (.gaugeEnable g w) s = .next u)
          ∧ (s.gOn g = false → bitOf w.toNat 31 = true → exec (.gaugeEnable g w) s = .next
            (if u.genBad g then u.sendEv (0x840 + g) 0x70 g
              else (u.setGen g ⟨u.firstK g, u.now, none⟩).setFld (regGen g 0) 31 31 1))
          ∧ (s.gOn g = true → bitOf w.toNat 31 = false → ∃ u, exec (.gaugeEnable g w) s = .next u ∧ u.gOn g = false
            ∧ u.gauge.events = s.gauge.events.filter (fun x => x.gen ≠ g) ∧ u.clusters = s.clusters))

/-! ### Viaduct links and multi-module jobs (spec/15) -/

/-- PORT_ENABLE, BYP, TRAIN_RESULT, RETRAIN and NAK (R433 to R436). -/
def Obligations.ViaductPorts : Prop :=
  ∀ (s : State) (p : Nat), p < 8 →
    (∀ v : Word32, ∃ t, exec (.portEnable p v) s = .next t
      ∧ (s.fld (regVp p 0) 31 31 = 0 → bitOf v.toNat 31 = true → t.vpState p = 1 ∧ t.vp p = VdPort.reset)
      ∧ (s.fld (regVp p 0) 31 31 = 1 → bitOf v.toNat 31 = false → t.vpState p = 0 ∧ t.vp p = VdPort.reset ∧ t.fld (regVp p 0) 30 30 = 0)
      ∧ (s.fld (regVp p 0) 31 31 = bitsOf v.toNat 31 31 → t.vpState p = s.vpState p ∧ t.vp p = s.vp p ∧ t.net = s.net)
      ∧ t.fld (regVp p 0) 31 31 = bitsOf v.toNat 31 31 ∧ t.vpRole p = (if p < 6 then 0 else bitsOf v.toNat 29 28)
      ∧ t.fld (regVp p 0) 27 25 = bitsOf v.toNat 27 25
      ∧ (∀ q, q < 8 → q ≠ p → t.vpState q = s.vpState q ∧ t.vp q = s.vp q) ∧ t.mem = s.mem ∧ t.clusters = s.clusters)
      ∧ (∀ on, ∃ t, exec (.byp p on) s = .next t ∧ t.fld (regVp p 0) 30 30 = (if on then 1 else 0)
        ∧ t.vpState p = (if on = true ∧ s.vpState p = 2 then 6 else if on = false ∧ s.vpState p = 6 then 1 else s.vpState p)
        ∧ (∀ q, q < 8 → q ≠ p → t.vpState q = s.vpState q ∧ t.vp q = s.vp q) ∧ t.net = s.net ∧ t.mem = s.mem ∧ t.clusters = s.clusters)
      ∧ (∀ pid port, pid < 2 ^ 11 → port < 8 →
        (s.vpState p = 1 → ∃ t, exec (.trainResult p true pid port) s = .next t
            ∧ t.fld (regVp p 4) 28 26 = port ∧ t.fld (regVp p 4) 25 15 = pid
            ∧ t.vpState p = (if s.partner p = some (pid, port) then (if s.fld (regVp p 0) 30 30 = 1 then 6 else 2) else 5)
            ∧ t.net.length = s.net.length + (if s.partner p = some (pid, port) then 0 else 1) ∧ t.mem = s.mem ∧ t.clusters = s.clusters)
          ∧ (s.vpState p = 1 → ∃ t, exec (.trainResult p false pid port) s = .next t ∧ (t.vp p).tries = (s.vp p).tries + 1
            ∧ t.vpState p = (if 3 ≤ (s.vp p).tries + 1 then 4 else 1)
            ∧ t.net.length = s.net.length + (if 3 ≤ (s.vp p).tries + 1 then 1 else 0) ∧ t.mem = s.mem ∧ t.clusters = s.clusters)
          ∧ (s.vpState p = 3 → ∃ t, exec (.trainResult p true pid port) s = .next t ∧ t.vpState p = 2
            ∧ (t.vp p).replay.map (fun f => (f.1, f.2.1)) = (s.vp p).replay.map (fun f => (f.1, f.2.1)) ∧ t.net = s.net)
          ∧ (s.vpState p = 3 → ∃ t, exec (.trainResult p false pid port) s = .next t ∧ t.vpState p = 4 ∧ (t.vp p).replay = []
            ∧ t.net.length = s.net.length + 1)
          ∧ (∀ ok, s.vpState p ≠ 1 → s.vpState p ≠ 3 → exec (.trainResult p ok pid port) s = .next s))
      ∧ (s.vpState p = 2 → ∃ t, exec (.retrain p) s = .next t ∧ t.vpState p = 3 ∧ t.vp p = s.vp p
        ∧ t.fld (regVp p 0xC) 31 16 = min (s.fld (regVp p 0xC) 31 16 + 1) 65535 ∧ t.net.length = s.net.length + 1
        ∧ t.mem = s.mem ∧ t.clusters = s.clusters)
      ∧ (s.vpState p ≠ 2 → exec (.retrain p) s = .next s ∧ ∀ lack, lack < 4096 → exec (.nak p lack) s = .next s)
      ∧ (∀ lack, lack < 4096 → s.vpState p = 2 →
        let left := ((s.vp p).replay.filter (fun f => decide (2048 ≤ (lack + 4096 - f.1) % 4096))).map (fun f => (f.1, f.2.1, f.2.2 + 1))
        ∃ t, exec (.nak p lack) s = .next t ∧ (t.vp p).replay = left
          ∧ t.vpState p = (if left.any (fun f => decide (8 ≤ f.2.2)) = true then 3 else 2)
          ∧ t.fld (regVp p 8) 31 16 = min (s.fld (regVp p 8) 31 16 + left.length) 65535 ∧ t.mem = s.mem ∧ t.clusters = s.clusters)

/-- FLIT_RECEIVE (R432, R433). -/
def Obligations.ViaductFlits : Prop :=
  ∀ (s : State) (p fec : Nat) (b : List Byte), p < 8 → fec < 3 → b.length < 2 ^ 16 →
    let h := fieldAt b 0 4
    let good := fec ≠ 2 ∧ b.length = 256 ∧ fieldAt b 252 4 = (crc32c (b.take 252)).toNat
    let s1 := if fec = 1 then s.bump (regVp p 0xC) 15 0 1 else s
    let a := s1.vpAck p (bitsOf h 19 8)
    let u := if bitOf h 5 then a.vpReplay p (bitsOf h 19 8) else a
    (s.vpState p ≠ 2 → exec (.flitReceive p fec b) s = .next s)
      ∧ (s.vpState p = 2 → ¬ good → ∃ t, exec (.flitReceive p fec b) s = .next t ∧ t.vp p = { s.vp p with nak := true }
        ∧ t.fld (regVp p 8) 15 0 = (if fec = 2 then min (s.fld (regVp p 8) 15 0 + 1) 65535 else s.fld (regVp p 8) 15 0)
        ∧ t.fld (regVp p 0xC) 15 0 = (if fec = 1 then min (s.fld (regVp p 0xC) 15 0 + 1) 65535 else s.fld (regVp p 0xC) 15 0)
        ∧ t.vd.transit = s.vd.transit ∧ t.net = s.net ∧ t.mem = s.mem ∧ t.clusters = s.clusters)
      ∧ (s.vpState p = 2 → good → bitsOf h 7 6 = 3 → exec (.flitReceive p fec b) s = .next (u.creditBack p b))
      ∧ (s.vpState p = 2 → good → bitsOf h 7 6 ≠ 3 → bitsOf h 31 20 ≠ (u.vp p).rx →
        exec (.flitReceive p fec b) s = .next (u.setVp p { u.vp p with nak := true }))
      ∧ (s.vpState p = 2 → good → bitsOf h 7 6 ≠ 3 → bitsOf h 31 20 = (u.vp p).rx →
        let all := (if bitOf h 4 then [] else (u.vp p).part.get (bitsOf h 7 6) []) ++ (b.drop 4).take 248
        let x : VdPort := { u.vp p with rx := ((u.vp p).rx + 1) % 4096 }
        let n := pkLen all
        let pk := all.take (if pkKind all = 1 then 32 + n + (if bitOf (pkFlags all) 2 then ceilDiv n 64 else 0) else 32)
        let w := (u.setVp p x).setVp p { x with part := x.part.erase (bitsOf h 7 6) }
        (bitOf h 3 = false → exec (.flitReceive p fec b) s
            = .next ((u.setVp p x).setVp p { x with part := x.part.set (bitsOf h 7 6) all }))
          ∧ (bitOf h 3 = true → exec (.flitReceive p fec b) s = .next (w.gotAny (bitsOf h 7 6) pk)
            ∧ (pkBad pk = true → (w.gotAny (bitsOf h 7 6) pk).fld (regVd 8) 15 0 = min (s.fld (regVd 8) 15 0 + 1) 65535
              ∧ (w.gotAny (bitsOf h 7 6) pk).vd = w.vd)
            ∧ (pkBad pk = false → pkDst pk ≠ s.pid → w.gotAny (bitsOf h 7 6) pk
              = { w with vd := { w.vd with transit := u.vd.transit ++ [(bitsOf h 7 6, pk)] } })))
      ∧ (a.vp p = { s.vp p with
          replay := (s.vp p).replay.filter (fun f => decide (2048 ≤ (bitsOf h 19 8 + 4096 - f.1) % 4096)) })

/-- PACKET_HOP and the route of R437. -/
def Obligations.ViaductRouting : Prop :=
  (∀ (s : State) (b : List Byte) (pref d : Nat), d < 3 → (pkKind b ≠ 1 ∨ s.strict = true) → bitOf (pkFlags b) 3 = false →
    (∀ e, e < d → s.distTo (pkDst b) e = 0) → s.distTo (pkDst b) d ≠ 0 → s.fld (regVd 0) 24 23 ≠ d →
    let plus := decide (2 * s.distTo (pkDst b) d ≤ s.dimOf d)
    let q := 2 * d + (if plus then 0 else 1)
    let wrap := if plus then decide (s.coord s.pid d + 1 = s.dimOf d) else decide (s.coord s.pid d = 0)
    (s.vpState q = 2 → s.route b pref = some (q, wrap, false))
      ∧ (s.vpState q ≠ 2 → s.vpState 6 = 2 → s.vpRole 6 = 1 → s.fld (regVp 6 0) 27 25 = q → s.route b pref = some (6, wrap, false)))
    ∧ (∀ s : State,
      let m := s.makeAll
      (s.readyCopies = [] → m = s)
        ∧ (m.vd.transit = [] → exec .packetHop s = .next m)
        ∧ (∀ vc b, (m.vd.transit.find? (fun x => decide (x.1 = 0)) = some (vc, b)
            ∨ (∀ x ∈ m.vd.transit, x.1 ≠ 0) ∧ m.vd.transit.head? = some (vc, b)) →
          let r := m.vd.transit.erase (vc, b)
          (pkBad b = true → ∃ t, exec .packetHop s = .next t ∧ t.vd.transit = r
              ∧ t.fld (regVd 8) 15 0 = min (m.fld (regVd 8) 15 0 + 1) 65535 ∧ t.mem = m.mem ∧ t.clusters = m.clusters)
            ∧ (pkBad b = false → (63 ≤ pkHops b ∨ m.route b (m.hopDim vc b) = none) → ∃ t, exec .packetHop s = .next t
              ∧ t.vd.transit = r ∧ t.fld (regVd 8) 31 16 = min (m.fld (regVd 8) 31 16 + 1) 65535 ∧ t.mem = m.mem
              ∧ t.clusters = m.clusters)
            ∧ (∀ p wrap rev, pkBad b = false → pkHops b < 63 → m.route b (m.hopDim vc b) = some (p, wrap, rev) →
              let n := ceilDiv b.length 248
              let v := if vc = 1 ∧ wrap = true then 2 else vc
              let fits := (m.vp p).replay.length + n ≤ 512 ∧ (m.vp p).spent.get v 0 + n ≤ (if v = 0 then 32 else 256)
              (¬ fits → 0 < n → vc ≠ 0 →
                exec .packetHop s = .next { m with vd := { m.vd with blocked := some (m.vd.blocked.getD m.ticks) } })
                ∧ (fits → ∃ t, exec .packetHop s = .next t ∧ t.vd.transit = r
                  ∧ (t.vp p).tx = ((m.vp p).tx + n) % 4096 ∧ (t.vp p).replay.length = (m.vp p).replay.length + n
                  ∧ (t.vp p).replay.take (m.vp p).replay.length = (m.vp p).replay
                  ∧ (t.vp p).spent.get v 0 = (m.vp p).spent.get v 0 + n ∧ t.regs = m.regs ∧ t.net = m.net
                  ∧ t.mem = m.mem ∧ t.clusters = m.clusters))))
    ∧ (∀ (s : State) (vc : Nat) (b : List Byte),
      (∀ t, s.vd.blocked = some t → t + 500 ≤ s.ticks → s.hopDim vc b = 3)
        ∧ (s.vd.blocked = none → (∃ d, d < 3 ∧ s.distTo (pkDst b) d ≠ 0) →
          s.hopDim vc b < 3 ∧ s.distTo (pkDst b) (s.hopDim vc b) ≠ 0
            ∧ ∀ d, d < 3 → s.distTo (pkDst b) d ≠ 0 → s.dimCredits vc b d ≤ s.dimCredits vc b (s.hopDim vc b)
              ∧ (d < s.hopDim vc b → s.dimCredits vc b d < s.dimCredits vc b (s.hopDim vc b))))

/-- WRITE_PACKET, WACK, WNAK, RTO_EXPIRY and WNAK_RESEND (R438 to R442). -/
def Obligations.ViaductWrites : Prop :=
  ∀ (s : State) (b : List Byte), b.length < 2 ^ 16 →
    (∀ c k, (c, k) ∈ [(Instr.writePacket b, 1), (.wack b, 2), (.wnak b, 3), (.confirm b, 4), (.retract b none, 5), (.abortMessage b, 6)] →
      (pkBad b = true → ∃ t, exec c s = .next t ∧ t.fld (regVd 8) 15 0 = min (s.fld (regVd 8) 15 0 + 1) 65535
          ∧ t.vd = s.vd ∧ t.mem = s.mem ∧ t.clusters = s.clusters)
        ∧ (pkBad b = false → (pkKind b ≠ k ∨ pkDst b ≠ s.pid) → exec c s = .next s)
        ∧ (∀ j, pkBad b = false → pkKind b = k → pkDst b = s.pid → s.jobFor b = none → s.jobNamed b = some j →
          (k = 1 → ∀ i, i < 16 → s.jState i = 0 → s.jId i ≠ pkJob b) →
          ∃ t, exec c s = .next t ∧ t.fld (regJob j 0x1C) 15 0 = min (s.fld (regJob j 0x1C) 15 0 + 1) 65535 ∧ t.vd = s.vd
            ∧ t.mem = s.mem ∧ t.clusters = s.clusters))
      ∧ (pkBad b = false → pkKind b = 1 → pkDst b = s.pid →
        let reply := fun (kind cause : Nat) =>
          pkHeader (pkSrc b) s.pid kind (pkGen b) (pkJob b) (pkEpoch b) (pkAtt b) cause 0 (pkMsg b) 0 0 0 0
        (∀ i, i < 16 → s.jobFor b = none → s.jState i = 0 → s.jId i = pkJob b →
          exec (.writePacket b) s = .next (s.inject 0 (reply 3 4)))
          ∧ ∀ j p, s.jobFor b = some j → s.peerOf j (pkSrc b) = some p →
            let off := (pkEpoch b + 2 ^ 32 - s.jOldest j) % 2 ^ 32
            let done := (s.job j).done p (pkMsg b)
            let ea := s.jExp j (pkEpoch b) p
            (done = true → exec (.writePacket b) s = .next (s.inject 0 (reply 2 0)))
              ∧ (done = false → s.writeOk j b = false → exec (.writePacket b) s = .next (s.inject 0 (reply 3 2)))
              ∧ (done = false → s.writeOk j b = true → 2 ^ 31 ≤ off → exec (.writePacket b) s = .next (s.inject 0 (reply 3 3)))
              ∧ (done = false → s.writeOk j b = true → 1 < off → off < 2 ^ 31 → exec (.writePacket b) s = .next (s.inject 0 (reply 3 1)))
              ∧ (done = false → s.writeOk j b = true → off ≤ 1 → pkAtt b < ea → exec (.writePacket b) s = .next (s.inject 0 (reply 2 0)))
              ∧ (done = false → s.writeOk j b = true → off ≤ 1 → ea < pkAtt b → exec (.writePacket b) s
                = .next ((s.retractFrom j (pkEpoch b) (pkAtt b - 1) p).takeWrite j p b))
              ∧ (done = false → s.writeOk j b = true → off ≤ 1 → pkAtt b = ea →
                (bitOf (pkFlags b) 1 = true ∨ s.calRefuses (pkAddr b) (pkLen b) true = false) →
                let n := pkLen b
                let bs := (((b.drop 32).take n).zip (upTo n)).map (fun e =>
                  (e.1, bitOf (pkFlags b) 2 && bitOf ((b.drop (32 + n)).getD (e.2 / 64) 0).toNat (e.2 / 8 % 8)))
                ∃ t, exec (.writePacket b) s = .next t
                  ∧ t.mem = (s.writeFor (s.jCtx j) (if bitOf (pkFlags b) 1 then 2 else 0) (pkAddr b) bs).mem
                  ∧ (t.job j).done p (pkMsg b) = true ∧ t.vd.transit = s.vd.transit ++ [(0, reply 2 0)] ∧ t.vd.outs = s.vd.outs))
      ∧ (∀ o, pkBad b = false → pkDst b = s.pid → s.sentFor b = some o →
        (pkKind b = 2 → ∃ t, exec (.wack b) s = .next t
          ∧ t.vd.outs = s.vd.outs.filter (fun y => ¬ (y.slot = o.slot ∧ y.peer = o.peer ∧ y.msg = o.msg))
          ∧ t.vd.transit = s.vd.transit ∧ t.net = s.net ∧ t.mem = s.mem ∧ t.regs = s.regs)
          ∧ (pkKind b = 3 → (pkAux b = 1 ∨ pkAux b = 4) → ∃ t, exec (.wnak b) s = .next t
            ∧ t.vd.outs = s.vd.outs.map (fun y =>
                if y.slot = o.slot ∧ y.peer = o.peer ∧ y.msg = o.msg then { y with wnakAt := some s.ticks } else y)
            ∧ t.vd.transit = s.vd.transit ∧ t.regs = s.regs ∧ t.net = s.net ∧ t.mem = s.mem ∧ t.clusters = s.clusters)
          ∧ (pkKind b = 3 → (pkAux b = 2 ∨ pkAux b = 3) → o.slot < 16 → s.jState o.slot = 1 → ∃ t, exec (.wnak b) s = .next t
            ∧ t.jState o.slot = 3 ∧ t.fld (regJob o.slot 0x14) 31 24 = (if pkAux b = 2 then 6 else 7)
            ∧ ∀ y ∈ t.vd.outs, y.slot ≠ o.slot))
      ∧ (∀ j p msg, j < 16 → p < 8 → msg < 2 ^ 32 → (∀ o, o ∈ s.vd.outs → ¬ (o.slot = j ∧ o.peer = p ∧ o.msg = msg)) →
        exec (.rtoExpiry j p msg) s = .next s ∧ exec (.wnakResend j p msg) s = .next s)
      ∧ (∀ j p msg o, j < 16 → p < 8 → msg < 2 ^ 32 →
        s.vd.outs.find? (fun o => decide (o.slot = j ∧ o.peer = p ∧ o.msg = msg)) = some o →
        let again := fun (n : Nat) => s.vd.outs.map (fun y =>
          if y.slot = j ∧ y.peer = p ∧ y.msg = msg then { y with sends := n, sentAt := s.ticks, wnakAt := none } else y)
        (o.wnakAt = none → s.ticks < o.sentAt + 500 * min 200 (max 10 (s.fld (regVd 4) 7 0)) → exec (.rtoExpiry j p msg) s = .next s)
          ∧ (o.wnakAt = none → o.sentAt + 500 * min 200 (max 10 (s.fld (regVd 4) 7 0)) ≤ s.ticks → o.sends < 4 →
            exec (.rtoExpiry j p msg) s = .next { s with vd := { s.vd with
              outs := again (o.sends + 1), transit := s.vd.transit ++ [(1, o.packet)] } })
          ∧ (o.wnakAt = none → o.sentAt + 500 * min 200 (max 10 (s.fld (regVd 4) 7 0)) ≤ s.ticks → 4 ≤ o.sends → s.jState j = 1 →
            ∃ t, exec (.rtoExpiry j p msg) s = .next t ∧ t.jState j = 3 ∧ t.fld (regJob j 0x14) 31 24 = 5)
          ∧ (∀ w, o.wnakAt = some w → w + 5000 ≤ s.ticks →
            exec (.wnakResend j p msg) s = .next { s with vd := { s.vd with
              outs := again o.sends, transit := s.vd.transit ++ [(1, o.packet)] } }))

/-- ARM, CONFIRM, RETRACT, OWN_CHECKS, EPOCH_TIMEOUT, JOB_ABORT, ABORT_MESSAGE and QUIET_EXPIRY (R443 to R453). -/
def Obligations.ViaductJobs : Prop :=
  ∀ (s : State) (j : Nat), j < 16 →
    let abortHdr := fun (p cause : Nat) => pkHeader (s.jPid j p) s.pid 6 (s.jGen j) (s.jId j) (s.jOldest j) 0 cause 0 0 0 0 0 0
    (let bad := s.ctxState (s.jCtx j) ≠ 1 ∨ (∃ i, i < 16 ∧ i ≠ j ∧ s.jState i ≠ 0 ∧ s.jId i = s.jId j) ∨ s.jPeers j = []
        ∨ (s.jWave j = true ∧ ∃ p, p ∈ s.jPeers j ∧ (bitOf (s.jPeer j p) 30 = false ∨ bitOf (s.jPeer j p) 29 = false))
        ∨ (s.job j).lastGen = some (s.jGen j) ∨ 63 < s.fld (regJob j 4) 25 20 + 3 ∨ s.jState j = 3 ∨ s.jState j = 1
      let twice := ∃ p q, p ∈ s.jPeers j ∧ q ∈ s.jPeers j ∧ p < q ∧ s.jPid j p = s.jPid j q
      (bad ∨ twice → exec (.arm j) s = .next (s.send (jobSrc j) 0x86 0 true [s.jCtx j]))
        ∧ (¬ bad → ¬ twice → ∃ t, exec (.arm j) s = .next t ∧ t.jState j = 1 ∧ t.jOldest j = (s.reg (regJob j 8)).toNat
          ∧ t.reg (regJob j 0x1C) = 0 ∧ t.job j = { VdSlot.reset with lastGen := (s.job j).lastGen, since := s.ticks }
          ∧ (∀ i, i ≠ j → t.job i = s.job i) ∧ t.net = s.net ∧ t.mem = s.mem ∧ t.clusters = s.clusters))
      ∧ (∀ b p, b.length < 2 ^ 16 → pkBad b = false → pkDst b = s.pid → s.jobFor b = some j → s.peerOf j (pkSrc b) = some p →
        let old := pkAtt b < s.jExp j (pkEpoch b) p ∨ 2 ^ 31 ≤ (pkEpoch b + 2 ^ 32 - s.jOldest j) % 2 ^ 32
        (∀ c, c = Instr.confirm b ∧ pkKind b = 4 ∨ c = .retract b none ∧ pkKind b = 5 → old →
          ∃ t, exec c s = .next t ∧ t.fld (regJob j 0x1C) 15 0 = min (s.fld (regJob j 0x1C) 15 0 + 1) 65535 ∧ t.vd = s.vd
            ∧ t.mem = s.mem ∧ t.clusters = s.clusters)
          ∧ (pkKind b = 4 → ¬ old →
            let c : VdConf := ⟨p, pkEpoch b, pkAtt b, pkAux b⟩
            let x := s.job j
            exec (.confirm b) s = .next ((s.setJob j { x with
              confs := if x.confs.contains c then x.confs else x.confs ++ [c] }).tryCommit j))
          ∧ (pkKind b = 5 → ¬ old → s.jWave j = false → ∃ t, exec (.retract b none) s = .next t
            ∧ t.jExp j (pkEpoch b) p = pkAtt b + 1 ∧ t.jOut j (pkEpoch b) = s.jOut j (pkEpoch b) + 1
            ∧ t.fld (regJob j 0x1C) 31 16 = min (s.fld (regJob j 0x1C) 31 16 + 1) 65535
            ∧ t.vd.transit = s.vd.transit ++ (s.jDns j).map (fun q => (0, pkHeader (s.jPid j q) s.pid 5 (s.jGen j) (s.jId j)
                (pkEpoch b) (s.jOut j (pkEpoch b)) 0 0 0 0 0 0 0)) ∧ t.mem = s.mem)
          ∧ (pkKind b = 5 → ¬ old → s.jWave j = true → ∃ t, exec (.retract b none) s = .next t
            ∧ (∀ q, q ∈ s.jPeers j → t.jExp j (pkEpoch b) q = pkAtt b + 1) ∧ t.jOut j (pkEpoch b) = pkAtt b + 1
            ∧ t.vd.transit = s.vd.transit ++ ((s.jPeers j).filter (fun q => q ≠ p)).map (fun q => (0, pkHeader (s.jPid j q) s.pid 5
                (s.jGen j) (s.jId j) (pkEpoch b) (pkAtt b) 0 0 0 0 0 0 0)) ∧ t.mem = s.mem)
          ∧ (pkKind b = 6 → ∃ t, exec (.abortMessage b) s = .next t ∧ t.jState j = 3 ∧ t.fld (regJob j 0x14) 31 24 = 3
            ∧ ∀ q, q ∈ s.jPeers j → q ≠ p → (0, abortHdr q 3) ∈ t.vd.transit))
      ∧ (∀ u : State, u.jState j = 1 → (u.job j).passed = true → u.jWave j = false →
        let held := ∀ p, p ∈ u.jUps j → ∃ c, c ∈ (u.job j).confs ∧ c.peer = p ∧ c.epoch = u.jOldest j
          ∧ c.att = u.jExp j (u.jOldest j) p ∧ c.round = 0
        (¬ held → u.tryCommit j = u)
          ∧ (held → (u.tryCommit j).jOldest j = (u.jOldest j + 1) % 2 ^ 32
            ∧ (u.tryCommit j).vd.transit = u.vd.transit ++ (u.jDns j).map (fun p => (0, pkHeader (u.jPid j p) u.pid 4 (u.jGen j) (u.jId j)
                (u.jOldest j) (u.jOut j (u.jOldest j)) 0 0 0 0 0 0 0))))
      ∧ (∀ u : State, (u.jState j ≠ 1 ∨ (u.job j).passed = false) → u.tryCommit j = u)
      ∧ (s.jState j ≠ 1 → exec (.ownChecks j) s = .next s ∧ exec (.epochTimeout j) s = .next s ∧ exec (.jobAbort j) s = .next s
        ∧ ∀ b e, b.length < 2 ^ 16 → e < 2 ^ 32 → exec (.retract b (some (j, e))) s = .next s)
      ∧ (s.jState j = 1 → ∀ t, s.dupsEqual j (s.jOldest j) = (true, t) → t.jState j = 1 →
        ((t.job j).passed = true ∨ t.checksHold j = false → exec (.ownChecks j) s = .next t)
          ∧ ((t.job j).passed = false → t.checksHold j = true →
            exec (.ownChecks j) s = .next ((t.setJob j { t.job j with passed := true }).tryCommit j)))
      ∧ (∀ b e, b.length < 2 ^ 16 → e < 2 ^ 32 → s.jState j = 1 → ∀ t, s.dupsEqual j e = (false, t) →
        exec (.retract b (some (j, e))) s = .next (t.checksFail j e))
      ∧ (∀ r x, s.jState j = 1 → s.jRun j = some r → r.begun.find? (fun x => decide (x.1 = s.stepOf j (s.jOldest j))) = some x →
        let late := max x.2 (s.job j).since + 50000 * max 1 (s.fld (regJob j 0xC) 31 16) ≤ s.ticks
        (¬ late → exec (.epochTimeout j) s = .next s)
          ∧ (late → ∃ t, exec (.epochTimeout j) s = .next t ∧ t.jState j = 3 ∧ t.fld (regJob j 0x14) 31 24 = 4
            ∧ ∀ p, p ∈ s.jPeers j → (0, abortHdr p 4) ∈ t.vd.transit))
      ∧ (s.jState j = 1 → ∃ t, exec (.jobAbort j) s = .next t ∧ t.jState j = 3 ∧ t.fld (regJob j 0x14) 31 24 = 1
        ∧ (t.job j).lastGen = some (s.jGen j) ∧ (t.job j).quietAt = s.ticks
        ∧ (∀ p, p ∈ s.jPeers j → (0, abortHdr p 1) ∈ t.vd.transit) ∧ ∀ o, o ∈ t.vd.outs → o.slot ≠ j)
      ∧ (s.jState j = 3 → (s.job j).quietAt + ticksPerMs ≤ s.ticks →
        ∃ t, exec (.quietExpiry j) s = .next t ∧ t.jState j = 2 ∧ t.vd = s.vd ∧ t.net = s.net ∧ t.mem = s.mem)
      ∧ ((s.jState j ≠ 3 ∨ s.ticks < (s.job j).quietAt + ticksPerMs) → exec (.quietExpiry j) s = .next s)

/-! ### The fault collector (spec/16) -/

/-- FAULT_MESSAGE and KEEP_ALIVE (R457, R460 to R467). -/
def Obligations.FaultMessages : Prop :=
  ∀ (s : State) (src : Nat), src < 2 ^ 12 →
    (∀ ok, (∀ m, m ∈ s.net → msgSrc m.bits.toNat ≠ src) → exec (.faultMessage src ok none) s = .next s)
      ∧ (∀ m, s.net.find? (fun m => decide (msgSrc m.bits.toNat = src)) = some m →
        let b := m.bits.toNat
        let u : State := { s with net := s.net.erase m }
        let want := match lookup s.fc.expSeq.rows src with
          | some (g, q) => if g = msgGen b then q else 0
          | none => 0
        let w := if want = msgSeq b then u else u.sendEv fcSrc 0xF1 src
        let v : State := { w with fc := { w.fc with expSeq := w.fc.expSeq.set src (msgGen b, (msgSeq b + 1) % 8) } }
        let sev := if m.sev = 0 then s.sevOf src (msgKind b) else m.sev
        let eff := effOf src (msgKind b) sev
        exec (.faultMessage src false none) s = .next u
          ∧ (msgGen b ≠ s.colGen src → exec (.faultMessage src true none) s = .next (u.bump (regFc 0xC) 31 16 1))
          ∧ (msgGen b = s.colGen src → msgKind b = 0 → exec (.faultMessage src true none) s = .next v)
          ∧ (msgGen b = s.colGen src → msgKind b ≠ 0 → s.openRec src (msgKind b) = none →
            ((msgC b = false ∨ eff = 0) → exec (.faultMessage src true none) s = .next (v.logAdd (v.plainRec m sev)))
              ∧ (∀ i, msgC b = true → eff = 1 → msgKind b ≠ 0xB8 → s.freeSlot src (msgKind b) = some i →
                ∃ t, exec (.faultMessage src true none) s = .next t
                  ∧ lookup t.fc.recs.rows i = some { v.plainRec m sev with eff := 1, isOpen := true, gone := !kindLevel (msgKind b) }
                  ∧ (∀ k, k ≠ i → lookup t.fc.recs.rows k = lookup s.fc.recs.rows k) ∧ t.logSeq = (s.logSeq + 1) % 2 ^ 32
                  ∧ t.fences = s.fences ∧ t.clusters = s.clusters ∧ t.mem = s.mem)
              ∧ (msgC b = true → eff = 2 → src < 64 → s.inService src = true →
                ∃ t, exec (.faultMessage src true none) s = .next t ∧ src ∈ t.fences)
              ∧ (msgC b = true → eff = 5 → s.fld (regRc 0) 0 0 = 0 →
                ∃ t, exec (.faultMessage src true none) s = .next t ∧ t.rst.halted = true))
          ∧ (∀ i x, msgGen b = s.colGen src → msgKind b ≠ 0 → s.openRec src (msgKind b) = some (i, x) → x.isOpen = true →
            x.displaced = false →
            let y : FaultRecord := { x with rep := min (x.rep + 1) 65535, gone := if kindLevel (msgKind b) then false else x.gone }
            (msgC b = true → (x.acked = true ∨ x.carried = true ∨ x.escRep = true) →
              ∃ t, exec (.faultMessage src true none) s = .next t ∧ lookup t.fc.recs.rows i = some y
                ∧ (∀ k, k ≠ i → lookup t.fc.recs.rows k = lookup s.fc.recs.rows k) ∧ t.fences = s.fences ∧ t.clusters = s.clusters)
              ∧ (msgC b = true → x.acked = false → x.carried = false → x.escRep = false → exec (.faultMessage src true none) s
                = .next ((v.recEvent 2 i { y with escRep := true }).escalate i { y with escRep := true }))
              ∧ (msgC b = false → kindLevel (msgKind b) = true → ∃ t, exec (.faultMessage src true none) s = .next t
                ∧ lookup t.fc.recs.rows i = (if x.acked then none else some { x with gone := true })
                ∧ (∀ k, k ≠ i → lookup t.fc.recs.rows k = lookup s.fc.recs.rows k) ∧ t.fences = s.fences ∧ t.clusters = s.clusters)
              ∧ (msgC b = false → kindLevel (msgKind b) = false →
                exec (.faultMessage src true none) s = .next (v.logAdd (v.plainRec m sev)))))
      ∧ (∀ u i (r : FaultRecord), r.eff = 2 → r.ctxs = [] → r.isOpen = true → r.displaced = false →
        lookup (State.escalate u i r).fc.recs.rows i = some { r with eff := 3, noctx := true })
      ∧ (¬ (src < 0x300 ∨ src / 256 = 9) → exec (.keepAlive src) s = .next s)
      ∧ ((src < 0x300 ∨ src / 256 = 9) → (∃ m, m ∈ s.net ∧ msgSrc m.bits.toNat = src) →
        exec (.keepAlive src) s = .next (s.send src 0 0 true []))
      ∧ ((src < 0x300 ∨ src / 256 = 9) → (∀ m, m ∈ s.net → msgSrc m.bits.toNat ≠ src) → s.colGen src = s.genOf src →
        lookup s.fc.expSeq.rows src = some (s.genOf src, (s.srcSeq.get src 0).toNat) →
        ∃ t, exec (.keepAlive src) s = .next t ∧ t.net = s.net ∧ t.fc.recs = s.fc.recs ∧ t.fc.log = s.fc.log
          ∧ t.srcSeq.get src 0 = s.srcSeq.get src 0 + 1
          ∧ lookup t.fc.expSeq.rows src = some (s.genOf src, ((s.srcSeq.get src 0).toNat + 1) % 8) ∧ t.regs = s.regs ∧ t.mem = s.mem)

/-- FC_ACK, ACK_DEADLINE, FC_FENCECMD, RETURN_TO_SERVICE, FC_SEV, FC_CFG, TOWPATH_REPORT, HISTORY_WRITE and OPERATING_HOURS
(R461, R466, R468, R469, R475 to R479, R531). -/
def Obligations.FaultCommands : Prop :=
  ∀ (s : State),
    (∀ v : Word32, let slot := bitsOf v.toNat 7 0
      (∀ r, lookup s.fc.recs.rows slot = some r → r.lseq.toNat % 65536 = bitsOf v.toNat 31 16 → r.isOpen = true → r.displaced = false →
        (r.acked = true → exec (.fcAck v) s = .next s)
          ∧ (r.acked = false → ∃ t, exec (.fcAck v) s = .next t
            ∧ lookup t.fc.recs.rows slot = (if r.gone then none else some { r with acked := true })
            ∧ (∀ k, k ≠ slot → lookup t.fc.recs.rows k = lookup s.fc.recs.rows k)
            ∧ t.logSeq = (s.logSeq + (if r.gone then 2 else 1)) % 2 ^ 32 ∧ t.fences = s.fences ∧ t.mem = s.mem ∧ t.clusters = s.clusters))
        ∧ ((∀ r, lookup s.fc.recs.rows slot = some r → r.lseq.toNat % 65536 ≠ bitsOf v.toNat 31 16) →
          exec (.fcAck v) s = .next (s.bump (regFc 0xC) 15 0 1)))
      ∧ (∀ slot, slot < 256 → lookup s.fc.recs.rows slot = none → exec (.ackDeadline slot) s = .next s)
      ∧ (∀ slot r, slot < 256 → lookup s.fc.recs.rows slot = some r →
        let open_ := r.acked = true ∨ r.escDl = true ∨ r.carried = true ∨ s.ticks < r.at_ + max 1 (s.fld (regFc 0) 23 16) * ticksPerMs
        (open_ → exec (.ackDeadline slot) s = .next s)
          ∧ (¬ open_ → exec (.ackDeadline slot) s = .next (s.escalate slot { r with escDl := true })))
      ∧ (∀ unit, unit < 2 ^ 12 → fencedBy unit = none →
        exec (.fcFence unit) s = .next ((s.bump (regFc 0xC) 15 0 1).sendEv fcSrc 0xF2 0)
          ∧ ∀ fails, exec (.returnToService unit fails) s = .next ((s.bump (regFc 0xC) 15 0 1).sendEv fcSrc 0xF2 0))
      ∧ (∀ c, c < 64 → s.inService c = true → ∃ t, exec (.fcFence c) s = .next t ∧ t.fences = s.fences ++ [c]
        ∧ (∀ h, h < 64 → t.hostOf h ≠ some c) ∧ (s.isBusy c = false → (t.cl c).seq.st = .stopped))
      ∧ (∀ n, n < 16 → portSrc n ∉ s.fences → ∃ t, exec (.fcFence (0x600 + n)) s = .next t ∧ t.fences = s.fences ++ [portSrc n])
      ∧ (∀ p, p < 8 → s.vpState p = 2 → ∃ t, exec (.fcFence (0x900 + p)) s = .next t ∧ t.vpState p = 6)
      ∧ (∀ unit u fails, unit < 2 ^ 12 → fencedBy unit = some u → s.returnBad unit u = true →
        exec (.returnToService unit fails) s = .next ((s.bump (regFc 0xC) 15 0 1).sendEv fcSrc 0xF2 0))
      ∧ (∀ c fails, c < 64 → s.returnBad c (.cluster c) = false → c ∈ s.fences →
        ((lookup fails c).getD 0 = 0 → ∃ t, exec (.returnToService c fails) s = .next t ∧ t.fences = s.fences.filter (fun f => f ≠ c)
            ∧ t.saf.tested.get c 0 = s.ticks ∧ (t.cl c).seq.st = .idle)
          ∧ ((lookup fails c).getD 0 ≠ 0 → ∃ t, exec (.returnToService c fails) s = .next t ∧ t.fences = s.fences
            ∧ t.fc.due.length = s.fc.due.length + 1))
      ∧ (∀ p fails, p < 8 → s.returnBad (0x900 + p) (.viaduct p) = false →
        exec (.returnToService (0x900 + p) fails) s = exec (.byp p false) s)
      ∧ (∀ off v, off < 2 ^ 32 → 0x2000 ≤ off → off < 0x3000 → off % 4 = 0 →
        let x := fun (j : Nat) => bitsOf v.toNat (8 * j + 2) (8 * j)
        let d := fun (j : Nat) => kindDefault (off % 0x100 / 4 * 4 + j)
        ((∀ j, j < 4 → x j ≤ 5 ∧ (2 ≤ d j → d j ≤ x j)) → exec (.fcSev off v) s = .next (s.setReg (regFc off) (v &&& 0x07070707#32)))
          ∧ ((∃ j, j < 4 ∧ (5 < x j ∨ (2 ≤ d j ∧ x j < d j))) → exec (.fcSev off v) s = .next (s.sendEv fcSrc 0xF2 0)))
      ∧ (∀ v : Word32, ∃ t, exec (.pinthWrite v) s = .next t ∧ t.reg (regFc 0) = v &&& 0x00FF0771#32
        ∧ (t.fld (regFc 4) 2 2 = 1 ↔ s.fld (regFc 4) 0 0 = 0 ∨ ∃ e, e ∈ s.fc.recs.rows ∧ max 1 (bitsOf v.toNat 6 4) ≤ e.2.eff)
        ∧ t.fc = s.fc ∧ t.net = s.net ∧ t.mem = s.mem ∧ t.clusters = s.clusters)
      ∧ ((s.fc.reports = [] ∨ s.fld (regTw 0) 0 0 = 0) → exec .towpathReport s = .next s)
      ∧ (∀ f r, s.fc.reports = f :: r → s.fld (regTw 0) 0 0 = 1 → exec .towpathReport s
        = .next { s with fc := { s.fc with reports := r }, mg := { s.mg with out := s.mg.out ++ [f] } })
      ∧ (s.fc.due = [] → exec .historyWrite s = .next s)
      ∧ (∀ e r, s.fc.due = e :: r → exec .historyWrite s = .next (
          if s.fc.flash.length < 16384 then { s with fc := { s.fc with due := r, flash := s.fc.flash ++ [e] } }
          else if s.fc.staged.length < 64 then { s with fc := { s.fc with due := r, staged := s.fc.staged ++ [e] } } else s))
      ∧ (s.fld (regPw 8) 1 0 = 2 → exec .operatingHours s = .next s)
      ∧ (s.fld (regPw 8) 1 0 ≠ 2 → ∃ t, exec .operatingHours s = .next t
        ∧ t.reg (regFc 0x50) = s.reg (regFc 0x50) + 1 ∧ t.fc.hoursFlash = (s.reg (regFc 0x50) + 1).toNat
        ∧ t.net = s.net ∧ t.mem = s.mem ∧ t.clusters = s.clusters)

/-! ### Keystone, Footbridge, the safety SPI and the rotating self-test (spec/17) -/

/-- RELEASE and RELEASE_DEADLINE (R485, R486). -/
def Obligations.ReleaseAndCover : Prop :=
  ∀ (s : State) (o : Nat), o < 32 →
    ((∀ d, d ∈ s.decs → ¬ (d.out = o ∧ d.result = 0)) → exec (.release o) s = .next s ∧ exec (.releaseDeadline o) s = .next s)
      ∧ (∀ d, s.decs.find? (fun (d : Decision) => d.out = o ∧ d.result = 0) = some d →
        ((s.ks ≠ 1 ∨ s.stepDone d = false ∨ d.want = true) → exec (.release o) s = .next s)
          ∧ (∀ c u, s.checkCopies d = (c, u) → s.ks = 1 → s.stepDone d = true → d.want = false →
            let late := d.ref + u.fld (regKso o 8) 15 0 * 10000 * oneNs < u.now
            let pass := c.c3 = true ∧ c.c4 = true ∧ d.bad = [] ∧ d.differs = false ∧ u.checkpointsOk d = true
              ∧ u.age10 c.time ≤ u.fld (regKso o 8) 31 16
            (u.fld (regKso o 0) 28 28 = 1 → c.c5 = true → exec (.release o) s = .next
                ((u.updDec d (fun x => { x with differs := !c.c4 || x.differs, result := 2 })).setFld (regKso o 0x2C) 31 30 0))
              ∧ (u.fld (regKso o 0) 28 28 = 0 → late → exec (.release o) s = .next u)
              ∧ (u.fld (regKso o 0) 28 28 = 0 → ¬ late → c.c5 = false → exec (.release o) s = .next (u.dupMismatch d))
              ∧ (u.fld (regKso o 0) 28 28 = 0 → ¬ late → c.c5 = true → pass → exec (.release o) s = .next (u.decideOut d 2))
              ∧ (u.fld (regKso o 0) 28 28 = 0 → ¬ late → c.c5 = true → ¬ pass → exec (.release o) s = .next u))
          ∧ (let due := d.want = true ∨ d.ref + s.fld (regKso o 8) 15 0 * 10000 * oneNs ≤ s.now
            ((¬ due ∨ s.ks ≠ 1 ∨ s.fld (regKso o 0) 28 28 = 1) → exec (.releaseDeadline o) s = .next s)
              ∧ (due → s.ks = 1 → s.fld (regKso o 0) 28 28 = 0 → s.coverRec o = none →
                ∃ t, exec (.releaseDeadline o) s = .next t ∧ t.ks = 2 ∧ t.saf.safeLine = true
                  ∧ t.reg (regKs 0xC) = BitVec.ofNat 32 (0xB03 * 2 ^ 20 + 0xA1 * 2 ^ 12 + 2)
                  ∧ ∀ x, x ∈ t.decs → x.result ≠ 0)
              ∧ (∀ r, due → s.ks = 1 → s.fld (regKso o 0) 28 28 = 0 → s.coverRec o = some r →
                let a := { s with actor := [d.ctx] }.hubPut 0 ((s.reg (regKso o 0x28)).toNat * 32) r.bytes
                let w := ({ a with actor := [] }.send keySrc 0xA6 (o * 2 ^ 24 + d.no % 2 ^ 24) true []).decideOut d 3
                let full := w.fld (regKso o 0) 15 8 ≠ 0 ∧ w.fld (regKso o 0x2C) 23 16 = w.fld (regKso o 0) 15 8
                (full → exec (.releaseDeadline o) s = .next (w.enterSafe keySrc 0xA6 3))
                  ∧ (¬ full → exec (.releaseDeadline o) s = .next w))))
      ∧ (∀ (u : State) (d : Decision), d.out = o →
        (u.decideOut d 2).fld (regKso o 0x2C) 31 30 = 2 ∧ (u.decideOut d 2).fld (regKso o 0x2C) 23 16 = 0
          ∧ (u.decideOut d 2).reg (regKso o 0x30) = BitVec.ofNat 32 d.no ∧ bitOf (u.decideOut d 2).saf.rel o = true
          ∧ (u.decideOut d 2).fld (regKso o 0x34) 15 0 = (u.fld (regKso o 0x34) 15 0 + 1) % 65536
          ∧ (u.decideOut d 3).fld (regKso o 0x2C) 31 30 = 3 ∧ bitOf (u.decideOut d 3).saf.cov o = true
          ∧ (u.decideOut d 3).fld (regKso o 0x2C) 23 16 = min (u.fld (regKso o 0x2C) 23 16 + 1) 255
          ∧ (u.decideOut d 3).fld (regKso o 0x34) 31 16 = (u.fld (regKso o 0x34) 31 16 + 1) % 65536)

/-- SAFETY_REQUEST, PIN_MONITOR, SAFE_PIN, KS_CMD and CMD_TIMEOUT (R491, R500 to R504). -/
def Obligations.KeystoneStates : Prop :=
  ∀ (s : State),
    (∀ src kind, src < 2 ^ 12 → kind < 256 → (s.openRec src kind = none ∨ ∃ e, s.openRec src kind = some e ∧ e.2.eff < 4) →
      exec (.safetyRequest src kind) s = .next s)
      ∧ (∀ src kind e, src < 2 ^ 12 → kind < 256 → s.openRec src kind = some e → 4 ≤ e.2.eff → 0x300 ≤ src → kind ≠ 0xA0 →
        kind ≠ 0xA7 → kind ≠ 0xA5 → s.ks = 1 → ∃ t, exec (.safetyRequest src kind) s = .next t ∧ t.ks = 2 ∧ t.fld (regKs 4) 3 3 = 0
          ∧ t.saf.safeLine = true ∧ t.reg (regKs 0xC) = BitVec.ofNat 32 (src * 2 ^ 20 + kind * 2 ^ 12 + 1)
          ∧ t.saf.rel = 0 ∧ t.saf.cov = 0 ∧ ∀ d, d ∈ t.decs → d.result ≠ 0)
      ∧ (∀ src kind e, src < 0x300 → kind < 256 → s.openRec src kind = some e → 4 ≤ e.2.eff →
        exec (.safetyRequest src kind) s = .next (s.coverUnits (unitClusters src)))
      ∧ (∀ beat a, ∃ t, exec (.pinMonitor beat a) s = .next t
        ∧ (t.fld (regKs 4) 3 3 = 1 ↔ s.ks = 1 ∧ a = true)
        ∧ (t.fld (regKs 4) 4 4 = 0 ↔ s.saf.safeLine = true ∨ beat = false ∨ s.rst.halted = true ∨ (s.ks = 1 ∧ a = false))
        ∧ t.ks = s.ks ∧ t.net = s.net ∧ t.mem = s.mem ∧ t.clusters = s.clusters)
      ∧ (∀ a, exec (.safePin a a) s = .next s)
      ∧ (∀ a, ∃ t, exec (.safePin a (!a)) s = .next t ∧ t.net.length = s.net.length + 1 ∧ t.fld (regKs 4) 3 3 = (if a then 1 else 0)
        ∧ t.fld (regKs 4) 4 4 = (if a then 0 else 1) ∧ t.mem = s.mem ∧ t.clusters = s.clusters)
      ∧ (let go := s.ks = 0 ∧ s.fld (regKs 0xA08) 2 1 = 3 ∧ s.fbDown = false ∧ s.fld (regFc 4) 0 0 = 1
          ∧ ∀ r, r ∈ s.fc.recs.rows → r.2.eff < 4
        let clear := s.ks = 2 ∧ s.fld (regKs 0) 0 0 = 1 ∧ s.fbDown = false ∧ ∀ r, r ∈ s.fc.recs.rows → r.2.eff < 4
        (∀ c, (c = Instr.ksGo ∧ go) ∨ (c = .ksClear ∧ clear) → ∃ t, exec c s = .next t ∧ t.ks = 1 ∧ t.fld (regKs 4) 3 3 = 1
            ∧ t.saf.safeLine = false ∧ t.decs = s.decs ∧ t.net = s.net ∧ t.mem = s.mem ∧ t.clusters = s.clusters)
          ∧ (∀ c, (c = Instr.ksGo ∧ ¬ go) ∨ (c = .ksClear ∧ ¬ clear) → exec c s = .next (s.setFld (regKs 4) 8 8 1)))
      ∧ (s.ks ≠ 1 → exec .ksEnter s = .next s)
      ∧ (s.ks = 1 → ∃ t, exec .ksEnter s = .next t ∧ t.ks = 2 ∧ t.fld (regKs 4) 3 3 = 0 ∧ t.saf.safeLine = true
        ∧ t.fld (regKs 0xC) 3 0 = 5 ∧ ∀ d, d ∈ t.decs → d.result ≠ 0)
      ∧ (∀ row unit addr pull, row < 256 → unit < 2 ^ 12 → isPull pull = true → 5 < row →
        exec (.cmdTimeout row unit addr pull) s = .next s)
      ∧ (∀ row unit addr, row ≤ 5 → unit < 2 ^ 12 → row ≠ 1 → row ≠ 4 →
        exec (.cmdTimeout row unit addr none) s = .next (s.sendEv
          (if row = 0 then 0x201 + 16 * unit else if row = 2 then 0x404 else if row = 3 then 0x402 else 0x406) 0xA4 addr))
      ∧ (∀ unit addr, unit < 64 → ∃ t, exec (.cmdTimeout 1 unit addr none) s = .next t
        ∧ t.hbQueue unit = (s.hbQueue unit).filter (fun p => p.no ≠ addr) ∧ (∀ k, k ≠ unit → t.hbQueue k = s.hbQueue k)
        ∧ t.net.length = s.net.length + 1 ∧ t.mem = s.mem ∧ t.clusters = s.clusters)

/-- OUTPUT_ENABLE, FOOTBRIDGE_RUN, FOOTBRIDGE_RUN_END, FB_FAULT and KNOWN_ANSWER_RUN (R498, R499, R511). -/
def Obligations.OutputsAndFootbridge : Prop :=
  ∀ (s : State),
    (∀ (o : Nat) (v : Word32), o < 32 → ∃ t, exec (.outputEnable o v) s = .next t
      ∧ (s.fld (regKso o 0) 31 31 = 1 → t.fld (regKso o 0) 31 31 = bitsOf v.toNat 31 31
          ∧ t.fld (regKso o 0) 30 0 = s.fld (regKso o 0) 30 0)
      ∧ (s.fld (regKso o 0) 31 31 = 0 → let u := s.setReg (regKso o 0) (v &&& 0x7FFFFF00)
          (bitOf v.toNat 31 = false → t = u) ∧ (bitOf v.toNat 31 = true → u.outBad o = true → t = u.setFld (regKs 4) 8 8 1)
            ∧ (bitOf v.toNat 31 = true → u.outBad o = false → t = u.setFld (regKso o 0) 31 31 1))
      ∧ t.net = s.net ∧ t.mem = s.mem ∧ t.clusters = s.clusters ∧ t.decs = s.decs)
      ∧ (∀ v : Word32, ∃ t, exec (.outputEnable 32 v) s = .next t
        ∧ (s.fld (regKs 0xA00) 31 31 = 1 → t.fld (regKs 0xA00) 31 31 = bitsOf v.toNat 31 31
            ∧ (bitOf v.toNat 31 = false → t.saf.fbRun = none))
        ∧ (s.fld (regKs 0xA00) 31 31 = 0 → (t.fld (regKs 0xA00) 31 31 = 1 ↔ bitOf v.toNat 31 = true ∧ 64 ≤ bitsOf v.toNat 22 16
            ∧ bitsOf v.toNat 22 16 ≤ 95 ∧ s.fld (regKs 0xA08) 1 1 = 1)
          ∧ (bitOf v.toNat 31 = true → t.fld (regKs 0xA00) 31 31 = 0 → t.fld (regKs 4) 8 8 = 1))
        ∧ t.net = s.net ∧ t.mem = s.mem ∧ t.clusters = s.clusters)
      ∧ (s.fld (regKs 0xA00) 31 31 = 0 → exec .footbridgeRun s = .next s)
      ∧ (s.fld (regKs 0xA00) 31 31 = 1 → ∃ t r, exec .footbridgeRun s = .next t ∧ t.saf.fbRun = some r ∧ r.at_ = s.ticks
        ∧ (r.ok = true → ∀ k, k < 4 → s.fld (regKs 0xA04) (8 * k + 7) (8 * k + 7) = 1 →
          ∃ x, lookup s.saf.fbCams.rows (s.fld (regKs 0xA04) (8 * k + 5) (8 * k)) = some x ∧ x.2.2 = true
            ∧ s.age10 x.2.1 ≤ s.fld (regKso 0 8) 31 16)
        ∧ t.saf.fbFire = (s.ticks :: s.saf.fbFire).take 2 ∧ t.net = s.net ∧ t.mem = s.mem ∧ t.regs = s.regs ∧ t.clusters = s.clusters)
      ∧ (s.saf.fbRun = none → exec .footbridgeRunEnd s = .next s)
      ∧ (∀ r, s.saf.fbRun = some r → r.at_ ≤ s.ticks → ∃ t x, exec .footbridgeRunEnd s = .next t ∧ t.saf.fbRec = some x
        ∧ x.frame = s.saf.fbNo ∧ x.time = r.time ∧ x.flags = r.flags + (if r.ok then 1 else 0) ∧ t.saf.fbRun = none
        ∧ t.saf.fbNo = (s.saf.fbNo + 1) % 2 ^ 32 ∧ t.reg (regKs 0xA0C) = BitVec.ofNat 32 s.saf.fbNo ∧ t.net = s.net
        ∧ t.mem = s.mem ∧ t.clusters = s.clusters)
      ∧ (∀ why, why < 256 → why ≠ 1 → why ≠ 2 → why ≠ 3 → why ≠ 5 → exec (.fbFault why) s = .next s)
      ∧ (∀ why, (why = 1 ∨ why = 2
          ∨ (why = 3 ∧ ∃ r, s.saf.fbRun = some r ∧ r.at_ + 500 * (s.fld (regKs 0xA08) 31 16 + 100) ≤ s.ticks)
          ∨ (why = 5 ∧ s.fld (regKs 0xA00) 31 31 = 1 ∧ ∃ a b, s.saf.fbFire = [a, b] ∧ a + 2 * (a - b) < s.ticks)) →
        ∃ t, exec (.fbFault why) s = .next t ∧ t.fbDown = true ∧ t.fld (regKs 0xA08) 0 0 = 1 ∧ t.net.length = s.net.length + 1
          ∧ t.ks = s.ks ∧ t.mem = s.mem ∧ t.clusters = s.clusters)
      ∧ (∀ pass, (s.saf.fbRun ≠ none ∨ s.fld (regKs 0xA08) 1 1 = 0) → exec (.knownAnswerRun pass) s = .next s)
      ∧ (s.saf.fbRun = none → s.fld (regKs 0xA08) 1 1 = 1 →
        (∃ t, exec (.knownAnswerRun false) s = .next t ∧ t.fbDown = true ∧ t.fld (regKs 0xA08) 2 2 = 0
            ∧ t.net.length = s.net.length + 1 ∧ t.mem = s.mem)
          ∧ ∃ t, exec (.knownAnswerRun true) s = .next t ∧ t.fld (regKs 0xA08) 2 2 = 1 ∧ t.net = s.net ∧ t.mem = s.mem
            ∧ (t.fbDown = true ↔ s.fbDown = true ∧ ((∃ r, r ∈ s.fc.recs.rows ∧ r.2.msg.toNat / 2 ^ 44 = fbSrc * 256 + 0xA7)
              ∨ ∃ m, m ∈ s.net ∧ m.bits.toNat / 2 ^ 44 = fbSrc * 256 + 0xA7)))

/-- The commands of the safety SPI (R505 to R508). -/
def Obligations.SafetySpi : Prop :=
  ∀ (s : State),
    (∀ mode, (mode = 0 ∨ mode = 3) → (∃ x, s.saf.spi = some x) ∨ (∃ r, s.saf.spiRose = some r ∧ s.ticks < r + 500) →
      exec (.selectFallingEdge mode) s = .next s)
      ∧ (∀ mode, (mode = 0 ∨ mode = 3) → s.saf.spi = none → (∀ r, s.saf.spiRose = some r → r + 500 ≤ s.ticks) →
        ∃ t f, exec (.selectFallingEdge mode) s = .next t ∧ t.saf.spi = some (mode, f) ∧ f.length = 32
          ∧ fieldAt f 28 4 = (crc32c (f.take 28)).toNat ∧ bitsOf (fieldAt f 0 4) 31 24 = 0xA5 ∧ bitsOf (fieldAt f 0 4) 19 18 = s.ks
          ∧ (s.ks ≠ 1 → fieldAt f 4 4 = 0 ∧ fieldAt f 8 4 = 0) ∧ fieldAt f 20 4 = (s.reg (regKs 0xC)).toNat ∧ t.regs = s.regs
          ∧ t.net = s.net ∧ t.mem = s.mem)
      ∧ (∀ n ws mode f, areWords ws = true → s.saf.spi = some (mode, f) → mode ≠ 4 →
        let up : State := { s with saf := { s.saf with spi := none, spiRose := some s.ticks } }
        (n % 32 ≠ 0 → exec (.selectRelease n ws) s = .next ((up.bump (regSs 8) 31 16 1).sendEv spiSrc 0xA8 n))
          ∧ (n % 32 = 0 → n ≠ 256 → exec (.selectRelease n ws) s = .next ((up.bump (regSs 4) 15 0 1).sendEv spiSrc 0xA9 n))
          ∧ (n = 256 → spiFrameGood ws = false → exec (.selectRelease n ws) s = .next ((up.bump (regSs 8) 15 0 1).sendEv spiSrc 0xA8 n))
          ∧ (n = 256 → spiFrameGood ws = true → exec (.selectRelease n ws) s = exec
              (if bitsOf (ws.getD 0 0) 23 16 = 1 then .alive (BitVec.ofNat 16 (ws.getD 1 0))
                else if bitsOf (ws.getD 0 0) 23 16 = 2 then .reqsafe else .sspiNop) up)
          ∧ exec (.selectTimeout n) s
            = .next (({ s with saf := { s.saf with spi := some (4, []) } }.bump (regSs 4) 15 0 1).sendEv spiSrc 0xA9 n))
      ∧ (∀ n ws, areWords ws = true → (s.saf.spi = none ∨ ∃ f, s.saf.spi = some (4, f)) →
        exec (.selectRelease n ws) s = .next { s with saf := { s.saf with spi := none, spiRose := some s.ticks } }
          ∧ exec (.selectTimeout n) s = .next s)
      ∧ (∃ t, exec .sspiNop s = .next t ∧ t.fld (regSs 4) 31 16 = min (s.fld (regSs 4) 31 16 + 1) 65535 ∧ t.fld (regSs 0xC) 15 8 = 0
        ∧ t.saf = { s.saf with spiSeq := (s.saf.spiSeq + 1) % 2 ^ 15 } ∧ t.net = s.net ∧ t.mem = s.mem)
      ∧ (∀ v, ∃ t, exec (.alive v) s = .next t ∧ t.fld (regSs 4) 31 16 = min (s.fld (regSs 4) 31 16 + 1) 65535
        ∧ t.fld (regSs 0xC) 31 16 = v.toNat ∧ t.fld (regSs 0xC) 15 8 = 1 ∧ t.saf.alive = s.ticks ∧ t.saf.spiLate = false
        ∧ t.net = s.net ∧ t.mem = s.mem)
      ∧ (∃ t, exec .reqsafe s = .next t ∧ t.fld (regSs 0xC) 15 8 = 2
        ∧ t.fld (regSs 4) 31 16 = min (s.fld (regSs 4) 31 16 + 1) 65535
        ∧ (s.ks = 1 → s.fld (regSs 0) 1 1 = 1 → t.ks = 2 ∧ t.fld (regKs 0xC) 3 0 = 4 ∧ t.saf.safeLine = true)
        ∧ ((s.ks ≠ 1 ∨ s.fld (regSs 0) 1 1 = 0) → t.ks = s.ks ∧ t.decs = s.decs))
      ∧ (let off := s.fld (regSs 0) 15 8 = 0 ∨ s.saf.spiLate = true ∨ s.ticks < s.saf.alive + s.fld (regSs 0) 15 8 * ticksPerMs
        (off → exec .spiHeartbeatTimeout s = .next s)
          ∧ (¬ off → exec .spiHeartbeatTimeout s = .next ({ s with saf := { s.saf with spiLate := true } }.sendEv spiSrc 0xA4 0)))

/-- SELFTEST_SLOT, SELFTEST_COMPLETE and SELFTEST_OVERDUE (R35, R494 to R496). -/
def Obligations.RotatingSelfTest : Prop :=
  ∀ (s : State) (d : Nat), d < 4 →
    ((s.fld (regKs 0xC00) 31 31 = 0 ∨ s.dieOff d = true ∨ s.saf.testing.has d = true) → exec (.selftestSlot d) s = .next s)
      ∧ (s.fld (regKs 0xC00) 31 31 = 1 → s.dieOff d = false → s.saf.testing.has d = false →
        (∀ x, x ∈ s.reliefs [] → dieOf x.2 ≠ d) → exec (.selftestSlot d) s = .next (s.setFld (regSt d) 6 6 1))
      ∧ (∀ h k c first, s.fld (regKs 0xC00) 31 31 = 1 → s.dieOff d = false → s.saf.testing.has d = false →
        (s.reliefs []).find? (fun x => dieOf x.2 = d) = some (h, k) → s.nextTest d = some (c, first) →
        (c = k → c < 64 → s.isBusy k = false → ∃ t, exec (.selftestSlot d) s = .next t ∧ t.saf.testing.get d 64 = c ∧ t.fld (regSt d) 7 7 = 1
            ∧ (first = false → t.fld (regSt d) 5 0 = c) ∧ (t.cl c).seq.st = .idle ∧ t.hostMap = s.hostMap ∧ t.net = s.net)
          ∧ (c ≠ k → (s.atBoundary c = false ∨ s.isBusy k = true) → exec (.selftestSlot d) s = .next (s.setFld (regSt d) 6 6 0))
          ∧ (c ≠ k → s.atBoundary c = true → s.isBusy k = false → c < 64 → k < 64 → Memory.wf s.mem = true → ∃ t, exec (.selftestSlot d) s = .next t
            ∧ t.saf.testing.get d 64 = c ∧ t.fld (regSt d) 7 7 = 1 ∧ t.hostOf h = some c
            ∧ (∀ x, x ∈ s.homesOf c → x ≠ h → t.hostOf x = some k) ∧ (t.cl k).seq = (s.cl c).seq
            ∧ ∀ b, b < 2 ^ 22 → t.byte (clKey k b) = s.byte (clKey c b)))
      ∧ (s.saf.testing.has d = false → ∀ p, p < 256 → exec (.selftestComplete d p) s = .next s)
      ∧ (∀ c p, p < 256 → c < 64 → lookup s.saf.testing.rows d = some c → s.inService c = true →
        ∃ t, exec (.selftestComplete d p) s = .next t ∧ t.saf.testing.has d = false ∧ t.fld (regSt d) 7 7 = 0
          ∧ (p = 0 → t.saf.tested.get c 0 = s.ticks ∧ c ∉ t.saf.overdue ∧ t.net = s.net
            ∧ t.fld (regSt d) 31 16 = (s.fld (regSt d) 31 16 + 1) % 65536)
          ∧ (p ≠ 0 → t.net.length = s.net.length + 1 ∧ t.saf.tested = s.saf.tested) ∧ t.hostMap = s.hostMap)
      ∧ (∀ c, c < 64 → let off := c ∈ s.saf.overdue ∨ s.ticks ≤ s.saf.tested.get c 0 + max 1 (s.fld (regKs 0xC00) 23 16) * 100 * ticksPerMs
        (off → exec (.selftestOverdue c) s = .next s)
          ∧ (¬ off → exec (.selftestOverdue c) s
            = .next ({ s with saf := { s.saf with overdue := s.saf.overdue ++ [c] } }.sendEv keySrc 0xA2 (2 ^ 15 + c))))

/-! ### Reset domains, dumps, re-execution, package halt and reset (spec/18) -/

/-- RC_CMD, CLUSTER_RESET, REGION_RESET, DIE_RESET, HUB_SUBBLOCK_RESET and RESET_ESCALATION (R512 to R521, R532). -/
def Obligations.ResetDomains : Prop :=
  ∀ (s : State) (key unit : Nat), key < 2 ^ 16 → unit < 2 ^ 12 →
    (key ≠ 0x5253 → ∀ c, c ∈ [Instr.rcCluster key unit, .rcRegion key unit, .rcDie key unit, .rcHub key unit, .rcPackage key, .rcDump key] →
      exec c s = .next s)
      ∧ (key = 0x5253 →
        (64 ≤ unit → exec (.rcCluster key unit) s = .next (s.sendEv fcSrc 0xF2 0))
          ∧ (unit < 64 → s.isBusy unit = true → exec (.rcCluster key unit) s = .next s)
          ∧ (unit < 64 → s.isBusy unit = false → ∃ t, exec (.rcCluster key unit) s = .next t ∧ t.isBusy unit = true
            ∧ (t.cl unit).seq.st = .stopped ∧ t.genOf unit = nextGen (s.genOf unit) ∧ (∀ k, k ∈ t.claims → k.cl ≠ unit)
            ∧ t.mem = s.mem ∧ t.net = s.net ∧ ∀ k, k ≠ unit → t.cl k = s.cl k)
          ∧ (¬ (0x100 ≤ unit ∧ unit < 0x110) → exec (.rcRegion key unit) s = .next (s.sendEv fcSrc 0xF2 0))
          ∧ (0x100 ≤ unit → unit < 0x110 → ∃ t, exec (.rcRegion key unit) s = .next t ∧ t.isBusy unit = true
            ∧ (∀ i, i < 4 → t.isBusy (4 * (unit - 0x100) + i) = true) ∧ t.mem = s.mem)
          ∧ (¬ (0x200 ≤ unit ∧ unit < 0x240 ∧ unit % 16 ≤ 4) → exec (.rcDie key unit) s = .next (s.sendEv fcSrc 0xF2 0))
          ∧ (0x200 ≤ unit → unit < 0x240 → unit % 16 ≤ 4 → ∃ t, exec (.rcDie key unit) s = .next t ∧ t.isBusy (unit / 16 * 16) = true
            ∧ ∀ i, i < 16 → t.isBusy (16 * ((unit - 0x200) / 16) + i) = true)
          ∧ (unit ∉ hubSubBlocks → exec (.rcHub key unit) s = .next (s.sendEv fcSrc 0xF2 0))
          ∧ (unit ∈ hubSubBlocks → s.isBusy unit = false → exec (.rcHub key unit) s = .next (s.setBusy unit true))
          ∧ (∃ t d, exec (.rcDump key) s = .next t ∧ t.rst.dumps.getLast? = some d ∧ d.kind = 2 ∧ d.source = fcSrc ∧ d.time = s.now
            ∧ t.clusters = s.clusters ∧ t.mem = s.mem ∧ t.net = s.net))
      ∧ (∀ c, c < 64 → s.isBusy c = false → exec (.clusterReset c) s = .next s)
      ∧ (∀ c, c < 64 → s.isBusy c = true → ∃ t, exec (.clusterReset c) s = .next t ∧ t.isBusy c = false ∧ (t.cl c).seq.st = .idle
        ∧ (t.cl c).jobs = ⟨[]⟩ ∧ (t.cl c).evs = [] ∧ t.reg (regCl c 0x100) = 0 ∧ t.reg (regCl c 4) = 0 ∧ t.genOf c = s.genOf c
        ∧ (∀ b, b < 2 ^ 22 → t.byte (clKey c b) = 0 ∧ t.gran (clKey c b) = .clean)
        ∧ (∀ a, (a < clKey c 0 ∨ clKey c 0 + 2 ^ 22 ≤ a) → t.byte a = s.byte a ∧ t.gran a = s.gran a)
        ∧ (∀ k, k ≠ c → t.cl k = s.cl k) ∧ t.net = s.net ∧ t.fences = s.fences)
      ∧ (∀ r, r < 16 → s.isBusy (0x100 + r) = false → r ∉ s.pw.gated → exec (.regionReset r) s = .next s)
      ∧ (∀ r, r < 16 → (s.isBusy (0x100 + r) = true ∨ r ∈ s.pw.gated) → ∃ t, exec (.regionReset r) s = .next t
        ∧ t.isBusy (0x100 + r) = false ∧ r ∉ t.pw.gated ∧ (∀ k, k ∈ t.claims → k.res ≠ resBus r)
        ∧ ∀ i, i < 4 → t.isBusy (4 * r + i) = false ∧ (t.cl (4 * r + i)).seq.st = .idle
          ∧ ∀ b, b < 2 ^ 22 → t.byte (clKey (4 * r + i) b) = 0)
      ∧ (∀ d, d < 4 → s.isBusy (0x200 + 16 * d) = false → exec (.dieReset d) s = .next s)
      ∧ (∀ d, d < 4 → s.isBusy (0x200 + 16 * d) = true → ∃ t, exec (.dieReset d) s = .next t ∧ t.isBusy (0x200 + 16 * d) = false
        ∧ t.fences = s.fences ∧ ∀ i, i < 16 → t.isBusy (16 * d + i) = false ∧ (t.cl (16 * d + i)).seq.st = .idle
          ∧ ∀ b, b < 2 ^ 22 → t.byte (clKey (16 * d + i) b) = 0)
      ∧ (s.isBusy unit = false → exec (.hubSubblockReset unit) s = .next s ∧ exec (.resetEscalation unit) s = .next s)
      ∧ (unit ∈ hubSubBlocks → s.isBusy unit = true → ∃ t, exec (.hubSubblockReset unit) s = .next t ∧ t.isBusy unit = false
        ∧ t.genOf unit = nextGen (s.genOf unit))
      ∧ (unit < 64 → s.isBusy unit = true → ∃ t, exec (.resetEscalation unit) s = .next t ∧ t.isBusy (0x100 + unit / 4) = true
        ∧ ∀ i, i < 4 → t.isBusy (4 * (unit / 4) + i) = true)
      ∧ (0x100 ≤ unit → unit < 0x110 → s.isBusy unit = true → ∃ t, exec (.resetEscalation unit) s = .next t
        ∧ t.isBusy (0x200 + 16 * ((unit - 0x100) / 4)) = true ∧ ∀ i, i < 16 → t.isBusy (16 * ((unit - 0x100) / 4) + i) = true)
      ∧ (∀ d, d < 4 → s.isBusy (0x200 + 16 * d) = true → ∃ t, exec (.resetEscalation (0x200 + 16 * d)) s = .next t
        ∧ 0x200 + 16 * d ∈ t.fences ∧ t.isBusy (0x200 + 16 * d) = false)
      ∧ (0x240 ≤ unit → s.isBusy unit = true → exec (.resetEscalation unit) s = .next ((s.setBusy unit false).sendSev unit 0xA4 0 5))

/-- RE_EXECUTION (R528 to R530). -/
def Obligations.ReExecution : Prop :=
  ∀ (s : State) (c seq t : Nat), c < 256 → seq < 2 ^ 48 →
    ((∀ r, r ∈ s.runs → ¬ (r.ctx = c ∧ r.seq = seq ∧ r.standing = true)) → exec (.reExecution c seq t) s = .next s)
      ∧ (∀ r, s.runs.find? (fun (r : RunRec) => decide (r.ctx = c ∧ r.seq = seq) && r.standing) = some r →
        (r.step.lost = [] → (r.redo = [] ∨ r.step.active = true) → exec (.reExecution c seq t) s = .next s)
          ∧ (∀ lc l, r.step.lost = lc :: l → s.rerunOn r lc = none → exec (.reExecution c seq t) s = .next (s.stepLost r r.step.lost))
          ∧ (∀ lc l h k, r.step.lost = lc :: l → s.rerunOn r lc = some (h, k) → k < 64 → lc ∈ r.step.secs.map (fun z => z.1) →
            ∃ u r', exec (.reExecution c seq t) s = .next u ∧ r' ∈ u.runs ∧ r'.ctx = c ∧ r'.seq = seq
              ∧ r'.step.again = r.step.again ++ [lc] ∧ (lc, k) ∈ r'.step.secs ∧ lc ∉ r'.step.lost
              ∧ (u.cl k).seq.st = .running ∧ (u.cl k).seq.rerun = true ∧ (u.cl k).seq.ctx = r.ctx)
          ∧ (∀ no hz ref rest secs, r.step.lost = [] → r.redo = (no, hz, ref) :: rest → r.step.active = false →
            s.placeSecs (entrySecs (s.slotHdr r.ctx r.slot) r.entry) r.homes = some secs → (∀ x, x ∈ secs → s.canLoad x.2 = true) →
            ∃ u r', exec (.reExecution c seq t) s = .next u ∧ r' ∈ u.runs ∧ r'.ctx = c ∧ r'.seq = seq ∧ r'.redo = rest
              ∧ r'.step.no = no ∧ r'.step.active = true ∧ r'.step.rerun = true ∧ r'.step.secs = secs ∧ r'.step.horizon = hz
              ∧ r'.step.ref = ref))

/-- PACKAGE_HALT, PKG_RST_N, RC_CMD of the package, and PACKAGE_RESET with its boot (R319, R522 to R525, R541 to R544). -/
def Obligations.PackageResetAndHalt : Prop :=
  ∀ (s : State),
    ((∀ e, e ∈ s.fc.recs.rows → ¬ (e.2.isOpen = true ∧ e.2.carried = false ∧ 5 ≤ e.2.eff)) → exec .packageHalt s = .next s)
      ∧ (∀ e, e ∈ s.fc.recs.rows → e.2.isOpen = true → e.2.carried = false → 5 ≤ e.2.eff → s.rst.halted = false →
        s.fld (regRc 0) 0 0 = 0 → ∃ t d, exec .packageHalt s = .next t ∧ t.rst.halted = true ∧ t.fld (regFc 4) 1 1 = 1
          ∧ (s.ks = 1 → t.ks = 2) ∧ (∀ c, c < 64 → (t.cl c).seq.st ≠ .running) ∧ (∀ j, j < 16 → t.jState j ≠ 1)
          ∧ (∀ r, r ∈ t.runs → 256 ≤ r.ctx) ∧ t.rst.dumps.getLast? = some d ∧ d.kind = 1)
      ∧ (∀ us, (us < 10 ∨ s.pw.powered = false) → exec (.pkgRstN us) s = .next s)
      ∧ (∀ us, 10 ≤ us → s.pw.powered = true → exec (.pkgRstN us) s = .next (s.pkgBegin 1))
      ∧ exec (.rcPackage 0x5253) s = .next (s.pkgBegin 3)
      ∧ (∀ cause, cause < 256 → let t := s.pkgBegin cause
        t.rst.boot = some cause ∧ t.fld (regRc 4) 31 24 = cause ∧ t.ks = 0 ∧ t.fld (regFc 4) 0 0 = 0 ∧ t.clusters = ⟨[]⟩
          ∧ t.reg (regKs 0xC) = s.reg (regKs 0xC) ∧ t.reg (regFc 0x50) = s.reg (regFc 0x50)
          ∧ (∀ x, x < 256 → t.ctxState x = 0 ∧ t.ctxSeq x = s.ctxSeq x) ∧ t.runs = [] ∧ t.fences = [] ∧ t.hostMap = ⟨[]⟩
          ∧ (∀ a, t.byte a = if a / 2 ^ 49 = 4 then s.byte a else 0) ∧ t.fc.log = s.fc.log ∧ t.fc.flash = s.fc.flash
          ∧ (∀ e, e ∈ t.fc.recs.rows → e.2.carried = true) ∧ t.fc.recs.rows.length = s.fc.recs.rows.length
          ∧ (∀ e, e ∈ t.host.journal → e.out.isSome = true) ∧ t.pending = s.pending ∧ t.ticks = s.ticks)
      ∧ (∀ b, s.rst.boot = none → exec (.packageReset b) s = .next s)
      ∧ (∀ b f cause, s.rst.boot = some cause → b.fuse = some f →
        exec (.packageReset b) s = .next { s.sendEv 0xD02 0xC0 (f % 256) with rst := { s.rst with boot := none } })
      ∧ (∀ b, s.rst.boot = some 0 → b.fuse = none → (s.mg.powerCount = 0xFFFF ∨ b.stored = false) →
        exec (.packageReset b) s = .next { s.sendEv rootSrc 0xB3 0 with rst := { s.rst with boot := none } })
      ∧ (∀ b cause st, s.rst.boot = some cause → cause ≠ 0 → b.fuse = none → 1 ≤ st → st ≤ 3 → (st, 0) ∈ b.fails → (st, 1) ∈ b.fails →
        (∀ x, 1 ≤ x → x < st → (x, 0) ∉ b.fails ∨ (x, 1) ∉ b.fails) →
        ∃ t, exec (.packageReset b) s = .next t ∧ t.rst.boot = none ∧ t.fld (regMg 0x10) 31 28 = st
          ∧ t.fld (regFc 4) 0 0 = s.fld (regFc 4) 0 0 ∧ t.net.length = s.net.length + 1 ∧ t.mem = s.mem)
      ∧ (∀ b cause, s.rst.boot = some cause → b.fuse = none → (cause = 0 → s.mg.powerCount ≠ 0xFFFF ∧ b.stored = true) →
        (∀ x, 1 ≤ x → x ≤ 3 → (x, 0) ∉ b.fails ∨ (x, 1) ∉ b.fails) →
        ∃ t, exec (.packageReset b) s = .next t ∧ t.rst.boot = none ∧ t.fld (regFc 4) 0 0 = 1
          ∧ t.relief = bootRelief (if b.cfg < 2 then b.relief else []) ∧ t.fld (regMg 0x10) 15 0 = b.svn % 65536
          ∧ (t.mg.meas.length = 4) ∧ (cause = 0 → t.mg.powerCount = s.mg.powerCount + 1
            ∧ ∀ x, x < 256 → t.ctxSeq x = (s.mg.powerCount * 2 ^ 32 + 1) % 2 ^ 48)
          ∧ (t.fld (regKs 0xA08) 1 1 = 1 ↔ b.net ≠ none ∨ s.fld (regKs 0xA08) 1 1 = 1))

/-! ### The management complex and the Towpath (spec/19) -/

/-- LOCKSTEP, MG_KICK, PAIR_WATCHDOG, PAIR_RESET_END, PAIR_TEST_END, MGT_WDOG, MWDRST_RESET and SHED_WINDOW (R492, R534 to R538). -/
def Obligations.ManagementPairs : Prop :=
  ∀ (s : State),
    exec (.lockstep 2) s = .next (s.sendEv keySrc 0xA5 0)
      ∧ (∀ q, q < 2 → s.pairSt q ≠ 0 → exec (.lockstep q) s = .next s)
      ∧ (∀ q c, q < 2 → s.pairSt q = 0 →
        (c = Instr.lockstep q ∨ (c = .pairWatchdog q ∧ s.mg.kicks.get q 0 + s.fld (regMg 4) 6 0 * ticksPerMs ≤ s.ticks)) →
        let n := ((s.mg.resets.get q []).filter (fun t => decide (s.ticks < t + 3600000 * ticksPerMs))).length + 1
        ∃ t, exec c s = .next t ∧ t.pairSt q = (if 3 ≤ n then 3 else 1) ∧ t.pairSt (1 - q) = s.pairSt (1 - q)
          ∧ t.fld (regMg 0) (16 + q) (16 + q) = (if c = .lockstep q then 0 else 1) ∧ t.net.length = s.net.length + 1
          ∧ t.mg.none_ = (if s.pairSt (1 - q) = 0 then s.mg.none_ else some s.ticks) ∧ t.mem = s.mem ∧ t.clusters = s.clusters)
      ∧ (∀ q, q < 2 → s.ticks < s.mg.kicks.get q 0 + s.fld (regMg 4) 6 0 * ticksPerMs → exec (.pairWatchdog q) s = .next s)
      ∧ (∀ q (v : Word32), q < 2 → exec (.mgKick q v) s = .next (if bitOf v.toNat 0 then
          { s with mg := { s.mg with kicks := s.mg.kicks.set q s.ticks } } else s))
      ∧ (∀ q, q < 2 → s.pairSt q = 1 → ∃ t, exec (.pairResetEnd q) s = .next t ∧ t.pairSt q = 2 ∧ t.pairSt (1 - q) = s.pairSt (1 - q)
        ∧ t.net = s.net ∧ t.mem = s.mem ∧ t.mg = s.mg)
      ∧ (∀ q pass, q < 2 → (s.pairSt q ≠ 1 → exec (.pairResetEnd q) s = .next s)
        ∧ (s.pairSt q ≠ 2 → exec (.pairTestEnd q pass) s = .next s))
      ∧ (∀ q, q < 2 → s.pairSt q = 2 →
        (∃ t, exec (.pairTestEnd q false) s = .next t ∧ t.pairSt q = 3 ∧ t.mg = s.mg ∧ t.net = s.net ∧ t.mem = s.mem)
          ∧ (s.mg.queue = [] → s.mg.repWait = false → ∃ t, exec (.pairTestEnd q true) s = .next t ∧ t.pairSt q = 0
            ∧ t.mg.none_ = none ∧ t.mg.wdog = none ∧ t.mg.kicks.get q 0 = s.ticks ∧ t.net = s.net ∧ t.mem = s.mem))
      ∧ (∀ x, s.mg.none_ = some x → s.mg.wdog = none → x + s.fld (regMg 4) 6 0 * ticksPerMs ≤ s.ticks →
        exec .mgtWdog s = .next ({ s with mg := { s.mg with wdog := some s.ticks } }.sendEv 0xC02 0xB0 0))
      ∧ ((s.mg.none_ = none ∨ s.mg.wdog ≠ none) → exec .mgtWdog s = .next s)
      ∧ (let due := ∃ x, s.mg.wdog = some x ∧ x + 100 * ticksPerMs ≤ s.ticks ∧ s.serves = false ∧ s.fld (regMg 4) 15 15 = 1
        (due → exec .mwdrstReset s = .next (s.pkgBegin 5)) ∧ (¬ due → exec .mwdrstReset s = .next s))
      ∧ (∀ b0 b1, b0 ≤ 100 → b1 ≤ 100 →
        let hi := s.fld (regMg 8) 23 16
        let lo := s.fld (regMg 8) 15 8
        let busy := (s.pairSt 0 = 0 ∧ hi < b0) ∨ (s.pairSt 1 = 0 ∧ hi < b1)
        let under := (s.pairSt 0 = 0 → b0 < lo) ∧ (s.pairSt 1 = 0 → b1 < lo)
        (s.serves = false → exec (.shedWindow b0 b1) s = .next s)
          ∧ (s.serves = true → ∃ t, exec (.shedWindow b0 b1) s = .next t
            ∧ (busy → t.shed = min 3 (s.shed + 1) ∧ t.mg.calm = 0 ∧ t.net.length = s.net.length + (if s.shed < 3 then 1 else 0))
            ∧ (¬ busy → ¬ under → t.shed = s.shed ∧ t.mg.calm = 0 ∧ t.net = s.net)
            ∧ (¬ busy → under → s.mg.calm + 1 < 10 → t.shed = s.shed ∧ t.mg.calm = s.mg.calm + 1 ∧ t.net = s.net)
            ∧ (¬ busy → under → 10 ≤ s.mg.calm + 1 → t.shed = s.shed - 1 ∧ t.mg.calm = 0
              ∧ t.net.length = s.net.length + (if s.shed = 0 then 0 else 1)) ∧ t.mem = s.mem ∧ t.clusters = s.clusters))

/-- TELEMETRY, SPANREF, DUMPMOVE and MB_GO (R526, R545, R546, R548, R580, R584). -/
def Obligations.ManagementTasks : Prop :=
  ∀ (s : State),
    ((s.shed ≠ 0 ∨ s.serves = false ∨ s.fld (regTw 0) 0 0 = 0) → exec .telemetry s = .next s)
      ∧ (s.shed = 0 → s.serves = true → s.fld (regTw 0) 0 0 = 1 → ∃ t f, exec .telemetry s = .next t ∧ t.mg.out = s.mg.out ++ [f]
        ∧ f.drop 14 = leBytes 1 1 ++ leBytes 1 0 ++ leBytes 1 0x40 ++ leBytes 1 0 ++ leBytes 4 s.mg.telSeq ++ (f.drop 22)
        ∧ (f.drop 30).take 16 = timeBytes s.now ∧ t.mg.telSeq = (s.mg.telSeq + 1) % 2 ^ 32 ∧ t.regs = s.regs ∧ t.net = s.net ∧ t.mem = s.mem)
      ∧ (∀ l, s.serves = false → exec (.spanref l) s = .next s)
      ∧ (∀ l, s.serves = true →
        let bad := 31 < l.length ∨ ∃ r, r ∈ l ∧ r ∉ s.mg.ranges ∧ s.rangeBad r = true
        ∃ t, exec (.spanref (some l)) s = .next t ∧ (bad → t.mg.ranges = s.mg.ranges ∧ t.net.length = s.net.length + 1)
          ∧ (¬ bad → t.mg.ranges = l ∧ t.net = s.net) ∧ t.regs = s.regs ∧ t.mem = s.mem ∧ t.clusters = s.clusters)
      ∧ (s.serves = true → 3 ≤ s.shed → exec (.spanref none) s = .next s)
      ∧ (s.serves = true → s.shed < 3 → ∃ t, exec (.spanref none) s = .next t ∧ t.mg.rts = s.now
        ∧ t.mg.updcnt = (s.mg.updcnt + 2) % 2 ^ 32 ∧ (∀ c, c < 64 → (bitOf t.mg.relief c = true ↔ ∃ h, h ∈ s.relief ∧ s.hostOf h = some c))
        ∧ t.mg.ranges = s.mg.ranges ∧ t.regs = s.regs ∧ t.net = s.net ∧ t.mem = s.mem)
      ∧ (s.rst.dumps = [] → exec .dumpmove s = .next s)
      ∧ (∀ d r, s.rst.dumps = d :: r → ∃ t, exec .dumpmove s = .next t ∧ t.rst.dumps = r
        ∧ lookup t.rst.flashDumps.rows s.rst.nextSlot = some d ∧ t.rst.nextSlot = (s.rst.nextSlot + 1) % 4
        ∧ t.fld (regRc 4) 23 16 = r.length % 256 ∧ t.net = s.net ∧ t.mem = s.mem ∧ t.clusters = s.clusters)
      ∧ (∀ v : Word32, bitOf v.toNat 0 = false →
        exec (.mbGo v) s = .next (if bitOf v.toNat 2 then s.setFld (regMg 0x120) 2 2 0 else s))
      ∧ (∀ v : Word32, bitOf v.toNat 0 = true → s.mg.repWait = true → ∃ t, exec (.mbGo v) s = .next t ∧ t.fld (regMg 0x120) 2 2 = 1
        ∧ t.mg = s.mg ∧ t.net = s.net ∧ t.mem = s.mem)
      ∧ (∀ v : Word32, bitOf v.toNat 0 = true → s.mg.repWait = false → s.serves = false →
        ∃ t, exec (.mbGo v) s = .next t ∧ t.fld (regMg 0x120) 1 1 = 0 ∧ t.mg.repWait = true ∧ t.net = s.net ∧ t.mem = s.mem)
      ∧ (∀ v : Word32, bitOf v.toNat 0 = true → s.mg.repWait = false → s.serves = true →
        let nonce := (upTo 8).flatMap (fun i => leBytes 4 (s.reg (regMg (0x100 + 4 * i))).toNat)
        ∃ t, exec (.mbGo v) s = .next t ∧ t.fld (regMg 0x120) 1 1 = 1 ∧ t.mg.repWait = false
          ∧ t.reg (regMg 0x200) = 0x54415947#32 ∧ t.reg (regMg 0x208) = BitVec.ofNat 32 Config.serial.toNat
          ∧ (∀ i, i < 100 → t.reg (regMg (0x200 + 4 * i)) = BitVec.ofNat 32 (fieldAt (s.attest nonce) (4 * i) 4))
          ∧ t.net = s.net ∧ t.mem = s.mem ∧ t.clusters = s.clusters)

/-- How a Towpath request is taken (R547; Table 19.6). -/
def Obligations.TowpathRequests : Prop :=
  ∀ (s : State) (mac : Nat) (p : List Byte) (pass : Bool) (c : Instr) (op : Nat), mac < 2 ^ 48 → p.length < 2 ^ 16 →
    (c, op) ∈ [(Instr.read mac p, 0x01), (.attest mac p, 0x02), (.cert mac p, 0x03), (.challenge mac p, 0x04), (.write mac p, 0x10),
      (.ack mac p, 0x11), (.towpathReset mac p, 0x12), (.cfgwrite mac p, 0x13), (.dumpread mac p, 0x14), (.fwchunk mac p, 0x20),
      (.fwcommit mac p pass, 0x21), (.svnbump mac p, 0x30), (.histclear mac p, 0x31), (.ownerkey mac p, 0x32)] →
    let pass' := decide (op = 0x21) && pass
    let a := s.count (regTw 4) 15 0
    let u := if (0x10 ≤ op ∧ op ≤ 0x13) ∨ (0x20 ≤ op ∧ op ≤ 0x32) then
      (a.capture 512 0x30 a.now (leBytes 4 p.length ++ leBytes 4 0 ++ p)).2 else a
    (twOp p ≠ op → (op = 1 → s.twClass (twOp p) ≠ none) → exec c s = .next s)
      ∧ (s.fld (regTw 0) 0 0 = 0 → exec c s = .next s)
      ∧ (twOp p = op → s.fld (regTw 0) 0 0 = 1 → u.fld (regMg 0) 9 9 = 1 → op ≠ 0x20 → exec c s = .next u)
      ∧ (twOp p = op → s.fld (regTw 0) 0 0 = 1 → u.fld (regMg 0) 9 9 = 0 → u.serves = false → u.mg.queue.length < 32 →
        exec c s = .next { u with mg := { u.mg with queue := u.mg.queue ++ [(mac, p)] } })
      ∧ (twOp p = op → s.fld (regTw 0) 0 0 = 1 → u.fld (regMg 0) 9 9 = 0 → u.serves = false → 32 ≤ u.mg.queue.length →
        exec c s = .next (u.bump (regMg 0) 31 24 1))
      ∧ (∀ st body v, twOp p = op → s.fld (regTw 0) 0 0 = 1 →
        (u.fld (regMg 0) 9 9 = 1 ∧ op = 0x20 ∨ u.fld (regMg 0) 9 9 = 0 ∧ u.serves = true) →
        u.twRun mac p pass' false = (st, body, v) →
        let head := twHead (twCls p) op st (fieldAt p 4 4) body.length ++ body
        let tag := if twCls p = 1 then (v.twTag head).getD [] else []
        let t := v.twFrame (leBytes 6 mac).reverse (head ++ tag)
        exec c s = .next (if op = 0x12 ∧ st = 0 then t.pkgBegin 2 else t)
          ∧ t.mg.out.length = v.mg.out.length + 1 ∧ t.regs = v.regs ∧ t.mem = v.mem)

/-- What a Towpath request does (R466, R545, R547, R549; Table 19.6). -/
def Obligations.TowpathOperations : Prop :=
  ∀ (s : State) (mac : Nat) (p : List Byte) (pass : Bool),
    let n := twLen p
    let b := twBody p
    let run := s.twRun mac p pass false
    let framed := fieldAt p 0 1 = 1 ∧ n ≤ 1024 ∧ 16 + n + (if twCls p = 1 then 16 else 0) ≤ p.length
    (fieldAt p 0 1 ≠ 1 → run = (6, [], s))
      ∧ (fieldAt p 0 1 = 1 → ¬ framed → run = (2, [], s))
      ∧ (framed → s.twClass (twOp p) = none → run = (6, [], s))
      ∧ (framed → (∃ k, s.twClass (twOp p) = some k ∧ k ≠ twCls p) → run = (1, [], s))
      ∧ (framed → twCls p = 0 → twOp p = 0x01 → n = 12 → fieldAt b 8 4 ≠ 0 → fieldAt b 8 4 ≤ 64 → fieldAt b 0 8 % 4 = 0 →
        let r := State.regReads (fieldAt b 8 4) (fieldAt b 0 8) s
        run = (0, r.1.flatMap (fun v => leBytes 4 v), r.2))
      ∧ (framed → twCls p = 0 → twOp p = 0x02 → n = 32 → run = (0, s.attest b, s))
      ∧ (framed → twCls p = 0 → twOp p = 0x03 → n = 4 → run = (if 1024 * fieldAt b 0 4 < Config.certChain.length then
          (0, (Config.certChain.drop (1024 * fieldAt b 0 4)).take 1024, s) else (2, [], s)))
      ∧ (framed → twCls p = 0 → twOp p = 0x04 → ∃ t c, run = (0, c, t) ∧ c.length = 32 ∧ t.mg.chal = some c ∧ t.regs = s.regs
        ∧ t.mem = s.mem)
      ∧ (let seq := fieldAt p 4 4
        let tagged := s.twTag (p.take (16 + n)) = some ((p.drop (16 + n)).take 16)
          ∧ ∀ e, s.mg.seen.find? (fun e => e.1 = mac) = some e → e.2 < seq
        let v := s.twSeen mac seq
        framed → twCls p = 1 → s.twClass (twOp p) = some 1 →
          (¬ tagged → run = (1, [], s))
            ∧ (tagged → twOp p = 0x10 → fieldAt b 8 4 ≠ 0 → n = 12 + 4 * fieldAt b 8 4 → fieldAt b 0 8 % 4 = 0 → s.mode ≠ 2 →
              run = (0, [], State.regWrites (fieldAt b 0 8) (bodyWords b 12 (fieldAt b 8 4)) v))
            ∧ (tagged → twOp p = 0x11 → n = 8 →
              run = ((if (v.ackRec (fieldAt b 0 4) (fieldAt b 4 4)).1 then 0 else 2), [], (v.ackRec (fieldAt b 0 4) (fieldAt b 4 4)).2))
            ∧ (tagged → twOp p = 0x12 → n = 4 → fieldAt b 0 4 = 0x5253 → run = (0, [], v))
            ∧ (tagged → twOp p = 0x13 → 5 ≤ n → fieldAt b 0 4 + (n - 4) ≤ 0x10000 → s.mode ≠ 2 → ∃ t, run = (0, [], t)
              ∧ (∀ i, i < n - 4 → t.mg.flash.get (flashCfg (1 - s.mg.cfgUse) + fieldAt b 0 4 + i) 0 = b.getD (4 + i) 0)
              ∧ t.mg.bankSel = none ∧ t.regs = s.regs ∧ t.mem = s.mem)
            ∧ (tagged → twOp p = 0x14 → n = 8 → fieldAt b 0 4 ≤ 3 → fieldAt b 4 4 + 1024 ≤ 512 * 1024 →
              ∃ d t, run = (0, d, t) ∧ d.length = 1024 ∧ t.regs = s.regs ∧ t.mem = s.mem ∧ t.mg.flash = s.mg.flash)
            ∧ (tagged → twOp p = 0x20 → 5 ≤ n → n ≤ 1012 → fieldAt b 0 4 + (n - 4) ≤ 24 * 2 ^ 20 → ∃ t, run = (0, [], t)
              ∧ (∀ i, i < n - 4 → (if s.fld (regMg 0) 9 9 = 1 then t.mg.sram.get (fieldAt b 0 4 + i) 0
                else t.mg.flash.get (flashBank (1 - s.fld (regMg 0) 8 8) + fieldAt b 0 4 + i) 0) = b.getD (4 + i) 0)
              ∧ t.mg.bankSel = s.mg.bankSel ∧ t.regs = s.regs ∧ t.mem = s.mem)
            ∧ (tagged → twOp p = 0x21 → pass = true → run
              = (0, [], { v with mg := { v.mg with bankSel := some (1 - s.fld (regMg 0) 8 8) } }))
            ∧ (tagged → twOp p = 0x21 → pass = false → run = (5, [], v.sendEv (if s.pairSt 1 = 0 then 0xC01 else 0xC00) 0xB2 0)))
      ∧ (let signed : Bool := decide (136 ≤ n ∧ fieldAt b (n - 136) 8 = Config.serial.toNat ∧ s.mg.chal = some ((b.drop (n - 128)).take 32)
          ∧ Config.serviceVerify (p.take (16 + n - 96)) (b.drop (n - 96)) = true)
        framed → twCls p = 2 → s.twClass (twOp p) = some 2 →
          (signed = false → run = (1, [], s))
            ∧ (twOp p = 0x30 → ∃ t x, run = (if signed then (0, [], t) else (1, [], s)) ∧ t.mg.chal = none ∧ t.mg.svnFloor = some x
              ∧ s.fld (regMg 0x10) 15 0 ≤ x ∧ t.regs = s.regs ∧ t.mem = s.mem)
            ∧ (twOp p = 0x31 → ∃ t, run = (if signed then (0, [], t) else (1, [], s)) ∧ t.fc.flash = [] ∧ t.mg.chal = none
              ∧ t.regs = s.regs ∧ t.mem = s.mem)
            ∧ (twOp p = 0x32 → ∃ t, run = (if signed then (0, [], t) else (1, [], s)) ∧ t.mg.ownerKey = some (b.take 32)
              ∧ t.mg.chal = none ∧ t.regs = s.regs))
      ∧ (framed → twCls p = 0 → twOp p = 0x32 → s.mg.ownerKey = none → 32 ≤ n → ∃ t, run = (0, [], t)
        ∧ t.mg.ownerKey = some (b.take 32) ∧ t.regs = s.regs ∧ t.mem = s.mem)

/-! ### Power and clocks (spec/20) -/

/-- POWER_UP, CHARGE_TIMEOUT, VIN_UV, VIN_UV_CLEAR, VIN_OV, POWER_FAIL and DISCONNECT (R553 to R557). -/
def Obligations.SupplyCommands : Prop :=
  ∀ (s : State),
    (∀ bulk input : Nat,
      let waits := s.ticks < s.pw.offAt + 100 * ticksPerMs ∨ ∃ t, s.pw.charge = some t ∧ s.ticks < t + 1000 * ticksPerMs
      ((s.pw.powered = true ∨ waits ∨ bulk < 35000 ∨ bulk + 1000 < input) → exec (.powerUp bulk input) s = .next s)
        ∧ (s.pw.powered = false → ¬ waits → 35000 ≤ bulk → input ≤ bulk + 1000 → exec (.powerUp bulk input) s
          = .next ({ s with pw := { s.pw with powered := true, charge := none } }.pkgBegin 0)))
      ∧ (s.pw.powered = true → exec .chargeTimeout s = .next s)
      ∧ (s.pw.powered = false → exec .chargeTimeout s = .next { s with pw := { s.pw with charge := some s.ticks } })
      ∧ (∀ v, v < 2 ^ 16 → (s.fld (regPw 8) 2 2 = 1 ∨ 3500 ≤ v) → exec (.vinUv v) s = .next s)
      ∧ (∀ v, v < 3500 → s.fld (regPw 8) 2 2 = 0 → ∃ t, exec (.vinUv v) s = .next t ∧ t.fld (regPw 8) 2 2 = 1
        ∧ t.fld (regPw 0xC) 31 16 = v ∧ (∀ d, d < 4 → s.dieOff d = false → 8 ≤ t.stretch d) ∧ t.net.length = s.net.length + 1
        ∧ t.mem = s.mem ∧ t.clusters = s.clusters)
      ∧ (∀ v, v < 2 ^ 16 → (s.fld (regPw 8) 2 2 = 0 ∨ v ≤ 3550) → exec (.vinUvClear v) s = .next s)
      ∧ (∀ v, v < 2 ^ 16 → 3550 < v → s.fld (regPw 8) 2 2 = 1 → ∃ t, exec (.vinUvClear v) s = .next t ∧ t.fld (regPw 8) 2 2 = 0
        ∧ (∀ d, d < 4 → t.stretch d = s.stretch d) ∧ t.net.length = s.net.length + 1 ∧ t.mem = s.mem ∧ t.clusters = s.clusters)
      ∧ (∀ v, v ≤ 5500 → exec (.vinOv v) s = .next s)
      ∧ (∀ v, 5500 < v → v < 2 ^ 16 → ∃ t, exec (.vinOv v) s = .next t ∧ t.fld (regPw 8) 3 3 = 1 ∧ t.fld (regPw 0xC) 31 16 = v
        ∧ t.net.length = s.net.length + 1 ∧ t.mem = s.mem ∧ t.clusters = s.clusters)
      ∧ (∀ v, v < 2 ^ 16 → 3200 ≤ v → exec (.powerFail v) s = .next s)
      ∧ (∀ v, v ≤ 5800 → exec (.disconnect v) s = .next s)
      ∧ (∀ c v, (c = Instr.powerFail v ∧ v < 3200) ∨ (c = .disconnect v ∧ 5800 < v ∧ v < 2 ^ 16) → ∃ t, exec c s = .next t
        ∧ t.pw.powered = false ∧ t.pw.offAt = s.ticks ∧ t.clusters = ⟨[]⟩ ∧ t.regs = State.reset.regs ∧ t.rst.boot = none
        ∧ (∀ a, t.byte a = if a / 2 ^ 49 = 4 then s.byte a else 0) ∧ t.fc.flash = s.fc.flash ∧ t.fc.log = ⟨[]⟩ ∧ t.fc.recs = ⟨[]⟩
        ∧ t.mg.flash = s.mg.flash ∧ t.mg.powerCount = s.mg.powerCount ∧ t.rst.flashDumps = s.rst.flashDumps ∧ t.ticks = s.ticks)

/-- PW_OPREQ, OP_POINT_CHANGE, OP_REQUEST_TIMEOUT, STRETCH_WINDOW and POINT_LOWERING (R550, R558 to R560, R564). -/
def Obligations.OperatingPoints : Prop :=
  ∀ (s : State),
    (∀ (x : PowerSample), ∃ t, exec (.stretchWindow x) s = .next t ∧ t.fld (regPw 0x10) 31 16 = x.pmod % 65536
      ∧ t.fld (regPw 0xC) 31 16 = x.vin % 65536
      ∧ (s.inP3 = true → ∀ d, d < 4 → t.stretch d = s.stretch d)
      ∧ (s.inP3 = false → ∀ d, d < 4 → s.dieOff d = false →
        (s.limitW * 10 < x.pmod → t.stretch d = max (s.sFloor d) (min 8 (s.stretch d + 1)) % 16)
          ∧ (x.pmod * 100 < s.limitW * 10 * 95 → s.pw.below.get d 0 + 1 = 10 → t.stretch d = max (s.sFloor d) (s.stretch d - 1))
          ∧ (x.pmod * 100 < s.limitW * 10 * 95 → s.pw.below.get d 0 + 1 ≠ 10 → t.stretch d = s.stretch d)
          ∧ (s.limitW * 10 * 95 ≤ x.pmod * 100 → x.pmod ≤ s.limitW * 10 → t.stretch d = s.stretch d))
      ∧ t.net = s.net ∧ t.mem = s.mem ∧ t.clusters = s.clusters)
      ∧ (∀ d, d < 4 →
        (∀ v : Word32, let req := v.toNat % 4
          (req ≠ 3 → s.fld (regMg (0x400 + 4 * d)) 1 0 ≤ req → s.dieOff d = false → ∃ t, exec (.pwOpreq d v) s = .next t
              ∧ t.fld (regOp d) 1 0 = req ∧ t.fld (regOp d) 3 3 = 1 ∧ t.pw.pendAt.get d 0 = s.ticks ∧ t.cur d = s.cur d
              ∧ t.net = s.net ∧ t.mem = s.mem)
            ∧ ((req = 3 ∨ req < s.fld (regMg (0x400 + 4 * d)) 1 0 ∨ s.dieOff d = true) → ∃ t, exec (.pwOpreq d v) s = .next t
              ∧ t.fld (regOp d) 1 0 = s.fld (regOp d) 1 0 ∧ t.fld (regOp d) 2 2 = 1 ∧ t.fld (regOp d) 3 3 = s.fld (regOp d) 3 3
              ∧ t.net.length = s.net.length + 1 ∧ t.mem = s.mem))
          ∧ ((s.dieOff d = true ∨ s.inP3 = true ∨ ∃ i, i < 16 ∧ (s.cl (16 * d + i)).seq.st = .running) →
            exec (.opPointChange d) s = .next s)
          ∧ (s.dieOff d = false → s.inP3 = false → (∀ i, i < 16 → (s.cl (16 * d + i)).seq.st ≠ .running) →
            (∀ p, lookup s.pw.lower.rows d = some p → ∃ t, exec (.opPointChange d) s = .next t ∧ t.cur d = p % 4
                ∧ t.pw.lower.has d = false ∧ t.net = s.net ∧ t.mem = s.mem)
              ∧ (lookup s.pw.lower.rows d = none →
                let req := s.fld (regOp d) 1 0
                let waits := s.fld (regOp d) 3 3 = 0 ∨ (req < s.cur d ∧ s.holdBits d ≠ 0)
                (waits → exec (.opPointChange d) s = .next s)
                  ∧ (¬ waits → ∃ t, exec (.opPointChange d) s = .next t ∧ t.cur d = req ∧ t.fld (regOp d) 3 3 = 0 ∧ t.net = s.net
                    ∧ t.mem = s.mem)))
          ∧ (let due := s.fld (regOp d) 3 3 = 1 ∧ s.pw.pendAt.get d 0 + 1000 * ticksPerMs ≤ s.ticks
            (¬ due → exec (.opRequestTimeout d) s = .next s)
              ∧ (due → ∃ t, exec (.opRequestTimeout d) s = .next t ∧ t.fld (regOp d) 3 3 = 0 ∧ t.fld (regOp d) 2 2 = 1
                ∧ t.cur d = s.cur d ∧ t.net.length = s.net.length + 1 ∧ t.mem = s.mem))
          ∧ (let since := fun (tb : Table Nat) (ms : Nat) => ∃ x, lookup tb.rows d = some x ∧ x + ms * ticksPerMs ≤ s.ticks
            ((s.dieOff d = true ∨ s.pw.lower.has d = true) → exec (.pointLowering d) s = .next s)
              ∧ (s.dieOff d = false → s.pw.lower.has d = false →
                (since s.pw.held 100 → s.cur d < 2 → ∃ t, exec (.pointLowering d) s = .next t
                    ∧ lookup t.pw.lower.rows d = some (s.cur d + 1) ∧ t.net.length = s.net.length + 1 ∧ t.regs = s.regs)
                  ∧ (¬ (since s.pw.held 100 ∧ s.cur d < 2) → since s.pw.zero 1000 → s.fld (regOp d) 1 0 < s.cur d →
                    s.fld (regOp d) 3 3 = 0 → ∃ t, exec (.pointLowering d) s = .next t
                      ∧ lookup t.pw.lower.rows d = some (s.cur d - 1) ∧ t.net = s.net ∧ t.regs = s.regs)
                  ∧ (¬ (since s.pw.held 100 ∧ s.cur d < 2) → (¬ since s.pw.zero 1000 ∨ s.cur d ≤ s.fld (regOp d) 1 0
                      ∨ s.fld (regOp d) 3 3 = 1) → exec (.pointLowering d) s = .next s))))

/-- DIE_HOT, DIE_HOT_CLEAR, DIE_OVERTEMP, STANDBY_ENTRY, STANDBY_EXIT, REGION_GATING, CLK_MON, OSC_FAIL, CLK_OSC and VR_FAULT
(R561 to R569, R576). -/
def Obligations.HeatStandbyAndClocks : Prop :=
  ∀ (s : State),
    (∀ d n (temp : Int), d < 5 → n < 256 →
      let hot := s.pw.hot.contains (sensorId d n)
      let thr : Int := s.fld (regMg 0x440) 31 24
      ((temp < thr ∨ hot = true) → exec (.dieHot d n temp) s = .next s)
        ∧ (thr ≤ temp → hot = false → ∃ t, exec (.dieHot d n temp) s = .next t ∧ t.pw.hot = s.pw.hot ++ [sensorId d n]
          ∧ t.net.length = s.net.length + (if s.dieHot d then 0 else 1)
          ∧ (∀ e, e < 4 → s.dieOff e = false → (e = d ∨ d = 4) → 4 ≤ t.stretch e) ∧ t.mem = s.mem ∧ t.clusters = s.clusters)
        ∧ ((thr - 5 ≤ temp ∨ hot = false) → exec (.dieHotClear d n temp) s = .next s)
        ∧ (temp < thr - 5 → hot = true → ∃ t, exec (.dieHotClear d n temp) s = .next t
          ∧ t.pw.hot = s.pw.hot.filter (fun x => x ≠ sensorId d n) ∧ t.net.length = s.net.length + (if t.dieHot d then 0 else 1)
          ∧ t.regs = s.regs ∧ t.mem = s.mem ∧ t.clusters = s.clusters)
        ∧ (temp < (s.fld (regMg 0x440) 23 16 : Int) → exec (.dieOvertemp d n temp) s = .next s)
        ∧ ((s.fld (regMg 0x440) 23 16 : Int) ≤ temp → ∃ t, exec (.dieOvertemp d n temp) s = .next t
          ∧ t.net.length = s.net.length + 1 ∧ t.regs = s.regs ∧ t.mem = s.mem ∧ t.clusters = s.clusters)
        ∧ (∀ rail, rail < 256 → exec (.vrFault d rail) s = .next (s.sendEv (if d < 4 then 0x200 + 16 * d + 3 else 0xD00) 0xBD rail)))
      ∧ (let free := s.allDisabled = true ∧ (∀ j, j < 16 → s.jState j ≠ 1) ∧ s.mode = 0
        (s.inP3 = true → exec .standbyEntry s = .next s)
          ∧ (s.inP3 = false → ¬ free → exec .standbyEntry s = .next (s.setFld (regPw 8) 4 4 1))
          ∧ (s.inP3 = false → free → ∃ t, exec .standbyEntry s = .next t ∧ t.fld (regPw 8) 1 0 = 2 ∧ t.fld (regPw 4) 0 0 = 1
            ∧ t.ks = 0 ∧ t.fld (regKs 4) 3 3 = 0 ∧ t.fld (regKs 4) 4 4 = 0 ∧ t.selfRefresh = true ∧ t.decs = []
            ∧ (∀ c, c < 64 → (t.cl c).seq.st = .idle) ∧ ∀ p, p < 8 → t.vpState p = 0)
          ∧ (s.inP3 = false → exec .standbyExit s = .next (s.setFld (regPw 4) 0 0 0))
          ∧ (s.inP3 = true → s.pw.enables = [] → ∃ t, exec .standbyExit s = .next t ∧ t.fld (regPw 8) 1 0 = 0
            ∧ t.fld (regPw 4) 0 0 = 0 ∧ t.selfRefresh = false ∧ t.fbDown = true
            ∧ (∀ p, p < 8 → s.fld (regVp p 0) 31 31 = 1 → t.vpState p = 1) ∧ t.mem = s.mem ∧ t.clusters = s.clusters))
      ∧ (∀ r, r < 16 →
        let ready := s.fld (regPw 0) 0 0 = 1 ∧ r ∉ s.pw.gated
          ∧ ∀ i, i < 4 → (4 * r + i ∈ s.fences ∨ ((s.cl (4 * r + i)).seq.st ≠ .running ∧ (s.cl (4 * r + i)).seq.st ≠ .stopped))
        (ready → exec (.regionGating r) s = .next { s with pw := { s.pw with gated := s.pw.gated ++ [r] } })
          ∧ (¬ ready → exec (.regionGating r) s = .next s))
      ∧ (∀ m count ok lost, m < 40 → s.clkStopped m = true → exec (.clkMon m count ok lost) s = .next s)
      ∧ (∀ m count ok lost, m < 40 → s.clkStopped m = false → (lost = false ∨ (m ≠ 4 ∧ m ≠ 39)) →
        let bad := ok = false ∨ lost = true
        (bad → ∃ t, exec (.clkMon m count ok lost) s = .next t ∧ t.monBit m = true
            ∧ t.net.length = s.net.length + (if s.monBit m then 0 else 1) ∧ t.pw.good.has m = false ∧ t.mem = s.mem)
          ∧ (¬ bad → s.monBit m = false → exec (.clkMon m count ok lost) s = .next s)
          ∧ (¬ bad → s.monBit m = true → s.pw.good.get m 0 + 1 < 10 → ∃ t, exec (.clkMon m count ok lost) s = .next t
            ∧ t.pw.good.get m 0 = s.pw.good.get m 0 + 1 ∧ t.regs = s.regs ∧ t.net = s.net)
          ∧ (¬ bad → s.monBit m = true → 10 ≤ s.pw.good.get m 0 + 1 → ∃ t, exec (.clkMon m count ok lost) s = .next t
            ∧ t.monBit m = false ∧ t.net.length = s.net.length + 1 ∧ t.mem = s.mem))
      ∧ (∀ m count ok, (m = 4 ∨ m = 39) → s.clkStopped m = false → ∃ t, exec (.clkMon m count ok true) s = .next t
        ∧ t.rst.halted = true ∧ t.saf.safeLine = true ∧ t.fld (regKs 4) 3 3 = 0 ∧ t.fld (regKs 4) 4 4 = 0
        ∧ (∀ c, c < 64 → (t.cl c).seq.st ≠ .running) ∧ t.fc = s.fc ∧ t.net = s.net)
      ∧ (∀ ppm : Int, ∃ t, exec (.oscFail 2 ppm) s = .next t ∧ t.fld (regClk 4) 15 0 = (ppm % 65536).toNat
        ∧ t.net.length = s.net.length + (if -300 ≤ ppm ∧ ppm ≤ 300 then 0 else 1) ∧ t.mem = s.mem ∧ t.clusters = s.clusters)
      ∧ (∀ n ppm, n < 2 → s.fld (regClk 0) (2 + n) (2 + n) = 0 → exec (.oscFail n ppm) s = .next s)
      ∧ (∀ n ppm, n < 2 → s.fld (regClk 0) (2 + n) (2 + n) = 1 → ∃ t, exec (.oscFail n ppm) s = .next t
        ∧ t.fld (regClk 0) (2 + n) (2 + n) = 0
        ∧ (s.fld (regClk 0) 1 1 ≠ n → t.net.length = s.net.length + 1 ∧ t.fld (regClk 0) 1 1 = s.fld (regClk 0) 1 1)
        ∧ (s.fld (regClk 0) 1 1 = n → s.fld (regClk 0) (3 - n) (3 - n) = 1 → t.fld (regClk 0) 1 1 = 1 - n
          ∧ t.net.length = s.net.length + 2)
        ∧ (s.fld (regClk 0) 1 1 = n → s.fld (regClk 0) (3 - n) (3 - n) = 0 → t.rst.halted = true))
      ∧ (∀ v : Word32, (s.allDisabled = false → exec (.clkOsc v) s = .next s)
        ∧ (s.allDisabled = true → ∃ t, exec (.clkOsc v) s = .next t ∧ t.fld (regClk 0) 0 0 = v.toNat % 2
          ∧ t.fld (regClk 0) 1 1 = (if s.fld (regClk 0) (2 + v.toNat % 2) (2 + v.toNat % 2) = 1 then v.toNat % 2
              else s.fld (regClk 0) 1 1) ∧ t.net = s.net ∧ t.mem = s.mem ∧ t.clusters = s.clusters))

/-! ### The whole module -/

/-- A step takes the command at the front of the queue; with an empty queue the module idles (the model's own queue, log
entry 1). -/
def Obligations.StepRunsTheFrontCommand : Prop :=
  ∀ (s : State), (∀ c r, s.pending = c :: r → step s = exec c { s with pending := r }) ∧ (s.pending = [] → step s = .next s)

/-- A command is refused exactly where its operands name what the module does not have (the model's choice, log entry 11), and
no command faults. -/
def Obligations.RefusedExactlyWhenIllFormed : Prop :=
  ∀ (i : Instr) (s : State), (i.wf = true → ∃ t, exec i s = .next t) ∧ (i.wf = false → exec i s = .refused .illFormed)

/-- Every step keeps the canonical form of the memories and of their marks, and hands the queue's rest on. -/
def Obligations.StepKeepsTheMemoryForm : Prop :=
  ∀ (s t : State), s.formed = true → step s = .next t →
    t.formed = true ∧ t.pending = s.pending.tail ∧ s.freeCount ≤ t.freeCount

/-- The state after package reset: the values that the spec gives (R12, R34, R216, R329, R360, R401, R433, R500). -/
def Obligations.ResetState : Prop :=
  State.reset.formed = true ∧ State.reset.pending = []
    ∧ (∀ c, c < 64 → (State.reset.cl c).seq.st = .idle ∧ State.reset.hostOf c = some c ∧ State.reset.genOf c = 1)
    ∧ State.reset.relief = [15, 31, 47, 63] ∧ State.reset.fences = [] ∧ State.reset.net = []
    ∧ (∀ c, c < 256 → State.reset.ctxState c = 0 ∧ State.reset.ctxSeq c = 1)
    ∧ State.reset.host.journal = [] ∧ State.reset.runs = []
    ∧ (∀ p, p < 16 → State.reset.poc p = 0) ∧ (∀ p, p < 8 → State.reset.vpState p = 0)
    ∧ (∀ j, j < 64 → State.reset.jState j = 0)
    ∧ State.reset.ks = 0 ∧ State.reset.refState = 0 ∧ State.reset.time.inc = 2 ^ 33 ∧ State.reset.time.now = 0
    ∧ State.reset.mode = 0 ∧ (∀ g, g < 64 → State.reset.gOn g = false)

/-- A run of well-formed commands empties its queue: as many steps as commands, whatever the state. -/
def Obligations.QueueDrains : Prop :=
  ∀ (s : State), s.safe = true → ∃ t : State, Sys2Proof.core.run s.pending.length s = .next t ∧ t.pending = []
    ∧ t.formed = true ∧ t.ticks = s.ticks + s.pending.countP (fun i => i = .timeTick) ∧ s.freeCount ≤ t.freeCount
    ∧ ∀ k, Sys2Proof.core.run (s.pending.length + k) s = .next t

/-- REGISTER_WRITE and FMAP_READ (R326, R530, R582, R588). -/
def Obligations.RegisterAccess : Prop :=
  ∀ (s : State) (v : Word32),
    (∀ off, off < 2 ^ 23 → off % 4 = 0 →
      exec (.registerWrite off v false) s = .next s
        ∧ ((off < 0x100000 ∨ s.dieDark off = true) → exec (.registerWrite off v true) s = .next s)
        ∧ (0x100000 ≤ off → s.dieDark off = false → (off < 0x140000 ∧ off % 0x1000 ≠ 0x208 ∨ 0x401000 ≤ off ∧ off < 0x402000) →
          (regRow off = none → exec (.registerWrite off v true) s = .next s)
            ∧ (∀ r, regRow off = some r → ∃ t, exec (.registerWrite off v true) s = .next t
              ∧ (∀ i, i < 32 → (t.reg off).getLsbD i =
                (if r.w1c.testBit i then (if r.rw.testBit i then v.getLsbD i else (s.reg off).getLsbD i) && !v.getLsbD i
                  else if r.rw.testBit i then v.getLsbD i else (s.reg off).getLsbD i))
              ∧ (∀ o, o ≠ off → t.reg o = s.reg o) ∧ t.mem = s.mem ∧ t.clusters = s.clusters ∧ t.host = s.host ∧ t.net = s.net)))
      ∧ (∀ c, c < 64 → s.dieDark (regCl c 0x208) = false → v.getLsbD 0 = true →
        exec (.registerWrite (regCl c 0x208) v true) s = exec (.clMemclr c) s)
      ∧ (∀ c, c < 256 →
        exec (.registerWrite (regDb c 0) v true) s = exec (.sqTail c (v.truncate 16)) s
          ∧ exec (.registerWrite (regDb c 4) v true) s = exec (.cqHead c (v.truncate 16)) s
          ∧ (v.toNat % 8 = 1 → exec (.registerWrite (regCtx c 0) v true) s = exec (.enable c) s)
          ∧ (v.toNat % 8 = 2 → exec (.registerWrite (regCtx c 0) v true) s = exec (.disable c) s)
          ∧ (v.toNat % 8 = 3 → exec (.registerWrite (regCtx c 0) v true) s = exec (.abort c) s)
          ∧ (v.toNat % 8 = 4 → exec (.registerWrite (regCtx c 0) v true) s = exec (.contextReset c) s))
      ∧ exec (.registerWrite (regTb 0) v true) s = exec (.refsrc v) s
      ∧ exec (.registerWrite (regFc 8) v true) s = exec (.fcAck v) s
      ∧ (bitsOf v.toNat 31 16 = 0x4B53 → bitsOf v.toNat 1 0 = 1 → exec (.registerWrite (regKs 8) v true) s = exec .ksGo s)
      ∧ (bitsOf v.toNat 14 12 = 1 →
        exec (.registerWrite (regRc 8) v true) s = exec (.rcCluster (bitsOf v.toNat 31 16) (bitsOf v.toNat 11 0)) s)
      ∧ (∀ k, k < 24 → ∃ t, exec (.fmapRead k) s = .next t ∧ (∀ typ, t.fmap typ = s.fmap typ)
        ∧ (∀ b, spanBlocks[k]? = some b → t.entryDword k 6 = s.fmap b.typ % 2 ^ 32 ∧ t.entryDword k 7 = s.fmap b.typ / 2 ^ 32)
        ∧ (∀ j, j ≠ k → t.entryDword j 7 = s.entryDword j 7) ∧ t.regs = s.regs ∧ t.mem = s.mem ∧ t.clusters = s.clusters)

/-- The coax budget (R362): PEN is refused beyond 256 steps, and VSET and PLIM are taken in OFF only. -/
def Obligations.CoaxBudget : Prop :=
  ∀ (s : State) (port : Nat) (v : Word32), port < 16 →
    let r := regAp port 0x30
    let sum := fun (u : State) => ((List.range 16).map (fun p => if u.poc p = 1 ∨ u.poc p = 2 then u.fld (regAp p 0x30) 12 8 else 0)).sum
    let held := if s.poc port = 0 then s.setFld r 12 0 (bitsOf v.toNat 12 0) else s
    (∀ i : Instr, (i = .pen port v ∨ i = .clr port ∨ (∃ b, i = .rampEnd port b) ∨ (∃ b, i = .pocShort port b) ∨ i = .pocOverload port
        ∨ i = .dischargeEnd port ∨ i = .openLoad port) → ∃ t, exec i s = .next t ∧ (sum s ≤ 256 → sum t ≤ 256))
      ∧ (v.getLsbD 31 = true → s.poc port = 0 → 1 ≤ bitsOf v.toNat 12 8 → bitsOf v.toNat 12 8 ≤ 24 → bitsOf v.toNat 7 0 ≤ 120 →
        256 < sum s + bitsOf v.toNat 12 8 → exec (.pen port v) s = .next (held.send (portSrc port) 0x58 0 true [])
          ∧ (held.send (portSrc port) 0x58 0 true []).fld r 31 31 = s.fld r 31 31 ∧ (held.send (portSrc port) 0x58 0 true []).poc port = 0)
      ∧ (∀ t, exec (.pen port v) s = .next t →
        t.fld r 12 0 = (if s.poc port = 0 then bitsOf v.toNat 12 0 else s.fld r 12 0)
          ∧ ∀ p, p < 16 → p ≠ port → t.reg (regAp p 0x30) = s.reg (regAp p 0x30) ∧ t.poc p = s.poc p)
      ∧ (v.getLsbD 30 = false → exec (.registerWrite r v true) s = exec (.pen port v) s)

/-- A malformed descriptor (R335). -/
def Obligations.MalformedDescriptor : Prop :=
  ∀ (s : State) (c p : Nat) (d : List Byte), c < 256 → p < 16 → d.length = 64 →
    ((8 ≤ fieldAt d 0 1 ∨ fieldAt d 2 2 ≠ 0) → s.descMalformed d = true)
      ∧ (s.mode ≠ 2 → s.mayAccept c = true → s.fld (regDb c 8) 15 0 ≠ s.fld (regDb c 0) 15 0 → s.decodeFull d = false →
        s.descMalformed d = true → ∃ (t : State) (e : JEntry) (m : NetMsg), exec (.accept c true d p) s = .next t
          ∧ t.host.journal.getLast? = some e ∧ t.host.journal.length = s.host.journal.length + 1
          ∧ e.ctx = c ∧ e.seq = s.ctxSeq c ∧ e.desc = d ∧ e.out = some ⟨2, 2, 0, [], 0⟩ ∧ e.started = false
          ∧ t.net = s.net ++ [m] ∧ msgSrc m.bits.toNat = ctxSrc c ∧ msgKind m.bits.toNat = 0x49
          ∧ t.ctxSeq c = (s.ctxSeq c + 1) % 2 ^ 48 ∧ t.fld (regDb c 8) 15 0 = (s.fld (regDb c 8) 15 0 + 1) % s.sqSize c
          ∧ t.clusters = s.clusters ∧ t.claims = s.claims ∧ t.runs = s.runs ∧ t.decs = s.decs ∧ t.kv = s.kv ∧ t.hbm = s.hbm
          ∧ t.host.reqs = s.host.reqs
          ∧ (∀ off, off ∉ [regDb c 8, regDb c 0xC, regCtx c 8, regCtx c 0xC] → t.reg off = s.reg off)
          ∧ ∀ a, (a < memKey 4 (s.cqBase c + 32 * s.fld (regDb c 0xC) 15 0)
              ∨ memKey 4 (s.cqBase c + 32 * s.fld (regDb c 0xC) 15 0) + 32 ≤ a) → t.byte a = s.byte a)
end

