-- ==== Sys2Proof/Laws/Exec.lean ====
section
/-! SUPPORT. What each well-formed command does: `exec` is the effect of its meaning. -/

namespace Sys2Proof.Machine

theorem answer_ok {ok : Bool} {t : State} (h : ok = true) : answer ok t = .next t := if_pos h

theorem answer_bad {ok : Bool} {t : State} (h : ok = false) : answer ok t = .refused .illFormed := by
  subst h
  rfl

theorem exec_startRecord {c : Nat} {r : StartRecord} {s : State} (h : (Instr.startRecord c r).wf = true) :
    exec (.startRecord c r) s = .next (doStartRecord c r s) := answer_ok h
theorem exec_nop {c : Nat} {op : Nat} {s : State} (h : (Instr.nop c op).wf = true) :
    exec (.nop c op) s = .next (doNop c op s) := answer_ok h
theorem exec_setl {c : Nat} {op : Nat} {s : State} (h : (Instr.setl c op).wf = true) :
    exec (.setl c op) s = .next (doSetl c op s) := answer_ok h
theorem exec_seth {c : Nat} {op : Nat} {s : State} (h : (Instr.seth c op).wf = true) :
    exec (.seth c op) s = .next (doSeth c op s) := answer_ok h
theorem exec_addi {c : Nat} {op : Nat} {s : State} (h : (Instr.addi c op).wf = true) :
    exec (.addi c op) s = .next (doAddi c op s) := answer_ok h
theorem exec_lda {c : Nat} {op : Nat} {s : State} (h : (Instr.lda c op).wf = true) :
    exec (.lda c op) s = .next (doLda c op s) := answer_ok h
theorem exec_step {c : Nat} {op : Nat} {s : State} (h : (Instr.step c op).wf = true) :
    exec (.step c op) s = .next (doStep c op s) := answer_ok h
theorem exec_lset {c : Nat} {op : Nat} {s : State} (h : (Instr.lset c op).wf = true) :
    exec (.lset c op) s = .next (doLset c op s) := answer_ok h
theorem exec_bloop {c : Nat} {op : Nat} {s : State} (h : (Instr.bloop c op).wf = true) :
    exec (.bloop c op) s = .next (doBloop c op s) := answer_ok h
theorem exec_br {c : Nat} {op : Nat} {s : State} (h : (Instr.br c op).wf = true) :
    exec (.br c op) s = .next (doBr c op s) := answer_ok h
theorem exec_waitc {c : Nat} {op : Nat} {s : State} (h : (Instr.waitc c op).wf = true) :
    exec (.waitc c op) s = .next (doWaitc c op s) := answer_ok h
theorem exec_waitcRelease {c : Nat} {s : State} (h : (Instr.waitcRelease c).wf = true) :
    exec (.waitcRelease c) s = .next (doWaitcRelease c s) := answer_ok h
theorem exec_waitg {c : Nat} {op : Nat} {s : State} (h : (Instr.waitg c op).wf = true) :
    exec (.waitg c op) s = .next (doWaitg c op s) := answer_ok h
theorem exec_waitgRelease {c : Nat} {t : Nat} {s : State} (h : (Instr.waitgRelease c t).wf = true) :
    exec (.waitgRelease c t) s = .next (doWaitgRelease c t s) := answer_ok h
theorem exec_waitx {c : Nat} {op : Nat} {s : State} (h : (Instr.waitx c op).wf = true) :
    exec (.waitx c op) s = .next (doWaitx c op s) := answer_ok h
theorem exec_waitxRelease {c : Nat} {s : State} (h : (Instr.waitxRelease c).wf = true) :
    exec (.waitxRelease c) s = .next (doWaitxRelease c s) := answer_ok h
theorem exec_waitb {c : Nat} {op : Nat} {s : State} (h : (Instr.waitb c op).wf = true) :
    exec (.waitb c op) s = .next (doWaitb c op s) := answer_ok h
theorem exec_waitbRelease {c : Nat} {t : Nat} {s : State} (h : (Instr.waitbRelease c t).wf = true) :
    exec (.waitbRelease c t) s = .next (doWaitbRelease c t s) := answer_ok h
theorem exec_bar {c : Nat} {op : Nat} {s : State} (h : (Instr.bar c op).wf = true) :
    exec (.bar c op) s = .next (doBar c op s) := answer_ok h
theorem exec_barRelease {c : Nat} {n : Nat} {s : State} (h : (Instr.barRelease c n).wf = true) :
    exec (.barRelease c n) s = .next (doBarRelease c n s) := answer_ok h
theorem exec_fence {c : Nat} {op : Nat} {s : State} (h : (Instr.fence c op).wf = true) :
    exec (.fence c op) s = .next (doFence c op s) := answer_ok h
theorem exec_fenceRelease {c : Nat} {s : State} (h : (Instr.fenceRelease c).wf = true) :
    exec (.fenceRelease c) s = .next (doFenceRelease c s) := answer_ok h
theorem exec_flagclr {c : Nat} {op : Nat} {s : State} (h : (Instr.flagclr c op).wf = true) :
    exec (.flagclr c op) s = .next (doFlagclr c op s) := answer_ok h
theorem exec_endProgram {c : Nat} {op : Nat} {s : State} (h : (Instr.endProgram c op).wf = true) :
    exec (.endProgram c op) s = .next (doEnd c op s) := answer_ok h
theorem exec_endCompletion {c : Nat} {s : State} (h : (Instr.endCompletion c).wf = true) :
    exec (.endCompletion c) s = .next (doEndCompletion c s) := answer_ok h
theorem exec_waitTimeout {c : Nat} {s : State} (h : (Instr.waitTimeout c).wf = true) :
    exec (.waitTimeout c) s = .next (doWaitTimeout c s) := answer_ok h
theorem exec_mxT {c : Nat} {slot : Nat} {op : Nat} {s : State} (h : (Instr.mxT c slot op).wf = true) :
    exec (.mxT c slot op) s = .next (doMx 0 c slot op s) := answer_ok h
theorem exec_mxP {c : Nat} {slot : Nat} {op : Nat} {s : State} (h : (Instr.mxP c slot op).wf = true) :
    exec (.mxP c slot op) s = .next (doMx 1 c slot op s) := answer_ok h
theorem exec_mxQ {c : Nat} {slot : Nat} {op : Nat} {s : State} (h : (Instr.mxQ c slot op).wf = true) :
    exec (.mxQ c slot op) s = .next (doMx 2 c slot op s) := answer_ok h
theorem exec_mxW {c : Nat} {slot : Nat} {op : Nat} {s : State} (h : (Instr.mxW c slot op).wf = true) :
    exec (.mxW c slot op) s = .next (doMx 3 c slot op s) := answer_ok h
theorem exec_mxG {c : Nat} {slot : Nat} {op : Nat} {s : State} (h : (Instr.mxG c slot op).wf = true) :
    exec (.mxG c slot op) s = .next (doMx 4 c slot op s) := answer_ok h
theorem exec_mxLd {c : Nat} {slot : Nat} {op : Nat} {s : State} (h : (Instr.mxLd c slot op).wf = true) :
    exec (.mxLd c slot op) s = .next (doMxLd c slot op s) := answer_ok h
theorem exec_mxDr {c : Nat} {slot : Nat} {op : Nat} {s : State} (h : (Instr.mxDr c slot op).wf = true) :
    exec (.mxDr c slot op) s = .next (doMxDr c slot op s) := answer_ok h
theorem exec_edAtt {c : Nat} {slot : Nat} {op : Nat} {s : State} (h : (Instr.edAtt c slot op).wf = true) :
    exec (.edAtt c slot op) s = .next (doEdAtt c slot op s) := answer_ok h
theorem exec_vuLd {c : Nat} {slot : Nat} {op : Nat} {s : State} (h : (Instr.vuLd c slot op).wf = true) :
    exec (.vuLd c slot op) s = .next (doVuLd c slot op s) := answer_ok h
theorem exec_vuAdd {c : Nat} {slot : Nat} {op : Nat} {s : State} (h : (Instr.vuAdd c slot op).wf = true) :
    exec (.vuAdd c slot op) s = .next (doVuAdd c slot op s) := answer_ok h
theorem exec_vuSub {c : Nat} {slot : Nat} {op : Nat} {s : State} (h : (Instr.vuSub c slot op).wf = true) :
    exec (.vuSub c slot op) s = .next (doVuSub c slot op s) := answer_ok h
theorem exec_vuMul {c : Nat} {slot : Nat} {op : Nat} {s : State} (h : (Instr.vuMul c slot op).wf = true) :
    exec (.vuMul c slot op) s = .next (doVuMul c slot op s) := answer_ok h
theorem exec_vuMax {c : Nat} {slot : Nat} {op : Nat} {s : State} (h : (Instr.vuMax c slot op).wf = true) :
    exec (.vuMax c slot op) s = .next (doVuMax c slot op s) := answer_ok h
theorem exec_vuMin {c : Nat} {slot : Nat} {op : Nat} {s : State} (h : (Instr.vuMin c slot op).wf = true) :
    exec (.vuMin c slot op) s = .next (doVuMin c slot op s) := answer_ok h
theorem exec_vuTab {c : Nat} {slot : Nat} {op : Nat} {s : State} (h : (Instr.vuTab c slot op).wf = true) :
    exec (.vuTab c slot op) s = .next (doVuTab c slot op s) := answer_ok h
theorem exec_vuSumr {c : Nat} {slot : Nat} {op : Nat} {s : State} (h : (Instr.vuSumr c slot op).wf = true) :
    exec (.vuSumr c slot op) s = .next (doVuSumr c slot op s) := answer_ok h
theorem exec_vuMaxr {c : Nat} {slot : Nat} {op : Nat} {s : State} (h : (Instr.vuMaxr c slot op).wf = true) :
    exec (.vuMaxr c slot op) s = .next (doVuMaxr c slot op s) := answer_ok h
theorem exec_vuOut {c : Nat} {slot : Nat} {op : Nat} {s : State} (h : (Instr.vuOut c slot op).wf = true) :
    exec (.vuOut c slot op) s = .next (doVuOut c slot op s) := answer_ok h
theorem exec_vuTld {c : Nat} {slot : Nat} {op : Nat} {s : State} (h : (Instr.vuTld c slot op).wf = true) :
    exec (.vuTld c slot op) s = .next (doVuTld c slot op s) := answer_ok h
theorem exec_vuBci {c : Nat} {slot : Nat} {op : Nat} {s : State} (h : (Instr.vuBci c slot op).wf = true) :
    exec (.vuBci c slot op) s = .next (doVuBci c slot op s) := answer_ok h
theorem exec_slP1 {c : Nat} {slot : Nat} {op : Nat} {s : State} (h : (Instr.slP1 c slot op).wf = true) :
    exec (.slP1 c slot op) s = .next (doSlP1 c slot op s) := answer_ok h
theorem exec_slP2 {c : Nat} {slot : Nat} {op : Nat} {s : State} (h : (Instr.slP2 c slot op).wf = true) :
    exec (.slP2 c slot op) s = .next (doSlP2 c slot op s) := answer_ok h
theorem exec_slCv {c : Nat} {slot : Nat} {op : Nat} {s : State} (h : (Instr.slCv c slot op).wf = true) :
    exec (.slCv c slot op) s = .next (doSlCv c slot op s) := answer_ok h
theorem exec_slTld {c : Nat} {slot : Nat} {op : Nat} {s : State} (h : (Instr.slTld c slot op).wf = true) :
    exec (.slTld c slot op) s = .next (doSlTld c slot op s) := answer_ok h
theorem exec_slZld {c : Nat} {slot : Nat} {op : Nat} {s : State} (h : (Instr.slZld c slot op).wf = true) :
    exec (.slZld c slot op) s = .next (doSlZld c slot op s) := answer_ok h
theorem exec_slSeed {c : Nat} {slot : Nat} {op : Nat} {s : State} (h : (Instr.slSeed c slot op).wf = true) :
    exec (.slSeed c slot op) s = .next (doSlSeed c slot op s) := answer_ok h
theorem exec_slKl {c : Nat} {slot : Nat} {op : Nat} {s : State} (h : (Instr.slKl c slot op).wf = true) :
    exec (.slKl c slot op) s = .next (doSlKl c slot op s) := answer_ok h
theorem exec_slKa {c : Nat} {slot : Nat} {op : Nat} {s : State} (h : (Instr.slKa c slot op).wf = true) :
    exec (.slKa c slot op) s = .next (doSlKa c slot op s) := answer_ok h
theorem exec_slKu {c : Nat} {slot : Nat} {op : Nat} {s : State} (h : (Instr.slKu c slot op).wf = true) :
    exec (.slKu c slot op) s = .next (doSlKu c slot op s) := answer_ok h
theorem exec_setReady {c : Nat} {n : Nat} {s : State} (h : (Instr.setReady c n).wf = true) :
    exec (.setReady c n) s = .next (doSetReady c n s) := answer_ok h
theorem exec_stRing {c : Nat} {slot : Nat} {op : Nat} {s : State} (h : (Instr.stRing c slot op).wf = true) :
    exec (.stRing c slot op) s = .next (doStRing c slot op s) := answer_ok h
theorem exec_stWin {c : Nat} {slot : Nat} {op : Nat} {s : State} (h : (Instr.stWin c slot op).wf = true) :
    exec (.stWin c slot op) s = .next (doStWin c slot op s) := answer_ok h
theorem exec_stRpk {c : Nat} {slot : Nat} {op : Nat} {s : State} (h : (Instr.stRpk c slot op).wf = true) :
    exec (.stRpk c slot op) s = .next (doStRpk c slot op s) := answer_ok h
theorem exec_stTrp {c : Nat} {slot : Nat} {op : Nat} {s : State} (h : (Instr.stTrp c slot op).wf = true) :
    exec (.stTrp c slot op) s = .next (doStTrp c slot op s) := answer_ok h
theorem exec_rdSum {c : Nat} {slot : Nat} {op : Nat} {s : State} (h : (Instr.rdSum c slot op).wf = true) :
    exec (.rdSum c slot op) s = .next (doRdSum c slot op s) := answer_ok h
theorem exec_egRun {c : Nat} {slot : Nat} {op : Nat} {s : State} (h : (Instr.egRun c slot op).wf = true) :
    exec (.egRun c slot op) s = .next (doEgRun c slot op s) := answer_ok h
theorem exec_egRunComplete {d : Nat} {s : State} (h : (Instr.egRunComplete d).wf = true) :
    exec (.egRunComplete d) s = .next (doEgRunComplete d s) := answer_ok h
theorem exec_cpRun {c : Nat} {slot : Nat} {inbound : Bool} {op : Nat} {s : State} (h : (Instr.cpRun c slot inbound op).wf = true) :
    exec (.cpRun c slot inbound op) s = .next (doCpRun c slot inbound op s) := answer_ok h
theorem exec_pullLanding {c : Nat} {tag : Nat} {gen : Nat} {landed : Nat} {ok : Bool} {host : List Byte} {s : State} (h : (Instr.pullLanding c tag gen landed ok host).wf = true) :
    exec (.pullLanding c tag gen landed ok host) s = .next (doPullLanding c tag gen landed ok host s) := answer_ok h
theorem exec_pullCommit {c : Nat} {s : State} (h : (Instr.pullCommit c).wf = true) :
    exec (.pullCommit c) s = .next (doPullCommit c s) := answer_ok h
theorem exec_outboundComplete {c : Nat} {tag : Nat} {t : Nat} {s : State} (h : (Instr.outboundComplete c tag t).wf = true) :
    exec (.outboundComplete c tag t) s = .next (doOutboundComplete c tag t s) := answer_ok h
theorem exec_mcastPull {mask : Nat} {ok : Bool} {host : List Byte} {s : State} (h : (Instr.mcastPull mask ok host).wf = true) :
    exec (.mcastPull mask ok host) s = .next (doMcastPull mask ok host s) := answer_ok h
theorem exec_copyDeadline {c : Nat} {tag : Nat} {s : State} (h : (Instr.copyDeadline c tag).wf = true) :
    exec (.copyDeadline c tag) s = .next (doCopyDeadline c tag s) := answer_ok h
theorem exec_serviceAccess {c : Nat} {w : Nat} {data : Option (List Byte)} {s : State} (h : (Instr.serviceAccess c w data).wf = true) :
    exec (.serviceAccess c w data) s = .next (doServiceAccess c w data s) := answer_ok h
theorem exec_clMemclr {c : Nat} {s : State} (h : (Instr.clMemclr c).wf = true) :
    exec (.clMemclr c) s = .next (doClMemclr c s) := answer_ok h
theorem exec_windowEnable {c : Nat} {w : Nat} {v : Word32} {s : State} (h : (Instr.windowEnable c w v).wf = true) :
    exec (.windowEnable c w v) s = .next (doWindowEnable c w v s) := answer_ok h
theorem exec_sqTail {c : Nat} {v : BitVec 16} {s : State} (h : (Instr.sqTail c v).wf = true) :
    exec (.sqTail c v) s = .next (doSqTail c v s) := answer_ok h
theorem exec_cqHead {c : Nat} {v : BitVec 16} {s : State} (h : (Instr.cqHead c v).wf = true) :
    exec (.cqHead c v) s = .next (doCqHead c v s) := answer_ok h
theorem exec_accept {c : Nat} {ok : Bool} {d : List Byte} {p : Nat} {s : State} (h : (Instr.accept c ok d p).wf = true) :
    exec (.accept c ok d p) s = .next (doAcceptKeep c ok d p s) := answer_ok h
theorem exec_descriptorNop {c : Nat} {seq : Nat} {s : State} (h : (Instr.descriptorNop c seq).wf = true) :
    exec (.descriptorNop c seq) s = .next (doDescriptorNop c seq s) := answer_ok h
theorem exec_loadp {c : Nat} {seq : Nat} {s : State} (h : (Instr.loadp c seq).wf = true) :
    exec (.loadp c seq) s = .next (doLoadp c seq s) := answer_ok h
theorem exec_loadw {c : Nat} {seq : Nat} {s : State} (h : (Instr.loadw c seq).wf = true) :
    exec (.loadw c seq) s = .next (doLoadw c seq s) := answer_ok h
theorem exec_run {c : Nat} {seq : Nat} {t : Nat} {s : State} (h : (Instr.run c seq t).wf = true) :
    exec (.run c seq t) s = .next (doRun c seq t s) := answer_ok h
theorem exec_copy {c : Nat} {seq : Nat} {s : State} (h : (Instr.copy c seq).wf = true) :
    exec (.copy c seq) s = .next (doCopy c seq s) := answer_ok h
theorem exec_decode {c : Nat} {seq : Nat} {row : Option (List (Byte × Bool))} {s : State} (h : (Instr.decode c seq row).wf = true) :
    exec (.decode c seq row) s = .next (doDecode c seq row s) := answer_ok h
theorem exec_kvopShare {c : Nat} {seq : Nat} {s : State} (h : (Instr.kvopShare c seq).wf = true) :
    exec (.kvopShare c seq) s = .next (doKvopShare c seq s) := answer_ok h
theorem exec_kvopRelease {c : Nat} {seq : Nat} {s : State} (h : (Instr.kvopRelease c seq).wf = true) :
    exec (.kvopRelease c seq) s = .next (doKvopRelease c seq s) := answer_ok h
theorem exec_kvopTruncate {c : Nat} {seq : Nat} {s : State} (h : (Instr.kvopTruncate c seq).wf = true) :
    exec (.kvopTruncate c seq) s = .next (doKvopTruncate c seq s) := answer_ok h
theorem exec_disarm {c : Nat} {seq : Nat} {s : State} (h : (Instr.disarm c seq).wf = true) :
    exec (.disarm c seq) s = .next (doDisarm c seq s) := answer_ok h
theorem exec_outcomeRecord {c : Nat} {s : State} (h : (Instr.outcomeRecord c).wf = true) :
    exec (.outcomeRecord c) s = .next (doOutcomeRecord c s) := answer_ok h
theorem exec_msixHoldoffExpiry {v : Nat} {s : State} (h : (Instr.msixHoldoffExpiry v).wf = true) :
    exec (.msixHoldoffExpiry v) s = .next (doMsixHoldoffExpiry v s) := answer_ok h
theorem exec_enable {c : Nat} {s : State} (h : (Instr.enable c).wf = true) :
    exec (.enable c) s = .next (doEnable c s) := answer_ok h
theorem exec_disable {c : Nat} {s : State} (h : (Instr.disable c).wf = true) :
    exec (.disable c) s = .next (doDisable c s) := answer_ok h
theorem exec_abort {c : Nat} {s : State} (h : (Instr.abort c).wf = true) :
    exec (.abort c) s = .next (doAbort c s) := answer_ok h
theorem exec_contextReset {c : Nat} {s : State} (h : (Instr.contextReset c).wf = true) :
    exec (.contextReset c) s = .next (doContextReset c s) := answer_ok h
theorem exec_hostLoss {kind : Nat} {s : State} (h : (Instr.hostLoss kind).wf = true) :
    exec (.hostLoss kind) s = .next (doHostLoss kind s) := answer_ok h
theorem exec_d3hotEntry {s : State} :
    exec .d3hotEntry s = .next (doD3hotEntry s) := rfl
theorem exec_d0Return {s : State} :
    exec .d0Return s = .next (doD0Return s) := rfl
theorem exec_hostTransferComplete {c : Nat} {seq : Nat} {ok : Bool} {data : List Byte} {s : State} (h : (Instr.hostTransferComplete c seq ok data).wf = true) :
    exec (.hostTransferComplete c seq ok data) s = .next (doHostTransferComplete c seq ok data s) := answer_ok h
theorem exec_pcieLinkUp {s : State} :
    exec .pcieLinkUp s = .next (doPcieLinkUp s) := rfl
theorem exec_rdReady {c : Nat} {seq : Nat} {no : Nat} {s : State} (h : (Instr.rdReady c seq no).wf = true) :
    exec (.rdReady c seq no) s = .next (doRdReady c seq no s) := answer_ok h
theorem exec_kvWrite {c : Nat} {tag : Nat} {s : State} (h : (Instr.kvWrite c tag).wf = true) :
    exec (.kvWrite c tag) s = .next (doKvWrite c tag s) := answer_ok h
theorem exec_kvShare {src : Nat} {shg : Nat} {stb : Nat} {dst : Nat} {dhg : Nat} {dtb : Nat} {n : Nat} {addr : Nat} {s : State} (h : (Instr.kvShare src shg stb dst dhg dtb n addr).wf = true) :
    exec (.kvShare src shg stb dst dhg dtb n addr) s = .next (doKvShare src shg stb dst dhg dtb n addr s) := answer_ok h
theorem exec_kvRelease {c : Nat} {hg : Nat} {tb : Nat} {n : Nat} {addr : Nat} {s : State} (h : (Instr.kvRelease c hg tb n addr).wf = true) :
    exec (.kvRelease c hg tb n addr) s = .next (doKvRelease c hg tb n addr s) := answer_ok h
theorem exec_kvTruncate {c : Nat} {hg : Nat} {p : Nat} {addr : Nat} {s : State} (h : (Instr.kvTruncate c hg p addr).wf = true) :
    exec (.kvTruncate c hg p addr) s = .next (doKvTruncate c hg p addr s) := answer_ok h
theorem exec_kvInit {s : State} :
    exec .kvInit s = .next (doKvInitWrite s) := rfl
theorem exec_decodeWindowClose {b : Nat} {s : State} (h : (Instr.decodeWindowClose b).wf = true) :
    exec (.decodeWindowClose b) s = .next (doDecodeWindowClose b s) := answer_ok h
theorem exec_frameStart {port : Nat} {vc : Nat} {hdr : Nat} {retx : Bool} {ago : Nat} {s : State} (h : (Instr.frameStart port vc hdr retx ago).wf = true) :
    exec (.frameStart port vc hdr retx ago) s = .next (doFrameStart port vc hdr retx ago s) := answer_ok h
theorem exec_longPacket {port : Nat} {vc : Nat} {dt : Nat} {hdr : Nat} {retx : Bool} {crcGood : Bool} {bs : List Byte} {ago : Nat} {s : State} (h : (Instr.longPacket port vc dt hdr retx crcGood bs ago).wf = true) :
    exec (.longPacket port vc dt hdr retx crcGood bs ago) s = .next (doLongPacket port vc dt hdr retx crcGood bs ago s) := answer_ok h
theorem exec_frameEnd {port : Nat} {vc : Nat} {hdr : Nat} {retx : Bool} {s : State} (h : (Instr.frameEnd port vc hdr retx).wf = true) :
    exec (.frameEnd port vc hdr retx) s = .next (doFrameEnd port vc hdr retx s) := answer_ok h
theorem exec_embeddedData {port : Nat} {vc : Nat} {hdr : Nat} {retx : Bool} {bs : List Byte} {ago : Nat} {s : State} (h : (Instr.embeddedData port vc hdr retx bs ago).wf = true) :
    exec (.embeddedData port vc hdr retx bs ago) s = .next (doEmbeddedData port vc hdr retx bs ago s) := answer_ok h
theorem exec_frameTimeout {port : Nat} {vc : Nat} {s : State} (h : (Instr.frameTimeout port vc).wf = true) :
    exec (.frameTimeout port vc) s = .next (doFrameTimeout port vc s) := answer_ok h
theorem exec_lossOfLock {port : Nat} {s : State} (h : (Instr.lossOfLock port).wf = true) :
    exec (.lossOfLock port) s = .next (doLossOfLock port s) := answer_ok h
theorem exec_lockAcquired {port : Nat} {gear : Nat} {s : State} (h : (Instr.lockAcquired port gear).wf = true) :
    exec (.lockAcquired port gear) s = .next (doLockAcquired port gear s) := answer_ok h
theorem exec_sensStreamTimeout {x : Nat} {s : State} (h : (Instr.sensStreamTimeout x).wf = true) :
    exec (.sensStreamTimeout x) s = .next (doSensStreamTimeout x s) := answer_ok h
theorem exec_triggerRequest {port : Nat} {time : Nat} {s : State} (h : (Instr.triggerRequest port time).wf = true) :
    exec (.triggerRequest port time) s = .next (doTriggerRequest port time s) := answer_ok h
theorem exec_triggerSend {port : Nat} {s : State} (h : (Instr.triggerSend port).wf = true) :
    exec (.triggerSend port) s = .next (doTriggerSend port s) := answer_ok h
theorem exec_pen {port : Nat} {v : Word32} {s : State} (h : (Instr.pen port v).wf = true) :
    exec (.pen port v) s = .next (doPen port v s) := answer_ok h
theorem exec_clr {port : Nat} {s : State} (h : (Instr.clr port).wf = true) :
    exec (.clr port) s = .next (doClr port s) := answer_ok h
theorem exec_rampEnd {port : Nat} {reached : Bool} {s : State} (h : (Instr.rampEnd port reached).wf = true) :
    exec (.rampEnd port reached) s = .next (doRampEnd port reached s) := answer_ok h
theorem exec_pocShort {port : Nat} {backfeed : Bool} {s : State} (h : (Instr.pocShort port backfeed).wf = true) :
    exec (.pocShort port backfeed) s = .next (doPocShort port backfeed s) := answer_ok h
theorem exec_pocOverload {port : Nat} {s : State} (h : (Instr.pocOverload port).wf = true) :
    exec (.pocOverload port) s = .next (doPocOverload port s) := answer_ok h
theorem exec_openLoad {port : Nat} {s : State} (h : (Instr.openLoad port).wf = true) :
    exec (.openLoad port) s = .next (doOpenLoad port s) := answer_ok h
theorem exec_dischargeEnd {port : Nat} {s : State} (h : (Instr.dischargeEnd port).wf = true) :
    exec (.dischargeEnd port) s = .next (doDischargeEnd port s) := answer_ok h
theorem exec_pocMeasurement {port : Nat} {mv : Nat} {ma : Nat} {s : State} (h : (Instr.pocMeasurement port mv ma).wf = true) :
    exec (.pocMeasurement port mv ma) s = .next (doPocMeasurement port mv ma s) := answer_ok h
theorem exec_ethFrame {q : Nat} {fcsOk : Bool} {bs : List Byte} {ago : Nat} {s : State} (h : (Instr.ethFrame q fcsOk bs ago).wf = true) :
    exec (.ethFrame q fcsOk bs ago) s = .next (doEthInput q fcsOk bs ago s) := answer_ok h
theorem exec_ethLink {q : Nat} {s : State} (h : (Instr.ethLink q).wf = true) :
    exec (.ethLink q) s = .next (doEthLink q s) := answer_ok h
theorem exec_ethLinkUp {q : Nat} {s : State} (h : (Instr.ethLinkUp q).wf = true) :
    exec (.ethLinkUp q) s = .next (doEthLinkUp q s) := answer_ok h
theorem exec_receiverEnable {port : Nat} {v : Word32} {s : State} (h : (Instr.receiverEnable port v).wf = true) :
    exec (.receiverEnable port v) s = .next (doReceiverEnable port v s) := answer_ok h
theorem exec_weirDrop {port : Nat} {s : State} (h : (Instr.weirDrop port).wf = true) :
    exec (.weirDrop port) s = .next (doWeirDrop port s) := answer_ok h
theorem exec_apCntclr {port : Nat} {s : State} (h : (Instr.apCntclr port).wf = true) :
    exec (.apCntclr port) s = .next (doApCntclr port s) := answer_ok h
theorem exec_lpCntclr {p : Nat} {s : State} (h : (Instr.lpCntclr p).wf = true) :
    exec (.lpCntclr p) s = .next (doLpCntclr p s) := answer_ok h
theorem exec_wrClr {s : State} :
    exec .wrClr s = .next (doWrClr s) := rfl
theorem exec_lineGroupAdmission {port : Nat} {s : State} (h : (Instr.lineGroupAdmission port).wf = true) :
    exec (.lineGroupAdmission port) s = .next (doLineGroupAdmission port s) := answer_ok h
theorem exec_stripeReady {x : Nat} {s : State} (h : (Instr.stripeReady x).wf = true) :
    exec (.stripeReady x) s = .next (doStripeReady x s) := answer_ok h
theorem exec_frameCloseEmit {port : Nat} {s : State} (h : (Instr.frameCloseEmit port).wf = true) :
    exec (.frameCloseEmit port) s = .next (doFrameCloseEmit port s) := answer_ok h
theorem exec_viewEnable {v : Nat} {w : Word32} {s : State} (h : (Instr.viewEnable v w).wf = true) :
    exec (.viewEnable v w) s = .next (doViewEnable v w s) := answer_ok h
theorem exec_meshLoad {v : Word32} {s : State} :
    exec (.meshLoad v) s = .next (doMeshLoad v s) := rfl
theorem exec_lidarBlock {p : Nat} {s : State} (h : (Instr.lidarBlock p).wf = true) :
    exec (.lidarBlock p) s = .next (doLidarBlock p s) := answer_ok h
theorem exec_lidarEnable {x : Nat} {v : Word32} {s : State} (h : (Instr.lidarEnable x v).wf = true) :
    exec (.lidarEnable x v) s = .next (doLidarEnable x v s) := answer_ok h
theorem exec_recordCapture {s : State} :
    exec .recordCapture s = .next (doRecordCapture s) := rfl
theorem exec_recordingResume {s : State} :
    exec .recordingResume s = .next (doRecordingResume s) := rfl
theorem exec_recordRelease {s : State} :
    exec .recordRelease s = .next (doRecordRelease s) := rfl
theorem exec_dcResync {off : Nat} {s : State} (h : (Instr.dcResync off).wf = true) :
    exec (.dcResync off) s = .next (doDcResync off s) := answer_ok h
theorem exec_replayStarved {s : State} :
    exec .replayStarved s = .next (doReplayStarved s) := rfl
theorem exec_dtCfg {off : Nat} {v : Word32} {s : State} (h : (Instr.dtCfg off v).wf = true) :
    exec (.dtCfg off v) s = .next (doDtCfg off v s) := answer_ok h
theorem exec_pieceArrival {off : Nat} {n : Nat} {wr : Bool} {s : State} :
    exec (.pieceArrival off n wr) s = .next (doPieceArrival off n wr s) := rfl
theorem exec_dataTurn {t : Nat} {s : State} (h : (Instr.dataTurn t).wf = true) :
    exec (.dataTurn t) s = .next (doDataTurn t s) := answer_ok h
theorem exec_normalServe {pc : Nat} {s : State} (h : (Instr.normalServe pc).wf = true) :
    exec (.normalServe pc) s = .next (doNormalServe pc s) := answer_ok h
theorem exec_refTurn {t : Nat} {s : State} (h : (Instr.refTurn t).wf = true) :
    exec (.refTurn t) s = .next (doRefTurn t s) := answer_ok h
theorem exec_trrTurn {t : Nat} {s : State} (h : (Instr.trrTurn t).wf = true) :
    exec (.trrTurn t) s = .next (doTrrTurn t s) := answer_ok h
theorem exec_scrubTurn {t : Nat} {s : State} (h : (Instr.scrubTurn t).wf = true) :
    exec (.scrubTurn t) s = .next (doScrubTurn t s) := answer_ok h
theorem exec_hbmLinkRetry {pc : Nat} {s : State} (h : (Instr.hbmLinkRetry pc).wf = true) :
    exec (.hbmLinkRetry pc) s = .next (doHbmLinkRetry pc s) := answer_ok h
theorem exec_hbmTempRead {st : Nat} {temp : Int} {s : State} (h : (Instr.hbmTempRead st temp).wf = true) :
    exec (.hbmTempRead st temp) s = .next (doHbmTempRead st temp s) := answer_ok h
theorem exec_srenter {s : State} :
    exec .srenter s = .next (doSrenter s) := rfl
theorem exec_srexit {s : State} :
    exec .srexit s = .next (doSrexit s) := rfl
theorem exec_hbmGo {st : Nat} {failPc : Option Nat} {s : State} (h : (Instr.hbmGo st failPc).wf = true) :
    exec (.hbmGo st failPc) s = .next (doGo st failPc s) := answer_ok h
theorem exec_hbCal {t : Nat} {v : Nat} {s : State} (h : (Instr.hbCal t v).wf = true) :
    exec (.hbCal t v) s = .next (doHbCal t v s) := answer_ok h
theorem exec_hbPaircls {q : Nat} {v : Nat} {s : State} (h : (Instr.hbPaircls q v).wf = true) :
    exec (.hbPaircls q v) s = .next (doHbPaircls q v s) := answer_ok h
theorem exec_timeTick {s : State} :
    exec .timeTick s = .next (doTimeTick s) := rfl
theorem exec_setTime {s : State} :
    exec .setTime s = .next (doSet s) := rfl
theorem exec_adjTime {s : State} :
    exec .adjTime s = .next (doAdj s) := rfl
theorem exec_incCommit {v : Word32} {s : State} :
    exec (.incCommit v) s = .next (doIncCommit v s) := rfl
theorem exec_tbSecLo {s : State} :
    exec .tbSecLo s = .next (doTbSecLo s) := rfl
theorem exec_refsrc {v : Word32} {s : State} :
    exec (.refsrc v) s = .next (doRefsrc v s) := rfl
theorem exec_ppsEdge {p : Nat} {high : Nat} {s : State} (h : (Instr.ppsEdge p high).wf = true) :
    exec (.ppsEdge p high) s = .next (doPpsInput p high s) := answer_ok h
theorem exec_syncMessage {q : Nat} {domain : Nat} {s : State} (h : (Instr.syncMessage q domain).wf = true) :
    exec (.syncMessage q domain) s = .next (doSyncMessage q domain s) := answer_ok h
theorem exec_referenceTimeout {s : State} :
    exec .referenceTimeout s = .next (doReferenceTimeout s) := rfl
theorem exec_launchGo {q : Nat} {s : State} (h : (Instr.launchGo q).wf = true) :
    exec (.launchGo q) s = .next (doLaunchGo q s) := answer_ok h
theorem exec_launchSend {q : Nat} {p : Nat} {s : State} (h : (Instr.launchSend q p).wf = true) :
    exec (.launchSend q p) s = .next (doLaunchFrame q p s) := answer_ok h
theorem exec_stns {q : Nat} {s : State} (h : (Instr.stns q).wf = true) :
    exec (.stns q) s = .next (doStns q s) := answer_ok h
theorem exec_timeFiring {g : Nat} {t : Nat} {s : State} (h : (Instr.timeFiring g t).wf = true) :
    exec (.timeFiring g t) s = .next (doTimeFiring g t s) := answer_ok h
theorem exec_azimuthFiring {g : Nat} {t : Nat} {s : State} (h : (Instr.azimuthFiring g t).wf = true) :
    exec (.azimuthFiring g t) s = .next (doAzimuthFiring g t s) := answer_ok h
theorem exec_lineFiring {g : Nat} {t : Nat} {s : State} (h : (Instr.lineFiring g t).wf = true) :
    exec (.lineFiring g t) s = .next (doLineFiring g t s) := answer_ok h
theorem exec_stripeFiring {g : Nat} {t : Nat} {s : State} (h : (Instr.stripeFiring g t).wf = true) :
    exec (.stripeFiring g t) s = .next (doStripeFiring g t s) := answer_ok h
theorem exec_predictFiring {g : Nat} {t : Nat} {s : State} (h : (Instr.predictFiring g t).wf = true) :
    exec (.predictFiring g t) s = .next (doPredictFiring g t s) := answer_ok h
theorem exec_fallback {g : Nat} {t : Nat} {s : State} (h : (Instr.fallback g t).wf = true) :
    exec (.fallback g t) s = .next (doFallback g t s) := answer_ok h
theorem exec_heldStepStart {c : Nat} {seq : Nat} {t : Nat} {s : State} (h : (Instr.heldStepStart c seq t).wf = true) :
    exec (.heldStepStart c seq t) s = .next (doHeldStepStart c seq t s) := answer_ok h
theorem exec_gaugeEnable {g : Nat} {v : Word32} {s : State} (h : (Instr.gaugeEnable g v).wf = true) :
    exec (.gaugeEnable g v) s = .next (doGaugeEnable g v s) := answer_ok h
theorem exec_tbCntclr {s : State} :
    exec .tbCntclr s = .next (doTbCntclr s) := rfl
theorem exec_lqCntclr {q : Nat} {s : State} (h : (Instr.lqCntclr q).wf = true) :
    exec (.lqCntclr q) s = .next (doLqCntclr q s) := answer_ok h
theorem exec_gaCntclr {g : Nat} {s : State} (h : (Instr.gaCntclr g).wf = true) :
    exec (.gaCntclr g) s = .next (doGaCntclr g s) := answer_ok h
theorem exec_flitReceive {p : Nat} {fec : Nat} {b : List Byte} {s : State} (h : (Instr.flitReceive p fec b).wf = true) :
    exec (.flitReceive p fec b) s = .next (doFlitReceive p fec b s) := answer_ok h
theorem exec_nak {p : Nat} {lack : Nat} {s : State} (h : (Instr.nak p lack).wf = true) :
    exec (.nak p lack) s = .next (doNak p lack s) := answer_ok h
theorem exec_portEnable {p : Nat} {v : Word32} {s : State} (h : (Instr.portEnable p v).wf = true) :
    exec (.portEnable p v) s = .next (doPortEnable p v s) := answer_ok h
theorem exec_byp {p : Nat} {on : Bool} {s : State} (h : (Instr.byp p on).wf = true) :
    exec (.byp p on) s = .next (doByp p on s) := answer_ok h
theorem exec_trainResult {p : Nat} {ok : Bool} {pid : Nat} {port : Nat} {s : State} (h : (Instr.trainResult p ok pid port).wf = true) :
    exec (.trainResult p ok pid port) s = .next (doTrainResult p ok pid port s) := answer_ok h
theorem exec_retrain {p : Nat} {s : State} (h : (Instr.retrain p).wf = true) :
    exec (.retrain p) s = .next (doRetrain p s) := answer_ok h
theorem exec_packetHop {s : State} :
    exec .packetHop s = .next (doPacketHop s) := rfl
theorem exec_writePacket {b : List Byte} {s : State} (h : (Instr.writePacket b).wf = true) :
    exec (.writePacket b) s = .next (doWritePacket b s) := answer_ok h
theorem exec_wack {b : List Byte} {s : State} (h : (Instr.wack b).wf = true) :
    exec (.wack b) s = .next (doWack b s) := answer_ok h
theorem exec_wnak {b : List Byte} {s : State} (h : (Instr.wnak b).wf = true) :
    exec (.wnak b) s = .next (doWnak b s) := answer_ok h
theorem exec_rtoExpiry {j : Nat} {p : Nat} {msg : Nat} {s : State} (h : (Instr.rtoExpiry j p msg).wf = true) :
    exec (.rtoExpiry j p msg) s = .next (doRtoExpiry j p msg s) := answer_ok h
theorem exec_wnakResend {j : Nat} {p : Nat} {msg : Nat} {s : State} (h : (Instr.wnakResend j p msg).wf = true) :
    exec (.wnakResend j p msg) s = .next (doWnakResend j p msg s) := answer_ok h
theorem exec_confirm {b : List Byte} {s : State} (h : (Instr.confirm b).wf = true) :
    exec (.confirm b) s = .next (doConfirm b s) := answer_ok h
theorem exec_retract {b : List Byte} {own : Option (Nat × Nat)} {s : State} (h : (Instr.retract b own).wf = true) :
    exec (.retract b own) s = .next (doRetract b own s) := answer_ok h
theorem exec_ownChecks {j : Nat} {s : State} (h : (Instr.ownChecks j).wf = true) :
    exec (.ownChecks j) s = .next (doOwnChecksAll j s) := answer_ok h
theorem exec_epochTimeout {j : Nat} {s : State} (h : (Instr.epochTimeout j).wf = true) :
    exec (.epochTimeout j) s = .next (doEpochTimeout j s) := answer_ok h
theorem exec_arm {j : Nat} {s : State} (h : (Instr.arm j).wf = true) :
    exec (.arm j) s = .next (doArm j s) := answer_ok h
theorem exec_jobAbort {j : Nat} {s : State} (h : (Instr.jobAbort j).wf = true) :
    exec (.jobAbort j) s = .next (doJobAbort j s) := answer_ok h
theorem exec_abortMessage {b : List Byte} {s : State} (h : (Instr.abortMessage b).wf = true) :
    exec (.abortMessage b) s = .next (doAbortMessage b s) := answer_ok h
theorem exec_quietExpiry {j : Nat} {s : State} (h : (Instr.quietExpiry j).wf = true) :
    exec (.quietExpiry j) s = .next (doQuietExpiry j s) := answer_ok h
theorem exec_vdCntclr {s : State} :
    exec .vdCntclr s = .next (doVdCntclr s) := rfl
theorem exec_vpCntclr {p : Nat} {s : State} (h : (Instr.vpCntclr p).wf = true) :
    exec (.vpCntclr p) s = .next (doVpCntclr p s) := answer_ok h
theorem exec_faultMessage {src : Nat} {ok : Bool} {raw : Option Word64} {s : State} (h : (Instr.faultMessage src ok raw).wf = true) :
    exec (.faultMessage src ok raw) s = .next (doFaultMessage src ok raw s) := answer_ok h
theorem exec_keepAlive {src : Nat} {s : State} (h : (Instr.keepAlive src).wf = true) :
    exec (.keepAlive src) s = .next (doKeepAlive src s) := answer_ok h
theorem exec_fcAck {v : Word32} {s : State} :
    exec (.fcAck v) s = .next (doFcAck v s) := rfl
theorem exec_ackDeadline {slot : Nat} {s : State} (h : (Instr.ackDeadline slot).wf = true) :
    exec (.ackDeadline slot) s = .next (doAckDeadline slot s) := answer_ok h
theorem exec_fcFence {unit : Nat} {s : State} (h : (Instr.fcFence unit).wf = true) :
    exec (.fcFence unit) s = .next (doFenceCmd unit s) := answer_ok h
theorem exec_returnToService {unit : Nat} {fails : List (Nat × Nat)} {s : State} (h : (Instr.returnToService unit fails).wf = true) :
    exec (.returnToService unit fails) s = .next (doReturnToService unit fails s) := answer_ok h
theorem exec_fcSev {off : Nat} {v : Word32} {s : State} (h : (Instr.fcSev off v).wf = true) :
    exec (.fcSev off v) s = .next (doFcSev off v s) := answer_ok h
theorem exec_pinthWrite {v : Word32} {s : State} :
    exec (.pinthWrite v) s = .next (doPinthWrite v s) := rfl
theorem exec_towpathReport {s : State} :
    exec .towpathReport s = .next (doTowpathReport s) := rfl
theorem exec_historyWrite {s : State} :
    exec .historyWrite s = .next (doHistoryWrite s) := rfl
theorem exec_operatingHours {s : State} :
    exec .operatingHours s = .next (doOperatingHours s) := rfl
theorem exec_release {o : Nat} {s : State} (h : (Instr.release o).wf = true) :
    exec (.release o) s = .next (doRelease o s) := answer_ok h
theorem exec_releaseDeadline {o : Nat} {s : State} (h : (Instr.releaseDeadline o).wf = true) :
    exec (.releaseDeadline o) s = .next (doReleaseDeadline o s) := answer_ok h
theorem exec_safetyRequest {src : Nat} {kind : Nat} {s : State} (h : (Instr.safetyRequest src kind).wf = true) :
    exec (.safetyRequest src kind) s = .next (doSafetyRequest src kind s) := answer_ok h
theorem exec_pinMonitor {beat : Bool} {aHigh : Bool} {s : State} :
    exec (.pinMonitor beat aHigh) s = .next (doPinMonitor beat aHigh s) := rfl
theorem exec_safePin {a : Bool} {b : Bool} {s : State} :
    exec (.safePin a b) s = .next (doSafePin a b s) := rfl
theorem exec_ksGo {s : State} :
    exec .ksGo s = .next (doKsGo s) := rfl
theorem exec_ksClear {s : State} :
    exec .ksClear s = .next (doKsClear s) := rfl
theorem exec_ksEnter {s : State} :
    exec .ksEnter s = .next (doKsEnter s) := rfl
theorem exec_outputEnable {o : Nat} {v : Word32} {s : State} (h : (Instr.outputEnable o v).wf = true) :
    exec (.outputEnable o v) s = .next (doOutputEnable o v s) := answer_ok h
theorem exec_footbridgeRun {s : State} :
    exec .footbridgeRun s = .next (doFootbridgeRun s) := rfl
theorem exec_footbridgeRunEnd {s : State} :
    exec .footbridgeRunEnd s = .next (doFootbridgeRunEnd s) := rfl
theorem exec_fbFault {why : Nat} {s : State} (h : (Instr.fbFault why).wf = true) :
    exec (.fbFault why) s = .next (doFbFault why s) := answer_ok h
theorem exec_knownAnswerRun {pass : Bool} {s : State} :
    exec (.knownAnswerRun pass) s = .next (doKnownAnswerRun pass s) := rfl
theorem exec_selectFallingEdge {mode : Nat} {s : State} (h : (Instr.selectFallingEdge mode).wf = true) :
    exec (.selectFallingEdge mode) s = .next (doSelectFallingEdge mode s) := answer_ok h
theorem exec_selectRelease {n : Nat} {ws : List Nat} {s : State} (h : (Instr.selectRelease n ws).wf = true) :
    exec (.selectRelease n ws) s = .next (doSelectRelease n ws s) := answer_ok h
theorem exec_selectTimeout {n : Nat} {s : State} :
    exec (.selectTimeout n) s = .next (doSelectTimeout n s) := rfl
theorem exec_sspiNop {s : State} :
    exec .sspiNop s = .next (doSspiNop s) := rfl
theorem exec_alive {v : BitVec 16} {s : State} :
    exec (.alive v) s = .next (doAlive v s) := rfl
theorem exec_reqsafe {s : State} :
    exec .reqsafe s = .next (doReqsafe s) := rfl
theorem exec_spiHeartbeatTimeout {s : State} :
    exec .spiHeartbeatTimeout s = .next (doSpiHeartbeatTimeout s) := rfl
theorem exec_ssCntclr {s : State} :
    exec .ssCntclr s = .next (doSsCntclr s) := rfl
theorem exec_selftestSlot {d : Nat} {s : State} (h : (Instr.selftestSlot d).wf = true) :
    exec (.selftestSlot d) s = .next (doSelftestSlot d s) := answer_ok h
theorem exec_selftestComplete {d : Nat} {phase : Nat} {s : State} (h : (Instr.selftestComplete d phase).wf = true) :
    exec (.selftestComplete d phase) s = .next (doSelftestComplete d phase s) := answer_ok h
theorem exec_selftestOverdue {c : Nat} {s : State} (h : (Instr.selftestOverdue c).wf = true) :
    exec (.selftestOverdue c) s = .next (doSelftestOverdue c s) := answer_ok h
theorem exec_cmdTimeout {row : Nat} {unit : Nat} {addr : Nat} {pull : Option (Nat × Nat × Nat × Nat)} {s : State} (h : (Instr.cmdTimeout row unit addr pull).wf = true) :
    exec (.cmdTimeout row unit addr pull) s = .next (doCmdTimeout row unit addr pull s) := answer_ok h
theorem exec_clusterReset {c : Nat} {s : State} (h : (Instr.clusterReset c).wf = true) :
    exec (.clusterReset c) s = .next (doClusterReset c s) := answer_ok h
theorem exec_regionReset {r : Nat} {s : State} (h : (Instr.regionReset r).wf = true) :
    exec (.regionReset r) s = .next (doRegionReset r s) := answer_ok h
theorem exec_dieReset {d : Nat} {s : State} (h : (Instr.dieReset d).wf = true) :
    exec (.dieReset d) s = .next (doDieReset d s) := answer_ok h
theorem exec_hubSubblockReset {unit : Nat} {s : State} (h : (Instr.hubSubblockReset unit).wf = true) :
    exec (.hubSubblockReset unit) s = .next (doHubReset unit s) := answer_ok h
theorem exec_resetEscalation {unit : Nat} {s : State} (h : (Instr.resetEscalation unit).wf = true) :
    exec (.resetEscalation unit) s = .next (doResetEscalation unit s) := answer_ok h
theorem exec_packageHalt {s : State} :
    exec .packageHalt s = .next (doPackageHalt s) := rfl
theorem exec_packageReset {b : BootInfo} {s : State} :
    exec (.packageReset b) s = .next (doPackageReset b s) := rfl
theorem exec_pkgRstN {us : Nat} {s : State} :
    exec (.pkgRstN us) s = .next (doPkgRstN us s) := rfl
theorem exec_rcCluster {key : Nat} {unit : Nat} {s : State} (h : (Instr.rcCluster key unit).wf = true) :
    exec (.rcCluster key unit) s = .next (doRcCluster key unit s) := answer_ok h
theorem exec_rcRegion {key : Nat} {unit : Nat} {s : State} (h : (Instr.rcRegion key unit).wf = true) :
    exec (.rcRegion key unit) s = .next (doRcRegion key unit s) := answer_ok h
theorem exec_rcDie {key : Nat} {unit : Nat} {s : State} (h : (Instr.rcDie key unit).wf = true) :
    exec (.rcDie key unit) s = .next (doRcDie key unit s) := answer_ok h
theorem exec_rcHub {key : Nat} {unit : Nat} {s : State} (h : (Instr.rcHub key unit).wf = true) :
    exec (.rcHub key unit) s = .next (doRcHub key unit s) := answer_ok h
theorem exec_rcPackage {key : Nat} {s : State} (h : (Instr.rcPackage key).wf = true) :
    exec (.rcPackage key) s = .next (doRcPackage key s) := answer_ok h
theorem exec_rcDump {key : Nat} {s : State} (h : (Instr.rcDump key).wf = true) :
    exec (.rcDump key) s = .next (doRcDump key s) := answer_ok h
theorem exec_reExecution {c : Nat} {seq : Nat} {t : Nat} {s : State} (h : (Instr.reExecution c seq t).wf = true) :
    exec (.reExecution c seq t) s = .next (doReExecution c seq t s) := answer_ok h
theorem exec_lockstep {u : Nat} {s : State} (h : (Instr.lockstep u).wf = true) :
    exec (.lockstep u) s = .next (doLockstep u s) := answer_ok h
theorem exec_mgKick {q : Nat} {v : Word32} {s : State} (h : (Instr.mgKick q v).wf = true) :
    exec (.mgKick q v) s = .next (doMgKick q v s) := answer_ok h
theorem exec_pairWatchdog {q : Nat} {s : State} (h : (Instr.pairWatchdog q).wf = true) :
    exec (.pairWatchdog q) s = .next (doPairWatchdog q s) := answer_ok h
theorem exec_pairResetEnd {q : Nat} {s : State} (h : (Instr.pairResetEnd q).wf = true) :
    exec (.pairResetEnd q) s = .next (doPairResetEnd q s) := answer_ok h
theorem exec_pairTestEnd {q : Nat} {pass : Bool} {s : State} (h : (Instr.pairTestEnd q pass).wf = true) :
    exec (.pairTestEnd q pass) s = .next (doPairTestEnd q pass s) := answer_ok h
theorem exec_mgtWdog {s : State} :
    exec .mgtWdog s = .next (doMgtWdog s) := rfl
theorem exec_mwdrstReset {s : State} :
    exec .mwdrstReset s = .next (doMwdrstReset s) := rfl
theorem exec_shedWindow {b0 : Nat} {b1 : Nat} {s : State} (h : (Instr.shedWindow b0 b1).wf = true) :
    exec (.shedWindow b0 b1) s = .next (doShedWindow b0 b1 s) := answer_ok h
theorem exec_telemetry {s : State} :
    exec .telemetry s = .next (doTelemetry s) := rfl
theorem exec_spanref {list : Option (List (Nat × Nat × Nat × Nat))} {s : State} :
    exec (.spanref list) s = .next (doSpanref list s) := rfl
theorem exec_dumpmove {s : State} :
    exec .dumpmove s = .next (doDumpmove s) := rfl
theorem exec_read {mac : Nat} {p : List Byte} {s : State} (h : (Instr.read mac p).wf = true) :
    exec (.read mac p) s = .next (doRead mac p s) := answer_ok h
theorem exec_attest {mac : Nat} {p : List Byte} {s : State} (h : (Instr.attest mac p).wf = true) :
    exec (.attest mac p) s = .next (doAttest mac p s) := answer_ok h
theorem exec_cert {mac : Nat} {p : List Byte} {s : State} (h : (Instr.cert mac p).wf = true) :
    exec (.cert mac p) s = .next (doCert mac p s) := answer_ok h
theorem exec_challenge {mac : Nat} {p : List Byte} {s : State} (h : (Instr.challenge mac p).wf = true) :
    exec (.challenge mac p) s = .next (doChallenge mac p s) := answer_ok h
theorem exec_write {mac : Nat} {p : List Byte} {s : State} (h : (Instr.write mac p).wf = true) :
    exec (.write mac p) s = .next (doWrite mac p s) := answer_ok h
theorem exec_ack {mac : Nat} {p : List Byte} {s : State} (h : (Instr.ack mac p).wf = true) :
    exec (.ack mac p) s = .next (doAck mac p s) := answer_ok h
theorem exec_towpathReset {mac : Nat} {p : List Byte} {s : State} (h : (Instr.towpathReset mac p).wf = true) :
    exec (.towpathReset mac p) s = .next (doTowpathReset mac p s) := answer_ok h
theorem exec_cfgwrite {mac : Nat} {p : List Byte} {s : State} (h : (Instr.cfgwrite mac p).wf = true) :
    exec (.cfgwrite mac p) s = .next (doCfgwrite mac p s) := answer_ok h
theorem exec_dumpread {mac : Nat} {p : List Byte} {s : State} (h : (Instr.dumpread mac p).wf = true) :
    exec (.dumpread mac p) s = .next (doDumpread mac p s) := answer_ok h
theorem exec_fwchunk {mac : Nat} {p : List Byte} {s : State} (h : (Instr.fwchunk mac p).wf = true) :
    exec (.fwchunk mac p) s = .next (doFwchunk mac p s) := answer_ok h
theorem exec_fwcommit {mac : Nat} {p : List Byte} {pass : Bool} {s : State} (h : (Instr.fwcommit mac p pass).wf = true) :
    exec (.fwcommit mac p pass) s = .next (doFwcommit mac p pass s) := answer_ok h
theorem exec_svnbump {mac : Nat} {p : List Byte} {s : State} (h : (Instr.svnbump mac p).wf = true) :
    exec (.svnbump mac p) s = .next (doSvnbump mac p s) := answer_ok h
theorem exec_histclear {mac : Nat} {p : List Byte} {s : State} (h : (Instr.histclear mac p).wf = true) :
    exec (.histclear mac p) s = .next (doHistclear mac p s) := answer_ok h
theorem exec_ownerkey {mac : Nat} {p : List Byte} {s : State} (h : (Instr.ownerkey mac p).wf = true) :
    exec (.ownerkey mac p) s = .next (doOwnerkey mac p s) := answer_ok h
theorem exec_mbGo {v : Word32} {s : State} :
    exec (.mbGo v) s = .next (doMbGo v s) := rfl
theorem exec_twCntclr {s : State} :
    exec .twCntclr s = .next (doTwCntclr s) := rfl
theorem exec_pwOpreq {d : Nat} {v : Word32} {s : State} (h : (Instr.pwOpreq d v).wf = true) :
    exec (.pwOpreq d v) s = .next (doPwOpreq d v s) := answer_ok h
theorem exec_opPointChange {d : Nat} {s : State} (h : (Instr.opPointChange d).wf = true) :
    exec (.opPointChange d) s = .next (doOpPointChange d s) := answer_ok h
theorem exec_opRequestTimeout {d : Nat} {s : State} (h : (Instr.opRequestTimeout d).wf = true) :
    exec (.opRequestTimeout d) s = .next (doOpRequestTimeout d s) := answer_ok h
theorem exec_powerUp {bulk : Nat} {input : Nat} {s : State} :
    exec (.powerUp bulk input) s = .next (doPowerUp bulk input s) := rfl
theorem exec_chargeTimeout {s : State} :
    exec .chargeTimeout s = .next (doChargeTimeout s) := rfl
theorem exec_vinUv {v : Nat} {s : State} (h : (Instr.vinUv v).wf = true) :
    exec (.vinUv v) s = .next (doVinUv v s) := answer_ok h
theorem exec_vinUvClear {v : Nat} {s : State} (h : (Instr.vinUvClear v).wf = true) :
    exec (.vinUvClear v) s = .next (doVinUvClear v s) := answer_ok h
theorem exec_powerFail {v : Nat} {s : State} (h : (Instr.powerFail v).wf = true) :
    exec (.powerFail v) s = .next (doPowerFail v s) := answer_ok h
theorem exec_vinOv {v : Nat} {s : State} (h : (Instr.vinOv v).wf = true) :
    exec (.vinOv v) s = .next (doVinOv v s) := answer_ok h
theorem exec_disconnect {v : Nat} {s : State} (h : (Instr.disconnect v).wf = true) :
    exec (.disconnect v) s = .next (doDisconnect v s) := answer_ok h
theorem exec_stretchWindow {x : PowerSample} {s : State} :
    exec (.stretchWindow x) s = .next (doStretchWindow x s) := rfl
theorem exec_pointLowering {d : Nat} {s : State} (h : (Instr.pointLowering d).wf = true) :
    exec (.pointLowering d) s = .next (doPointLowering d s) := answer_ok h
theorem exec_dieHot {d : Nat} {n : Nat} {temp : Int} {s : State} (h : (Instr.dieHot d n temp).wf = true) :
    exec (.dieHot d n temp) s = .next (doDieHot d n temp s) := answer_ok h
theorem exec_dieHotClear {d : Nat} {n : Nat} {temp : Int} {s : State} (h : (Instr.dieHotClear d n temp).wf = true) :
    exec (.dieHotClear d n temp) s = .next (doDieHotClear d n temp s) := answer_ok h
theorem exec_dieOvertemp {d : Nat} {n : Nat} {temp : Int} {s : State} (h : (Instr.dieOvertemp d n temp).wf = true) :
    exec (.dieOvertemp d n temp) s = .next (doDieOvertemp d n temp s) := answer_ok h
theorem exec_standbyEntry {s : State} :
    exec .standbyEntry s = .next (doStandbyEntry s) := rfl
theorem exec_standbyExit {s : State} :
    exec .standbyExit s = .next (doStandbyExit s) := rfl
theorem exec_regionGating {r : Nat} {s : State} (h : (Instr.regionGating r).wf = true) :
    exec (.regionGating r) s = .next (doRegionGating r s) := answer_ok h
theorem exec_clkMon {m : Nat} {count : Nat} {ok : Bool} {lost : Bool} {s : State} (h : (Instr.clkMon m count ok lost).wf = true) :
    exec (.clkMon m count ok lost) s = .next (doClkMon m count ok lost s) := answer_ok h
theorem exec_oscFail {n : Nat} {ppm : Int} {s : State} (h : (Instr.oscFail n ppm).wf = true) :
    exec (.oscFail n ppm) s = .next (doOscFail n ppm s) := answer_ok h
theorem exec_clkOsc {v : Word32} {s : State} :
    exec (.clkOsc v) s = .next (doClkOsc v s) := rfl
theorem exec_vrFault {d : Nat} {rail : Nat} {s : State} (h : (Instr.vrFault d rail).wf = true) :
    exec (.vrFault d rail) s = .next (doVrFault d rail s) := answer_ok h
theorem exec_fmapRead {k : Nat} {s : State} (h : (Instr.fmapRead k).wf = true) :
    exec (.fmapRead k) s = .next (doFmapRead k s) := answer_ok h
theorem exec_registerWrite {off : Nat} {v : Word32} {whole : Bool} {s : State} (h : (Instr.registerWrite off v whole).wf = true) :
    exec (.registerWrite off v whole) s = .next (doRegisterWrite off v whole s) := answer_ok h

end Sys2Proof.Machine
end

