-- ==== Sys2Proof/Laws/Sound.lean ====
section
/-! SUPPORT. What no operation of the module breaks: the queue and the clock stand, free values are drawn in order, and the
memories and their marks keep their canonical form. -/

namespace Sys2Proof.Machine

/-- What every operation of a command keeps, from a state `b` to a state `t`. -/
structure Sound (b t : State) : Prop where
  queue : t.pending = b.pending
  clock : t.ticks = b.ticks
  fresh : b.freeCount ≤ t.freeCount
  memory : Memory.wf b.mem = true → Memory.wf t.mem = true
  marks : Marks.wf b.marks = true → Marks.wf t.marks = true

/-- `Sound` of the state that an operation hands back with other results. -/
def Sound2 {α : Type} (b : State) (p : α × State) : Prop := Sound b p.2
def Sound3 {α β : Type} (b : State) (p : α × β × State) : Prop := Sound b p.2.2
def Sound4 {α β γ : Type} (b : State) (p : α × β × γ × State) : Prop := Sound b p.2.2.2
def SoundL {α : Type} (b : State) (p : State × α) : Prop := Sound b p.1
def SoundO1 {α : Type} (b : State) (o : Option (α × State)) : Prop := ∀ p, o = some p → Sound b p.2
def SoundO2 {α β : Type} (b : State) (o : Option (α × β × State)) : Prop := ∀ p, o = some p → Sound b p.2.2

theorem Sound.refl (b : State) : Sound b b := ⟨rfl, rfl, Nat.le_refl _, id, id⟩

theorem Sound.trans {a b c : State} (h : Sound a b) (k : Sound b c) : Sound a c :=
  ⟨k.queue.trans h.queue, k.clock.trans h.clock, Nat.le_trans h.fresh k.fresh, fun x => k.memory (h.memory x),
    fun x => k.marks (h.marks x)⟩

/-- A change of other fields. -/
theorem Sound.same {b s t : State} (h : Sound b s) (hp : t.pending = s.pending) (ht : t.ticks = s.ticks)
    (hf : t.freeCount = s.freeCount) (hm : t.mem = s.mem) (hk : t.marks = s.marks) : Sound b t :=
  ⟨hp.trans h.queue, ht.trans h.clock, hf ▸ h.fresh, fun x => hm ▸ h.memory x, fun x => hk ▸ h.marks x⟩

/-- A change of other fields for which free values were drawn. -/
theorem Sound.drawn {b s t : State} (h : Sound b s) (hp : t.pending = s.pending) (ht : t.ticks = s.ticks)
    (hf : s.freeCount ≤ t.freeCount) (hm : t.mem = s.mem) (hk : t.marks = s.marks) : Sound b t :=
  ⟨hp.trans h.queue, ht.trans h.clock, Nat.le_trans h.fresh hf, fun x => hm ▸ h.memory x, fun x => hk ▸ h.marks x⟩

theorem Sound.ite {p : Prop} {_ : Decidable p} {b x y : State} (hx : p → Sound b x) (hy : ¬p → Sound b y) :
    Sound b (ite p x y) := by
  split
  · exact hx ‹_›
  · exact hy ‹_›

theorem Sound2.ite {α : Type} {p : Prop} {_ : Decidable p} {b : State} {x y : α × State} (hx : p → Sound2 b x)
    (hy : ¬p → Sound2 b y) : Sound2 b (ite p x y) := by
  split
  · exact hx ‹_›
  · exact hy ‹_›

theorem Sound3.ite {α β : Type} {p : Prop} {_ : Decidable p} {b : State} {x y : α × β × State} (hx : p → Sound3 b x)
    (hy : ¬p → Sound3 b y) : Sound3 b (ite p x y) := by
  split
  · exact hx ‹_›
  · exact hy ‹_›

theorem Sound4.ite {α β γ : Type} {p : Prop} {_ : Decidable p} {b : State} {x y : α × β × γ × State} (hx : p → Sound4 b x)
    (hy : ¬p → Sound4 b y) : Sound4 b (ite p x y) := by
  split
  · exact hx ‹_›
  · exact hy ‹_›

theorem SoundO1.ite {α : Type} {p : Prop} {_ : Decidable p} {b : State} {x y : Option (α × State)} (hx : p → SoundO1 b x)
    (hy : ¬p → SoundO1 b y) : SoundO1 b (ite p x y) := by
  split
  · exact hx ‹_›
  · exact hy ‹_›

theorem SoundO2.ite {α β : Type} {p : Prop} {_ : Decidable p} {b : State} {x y : Option (α × β × State)}
    (hx : p → SoundO2 b x) (hy : ¬p → SoundO2 b y) : SoundO2 b (ite p x y) := by
  split
  · exact hx ‹_›
  · exact hy ‹_›

theorem Sound2.mk {α : Type} {b s : State} {a : α} (h : Sound b s) : Sound2 b (a, s) := h
theorem Sound3.mk {α β : Type} {b s : State} {a : α} {c : β} (h : Sound b s) : Sound3 b (a, c, s) := h
theorem Sound4.mk {α β γ : Type} {b s : State} {a : α} {c : β} {d : γ} (h : Sound b s) : Sound4 b (a, c, d, s) := h
theorem SoundL.mk {α : Type} {b s : State} {a : α} (h : Sound b s) : SoundL b (s, a) := h
theorem SoundO1.none {α : Type} {b : State} : SoundO1 b (none : Option (α × State)) := fun _ h => nomatch h
theorem SoundO2.none {α β : Type} {b : State} : SoundO2 b (none : Option (α × β × State)) := fun _ h => nomatch h
theorem SoundO1.mk {α : Type} {b s : State} {a : α} (h : Sound b s) : SoundO1 b (some (a, s)) := by
  intro p e
  cases e
  exact h
theorem SoundO2.mk {α β : Type} {b s : State} {a : α} {c : β} (h : Sound b s) : SoundO2 b (some (a, c, s)) := by
  intro p e
  cases e
  exact h

theorem Sound2.of {α : Type} {b s : State} {p : α × State} {a : α} (e : p = (a, s)) (h : Sound2 b p) : Sound b s := by
  subst e
  exact h
theorem Sound3.of {α β : Type} {b s : State} {p : α × β × State} {a : α} {c : β} (e : p = (a, c, s)) (h : Sound3 b p) :
    Sound b s := by
  subst e
  exact h
theorem Sound4.of {α β γ : Type} {b s : State} {p : α × β × γ × State} {a : α} {c : β} {d : γ} (e : p = (a, c, d, s))
    (h : Sound4 b p) : Sound b s := by
  subst e
  exact h
theorem SoundL.of {α : Type} {b s : State} {p : State × α} {a : α} (e : p = (s, a)) (h : SoundL b p) : Sound b s := by
  subst e
  exact h
theorem SoundO1.of {α : Type} {b s : State} {p : Option (α × State)} {a : α} (e : p = some (a, s)) (h : SoundO1 b p) :
    Sound b s := h _ e
theorem SoundO2.of {α β : Type} {b s : State} {p : Option (α × β × State)} {a : α} {c : β} (e : p = some (a, c, s))
    (h : SoundO2 b p) : Sound b s := h _ e

theorem Sound2.snd {α : Type} {b : State} {p : α × State} (h : Sound2 b p) : Sound b p.2 := h
theorem Sound3.snd {α β : Type} {b : State} {p : α × β × State} (h : Sound3 b p) : Sound b p.2.2 := h
theorem Sound4.snd {α β γ : Type} {b : State} {p : α × β × γ × State} (h : Sound4 b p) : Sound b p.2.2.2 := h
theorem SoundL.fst {α : Type} {b : State} {p : State × α} (h : SoundL b p) : Sound b p.1 := h

theorem SoundO1.map {α β : Type} {b : State} {f : α × State → β × State} {o : Option (α × State)}
    (hf : ∀ p, Sound2 b p → Sound2 b (f p)) (h : SoundO1 b o) : SoundO1 b (o.map f) := by
  intro p e
  cases o with
  | none => cases e
  | some x =>
    cases e
    exact hf x (h x rfl)

theorem Sound.foldl {α : Type} {b : State} {f : State → α → State} (l : List α) (hf : ∀ s x, Sound b s → Sound b (f s x)) :
    ∀ s, Sound b s → Sound b (l.foldl f s) := by
  induction l with
  | nil => exact fun s h => h
  | cons x l ih => exact fun s h => ih _ (hf s x h)

theorem Sound2.foldl {α β : Type} {b : State} {f : β × State → α → β × State} (l : List α)
    (hf : ∀ p x, Sound2 b p → Sound2 b (f p x)) : ∀ p, Sound2 b p → Sound2 b (l.foldl f p) := by
  induction l with
  | nil => exact fun p h => h
  | cons x l ih => exact fun p h => ih _ (hf p x h)

theorem Sound3.foldl {α β γ : Type} {b : State} {f : β × γ × State → α → β × γ × State} (l : List α)
    (hf : ∀ p x, Sound3 b p → Sound3 b (f p x)) : ∀ p, Sound3 b p → Sound3 b (l.foldl f p) := by
  induction l with
  | nil => exact fun p h => h
  | cons x l ih => exact fun p h => ih _ (hf p x h)

theorem Sound4.foldl {α β γ δ : Type} {b : State} {f : β × γ × δ × State → α → β × γ × δ × State} (l : List α)
    (hf : ∀ p x, Sound4 b p → Sound4 b (f p x)) : ∀ p, Sound4 b p → Sound4 b (l.foldl f p) := by
  induction l with
  | nil => exact fun p h => h
  | cons x l ih => exact fun p h => ih _ (hf p x h)

end Sys2Proof.Machine
end

