-- ==== Sys2Proof/Laws/Memory.lean ====
section
/-! SUPPORT. Tables and memories: what a read after a write gives, and that every write keeps the canonical form. -/

namespace Sys2Proof.Machine

variable {α : Type}

/-! ### Row lists -/

/-- A row list whose indexes rise strictly, as a proposition. -/
def Rises (l : List (Nat × α)) : Prop := l.Pairwise (fun a b => a.1 < b.1)

theorem rising_iff (l : List (Nat × α)) : rising l = true ↔ Rises l := by
  induction l with
  | nil => simp [rising, Rises]
  | cons x r ih =>
    cases r with
    | nil => simp [rising, Rises]
    | cons y r =>
      simp only [rising, Bool.and_eq_true, decide_eq_true_eq, ih]
      constructor
      · rintro ⟨h, k⟩
        refine List.pairwise_cons.2 ⟨fun e he => ?_, k⟩
        rcases List.mem_cons.1 he with rfl | he
        · exact h
        · exact Nat.lt_trans h ((List.pairwise_cons.1 k).1 e he)
      · intro h
        exact ⟨(List.pairwise_cons.1 h).1 y List.mem_cons_self, (List.pairwise_cons.1 h).2⟩

theorem mem_insertAt {l : List (Nat × α)} {k : Nat} {v : α} {e : Nat × α} (h : e ∈ insertAt l k v) :
    e = (k, v) ∨ e ∈ l := by
  induction l with
  | nil => simpa [insertAt] using h
  | cons x r ih =>
    unfold insertAt at h
    split at h
    · simpa using h
    · split at h
      · rcases List.mem_cons.1 h with h | h
        · exact .inl h
        · exact .inr (List.mem_cons_of_mem _ h)
      · rcases List.mem_cons.1 h with h | h
        · exact .inr (h ▸ List.mem_cons_self)
        · exact (ih h).imp id (List.mem_cons_of_mem _)

theorem Rises.insertAt {l : List (Nat × α)} (h : Rises l) (k : Nat) (v : α) : Rises (insertAt l k v) := by
  induction l with
  | nil => simp [Machine.insertAt, Rises]
  | cons x r ih =>
    have hx := (List.pairwise_cons.1 h).1
    have hr := (List.pairwise_cons.1 h).2
    unfold Machine.insertAt
    split
    · rename_i hk
      refine List.pairwise_cons.2 ⟨fun e he => ?_, h⟩
      rcases List.mem_cons.1 he with rfl | he
      · exact hk
      · exact Nat.lt_trans hk (hx e he)
    · rename_i hk
      split
      · rename_i he
        refine List.pairwise_cons.2 ⟨fun e h => ?_, hr⟩
        have := hx e h
        simp only at *
        omega
      · refine List.pairwise_cons.2 ⟨fun e he => ?_, ih hr⟩
        rcases mem_insertAt he with rfl | he
        · simp only at *
          omega
        · exact hx e he

theorem Rises.filter {l : List (Nat × α)} (h : Rises l) (p : Nat × α → Bool) : Rises (l.filter p) :=
  List.Pairwise.filter p h

/-- What an index holds after another or the same was written. -/
theorem lookup_insertAt (l : List (Nat × α)) (k j : Nat) (v : α) :
    lookup (insertAt l k v) j = if k = j then some v else lookup l j := by
  induction l with
  | nil => simp [insertAt, lookup]
  | cons x r ih =>
    obtain ⟨a, w⟩ := x
    unfold insertAt
    split
    · simp only [lookup]
    · split
      · rename_i h
        subst h
        simp only [lookup]
        split <;> rfl
      · simp only [lookup, ih]
        split
        · split
          · omega
          · rfl
        · rfl

theorem Table.get_set (t : Table α) (k j : Nat) (v d : α) : (t.set k v).get j d = if k = j then v else t.get j d := by
  unfold Table.get Table.set
  rw [lookup_insertAt]
  split <;> rfl

@[simp] theorem Table.get_set_same (t : Table α) (k : Nat) (v d : α) : (t.set k v).get k d = v := by
  rw [Table.get_set, if_pos rfl]

theorem lookup_filter_ne (l : List (Nat × α)) (k j : Nat) :
    lookup (l.filter (fun e => e.1 ≠ k)) j = if k = j then none else lookup l j := by
  induction l with
  | nil => simp [lookup]
  | cons x r ih =>
    obtain ⟨a, w⟩ := x
    by_cases h : a = k
    · subst h
      rw [List.filter_cons_of_neg (by simp), ih]
      simp only [lookup]
      split <;> rfl
    · rw [List.filter_cons_of_pos (by simpa using h)]
      simp only [lookup, ih]
      split
      · split
        · omega
        · rfl
      · rfl

/-! ### Memories -/

theorem memory_wf_iff (m : List Host.Cell) : Memory.wf m = true ↔ Rises m ∧ ∀ e ∈ m, e.2 ≠ memDefault := by
  unfold Memory.wf
  rw [Bool.and_eq_true, rising_iff, List.all_eq_true]
  simp

theorem marks_wf_iff (t : Table Gran) : Marks.wf t = true ↔ Rises t.rows ∧ ∀ e ∈ t.rows, e.2 ≠ .clean := by
  unfold Marks.wf
  rw [Bool.and_eq_true, rising_iff, List.all_eq_true]
  simp

/-- A byte reads as it was written, and every other byte as before. -/
theorem memRead_memWrite (m : List Host.Cell) (a x : Nat) (b : Byte) :
    memRead (memWrite m a b) x = if a = x then b else memRead m x := by
  unfold memRead memWrite
  split
  · rename_i h
    rw [lookup_filter_ne]
    split
    · exact h.symm
    · rfl
  · rw [lookup_insertAt]
    split <;> rfl

theorem memory_wf_filter {m : List Host.Cell} (h : Memory.wf m = true) (p : Host.Cell → Bool) :
    Memory.wf (m.filter p) = true := by
  rw [memory_wf_iff] at *
  exact ⟨h.1.filter p, fun e he => h.2 e (List.mem_filter.1 he).1⟩

/-- Writing a byte keeps the canonical form. -/
theorem memory_wf_write {m : List Host.Cell} (h : Memory.wf m = true) (a : Nat) (b : Byte) :
    Memory.wf (memWrite m a b) = true := by
  unfold memWrite
  split
  · exact memory_wf_filter h _
  · rename_i hb
    rw [memory_wf_iff] at *
    refine ⟨h.1.insertAt a b, fun e he => ?_⟩
    rcases mem_insertAt he with rfl | he
    · exact hb
    · exact h.2 e he

theorem memory_wf_writes {m : List Host.Cell} (h : Memory.wf m = true) (a : Nat) (bs : List Byte) :
    Memory.wf (memWrites m a bs) = true := by
  induction bs generalizing m a with
  | nil => exact h
  | cons b r ih => exact ih (memory_wf_write h a b) (a + 1)

/-- A byte after a run of bytes was written. -/
theorem memRead_memWrites (m : List Host.Cell) (a x : Nat) (bs : List Byte) :
    memRead (memWrites m a bs) x = if a ≤ x ∧ x < a + bs.length then bs.getD (x - a) memDefault else memRead m x := by
  induction bs generalizing m a with
  | nil =>
    rw [if_neg (by simp)]
    rfl
  | cons b r ih =>
    simp only [memWrites, ih, memRead_memWrite, List.length_cons]
    by_cases h : a = x
    · subst h
      rw [if_neg (by omega), if_pos rfl, if_pos (by omega)]
      simp
    · rw [if_neg h]
      by_cases k : a + 1 ≤ x ∧ x < a + 1 + r.length
      · rw [if_pos k, if_pos (by omega), show x - a = (x - (a + 1)) + 1 by omega]
        simp
      · rw [if_neg k, if_neg (by omega)]

theorem rises_append {l r : List (Nat × α)} (hl : Rises l) (hr : Rises r) (h : ∀ x ∈ l, ∀ y ∈ r, x.1 < y.1) :
    Rises (l ++ r) := List.pairwise_append.2 ⟨hl, hr, h⟩

theorem rises_move {m : List (Nat × α)} (h : Rises m) (a b n : Nat) :
    Rises (m.filter (fun e => decide (e.1 < b))
      ++ (m.filter (fun e => decide (a ≤ e.1) && decide (e.1 < a + n))).map (fun e => (e.1 - a + b, e.2))
      ++ m.filter (fun e => decide (b + n ≤ e.1))) := by
  refine rises_append (rises_append (h.filter _) ?_ ?_) (h.filter _) ?_
  · refine List.pairwise_map.2 ((h.filter _).imp_of_mem ?_)
    intro x y hx hy hxy
    simp only [List.mem_filter, Bool.and_eq_true, decide_eq_true_eq] at hx hy
    simp only
    omega
  · intro x hx y hy
    simp only [List.mem_filter, List.mem_map, decide_eq_true_eq, Bool.and_eq_true] at hx hy
    obtain ⟨e, he, rfl⟩ := hy
    simp only
    omega
  · intro x hx y hy
    simp only [List.mem_append, List.mem_filter, List.mem_map, decide_eq_true_eq, Bool.and_eq_true] at hx hy
    rcases hx with hx | ⟨e, he, rfl⟩
    · omega
    · simp only
      omega

theorem mem_move {m : List (Nat × α)} {a b n : Nat} {e : Nat × α} (h : e ∈ m.filter (fun e => decide (e.1 < b))
      ++ (m.filter (fun e => decide (a ≤ e.1) && decide (e.1 < a + n))).map (fun e => (e.1 - a + b, e.2))
      ++ m.filter (fun e => decide (b + n ≤ e.1))) : ∃ x ∈ m, x.2 = e.2 := by
  simp only [List.mem_append, List.mem_filter, List.mem_map] at h
  rcases h with (h | ⟨x, hx, rfl⟩) | h
  · exact ⟨e, h.1, rfl⟩
  · exact ⟨x, hx.1, rfl⟩
  · exact ⟨e, h.1, rfl⟩

theorem memory_wf_move {m : List Host.Cell} (h : Memory.wf m = true) (a b n : Nat) :
    Memory.wf (moveCells m a b n) = true := by
  rw [memory_wf_iff] at *
  refine ⟨rises_move h.1 a b n, fun e he => ?_⟩
  obtain ⟨x, hx, e⟩ := mem_move he
  exact e ▸ h.2 x hx

theorem marks_wf_move {t : Table Gran} (h : Marks.wf t = true) (a b n : Nat) : Marks.wf (moveMarks t a b n) = true := by
  rw [marks_wf_iff] at *
  refine ⟨rises_move h.1 a b n, fun e he => ?_⟩
  obtain ⟨x, hx, e⟩ := mem_move he
  exact e ▸ h.2 x hx

theorem marks_wf_filter {t : Table Gran} (h : Marks.wf t = true) (p : Nat × Gran → Bool) :
    Marks.wf ⟨t.rows.filter p⟩ = true := by
  rw [marks_wf_iff] at *
  exact ⟨h.1.filter p, fun e he => h.2 e (List.mem_filter.1 he).1⟩

theorem marks_wf_set {t : Table Gran} (h : Marks.wf t = true) (g : Nat) (v : Gran) : Marks.wf (setMark t g v) = true := by
  unfold setMark
  split
  · exact marks_wf_filter h _
  · rename_i hb
    rw [marks_wf_iff] at *
    refine ⟨h.1.insertAt g v, fun e he => ?_⟩
    rcases mem_insertAt he with rfl | he
    · exact hb
    · exact h.2 e he

theorem marks_wf_foldl {β : Type} (l : List β) (f : Table Gran → β → Table Gran)
    (hf : ∀ t x, Marks.wf t = true → Marks.wf (f t x) = true) : ∀ t, Marks.wf t = true → Marks.wf (l.foldl f t) = true := by
  induction l with
  | nil => exact fun t h => h
  | cons x l ih => exact fun t h => ih _ (hf t x h)

/-! ### Reads of the state after writes of it -/

theorem State.byte_setByte (s : State) (a x : Nat) (b : Byte) : (s.setByte a b).byte x = if a = x then b else s.byte x :=
  memRead_memWrite s.mem a x b

theorem State.byte_setBytes (s : State) (a x : Nat) (bs : List Byte) : (s.setBytes a bs).byte x =
    if a ≤ x ∧ x < a + bs.length then bs.getD (x - a) memDefault else s.byte x :=
  memRead_memWrites s.mem a x bs

end Sys2Proof.Machine
end

