-- ==== Sys2Proof/Laws/State.lean ====
section
/-! SUPPORT. What the named updates of the state leave in each field, and reads of registers and clusters after writes of them. -/

namespace Sys2Proof.Machine

/-! ### State.setReg -/

@[simp] theorem State.setReg_pending (s : State) (off : Nat) (v : Word32) : (s.setReg off v).pending = s.pending := rfl
@[simp] theorem State.setReg_regs (s : State) (off : Nat) (v : Word32) : (s.setReg off v).regs = s.regs.set off v := rfl
@[simp] theorem State.setReg_mem (s : State) (off : Nat) (v : Word32) : (s.setReg off v).mem = s.mem := rfl
@[simp] theorem State.setReg_marks (s : State) (off : Nat) (v : Word32) : (s.setReg off v).marks = s.marks := rfl
@[simp] theorem State.setReg_clusters (s : State) (off : Nat) (v : Word32) : (s.setReg off v).clusters = s.clusters := rfl
@[simp] theorem State.setReg_undo (s : State) (off : Nat) (v : Word32) : (s.setReg off v).undo = s.undo := rfl
@[simp] theorem State.setReg_claims (s : State) (off : Nat) (v : Word32) : (s.setReg off v).claims = s.claims := rfl
@[simp] theorem State.setReg_hbm (s : State) (off : Nat) (v : Word32) : (s.setReg off v).hbm = s.hbm := rfl
@[simp] theorem State.setReg_kv (s : State) (off : Nat) (v : Word32) : (s.setReg off v).kv = s.kv := rfl
@[simp] theorem State.setReg_actor (s : State) (off : Nat) (v : Word32) : (s.setReg off v).actor = s.actor := rfl
@[simp] theorem State.setReg_host (s : State) (off : Nat) (v : Word32) : (s.setReg off v).host = s.host := rfl
@[simp] theorem State.setReg_rcd (s : State) (off : Nat) (v : Word32) : (s.setReg off v).rcd = s.rcd := rfl
@[simp] theorem State.setReg_runs (s : State) (off : Nat) (v : Word32) : (s.setReg off v).runs = s.runs := rfl
@[simp] theorem State.setReg_decs (s : State) (off : Nat) (v : Word32) : (s.setReg off v).decs = s.decs := rfl
@[simp] theorem State.setReg_blockNo (s : State) (off : Nat) (v : Word32) : (s.setReg off v).blockNo = s.blockNo := rfl
@[simp] theorem State.setReg_net (s : State) (off : Nat) (v : Word32) : (s.setReg off v).net = s.net := rfl
@[simp] theorem State.setReg_srcSeq (s : State) (off : Nat) (v : Word32) : (s.setReg off v).srcSeq = s.srcSeq := rfl
@[simp] theorem State.setReg_gens (s : State) (off : Nat) (v : Word32) : (s.setReg off v).gens = s.gens := rfl
@[simp] theorem State.setReg_hostMap (s : State) (off : Nat) (v : Word32) : (s.setReg off v).hostMap = s.hostMap := rfl
@[simp] theorem State.setReg_relief (s : State) (off : Nat) (v : Word32) : (s.setReg off v).relief = s.relief := rfl
@[simp] theorem State.setReg_fences (s : State) (off : Nat) (v : Word32) : (s.setReg off v).fences = s.fences := rfl
@[simp] theorem State.setReg_time (s : State) (off : Nat) (v : Word32) : (s.setReg off v).time = s.time := rfl
@[simp] theorem State.setReg_replayTime (s : State) (off : Nat) (v : Word32) : (s.setReg off v).replayTime = s.replayTime := rfl
@[simp] theorem State.setReg_rateLim (s : State) (off : Nat) (v : Word32) : (s.setReg off v).rateLim = s.rateLim := rfl
@[simp] theorem State.setReg_sens (s : State) (off : Nat) (v : Word32) : (s.setReg off v).sens = s.sens := rfl
@[simp] theorem State.setReg_inp (s : State) (off : Nat) (v : Word32) : (s.setReg off v).inp = s.inp := rfl
@[simp] theorem State.setReg_gauge (s : State) (off : Nat) (v : Word32) : (s.setReg off v).gauge = s.gauge := rfl
@[simp] theorem State.setReg_hostBytes (s : State) (off : Nat) (v : Word32) : (s.setReg off v).hostBytes = s.hostBytes := rfl
@[simp] theorem State.setReg_vd (s : State) (off : Nat) (v : Word32) : (s.setReg off v).vd = s.vd := rfl
@[simp] theorem State.setReg_fc (s : State) (off : Nat) (v : Word32) : (s.setReg off v).fc = s.fc := rfl
@[simp] theorem State.setReg_rst (s : State) (off : Nat) (v : Word32) : (s.setReg off v).rst = s.rst := rfl
@[simp] theorem State.setReg_saf (s : State) (off : Nat) (v : Word32) : (s.setReg off v).saf = s.saf := rfl
@[simp] theorem State.setReg_mg (s : State) (off : Nat) (v : Word32) : (s.setReg off v).mg = s.mg := rfl
@[simp] theorem State.setReg_pw (s : State) (off : Nat) (v : Word32) : (s.setReg off v).pw = s.pw := rfl
@[simp] theorem State.setReg_freeCount (s : State) (off : Nat) (v : Word32) : (s.setReg off v).freeCount = s.freeCount := rfl
@[simp] theorem State.setReg_ticks (s : State) (off : Nat) (v : Word32) : (s.setReg off v).ticks = s.ticks := rfl

/-! ### State.setCl -/

@[simp] theorem State.setCl_pending (s : State) (c : Nat) (k : Cluster) : (s.setCl c k).pending = s.pending := rfl
@[simp] theorem State.setCl_regs (s : State) (c : Nat) (k : Cluster) : (s.setCl c k).regs = s.regs := rfl
@[simp] theorem State.setCl_mem (s : State) (c : Nat) (k : Cluster) : (s.setCl c k).mem = s.mem := rfl
@[simp] theorem State.setCl_marks (s : State) (c : Nat) (k : Cluster) : (s.setCl c k).marks = s.marks := rfl
@[simp] theorem State.setCl_clusters (s : State) (c : Nat) (k : Cluster) : (s.setCl c k).clusters = s.clusters.set c k := rfl
@[simp] theorem State.setCl_undo (s : State) (c : Nat) (k : Cluster) : (s.setCl c k).undo = s.undo := rfl
@[simp] theorem State.setCl_claims (s : State) (c : Nat) (k : Cluster) : (s.setCl c k).claims = s.claims := rfl
@[simp] theorem State.setCl_hbm (s : State) (c : Nat) (k : Cluster) : (s.setCl c k).hbm = s.hbm := rfl
@[simp] theorem State.setCl_kv (s : State) (c : Nat) (k : Cluster) : (s.setCl c k).kv = s.kv := rfl
@[simp] theorem State.setCl_actor (s : State) (c : Nat) (k : Cluster) : (s.setCl c k).actor = s.actor := rfl
@[simp] theorem State.setCl_host (s : State) (c : Nat) (k : Cluster) : (s.setCl c k).host = s.host := rfl
@[simp] theorem State.setCl_rcd (s : State) (c : Nat) (k : Cluster) : (s.setCl c k).rcd = s.rcd := rfl
@[simp] theorem State.setCl_runs (s : State) (c : Nat) (k : Cluster) : (s.setCl c k).runs = s.runs := rfl
@[simp] theorem State.setCl_decs (s : State) (c : Nat) (k : Cluster) : (s.setCl c k).decs = s.decs := rfl
@[simp] theorem State.setCl_blockNo (s : State) (c : Nat) (k : Cluster) : (s.setCl c k).blockNo = s.blockNo := rfl
@[simp] theorem State.setCl_net (s : State) (c : Nat) (k : Cluster) : (s.setCl c k).net = s.net := rfl
@[simp] theorem State.setCl_srcSeq (s : State) (c : Nat) (k : Cluster) : (s.setCl c k).srcSeq = s.srcSeq := rfl
@[simp] theorem State.setCl_gens (s : State) (c : Nat) (k : Cluster) : (s.setCl c k).gens = s.gens := rfl
@[simp] theorem State.setCl_hostMap (s : State) (c : Nat) (k : Cluster) : (s.setCl c k).hostMap = s.hostMap := rfl
@[simp] theorem State.setCl_relief (s : State) (c : Nat) (k : Cluster) : (s.setCl c k).relief = s.relief := rfl
@[simp] theorem State.setCl_fences (s : State) (c : Nat) (k : Cluster) : (s.setCl c k).fences = s.fences := rfl
@[simp] theorem State.setCl_time (s : State) (c : Nat) (k : Cluster) : (s.setCl c k).time = s.time := rfl
@[simp] theorem State.setCl_replayTime (s : State) (c : Nat) (k : Cluster) : (s.setCl c k).replayTime = s.replayTime := rfl
@[simp] theorem State.setCl_rateLim (s : State) (c : Nat) (k : Cluster) : (s.setCl c k).rateLim = s.rateLim := rfl
@[simp] theorem State.setCl_sens (s : State) (c : Nat) (k : Cluster) : (s.setCl c k).sens = s.sens := rfl
@[simp] theorem State.setCl_inp (s : State) (c : Nat) (k : Cluster) : (s.setCl c k).inp = s.inp := rfl
@[simp] theorem State.setCl_gauge (s : State) (c : Nat) (k : Cluster) : (s.setCl c k).gauge = s.gauge := rfl
@[simp] theorem State.setCl_hostBytes (s : State) (c : Nat) (k : Cluster) : (s.setCl c k).hostBytes = s.hostBytes := rfl
@[simp] theorem State.setCl_vd (s : State) (c : Nat) (k : Cluster) : (s.setCl c k).vd = s.vd := rfl
@[simp] theorem State.setCl_fc (s : State) (c : Nat) (k : Cluster) : (s.setCl c k).fc = s.fc := rfl
@[simp] theorem State.setCl_rst (s : State) (c : Nat) (k : Cluster) : (s.setCl c k).rst = s.rst := rfl
@[simp] theorem State.setCl_saf (s : State) (c : Nat) (k : Cluster) : (s.setCl c k).saf = s.saf := rfl
@[simp] theorem State.setCl_mg (s : State) (c : Nat) (k : Cluster) : (s.setCl c k).mg = s.mg := rfl
@[simp] theorem State.setCl_pw (s : State) (c : Nat) (k : Cluster) : (s.setCl c k).pw = s.pw := rfl
@[simp] theorem State.setCl_freeCount (s : State) (c : Nat) (k : Cluster) : (s.setCl c k).freeCount = s.freeCount := rfl
@[simp] theorem State.setCl_ticks (s : State) (c : Nat) (k : Cluster) : (s.setCl c k).ticks = s.ticks := rfl

/-! ### State.setByte -/

@[simp] theorem State.setByte_pending (s : State) (a : Nat) (b : Byte) : (s.setByte a b).pending = s.pending := rfl
@[simp] theorem State.setByte_regs (s : State) (a : Nat) (b : Byte) : (s.setByte a b).regs = s.regs := rfl
@[simp] theorem State.setByte_mem (s : State) (a : Nat) (b : Byte) : (s.setByte a b).mem = memWrite s.mem a b := rfl
@[simp] theorem State.setByte_marks (s : State) (a : Nat) (b : Byte) : (s.setByte a b).marks = s.marks := rfl
@[simp] theorem State.setByte_clusters (s : State) (a : Nat) (b : Byte) : (s.setByte a b).clusters = s.clusters := rfl
@[simp] theorem State.setByte_undo (s : State) (a : Nat) (b : Byte) : (s.setByte a b).undo = s.undo := rfl
@[simp] theorem State.setByte_claims (s : State) (a : Nat) (b : Byte) : (s.setByte a b).claims = s.claims := rfl
@[simp] theorem State.setByte_hbm (s : State) (a : Nat) (b : Byte) : (s.setByte a b).hbm = s.hbm := rfl
@[simp] theorem State.setByte_kv (s : State) (a : Nat) (b : Byte) : (s.setByte a b).kv = s.kv := rfl
@[simp] theorem State.setByte_actor (s : State) (a : Nat) (b : Byte) : (s.setByte a b).actor = s.actor := rfl
@[simp] theorem State.setByte_host (s : State) (a : Nat) (b : Byte) : (s.setByte a b).host = s.host := rfl
@[simp] theorem State.setByte_rcd (s : State) (a : Nat) (b : Byte) : (s.setByte a b).rcd = s.rcd := rfl
@[simp] theorem State.setByte_runs (s : State) (a : Nat) (b : Byte) : (s.setByte a b).runs = s.runs := rfl
@[simp] theorem State.setByte_decs (s : State) (a : Nat) (b : Byte) : (s.setByte a b).decs = s.decs := rfl
@[simp] theorem State.setByte_blockNo (s : State) (a : Nat) (b : Byte) : (s.setByte a b).blockNo = s.blockNo := rfl
@[simp] theorem State.setByte_net (s : State) (a : Nat) (b : Byte) : (s.setByte a b).net = s.net := rfl
@[simp] theorem State.setByte_srcSeq (s : State) (a : Nat) (b : Byte) : (s.setByte a b).srcSeq = s.srcSeq := rfl
@[simp] theorem State.setByte_gens (s : State) (a : Nat) (b : Byte) : (s.setByte a b).gens = s.gens := rfl
@[simp] theorem State.setByte_hostMap (s : State) (a : Nat) (b : Byte) : (s.setByte a b).hostMap = s.hostMap := rfl
@[simp] theorem State.setByte_relief (s : State) (a : Nat) (b : Byte) : (s.setByte a b).relief = s.relief := rfl
@[simp] theorem State.setByte_fences (s : State) (a : Nat) (b : Byte) : (s.setByte a b).fences = s.fences := rfl
@[simp] theorem State.setByte_time (s : State) (a : Nat) (b : Byte) : (s.setByte a b).time = s.time := rfl
@[simp] theorem State.setByte_replayTime (s : State) (a : Nat) (b : Byte) : (s.setByte a b).replayTime = s.replayTime := rfl
@[simp] theorem State.setByte_rateLim (s : State) (a : Nat) (b : Byte) : (s.setByte a b).rateLim = s.rateLim := rfl
@[simp] theorem State.setByte_sens (s : State) (a : Nat) (b : Byte) : (s.setByte a b).sens = s.sens := rfl
@[simp] theorem State.setByte_inp (s : State) (a : Nat) (b : Byte) : (s.setByte a b).inp = s.inp := rfl
@[simp] theorem State.setByte_gauge (s : State) (a : Nat) (b : Byte) : (s.setByte a b).gauge = s.gauge := rfl
@[simp] theorem State.setByte_hostBytes (s : State) (a : Nat) (b : Byte) : (s.setByte a b).hostBytes = s.hostBytes := rfl
@[simp] theorem State.setByte_vd (s : State) (a : Nat) (b : Byte) : (s.setByte a b).vd = s.vd := rfl
@[simp] theorem State.setByte_fc (s : State) (a : Nat) (b : Byte) : (s.setByte a b).fc = s.fc := rfl
@[simp] theorem State.setByte_rst (s : State) (a : Nat) (b : Byte) : (s.setByte a b).rst = s.rst := rfl
@[simp] theorem State.setByte_saf (s : State) (a : Nat) (b : Byte) : (s.setByte a b).saf = s.saf := rfl
@[simp] theorem State.setByte_mg (s : State) (a : Nat) (b : Byte) : (s.setByte a b).mg = s.mg := rfl
@[simp] theorem State.setByte_pw (s : State) (a : Nat) (b : Byte) : (s.setByte a b).pw = s.pw := rfl
@[simp] theorem State.setByte_freeCount (s : State) (a : Nat) (b : Byte) : (s.setByte a b).freeCount = s.freeCount := rfl
@[simp] theorem State.setByte_ticks (s : State) (a : Nat) (b : Byte) : (s.setByte a b).ticks = s.ticks := rfl

/-! ### State.setBytes -/

@[simp] theorem State.setBytes_pending (s : State) (a : Nat) (bs : List Byte) : (s.setBytes a bs).pending = s.pending := rfl
@[simp] theorem State.setBytes_regs (s : State) (a : Nat) (bs : List Byte) : (s.setBytes a bs).regs = s.regs := rfl
@[simp] theorem State.setBytes_mem (s : State) (a : Nat) (bs : List Byte) : (s.setBytes a bs).mem = memWrites s.mem a bs := rfl
@[simp] theorem State.setBytes_marks (s : State) (a : Nat) (bs : List Byte) : (s.setBytes a bs).marks = s.marks := rfl
@[simp] theorem State.setBytes_clusters (s : State) (a : Nat) (bs : List Byte) : (s.setBytes a bs).clusters = s.clusters := rfl
@[simp] theorem State.setBytes_undo (s : State) (a : Nat) (bs : List Byte) : (s.setBytes a bs).undo = s.undo := rfl
@[simp] theorem State.setBytes_claims (s : State) (a : Nat) (bs : List Byte) : (s.setBytes a bs).claims = s.claims := rfl
@[simp] theorem State.setBytes_hbm (s : State) (a : Nat) (bs : List Byte) : (s.setBytes a bs).hbm = s.hbm := rfl
@[simp] theorem State.setBytes_kv (s : State) (a : Nat) (bs : List Byte) : (s.setBytes a bs).kv = s.kv := rfl
@[simp] theorem State.setBytes_actor (s : State) (a : Nat) (bs : List Byte) : (s.setBytes a bs).actor = s.actor := rfl
@[simp] theorem State.setBytes_host (s : State) (a : Nat) (bs : List Byte) : (s.setBytes a bs).host = s.host := rfl
@[simp] theorem State.setBytes_rcd (s : State) (a : Nat) (bs : List Byte) : (s.setBytes a bs).rcd = s.rcd := rfl
@[simp] theorem State.setBytes_runs (s : State) (a : Nat) (bs : List Byte) : (s.setBytes a bs).runs = s.runs := rfl
@[simp] theorem State.setBytes_decs (s : State) (a : Nat) (bs : List Byte) : (s.setBytes a bs).decs = s.decs := rfl
@[simp] theorem State.setBytes_blockNo (s : State) (a : Nat) (bs : List Byte) : (s.setBytes a bs).blockNo = s.blockNo := rfl
@[simp] theorem State.setBytes_net (s : State) (a : Nat) (bs : List Byte) : (s.setBytes a bs).net = s.net := rfl
@[simp] theorem State.setBytes_srcSeq (s : State) (a : Nat) (bs : List Byte) : (s.setBytes a bs).srcSeq = s.srcSeq := rfl
@[simp] theorem State.setBytes_gens (s : State) (a : Nat) (bs : List Byte) : (s.setBytes a bs).gens = s.gens := rfl
@[simp] theorem State.setBytes_hostMap (s : State) (a : Nat) (bs : List Byte) : (s.setBytes a bs).hostMap = s.hostMap := rfl
@[simp] theorem State.setBytes_relief (s : State) (a : Nat) (bs : List Byte) : (s.setBytes a bs).relief = s.relief := rfl
@[simp] theorem State.setBytes_fences (s : State) (a : Nat) (bs : List Byte) : (s.setBytes a bs).fences = s.fences := rfl
@[simp] theorem State.setBytes_time (s : State) (a : Nat) (bs : List Byte) : (s.setBytes a bs).time = s.time := rfl
@[simp] theorem State.setBytes_replayTime (s : State) (a : Nat) (bs : List Byte) : (s.setBytes a bs).replayTime = s.replayTime := rfl
@[simp] theorem State.setBytes_rateLim (s : State) (a : Nat) (bs : List Byte) : (s.setBytes a bs).rateLim = s.rateLim := rfl
@[simp] theorem State.setBytes_sens (s : State) (a : Nat) (bs : List Byte) : (s.setBytes a bs).sens = s.sens := rfl
@[simp] theorem State.setBytes_inp (s : State) (a : Nat) (bs : List Byte) : (s.setBytes a bs).inp = s.inp := rfl
@[simp] theorem State.setBytes_gauge (s : State) (a : Nat) (bs : List Byte) : (s.setBytes a bs).gauge = s.gauge := rfl
@[simp] theorem State.setBytes_hostBytes (s : State) (a : Nat) (bs : List Byte) : (s.setBytes a bs).hostBytes = s.hostBytes := rfl
@[simp] theorem State.setBytes_vd (s : State) (a : Nat) (bs : List Byte) : (s.setBytes a bs).vd = s.vd := rfl
@[simp] theorem State.setBytes_fc (s : State) (a : Nat) (bs : List Byte) : (s.setBytes a bs).fc = s.fc := rfl
@[simp] theorem State.setBytes_rst (s : State) (a : Nat) (bs : List Byte) : (s.setBytes a bs).rst = s.rst := rfl
@[simp] theorem State.setBytes_saf (s : State) (a : Nat) (bs : List Byte) : (s.setBytes a bs).saf = s.saf := rfl
@[simp] theorem State.setBytes_mg (s : State) (a : Nat) (bs : List Byte) : (s.setBytes a bs).mg = s.mg := rfl
@[simp] theorem State.setBytes_pw (s : State) (a : Nat) (bs : List Byte) : (s.setBytes a bs).pw = s.pw := rfl
@[simp] theorem State.setBytes_freeCount (s : State) (a : Nat) (bs : List Byte) : (s.setBytes a bs).freeCount = s.freeCount := rfl
@[simp] theorem State.setBytes_ticks (s : State) (a : Nat) (bs : List Byte) : (s.setBytes a bs).ticks = s.ticks := rfl

/-! ### State.send -/

@[simp] theorem State.send_pending (s : State) (src kind addr : Nat) (c : Bool) (ctxs : List Nat) : (s.send src kind addr c ctxs).pending = s.pending := rfl
@[simp] theorem State.send_regs (s : State) (src kind addr : Nat) (c : Bool) (ctxs : List Nat) : (s.send src kind addr c ctxs).regs = s.regs := rfl
@[simp] theorem State.send_mem (s : State) (src kind addr : Nat) (c : Bool) (ctxs : List Nat) : (s.send src kind addr c ctxs).mem = s.mem := rfl
@[simp] theorem State.send_marks (s : State) (src kind addr : Nat) (c : Bool) (ctxs : List Nat) : (s.send src kind addr c ctxs).marks = s.marks := rfl
@[simp] theorem State.send_clusters (s : State) (src kind addr : Nat) (c : Bool) (ctxs : List Nat) : (s.send src kind addr c ctxs).clusters = s.clusters := rfl
@[simp] theorem State.send_undo (s : State) (src kind addr : Nat) (c : Bool) (ctxs : List Nat) : (s.send src kind addr c ctxs).undo = s.undo := rfl
@[simp] theorem State.send_claims (s : State) (src kind addr : Nat) (c : Bool) (ctxs : List Nat) : (s.send src kind addr c ctxs).claims = s.claims := rfl
@[simp] theorem State.send_hbm (s : State) (src kind addr : Nat) (c : Bool) (ctxs : List Nat) : (s.send src kind addr c ctxs).hbm = s.hbm := rfl
@[simp] theorem State.send_kv (s : State) (src kind addr : Nat) (c : Bool) (ctxs : List Nat) : (s.send src kind addr c ctxs).kv = s.kv := rfl
@[simp] theorem State.send_actor (s : State) (src kind addr : Nat) (c : Bool) (ctxs : List Nat) : (s.send src kind addr c ctxs).actor = s.actor := rfl
@[simp] theorem State.send_host (s : State) (src kind addr : Nat) (c : Bool) (ctxs : List Nat) : (s.send src kind addr c ctxs).host = s.host := rfl
@[simp] theorem State.send_rcd (s : State) (src kind addr : Nat) (c : Bool) (ctxs : List Nat) : (s.send src kind addr c ctxs).rcd = s.rcd := rfl
@[simp] theorem State.send_runs (s : State) (src kind addr : Nat) (c : Bool) (ctxs : List Nat) : (s.send src kind addr c ctxs).runs = s.runs := rfl
@[simp] theorem State.send_decs (s : State) (src kind addr : Nat) (c : Bool) (ctxs : List Nat) : (s.send src kind addr c ctxs).decs = s.decs := rfl
@[simp] theorem State.send_blockNo (s : State) (src kind addr : Nat) (c : Bool) (ctxs : List Nat) : (s.send src kind addr c ctxs).blockNo = s.blockNo := rfl
@[simp] theorem State.send_net (s : State) (src kind addr : Nat) (c : Bool) (ctxs : List Nat) : (s.send src kind addr c ctxs).net = s.net ++ [⟨mkMsg src kind addr (s.genOf src) (s.srcSeq.get src 0).toNat c, ctxs, 0⟩] := rfl
@[simp] theorem State.send_srcSeq (s : State) (src kind addr : Nat) (c : Bool) (ctxs : List Nat) : (s.send src kind addr c ctxs).srcSeq = s.srcSeq.set src (s.srcSeq.get src 0 + 1) := rfl
@[simp] theorem State.send_gens (s : State) (src kind addr : Nat) (c : Bool) (ctxs : List Nat) : (s.send src kind addr c ctxs).gens = s.gens := rfl
@[simp] theorem State.send_hostMap (s : State) (src kind addr : Nat) (c : Bool) (ctxs : List Nat) : (s.send src kind addr c ctxs).hostMap = s.hostMap := rfl
@[simp] theorem State.send_relief (s : State) (src kind addr : Nat) (c : Bool) (ctxs : List Nat) : (s.send src kind addr c ctxs).relief = s.relief := rfl
@[simp] theorem State.send_fences (s : State) (src kind addr : Nat) (c : Bool) (ctxs : List Nat) : (s.send src kind addr c ctxs).fences = s.fences := rfl
@[simp] theorem State.send_time (s : State) (src kind addr : Nat) (c : Bool) (ctxs : List Nat) : (s.send src kind addr c ctxs).time = s.time := rfl
@[simp] theorem State.send_replayTime (s : State) (src kind addr : Nat) (c : Bool) (ctxs : List Nat) : (s.send src kind addr c ctxs).replayTime = s.replayTime := rfl
@[simp] theorem State.send_rateLim (s : State) (src kind addr : Nat) (c : Bool) (ctxs : List Nat) : (s.send src kind addr c ctxs).rateLim = s.rateLim := rfl
@[simp] theorem State.send_sens (s : State) (src kind addr : Nat) (c : Bool) (ctxs : List Nat) : (s.send src kind addr c ctxs).sens = s.sens := rfl
@[simp] theorem State.send_inp (s : State) (src kind addr : Nat) (c : Bool) (ctxs : List Nat) : (s.send src kind addr c ctxs).inp = s.inp := rfl
@[simp] theorem State.send_gauge (s : State) (src kind addr : Nat) (c : Bool) (ctxs : List Nat) : (s.send src kind addr c ctxs).gauge = s.gauge := rfl
@[simp] theorem State.send_hostBytes (s : State) (src kind addr : Nat) (c : Bool) (ctxs : List Nat) : (s.send src kind addr c ctxs).hostBytes = s.hostBytes := rfl
@[simp] theorem State.send_vd (s : State) (src kind addr : Nat) (c : Bool) (ctxs : List Nat) : (s.send src kind addr c ctxs).vd = s.vd := rfl
@[simp] theorem State.send_fc (s : State) (src kind addr : Nat) (c : Bool) (ctxs : List Nat) : (s.send src kind addr c ctxs).fc = s.fc := rfl
@[simp] theorem State.send_rst (s : State) (src kind addr : Nat) (c : Bool) (ctxs : List Nat) : (s.send src kind addr c ctxs).rst = s.rst := rfl
@[simp] theorem State.send_saf (s : State) (src kind addr : Nat) (c : Bool) (ctxs : List Nat) : (s.send src kind addr c ctxs).saf = s.saf := rfl
@[simp] theorem State.send_mg (s : State) (src kind addr : Nat) (c : Bool) (ctxs : List Nat) : (s.send src kind addr c ctxs).mg = s.mg := rfl
@[simp] theorem State.send_pw (s : State) (src kind addr : Nat) (c : Bool) (ctxs : List Nat) : (s.send src kind addr c ctxs).pw = s.pw := rfl
@[simp] theorem State.send_freeCount (s : State) (src kind addr : Nat) (c : Bool) (ctxs : List Nat) : (s.send src kind addr c ctxs).freeCount = s.freeCount := rfl
@[simp] theorem State.send_ticks (s : State) (src kind addr : Nat) (c : Bool) (ctxs : List Nat) : (s.send src kind addr c ctxs).ticks = s.ticks := rfl

/-! ### The queue -/

@[simp] theorem State.pending_upd (s : State) (q : List Instr) : ({ s with pending := q }).pending = q := rfl

/-! ### Registers -/

/-- A register reads as it was written, every other as before. -/
theorem State.reg_setReg (s : State) (a b : Nat) (v : Word32) : (s.setReg a v).reg b = if a = b then v else s.reg b := by
  simp only [State.reg, State.setReg_regs, Table.get_set]

@[simp] theorem State.reg_setReg_same (s : State) (a : Nat) (v : Word32) : (s.setReg a v).reg a = v := by
  rw [State.reg_setReg, if_pos rfl]

theorem State.reg_setReg_ne (s : State) {a b : Nat} (v : Word32) (h : a ≠ b) : (s.setReg a v).reg b = s.reg b := by
  rw [State.reg_setReg, if_neg h]

@[simp] theorem State.reg_setCl (s : State) (c b : Nat) (k : Cluster) : (s.setCl c k).reg b = s.reg b := rfl
@[simp] theorem State.reg_setByte (s : State) (a b : Nat) (v : Byte) : (s.setByte a v).reg b = s.reg b := rfl
@[simp] theorem State.reg_setBytes (s : State) (a b : Nat) (v : List Byte) : (s.setBytes a v).reg b = s.reg b := rfl
@[simp] theorem State.reg_send (s : State) (x k a : Nat) (c : Bool) (l : List Nat) (b : Nat) :
    (s.send x k a c l).reg b = s.reg b := rfl

theorem State.setFld_eq (s : State) (off hi lo v : Nat) :
    s.setFld off hi lo v = s.setReg off (BitVec.ofNat 32 (putBits (s.reg off).toNat hi lo v)) := rfl

/-! ### Clusters -/

/-- A cluster reads as it was written, every other as before. -/
theorem State.cl_setCl (s : State) (c d : Nat) (k : Cluster) : (s.setCl c k).cl d = if c = d then k else s.cl d := by
  simp only [State.cl, State.setCl_clusters, Table.get_set]

@[simp] theorem State.cl_setCl_same (s : State) (c : Nat) (k : Cluster) : (s.setCl c k).cl c = k := by
  rw [State.cl_setCl, if_pos rfl]

@[simp] theorem State.cl_setReg (s : State) (c a : Nat) (v : Word32) : (s.setReg a v).cl c = s.cl c := rfl
@[simp] theorem State.cl_setBytes (s : State) (c a : Nat) (v : List Byte) : (s.setBytes a v).cl c = s.cl c := rfl
@[simp] theorem State.cl_send (s : State) (x k a : Nat) (b : Bool) (l : List Nat) (c : Nat) :
    (s.send x k a b l).cl c = s.cl c := rfl

/-- Of two writes of one index the second stands. -/
theorem insertAt_insertAt {α : Type} (l : List (Nat × α)) (k : Nat) (v w : α) :
    insertAt (insertAt l k v) k w = insertAt l k w := by
  induction l with
  | nil => simp [insertAt]
  | cons x r ih =>
    obtain ⟨a, u⟩ := x
    by_cases h : k < a
    · simp [insertAt, h]
    · by_cases e : a = k
      · simp [insertAt, e]
      · simp [insertAt, h, e, ih]

@[simp] theorem Table.set_set {α : Type} (t : Table α) (k : Nat) (v w : α) : (t.set k v).set k w = t.set k w := by
  simp only [Table.set, insertAt_insertAt]

@[simp] theorem State.setCl_setCl (s : State) (c : Nat) (k l : Cluster) : (s.setCl c k).setCl c l = s.setCl c l := by
  unfold State.setCl
  simp only [Table.set_set]

@[simp] theorem State.setReg_setReg (s : State) (a : Nat) (v w : Word32) : (s.setReg a v).setReg a w = s.setReg a w := by
  unfold State.setReg
  simp only [Table.set_set]

theorem State.updCl_eq (s : State) (c : Nat) (f : Cluster → Cluster) : s.updCl c f = s.setCl c (f (s.cl c)) := rfl

theorem State.updSeq_eq (s : State) (c : Nat) (f : Seq → Seq) :
    s.updSeq c f = s.setCl c { s.cl c with seq := f (s.cl c).seq } := rfl

theorem State.sched_eq (s : State) (c t ph job unit slot : Nat) (a : Act) :
    s.sched c t ph job unit slot a = s.setCl c { s.cl c with evs := (s.cl c).evs ++ [⟨t, ph, job, unit, slot, a⟩] } := rfl

theorem State.addJob_eq (s : State) (c : Nat) (j : Job) : s.addJob c j = s.setCl c
    { s.cl c with jobs := (s.cl c).jobs.set (s.cl c).nextJob j, nextJob := (s.cl c).nextJob + 1 } := rfl

end Sys2Proof.Machine
end

