-- ==== Sys2Proof/Laws/Issue.lean ====
section
/-! SUPPORT. What the shared operations of issue do: a control operation, a holding one, and an operation of a unit, where a
bundle may issue; the bit fields they read; a write of a set-up register. -/

namespace Sys2Proof.Machine

theorem bitsOf_mod (w hi lo n : Nat) (h : hi < n) (hl : lo ≤ hi) : bitsOf (w % 2 ^ n) hi lo = bitsOf w hi lo := by
  unfold bitsOf
  have e : 2 ^ n = 2 ^ lo * 2 ^ (n - lo) := by rw [← Nat.pow_add]; congr 1; omega
  rw [e, Nat.mod_mul_right_div_self, Nat.mod_mod_of_dvd]
  exact Nat.pow_dvd_pow 2 (by omega)

theorem bitsOf_zero (w hi : Nat) : bitsOf w hi 0 = w % 2 ^ (hi + 1) := by simp [bitsOf]

theorem control_run {s : State} {c : Nat} {r : Bool} {f : State → State} (h : s.mayIssue c) (hr : r = false) :
    s.control c r f = f (s.nextBundle c) := by
  obtain ⟨h1, h2, h3⟩ := h
  unfold State.control
  simp [h1, h2, h3, hr]

theorem holding_run {s : State} {c : Nat} {r : Bool} {w a} {g : State → Bool} {f : State → State} (h : s.mayIssue c) (hr : r = false) :
    s.holding c r w a g f = if g (s.nextBundle c) then (s.nextBundle c).hold c w a else f (s.nextBundle c) := by
  unfold State.holding
  rw [control_run h hr]

theorem put_lo (x : Word32) (n : Nat) : BitVec.ofNat 32 (putBits x.toNat 15 0 (bitsOf n 15 0)) = x.extractLsb' 16 16 ++ BitVec.ofNat 16 n := by
  apply BitVec.eq_of_toNat_eq
  have hx := x.isLt
  simp only [BitVec.toNat_ofNat, BitVec.toNat_append, BitVec.extractLsb'_toNat, putBits, bitsOf, Nat.shiftRight_eq_div_pow]
  rw [← Nat.shiftLeft_add_eq_or_of_lt (Nat.mod_lt _ (by decide))]
  rw [Nat.shiftLeft_eq]
  omega

theorem put_hi (x : Word32) (n : Nat) : BitVec.ofNat 32 (putBits x.toNat 31 16 (bitsOf n 15 0)) = BitVec.ofNat 16 n ++ x.extractLsb' 0 16 := by
  apply BitVec.eq_of_toNat_eq
  have hx := x.isLt
  simp only [BitVec.toNat_ofNat, BitVec.toNat_append, BitVec.extractLsb'_toNat, putBits, bitsOf, Nat.shiftRight_eq_div_pow]
  rw [← Nat.shiftLeft_add_eq_or_of_lt (Nat.mod_lt _ (by decide))]
  rw [Nat.shiftLeft_eq]
  omega

theorem sext20 (n : Nat) : BitVec.ofInt 32 (signed 20 (bitsOf n 19 0)) = (BitVec.ofNat 20 n).signExtend 32 := by
  apply BitVec.eq_of_toInt_eq
  rw [BitVec.toInt_signExtend_of_le (by decide), BitVec.toInt_ofInt]
  have e : bitsOf n 19 0 = n % 1048576 := by simp [bitsOf]
  have k : (signed 20 (bitsOf n 19 0)) = (BitVec.ofNat 20 n).toInt := by
    rw [e]
    simp only [signed, BitVec.toInt, BitVec.toNat_ofNat]
    have : n % 2 ^ 20 = n % 1048576 := rfl
    have : n % 1048576 % 2 ^ 20 = n % 1048576 := by omega
    rw [this]
    split <;> split <;> omega
  rw [k]
  have h1 := (BitVec.ofNat 20 n).toInt_lt
  have h2 := (BitVec.ofNat 20 n).le_toInt
  rw [Int.bmod_eq_of_le]
  · simp at *; omega
  · simp at *; omega
theorem engine_run {s : State} {c slot : Nat} {ps : List Nat} {r : Bool} {f : State → State} (h : s.mayUse c slot ps) (hr : r = false) :
    s.engine c slot ps r f = f (s.setCl c { s.cl c with seq := { (s.cl c).seq with ports := (s.cl c).seq.ports ++ ps } }) := by
  obtain ⟨h1, h2, h3, h4, h5⟩ := h
  unfold State.engine
  have a : ¬ (ps.any (fun p => (s.cl c).seq.ports.contains p) = true) := by
    simp only [List.any_eq_true, not_exists, not_and]
    intro p hp
    simpa using h4 p hp
  have b : ps.eraseDups.length = ps.length := by
    have : ∀ (l : List Nat), l.Nodup → l.eraseDups = l := by
      intro l
      induction l with
      | nil => intro _; rfl
      | cons x l ih =>
        intro hn
        rw [List.eraseDups_cons]
        have hx := (List.nodup_cons.1 hn)
        rw [List.filter_eq_self.2, ih hx.2]
        intro y hy
        have : y ≠ x := fun e => hx.1 (e ▸ hy)
        simpa using this
    rw [this _ h5]
  rw [if_neg (by simp [h1]; omega), if_neg (by simp [hr, b]; simpa using a)]
  rfl

theorem each_sched {c n : Nat} (f : State → Nat → State) (g : Nat → List Ev)
    (h : ∀ s i, f s i = s.setCl c { s.cl c with evs := (s.cl c).evs ++ g i }) (s : State) (hs : ∃ t k, s = State.setCl t c k) :
    s.each n f = s.setCl c { s.cl c with evs := (s.cl c).evs ++ (upTo n).flatMap g } := by
  unfold State.each
  generalize upTo n = l
  induction l generalizing s with
  | nil =>
    obtain ⟨t, k, rfl⟩ := hs
    simp
  | cons x l ih =>
    rw [List.foldl_cons, h, ih _ ⟨_, _, rfl⟩]
    simp
theorem setCl_each (t : State) (c n : Nat) (k : Cluster) (T : Nat → Nat) (P J U L : Nat → Nat) (A : Nat → Act) :
    ((t.setCl c k).each n (fun s i => s.sched c (T i) (P i) (J i) (U i) (L i) (A i)))
      = t.setCl c { k with evs := k.evs ++ (upTo n).map (fun i => ⟨T i, P i, J i, U i, L i, A i⟩) } := by
  rw [each_sched (fun s i => s.sched c (T i) (P i) (J i) (U i) (L i) (A i)) (fun i => [⟨T i, P i, J i, U i, L i, A i⟩]) (fun s i => rfl) _ ⟨_, _, rfl⟩]
  simp only [State.cl_setCl_same, State.setCl_setCl, List.map_eq_flatMap]

theorem setCl_each2 (t : State) (c n : Nat) (k : Cluster) (T P J U L : Nat → Nat) (A : Nat → Act)
    (T' P' J' U' L' : Nat → Nat) (A' : Nat → Act) :
    ((t.setCl c k).each n (fun s i => (s.sched c (T i) (P i) (J i) (U i) (L i) (A i)).sched c (T' i) (P' i) (J' i) (U' i) (L' i) (A' i)))
      = t.setCl c { k with evs := k.evs ++ (upTo n).flatMap (fun i => [⟨T i, P i, J i, U i, L i, A i⟩, ⟨T' i, P' i, J' i, U' i, L' i, A' i⟩]) } := by
  rw [each_sched (fun s i => (s.sched c (T i) (P i) (J i) (U i) (L i) (A i)).sched c (T' i) (P' i) (J' i) (U' i) (L' i) (A' i)) (fun i => [⟨T i, P i, J i, U i, L i, A i⟩, ⟨T' i, P' i, J' i, U' i, L' i, A' i⟩])
    (fun s i => by simp [State.sched_eq]) _ ⟨_, _, rfl⟩]
  simp only [State.cl_setCl_same, State.setCl_setCl]

theorem at_ports (q : Seq) (p) (slot) : Seq.at { q with ports := p } slot = q.at slot := rfl

theorem tiles_fold {α : Type} (c : Nat) (f : Tile → Tile) (l : List Nat) (g : Tile → α) (v : α) (hf : ∀ t, g (f t) = v)
    (t : State) (k : Cluster) : ∃ k', l.foldl (fun (s : State) x => s.updTile c x f) (t.setCl c k) = t.setCl c k' ∧
      (∀ x ∈ l, g (k'.tile x) = v) ∧ (∀ x, g (k.tile x) = v → g (k'.tile x) = v) ∧ k' = { k with tiles := k'.tiles } := by
  induction l generalizing k with
  | nil => exact ⟨k, rfl, by simp, fun _ h => h, rfl⟩
  | cons x l ih =>
    simp only [List.foldl_cons, State.updTile, State.updCl_eq, State.cl_setCl_same, State.setCl_setCl] at *
    obtain ⟨k', e, h1, h2, h3⟩ := ih { k with tiles := k.tiles.set x (f (k.tile x)) }
    have hx : ∀ y, y = x ∨ g (k.tile y) = v → g (Cluster.tile { k with tiles := k.tiles.set x (f (k.tile x)) } y) = v := by
      intro y hy
      simp only [Cluster.tile, Table.get_set]
      split
      · exact hf _
      · rcases hy with rfl | hy
        · contradiction
        · exact hy
    refine ⟨k', e, ?_, fun y hy => h2 y (hx y (.inr hy)), by rw [h3]⟩
    intro y hy
    rcases List.mem_cons.1 hy with rfl | hy
    · exact h2 _ (hx _ (.inl rfl))
    · exact h1 y hy

theorem registerWrite_go (off : Nat) (v : Word32) (w : Bool) (s : State) (h : off < 2 ^ 23) (h4 : off % 4 = 0) :
    exec (.registerWrite off v w) s = .next (doRegisterWrite off v w s) :=
  exec_registerWrite (by have h2 : off < 8388608 := h; simp [Instr.wf, isRegOff, h2, h4])

theorem dieDark_hub (s : State) (off : Nat) (h : 0x154000 ≤ off) : s.dieDark off = false := by
  have e : s.dieDark off = (match (none : Option Nat) with | none => false | some d => s.dieOff d || s.inP3 || s.isBusy (0x200 + 16 * d)) := by
    unfold State.dieDark
    rw [if_neg (by omega), if_neg (by omega), if_neg (by omega)]
  exact e

end Sys2Proof.Machine
end

