-- ==== Sys2Proof/Laws/SoundCluster.lean ====
section
/-! SUPPORT. `Sound` of every operation: the units of a cluster, the HBM, the page manager and copies. -/

namespace Sys2Proof.Machine

/-! ### Ops -/

theorem State.setReg_sound {z s0 v1 v2} (k0 : Sound z s0) : Sound z (State.setReg s0 v1 v2) := by
  unfold State.setReg
  exact Sound.same k0 rfl rfl rfl rfl rfl

theorem State.setFld_sound {z s0 v1 v2 v3 v4} (k0 : Sound z s0) : Sound z (State.setFld s0 v1 v2 v3 v4) := by
  unfold State.setFld
  exact State.setReg_sound k0

theorem State.orReg_sound {z s0 v1 v2} (k0 : Sound z s0) : Sound z (State.orReg s0 v1 v2) := by
  unfold State.orReg
  exact State.setReg_sound k0

theorem State.clrReg_sound {z s0 v1 v2} (k0 : Sound z s0) : Sound z (State.clrReg s0 v1 v2) := by
  unfold State.clrReg
  exact State.setReg_sound k0

theorem State.bump_sound {z s0 v1 v2 v3 v4} (k0 : Sound z s0) : Sound z (State.bump s0 v1 v2 v3 v4) := by
  unfold State.bump
  exact State.setFld_sound k0

theorem State.count_sound {z s0 v1 v2 v3} (k0 : Sound z s0) : Sound z (State.count s0 v1 v2 v3) := by
  unfold State.count
  exact State.setFld_sound k0

theorem State.free_sound {z s n} (k : Sound z s) : Sound2 z (State.free s n) :=
  ⟨k.queue, k.clock, Nat.le_succ_of_le k.fresh, k.memory, k.marks⟩

theorem State.send_sound {z s0 v1 v2 v3 v4 v5} (k0 : Sound z s0) : Sound z (State.send s0 v1 v2 v3 v4 v5) := by
  unfold State.send
  extract_lets +onlyGivenNames x0
  try clear_value x0
  exact Sound.same k0 rfl rfl rfl rfl rfl

theorem State.sendSev_sound {z s0 v1 v2 v3 v4} (k0 : Sound z s0) : Sound z (State.sendSev s0 v1 v2 v3 v4) := by
  unfold State.sendSev
  extract_lets +onlyGivenNames x0
  try clear_value x0
  exact Sound.same k0 rfl rfl rfl rfl rfl

theorem State.sendEv_sound {z s0 v1 v2 v3} (k0 : Sound z s0) : Sound z (State.sendEv s0 v1 v2 v3) := by
  unfold State.sendEv
  exact State.send_sound k0

theorem State.setByte_sound {z s a b} (k : Sound z s) : Sound z (State.setByte s a b) :=
  ⟨k.queue, k.clock, k.fresh, fun h => memory_wf_write (k.memory h) a b, k.marks⟩

theorem State.setBytes_sound {z s a bs} (k : Sound z s) : Sound z (State.setBytes s a bs) :=
  ⟨k.queue, k.clock, k.fresh, fun h => memory_wf_writes (k.memory h) a bs, k.marks⟩

theorem State.setCl_sound {z s0 v1 v2} (k0 : Sound z s0) : Sound z (State.setCl s0 v1 v2) := by
  unfold State.setCl
  exact Sound.same k0 rfl rfl rfl rfl rfl

theorem State.updSeq_sound {z s0 v1 v2} (k0 : Sound z s0) : Sound z (State.updSeq s0 v1 v2) := by
  unfold State.updSeq
  extract_lets +onlyGivenNames x0
  try clear_value x0
  exact State.setCl_sound k0

theorem State.updCl_sound {z s0 v1 v2} (k0 : Sound z s0) : Sound z (State.updCl s0 v1 v2) := by
  unfold State.updCl
  exact State.setCl_sound k0

theorem State.stopAs_sound {z s0 v1 v2 v3 v4 v5 v6} (k0 : Sound z s0) : Sound z (State.stopAs s0 v1 v2 v3 v4 v5 v6) := by
  unfold State.stopAs
  refine Sound.ite (fun _ => ?_) (fun _ => ?_)
  · exact k0
  · extract_lets +onlyGivenNames x0
    try clear_value x0
    extract_lets +onlyGivenNames x1
    have h2 : Sound z x1 := State.updSeq_sound k0
    try clear_value x1
    extract_lets +onlyGivenNames x3
    have h4 : Sound z x3 := State.setReg_sound h2
    try clear_value x3
    exact State.send_sound h4

theorem State.stopX_sound {z s0 v1 v2 v3} (k0 : Sound z s0) : Sound z (State.stopX s0 v1 v2 v3) := by
  unfold State.stopX
  exact State.stopAs_sound k0

theorem State.numFlag_sound {z s0 v1 v2} (k0 : Sound z s0) : Sound z (State.numFlag s0 v1 v2) := by
  unfold State.numFlag
  exact State.orReg_sound k0

theorem State.numFlagIf_sound {z s0 v1 v2 v3} (k0 : Sound z s0) : Sound z (State.numFlagIf s0 v1 v2 v3) := by
  unfold State.numFlagIf
  refine Sound.ite (fun _ => ?_) (fun _ => ?_)
  · exact State.numFlag_sound k0
  · exact k0

theorem State.noteFinds_sound {z s0 v1 v2 v3} (k0 : Sound z s0) : Sound z (State.noteFinds s0 v1 v2 v3) := by
  unfold State.noteFinds
  split
  · exact k0
  · extract_lets +onlyGivenNames x0
    try clear_value x0
    extract_lets +onlyGivenNames x1
    have h2 : Sound z x1 := State.bump_sound k0
    try clear_value x1
    extract_lets +onlyGivenNames x3
    have h4 : Sound z x3 := State.bump_sound h2
    try clear_value x3
    extract_lets +onlyGivenNames x5
    have h6 : Sound z x5 := State.bump_sound h4
    try clear_value x5
    extract_lets +onlyGivenNames x7
    have h8 : Sound z x7 := State.setReg_sound h6
    try clear_value x7
    extract_lets +onlyGivenNames x9
    try clear_value x9
    refine Sound.foldl _ (fun q y h10 => ?_) _ ?_
    · refine Sound.ite (fun _ => ?_) (fun _ => ?_)
      · split
        · exact h10
        · extract_lets +onlyGivenNames x11
          try clear_value x11
          refine Sound.ite (fun _ => ?_) (fun _ => ?_)
          · extract_lets +onlyGivenNames -merge x12 x13
            try clear_value x12 x13
            refine Sound.ite (fun _ => ?_) (fun _ => ?_)
            · exact h10
            · extract_lets +onlyGivenNames x14
              try clear_value x14
              exact State.send_sound (State.setCl_sound h10)
          · exact State.send_sound h10
      · exact h10
    · exact h8

theorem State.noteReads_sound {z s0 v1 v2} (k0 : Sound z s0) : Sound z (State.noteReads s0 v1 v2) := by
  unfold State.noteReads
  refine Sound.foldl _ (fun q y h0 => ?_) _ ?_
  · exact State.noteFinds_sound h0
  · exact k0

theorem State.writeNibs_sound {z s a l c} (k : Sound z s) : SoundL z (State.writeNibs s a l c) := by
  refine ⟨k.queue, k.clock, k.fresh, fun h => memory_wf_writes (k.memory h) _ _, fun h => ?_⟩
  exact marks_wf_foldl _ _ (fun t x ht => marks_wf_set ht _ _) _ (k.marks h)

theorem State.writeWord_sound {z s0 v1 v2 v3 v4} (k0 : Sound z s0) : Sound z (State.writeWord s0 v1 v2 v3 v4) := by
  unfold State.writeWord
  split
  · next y0 y1 e =>
    have h2 : Sound z y0 := by
      refine SoundL.of e ?_
      exact State.writeNibs_sound k0
    exact State.noteFinds_sound h2

theorem State.writeClBytes_sound {z s0 v1 v2} (k0 : Sound z s0) : Sound z (State.writeClBytes s0 v1 v2) := by
  unfold State.writeClBytes
  refine Sound.foldl _ (fun q y h0 => ?_) _ ?_
  · exact State.writeWord_sound h0
  · exact k0

theorem State.sched_sound {z s0 v1 v2 v3 v4 v5 v6 v7} (k0 : Sound z s0) : Sound z (State.sched s0 v1 v2 v3 v4 v5 v6 v7) := by
  unfold State.sched
  exact State.updCl_sound k0

theorem State.addJob_sound {z s0 v1 v2} (k0 : Sound z s0) : Sound z (State.addJob s0 v1 v2) := by
  unfold State.addJob
  exact State.updCl_sound k0

theorem State.updJob_sound {z s0 v1 v2 v3} (k0 : Sound z s0) : Sound z (State.updJob s0 v1 v2 v3) := by
  unfold State.updJob
  exact State.updCl_sound k0

theorem State.dropJob_sound {z s0 v1 v2} (k0 : Sound z s0) : Sound z (State.dropJob s0 v1 v2) := by
  unfold State.dropJob
  exact State.updCl_sound k0

/-! ### Flags -/

theorem State.setRowSat_sound {z s0 v1 v2 v3} (k0 : Sound z s0) : Sound z (State.setRowSat s0 v1 v2 v3) := by
  unfold State.setRowSat
  exact State.numFlag_sound (State.orReg_sound k0)

theorem State.rowSatSync_sound {z s0 v1 v2} (k0 : Sound z s0) : Sound z (State.rowSatSync s0 v1 v2) := by
  unfold State.rowSatSync
  refine Sound.ite (fun _ => ?_) (fun _ => ?_)
  · exact State.clrReg_sound k0
  · exact k0

theorem State.clearNumFlags_sound {z s0 v1 v2} (k0 : Sound z s0) : Sound z (State.clearNumFlags s0 v1 v2) := by
  unfold State.clearNumFlags
  extract_lets +onlyGivenNames x0
  have h1 : Sound z x0 := State.clrReg_sound k0
  try clear_value x0
  refine Sound.foldl _ (fun q y h2 => ?_) _ ?_
  · refine Sound.ite (fun _ => ?_) (fun _ => ?_)
    · exact State.setReg_sound (State.setReg_sound h2)
    · exact h2
  · exact h1

theorem State.done_sound {z s0 v1 v2 v3} (k0 : Sound z s0) : Sound z (State.done s0 v1 v2 v3) := by
  unfold State.done
  exact State.updSeq_sound k0

theorem State.plainBytes_sound {z s0 v1} (k0 : Sound z s0) : Sound2 z (State.plainBytes s0 v1) := by
  unfold State.plainBytes
  refine Sound2.foldl _ (fun q y h0 => ?_) _ ?_
  · refine Sound2.ite (fun _ => ?_) (fun _ => ?_)
    · split
      · next y1 y2 e =>
        have h3 : Sound z y2 := by
          refine Sound2.of e ?_
          refine State.free_sound ?_
          refine Sound2.snd ?_
          exact h0
        refine Sound2.mk ?_
        exact h3
    · refine Sound2.mk ?_
      refine Sound2.snd ?_
      exact h0
  · refine Sound2.mk ?_
    exact k0

/-! ### Matrix -/

theorem State.updTile_sound {z s0 v1 v2 v3} (k0 : Sound z s0) : Sound z (State.updTile s0 v1 v2 v3) := by
  unfold State.updTile
  exact State.updCl_sound k0

theorem State.mxRow_sound {z s0 v1 v2 v3 v4} (k0 : Sound z s0) : Sound z (State.mxRow s0 v1 v2 v3 v4) := by
  unfold State.mxRow
  extract_lets +onlyGivenNames -merge x0 x1 x2 x3 x4 x5 x6
  try clear_value x0 x1 x2 x3 x4 x5 x6
  refine Sound.foldl _ (fun q y h7 => ?_) _ ?_
  · extract_lets +onlyGivenNames -merge -underBinder x8
    try clear_value x8
    extract_lets +onlyGivenNames x9
    try clear_value x9
    extract_lets +onlyGivenNames x10
    have h12 : Sound z x10 := by
      unfold x10
      refine Sound.foldl _ (fun q y h11 => ?_) _ ?_
      · exact State.sched_sound h11
      · exact h7
    try clear_value x10
    exact State.sched_sound h12
  · exact k0

theorem State.mxList_sound {z s0 v1 v2 v3 v4} (k0 : Sound z s0) : Sound z (State.mxList s0 v1 v2 v3 v4) := by
  unfold State.mxList
  extract_lets +onlyGivenNames -merge x0 x1 x2
  try clear_value x0 x1 x2
  refine Sound.foldl _ (fun q y h3 => ?_) _ ?_
  · extract_lets +onlyGivenNames -merge x4 x5
    try clear_value x4 x5
    refine Sound.ite (fun _ => ?_) (fun _ => ?_)
    · exact h3
    · exact State.sched_sound h3
  · exact k0

theorem State.accWrite_sound {z s0 v1 v2} (k0 : Sound z s0) : Sound z (State.accWrite s0 v1 v2) := by
  unfold State.accWrite
  extract_lets +onlyGivenNames x0
  try clear_value x0
  extract_lets +onlyGivenNames -merge -underBinder x1
  try clear_value x1
  extract_lets +onlyGivenNames -merge x2 x3 x4
  try clear_value x2 x3 x4
  extract_lets +onlyGivenNames x5
  have h6 : Sound z x5 := State.updTile_sound k0
  try clear_value x5
  refine Sound.ite (fun _ => ?_) (fun _ => ?_)
  · exact State.setRowSat_sound h6
  · exact h6

theorem State.mxLoaded_sound {z s0 v1 v2 v3} (k0 : Sound z s0) : Sound z (State.mxLoaded s0 v1 v2 v3) := by
  unfold State.mxLoaded
  extract_lets +onlyGivenNames -merge x0 x1 x2 x3
  try clear_value x0 x1 x2 x3
  exact State.updTile_sound k0

theorem State.drainHalf_sound {z s0 v1 v2 v3 v4} (k0 : Sound z s0) : Sound2 z (State.drainHalf s0 v1 v2 v3 v4) := by
  unfold State.drainHalf
  extract_lets +onlyGivenNames -merge x0 x1 x2
  try clear_value x0 x1 x2
  split
  · refine Sound2.mk ?_
    exact k0
  · refine Sound2.mk ?_
    exact State.send_sound k0

theorem State.mxDrain_sound {z s0 v1 v2 v3 v4 v5} (k0 : Sound z s0) : Sound z (State.mxDrain s0 v1 v2 v3 v4 v5) := by
  unfold State.mxDrain
  extract_lets +onlyGivenNames -merge x0 x1 x2 x3 x4
  try clear_value x0 x1 x2 x3 x4
  split
  · next y5 y6 e =>
    have h7 : Sound z y6 := by
      refine Sound2.of e ?_
      exact State.drainHalf_sound k0
    extract_lets +onlyGivenNames -merge x8 x9 x10 x11
    try clear_value x8 x9 x10 x11
    exact State.sched_sound h7

/-! ### Sluice -/

theorem State.slFlags_sound {z s0 v1 v2} (k0 : Sound z s0) : Sound z (State.slFlags s0 v1 v2) := by
  unfold State.slFlags
  exact State.numFlagIf_sound (State.numFlagIf_sound (State.numFlagIf_sound k0))

theorem State.rescaleMsg_sound {z s0 v1 v2 v3} (k0 : Sound z s0) : Sound z (State.rescaleMsg s0 v1 v2 v3) := by
  unfold State.rescaleMsg
  extract_lets +onlyGivenNames x0
  try clear_value x0
  refine Sound.ite (fun _ => ?_) (fun _ => ?_)
  · exact State.send_sound k0
  · exact k0

theorem State.slPut_sound {z s0 v1 v2 v3 v4 v5 v6} (k0 : Sound z s0) : Sound z (State.slPut s0 v1 v2 v3 v4 v5 v6) := by
  unfold State.slPut
  exact State.sched_sound k0

theorem State.passTwo_sound {z s0 v1 v2 v3 v4 v5} (k0 : Sound z s0) : Sound z (State.passTwo s0 v1 v2 v3 v4 v5) := by
  unfold State.passTwo
  extract_lets +onlyGivenNames -merge x0 x1 x2 x3 x4 x5 x6 x7
  try clear_value x0 x1 x2 x3 x4 x5 x6 x7
  refine Sound.ite (fun _ => ?_) (fun _ => ?_)
  · refine Sound.ite (fun _ => ?_) (fun _ => ?_)
    · exact k0
    · exact State.slPut_sound k0
  · extract_lets +onlyGivenNames -merge x8 x9
    try clear_value x8 x9
    exact State.rescaleMsg_sound (State.slFlags_sound (State.slPut_sound k0))

theorem State.directRow_sound {z s0 v1 v2 v3 v4} (k0 : Sound z s0) : Sound z (State.directRow s0 v1 v2 v3 v4) := by
  unfold State.directRow
  extract_lets +onlyGivenNames -merge x0 x1 x2 x3 x4 x5 x6 x7 x8 x9 x10 x11
  try clear_value x0 x1 x2 x3 x4 x5 x6 x7 x8 x9 x10 x11
  extract_lets +onlyGivenNames x12
  have h13 : Sound z x12 := State.rescaleMsg_sound (State.slFlags_sound (State.slPut_sound k0))
  try clear_value x12
  extract_lets +onlyGivenNames x14
  try clear_value x14
  exact State.updCl_sound h13

theorem State.deliver_sound {z s0 v1 v2 v3 v4 v5} (k0 : Sound z s0) : Sound z (State.deliver s0 v1 v2 v3 v4 v5) := by
  unfold State.deliver
  extract_lets +onlyGivenNames x0
  have h1 : Sound z x0 := by
    unfold x0
    refine Sound.ite (fun _ => ?_) (fun _ => ?_)
    · exact State.sched_sound k0
    · exact k0
  try clear_value x0
  extract_lets +onlyGivenNames -merge x2 x3
  try clear_value x2 x3
  refine Sound.ite (fun _ => ?_) (fun _ => ?_)
  · extract_lets +onlyGivenNames x4
    try clear_value x4
    extract_lets +onlyGivenNames -merge -underBinder x5
    have h6 : Sound z x5 := State.updCl_sound h1
    try clear_value x5
    refine Sound.ite (fun _ => ?_) (fun _ => ?_)
    · exact State.sched_sound h6
    · exact h6
  · extract_lets +onlyGivenNames x7
    try clear_value x7
    exact State.updCl_sound h1

theorem State.slCvRead_sound {z s0 v1 v2} (k0 : Sound z s0) : Sound z (State.slCvRead s0 v1 v2) := by
  unfold State.slCvRead
  extract_lets +onlyGivenNames -merge x0 x1 x2 x3 x4
  try clear_value x0 x1 x2 x3 x4
  exact State.updCl_sound k0

theorem State.slTldDone_sound {z s0 v1 v2} (k0 : Sound z s0) : Sound z (State.slTldDone s0 v1 v2) := by
  unfold State.slTldDone
  extract_lets +onlyGivenNames -merge x0 x1
  try clear_value x0 x1
  extract_lets +onlyGivenNames -merge -underBinder x2
  try clear_value x2
  exact State.updCl_sound k0

theorem State.slZldDone_sound {z s0 v1 v2} (k0 : Sound z s0) : Sound z (State.slZldDone s0 v1 v2) := by
  unfold State.slZldDone
  extract_lets +onlyGivenNames x0
  have h1 : Sound2 z x0 := State.plainBytes_sound k0
  try clear_value x0
  extract_lets +onlyGivenNames x2
  try clear_value x2
  refine State.updCl_sound ?_
  refine Sound2.snd ?_
  exact h1

theorem State.slSeedDone_sound {z s0 v1 v2} (k0 : Sound z s0) : Sound z (State.slSeedDone s0 v1 v2) := by
  unfold State.slSeedDone
  extract_lets +onlyGivenNames -merge x0 x1
  try clear_value x0 x1
  exact State.updCl_sound k0

theorem State.slKlDone_sound {z s0 v1 v2} (k0 : Sound z s0) : Sound z (State.slKlDone s0 v1 v2) := by
  unfold State.slKlDone
  extract_lets +onlyGivenNames x0
  have h1 : Sound2 z x0 := State.plainBytes_sound k0
  try clear_value x0
  refine State.updCl_sound ?_
  refine Sound2.snd ?_
  exact h1

theorem State.slKaRow_sound {z s0 v1 v2 v3 v4 v5} (k0 : Sound z s0) : Sound z (State.slKaRow s0 v1 v2 v3 v4 v5) := by
  unfold State.slKaRow
  extract_lets +onlyGivenNames -merge x0 x1
  try clear_value x0 x1
  extract_lets +onlyGivenNames -merge -underBinder x2
  try clear_value x2
  extract_lets +onlyGivenNames x3
  have h4 : Sound z x3 := State.updCl_sound k0
  try clear_value x3
  extract_lets +onlyGivenNames x5
  have h6 : Sound z x5 := State.numFlagIf_sound h4
  try clear_value x5
  exact State.slPut_sound h6

theorem State.slKuDone_sound {z s0 v1 v2 v3} (k0 : Sound z s0) : Sound z (State.slKuDone s0 v1 v2 v3) := by
  unfold State.slKuDone
  extract_lets +onlyGivenNames x0
  try clear_value x0
  extract_lets +onlyGivenNames -merge -underBinder x1
  try clear_value x1
  extract_lets +onlyGivenNames x2
  try clear_value x2
  extract_lets +onlyGivenNames x3
  have h4 : Sound z x3 := State.updCl_sound k0
  try clear_value x3
  exact State.slPut_sound h4

/-! ### Eddy -/

theorem State.edDone_sound {z s0 v1 v2 v3 v4} (k0 : Sound z s0) : Sound z (State.edDone s0 v1 v2 v3 v4) := by
  unfold State.edDone
  extract_lets +onlyGivenNames -merge x0 x1 x2 x3 x4
  try clear_value x0 x1 x2 x3 x4
  extract_lets +onlyGivenNames x5
  have h6 : Sound z x5 := State.updCl_sound k0
  try clear_value x5
  extract_lets +onlyGivenNames x7
  have h8 : Sound z x7 := State.numFlagIf_sound h6
  try clear_value x7
  refine Sound.ite (fun _ => ?_) (fun _ => ?_)
  · refine Sound.foldl _ (fun q y h9 => ?_) _ ?_
    · extract_lets +onlyGivenNames -merge x10 x11 x12
      try clear_value x10 x11 x12
      extract_lets +onlyGivenNames x13
      have h14 : Sound z x13 := State.numFlagIf_sound h9
      try clear_value x13
      refine Sound.foldl _ (fun q y h15 => ?_) _ ?_
      · exact State.sched_sound h15
      · exact h14
    · exact h8
  · exact h8

theorem State.edMask_sound {z s0 v1 v2 v3} (k0 : Sound z s0) : Sound z (State.edMask s0 v1 v2 v3) := by
  unfold State.edMask
  extract_lets +onlyGivenNames -merge x0 x1
  try clear_value x0 x1
  refine Sound.ite (fun _ => ?_) (fun _ => ?_)
  · exact k0
  · refine Sound.ite (fun _ => ?_) (fun _ => ?_)
    · exact State.sched_sound (State.sched_sound k0)
    · refine Sound.ite (fun _ => ?_) (fun _ => ?_)
      · exact State.stopX_sound k0
      · exact k0

theorem State.edMask2_sound {z s0 v1 v2} (k0 : Sound z s0) : Sound z (State.edMask2 s0 v1 v2) := by
  unfold State.edMask2
  refine Sound.ite (fun _ => ?_) (fun _ => ?_)
  · exact k0
  · refine Sound.ite (fun _ => ?_) (fun _ => ?_)
    · exact State.stopX_sound k0
    · exact k0

/-! ### Vector -/

theorem State.vuWrite_sound {z s0 v1 v2 v3 v4 v5} (k0 : Sound z s0) : Sound z (State.vuWrite s0 v1 v2 v3 v4 v5) := by
  unfold State.vuWrite
  extract_lets +onlyGivenNames -merge -underBinder x0
  have h1 : Sound z x0 := State.updCl_sound k0
  try clear_value x0
  exact State.numFlagIf_sound (State.numFlagIf_sound h1)

theorem State.vuLoad_sound {z s0 v1 v2} (k0 : Sound z s0) : Sound z (State.vuLoad s0 v1 v2) := by
  unfold State.vuLoad
  extract_lets +onlyGivenNames -merge x0 x1 x2 x3 x4 x5 x6
  try clear_value x0 x1 x2 x3 x4 x5 x6
  extract_lets +onlyGivenNames -merge -underBinder x7
  try clear_value x7
  extract_lets +onlyGivenNames -merge -underBinder x8
  try clear_value x8
  exact State.vuWrite_sound k0

theorem State.vuTable_sound {z s0 v1 v2} (k0 : Sound z s0) : Sound z (State.vuTable s0 v1 v2) := by
  unfold State.vuTable
  extract_lets +onlyGivenNames -merge -underBinder x0
  have h4 : Sound2 z x0 := by
    unfold x0
    refine Sound2.foldl _ (fun q y h1 => ?_) _ ?_
    · extract_lets +onlyGivenNames x2
      have h3 : Sound2 z x2 := by
        unfold x2
        refine State.plainBytes_sound ?_
        refine Sound2.snd ?_
        exact h1
      try clear_value x2
      refine Sound2.mk ?_
      refine Sound2.snd ?_
      exact h3
    · refine Sound2.mk ?_
      exact k0
  try clear_value x0
  refine State.updCl_sound ?_
  refine Sound2.snd ?_
  exact h4

/-! ### Stripe -/

theorem State.stRing_sound {z s0 v1 v2} (k0 : Sound z s0) : Sound z (State.stRing s0 v1 v2) := by
  unfold State.stRing
  extract_lets +onlyGivenNames x0
  have h1 : Sound2 z x0 := State.plainBytes_sound k0
  try clear_value x0
  extract_lets +onlyGivenNames x2
  try clear_value x2
  refine Sound.ite (fun _ => ?_) (fun _ => ?_)
  · refine State.stopX_sound ?_
    refine Sound2.snd ?_
    exact h1
  · refine State.updCl_sound ?_
    refine Sound2.snd ?_
    exact h1

theorem State.stWin_sound {z s0 v1 v2 v3 v4 v5} (k0 : Sound z s0) : Sound z (State.stWin s0 v1 v2 v3 v4 v5) := by
  unfold State.stWin
  extract_lets +onlyGivenNames -merge x0 x1 x2
  try clear_value x0 x1 x2
  split
  · exact State.stopX_sound k0
  · extract_lets +onlyGivenNames x3
    have h4 : Sound z x3 := by
      unfold x3
      split
      · exact State.sched_sound k0
      · exact k0
    try clear_value x3
    refine Sound.ite (fun _ => ?_) (fun _ => ?_)
    · extract_lets +onlyGivenNames x5
      try clear_value x5
      extract_lets +onlyGivenNames -merge -underBinder x6
      try clear_value x6
      exact State.sched_sound h4
    · exact h4

theorem State.stWinScale_sound {z s0 v1 v2 v3} (k0 : Sound z s0) : Sound z (State.stWinScale s0 v1 v2 v3) := by
  unfold State.stWinScale
  extract_lets +onlyGivenNames -merge x0 x1
  try clear_value x0 x1
  split
  · extract_lets +onlyGivenNames x2
    try clear_value x2
    extract_lets +onlyGivenNames -merge -underBinder x3
    try clear_value x3
    exact State.numFlagIf_sound k0
  · exact k0

theorem State.stPixel_sound {z s0 v1 v2 v3 v4 v5 v6 v7 v8 v9 v10} (k0 : Sound z s0) : Sound z (State.stPixel s0 v1 v2 v3 v4 v5 v6 v7 v8 v9 v10) := by
  unfold State.stPixel
  extract_lets +onlyGivenNames x0
  try clear_value x0
  exact State.sched_sound k0

theorem State.stRpk_sound {z s0 v1 v2 v3 v4 v5} (k0 : Sound z s0) : Sound z (State.stRpk s0 v1 v2 v3 v4 v5) := by
  unfold State.stRpk
  extract_lets +onlyGivenNames -merge x0 x1 x2 x3
  try clear_value x0 x1 x2 x3
  refine Sound.ite (fun _ => ?_) (fun _ => ?_)
  · exact State.stopX_sound k0
  · extract_lets +onlyGivenNames -merge x4 x5
    try clear_value x4 x5
    extract_lets +onlyGivenNames -merge -underBinder x6
    try clear_value x6
    extract_lets +onlyGivenNames x7
    have h8 : Sound z x7 := State.numFlagIf_sound k0
    try clear_value x7
    extract_lets +onlyGivenNames x9
    try clear_value x9
    exact State.stPixel_sound h8

theorem State.stTrp_sound {z s0 v1 v2 v3 v4 v5} (k0 : Sound z s0) : Sound z (State.stTrp s0 v1 v2 v3 v4 v5) := by
  unfold State.stTrp
  extract_lets +onlyGivenNames -merge x0 x1
  try clear_value x0 x1
  refine Sound.ite (fun _ => ?_) (fun _ => ?_)
  · exact State.stopX_sound k0
  · refine Sound.ite (fun _ => ?_) (fun _ => ?_)
    · exact State.stPixel_sound k0
    · extract_lets +onlyGivenNames x2
      try clear_value x2
      extract_lets +onlyGivenNames -merge -underBinder x3
      try clear_value x3
      extract_lets +onlyGivenNames x4
      have h5 : Sound z x4 := State.numFlagIf_sound k0
      try clear_value x4
      exact State.stPixel_sound h5

/-! ### EdgeEngine -/

theorem State.eeFlagIf_sound {z s0 v1 v2 v3} (k0 : Sound z s0) : Sound z (State.eeFlagIf s0 v1 v2 v3) := by
  unfold State.eeFlagIf
  refine Sound.ite (fun _ => ?_) (fun _ => ?_)
  · exact State.orReg_sound k0
  · exact k0

theorem State.edgePut_sound {z s0 v1 v2 v3 v4 v5 v6 v7} (k0 : Sound z s0) : Sound z (State.edgePut s0 v1 v2 v3 v4 v5 v6 v7) := by
  unfold State.edgePut
  extract_lets +onlyGivenNames x0
  try clear_value x0
  extract_lets +onlyGivenNames x1
  have h2 : Sound z x1 := State.sched_sound k0
  try clear_value x1
  extract_lets +onlyGivenNames x3
  have h4 : Sound z x3 := State.eeFlagIf_sound (State.eeFlagIf_sound (State.eeFlagIf_sound h2))
  try clear_value x3
  refine Sound.ite (fun _ => ?_) (fun _ => ?_)
  · exact State.send_sound h4
  · exact h4

theorem State.edgeVals_sound {z s0 v1 v2 v3 v4 v5} (k0 : Sound z s0) : Sound2 z (State.edgeVals s0 v1 v2 v3 v4 v5) := by
  unfold State.edgeVals
  extract_lets +onlyGivenNames x0
  try clear_value x0
  refine Sound2.foldl _ (fun q y h1 => ?_) _ ?_
  · extract_lets +onlyGivenNames x2
    try clear_value x2
    refine Sound2.mk ?_
    refine State.eeFlagIf_sound ?_
    refine State.eeFlagIf_sound ?_
    refine Sound2.snd ?_
    exact h1
  · refine Sound2.mk ?_
    exact k0

theorem State.edgePixel_sound {z s0 v1 v2 v3 v4 v5 v6} (k0 : Sound z s0) : Sound z (State.edgePixel s0 v1 v2 v3 v4 v5 v6) := by
  unfold State.edgePixel
  extract_lets +onlyGivenNames -merge x0 x1 x2
  try clear_value x0 x1 x2
  refine Sound.ite (fun _ => ?_) (fun _ => ?_)
  · split
    · next y3 y4 e =>
      have h5 : Sound z y4 := by
        refine Sound2.of e ?_
        exact State.edgeVals_sound k0
      refine Sound.ite (fun _ => ?_) (fun _ => ?_)
      · refine Sound.foldl _ (fun q y h6 => ?_) _ ?_
        · extract_lets +onlyGivenNames -merge x7 x8 x9 x10 x11 x12 x13
          try clear_value x7 x8 x9 x10 x11 x12 x13
          exact State.edgePut_sound h6
        · exact h5
      · exact h5
  · split
    · next y14 y15 e =>
      have h16 : Sound z y15 := by
        refine Sound2.of e ?_
        exact State.edgeVals_sound k0
      extract_lets +onlyGivenNames -merge x17 x18 x19 x20
      try clear_value x17 x18 x19 x20
      extract_lets +onlyGivenNames -merge -underBinder x21
      try clear_value x21
      extract_lets +onlyGivenNames -merge x22 x23
      try clear_value x22 x23
      exact State.edgePut_sound h16

theorem State.edgeStop_sound {z s0 v1 v2 v3} (k0 : Sound z s0) : Sound z (State.edgeStop s0 v1 v2 v3) := by
  unfold State.edgeStop
  extract_lets +onlyGivenNames x0
  try clear_value x0
  exact State.stopX_sound (State.setFld_sound (State.setFld_sound k0))

theorem State.edgeStart_sound {z s0 v1 v2 v3} (k0 : Sound z s0) : Sound z (State.edgeStart s0 v1 v2 v3) := by
  unfold State.edgeStart
  extract_lets +onlyGivenNames x0
  try clear_value x0
  refine Sound.ite (fun _ => ?_) (fun _ => ?_)
  · exact State.edgeStop_sound k0
  · refine Sound.ite (fun _ => ?_) (fun _ => ?_)
    · exact State.edgeStop_sound k0
    · exact State.sched_sound k0

theorem State.edgeStep_sound {z s0 v1 v2 v3 v4} (k0 : Sound z s0) : Sound z (State.edgeStep s0 v1 v2 v3 v4) := by
  unfold State.edgeStep
  extract_lets +onlyGivenNames -merge x0 x1 x2
  try clear_value x0 x1 x2
  refine Sound.ite (fun _ => ?_) (fun _ => ?_)
  · refine Sound.ite (fun _ => ?_) (fun _ => ?_)
    · exact State.edgeStop_sound k0
    · exact State.sched_sound (State.sched_sound k0)
  · extract_lets +onlyGivenNames x3
    have h4 : Sound z x3 := State.edgePixel_sound k0
    try clear_value x3
    refine Sound.ite (fun _ => ?_) (fun _ => ?_)
    · exact State.sched_sound h4
    · exact h4

/-! ### Hbm -/

theorem State.hbNote_sound {z s0 v1 v2} (k0 : Sound z s0) : Sound z (State.hbNote s0 v1 v2) := by
  unfold State.hbNote
  refine Sound.ite (fun _ => ?_) (fun _ => ?_)
  · exact k0
  · extract_lets +onlyGivenNames -merge x0 x1 x2
    try clear_value x0 x1 x2
    extract_lets +onlyGivenNames x3
    have h4 : Sound z x3 := State.bump_sound k0
    try clear_value x3
    extract_lets +onlyGivenNames x5
    have h6 : Sound z x5 := State.bump_sound h4
    try clear_value x5
    extract_lets +onlyGivenNames x7
    have h8 : Sound z x7 := State.bump_sound h6
    try clear_value x7
    extract_lets +onlyGivenNames x9
    try clear_value x9
    extract_lets +onlyGivenNames x10
    have h11 : Sound z x10 := State.setReg_sound h8
    try clear_value x10
    extract_lets +onlyGivenNames x12
    have h13 : Sound z x12 := State.setReg_sound h11
    try clear_value x12
    refine Sound.foldl _ (fun q y h14 => ?_) _ ?_
    · refine Sound.ite (fun _ => ?_) (fun _ => ?_)
      · split
        · exact h14
        · refine Sound.ite (fun _ => ?_) (fun _ => ?_)
          · refine Sound.ite (fun _ => ?_) (fun _ => ?_)
            · exact h14
            · extract_lets +onlyGivenNames x15
              have h16 : Sound z x15 := State.send_sound h14
              try clear_value x15
              exact Sound.same h16 rfl rfl rfl rfl rfl
          · exact State.send_sound h14
      · exact h14
    · exact h13

theorem State.hubNote_sound {z s0 v1 v2 v3} (k0 : Sound z s0) : Sound z (State.hubNote s0 v1 v2 v3) := by
  unfold State.hubNote
  refine Sound.foldl _ (fun q y h0 => ?_) _ ?_
  · refine Sound.ite (fun _ => ?_) (fun _ => ?_)
    · split
      · exact h0
      · exact State.send_sound h0
    · exact h0
  · exact k0

theorem State.unitNote_sound {z s0 v1 v2 v3} (k0 : Sound z s0) : Sound z (State.unitNote s0 v1 v2 v3) := by
  unfold State.unitNote
  refine Sound.ite (fun _ => ?_) (fun _ => ?_)
  · exact State.hbNote_sound k0
  · refine Sound.ite (fun _ => ?_) (fun _ => ?_)
    · exact State.hubNote_sound k0
    · exact k0

theorem State.hubRead_sound {z s0 v1 v2 v3} (k0 : Sound z s0) : Sound2 z (State.hubRead s0 v1 v2 v3) := by
  unfold State.hubRead
  extract_lets +onlyGivenNames -merge x0 x1
  try clear_value x0 x1
  refine Sound2.mk ?_
  refine Sound.foldl _ (fun q y h2 => ?_) _ ?_
  · exact State.unitNote_sound h2
  · exact k0

theorem State.hubWrite_sound {z s0 v1 v2 v3} (k0 : Sound z s0) : Sound z (State.hubWrite s0 v1 v2 v3) := by
  unfold State.hubWrite
  refine Sound.foldl _ (fun q y h0 => ?_) _ ?_
  · extract_lets +onlyGivenNames -merge x1 x2 x3
    try clear_value x1 x2 x3
    split
    · next y4 y5 e =>
      have h6 : Sound z y4 := by
        refine SoundL.of e ?_
        exact State.writeNibs_sound h0
      extract_lets +onlyGivenNames -merge -underBinder x7 x8
      have h9 : Sound z x8 := by
        unfold x8
        refine Sound.ite (fun _ => ?_) (fun _ => ?_)
        · exact Sound.same h6 rfl rfl rfl rfl rfl
        · exact h6
      try clear_value x8
      exact State.unitNote_sound h9
  · exact k0

theorem State.hubPut_sound {z s0 v1 v2 v3} (k0 : Sound z s0) : Sound z (State.hubPut s0 v1 v2 v3) := by
  unfold State.hubPut
  exact State.hubWrite_sound k0

theorem State.calRefused_sound {z s0 v1} (k0 : Sound z s0) : Sound z (State.calRefused s0 v1) := by
  unfold State.calRefused
  exact State.send_sound k0

theorem State.hbConfig_sound {z s0 v1} (k0 : Sound z s0) : Sound z (State.hbConfig s0 v1) := by
  unfold State.hbConfig
  exact State.sendEv_sound k0

theorem doHbPaircls_sound {z v0 v1 s2} (k2 : Sound z s2) : Sound z (doHbPaircls v0 v1 s2) := by
  unfold doHbPaircls
  extract_lets +onlyGivenNames -merge x0 x1 x2
  try clear_value x0 x1 x2
  refine Sound.ite (fun _ => ?_) (fun _ => ?_)
  · exact State.setReg_sound k2
  · exact State.hbConfig_sound k2

theorem doHbCal_sound {z v0 v1 s2} (k2 : Sound z s2) : Sound z (doHbCal v0 v1 s2) := by
  unfold doHbCal
  refine Sound.ite (fun _ => ?_) (fun _ => ?_)
  · extract_lets +onlyGivenNames x0
    try clear_value x0
    extract_lets +onlyGivenNames -merge -underBinder x1 x2
    have h3 : Sound z x2 := by
      unfold x2
      refine Sound.ite (fun _ => ?_) (fun _ => ?_)
      · exact Sound.same k2 rfl rfl rfl rfl rfl
      · exact k2
    try clear_value x2
    exact State.setFld_sound h3
  · exact State.hbConfig_sound k2

theorem State.setHbQueue_sound {z s0 v1 v2} (k0 : Sound z s0) : Sound z (State.setHbQueue s0 v1 v2) := by
  unfold State.setHbQueue
  exact Sound.same k0 rfl rfl rfl rfl rfl

theorem doPieceArrival_sound {z v0 v1 v2 s3} (k3 : Sound z s3) : Sound z (doPieceArrival v0 v1 v2 s3) := by
  unfold doPieceArrival
  refine Sound.ite (fun _ => ?_) (fun _ => ?_)
  · exact k3
  · extract_lets +onlyGivenNames x0
    try clear_value x0
    refine Sound.ite (fun _ => ?_) (fun _ => ?_)
    · exact State.calRefused_sound k3
    · extract_lets +onlyGivenNames -merge x1 x2 x3 x4 x5
      try clear_value x1 x2 x3 x4 x5
      extract_lets +onlyGivenNames x6
      have h7 : Sound z x6 := State.setHbQueue_sound k3
      try clear_value x6
      exact Sound.same h7 rfl rfl rfl rfl rfl

theorem State.aggressor_sound {z s0 v1 v2 v3} (k0 : Sound z s0) : Sound z (State.aggressor s0 v1 v2 v3) := by
  unfold State.aggressor
  extract_lets +onlyGivenNames -merge x0 x1
  try clear_value x0 x1
  refine Sound.ite (fun _ => ?_) (fun _ => ?_)
  · extract_lets +onlyGivenNames -merge -underBinder x2 x3
    have h4 : Sound z x3 := Sound.same k0 rfl rfl rfl rfl rfl
    try clear_value x3
    refine Sound.ite (fun _ => ?_) (fun _ => ?_)
    · exact State.setFld_sound h4
    · exact h4
  · extract_lets +onlyGivenNames -merge -underBinder x5 x6
    have h7 : Sound z x6 := Sound.same k0 rfl rfl rfl rfl rfl
    try clear_value x6
    extract_lets +onlyGivenNames x8
    have h9 : Sound z x8 := State.bump_sound h7
    try clear_value x8
    refine Sound.ite (fun _ => ?_) (fun _ => ?_)
    · exact h9
    · extract_lets +onlyGivenNames x10
      have h11 : Sound z x10 := State.sendEv_sound h9
      try clear_value x10
      exact Sound.same h11 rfl rfl rfl rfl rfl

theorem State.activate_sound {z s0 v1 v2 v3} (k0 : Sound z s0) : Sound z (State.activate s0 v1 v2 v3) := by
  unfold State.activate
  extract_lets +onlyGivenNames -merge x0 x1
  try clear_value x0 x1
  extract_lets +onlyGivenNames -merge -underBinder x2
  try clear_value x2
  extract_lets +onlyGivenNames -merge x3 x4 x5
  try clear_value x3 x4 x5
  extract_lets +onlyGivenNames -merge -underBinder x6 x7
  have h8 : Sound z x7 := Sound.same k0 rfl rfl rfl rfl rfl
  try clear_value x7
  refine Sound.ite (fun _ => ?_) (fun _ => ?_)
  · exact State.aggressor_sound h8
  · exact h8

theorem State.turnStart_sound {z s0 v1} (k0 : Sound z s0) : Sound z (State.turnStart s0 v1) := by
  unfold State.turnStart
  extract_lets +onlyGivenNames x0
  have h1 : Sound z x0 := State.setFld_sound k0
  try clear_value x0
  exact Sound.same h1 rfl rfl rfl rfl rfl

theorem doDataTurn_sound {z v0 s1} (k1 : Sound z s1) : Sound z (doDataTurn v0 s1) := by
  unfold doDataTurn
  refine Sound.ite (fun _ => ?_) (fun _ => ?_)
  · exact k1
  · extract_lets +onlyGivenNames x0
    have h1 : Sound z x0 := State.turnStart_sound k1
    try clear_value x0
    extract_lets +onlyGivenNames -merge x2 x3 x4
    try clear_value x2 x3 x4
    refine Sound.ite (fun _ => ?_) (fun _ => ?_)
    · exact h1
    · refine Sound.foldl _ (fun q y h5 => ?_) _ ?_
      · extract_lets +onlyGivenNames -merge x6 x7
        try clear_value x6 x7
        split
        · exact h5
        · extract_lets +onlyGivenNames x8
          try clear_value x8
          exact State.activate_sound (State.setHbQueue_sound h5)
      · exact h1

theorem State.precharge_sound {z s0} (k0 : Sound z s0) : Sound z (State.precharge s0) := by
  unfold State.precharge
  exact Sound.same k0 rfl rfl rfl rfl rfl

theorem doNormalServe_sound {z v0 s1} (k1 : Sound z s1) : Sound z (doNormalServe v0 s1) := by
  unfold doNormalServe
  refine Sound.ite (fun _ => ?_) (fun _ => ?_)
  · exact k1
  · split
    · exact k1
    · extract_lets +onlyGivenNames x0
      try clear_value x0
      extract_lets +onlyGivenNames x1
      have h2 : Sound z x1 := State.setHbQueue_sound k1
      try clear_value x1
      extract_lets +onlyGivenNames -merge x3 x4 x5 x6 x7
      try clear_value x3 x4 x5 x6 x7
      extract_lets +onlyGivenNames -merge -underBinder x8 x9
      have h10 : Sound z x9 := Sound.same h2 rfl rfl rfl rfl rfl
      try clear_value x9
      refine Sound.ite (fun _ => ?_) (fun _ => ?_)
      · exact h10
      · exact State.activate_sound h10

theorem doRefTurn_sound {z v0 s1} (k1 : Sound z s1) : Sound z (doRefTurn v0 s1) := by
  unfold doRefTurn
  refine Sound.ite (fun _ => ?_) (fun _ => ?_)
  · exact k1
  · extract_lets +onlyGivenNames x0
    have h1 : Sound z x0 := State.precharge_sound (State.turnStart_sound k1)
    try clear_value x0
    extract_lets +onlyGivenNames -merge x2 x3
    try clear_value x2 x3
    extract_lets +onlyGivenNames -merge -underBinder x4 x5
    have h6 : Sound z x5 := Sound.same h1 rfl rfl rfl rfl rfl
    try clear_value x5
    refine Sound.ite (fun _ => ?_) (fun _ => ?_)
    · exact Sound.same h6 rfl rfl rfl rfl rfl
    · exact h6

theorem State.serveAggr_sound {z s0 v1} (k0 : Sound z s0) : Sound z (State.serveAggr s0 v1) := by
  unfold State.serveAggr
  extract_lets +onlyGivenNames -merge x0 x1 x2 x3 x4
  try clear_value x0 x1 x2 x3 x4
  extract_lets +onlyGivenNames -merge -underBinder x5
  try clear_value x5
  extract_lets +onlyGivenNames -merge -underBinder x6 x7
  have h8 : Sound z x7 := Sound.same k0 rfl rfl rfl rfl rfl
  try clear_value x7
  extract_lets +onlyGivenNames x9
  try clear_value x9
  exact State.setFld_sound h8

theorem doTrrTurn_sound {z v0 s1} (k1 : Sound z s1) : Sound z (doTrrTurn v0 s1) := by
  unfold doTrrTurn
  refine Sound.ite (fun _ => ?_) (fun _ => ?_)
  · exact k1
  · refine Sound.foldl _ (fun q y h0 => ?_) _ ?_
    · refine Sound.ite (fun _ => ?_) (fun _ => ?_)
      · exact h0
      · exact State.serveAggr_sound h0
    · exact State.precharge_sound (State.turnStart_sound k1)

theorem doScrubTurn_sound {z v0 s1} (k1 : Sound z s1) : Sound z (doScrubTurn v0 s1) := by
  unfold doScrubTurn
  refine Sound.ite (fun _ => k1) (fun _ => ?_)
  extract_lets +onlyGivenNames x0
  have h1 : Sound z x0 := State.precharge_sound (State.turnStart_sound k1)
  clear_value x0
  refine Sound.ite (fun _ => h1) (fun _ => ?_)
  split
  extract_lets +onlyGivenNames -merge x2 x3 x4
  clear_value x2 x3 x4
  extract_lets +onlyGivenNames -merge -underBinder x5
  have h9 : Sound z x5 := by
    unfold x5
    refine Sound.foldl _ (fun q y h6 => ?_) _ h1
    extract_lets +onlyGivenNames -merge x7 x8
    refine State.hbNote_sound ⟨h6.queue, h6.clock, h6.fresh, h6.memory, fun h => ?_⟩
    refine marks_wf_foldl _ _ (fun t e ht => ?_) _ (h6.marks h)
    split
    · exact marks_wf_set ht _ _
    · exact marks_wf_set ht _ _
    · exact ht
  clear_value x5
  exact Sound.same h9 rfl rfl rfl rfl rfl

theorem State.failWrite_sound {z s0 v1 v2} (k0 : Sound z s0) : Sound z (State.failWrite s0 v1 v2) := by
  unfold State.failWrite
  extract_lets +onlyGivenNames x0
  try clear_value x0
  refine Sound.foldl _ (fun q y h1 => ?_) _ ?_
  · extract_lets +onlyGivenNames -merge x2 x3
    try clear_value x2 x3
    refine Sound.ite (fun _ => ?_) (fun _ => ?_)
    · exact h1
    · refine Sound.ite (fun _ => ?_) (fun _ => ?_)
      · exact Sound.same h1 rfl rfl rfl rfl rfl
      · exact State.sendSev_sound h1
  · exact k0

theorem doHbmLinkRetry_sound {z v0 s1} (k1 : Sound z s1) : Sound z (doHbmLinkRetry v0 s1) := by
  unfold doHbmLinkRetry
  split
  · exact k1
  · extract_lets +onlyGivenNames x0
    try clear_value x0
    refine Sound.ite (fun _ => ?_) (fun _ => ?_)
    · exact State.sendEv_sound (State.setHbQueue_sound k1)
    · extract_lets +onlyGivenNames x1
      have h2 : Sound z x1 := State.setHbQueue_sound k1
      try clear_value x1
      extract_lets +onlyGivenNames x3
      have h4 : Sound z x3 := State.setReg_sound h2
      try clear_value x3
      extract_lets +onlyGivenNames x5
      have h6 : Sound z x5 := State.setReg_sound h4
      try clear_value x5
      extract_lets +onlyGivenNames x7
      have h8 : Sound z x7 := State.sendEv_sound h6
      try clear_value x7
      refine Sound.ite (fun _ => ?_) (fun _ => ?_)
      · exact State.failWrite_sound h8
      · exact h8

theorem State.level_sound {z s0 v1 v2 v3 v4 v5} (k0 : Sound z s0) : Sound z (State.level s0 v1 v2 v3 v4 v5) := by
  unfold State.level
  refine Sound.ite (fun _ => ?_) (fun _ => ?_)
  · exact k0
  · exact State.send_sound k0

theorem doHbmTempRead_sound {z v0 v1 s2} (k2 : Sound z s2) : Sound z (doHbmTempRead v0 v1 s2) := by
  unfold doHbmTempRead
  extract_lets +onlyGivenNames x0
  have h1 : Sound z x0 := State.setFld_sound k2
  try clear_value x0
  extract_lets +onlyGivenNames -merge x2 x3
  try clear_value x2 x3
  extract_lets +onlyGivenNames x4
  have h5 : Sound z x4 := State.level_sound h1
  try clear_value x4
  extract_lets +onlyGivenNames x6
  have h7 : Sound z x6 := State.level_sound h5
  try clear_value x6
  exact Sound.same h7 rfl rfl rfl rfl rfl

theorem doGo_sound {z v0 v1 s2} (k2 : Sound z s2) : Sound z (doGo v0 v1 s2) := by
  unfold doGo
  extract_lets +onlyGivenNames x0
  try clear_value x0
  extract_lets +onlyGivenNames -merge -underBinder x1
  have h10 : Sound z x1 := by
    unfold x1
    split
    · extract_lets +onlyGivenNames x2
      have h3 : Sound z x2 := State.setReg_sound k2
      try clear_value x2
      exact Sound.same h3 rfl rfl rfl rfl rfl
    · extract_lets +onlyGivenNames x4
      try clear_value x4
      extract_lets +onlyGivenNames x5
      have h6 : Sound z x5 := State.setReg_sound k2
      try clear_value x5
      extract_lets +onlyGivenNames -merge -underBinder x7 x8
      have h9 : Sound z x8 := Sound.same h6 rfl rfl rfl rfl rfl
      try clear_value x8
      refine Sound.ite (fun _ => ?_) (fun _ => ?_)
      · exact State.sendEv_sound h9
      · exact h9
  try clear_value x1
  extract_lets +onlyGivenNames x11
  exact State.setFld_sound h10

theorem doSrenter_sound {z s0} (k0 : Sound z s0) : Sound z (doSrenter s0) := by
  unfold doSrenter
  refine Sound.ite (fun _ => ?_) (fun _ => ?_)
  · exact State.hbConfig_sound k0
  · refine Sound.ite (fun _ => ?_) (fun _ => ?_)
    · exact k0
    · extract_lets +onlyGivenNames -merge -underBinder x0
      have h3 : Sound z x0 := by
        unfold x0
        refine Sound.foldl _ (fun q y h1 => ?_) _ ?_
        · extract_lets +onlyGivenNames x2
          try clear_value x2
          exact State.setFld_sound h1
        · exact k0
      try clear_value x0
      extract_lets +onlyGivenNames x4
      try clear_value x4
      extract_lets +onlyGivenNames x5
      have h6 : Sound z x5 := Sound.same h3 rfl rfl rfl rfl rfl
      try clear_value x5
      exact State.setFld_sound h6

theorem doSrexit_sound {z s0} (k0 : Sound z s0) : Sound z (doSrexit s0) := by
  unfold doSrexit
  refine Sound.ite (fun _ => ?_) (fun _ => ?_)
  · extract_lets +onlyGivenNames x0
    have h1 : Sound z x0 := State.setFld_sound (State.setFld_sound k0)
    try clear_value x0
    exact Sound.same h1 rfl rfl rfl rfl rfl
  · exact k0

/-! ### Kv -/

theorem State.hbmNat_sound {z s0 v1 v2} (k0 : Sound z s0) : Sound2 z (State.hbmNat s0 v1 v2) := by
  unfold State.hbmNat
  split
  · next y0 y1 e =>
    have h2 : Sound z y1 := by
      refine Sound2.of e ?_
      exact State.hubRead_sound k0
    refine Sound2.mk ?_
    exact h2

theorem State.kvCount_sound {z s0 v1} (k0 : Sound z s0) : Sound2 z (State.kvCount s0 v1) := by
  unfold State.kvCount
  exact State.hbmNat_sound k0

theorem State.kvSetCount_sound {z s0 v1 v2} (k0 : Sound z s0) : Sound z (State.kvSetCount s0 v1 v2) := by
  unfold State.kvSetCount
  exact State.hubPut_sound k0

theorem State.kvSetFree_sound {z s0 v1} (k0 : Sound z s0) : Sound z (State.kvSetFree s0 v1) := by
  unfold State.kvSetFree
  exact State.setReg_sound (Sound.same k0 rfl rfl rfl rfl rfl)

theorem State.kvGiveBack_sound {z s0 v1} (k0 : Sound z s0) : Sound z (State.kvGiveBack s0 v1) := by
  unfold State.kvGiveBack
  refine Sound.ite (fun _ => ?_) (fun _ => ?_)
  · exact k0
  · exact State.kvSetFree_sound k0

theorem State.kvQuarantine_sound {z s0 v1} (k0 : Sound z s0) : Sound z (State.kvQuarantine s0 v1) := by
  unfold State.kvQuarantine
  extract_lets +onlyGivenNames x0
  have h1 : Sound z x0 := State.kvSetFree_sound k0
  try clear_value x0
  exact Sound.same h1 rfl rfl rfl rfl rfl

theorem doKvInit_sound {z s} (k : Sound z s) : Sound z (doKvInit s) := by
  unfold doKvInit
  refine Sound.ite (fun _ => k) (fun _ => State.kvSetFree_sound ?_)
  exact ⟨k.queue, k.clock, k.fresh, fun h => memory_wf_filter (k.memory h) _, fun h => marks_wf_filter (k.marks h) _⟩

theorem State.pte_sound {z s0 v1 v2 v3} (k0 : Sound z s0) : Sound2 z (State.pte s0 v1 v2 v3) := by
  unfold State.pte
  split
  · next y0 y1 e =>
    have h2 : Sound z y1 := by
      refine Sound2.of e ?_
      exact State.hbmNat_sound k0
    refine Sound2.mk ?_
    exact h2

theorem State.setPte_sound {z s0 v1 v2 v3 v4 v5} (k0 : Sound z s0) : Sound z (State.setPte s0 v1 v2 v3 v4 v5) := by
  unfold State.setPte
  extract_lets +onlyGivenNames x0
  have h1 : Sound z x0 := State.hubPut_sound k0
  try clear_value x0
  extract_lets +onlyGivenNames -merge x2 x3
  try clear_value x2 x3
  refine Sound.ite (fun _ => ?_) (fun _ => ?_)
  · exact h1
  · exact State.setFld_sound h1

theorem State.kvRefuse_sound {z s0 v1 v2 v3} (k0 : Sound z s0) : Sound z (State.kvRefuse s0 v1 v2 v3) := by
  unfold State.kvRefuse
  exact State.send_sound (State.setFld_sound k0)

theorem State.ptes_sound {z s ctx hg tb n} (k : Sound z s) : Sound2 z (State.ptes s ctx hg tb n) := by
  induction n generalizing s tb with
  | zero => exact k
  | succ n ih =>
    unfold State.ptes
    split
    next v t e =>
    have ht : Sound z t := Sound2.of e (State.pte_sound k)
    split
    · exact Sound2.mk (State.kvQuarantine_sound ht)
    · split
      next r u e =>
      exact Sound2.mk (Sound2.of e (ih ht))

theorem State.kvCounts_sound {z s l} (k : Sound z s) : Sound2 z (State.kvCounts s l) := by
  induction l generalizing s with
  | nil => exact k
  | cons n r ih =>
    unfold State.kvCounts
    split
    next v t e =>
    have ht : Sound z t := Sound2.of e (State.kvCount_sound k)
    split
    · exact Sound2.mk (State.kvQuarantine_sound ht)
    · split
      next r u e =>
      exact Sound2.mk (Sound2.of e (ih ht))

theorem State.kvDrop_sound {z s0 v1 v2 v3} (k0 : Sound z s0) : Sound z (State.kvDrop s0 v1 v2 v3) := by
  unfold State.kvDrop
  extract_lets +onlyGivenNames x0
  have h1 : Sound z x0 := State.kvSetCount_sound k0
  try clear_value x0
  refine Sound.ite (fun _ => ?_) (fun _ => ?_)
  · exact State.kvGiveBack_sound h1
  · exact h1

theorem State.kvShare_sound {z s0 v1 v2 v3 v4 v5 v6 v7 v8} (k0 : Sound z s0) : Sound2 z (State.kvShare s0 v1 v2 v3 v4 v5 v6 v7 v8) := by
  unfold State.kvShare
  extract_lets +onlyGivenNames x0
  try clear_value x0
  refine Sound2.ite (fun _ => ?_) (fun _ => ?_)
  · refine Sound2.mk ?_
    exact State.kvRefuse_sound k0
  · refine Sound2.ite (fun _ => ?_) (fun _ => ?_)
    · refine Sound2.mk ?_
      exact State.kvRefuse_sound k0
    · split
      · next y1 y2 e =>
        have h3 : Sound z y2 := by
          refine Sound2.of e ?_
          exact State.ptes_sound k0
        split
        · next y4 y5 e =>
          have h6 : Sound z y5 := by
            refine Sound2.of e ?_
            exact State.ptes_sound h3
          split
          · extract_lets +onlyGivenNames x7
            try clear_value x7
            split
            · next y8 y9 e =>
              have h10 : Sound z y9 := by
                refine Sound2.of e ?_
                exact State.kvCounts_sound h6
              split
              · refine Sound2.mk ?_
                exact State.kvRefuse_sound h10
              · extract_lets +onlyGivenNames x11
                try clear_value x11
                refine Sound2.ite (fun _ => ?_) (fun _ => ?_)
                · refine Sound2.mk ?_
                  exact State.kvRefuse_sound h10
                · extract_lets +onlyGivenNames x12
                  have h14 : Sound z x12 := by
                    unfold x12
                    refine Sound.foldl _ (fun q y h13 => ?_) _ ?_
                    · exact State.kvSetCount_sound h13
                    · exact h10
                  try clear_value x12
                  refine Sound2.mk ?_
                  refine Sound.foldl _ (fun q y h15 => ?_) _ ?_
                  · exact State.setPte_sound h15
                  · exact h14
          · refine Sound2.mk ?_
            exact State.kvRefuse_sound h6

theorem State.kvRelease_sound {z s0 v1 v2 v3 v4 v5} (k0 : Sound z s0) : Sound2 z (State.kvRelease s0 v1 v2 v3 v4 v5) := by
  unfold State.kvRelease
  split
  · next y0 y1 e =>
    have h2 : Sound z y1 := by
      refine Sound2.of e ?_
      exact State.ptes_sound k0
    split
    · refine Sound2.mk ?_
      exact State.kvRefuse_sound h2
    · extract_lets +onlyGivenNames -merge x3 x4
      try clear_value x3 x4
      split
      · next y5 y6 e =>
        have h7 : Sound z y6 := by
          refine Sound2.of e ?_
          exact State.kvCounts_sound h2
        split
        · refine Sound2.mk ?_
          exact State.kvRefuse_sound h7
        · extract_lets +onlyGivenNames x8
          have h10 : Sound z x8 := by
            unfold x8
            refine Sound.foldl _ (fun q y h9 => ?_) _ ?_
            · exact State.setPte_sound h9
            · exact h7
          try clear_value x8
          refine Sound2.mk ?_
          refine Sound.foldl _ (fun q y h11 => ?_) _ ?_
          · exact State.kvDrop_sound h11
          · exact h10

theorem State.kvTruncate_sound {z s0 v1 v2 v3 v4} (k0 : Sound z s0) : Sound2 z (State.kvTruncate s0 v1 v2 v3 v4) := by
  unfold State.kvTruncate
  extract_lets +onlyGivenNames -merge x0 x1
  try clear_value x0 x1
  refine Sound2.ite (fun _ => ?_) (fun _ => ?_)
  · exact State.kvRelease_sound k0
  · split
    · next y2 y3 e =>
      have h4 : Sound z y3 := by
        refine Sound2.of e ?_
        exact State.pte_sound k0
      split
      · refine Sound2.mk ?_
        exact State.kvRefuse_sound (State.kvQuarantine_sound h4)
      · split
        · next y5 y6 e =>
          have h7 : Sound z y6 := by
            refine Sound2.of e ?_
            exact State.kvRelease_sound h4
          refine Sound2.mk ?_
          refine Sound.ite (fun _ => ?_) (fun _ => ?_)
          · exact State.setPte_sound h7
          · exact h7

theorem State.kvTake_sound {z s0} (k0 : Sound z s0) : Sound2 z (State.kvTake s0) := by
  unfold State.kvTake
  split
  · refine Sound2.mk ?_
    exact k0
  · split
    · next y0 y1 e =>
      have h2 : Sound z y1 := by
        refine Sound2.of e ?_
        exact State.hbmNat_sound k0
      split
      · refine Sound2.mk ?_
        exact State.kvQuarantine_sound h2
      · refine Sound2.mk ?_
        exact State.kvSetFree_sound h2

theorem State.kvCopyPage_sound {z s0 v1 v2} (k0 : Sound z s0) : Sound z (State.kvCopyPage s0 v1 v2) := by
  unfold State.kvCopyPage
  split
  · next y0 y1 e =>
    have h2 : Sound z y1 := by
      refine Sound2.of e ?_
      exact State.hubRead_sound k0
    split
    · next y3 y4 e =>
      have h5 : Sound z y4 := by
        refine Sound2.of e ?_
        exact State.hubRead_sound h2
      exact State.hubWrite_sound (State.hubWrite_sound h5)

theorem State.kvPageFor_sound {z s0 v1 v2 v3 v4 v5 v6} (k0 : Sound z s0) : Sound2 z (State.kvPageFor s0 v1 v2 v3 v4 v5 v6) := by
  unfold State.kvPageFor
  refine Sound2.ite (fun _ => ?_) (fun _ => ?_)
  · refine Sound2.ite (fun _ => ?_) (fun _ => ?_)
    · refine Sound2.mk ?_
      exact State.kvRefuse_sound k0
    · split
      · next y0 e =>
        have h1 : Sound z y0 := by
          refine Sound2.of e ?_
          exact State.kvTake_sound k0
        refine Sound2.mk ?_
        exact State.kvRefuse_sound h1
      · next y2 y3 e =>
        have h4 : Sound z y3 := by
          refine Sound2.of e ?_
          exact State.kvTake_sound k0
        refine Sound2.mk ?_
        exact State.kvRefuse_sound h4
      · next y5 y6 e =>
        have h7 : Sound z y6 := by
          refine Sound2.of e ?_
          exact State.kvTake_sound k0
        refine Sound2.mk ?_
        exact State.setPte_sound (State.kvSetCount_sound h7)
  · refine Sound2.ite (fun _ => ?_) (fun _ => ?_)
    · refine Sound2.mk ?_
      exact State.kvRefuse_sound k0
    · split
      · next y8 y9 e =>
        have h10 : Sound z y9 := by
          refine Sound2.of e ?_
          exact State.kvCount_sound k0
        split
        · refine Sound2.mk ?_
          exact State.kvRefuse_sound (State.kvQuarantine_sound h10)
        · refine Sound2.ite (fun _ => ?_) (fun _ => ?_)
          · refine Sound2.mk ?_
            exact h10
          · split
            · next y11 e =>
              have h12 : Sound z y11 := by
                refine Sound2.of e ?_
                exact State.kvTake_sound h10
              refine Sound2.mk ?_
              exact State.kvRefuse_sound h12
            · next y13 y14 e =>
              have h15 : Sound z y14 := by
                refine Sound2.of e ?_
                exact State.kvTake_sound h10
              refine Sound2.mk ?_
              exact State.kvRefuse_sound h15
            · next y16 y17 e =>
              have h18 : Sound z y17 := by
                refine Sound2.of e ?_
                exact State.kvTake_sound h10
              extract_lets +onlyGivenNames x19
              have h20 : Sound z x19 := State.kvSetCount_sound (State.kvSetCount_sound (State.kvCopyPage_sound h18))
              try clear_value x19
              refine Sound2.mk ?_
              exact State.setPte_sound h20

theorem State.kvWrite_sound {z s0 v1 v2 v3 v4 v5 v6 v7 v8} (k0 : Sound z s0) : Sound2 z (State.kvWrite s0 v1 v2 v3 v4 v5 v6 v7 v8) := by
  unfold State.kvWrite
  refine Sound2.ite (fun _ => ?_) (fun _ => ?_)
  · refine Sound2.mk ?_
    exact State.kvRefuse_sound k0
  · extract_lets +onlyGivenNames -merge x0 x1
    try clear_value x0 x1
    split
    · next y2 y3 e =>
      have h4 : Sound z y3 := by
        refine Sound2.of e ?_
        exact State.pte_sound k0
      split
      · refine Sound2.mk ?_
        exact State.kvRefuse_sound (State.kvQuarantine_sound h4)
      · split
        · next y5 y6 e =>
          have h7 : Sound z y6 := by
            refine Sound2.of e ?_
            exact State.kvPageFor_sound h4
          split
          · refine Sound2.mk ?_
            exact h7
          · extract_lets +onlyGivenNames x8
            have h10 : Sound z x8 := by
              unfold x8
              refine Sound.foldl _ (fun q y h9 => ?_) _ ?_
              · exact State.hubWrite_sound h9
              · exact h7
            try clear_value x8
            refine Sound2.mk ?_
            exact State.setPte_sound h10

theorem State.kvRead_sound {z s0 v1 v2 v3 v4 v5 v6} (k0 : Sound z s0) : Sound2 z (State.kvRead s0 v1 v2 v3 v4 v5 v6) := by
  unfold State.kvRead
  extract_lets +onlyGivenNames -merge x0 x1 x2 x3
  try clear_value x0 x1 x2 x3
  split
  · next y4 y5 e =>
    have h6 : Sound z y5 := by
      refine Sound2.of e ?_
      refine Sound2.ite (fun _ => ?_) (fun _ => ?_)
      · exact State.pte_sound k0
      · refine Sound2.mk ?_
        exact k0
    extract_lets +onlyGivenNames -merge x7 x8
    try clear_value x7 x8
    extract_lets +onlyGivenNames x9
    have h10 : Sound z x9 := by
      unfold x9
      refine Sound.ite (fun _ => ?_) (fun _ => ?_)
      · exact State.setFld_sound h6
      · exact h6
    try clear_value x9
    refine Sound2.foldl _ (fun q y h11 => ?_) _ ?_
    · extract_lets +onlyGivenNames -merge -underBinder x12
      try clear_value x12
      extract_lets +onlyGivenNames -merge x13 x14
      try clear_value x13 x14
      refine Sound2.ite (fun _ => ?_) (fun _ => ?_)
      · refine Sound2.mk ?_
        refine Sound2.snd ?_
        exact h11
      · split
        · next y15 y16 e =>
          have h17 : Sound z y16 := by
            refine Sound2.of e ?_
            refine State.hubRead_sound ?_
            refine Sound2.snd ?_
            exact h11
          refine Sound2.mk ?_
          exact h17
    · refine Sound2.mk ?_
      exact h10

/-! ### Windows -/

theorem State.readFor_sound {z s0 v1 v2 v3 v4} (k0 : Sound z s0) : Sound2 z (State.readFor s0 v1 v2 v3 v4) := by
  unfold State.readFor
  split
  · next y0 y1 e =>
    have h2 : Sound z y1 := by
      refine Sound2.of e ?_
      exact State.hubRead_sound (Sound.same k0 rfl rfl rfl rfl rfl)
    refine Sound2.mk ?_
    exact Sound.same h2 rfl rfl rfl rfl rfl

theorem State.writeFor_sound {z s0 v1 v2 v3 v4} (k0 : Sound z s0) : Sound z (State.writeFor s0 v1 v2 v3 v4) := by
  unfold State.writeFor
  refine Sound.ite (fun _ => ?_) (fun _ => ?_)
  · exact State.setBytes_sound k0
  · extract_lets +onlyGivenNames x0
    have h1 : Sound z x0 := State.hubWrite_sound (Sound.same k0 rfl rfl rfl rfl rfl)
    try clear_value x0
    exact Sound.same h1 rfl rfl rfl rfl rfl

/-! ### Copies -/

theorem State.updCopy_sound {z s0 v1 v2 v3} (k0 : Sound z s0) : Sound z (State.updCopy s0 v1 v2 v3) := by
  unfold State.updCopy
  exact State.updCl_sound k0

theorem State.tagClear_sound {z s0 v1 v2} (k0 : Sound z s0) : Sound z (State.tagClear s0 v1 v2) := by
  unfold State.tagClear
  exact State.updCl_sound k0

theorem State.copyStop_sound {z s0 v1 v2 v3} (k0 : Sound z s0) : Sound z (State.copyStop s0 v1 v2 v3) := by
  unfold State.copyStop
  extract_lets +onlyGivenNames x0
  try clear_value x0
  exact State.stopAs_sound (State.tagClear_sound k0)

theorem State.tagAt_sound {z s0 v1 v2 v3 v4 v5 v6} (k0 : Sound z s0) : Sound z (State.tagAt s0 v1 v2 v3 v4 v5 v6) := by
  unfold State.tagAt
  extract_lets +onlyGivenNames x0
  try clear_value x0
  exact State.sched_sound k0

theorem State.pushWrite_sound {z s0 v1 v2 v3 v4 v5} (k0 : Sound z s0) : Sound z (State.pushWrite s0 v1 v2 v3 v4 v5) := by
  unfold State.pushWrite
  extract_lets +onlyGivenNames x0
  try clear_value x0
  refine Sound.ite (fun _ => ?_) (fun _ => ?_)
  · exact k0
  · refine Sound.ite (fun _ => ?_) (fun _ => ?_)
    · exact State.sched_sound k0
    · refine Sound.ite (fun _ => ?_) (fun _ => ?_)
      · exact State.numFlagIf_sound (State.writeWord_sound k0)
      · exact State.stopAs_sound k0

theorem State.claim_sound {z s0 v1 v2 v3 v4} (k0 : Sound z s0) : Sound2 z (State.claim s0 v1 v2 v3 v4) := by
  unfold State.claim
  refine Sound2.ite (fun _ => ?_) (fun _ => ?_)
  · refine Sound2.mk ?_
    exact State.stopX_sound k0
  · split
    · refine Sound2.mk ?_
      exact Sound.same k0 rfl rfl rfl rfl rfl
    · extract_lets +onlyGivenNames -merge x0 x1
      try clear_value x0 x1
      extract_lets +onlyGivenNames x2
      have h3 : Sound z x2 := by
        unfold x2
        refine Sound.ite (fun _ => ?_) (fun _ => ?_)
        · exact k0
        · exact State.sched_sound k0
      try clear_value x2
      refine Sound2.mk ?_
      exact State.stopX_sound h3

theorem State.cpStart_sound {z s0 v1 v2 v3 v4} (k0 : Sound z s0) : Sound z (State.cpStart s0 v1 v2 v3 v4) := by
  unfold State.cpStart
  extract_lets +onlyGivenNames -merge x0 x1 x2 x3 x4 x5 x6 x7 x8
  try clear_value x0 x1 x2 x3 x4 x5 x6 x7 x8
  refine Sound.ite (fun _ => ?_) (fun _ => ?_)
  · exact State.copyStop_sound k0
  · split
    · exact State.copyStop_sound k0
    · extract_lets +onlyGivenNames x9
      try clear_value x9
      extract_lets +onlyGivenNames x10
      have h11 : Sound z x10 := State.updCopy_sound k0
      try clear_value x10
      refine Sound.ite (fun _ => ?_) (fun _ => ?_)
      · extract_lets +onlyGivenNames -merge -underBinder x12
        have h14 : Sound z x12 := by
          unfold x12
          split
          · extract_lets +onlyGivenNames x13
            try clear_value x13
            exact State.updCl_sound (State.updCopy_sound h11)
          · exact h11
        try clear_value x12
        exact State.dropJob_sound (State.done_sound h14)
      · extract_lets +onlyGivenNames -merge x15 x16 x17
        try clear_value x15 x16 x17
        extract_lets +onlyGivenNames -merge -underBinder x18
        have h19 : Sound z x18 := State.updCl_sound h11
        try clear_value x18
        extract_lets +onlyGivenNames x20
        have h21 : Sound z x20 := State.updCopy_sound h19
        try clear_value x20
        extract_lets +onlyGivenNames x22
        have h23 : ∀ a0, Sound z a0 → Sound z (x22 a0) := by
          intro a0 b0
          unfold x22
          refine Sound.foldl _ (fun q y h24 => ?_) _ ?_
          · exact State.sched_sound h24
          · exact b0
        try clear_value x22
        extract_lets +onlyGivenNames x25
        have h26 : ∀ a0, Sound z a0 → Sound z (x25 a0) := by
          intro a0 b0
          unfold x25
          exact State.updJob_sound b0
        try clear_value x25
        split
        · extract_lets +onlyGivenNames x27
          have h28 : Sound z x27 := by
            unfold x27
            refine h26 _ ?_
            · refine h23 _ ?_
              · exact h21
          try clear_value x27
          extract_lets +onlyGivenNames x29
          have h31 : Sound z x29 := by
            unfold x29
            refine Sound.foldl _ (fun q y h30 => ?_) _ ?_
            · exact State.sched_sound h30
            · exact h28
          try clear_value x29
          exact State.sched_sound (State.done_sound (State.tagAt_sound (State.updCopy_sound h31)))
        · split
          · next y32 y33 e =>
            have h34 : Sound z y33 := by
              refine Sound2.of e ?_
              exact State.claim_sound h21
            refine Sound.ite (fun _ => ?_) (fun _ => ?_)
            · exact State.tagClear_sound h34
            · extract_lets +onlyGivenNames x35
              have h36 : Sound z x35 := by
                unfold x35
                refine h26 _ ?_
                · refine h23 _ ?_
                  · exact h34
              try clear_value x35
              extract_lets +onlyGivenNames x37
              have h39 : Sound z x37 := by
                unfold x37
                refine Sound.foldl _ (fun q y h38 => ?_) _ ?_
                · exact State.sched_sound h38
                · exact h36
              try clear_value x37
              extract_lets +onlyGivenNames x40
              try clear_value x40
              exact State.sched_sound (State.done_sound (State.tagAt_sound (State.updCopy_sound h39)))
        · extract_lets +onlyGivenNames x41
          have h42 : Sound z x41 := by
            unfold x41
            refine h26 _ ?_
            · refine h23 _ ?_
              · exact State.updCopy_sound h21
          try clear_value x41
          exact State.sched_sound (State.done_sound h42)
        · extract_lets +onlyGivenNames x43
          have h44 : Sound z x43 := by
            unfold x43
            refine h26 _ ?_
            · refine h23 _ ?_
              · exact h21
          try clear_value x43
          exact State.sched_sound (State.done_sound h44)

theorem State.cpStep_sound {z s0 v1 v2 v3 v4 v5} (k0 : Sound z s0) : Sound z (State.cpStep s0 v1 v2 v3 v4 v5) := by
  unfold State.cpStep
  extract_lets +onlyGivenNames x0
  try clear_value x0
  split
  · exact k0
  · split
    · exact k0
    · extract_lets +onlyGivenNames -merge x1 x2 x3 x4 x5 x6
      try clear_value x1 x2 x3 x4 x5 x6
      refine Sound.ite (fun _ => ?_) (fun _ => ?_)
      · extract_lets +onlyGivenNames -merge -underBinder x7
        try clear_value x7
        extract_lets +onlyGivenNames x8
        try clear_value x8
        extract_lets +onlyGivenNames x9
        have h10 : Sound z x9 := State.updCopy_sound k0
        try clear_value x9
        exact State.dropJob_sound (State.numFlagIf_sound h10)
      · refine Sound.ite (fun _ => ?_) (fun _ => ?_)
        · extract_lets +onlyGivenNames -merge x11 x12 x13
          try clear_value x11 x12 x13
          exact State.numFlagIf_sound (State.sched_sound k0)
        · extract_lets +onlyGivenNames -merge x14 x15
          try clear_value x14 x15
          extract_lets +onlyGivenNames x16
          have h17 : Sound z x16 := State.numFlagIf_sound k0
          try clear_value x16
          refine Sound.foldl _ (fun q y h18 => ?_) _ ?_
          · extract_lets +onlyGivenNames x19
            try clear_value x19
            refine Sound.foldl _ (fun q y h20 => ?_) _ ?_
            · extract_lets +onlyGivenNames -merge x21 x22
              try clear_value x21 x22
              exact State.pushWrite_sound h20
            · exact h18
          · exact h17

/-! ### Reduction -/

theorem State.redArrive_sound {z s0 v1 v2 v3 v4} (k0 : Sound z s0) : Sound z (State.redArrive s0 v1 v2 v3 v4) := by
  unfold State.redArrive
  extract_lets +onlyGivenNames x0
  try clear_value x0
  refine Sound.ite (fun _ => ?_) (fun _ => ?_)
  · exact k0
  · refine Sound.ite (fun _ => ?_) (fun _ => ?_)
    · exact State.sched_sound k0
    · exact State.stopX_sound k0

theorem State.rdCollect_sound {z s0 v1 v2 v3 v4 v5} (k0 : Sound z s0) : Sound z (State.rdCollect s0 v1 v2 v3 v4 v5) := by
  unfold State.rdCollect
  extract_lets +onlyGivenNames -merge x0 x1 x2 x3 x4 x5
  try clear_value x0 x1 x2 x3 x4 x5
  extract_lets +onlyGivenNames -merge -underBinder x6
  have h7 : Sound z x6 := State.updCl_sound k0
  try clear_value x6
  refine Sound.ite (fun _ => ?_) (fun _ => ?_)
  · exact State.stopX_sound h7
  · split
    · extract_lets +onlyGivenNames x8
      try clear_value x8
      extract_lets +onlyGivenNames x9
      have h10 : Sound z x9 := State.numFlagIf_sound (State.numFlagIf_sound h7)
      try clear_value x9
      refine Sound.ite (fun _ => ?_) (fun _ => ?_)
      · split
        · exact h10
        · exact State.redArrive_sound h10
      · exact State.sched_sound h10

/-! ### Sequencer -/

theorem State.ldaDone_sound {z s0 v1 v2} (k0 : Sound z s0) : Sound z (State.ldaDone s0 v1 v2) := by
  unfold State.ldaDone
  split
  · next y0 y1 e =>
    have h2 : Sound z y1 := by
      refine Sound2.of e ?_
      exact State.plainBytes_sound k0
    extract_lets +onlyGivenNames x3
    try clear_value x3
    exact State.updSeq_sound h2

theorem State.edgeBegin_sound {z s0 v1 v2 v3 v4} (k0 : Sound z s0) : Sound z (State.edgeBegin s0 v1 v2 v3 v4) := by
  unfold State.edgeBegin
  extract_lets +onlyGivenNames x0
  have h1 : Sound z x0 := State.edgeStart_sound k0
  try clear_value x0
  refine Sound.ite (fun _ => ?_) (fun _ => ?_)
  · exact h1
  · extract_lets +onlyGivenNames -merge x2 x3
    try clear_value x2 x3
    split
    · next y4 y5 e =>
      have h6 : Sound z y5 := by
        refine Sound2.of e ?_
        exact State.claim_sound h1
      refine Sound.ite (fun _ => ?_) (fun _ => ?_)
      · exact State.sched_sound h6
      · exact State.setFld_sound h6

theorem State.edgeFinish_sound {z s0 v1 v2} (k0 : Sound z s0) : Sound z (State.edgeFinish s0 v1 v2) := by
  unfold State.edgeFinish
  extract_lets +onlyGivenNames x0
  try clear_value x0
  exact State.dropJob_sound (State.setFld_sound (State.setFld_sound (State.count_sound k0)))

theorem State.runStep_sound {z s0 v1 v2 v3 v4 v5} (k0 : Sound z s0) : Sound z (State.runStep s0 v1 v2 v3 v4 v5) := by
  unfold State.runStep
  refine Sound.ite (fun _ => ?_) (fun _ => ?_)
  · exact State.dropJob_sound k0
  · split
    · exact State.dropJob_sound (State.ldaDone_sound k0)
    · refine Sound.ite (fun _ => ?_) (fun _ => ?_)
      · exact State.mxRow_sound k0
      · exact State.mxList_sound k0
    · exact State.mxLoaded_sound k0
    · exact State.mxDrain_sound k0
    · refine Sound.ite (fun _ => ?_) (fun _ => ?_)
      · exact State.edMask_sound k0
      · refine Sound.ite (fun _ => ?_) (fun _ => ?_)
        · exact State.edMask2_sound k0
        · exact State.edDone_sound k0
    · exact State.dropJob_sound (State.vuLoad_sound k0)
    · exact State.dropJob_sound (State.vuTable_sound k0)
    · split
      · exact k0
      · exact State.passTwo_sound k0
    · exact State.dropJob_sound (State.slCvRead_sound k0)
    · exact State.dropJob_sound (State.slTldDone_sound k0)
    · exact State.dropJob_sound (State.slZldDone_sound k0)
    · exact State.dropJob_sound (State.slSeedDone_sound k0)
    · exact State.dropJob_sound (State.slKlDone_sound k0)
    · split
      · exact k0
      · exact State.slKaRow_sound k0
    · exact State.dropJob_sound (State.slKuDone_sound k0)
    · exact State.dropJob_sound (State.stRing_sound k0)
    · refine Sound.ite (fun _ => ?_) (fun _ => ?_)
      · exact State.stWin_sound k0
      · exact State.stWinScale_sound k0
    · exact State.stRpk_sound k0
    · exact State.stTrp_sound k0
    · exact State.rdCollect_sound k0
    · refine Sound.ite (fun _ => ?_) (fun _ => ?_)
      · exact State.cpStart_sound k0
      · exact State.cpStep_sound k0
    · exact State.cpStart_sound k0
    · refine Sound.ite (fun _ => ?_) (fun _ => ?_)
      · exact State.edgeBegin_sound k0
      · refine Sound.ite (fun _ => ?_) (fun _ => ?_)
        · exact State.edgeFinish_sound k0
        · exact State.edgeStep_sound k0

theorem State.fire_sound {z s0 v1 v2 v3} (k0 : Sound z s0) : Sound z (State.fire s0 v1 v2 v3) := by
  unfold State.fire
  split
  · exact k0
  · exact k0
  · split
    · exact k0
    · exact State.runStep_sound k0
  · exact State.accWrite_sound k0
  · exact State.vuWrite_sound k0
  · exact State.deliver_sound k0
  · exact State.directRow_sound k0
  · exact State.updCl_sound k0
  · exact State.updSeq_sound k0
  · exact State.updSeq_sound k0
  · exact State.clearNumFlags_sound k0
  · exact State.numFlag_sound k0
  · exact State.tagClear_sound k0
  · exact State.stopX_sound k0

theorem State.access_sound {z s0 v1 v2} (k0 : Sound z s0) : Sound z (State.access s0 v1 v2) := by
  unfold State.access
  extract_lets +onlyGivenNames -merge x0 x1 x2
  try clear_value x0 x1 x2
  extract_lets +onlyGivenNames x3
  have h4 : Sound z x3 := by
    unfold x3
    split
    · exact k0
    · exact State.stopAs_sound k0
  try clear_value x3
  extract_lets +onlyGivenNames x5
  try clear_value x5
  extract_lets +onlyGivenNames x6
  have h8 : Sound z x6 := by
    unfold x6
    refine Sound.foldl _ (fun q y h7 => ?_) _ ?_
    · exact State.noteReads_sound h7
    · exact h4
  try clear_value x6
  extract_lets +onlyGivenNames -merge -underBinder x9
  have h12 : Sound z x9 := by
    unfold x9
    refine Sound.foldl _ (fun q y h10 => ?_) _ ?_
    · split
      · extract_lets +onlyGivenNames x11
        try clear_value x11
        refine Sound.ite (fun _ => ?_) (fun _ => ?_)
        · split
          · exact h10
          · exact State.numFlagIf_sound (State.updJob_sound h10)
        · exact State.dropJob_sound h10
      · exact h10
    · exact h8
  try clear_value x9
  refine Sound.foldl _ (fun q y h13 => ?_) _ ?_
  · split
    · refine Sound.foldl _ (fun q y h14 => ?_) _ ?_
      · refine Sound.ite (fun _ => ?_) (fun _ => ?_)
        · exact State.numFlagIf_sound (State.writeWord_sound h14)
        · exact h14
      · exact h13
    · exact h13
  · exact h12

theorem State.takeEvs_sound {z s0 v1 v2 v3} (k0 : Sound z s0) : Sound2 z (State.takeEvs s0 v1 v2 v3) := by
  unfold State.takeEvs
  extract_lets +onlyGivenNames x0
  try clear_value x0
  refine Sound2.mk ?_
  exact State.updCl_sound k0

theorem State.halt_sound {z s0 v1} (k0 : Sound z s0) : Sound z (State.halt s0 v1) := by
  unfold State.halt
  refine Sound.ite (fun _ => ?_) (fun _ => ?_)
  · extract_lets +onlyGivenNames x0
    have h1 : Sound z x0 := by
      unfold x0
      refine Sound.ite (fun _ => ?_) (fun _ => ?_)
      · exact State.setFld_sound k0
      · exact k0
    try clear_value x0
    exact State.updCl_sound h1
  · exact k0

theorem State.runCycle_sound {z s0 v1 v2} (k0 : Sound z s0) : Sound z (State.runCycle s0 v1 v2) := by
  unfold State.runCycle
  split
  · next y0 y1 e =>
    have h2 : Sound z y1 := by
      refine Sound2.of e ?_
      exact State.takeEvs_sound k0
    extract_lets +onlyGivenNames x3
    have h5 : Sound z x3 := by
      unfold x3
      refine Sound.foldl _ (fun q y h4 => ?_) _ ?_
      · exact State.fire_sound h4
      · exact h2
    try clear_value x3
    split
    · next y6 y7 e =>
      have h8 : Sound z y7 := by
        refine Sound2.of e ?_
        exact State.takeEvs_sound h5
      extract_lets +onlyGivenNames x9
      have h10 : Sound z x9 := State.access_sound h8
      try clear_value x9
      extract_lets +onlyGivenNames x11
      have h13 : Sound z x11 := by
        unfold x11
        refine Sound.foldl _ (fun q y h12 => ?_) _ ?_
        · exact State.fire_sound h12
        · exact h10
      try clear_value x11
      split
      · next y14 y15 e =>
        have h16 : Sound z y15 := by
          refine Sound2.of e ?_
          exact State.takeEvs_sound h13
        extract_lets +onlyGivenNames x17
        have h19 : Sound z x17 := by
          unfold x17
          refine Sound.foldl _ (fun q y h18 => ?_) _ ?_
          · exact State.fire_sound h18
          · exact h16
        try clear_value x17
        extract_lets +onlyGivenNames x20
        have h21 : Sound z x20 := by
          unfold x20
          refine Sound.ite (fun _ => ?_) (fun _ => ?_)
          · exact h19
          · exact State.stopX_sound h19
        try clear_value x20
        exact State.halt_sound h21

theorem State.refuseAt_sound {z s0 v1 v2 v3 v4 v5} (k0 : Sound z s0) : Sound z (State.refuseAt s0 v1 v2 v3 v4 v5) := by
  unfold State.refuseAt
  extract_lets +onlyGivenNames -merge x0 x1
  try clear_value x0 x1
  extract_lets +onlyGivenNames x2
  have h3 : Sound z x2 := Sound.same k0 rfl rfl rfl rfl rfl
  try clear_value x2
  extract_lets +onlyGivenNames x4
  have h5 : Sound z x4 := by
    unfold x4
    refine Sound.ite (fun _ => ?_) (fun _ => ?_)
    · exact State.setFld_sound h3
    · exact h3
  try clear_value x4
  extract_lets +onlyGivenNames x6
  have h7 : Sound z x6 := State.stopAs_sound (State.setCl_sound h5)
  try clear_value x6
  exact State.updSeq_sound (State.halt_sound (State.runCycle_sound h7))

theorem State.refuse_sound {z s0 v1 v2 v3 v4 v5} (k0 : Sound z s0) : Sound z (State.refuse s0 v1 v2 v3 v4 v5) := by
  unfold State.refuse
  split
  · exact State.refuseAt_sound k0
  · exact State.refuseAt_sound k0

theorem State.stop_sound {z s0 v1 v2 v3} (k0 : Sound z s0) : Sound z (State.stop s0 v1 v2 v3) := by
  unfold State.stop
  exact State.refuse_sound k0

theorem State.promise_sound {z s0 v1 v2 v3 v4 v5} (k0 : Sound z s0) : Sound z (State.promise s0 v1 v2 v3 v4 v5) := by
  unfold State.promise
  exact State.updSeq_sound k0

theorem State.seal_sound {z s0 v1} (k0 : Sound z s0) : Sound z (State.seal s0 v1) := by
  unfold State.seal
  extract_lets +onlyGivenNames x0
  try clear_value x0
  refine Sound.ite (fun _ => ?_) (fun _ => ?_)
  · exact k0
  · split
    · exact State.stop_sound k0
    · exact State.updCl_sound (State.updSeq_sound k0)

theorem State.runEvs_sound {z c I n s} (k : Sound z s) : Sound z (State.runEvs c I n s) := by
  induction n generalizing s with
  | zero => exact k
  | succ n ih =>
    unfold State.runEvs
    split
    · exact k
    · refine Sound.ite (fun _ => k) (fun _ => ih (State.runCycle_sound k))

theorem State.runTo_sound {z s0 v1 v2} (k0 : Sound z s0) : Sound z (State.runTo s0 v1 v2) := by
  unfold State.runTo
  extract_lets +onlyGivenNames x0
  have h1 : Sound z x0 := by
    unfold x0
    refine Sound.ite (fun _ => ?_) (fun _ => ?_)
    · exact State.seal_sound k0
    · exact k0
  try clear_value x0
  exact State.updSeq_sound (State.runEvs_sound h1)

theorem State.flushEvs_sound {z c n s} (k : Sound z s) : Sound z (State.flushEvs c n s) := by
  induction n generalizing s with
  | zero => exact k
  | succ n ih =>
    unfold State.flushEvs
    split
    · exact k
    · exact ih (State.updSeq_sound (State.runCycle_sound k))

theorem State.closeHeld_sound {z s0 v1} (k0 : Sound z s0) : Sound z (State.closeHeld s0 v1) := by
  unfold State.closeHeld
  exact State.updSeq_sound k0

theorem State.flush_sound {z s0 v1} (k0 : Sound z s0) : Sound z (State.flush s0 v1) := by
  unfold State.flush
  exact State.flushEvs_sound (State.seal_sound (State.closeHeld_sound k0))

theorem State.openAt_sound {z s0 v1 v2} (k0 : Sound z s0) : Sound z (State.openAt s0 v1 v2) := by
  unfold State.openAt
  extract_lets +onlyGivenNames x0
  have h1 : Sound z x0 := State.runTo_sound k0
  try clear_value x0
  extract_lets +onlyGivenNames x2
  try clear_value x2
  refine Sound.ite (fun _ => ?_) (fun _ => ?_)
  · exact h1
  · extract_lets +onlyGivenNames x3
    have h4 : Sound z x3 := Sound.same h1 rfl rfl rfl rfl rfl
    try clear_value x3
    exact State.updSeq_sound h4

theorem State.psCheck_sound {z s0 v1} (k0 : Sound z s0) : Sound z (State.psCheck s0 v1) := by
  unfold State.psCheck
  extract_lets +onlyGivenNames x0
  try clear_value x0
  refine Sound.ite (fun _ => ?_) (fun _ => ?_)
  · exact State.halt_sound (State.runCycle_sound (State.stopAs_sound k0))
  · refine Sound.ite (fun _ => ?_) (fun _ => ?_)
    · exact State.send_sound k0
    · exact k0

theorem State.nextBundle_sound {z s0 v1} (k0 : Sound z s0) : Sound z (State.nextBundle s0 v1) := by
  unfold State.nextBundle
  refine Sound.ite (fun _ => ?_) (fun _ => ?_)
  · exact State.updSeq_sound k0
  · extract_lets +onlyGivenNames x0
    have h1 : Sound z x0 := State.runTo_sound k0
    try clear_value x0
    extract_lets +onlyGivenNames x2
    have h3 : Sound z x2 := by
      unfold x2
      refine Sound.ite (fun _ => ?_) (fun _ => ?_)
      · exact State.psCheck_sound h1
      · exact h1
    try clear_value x2
    refine Sound.ite (fun _ => ?_) (fun _ => ?_)
    · exact State.openAt_sound h3
    · exact h3

theorem State.control_sound {z s0 v1 v2 v3} (k0 : Sound z s0) (k3 : ∀ a0, Sound z a0 → Sound z (v3 a0)) : Sound z (State.control s0 v1 v2 v3) := by
  unfold State.control
  refine Sound.ite (fun _ => ?_) (fun _ => ?_)
  · exact k0
  · extract_lets +onlyGivenNames x0
    have h1 : Sound z x0 := State.nextBundle_sound k0
    try clear_value x0
    refine Sound.ite (fun _ => ?_) (fun _ => ?_)
    · exact h1
    · refine Sound.ite (fun _ => ?_) (fun _ => ?_)
      · exact State.stop_sound h1
      · refine k3 _ ?_
        · exact h1

theorem State.hold_sound {z s0 v1 v2 v3} (k0 : Sound z s0) : Sound z (State.hold s0 v1 v2 v3) := by
  unfold State.hold
  extract_lets +onlyGivenNames x0
  try clear_value x0
  exact State.updSeq_sound (State.setCl_sound k0)

theorem State.holding_sound {z s0 v1 v2 v3 v4 v5 v6} (k0 : Sound z s0) (k6 : ∀ a0, Sound z a0 → Sound z (v6 a0)) : Sound z (State.holding s0 v1 v2 v3 v4 v5 v6) := by
  unfold State.holding
  refine State.control_sound ?_ ?_
  · exact k0
  · intro a0 b0
    refine Sound.ite (fun _ => ?_) (fun _ => ?_)
    · exact State.hold_sound b0
    · refine k6 _ ?_
      · exact b0

theorem State.engine_sound {z s0 v1 v2 v3 v4 v5} (k0 : Sound z s0) (k5 : ∀ a0, Sound z a0 → Sound z (v5 a0)) : Sound z (State.engine s0 v1 v2 v3 v4 v5) := by
  unfold State.engine
  refine Sound.ite (fun _ => ?_) (fun _ => ?_)
  · exact k0
  · refine Sound.ite (fun _ => ?_) (fun _ => ?_)
    · exact State.stop_sound k0
    · refine k5 _ ?_
      · exact State.updSeq_sound k0

theorem State.launch_sound {z s0 v1 v2 v3 v4 v5} (k0 : Sound z s0) : Sound2 z (State.launch s0 v1 v2 v3 v4 v5) := by
  unfold State.launch
  extract_lets +onlyGivenNames x0
  try clear_value x0
  refine Sound2.mk ?_
  exact State.addJob_sound k0

/-! ### MatrixOps -/

theorem State.each_sound {z s0 v1 v2} (k0 : Sound z s0) (k2 : ∀ a0 a1, Sound z a0 → Sound z (v2 a0 a1)) : Sound z (State.each s0 v1 v2) := by
  unfold State.each
  refine Sound.foldl _ (fun q y h0 => ?_) _ ?_
  · refine k2 _ _ ?_
    · exact h0
  · exact k0

theorem doMx_sound {z v0 v1 v2 v3 s4} (k4 : Sound z s4) : Sound z (doMx v0 v1 v2 v3 s4) := by
  unfold doMx
  extract_lets +onlyGivenNames -merge x0 x1 x2 x3 x4 x5
  try clear_value x0 x1 x2 x3 x4 x5
  refine State.engine_sound ?_ ?_
  · exact k4
  · intro a0 b0
    extract_lets +onlyGivenNames -merge x6 x7
    try clear_value x6 x7
    refine Sound.ite (fun _ => ?_) (fun _ => ?_)
    · exact State.stop_sound b0
    · extract_lets +onlyGivenNames -merge x8 x9
      try clear_value x8 x9
      extract_lets +onlyGivenNames -merge -underBinder x10
      have h12 : Sound z x10 := by
        unfold x10
        refine Sound.foldl _ (fun q y h11 => ?_) _ ?_
        · exact State.updTile_sound h11
        · exact b0
      try clear_value x10
      split
      · next y13 y14 e =>
        have h15 : Sound z y14 := by
          refine Sound2.of e ?_
          exact State.launch_sound h12
        extract_lets +onlyGivenNames -merge x16 x17
        try clear_value x16 x17
        extract_lets +onlyGivenNames -merge -underBinder x18
        have h21 : Sound z x18 := by
          unfold x18
          refine Sound.ite (fun _ => ?_) (fun _ => ?_)
          · refine State.each_sound ?_ ?_
            · exact h15
            · intro a0 a1 b0
              extract_lets +onlyGivenNames x19
              try clear_value x19
              exact State.sched_sound (State.sched_sound b0)
          · refine State.each_sound ?_ ?_
            · exact h15
            · intro a0 a1 b0
              extract_lets +onlyGivenNames x20
              try clear_value x20
              exact State.sched_sound b0
        try clear_value x18
        extract_lets +onlyGivenNames x22
        have h23 : Sound z x22 := by
          unfold x22
          refine State.each_sound ?_ ?_
          · exact h21
          · intro a0 a1 b0
            exact State.sched_sound b0
        try clear_value x22
        extract_lets +onlyGivenNames x24
        try clear_value x24
        extract_lets +onlyGivenNames x25
        have h27 : Sound z x25 := by
          unfold x25
          refine Sound.foldl _ (fun q y h26 => ?_) _ ?_
          · exact State.done_sound h26
          · exact h23
        try clear_value x25
        exact State.sched_sound h27

theorem doMxLd_sound {z v0 v1 v2 s3} (k3 : Sound z s3) : Sound z (doMxLd v0 v1 v2 s3) := by
  unfold doMxLd
  extract_lets +onlyGivenNames -merge x0 x1 x2 x3
  try clear_value x0 x1 x2 x3
  refine State.engine_sound ?_ ?_
  · exact k3
  · intro a0 b0
    extract_lets +onlyGivenNames -merge x4 x5 x6
    try clear_value x4 x5 x6
    refine Sound.ite (fun _ => ?_) (fun _ => ?_)
    · exact State.stop_sound b0
    · extract_lets +onlyGivenNames -merge x7 x8 x9
      try clear_value x7 x8 x9
      extract_lets +onlyGivenNames -merge -underBinder x10
      have h12 : Sound z x10 := by
        unfold x10
        refine Sound.foldl _ (fun q y h11 => ?_) _ ?_
        · exact State.updTile_sound h11
        · exact b0
      try clear_value x10
      split
      · next y13 y14 e =>
        have h15 : Sound z y14 := by
          refine Sound2.of e ?_
          exact State.launch_sound h12
        extract_lets +onlyGivenNames -merge x16 x17 x18
        try clear_value x16 x17 x18
        extract_lets +onlyGivenNames -merge -underBinder x19
        have h21 : Sound z x19 := by
          unfold x19
          refine State.each_sound ?_ ?_
          · exact h15
          · intro a0 a1 b0
            refine State.each_sound ?_ ?_
            · exact b0
            · intro a0 a1 b0
              extract_lets +onlyGivenNames x20
              try clear_value x20
              exact State.sched_sound (State.sched_sound b0)
        try clear_value x19
        refine State.sched_sound ?_
        refine Sound.foldl _ (fun q y h22 => ?_) _ ?_
        · exact State.done_sound h22
        · exact h21

theorem doMxDr_sound {z v0 v1 v2 s3} (k3 : Sound z s3) : Sound z (doMxDr v0 v1 v2 s3) := by
  unfold doMxDr
  extract_lets +onlyGivenNames -merge x0 x1
  try clear_value x0 x1
  refine State.engine_sound ?_ ?_
  · exact k3
  · intro a0 b0
    extract_lets +onlyGivenNames -merge x2 x3 x4
    try clear_value x2 x3 x4
    refine Sound.ite (fun _ => ?_) (fun _ => ?_)
    · exact State.stop_sound b0
    · extract_lets +onlyGivenNames x5
      try clear_value x5
      extract_lets +onlyGivenNames x6
      have h7 : Sound z x6 := State.updTile_sound b0
      try clear_value x6
      extract_lets +onlyGivenNames x8
      have h9 : Sound z x8 := by
        unfold x8
        refine Sound.ite (fun _ => ?_) (fun _ => ?_)
        · exact State.promise_sound h7
        · exact h7
      try clear_value x8
      split
      · next y10 y11 e =>
        have h12 : Sound z y11 := by
          refine Sound2.of e ?_
          exact State.launch_sound h9
        extract_lets +onlyGivenNames x13
        have h14 : Sound z x13 := by
          unfold x13
          refine State.each_sound ?_ ?_
          · exact h12
          · intro a0 a1 b0
            exact State.sched_sound b0
        try clear_value x13
        exact State.sched_sound (State.done_sound h14)

/-! ### SluiceOps -/

theorem State.updSl_sound {z s0 v1 v2} (k0 : Sound z s0) : Sound z (State.updSl s0 v1 v2) := by
  unfold State.updSl
  exact State.updCl_sound k0

theorem State.setReady_sound {z s0 v1 v2} (k0 : Sound z s0) : Sound z (State.setReady s0 v1 v2) := by
  unfold State.setReady
  extract_lets +onlyGivenNames -merge x0 x1
  try clear_value x0 x1
  refine Sound.ite (fun _ => ?_) (fun _ => ?_)
  · extract_lets +onlyGivenNames -merge x2 x3
    try clear_value x2 x3
    exact State.updSl_sound k0
  · exact k0

theorem doSetReady_sound {z v0 v1 s2} (k2 : Sound z s2) : Sound z (doSetReady v0 v1 s2) := by
  unfold doSetReady
  extract_lets +onlyGivenNames x0
  try clear_value x0
  refine Sound.ite (fun _ => ?_) (fun _ => ?_)
  · exact State.setReady_sound (State.runTo_sound k2)
  · exact k2

theorem State.dueReady_sound {z s0 v1 v2} (k0 : Sound z s0) : Sound z (State.dueReady s0 v1 v2) := by
  unfold State.dueReady
  refine Sound.ite (fun _ => ?_) (fun _ => ?_)
  · exact State.setReady_sound k0
  · exact k0

theorem doSlP1_sound {z v0 v1 v2 s3} (k3 : Sound z s3) : Sound z (doSlP1 v0 v1 v2 s3) := by
  unfold doSlP1
  extract_lets +onlyGivenNames -merge x0 x1 x2
  try clear_value x0 x1 x2
  refine State.engine_sound ?_ ?_
  · exact k3
  · intro a0 b0
    extract_lets +onlyGivenNames -merge x3 x4
    try clear_value x3 x4
    refine Sound.ite (fun _ => ?_) (fun _ => ?_)
    · exact State.stop_sound b0
    · exact State.done_sound (State.updSl_sound b0)

theorem doSlP2_sound {z v0 v1 v2 s3} (k3 : Sound z s3) : Sound z (doSlP2 v0 v1 v2 s3) := by
  unfold doSlP2
  extract_lets +onlyGivenNames -merge x0 x1 x2
  try clear_value x0 x1 x2
  refine State.engine_sound ?_ ?_
  · exact k3
  · intro a0 b0
    extract_lets +onlyGivenNames x3
    have h4 : Sound z x3 := State.dueReady_sound b0
    try clear_value x3
    extract_lets +onlyGivenNames -merge x5 x6 x7 x8
    try clear_value x5 x6 x7 x8
    refine Sound.ite (fun _ => ?_) (fun _ => ?_)
    · exact State.stop_sound h4
    · extract_lets +onlyGivenNames -merge -underBinder x9
      have h10 : Sound z x9 := State.updSl_sound h4
      try clear_value x9
      split
      · next y11 y12 e =>
        have h13 : Sound z y12 := by
          refine Sound2.of e ?_
          exact State.launch_sound h10
        extract_lets +onlyGivenNames x14
        have h15 : Sound z x14 := State.updJob_sound h13
        try clear_value x14
        extract_lets +onlyGivenNames x16
        have h17 : Sound z x16 := by
          unfold x16
          refine State.each_sound ?_ ?_
          · exact h15
          · intro a0 a1 b0
            exact State.sched_sound b0
        try clear_value x16
        exact State.sched_sound (State.done_sound h17)

theorem doSlCv_sound {z v0 v1 v2 s3} (k3 : Sound z s3) : Sound z (doSlCv v0 v1 v2 s3) := by
  unfold doSlCv
  extract_lets +onlyGivenNames -merge x0 x1 x2 x3 x4
  try clear_value x0 x1 x2 x3 x4
  refine State.engine_sound ?_ ?_
  · exact k3
  · intro a0 b0
    extract_lets +onlyGivenNames -merge x5 x6
    try clear_value x5 x6
    refine Sound.ite (fun _ => ?_) (fun _ => ?_)
    · exact State.stop_sound b0
    · extract_lets +onlyGivenNames -merge x7 x8 x9 x10
      try clear_value x7 x8 x9 x10
      extract_lets +onlyGivenNames x11
      have h12 : Sound z x11 := State.done_sound (State.updSl_sound b0)
      try clear_value x11
      refine Sound.ite (fun _ => ?_) (fun _ => ?_)
      · exact h12
      · split
        · next y13 y14 e =>
          have h15 : Sound z y14 := by
            refine Sound2.of e ?_
            exact State.launch_sound h12
          extract_lets +onlyGivenNames x16
          have h17 : Sound z x16 := by
            unfold x16
            refine State.each_sound ?_ ?_
            · exact h15
            · intro a0 a1 b0
              exact State.sched_sound b0
          try clear_value x16
          exact State.sched_sound h17

theorem doSlTld_sound {z v0 v1 v2 s3} (k3 : Sound z s3) : Sound z (doSlTld v0 v1 v2 s3) := by
  unfold doSlTld
  extract_lets +onlyGivenNames -merge x0 x1 x2
  try clear_value x0 x1 x2
  refine State.engine_sound ?_ ?_
  · exact k3
  · intro a0 b0
    extract_lets +onlyGivenNames -merge x3 x4
    try clear_value x3 x4
    split
    · next y5 y6 e =>
      have h7 : Sound z y6 := by
        refine Sound2.of e ?_
        exact State.launch_sound b0
      extract_lets +onlyGivenNames x8
      have h9 : Sound z x8 := by
        unfold x8
        refine State.each_sound ?_ ?_
        · exact h7
        · intro a0 a1 b0
          exact State.sched_sound b0
      try clear_value x8
      exact State.done_sound (State.sched_sound h9)

theorem State.slWordOp_sound {z s0 v1 v2 v3 v4 v5} (k0 : Sound z s0) : Sound z (State.slWordOp s0 v1 v2 v3 v4 v5) := by
  unfold State.slWordOp
  extract_lets +onlyGivenNames -merge x0 x1
  try clear_value x0 x1
  split
  · next y2 y3 e =>
    have h4 : Sound z y3 := by
      refine Sound2.of e ?_
      exact State.launch_sound k0
    exact State.done_sound (State.sched_sound (State.sched_sound h4))

theorem doSlZld_sound {z v0 v1 v2 s3} (k3 : Sound z s3) : Sound z (doSlZld v0 v1 v2 s3) := by
  unfold doSlZld
  extract_lets +onlyGivenNames x0
  try clear_value x0
  refine State.engine_sound ?_ ?_
  · exact k3
  · intro a0 b0
    exact State.slWordOp_sound b0

theorem doSlSeed_sound {z v0 v1 v2 s3} (k3 : Sound z s3) : Sound z (doSlSeed v0 v1 v2 s3) := by
  unfold doSlSeed
  extract_lets +onlyGivenNames x0
  try clear_value x0
  refine State.engine_sound ?_ ?_
  · exact k3
  · intro a0 b0
    extract_lets +onlyGivenNames x1
    try clear_value x1
    split
    · next y2 y3 e =>
      have h4 : Sound z y3 := by
        refine Sound2.of e ?_
        exact State.launch_sound b0
      exact State.done_sound (State.sched_sound h4)

theorem doSlKl_sound {z v0 v1 v2 s3} (k3 : Sound z s3) : Sound z (doSlKl v0 v1 v2 s3) := by
  unfold doSlKl
  extract_lets +onlyGivenNames x0
  try clear_value x0
  refine State.engine_sound ?_ ?_
  · exact k3
  · intro a0 b0
    exact State.slWordOp_sound b0

theorem doSlKa_sound {z v0 v1 v2 s3} (k3 : Sound z s3) : Sound z (doSlKa v0 v1 v2 s3) := by
  unfold doSlKa
  extract_lets +onlyGivenNames -merge x0 x1 x2 x3
  try clear_value x0 x1 x2 x3
  refine State.engine_sound ?_ ?_
  · exact k3
  · intro a0 b0
    extract_lets +onlyGivenNames x4
    have h5 : Sound z x4 := State.dueReady_sound b0
    try clear_value x4
    extract_lets +onlyGivenNames -merge x6 x7 x8 x9 x10
    try clear_value x6 x7 x8 x9 x10
    refine Sound.ite (fun _ => ?_) (fun _ => ?_)
    · exact State.stop_sound h5
    · extract_lets +onlyGivenNames -merge x11 x12
      try clear_value x11 x12
      extract_lets +onlyGivenNames -merge -underBinder x13
      have h14 : Sound z x13 := State.updSl_sound h5
      try clear_value x13
      split
      · next y15 y16 e =>
        have h17 : Sound z y16 := by
          refine Sound2.of e ?_
          exact State.launch_sound h14
        extract_lets +onlyGivenNames x18
        have h19 : Sound z x18 := State.updJob_sound h17
        try clear_value x18
        extract_lets +onlyGivenNames x20
        have h21 : Sound z x20 := by
          unfold x20
          refine State.each_sound ?_ ?_
          · exact h19
          · intro a0 a1 b0
            exact State.sched_sound b0
        try clear_value x20
        exact State.sched_sound (State.done_sound h21)

theorem doSlKu_sound {z v0 v1 v2 s3} (k3 : Sound z s3) : Sound z (doSlKu v0 v1 v2 s3) := by
  unfold doSlKu
  extract_lets +onlyGivenNames x0
  try clear_value x0
  refine State.engine_sound ?_ ?_
  · exact k3
  · intro a0 b0
    extract_lets +onlyGivenNames x1
    try clear_value x1
    split
    · next y2 y3 e =>
      have h4 : Sound z y3 := by
        refine Sound2.of e ?_
        exact State.launch_sound b0
      exact State.done_sound (State.sched_sound h4)

/-! ### UnitOps -/

theorem doEdAtt_sound {z v0 v1 v2 s3} (k3 : Sound z s3) : Sound z (doEdAtt v0 v1 v2 s3) := by
  unfold doEdAtt
  extract_lets +onlyGivenNames -merge x0 x1 x2 x3
  try clear_value x0 x1 x2 x3
  refine State.engine_sound ?_ ?_
  · exact k3
  · intro a0 b0
    extract_lets +onlyGivenNames -merge x4 x5
    try clear_value x4 x5
    refine Sound.ite (fun _ => ?_) (fun _ => ?_)
    · exact State.stop_sound b0
    · extract_lets +onlyGivenNames -merge -underBinder x6
      have h7 : Sound z x6 := State.updCl_sound b0
      try clear_value x6
      extract_lets +onlyGivenNames x8
      have h9 : Sound z x8 := by
        unfold x8
        refine Sound.ite (fun _ => ?_) (fun _ => ?_)
        · exact State.promise_sound h7
        · exact h7
      try clear_value x8
      split
      · next y10 y11 e =>
        have h12 : Sound z y11 := by
          refine Sound2.of e ?_
          exact State.launch_sound h9
        extract_lets +onlyGivenNames x13
        try clear_value x13
        extract_lets +onlyGivenNames x14
        have h16 : Sound z x14 := by
          unfold x14
          refine Sound.foldl _ (fun q y h15 => ?_) _ ?_
          · exact State.sched_sound h15
          · exact h12
        try clear_value x14
        extract_lets +onlyGivenNames x17
        have h18 : Sound z x17 := State.sched_sound h16
        try clear_value x17
        extract_lets +onlyGivenNames x19
        have h20 : Sound z x19 := by
          unfold x19
          refine State.each_sound ?_ ?_
          · exact h18
          · intro a0 a1 b0
            exact State.sched_sound b0
        try clear_value x19
        exact State.done_sound (State.sched_sound h20)

theorem State.vuResult_sound {z s0 v1 v2 v3 v4} (k0 : Sound z s0) (k4 : ∀ a0, Sound z a0 → Sound z (v4 a0)) : Sound z (State.vuResult s0 v1 v2 v3 v4) := by
  unfold State.vuResult
  refine Sound.ite (fun _ => ?_) (fun _ => ?_)
  · exact State.stop_sound k0
  · refine k4 _ ?_
    · exact State.done_sound (State.updCl_sound k0)

theorem State.vuArith_sound {z s0 v1 v2 v3 v4 v5 v6} (k0 : Sound z s0) : Sound z (State.vuArith s0 v1 v2 v3 v4 v5 v6) := by
  unfold State.vuArith
  refine State.engine_sound ?_ ?_
  · exact k0
  · intro a0 b0
    extract_lets +onlyGivenNames -merge x0 x1
    try clear_value x0 x1
    refine State.vuResult_sound ?_ ?_
    · exact b0
    · intro a0 b0
      extract_lets +onlyGivenNames x2
      try clear_value x2
      exact State.sched_sound b0

theorem doVuAdd_sound {z v0 v1 v2 s3} (k3 : Sound z s3) : Sound z (doVuAdd v0 v1 v2 s3) := by
  unfold doVuAdd
  exact State.vuArith_sound k3

theorem doVuSub_sound {z v0 v1 v2 s3} (k3 : Sound z s3) : Sound z (doVuSub v0 v1 v2 s3) := by
  unfold doVuSub
  exact State.vuArith_sound k3

theorem doVuMul_sound {z v0 v1 v2 s3} (k3 : Sound z s3) : Sound z (doVuMul v0 v1 v2 s3) := by
  unfold doVuMul
  exact State.vuArith_sound k3

theorem doVuMax_sound {z v0 v1 v2 s3} (k3 : Sound z s3) : Sound z (doVuMax v0 v1 v2 s3) := by
  unfold doVuMax
  exact State.vuArith_sound k3

theorem doVuMin_sound {z v0 v1 v2 s3} (k3 : Sound z s3) : Sound z (doVuMin v0 v1 v2 s3) := by
  unfold doVuMin
  exact State.vuArith_sound k3

theorem doVuTab_sound {z v0 v1 v2 s3} (k3 : Sound z s3) : Sound z (doVuTab v0 v1 v2 s3) := by
  unfold doVuTab
  exact State.vuArith_sound k3

theorem doVuSumr_sound {z v0 v1 v2 s3} (k3 : Sound z s3) : Sound z (doVuSumr v0 v1 v2 s3) := by
  unfold doVuSumr
  exact State.vuArith_sound k3

theorem doVuMaxr_sound {z v0 v1 v2 s3} (k3 : Sound z s3) : Sound z (doVuMaxr v0 v1 v2 s3) := by
  unfold doVuMaxr
  exact State.vuArith_sound k3

theorem doVuBci_sound {z v0 v1 v2 s3} (k3 : Sound z s3) : Sound z (doVuBci v0 v1 v2 s3) := by
  unfold doVuBci
  refine State.engine_sound ?_ ?_
  · exact k3
  · intro a0 b0
    extract_lets +onlyGivenNames -merge x0 x1 x2
    try clear_value x0 x1 x2
    refine State.vuResult_sound ?_ ?_
    · exact b0
    · intro a0 b0
      exact State.sched_sound b0

theorem doVuLd_sound {z v0 v1 v2 s3} (k3 : Sound z s3) : Sound z (doVuLd v0 v1 v2 s3) := by
  unfold doVuLd
  extract_lets +onlyGivenNames -merge x0 x1
  try clear_value x0 x1
  refine State.engine_sound ?_ ?_
  · exact k3
  · intro a0 b0
    extract_lets +onlyGivenNames -merge x2 x3
    try clear_value x2 x3
    refine Sound.ite (fun _ => ?_) (fun _ => ?_)
    · exact State.stop_sound b0
    · refine State.vuResult_sound ?_ ?_
      · exact b0
      · intro a0 b0
        extract_lets +onlyGivenNames -merge -underBinder x4
        have h5 : Sound z x4 := State.updCl_sound b0
        try clear_value x4
        split
        · next y6 y7 e =>
          have h8 : Sound z y7 := by
            refine Sound2.of e ?_
            exact State.launch_sound h5
          extract_lets +onlyGivenNames -merge x9 x10 x11
          try clear_value x9 x10 x11
          exact State.sched_sound (State.sched_sound (State.sched_sound h8))

theorem doVuTld_sound {z v0 v1 v2 s3} (k3 : Sound z s3) : Sound z (doVuTld v0 v1 v2 s3) := by
  unfold doVuTld
  refine State.engine_sound ?_ ?_
  · exact k3
  · intro a0 b0
    extract_lets +onlyGivenNames -merge x0 x1
    try clear_value x0 x1
    refine Sound.ite (fun _ => ?_) (fun _ => ?_)
    · exact State.stop_sound b0
    · extract_lets +onlyGivenNames x2
      try clear_value x2
      extract_lets +onlyGivenNames -merge -underBinder x3
      have h4 : Sound z x3 := State.updCl_sound b0
      try clear_value x3
      split
      · next y5 y6 e =>
        have h7 : Sound z y6 := by
          refine Sound2.of e ?_
          exact State.launch_sound h4
        extract_lets +onlyGivenNames x8
        try clear_value x8
        extract_lets +onlyGivenNames x9
        have h10 : Sound z x9 := by
          unfold x9
          refine State.each_sound ?_ ?_
          · exact h7
          · intro a0 a1 b0
            exact State.sched_sound b0
        try clear_value x9
        exact State.done_sound (State.sched_sound h10)

theorem doVuOut_sound {z v0 v1 v2 s3} (k3 : Sound z s3) : Sound z (doVuOut v0 v1 v2 s3) := by
  unfold doVuOut
  extract_lets +onlyGivenNames -merge x0 x1 x2
  try clear_value x0 x1 x2
  refine State.engine_sound ?_ ?_
  · exact k3
  · intro a0 b0
    extract_lets +onlyGivenNames -merge x3 x4 x5
    try clear_value x3 x4 x5
    extract_lets +onlyGivenNames x6
    have h7 : Sound z x6 := State.promise_sound b0
    try clear_value x6
    extract_lets +onlyGivenNames -merge x8 x9
    try clear_value x8 x9
    exact State.done_sound (State.sched_sound (State.sched_sound h7))

theorem State.stripe_sound {z s0 v1 v2 v3 v4 v5 v6} (k0 : Sound z s0) (k6 : ∀ a0 a1, Sound z a0 → Sound z (v6 a0 a1)) : Sound z (State.stripe s0 v1 v2 v3 v4 v5 v6) := by
  unfold State.stripe
  refine State.engine_sound ?_ ?_
  · exact k0
  · intro a0 b0
    extract_lets +onlyGivenNames -merge x0 x1 x2
    try clear_value x0 x1 x2
    refine Sound.ite (fun _ => ?_) (fun _ => ?_)
    · exact State.stop_sound b0
    · refine k6 _ _ ?_
      · exact State.updCl_sound b0

theorem State.stripeNext_sound {z s0 v1 v2} (k0 : Sound z s0) : Sound z (State.stripeNext s0 v1 v2) := by
  unfold State.stripeNext
  exact State.updCl_sound k0

theorem doStRing_sound {z v0 v1 v2 s3} (k3 : Sound z s3) : Sound z (doStRing v0 v1 v2 s3) := by
  unfold doStRing
  extract_lets +onlyGivenNames x0
  try clear_value x0
  refine State.stripe_sound ?_ ?_
  · exact k3
  · intro a0 a1 b0
    split
    · next y1 y2 e =>
      have h3 : Sound z y2 := by
        refine Sound2.of e ?_
        exact State.launch_sound b0
      extract_lets +onlyGivenNames x4
      try clear_value x4
      exact State.done_sound (State.stripeNext_sound (State.sched_sound (State.sched_sound h3)))

theorem doStWin_sound {z v0 v1 v2 s3} (k3 : Sound z s3) : Sound z (doStWin v0 v1 v2 s3) := by
  unfold doStWin
  extract_lets +onlyGivenNames -merge x0 x1 x2
  try clear_value x0 x1 x2
  refine State.stripe_sound ?_ ?_
  · exact k3
  · intro a0 a1 b0
    split
    · next y3 y4 e =>
      have h5 : Sound z y4 := by
        refine Sound2.of e ?_
        exact State.launch_sound b0
      extract_lets +onlyGivenNames x6
      try clear_value x6
      extract_lets +onlyGivenNames x7
      have h8 : Sound z x7 := by
        unfold x7
        refine State.each_sound ?_ ?_
        · exact h5
        · intro a0 a1 b0
          exact State.sched_sound (State.sched_sound b0)
      try clear_value x7
      exact State.done_sound (State.stripeNext_sound (State.sched_sound h8))

theorem doStRpk_sound {z v0 v1 v2 s3} (k3 : Sound z s3) : Sound z (doStRpk v0 v1 v2 s3) := by
  unfold doStRpk
  extract_lets +onlyGivenNames -merge x0 x1 x2 x3
  try clear_value x0 x1 x2 x3
  refine State.stripe_sound ?_ ?_
  · exact k3
  · intro a0 a1 b0
    split
    · next y4 y5 e =>
      have h6 : Sound z y5 := by
        refine Sound2.of e ?_
        exact State.launch_sound b0
      extract_lets +onlyGivenNames -merge x7 x8
      try clear_value x7 x8
      extract_lets +onlyGivenNames x9
      have h10 : Sound z x9 := by
        unfold x9
        refine State.each_sound ?_ ?_
        · exact h6
        · intro a0 a1 b0
          exact State.sched_sound (State.sched_sound b0)
      try clear_value x9
      extract_lets +onlyGivenNames x11
      try clear_value x11
      exact State.done_sound (State.stripeNext_sound (State.sched_sound h10))

theorem doStTrp_sound {z v0 v1 v2 s3} (k3 : Sound z s3) : Sound z (doStTrp v0 v1 v2 s3) := by
  unfold doStTrp
  extract_lets +onlyGivenNames -merge x0 x1 x2 x3
  try clear_value x0 x1 x2 x3
  refine State.stripe_sound ?_ ?_
  · exact k3
  · intro a0 a1 b0
    split
    · next y4 y5 e =>
      have h6 : Sound z y5 := by
        refine Sound2.of e ?_
        exact State.launch_sound b0
      extract_lets +onlyGivenNames x7
      try clear_value x7
      extract_lets +onlyGivenNames x8
      have h9 : Sound z x8 := by
        unfold x8
        refine State.each_sound ?_ ?_
        · exact h6
        · intro a0 a1 b0
          exact State.sched_sound b0
      try clear_value x8
      extract_lets +onlyGivenNames -merge -underBinder x10
      have h12 : Sound z x10 := by
        unfold x10
        refine State.each_sound ?_ ?_
        · exact h9
        · intro a0 a1 b0
          extract_lets +onlyGivenNames x11
          try clear_value x11
          exact State.sched_sound (State.sched_sound b0)
      try clear_value x10
      exact State.done_sound (State.stripeNext_sound (State.sched_sound h12))

theorem doRdSum_sound {z v0 v1 v2 s3} (k3 : Sound z s3) : Sound z (doRdSum v0 v1 v2 s3) := by
  unfold doRdSum
  extract_lets +onlyGivenNames -merge x0 x1
  try clear_value x0 x1
  refine State.engine_sound ?_ ?_
  · exact k3
  · intro a0 b0
    extract_lets +onlyGivenNames -merge x2 x3
    try clear_value x2 x3
    refine Sound.ite (fun _ => ?_) (fun _ => ?_)
    · exact State.stop_sound b0
    · extract_lets +onlyGivenNames -merge x4 x5
      try clear_value x4 x5
      split
      · extract_lets +onlyGivenNames x6
        have h7 : Sound z x6 := by
          unfold x6
          refine Sound.ite (fun _ => ?_) (fun _ => ?_)
          · exact b0
          · exact State.sched_sound b0
        try clear_value x6
        exact State.stop_sound h7
      · extract_lets +onlyGivenNames x8
        have h9 : Sound z x8 := by
          unfold x8
          refine Sound.ite (fun _ => ?_) (fun _ => ?_)
          · exact Sound.same b0 rfl rfl rfl rfl rfl
          · exact State.promise_sound b0
        try clear_value x8
        split
        · next y10 y11 e =>
          have h12 : Sound z y11 := by
            refine Sound2.of e ?_
            exact State.launch_sound h9
          extract_lets +onlyGivenNames x13
          have h14 : Sound z x13 := State.updJob_sound h12
          try clear_value x13
          extract_lets +onlyGivenNames -merge -underBinder x15
          have h16 : Sound z x15 := State.updCl_sound h14
          try clear_value x15
          extract_lets +onlyGivenNames x17
          have h18 : Sound z x17 := by
            unfold x17
            refine State.each_sound ?_ ?_
            · exact h16
            · intro a0 a1 b0
              exact State.sched_sound b0
          try clear_value x17
          exact State.sched_sound h18

theorem doEgRun_sound {z v0 v1 v2 s3} (k3 : Sound z s3) : Sound z (doEgRun v0 v1 v2 s3) := by
  unfold doEgRun
  extract_lets +onlyGivenNames -merge x0 x1 x2
  try clear_value x0 x1 x2
  refine State.engine_sound ?_ ?_
  · exact k3
  · intro a0 b0
    extract_lets +onlyGivenNames -merge x3 x4
    try clear_value x3 x4
    refine Sound.ite (fun _ => ?_) (fun _ => ?_)
    · extract_lets +onlyGivenNames -merge x5 x6
      try clear_value x5 x6
      extract_lets +onlyGivenNames x7
      have h8 : Sound z x7 := by
        unfold x7
        refine Sound.ite (fun _ => ?_) (fun _ => ?_)
        · exact State.sched_sound b0
        · exact b0
      try clear_value x7
      exact State.stop_sound h8
    · refine Sound.ite (fun _ => ?_) (fun _ => ?_)
      · exact State.stop_sound b0
      · split
        · next y9 y10 e =>
          have h11 : Sound z y10 := by
            refine Sound2.of e ?_
            exact State.launch_sound b0
          extract_lets +onlyGivenNames x12
          have h13 : Sound z x12 := State.setFld_sound (State.setFld_sound h11)
          try clear_value x12
          extract_lets +onlyGivenNames x14
          try clear_value x14
          exact State.done_sound (State.sched_sound (State.sched_sound h13))

theorem doEgRunComplete_sound {z v0 s1} (k1 : Sound z s1) : Sound z (doEgRunComplete v0 s1) := by
  unfold doEgRunComplete
  split
  · exact k1
  · extract_lets +onlyGivenNames x0
    have h1 : Sound z x0 := State.runTo_sound k1
    try clear_value x0
    split
    · exact h1
    · exact State.runTo_sound h1

/-! ### ControlOps -/

theorem doNop_sound {z v0 v1 s2} (k2 : Sound z s2) : Sound z (doNop v0 v1 s2) := by
  unfold doNop
  refine State.control_sound ?_ ?_
  · exact k2
  · intro a0 b0
    exact b0

theorem doSetl_sound {z v0 v1 s2} (k2 : Sound z s2) : Sound z (doSetl v0 v1 s2) := by
  unfold doSetl
  refine State.control_sound ?_ ?_
  · exact k2
  · intro a0 b0
    exact State.updSeq_sound b0

theorem doSeth_sound {z v0 v1 s2} (k2 : Sound z s2) : Sound z (doSeth v0 v1 s2) := by
  unfold doSeth
  refine State.control_sound ?_ ?_
  · exact k2
  · intro a0 b0
    exact State.updSeq_sound b0

theorem doAddi_sound {z v0 v1 s2} (k2 : Sound z s2) : Sound z (doAddi v0 v1 s2) := by
  unfold doAddi
  refine State.control_sound ?_ ?_
  · exact k2
  · intro a0 b0
    exact State.updSeq_sound b0

theorem doLda_sound {z v0 v1 s2} (k2 : Sound z s2) : Sound z (doLda v0 v1 s2) := by
  unfold doLda
  refine State.control_sound ?_ ?_
  · exact k2
  · intro a0 b0
    extract_lets +onlyGivenNames x0
    try clear_value x0
    split
    · next y1 y2 e =>
      have h3 : Sound z y2 := by
        refine Sound2.of e ?_
        exact State.launch_sound b0
      extract_lets +onlyGivenNames x4
      try clear_value x4
      exact State.done_sound (State.sched_sound (State.sched_sound h3))

theorem doStep_sound {z v0 v1 s2} (k2 : Sound z s2) : Sound z (doStep v0 v1 s2) := by
  unfold doStep
  refine State.control_sound ?_ ?_
  · exact k2
  · intro a0 b0
    extract_lets +onlyGivenNames -merge x0 x1
    try clear_value x0 x1
    split
    · exact State.refuse_sound b0
    · exact State.sched_sound b0

theorem doLset_sound {z v0 v1 s2} (k2 : Sound z s2) : Sound z (doLset v0 v1 s2) := by
  unfold doLset
  refine State.control_sound ?_ ?_
  · exact k2
  · intro a0 b0
    exact State.updSeq_sound b0

theorem doBloop_sound {z v0 v1 s2} (k2 : Sound z s2) : Sound z (doBloop v0 v1 s2) := by
  unfold doBloop
  refine State.control_sound ?_ ?_
  · exact k2
  · intro a0 b0
    exact State.updSeq_sound b0

theorem doBr_sound {z v0 v1 s2} (k2 : Sound z s2) : Sound z (doBr v0 v1 s2) := by
  unfold doBr
  refine State.control_sound ?_ ?_
  · exact k2
  · intro a0 b0
    exact State.updSeq_sound b0

theorem doWaitc_sound {z v0 v1 s2} (k2 : Sound z s2) : Sound z (doWaitc v0 v1 s2) := by
  unfold doWaitc
  refine State.control_sound ?_ ?_
  · exact k2
  · intro a0 b0
    exact State.updSeq_sound b0

theorem doWaitcRelease_sound {z v0 s1} (k1 : Sound z s1) : Sound z (doWaitcRelease v0 s1) := by
  unfold doWaitcRelease
  refine Sound.ite (fun _ => ?_) (fun _ => ?_)
  · exact State.updSeq_sound (State.runTo_sound k1)
  · exact k1

theorem doFlagclr_sound {z v0 v1 s2} (k2 : Sound z s2) : Sound z (doFlagclr v0 v1 s2) := by
  unfold doFlagclr
  refine State.control_sound ?_ ?_
  · exact k2
  · intro a0 b0
    extract_lets +onlyGivenNames x0
    try clear_value x0
    exact State.sched_sound b0

theorem State.release_sound {z s0 v1 v2} (k0 : Sound z s0) : Sound z (State.release s0 v1 v2) := by
  unfold State.release
  exact State.openAt_sound k0

theorem State.takeFlag_sound {z s0 v1 v2} (k0 : Sound z s0) : Sound z (State.takeFlag s0 v1 v2) := by
  unfold State.takeFlag
  exact State.updSeq_sound k0

theorem doWaitg_sound {z v0 v1 s2} (k2 : Sound z s2) : Sound z (doWaitg v0 v1 s2) := by
  unfold doWaitg
  extract_lets +onlyGivenNames x0
  try clear_value x0
  refine State.holding_sound ?_ ?_
  · exact k2
  · intro a0 b0
    exact State.takeFlag_sound b0

theorem doWaitgRelease_sound {z v0 v1 s2} (k2 : Sound z s2) : Sound z (doWaitgRelease v0 v1 s2) := by
  unfold doWaitgRelease
  extract_lets +onlyGivenNames x0
  try clear_value x0
  refine Sound.ite (fun _ => ?_) (fun _ => ?_)
  · extract_lets +onlyGivenNames x1
    have h2 : Sound z x1 := State.release_sound k2
    try clear_value x1
    refine Sound.ite (fun _ => ?_) (fun _ => ?_)
    · exact State.takeFlag_sound h2
    · exact h2
  · exact k2

theorem doWaitx_sound {z v0 v1 s2} (k2 : Sound z s2) : Sound z (doWaitx v0 v1 s2) := by
  unfold doWaitx
  extract_lets +onlyGivenNames x0
  try clear_value x0
  refine State.holding_sound ?_ ?_
  · exact k2
  · intro a0 b0
    exact b0

theorem State.settleTags_sound {z c m n s} (k : Sound z s) : SoundO1 z (State.settleTags c m n s) := by
  induction n generalizing s with
  | zero => exact SoundO1.none
  | succ n ih =>
    unfold State.settleTags
    extract_lets
    refine SoundO1.ite (fun _ => SoundO1.mk k) (fun _ => ?_)
    extract_lets
    refine SoundO1.ite (fun _ => SoundO1.mk k) (fun _ => ?_)
    split
    · exact SoundO1.none
    · exact ih (State.updSeq_sound (State.runCycle_sound k))

theorem doWaitxRelease_sound {z v0 s1} (k1 : Sound z s1) : Sound z (doWaitxRelease v0 s1) := by
  unfold doWaitxRelease
  extract_lets +onlyGivenNames x0
  try clear_value x0
  refine Sound.ite (fun _ => ?_) (fun _ => ?_)
  · split
    · exact k1
    · next y1 y2 e =>
      have h3 : Sound z y2 := by
        refine SoundO1.of e ?_
        exact State.settleTags_sound k1
      refine Sound.ite (fun _ => ?_) (fun _ => ?_)
      · exact State.release_sound h3
      · exact h3
  · exact k1

theorem State.takeBlock_sound {z s0 v1 v2} (k0 : Sound z s0) : Sound z (State.takeBlock s0 v1 v2) := by
  unfold State.takeBlock
  exact State.updSeq_sound k0

theorem doWaitb_sound {z v0 v1 s2} (k2 : Sound z s2) : Sound z (doWaitb v0 v1 s2) := by
  unfold doWaitb
  extract_lets +onlyGivenNames x0
  try clear_value x0
  refine State.holding_sound ?_ ?_
  · exact k2
  · intro a0 b0
    exact State.takeBlock_sound b0

theorem doWaitbRelease_sound {z v0 v1 s2} (k2 : Sound z s2) : Sound z (doWaitbRelease v0 v1 s2) := by
  unfold doWaitbRelease
  extract_lets +onlyGivenNames x0
  try clear_value x0
  refine Sound.ite (fun _ => ?_) (fun _ => ?_)
  · extract_lets +onlyGivenNames x1
    have h2 : Sound z x1 := State.release_sound k2
    try clear_value x1
    refine Sound.ite (fun _ => ?_) (fun _ => ?_)
    · exact State.takeBlock_sound h2
    · exact h2
  · exact k2

theorem doBar_sound {z v0 v1 s2} (k2 : Sound z s2) : Sound z (doBar v0 v1 s2) := by
  unfold doBar
  refine State.control_sound ?_ ?_
  · exact k2
  · intro a0 b0
    extract_lets +onlyGivenNames -merge x0 x1 x2
    try clear_value x0 x1 x2
    refine Sound.ite (fun _ => ?_) (fun _ => ?_)
    · exact State.stop_sound b0
    · refine Sound.ite (fun _ => ?_) (fun _ => ?_)
      · exact b0
      · exact State.hold_sound b0

theorem doBarRelease_sound {z v0 v1 s2} (k2 : Sound z s2) : Sound z (doBarRelease v0 v1 s2) := by
  unfold doBarRelease
  extract_lets +onlyGivenNames x0
  try clear_value x0
  refine Sound.ite (fun _ => ?_) (fun _ => ?_)
  · extract_lets +onlyGivenNames -merge x1 x2
    try clear_value x1 x2
    extract_lets +onlyGivenNames -merge -underBinder x3
    try clear_value x3
    refine Sound.ite (fun _ => ?_) (fun _ => ?_)
    · extract_lets +onlyGivenNames -merge x4 x5
      try clear_value x4 x5
      refine Sound.foldl _ (fun q y h6 => ?_) _ ?_
      · exact State.release_sound h6
      · exact k2
    · exact k2
  · exact k2

theorem doFence_sound {z v0 v1 s2} (k2 : Sound z s2) : Sound z (doFence v0 v1 s2) := by
  unfold doFence
  extract_lets +onlyGivenNames x0
  try clear_value x0
  refine State.holding_sound ?_ ?_
  · exact k2
  · intro a0 b0
    exact b0

theorem State.settleUnits_sound {z c m n s} (k : Sound z s) : Sound z (State.settleUnits c m n s) := by
  induction n generalizing s with
  | zero => exact k
  | succ n ih =>
    unfold State.settleUnits
    refine Sound.ite (fun _ => State.runTo_sound k) (fun _ => ih (State.runTo_sound k))

theorem doFenceRelease_sound {z v0 s1} (k1 : Sound z s1) : Sound z (doFenceRelease v0 s1) := by
  unfold doFenceRelease
  extract_lets +onlyGivenNames x0
  try clear_value x0
  refine Sound.ite (fun _ => ?_) (fun _ => ?_)
  · extract_lets +onlyGivenNames x1
    have h2 : Sound z x1 := State.settleUnits_sound k1
    try clear_value x1
    refine Sound.ite (fun _ => ?_) (fun _ => ?_)
    · exact State.release_sound h2
    · exact h2
  · exact k1

theorem doEnd_sound {z v0 v1 s2} (k2 : Sound z s2) : Sound z (doEnd v0 v1 s2) := by
  unfold doEnd
  refine State.control_sound ?_ ?_
  · exact k2
  · intro a0 b0
    exact State.updSeq_sound b0

theorem doWaitTimeout_sound {z v0 s1} (k1 : Sound z s1) : Sound z (doWaitTimeout v0 s1) := by
  unfold doWaitTimeout
  refine Sound.ite (fun _ => ?_) (fun _ => ?_)
  · extract_lets +onlyGivenNames x0
    have h1 : Sound z x0 := State.flush_sound k1
    try clear_value x0
    refine Sound.ite (fun _ => ?_) (fun _ => ?_)
    · exact State.halt_sound (State.stopAs_sound h1)
    · exact h1
  · exact k1

theorem State.startProgram_sound {z s0 v1 v2} (k0 : Sound z s0) : Sound z (State.startProgram s0 v1 v2) := by
  unfold State.startProgram
  refine Sound.ite (fun _ => ?_) (fun _ => ?_)
  · exact State.send_sound k0
  · refine Sound.ite (fun _ => ?_) (fun _ => ?_)
    · exact k0
    · extract_lets +onlyGivenNames -merge x0 x1 x2 x3 x4 x5
      try clear_value x0 x1 x2 x3 x4 x5
      extract_lets +onlyGivenNames x6
      have h7 : Sound z x6 := State.setCl_sound k0
      try clear_value x6
      exact State.setReg_sound (State.setReg_sound h7)

theorem doStartRecord_sound {z v0 v1 s2} (k2 : Sound z s2) : Sound z (doStartRecord v0 v1 s2) := by
  unfold doStartRecord
  exact State.startProgram_sound k2

end Sys2Proof.Machine
end

