-- ==== Sys2Proof/Laws/SoundHost.lean ====
section
/-! SUPPORT. `Sound` of every operation: time, the recorder, the host, sensors, the pipeline and Gauge. -/

namespace Sys2Proof.Machine

/-! ### Time -/

theorem State.sendLimited_sound {z s0 v1 v2 v3} (k0 : Sound z s0) : Sound z (State.sendLimited s0 v1 v2 v3) := by
  unfold State.sendLimited
  extract_lets +onlyGivenNames x0
  try clear_value x0
  refine Sound.ite (fun _ => ?_) (fun _ => ?_)
  · exact k0
  · exact State.sendEv_sound (Sound.same k0 rfl rfl rfl rfl rfl)

theorem State.timeConfig_sound {z s0} (k0 : Sound z s0) : Sound z (State.timeConfig s0) := by
  unfold State.timeConfig
  exact State.sendEv_sound (State.orReg_sound k0)

theorem State.timeOp_sound {z s0 v1} (k0 : Sound z s0) : Sound z (State.timeOp s0 v1) := by
  unfold State.timeOp
  split
  · exact State.orReg_sound (Sound.same k0 rfl rfl rfl rfl rfl)
  · exact Sound.same k0 rfl rfl rfl rfl rfl
  · extract_lets +onlyGivenNames x0
    try clear_value x0
    refine Sound.ite (fun _ => ?_) (fun _ => ?_)
    · exact State.sendLimited_sound (State.orReg_sound k0)
    · exact Sound.same k0 rfl rfl rfl rfl rfl

theorem doTimeTick_sound {z s} (k : Sound z s) : Sound { z with ticks := z.ticks + 1 } (doTimeTick s) := by
  have k1 : ∀ t o, Sound { z with ticks := z.ticks + 1 } t → Sound { z with ticks := z.ticks + 1 } (State.timeOp t o) :=
    fun _ _ h => State.timeOp_sound h
  unfold doTimeTick
  extract_lets +onlyGivenNames -merge -underBinder was ops _ x
  have h : Sound { z with ticks := z.ticks + 1 } x :=
    ⟨k.queue, congrArg (· + 1) k.clock, k.fresh, k.memory, k.marks⟩
  clear_value x
  extract_lets +onlyGivenNames -merge -underBinder y
  have hy : Sound { z with ticks := z.ticks + 1 } y := Sound.foldl _ (fun q o h => k1 q o h) _ h
  clear_value y
  extract_lets +onlyGivenNames -merge -underBinder _ w
  have hw : Sound { z with ticks := z.ticks + 1 } w := Sound.same hy rfl rfl rfl rfl rfl
  clear_value w
  extract_lets +onlyGivenNames -merge -underBinder v
  have hv : Sound { z with ticks := z.ticks + 1 } v := Sound.foldl _ (fun q o h => k1 q o h) _ hw
  clear_value v
  refine Sound.ite (fun _ => Sound.same hv rfl rfl rfl rfl rfl) (fun _ => hv)

theorem doSet_sound {z s0} (k0 : Sound z s0) : Sound z (doSet s0) := by
  unfold doSet
  refine Sound.ite (fun _ => ?_) (fun _ => ?_)
  · exact State.timeConfig_sound k0
  · extract_lets +onlyGivenNames x0
    try clear_value x0
    refine Sound.ite (fun _ => ?_) (fun _ => ?_)
    · exact State.timeConfig_sound k0
    · extract_lets +onlyGivenNames x1
      try clear_value x1
      exact Sound.same k0 rfl rfl rfl rfl rfl

theorem doAdj_sound {z s0} (k0 : Sound z s0) : Sound z (doAdj s0) := by
  unfold doAdj
  refine Sound.ite (fun _ => ?_) (fun _ => ?_)
  · exact State.timeConfig_sound k0
  · extract_lets +onlyGivenNames x0
    try clear_value x0
    exact Sound.same k0 rfl rfl rfl rfl rfl

theorem doIncCommit_sound {z v0 s1} (k1 : Sound z s1) : Sound z (doIncCommit v0 s1) := by
  unfold doIncCommit
  refine Sound.ite (fun _ => ?_) (fun _ => ?_)
  · exact State.timeConfig_sound k1
  · extract_lets +onlyGivenNames x0
    have h1 : Sound z x0 := State.setReg_sound k1
    try clear_value x0
    exact Sound.same h1 rfl rfl rfl rfl rfl

theorem doTbSecLo_sound {z s0} (k0 : Sound z s0) : Sound z (doTbSecLo s0) := by
  unfold doTbSecLo
  exact Sound.same k0 rfl rfl rfl rfl rfl

theorem State.refEnter_sound {z s0 v1} (k0 : Sound z s0) : Sound z (State.refEnter s0 v1) := by
  unfold State.refEnter
  extract_lets +onlyGivenNames x0
  try clear_value x0
  extract_lets +onlyGivenNames x1
  have h2 : Sound z x1 := State.setFld_sound k0
  try clear_value x1
  extract_lets +onlyGivenNames x3
  have h4 : Sound z x3 := by
    unfold x3
    refine Sound.ite (fun _ => ?_) (fun _ => ?_)
    · exact State.send_sound h2
    · exact h2
  try clear_value x3
  refine Sound.ite (fun _ => ?_) (fun _ => ?_)
  · exact State.sendEv_sound h4
  · refine Sound.ite (fun _ => ?_) (fun _ => ?_)
    · exact State.sendEv_sound h4
    · exact h4

theorem doRefsrc_sound {z v0 s1} (k1 : Sound z s1) : Sound z (doRefsrc v0 s1) := by
  unfold doRefsrc
  refine Sound.ite (fun _ => ?_) (fun _ => ?_)
  · exact State.sendEv_sound k1
  · extract_lets +onlyGivenNames x0
    have h1 : Sound z x0 := State.refEnter_sound k1
    try clear_value x0
    extract_lets +onlyGivenNames x2
    have h3 : Sound z x2 := State.setReg_sound h1
    try clear_value x2
    exact Sound.same h3 rfl rfl rfl rfl rfl

theorem State.refOk_sound {z s0} (k0 : Sound z s0) : Sound z (State.refOk s0) := by
  unfold State.refOk
  extract_lets +onlyGivenNames x0
  try clear_value x0
  extract_lets +onlyGivenNames -merge -underBinder x1 x2
  have h3 : Sound z x2 := Sound.same k0 rfl rfl rfl rfl rfl
  try clear_value x2
  refine Sound.ite (fun _ => ?_) (fun _ => ?_)
  · exact State.refEnter_sound h3
  · exact h3

theorem doPpsEdge_sound {z v0 v1 s2} (k2 : Sound z s2) : Sound z (doPpsEdge v0 v1 s2) := by
  unfold doPpsEdge
  refine Sound.ite (fun _ => ?_) (fun _ => ?_)
  · exact k2
  · refine Sound.ite (fun _ => ?_) (fun _ => ?_)
    · exact State.sendLimited_sound (State.bump_sound k2)
    · extract_lets +onlyGivenNames x0
      try clear_value x0
      extract_lets +onlyGivenNames x1
      have h2 : ∀ a0, Sound z a0 → Sound z (x1 a0) := by
        intro a0 b0
        unfold x1
        exact State.refOk_sound (State.setReg_sound (State.setReg_sound b0))
      try clear_value x1
      extract_lets +onlyGivenNames -merge -underBinder x3
      have h4 : ∀ a0, Sound z a0 → Sound z (x3 a0) := by
        intro a0 b0
        unfold x3
        exact Sound.same b0 rfl rfl rfl rfl rfl
      try clear_value x3
      split
      · refine h2 _ ?_
        · refine h4 _ ?_
          · exact k2
      · extract_lets +onlyGivenNames -merge x5 x6
        try clear_value x5 x6
        refine Sound.ite (fun _ => ?_) (fun _ => ?_)
        · refine h2 _ ?_
          · refine h4 _ ?_
            · exact Sound.same k2 rfl rfl rfl rfl rfl
        · extract_lets +onlyGivenNames -merge x7 x8
          try clear_value x7 x8
          refine Sound.ite (fun _ => ?_) (fun _ => ?_)
          · extract_lets +onlyGivenNames -merge -underBinder x9 x10
            have h11 : Sound z x10 := by
              unfold x10
              refine h4 _ ?_
              · exact Sound.same k2 rfl rfl rfl rfl rfl
            try clear_value x10
            exact State.sendLimited_sound (State.orReg_sound (State.bump_sound h11))
          · extract_lets +onlyGivenNames -merge -underBinder x12 x13
            have h14 : Sound z x13 := by
              unfold x13
              refine h4 _ ?_
              · exact Sound.same k2 rfl rfl rfl rfl rfl
            try clear_value x13
            refine h2 _ ?_
            · exact State.setReg_sound h14

theorem doSyncMessage_sound {z v0 v1 s2} (k2 : Sound z s2) : Sound z (doSyncMessage v0 v1 s2) := by
  unfold doSyncMessage
  refine Sound.ite (fun _ => ?_) (fun _ => ?_)
  · exact State.refOk_sound k2
  · exact k2

theorem doReferenceTimeout_sound {z s0} (k0 : Sound z s0) : Sound z (doReferenceTimeout s0) := by
  unfold doReferenceTimeout
  refine Sound.ite (fun _ => ?_) (fun _ => ?_)
  · exact State.refEnter_sound (Sound.same k0 rfl rfl rfl rfl rfl)
  · exact k0

theorem State.setLaunch_sound {z s0 v1 v2} (k0 : Sound z s0) : Sound z (State.setLaunch s0 v1 v2) := by
  unfold State.setLaunch
  exact Sound.same k0 rfl rfl rfl rfl rfl

theorem State.lqLate_sound {z s0 v1} (k0 : Sound z s0) : Sound z (State.lqLate s0 v1) := by
  unfold State.lqLate
  exact State.bump_sound k0

theorem State.lqHead_sound {z q n s} (k : Sound z s) : Sound z (State.lqHead q n s) := by
  induction n generalizing s with
  | zero => exact k
  | succ n ih =>
    unfold State.lqHead
    split
    · exact k
    · refine Sound.ite (fun _ => k) (fun _ => Sound.ite (fun _ => ih ?_) (fun _ => State.setLaunch_sound k))
      exact State.sendLimited_sound (State.lqLate_sound (State.setLaunch_sound k))

theorem doLaunchGo_sound {z v0 s1} (k1 : Sound z s1) : Sound z (doLaunchGo v0 s1) := by
  unfold doLaunchGo
  extract_lets +onlyGivenNames -merge x0 x1
  try clear_value x0 x1
  refine Sound.ite (fun _ => ?_) (fun _ => ?_)
  · exact State.orReg_sound k1
  · extract_lets +onlyGivenNames -merge x2 x3
    try clear_value x2 x3
    refine Sound.ite (fun _ => ?_) (fun _ => ?_)
    · exact State.lqHead_sound (State.setLaunch_sound k1)
    · exact State.lqLate_sound k1

theorem doLaunchSend_sound {z v0 v1 s2} (k2 : Sound z s2) : Sound z (doLaunchSend v0 v1 s2) := by
  unfold doLaunchSend
  split
  · exact k2
  · refine Sound.ite (fun _ => ?_) (fun _ => ?_)
    · exact k2
    · split
      · next y0 y1 e =>
        have h2 : Sound z y1 := by
          refine Sound2.of e ?_
          exact State.hubRead_sound k2
        extract_lets +onlyGivenNames -merge x3 x4 x5
        try clear_value x3 x4 x5
        extract_lets +onlyGivenNames x6
        have h7 : Sound z x6 := State.setLaunch_sound h2
        try clear_value x6
        extract_lets +onlyGivenNames -merge -underBinder x8 x9
        have h10 : Sound z x9 := by
          unfold x9
          refine Sound.ite (fun _ => ?_) (fun _ => ?_)
          · exact State.bump_sound h7
          · exact Sound.same h7 rfl rfl rfl rfl rfl
        try clear_value x9
        exact State.lqHead_sound h10

theorem State.lqDropAll_sound {z s0 v1} (k0 : Sound z s0) : Sound z (State.lqDropAll s0 v1) := by
  unfold State.lqDropAll
  refine State.setLaunch_sound ?_
  refine Sound.foldl _ (fun q y h0 => ?_) _ ?_
  · exact State.lqLate_sound h0
  · exact k0

theorem doStns_sound {z v0 s1} (k1 : Sound z s1) : Sound z (doStns v0 s1) := by
  unfold doStns
  exact Sound.same k1 rfl rfl rfl rfl rfl

/-! ### Recorder -/

theorem State.capture_sound {z s0 v1 v2 v3 v4} (k0 : Sound z s0) : Sound2 z (State.capture s0 v1 v2 v3 v4) := by
  unfold State.capture
  extract_lets +onlyGivenNames -merge x0 x1
  try clear_value x0 x1
  refine Sound2.mk ?_
  exact Sound.same k0 rfl rfl rfl rfl rfl

theorem State.ringPut_sound {z s0 v1} (k0 : Sound z s0) : Sound z (State.ringPut s0 v1) := by
  unfold State.ringPut
  extract_lets +onlyGivenNames x0
  try clear_value x0
  extract_lets +onlyGivenNames x1
  have h2 : Sound z x1 := State.hubPut_sound (Sound.same k0 rfl rfl rfl rfl rfl)
  try clear_value x1
  exact State.setReg_sound (Sound.same h2 rfl rfl rfl rfl rfl)

theorem State.ringStore_sound {z s0 v1} (k0 : Sound z s0) : Sound2 z (State.ringStore s0 v1) := by
  unfold State.ringStore
  split
  · refine Sound2.ite (fun _ => ?_) (fun _ => ?_)
    · refine Sound2.mk ?_
      exact k0
    · extract_lets +onlyGivenNames x0
      have h1 : Sound z x0 := by
        unfold x0
        refine Sound.ite (fun _ => ?_) (fun _ => ?_)
        · exact k0
        · refine Sound.ite (fun _ => ?_) (fun _ => ?_)
          · exact State.setReg_sound k0
          · exact State.ringPut_sound k0
      try clear_value x0
      refine Sound2.mk ?_
      exact State.ringPut_sound h1

theorem State.chainRecord_sound {z s0 v1 v2 v3 v4} (k0 : Sound z s0) : Sound z (State.chainRecord s0 v1 v2 v3 v4) := by
  unfold State.chainRecord
  extract_lets +onlyGivenNames x0
  try clear_value x0
  exact Sound.same k0 rfl rfl rfl rfl rfl

theorem State.numberRecord_sound {z s0 v1 v2 v3 v4 v5} (k0 : Sound z s0) : Sound z (State.numberRecord s0 v1 v2 v3 v4 v5) := by
  unfold State.numberRecord
  extract_lets +onlyGivenNames -merge x0 x1
  try clear_value x0 x1
  extract_lets +onlyGivenNames x2
  have h3 : Sound z x2 := State.chainRecord_sound k0
  try clear_value x2
  refine Sound.ite (fun _ => ?_) (fun _ => ?_)
  · exact h3
  · split
    · exact Sound.same h3 rfl rfl rfl rfl rfl
    · split
      · next y4 y5 e =>
        have h6 : Sound z y5 := by
          refine Sound2.of e ?_
          exact State.ringStore_sound h3
        refine Sound.ite (fun _ => ?_) (fun _ => ?_)
        · exact h6
        · extract_lets +onlyGivenNames -merge -underBinder x7 x8
          have h9 : Sound z x8 := Sound.same h6 rfl rfl rfl rfl rfl
          try clear_value x8
          exact State.sendEv_sound (State.orReg_sound h9)

theorem doRecordCapture_sound {z s0} (k0 : Sound z s0) : Sound z (doRecordCapture s0) := by
  unfold doRecordCapture
  split
  · exact k0
  · exact State.numberRecord_sound (Sound.same k0 rfl rfl rfl rfl rfl)

theorem doRecordingResume_sound {z s0} (k0 : Sound z s0) : Sound z (doRecordingResume s0) := by
  unfold doRecordingResume
  split
  · exact k0
  · refine Sound.ite (fun _ => ?_) (fun _ => ?_)
    · exact State.numberRecord_sound (Sound.same k0 rfl rfl rfl rfl rfl)
    · exact k0

theorem State.dtRefuse_sound {z s0} (k0 : Sound z s0) : Sound z (State.dtRefuse s0) := by
  unfold State.dtRefuse
  exact State.sendEv_sound (State.orReg_sound k0)

theorem doDtCfg_sound {z v0 v1 s2} (k2 : Sound z s2) : Sound z (doDtCfg v0 v1 s2) := by
  unfold doDtCfg
  extract_lets +onlyGivenNames -merge x0 x1
  try clear_value x0 x1
  refine Sound.ite (fun _ => ?_) (fun _ => ?_)
  · exact k2
  · refine Sound.ite (fun _ => ?_) (fun _ => ?_)
    · refine Sound.ite (fun _ => ?_) (fun _ => ?_)
      · exact k2
      · exact State.dtRefuse_sound k2
    · refine Sound.ite (fun _ => ?_) (fun _ => ?_)
      · exact State.setReg_sound k2
      · extract_lets +onlyGivenNames x2
        try clear_value x2
        refine Sound.ite (fun _ => ?_) (fun _ => ?_)
        · exact State.dtRefuse_sound k2
        · split
          · next y3 y4 e =>
            have h5 : Sound z y4 := by
              refine Sound2.of e ?_
              refine Sound2.ite (fun _ => ?_) (fun _ => ?_)
              · exact State.free_sound k2
              · refine Sound2.mk ?_
                exact k2
            extract_lets +onlyGivenNames x6
            have h7 : Sound z x6 := State.setReg_sound h5
            try clear_value x6
            exact Sound.same h7 rfl rfl rfl rfl rfl

theorem State.ringPtr_sound {z s0 v1 v2} (k0 : Sound z s0) : Sound z (State.ringPtr s0 v1 v2) := by
  unfold State.ringPtr
  refine Sound.ite (fun _ => ?_) (fun _ => ?_)
  · exact State.setReg_sound k0
  · exact k0

/-! ### Host -/

theorem State.setCtxState_sound {z s0 v1 v2} (k0 : Sound z s0) : Sound z (State.setCtxState s0 v1 v2) := by
  unfold State.setCtxState
  exact State.setFld_sound k0

theorem State.setCtxSeq_sound {z s0 v1 v2} (k0 : Sound z s0) : Sound z (State.setCtxSeq s0 v1 v2) := by
  unfold State.setCtxSeq
  exact State.setFld_sound (State.setReg_sound k0)

theorem State.setHctx_sound {z s0 v1 v2} (k0 : Sound z s0) : Sound z (State.setHctx s0 v1 v2) := by
  unfold State.setHctx
  exact Sound.same k0 rfl rfl rfl rfl rfl

theorem State.updEntry_sound {z s0 v1 v2 v3} (k0 : Sound z s0) : Sound z (State.updEntry s0 v1 v2 v3) := by
  unfold State.updEntry
  exact Sound.same k0 rfl rfl rfl rfl rfl

theorem State.setIrq_sound {z s0 v1 v2} (k0 : Sound z s0) : Sound z (State.setIrq s0 v1 v2) := by
  unfold State.setIrq
  exact Sound.same k0 rfl rfl rfl rfl rfl

theorem State.trigger_sound {z s0 v1 v2} (k0 : Sound z s0) : Sound z (State.trigger s0 v1 v2) := by
  unfold State.trigger
  extract_lets +onlyGivenNames x0
  try clear_value x0
  refine Sound.ite (fun _ => ?_) (fun _ => ?_)
  · exact State.setIrq_sound k0
  · exact State.setIrq_sound k0

theorem State.ctxIrq_sound {z s0 v1} (k0 : Sound z s0) : Sound z (State.ctxIrq s0 v1) := by
  unfold State.ctxIrq
  refine Sound.ite (fun _ => ?_) (fun _ => ?_)
  · exact State.trigger_sound k0
  · exact k0

theorem doMsixHoldoffExpiry_sound {z v0 s1} (k1 : Sound z s1) : Sound z (doMsixHoldoffExpiry v0 s1) := by
  unfold doMsixHoldoffExpiry
  extract_lets +onlyGivenNames x0
  try clear_value x0
  refine Sound.ite (fun _ => ?_) (fun _ => ?_)
  · exact k1
  · refine Sound.ite (fun _ => ?_) (fun _ => ?_)
    · exact State.setIrq_sound k1
    · exact State.setIrq_sound k1

theorem State.sendDue_sound {z s0} (k0 : Sound z s0) : Sound z (State.sendDue s0) := by
  unfold State.sendDue
  refine Sound.foldl _ (fun q y h0 => ?_) _ ?_
  · extract_lets +onlyGivenNames x1
    try clear_value x1
    refine Sound.ite (fun _ => ?_) (fun _ => ?_)
    · exact State.setIrq_sound h0
    · exact h0
  · exact k0

theorem State.putRecord_sound {z s0 v1 v2 v3} (k0 : Sound z s0) : Sound z (State.putRecord s0 v1 v2 v3) := by
  unfold State.putRecord
  extract_lets +onlyGivenNames -merge x0 x1
  try clear_value x0 x1
  extract_lets +onlyGivenNames x2
  have h3 : Sound z x2 := State.setBytes_sound k0
  try clear_value x2
  extract_lets +onlyGivenNames x4
  try clear_value x4
  exact State.setHctx_sound (State.setFld_sound h3)

theorem State.writeRecord_sound {z s0 v1} (k0 : Sound z s0) : Sound z (State.writeRecord s0 v1) := by
  unfold State.writeRecord
  refine Sound.ite (fun _ => ?_) (fun _ => ?_)
  · exact k0
  · split
    · extract_lets +onlyGivenNames -merge -underBinder x0 x1
      have h2 : Sound z x1 := State.setHctx_sound k0
      try clear_value x1
      exact State.ctxIrq_sound (State.putRecord_sound h2)
    · split
      · exact k0
      · extract_lets +onlyGivenNames x3
        try clear_value x3
        extract_lets +onlyGivenNames x4
        have h5 : Sound z x4 := State.putRecord_sound k0
        try clear_value x4
        extract_lets +onlyGivenNames x6
        have h7 : Sound z x6 := State.updEntry_sound h5
        try clear_value x6
        refine Sound.ite (fun _ => ?_) (fun _ => ?_)
        · exact State.ctxIrq_sound h7
        · exact h7

theorem doOutcomeRecord_sound {z v0 s1} (k1 : Sound z s1) : Sound z (doOutcomeRecord v0 s1) := by
  unfold doOutcomeRecord
  exact State.writeRecord_sound k1

theorem State.flushRecords_sound {z c n s} (k : Sound z s) : Sound z (State.flushRecords c n s) := by
  induction n generalizing s with
  | zero => exact k
  | succ n ih => exact ih (State.writeRecord_sound k)

theorem State.flushAll_sound {z s0 v1} (k0 : Sound z s0) : Sound z (State.flushAll s0 v1) := by
  unfold State.flushAll
  exact State.flushRecords_sound k0

theorem State.enterOut_sound {z s0 v1 v2 v3} (k0 : Sound z s0) : Sound z (State.enterOut s0 v1 v2 v3) := by
  unfold State.enterOut
  exact State.updEntry_sound k0

theorem State.leaveBehind_sound {z s0 v1} (k0 : Sound z s0) : Sound z (State.leaveBehind s0 v1) := by
  unfold State.leaveBehind
  refine Sound.ite (fun _ => ?_) (fun _ => ?_)
  · exact State.setFld_sound k0
  · refine Sound.ite (fun _ => ?_) (fun _ => ?_)
    · exact State.setFld_sound k0
    · exact k0

theorem State.discardList_sound {z c x l s} (k : Sound z s) : Sound z (State.discardList c x l s) := by
  induction l generalizing s with
  | nil => exact k
  | cons q r ih =>
    unfold State.discardList
    split
    · exact ih k
    · refine Sound.ite (fun _ => ih k) (fun _ => ih ?_)
      exact Sound.same (State.leaveBehind_sound (State.enterOut_sound k)) rfl rfl rfl rfl rfl

theorem State.settle_sound {z s0 v1} (k0 : Sound z s0) : Sound z (State.settle s0 v1) := by
  unfold State.settle
  refine Sound.ite (fun _ => ?_) (fun _ => ?_)
  · exact State.setCtxState_sound (State.flushAll_sound k0)
  · exact k0

theorem State.discardOne_sound {z s0 v1 v2 v3} (k0 : Sound z s0) : Sound z (State.discardOne s0 v1 v2 v3) := by
  unfold State.discardOne
  split
  · exact k0
  · refine Sound.ite (fun _ => ?_) (fun _ => ?_)
    · exact k0
    · extract_lets +onlyGivenNames x0
      try clear_value x0
      exact State.settle_sound (State.discardList_sound (State.discardList_sound k0))

theorem State.done1_sound {z s0 v1 v2 v3 v4 v5 v6} (k0 : Sound z s0) : Sound z (State.done1 s0 v1 v2 v3 v4 v5 v6) := by
  unfold State.done1
  exact State.settle_sound (State.enterOut_sound k0)

theorem State.status_sound {z s0 v1 v2 v3} (k0 : Sound z s0) : Sound z (State.status s0 v1 v2 v3) := by
  unfold State.status
  exact State.done1_sound k0

theorem State.discardAll_sound {z s0 v1 v2} (k0 : Sound z s0) : Sound z (State.discardAll s0 v1 v2) := by
  unfold State.discardAll
  exact State.discardList_sound k0

theorem State.acceptWith_sound {z s0 v1 v2 v3 v4} (k0 : Sound z s0) : Sound z (State.acceptWith s0 v1 v2 v3 v4) := by
  unfold State.acceptWith
  split
  · next y0 y1 e =>
    have h2 : Sound z y1 := by
      refine Sound2.of e ?_
      exact State.capture_sound k0
    extract_lets +onlyGivenNames -merge x3 x4 x5
    try clear_value x3 x4 x5
    extract_lets +onlyGivenNames x6
    have h7 : Sound z x6 := State.setCtxSeq_sound h2
    try clear_value x6
    extract_lets +onlyGivenNames -merge -underBinder x8 x9
    have h10 : Sound z x9 := Sound.same h7 rfl rfl rfl rfl rfl
    try clear_value x9
    extract_lets +onlyGivenNames x11
    have h12 : Sound z x11 := State.putRecord_sound h10
    try clear_value x11
    refine Sound.ite (fun _ => ?_) (fun _ => ?_)
    · exact State.status_sound (State.send_sound h12)
    · exact h12

theorem doAccept_sound {z v0 v1 v2 v3 s4} (k4 : Sound z s4) : Sound z (doAccept v0 v1 v2 v3 s4) := by
  unfold doAccept
  extract_lets +onlyGivenNames x0
  try clear_value x0
  refine Sound.ite (fun _ => ?_) (fun _ => ?_)
  · exact k4
  · refine Sound.ite (fun _ => ?_) (fun _ => ?_)
    · exact State.send_sound (State.orReg_sound k4)
    · refine Sound.ite (fun _ => ?_) (fun _ => ?_)
      · exact k4
      · exact State.acceptWith_sound (State.setFld_sound k4)

theorem State.dbErr_sound {z s0 v1} (k0 : Sound z s0) : Sound z (State.dbErr s0 v1) := by
  unfold State.dbErr
  exact State.orReg_sound k0

theorem State.ringBell_sound {z s0 v1} (k0 : Sound z s0) : Sound z (State.ringBell s0 v1) := by
  unfold State.ringBell
  refine Sound.ite (fun _ => ?_) (fun _ => ?_)
  · exact k0
  · extract_lets +onlyGivenNames x0
    have h1 : Sound z x0 := State.setFld_sound k0
    try clear_value x0
    exact Sound.same h1 rfl rfl rfl rfl rfl

theorem doSqTail_sound {z v0 v1 s2} (k2 : Sound z s2) : Sound z (doSqTail v0 v1 s2) := by
  unfold doSqTail
  extract_lets +onlyGivenNames x0
  have h1 : Sound z x0 := State.ringBell_sound k2
  try clear_value x0
  refine Sound.ite (fun _ => ?_) (fun _ => ?_)
  · exact State.dbErr_sound h1
  · exact State.setFld_sound h1

theorem doCqHead_sound {z v0 v1 s2} (k2 : Sound z s2) : Sound z (doCqHead v0 v1 s2) := by
  unfold doCqHead
  extract_lets +onlyGivenNames x0
  have h1 : Sound z x0 := State.ringBell_sound k2
  try clear_value x0
  extract_lets +onlyGivenNames -merge x2 x3 x4
  try clear_value x2 x3 x4
  refine Sound.ite (fun _ => ?_) (fun _ => ?_)
  · exact State.dbErr_sound h1
  · extract_lets +onlyGivenNames x5
    try clear_value x5
    extract_lets +onlyGivenNames x6
    have h7 : Sound z x6 := State.setFld_sound h1
    try clear_value x6
    extract_lets +onlyGivenNames x8
    have h9 : Sound z x8 := State.setHctx_sound h7
    try clear_value x8
    exact Sound.same h9 rfl rfl rfl rfl rfl

theorem State.cmdErr_sound {z s0 v1} (k0 : Sound z s0) : Sound z (State.cmdErr s0 v1) := by
  unfold State.cmdErr
  exact State.orReg_sound k0

theorem State.enableCtx_sound {z s0 v1} (k0 : Sound z s0) : Sound z (State.enableCtx s0 v1) := by
  unfold State.enableCtx
  extract_lets +onlyGivenNames x0
  have h1 : Sound z x0 := State.setReg_sound (State.setReg_sound k0)
  try clear_value x0
  extract_lets +onlyGivenNames -merge -underBinder x2 x3
  have h4 : Sound z x3 := State.setHctx_sound (State.setReg_sound (State.setReg_sound h1))
  try clear_value x3
  extract_lets +onlyGivenNames -merge x5 x6
  try clear_value x5 x6
  extract_lets +onlyGivenNames -merge -underBinder x7 x8
  have h9 : Sound z x8 := Sound.same h4 rfl rfl rfl rfl rfl
  try clear_value x8
  exact State.flushAll_sound (State.setCtxState_sound h9)

theorem doEnable_sound {z v0 s1} (k1 : Sound z s1) : Sound z (doEnable v0 s1) := by
  unfold doEnable
  refine Sound.ite (fun _ => ?_) (fun _ => ?_)
  · exact State.cmdErr_sound k1
  · refine Sound.ite (fun _ => ?_) (fun _ => ?_)
    · exact Sound.same k1 rfl rfl rfl rfl rfl
    · refine Sound.ite (fun _ => ?_) (fun _ => ?_)
      · exact State.send_sound (State.orReg_sound k1)
      · exact State.enableCtx_sound k1

theorem doDisable_sound {z v0 s1} (k1 : Sound z s1) : Sound z (doDisable v0 s1) := by
  unfold doDisable
  refine Sound.ite (fun _ => ?_) (fun _ => ?_)
  · exact State.cmdErr_sound k1
  · exact State.settle_sound (State.setCtxState_sound k1)

theorem State.dropRequests_sound {z s0 v1} (k0 : Sound z s0) : Sound z (State.dropRequests s0 v1) := by
  unfold State.dropRequests
  exact Sound.same k0 rfl rfl rfl rfl rfl

theorem State.abortCore_sound {z s0 v1 v2 v3} (k0 : Sound z s0) : Sound z (State.abortCore s0 v1 v2 v3) := by
  unfold State.abortCore
  extract_lets +onlyGivenNames x0
  have h1 : Sound z x0 := State.setCtxState_sound k0
  try clear_value x0
  extract_lets +onlyGivenNames x2
  have h4 : Sound z x2 := by
    unfold x2
    refine Sound.foldl _ (fun q y h3 => ?_) _ ?_
    · exact State.halt_sound (State.updSeq_sound h3)
    · exact h1
  try clear_value x2
  extract_lets +onlyGivenNames x5
  have h6 : Sound z x5 := State.discardList_sound h4
  try clear_value x5
  extract_lets +onlyGivenNames x7
  have h8 : Sound z x7 := State.dropRequests_sound (State.discardAll_sound h6)
  try clear_value x7
  extract_lets +onlyGivenNames x9
  have h10 : Sound z x9 := Sound.same h8 rfl rfl rfl rfl rfl
  try clear_value x9
  exact State.settle_sound h10

theorem State.loseHost_sound {z s0} (k0 : Sound z s0) : Sound z (State.loseHost s0) := by
  unfold State.loseHost
  refine Sound.foldl _ (fun q y h0 => ?_) _ ?_
  · exact State.setFld_sound h0
  · exact k0

theorem doHostLoss_sound {z v0 s1} (k1 : Sound z s1) : Sound z (doHostLoss v0 s1) := by
  unfold doHostLoss
  extract_lets +onlyGivenNames x0
  have h1 : Sound z x0 := State.loseHost_sound k1
  try clear_value x0
  extract_lets +onlyGivenNames -merge -underBinder x2 x3
  have h4 : Sound z x3 := Sound.same h1 rfl rfl rfl rfl rfl
  try clear_value x3
  extract_lets +onlyGivenNames x5
  have h6 : Sound z x5 := State.sendEv_sound h4
  try clear_value x5
  refine Sound.ite (fun _ => ?_) (fun _ => ?_)
  · exact State.send_sound h6
  · exact Sound.same h6 rfl rfl rfl rfl rfl

theorem doPcieLinkUp_sound {z s0} (k0 : Sound z s0) : Sound z (doPcieLinkUp s0) := by
  unfold doPcieLinkUp
  refine Sound.ite (fun _ => ?_) (fun _ => ?_)
  · extract_lets +onlyGivenNames -merge -underBinder x0 x1
    have h2 : Sound z x1 := Sound.same k0 rfl rfl rfl rfl rfl
    try clear_value x1
    exact State.sendDue_sound (State.send_sound h2)
  · exact k0

theorem doD3hotEntry_sound {z s0} (k0 : Sound z s0) : Sound z (doD3hotEntry s0) := by
  unfold doD3hotEntry
  refine Sound.ite (fun _ => ?_) (fun _ => ?_)
  · exact k0
  · extract_lets +onlyGivenNames x0
    try clear_value x0
    extract_lets +onlyGivenNames x1
    have h2 : Sound z x1 := State.sendEv_sound (State.loseHost_sound k0)
    try clear_value x1
    exact Sound.same h2 rfl rfl rfl rfl rfl

theorem doD0Return_sound {z s0} (k0 : Sound z s0) : Sound z (doD0Return s0) := by
  unfold doD0Return
  refine Sound.ite (fun _ => ?_) (fun _ => ?_)
  · extract_lets +onlyGivenNames -merge -underBinder x0 x1
    have h2 : Sound z x1 := Sound.same k0 rfl rfl rfl rfl rfl
    try clear_value x1
    extract_lets +onlyGivenNames x3
    have h4 : Sound z x3 := State.send_sound h2
    try clear_value x3
    refine State.sendDue_sound ?_
    refine Sound.foldl _ (fun q y h5 => ?_) _ ?_
    · exact State.flushAll_sound h5
    · exact h4
  · exact k0

theorem State.setImage_sound {z s0 v1 v2 v3} (k0 : Sound z s0) : Sound z (State.setImage s0 v1 v2 v3) := by
  unfold State.setImage
  refine Sound.ite (fun _ => ?_) (fun _ => ?_)
  · exact State.setFld_sound k0
  · exact State.setFld_sound k0

theorem State.startLoad_sound {z s0 v1 v2 v3} (k0 : Sound z s0) : Sound z (State.startLoad s0 v1 v2 v3) := by
  unfold State.startLoad
  split
  · exact k0
  · refine Sound.ite (fun _ => ?_) (fun _ => ?_)
    · exact k0
    · refine Sound.ite (fun _ => ?_) (fun _ => ?_)
      · exact State.status_sound k0
      · refine Sound.ite (fun _ => ?_) (fun _ => ?_)
        · exact State.status_sound k0
        · refine Sound.ite (fun _ => ?_) (fun _ => ?_)
          · exact k0
          · refine Sound.ite (fun _ => ?_) (fun _ => ?_)
            · exact State.status_sound k0
            · exact State.setImage_sound (State.updEntry_sound k0)

theorem doLoadp_sound {z v0 v1 s2} (k2 : Sound z s2) : Sound z (doLoadp v0 v1 s2) := by
  unfold doLoadp
  exact State.startLoad_sound k2

theorem doLoadw_sound {z v0 v1 s2} (k2 : Sound z s2) : Sound z (doLoadw v0 v1 s2) := by
  unfold doLoadw
  exact State.startLoad_sound k2

theorem doCopy_sound {z v0 v1 s2} (k2 : Sound z s2) : Sound z (doCopy v0 v1 s2) := by
  unfold doCopy
  split
  · exact k2
  · refine Sound.ite (fun _ => ?_) (fun _ => ?_)
    · exact k2
    · refine Sound.ite (fun _ => ?_) (fun _ => ?_)
      · exact State.status_sound k2
      · exact State.updEntry_sound k2

theorem doDescriptorNop_sound {z v0 v1 s2} (k2 : Sound z s2) : Sound z (doDescriptorNop v0 v1 s2) := by
  unfold doDescriptorNop
  split
  · exact k2
  · refine Sound.ite (fun _ => ?_) (fun _ => ?_)
    · exact k2
    · exact State.status_sound k2

theorem State.hostData_sound {z s0 v1 v2 v3 v4} (k0 : Sound z s0) : Sound z (State.hostData s0 v1 v2 v3 v4) := by
  unfold State.hostData
  refine Sound2.snd ?_
  exact State.capture_sound k0

theorem State.hostAnswer_sound {z s v1 v2 v3 v4} (k : Sound z s) : SoundO1 z (State.hostAnswer s v1 v2 v3 v4) := by
  unfold State.hostAnswer
  refine SoundO1.ite (fun _ => ?_) (fun _ => SoundO1.mk k)
  intro p e
  cases o : takeHost v1 v2 v3 s.hostBytes with
  | none =>
    rw [o] at e
    cases e
  | some x =>
    rw [o] at e
    cases e
    exact Sound.same k rfl rfl rfl rfl rfl

theorem State.transferRead_sound {z s0 v1 v2 v3 v4 v5 v6 v7} (k0 : Sound z s0) : Sound2 z (State.transferRead s0 v1 v2 v3 v4 v5 v6 v7) := by
  unfold State.transferRead
  refine Sound2.ite (fun _ => ?_) (fun _ => ?_)
  · refine Sound2.mk ?_
    exact k0
  · refine Sound2.ite (fun _ => ?_) (fun _ => ?_)
    · refine Sound2.mk ?_
      exact State.hostData_sound k0
    · exact State.readFor_sound k0

theorem doHostTransferComplete_sound {z v0 v1 v2 v3 s4} (k4 : Sound z s4) : Sound z (doHostTransferComplete v0 v1 v2 v3 s4) := by
  unfold doHostTransferComplete
  split
  · exact k4
  · extract_lets +onlyGivenNames -merge x0 x1 x2
    extract_lets +onlyGivenNames x3
    extract_lets +onlyGivenNames x4
    refine Sound.ite (fun _ => ?_) (fun _ => ?_)
    · exact k4
    · refine Sound.ite (fun _ => ?_) (fun _ => ?_)
      · exact k4
      · split
        · exact k4
        · next y5 y6 e =>
          have h7 : Sound z y6 := by
            refine SoundO1.of e ?_
            exact State.hostAnswer_sound k4
          extract_lets +onlyGivenNames -merge x8 x9
          extract_lets +onlyGivenNames x10
          have h11 : Sound z x10 := by
            unfold x10
            refine Sound.ite (fun _ => ?_) (fun _ => ?_)
            · exact State.calRefused_sound (Sound.same h7 rfl rfl rfl rfl rfl)
            · exact h7
          extract_lets +onlyGivenNames x12
          have h13 : Sound z x12 := Sound.same h11 rfl rfl rfl rfl rfl
          extract_lets +onlyGivenNames x14
          extract_lets +onlyGivenNames x15
          have h16 : Sound z x15 := by
            unfold x15
            refine Sound.ite (fun _ => ?_) (fun _ => ?_)
            · exact State.calRefused_sound (Sound.same h13 rfl rfl rfl rfl rfl)
            · exact h13
          extract_lets +onlyGivenNames x17
          have h18 : Sound z x17 := Sound.same h16 rfl rfl rfl rfl rfl
          extract_lets +onlyGivenNames x19
          split
          · next y20 y21 e =>
            have h22 : Sound z y21 := by
              refine Sound2.of e ?_
              exact State.transferRead_sound h18
            extract_lets +onlyGivenNames x23
            have h24 : Sound z x23 := by
              unfold x23
              refine Sound.ite (fun _ => ?_) (fun _ => ?_)
              · exact h22
              · exact State.writeFor_sound h22
            extract_lets +onlyGivenNames x25
            refine Sound.ite (fun _ => ?_) (fun _ => ?_)
            · exact State.done1_sound h24
            · refine Sound.ite (fun _ => ?_) (fun _ => ?_)
              · exact State.status_sound (State.setImage_sound h24)
              · extract_lets +onlyGivenNames x26
                refine Sound.ite (fun _ => ?_) (fun _ => ?_)
                · exact State.status_sound (State.setImage_sound h24)
                · extract_lets +onlyGivenNames x27
                  extract_lets +onlyGivenNames -merge -underBinder x28 x29
                  have h30 : Sound z x29 := Sound.same h24 rfl rfl rfl rfl rfl
                  exact State.status_sound (State.setImage_sound h30)

theorem State.loadSection_sound {z s0 v1 v2 v3 v4} (k0 : Sound z s0) : Sound z (State.loadSection s0 v1 v2 v3 v4) := by
  unfold State.loadSection
  extract_lets +onlyGivenNames -merge x0 x1
  split
  next bs t e =>
  have h4 : Sound z t := Sound2.of e (State.readFor_sound k0)
  refine State.orReg_sound (Sound.foldl _ (fun q y h => State.setReg_sound h) _ ?_)
  have h := State.setBytes_sound (a := psKey v4 0) (bs := bs.map (fun b => b.1)) h4
  refine ⟨h.queue, h.clock, h.fresh, h.memory, fun k => ?_⟩
  exact marks_wf_foldl _ _ (fun t x ht => marks_wf_set ht _ _) _ (h.marks k)

theorem State.startSections_sound {z s0 v1 v2 v3 v4 v5 v6 v7} (k0 : Sound z s0) : Sound z (State.startSections s0 v1 v2 v3 v4 v5 v6 v7) := by
  unfold State.startSections
  refine Sound.foldl _ (fun q y h0 => ?_) _ ?_
  · extract_lets +onlyGivenNames x1
    have h2 : Sound z x1 := State.loadSection_sound h0
    try clear_value x1
    extract_lets +onlyGivenNames x3
    try clear_value x3
    exact State.startProgram_sound h2
  · exact k0

theorem State.reportPlacement_sound {z s0 v1 v2 v3} (k0 : Sound z s0) : Sound z (State.reportPlacement s0 v1 v2 v3) := by
  unfold State.reportPlacement
  refine Sound.foldl _ (fun q y h0 => ?_) _ ?_
  · extract_lets +onlyGivenNames x1
    try clear_value x1
    extract_lets +onlyGivenNames x2
    exact State.setFld_sound h0
  · exact k0

theorem State.startStep_sound {z s0 v1 v2 v3 v4} (k0 : Sound z s0) : Sound2 z (State.startStep s0 v1 v2 v3 v4) := by
  unfold State.startStep
  extract_lets +onlyGivenNames -merge x0 x1
  split
  · refine Sound2.mk ?_
    exact k0
  · refine Sound2.ite (fun _ => ?_) (fun _ => ?_)
    · refine Sound2.mk ?_
      exact k0
    · extract_lets +onlyGivenNames x2
      extract_lets +onlyGivenNames x3
      have h4 : Sound z x3 := State.reportPlacement_sound k0
      extract_lets +onlyGivenNames x5
      extract_lets +onlyGivenNames x6
      have h7 : Sound z x6 := Sound.same h4 rfl rfl rfl rfl rfl
      extract_lets +onlyGivenNames x8
      extract_lets +onlyGivenNames x9
      have h11 : Sound z x9 := by
        unfold x9
        refine Sound.foldl _ (fun q y h10 => ?_) _ ?_
        · exact State.setFld_sound h10
        · exact Sound.same h7 rfl rfl rfl rfl rfl
      refine Sound2.mk ?_
      exact State.startSections_sound h11

theorem doRun_sound {z v0 v1 v2 s3} (k3 : Sound z s3) : Sound z (doRun v0 v1 v2 s3) := by
  unfold doRun
  split
  · exact k3
  · extract_lets +onlyGivenNames x0
    try clear_value x0
    refine Sound.ite (fun _ => ?_) (fun _ => ?_)
    · exact k3
    · extract_lets +onlyGivenNames -merge x1 x2
      try clear_value x1 x2
      refine Sound.ite (fun _ => ?_) (fun _ => ?_)
      · exact State.status_sound k3
      · refine Sound.ite (fun _ => ?_) (fun _ => ?_)
        · exact State.status_sound k3
        · split
          · exact State.status_sound k3
          · extract_lets +onlyGivenNames x3
            try clear_value x3
            refine Sound.ite (fun _ => ?_) (fun _ => ?_)
            · exact State.status_sound k3
            · refine Sound.ite (fun _ => ?_) (fun _ => ?_)
              · exact State.status_sound k3
              · extract_lets +onlyGivenNames x4
                try clear_value x4
                extract_lets +onlyGivenNames x5
                have h6 : ∀ a0, Sound z a0 → Sound z (x5 a0) := by
                  intro a0 b0
                  unfold x5
                  exact State.updEntry_sound b0
                try clear_value x5
                extract_lets +onlyGivenNames x7
                have h8 : Sound z x7 := Sound.same k3 rfl rfl rfl rfl rfl
                try clear_value x7
                refine Sound.ite (fun _ => ?_) (fun _ => ?_)
                · refine State.reportPlacement_sound ?_
                  refine h6 _ ?_
                  · exact h8
                · split
                  · next y9 y10 e =>
                    have h11 : Sound z y10 := by
                      refine Sound2.of e ?_
                      exact State.startStep_sound h8
                    refine Sound.ite (fun _ => ?_) (fun _ => ?_)
                    · refine h6 _ ?_
                      · exact h11
                    · exact k3

theorem State.updRun_sound {z s0 v1 v2 v3} (k0 : Sound z s0) : Sound z (State.updRun s0 v1 v2 v3) := by
  unfold State.updRun
  exact Sound.same k0 rfl rfl rfl rfl rfl

theorem State.regionBytes_sound {z s0 v1 v2 v3} (k0 : Sound z s0) : Sound2 z (State.regionBytes s0 v1 v2 v3) := by
  unfold State.regionBytes
  refine Sound2.ite (fun _ => ?_) (fun _ => ?_)
  · refine Sound2.mk ?_
    exact k0
  · refine Sound2.ite (fun _ => ?_) (fun _ => ?_)
    · refine Sound2.mk ?_
      exact k0
    · exact State.readFor_sound k0

theorem State.runFlags_sound {z s0 v1 v2} (k0 : Sound z s0) : Sound2 z (State.runFlags s0 v1 v2) := by
  unfold State.runFlags
  extract_lets +onlyGivenNames -merge x0 x1 x2 x3 x4
  try clear_value x0 x1 x2 x3 x4
  split
  · next y5 y6 e =>
    have h7 : Sound z y6 := by
      refine Sound2.of e ?_
      exact State.regionBytes_sound k0
    extract_lets +onlyGivenNames x8
    try clear_value x8
    refine Sound2.mk ?_
    exact h7

theorem State.frameRecord_sound {z s0 v1 v2} (k0 : Sound z s0) : Sound z (State.frameRecord s0 v1 v2) := by
  unfold State.frameRecord
  refine Sound.ite (fun _ => ?_) (fun _ => ?_)
  · exact State.bump_sound k0
  · extract_lets +onlyGivenNames x0
    try clear_value x0
    exact State.writeRecord_sound (State.setHctx_sound k0)

theorem State.finishEnd_sound {z s0 v1} (k0 : Sound z s0) : Sound z (State.finishEnd s0 v1) := by
  unfold State.finishEnd
  extract_lets +onlyGivenNames -merge -underBinder x0
  have h1 : ∀ a0, Sound z a0 → Sound z (x0 a0) := by
    intro a0 b0
    unfold x0
    exact Sound.same b0 rfl rfl rfl rfl rfl
  try clear_value x0
  refine Sound.ite (fun _ => ?_) (fun _ => ?_)
  · exact k0
  · refine Sound.ite (fun _ => ?_) (fun _ => ?_)
    · exact k0
    · refine Sound.ite (fun _ => ?_) (fun _ => ?_)
      · extract_lets +onlyGivenNames x2
        have h3 : Sound z x2 := by
          unfold x2
          refine h1 _ ?_
          · exact k0
        try clear_value x2
        exact State.done1_sound (Sound.same h3 rfl rfl rfl rfl rfl)
      · extract_lets +onlyGivenNames -merge x4 x5
        try clear_value x4 x5
        refine Sound.ite (fun _ => ?_) (fun _ => ?_)
        · exact k0
        · extract_lets +onlyGivenNames x6
          have h7 : Sound z x6 := by
            unfold x6
            refine h1 _ ?_
            · exact k0
          try clear_value x6
          extract_lets +onlyGivenNames x8
          have h9 : Sound z x8 := Sound.same h7 rfl rfl rfl rfl rfl
          try clear_value x8
          extract_lets +onlyGivenNames -merge -underBinder x10
          try clear_value x10
          refine Sound.ite (fun _ => ?_) (fun _ => ?_)
          · exact h9
          · exact State.frameRecord_sound h9

theorem State.finishEnds_sound {z s0 v1 v2} (k0 : Sound z s0) : Sound z (State.finishEnds s0 v1 v2) := by
  unfold State.finishEnds
  refine Sound.foldl _ (fun q y h0 => ?_) _ ?_
  · exact State.finishEnd_sound h0
  · exact k0

theorem State.stepEnded_sound {z s0 v1} (k0 : Sound z s0) : Sound z (State.stepEnded s0 v1) := by
  unfold State.stepEnded
  refine Sound.ite (fun _ => ?_) (fun _ => ?_)
  · exact State.updRun_sound k0
  · extract_lets +onlyGivenNames x0
    try clear_value x0
    split
    · next y1 y2 e =>
      have h3 : Sound z y2 := by
        refine Sound2.of e ?_
        exact State.runFlags_sound k0
      extract_lets +onlyGivenNames x4
      extract_lets +onlyGivenNames x5
      try clear_value x5
      extract_lets +onlyGivenNames -merge -underBinder x6
      have h7 : Sound z x6 := State.updRun_sound h3
      try clear_value x6
      extract_lets +onlyGivenNames x8
      try clear_value x8
      extract_lets +onlyGivenNames -merge -underBinder x9 x10
      have h11 : Sound z x10 := Sound.same h7 rfl rfl rfl rfl rfl
      try clear_value x10
      exact State.finishEnd_sound h11

theorem State.programEnded_sound {z s0 v1} (k0 : Sound z s0) : Sound z (State.programEnded s0 v1) := by
  unfold State.programEnded
  split
  · exact k0
  · extract_lets +onlyGivenNames x0
    try clear_value x0
    extract_lets +onlyGivenNames -merge -underBinder x1 x2
    try clear_value x2
    extract_lets +onlyGivenNames x3
    have h4 : Sound z x3 := State.updRun_sound k0
    try clear_value x3
    refine Sound.ite (fun _ => ?_) (fun _ => ?_)
    · exact State.stepEnded_sound h4
    · exact h4

theorem doRdReady_sound {z v0 v1 v2 s3} (k3 : Sound z s3) : Sound z (doRdReady v0 v1 v2 s3) := by
  unfold doRdReady
  split
  · exact k3
  · split
    · next y0 y1 e =>
      have h2 : Sound z y1 := by
        refine Sound2.of e ?_
        exact State.regionBytes_sound k3
      split
      · next y3 y4 e =>
        have h5 : Sound z y4 := by
          refine Sound2.of e ?_
          exact State.regionBytes_sound h2
        extract_lets +onlyGivenNames -merge x6 x7
        try clear_value x6 x7
        extract_lets +onlyGivenNames -merge -underBinder x8 x9
        have h10 : Sound z x9 := Sound.same h5 rfl rfl rfl rfl rfl
        try clear_value x9
        exact State.finishEnd_sound h10

theorem doEndCompletion_sound {z v0 s1} (k1 : Sound z s1) : Sound z (doEndCompletion v0 s1) := by
  unfold doEndCompletion
  refine Sound.ite (fun _ => ?_) (fun _ => ?_)
  · extract_lets +onlyGivenNames x0
    have h1 : Sound z x0 := State.flush_sound k1
    try clear_value x0
    extract_lets +onlyGivenNames x2
    try clear_value x2
    refine Sound.ite (fun _ => ?_) (fun _ => ?_)
    · exact State.programEnded_sound (State.updSeq_sound h1)
    · exact h1
  · exact k1

theorem State.kvop_sound {z s0 v1 v2 v3 v4} (k0 : Sound z s0) (k4 : ∀ a0 a1, Sound z a1 → Sound2 z (v4 a0 a1)) : Sound z (State.kvop s0 v1 v2 v3 v4) := by
  unfold State.kvop
  split
  · exact k0
  · refine Sound.ite (fun _ => ?_) (fun _ => ?_)
    · exact k0
    · split
      · next y0 y1 e =>
        have h2 : Sound z y1 := by
          refine Sound2.of e ?_
          refine k4 _ _ ?_
          · exact k0
        refine Sound.ite (fun _ => ?_) (fun _ => ?_)
        · exact State.status_sound h2
        · exact State.done1_sound h2

theorem doKvopShare_sound {z v0 v1 s2} (k2 : Sound z s2) : Sound z (doKvopShare v0 v1 s2) := by
  unfold doKvopShare
  refine State.kvop_sound ?_ ?_
  · exact k2
  · intro a0 a1 b1
    exact State.kvShare_sound b1

theorem doKvopRelease_sound {z v0 v1 s2} (k2 : Sound z s2) : Sound z (doKvopRelease v0 v1 s2) := by
  unfold doKvopRelease
  refine State.kvop_sound ?_ ?_
  · exact k2
  · intro a0 a1 b1
    exact State.kvRelease_sound b1

theorem doKvopTruncate_sound {z v0 v1 s2} (k2 : Sound z s2) : Sound z (doKvopTruncate v0 v1 s2) := by
  unfold doKvopTruncate
  refine State.kvop_sound ?_ ?_
  · exact k2
  · intro a0 a1 b1
    exact State.kvTruncate_sound b1

theorem doDisarm_sound {z v0 v1 s2} (k2 : Sound z s2) : Sound z (doDisarm v0 v1 s2) := by
  unfold doDisarm
  split
  · exact k2
  · extract_lets +onlyGivenNames x0
    try clear_value x0
    refine Sound.ite (fun _ => ?_) (fun _ => ?_)
    · exact k2
    · refine Sound.ite (fun _ => ?_) (fun _ => ?_)
      · extract_lets +onlyGivenNames x1
        have h2 : Sound z x1 := Sound.same k2 rfl rfl rfl rfl rfl
        try clear_value x1
        exact State.status_sound (State.status_sound h2)
      · exact State.status_sound k2

theorem doDecode_sound {z v0 v1 v2 s3} (k3 : Sound z s3) : Sound z (doDecode v0 v1 v2 s3) := by
  unfold doDecode
  split
  · exact k3
  · extract_lets +onlyGivenNames -merge x0 x1 x2 x3
    try clear_value x0 x1 x2 x3
    split
    · refine Sound.ite (fun _ => ?_) (fun _ => ?_)
      · exact k3
      · refine Sound.ite (fun _ => ?_) (fun _ => ?_)
        · exact State.status_sound k3
        · extract_lets +onlyGivenNames x4
          try clear_value x4
          extract_lets +onlyGivenNames x5
          have h6 : Sound z x5 := State.updEntry_sound k3
          try clear_value x5
          extract_lets +onlyGivenNames x7
          try clear_value x7
          exact Sound.same h6 rfl rfl rfl rfl rfl
    · refine Sound.ite (fun _ => ?_) (fun _ => ?_)
      · extract_lets +onlyGivenNames -merge -underBinder x8 x9
        have h10 : Sound z x9 := Sound.same k3 rfl rfl rfl rfl rfl
        try clear_value x9
        refine Sound.ite (fun _ => ?_) (fun _ => ?_)
        · exact State.status_sound (State.writeFor_sound h10)
        · exact State.status_sound h10
      · exact k3

theorem State.writeBlock_sound {z s0 v1 v2} (k0 : Sound z s0) : Sound z (State.writeBlock s0 v1 v2) := by
  unfold State.writeBlock
  extract_lets +onlyGivenNames -merge x0 x1 x2 x3 x4 x5 x6
  try clear_value x0 x1 x2 x3 x4 x5 x6
  extract_lets +onlyGivenNames x7
  have h8 : Sound z x7 := State.hubPut_sound (State.hubPut_sound k0)
  try clear_value x7
  extract_lets +onlyGivenNames x9
  try clear_value x9
  refine Sound.foldl _ (fun q y h10 => ?_) _ ?_
  · extract_lets +onlyGivenNames x11
    try clear_value x11
    split
    · next y12 y13 e =>
      have h14 : Sound z y13 := by
        refine Sound2.of e ?_
        exact State.readFor_sound h10
      split
      · next y15 y16 e =>
        have h17 : Sound z y16 := by
          refine Sound2.of e ?_
          exact State.readFor_sound h14
        exact State.hubWrite_sound (State.hubWrite_sound h17)
  · exact h8

theorem doDecodeWindowClose_sound {z v0 s1} (k1 : Sound z s1) : Sound z (doDecodeWindowClose v0 s1) := by
  unfold doDecodeWindowClose
  extract_lets +onlyGivenNames -merge x0 x1
  try clear_value x0 x1
  extract_lets +onlyGivenNames x2
  extract_lets +onlyGivenNames -merge x3 x4
  try clear_value x3 x4
  refine Sound.ite (fun _ => ?_) (fun _ => ?_)
  · exact k1
  · extract_lets +onlyGivenNames -merge x5 x6
    try clear_value x5 x6
    refine Sound.ite (fun _ => ?_) (fun _ => ?_)
    · exact k1
    · extract_lets +onlyGivenNames x7
      try clear_value x7
      split
      · extract_lets +onlyGivenNames x8
        have h9 : Sound z x8 := State.writeBlock_sound k1
        try clear_value x8
        exact Sound.same h9 rfl rfl rfl rfl rfl

theorem doKvShare_sound {z v0 v1 v2 v3 v4 v5 v6 v7 s8} (k8 : Sound z s8) : Sound z (doKvShare v0 v1 v2 v3 v4 v5 v6 v7 s8) := by
  unfold doKvShare
  refine Sound2.snd ?_
  exact State.kvShare_sound k8

theorem doKvRelease_sound {z v0 v1 v2 v3 v4 s5} (k5 : Sound z s5) : Sound z (doKvRelease v0 v1 v2 v3 v4 s5) := by
  unfold doKvRelease
  refine Sound2.snd ?_
  exact State.kvRelease_sound k5

theorem doKvTruncate_sound {z v0 v1 v2 v3 s4} (k4 : Sound z s4) : Sound z (doKvTruncate v0 v1 v2 v3 s4) := by
  unfold doKvTruncate
  refine Sound2.snd ?_
  exact State.kvTruncate_sound k4

/-! ### CopyOps -/

theorem doCpRun_sound {z v0 v1 v2 v3 s4} (k4 : Sound z s4) : Sound z (doCpRun v0 v1 v2 v3 s4) := by
  unfold doCpRun
  extract_lets +onlyGivenNames -merge x0 x1
  try clear_value x0 x1
  refine State.engine_sound ?_ ?_
  · exact k4
  · intro a0 b0
    extract_lets +onlyGivenNames -merge x2 x3 x4
    try clear_value x2 x3 x4
    refine Sound.ite (fun _ => ?_) (fun _ => ?_)
    · exact State.stop_sound b0
    · extract_lets +onlyGivenNames -merge x5 x6
      try clear_value x5 x6
      split
      · next y7 y8 e =>
        have h9 : Sound z y8 := by
          refine Sound2.of e ?_
          exact State.launch_sound b0
        extract_lets +onlyGivenNames x10
        have h11 : Sound z x10 := State.updJob_sound h9
        try clear_value x10
        extract_lets +onlyGivenNames x12
        try clear_value x12
        extract_lets +onlyGivenNames -merge -underBinder x13
        have h14 : Sound z x13 := State.updCl_sound h11
        try clear_value x13
        extract_lets +onlyGivenNames x15
        try clear_value x15
        exact State.done_sound (State.sched_sound (State.sched_sound h14))

theorem State.catchUp_sound {z s0 v1 v2} (k0 : Sound z s0) : Sound z (State.catchUp s0 v1 v2) := by
  unfold State.catchUp
  extract_lets +onlyGivenNames x0
  try clear_value x0
  refine Sound.ite (fun _ => ?_) (fun _ => ?_)
  · exact k0
  · exact State.runTo_sound (State.closeHeld_sound k0)

theorem State.overrun_sound {z s0 v1 v2} (k0 : Sound z s0) : Sound z (State.overrun s0 v1 v2) := by
  unfold State.overrun
  exact State.send_sound (State.setFld_sound (State.bump_sound k0))

theorem State.pullPart_sound {z s0 v1 v2 v3 v4 v5 v6} (k0 : Sound z s0) : Sound4 z (State.pullPart s0 v1 v2 v3 v4 v5 v6) := by
  unfold State.pullPart
  refine Sound4.ite (fun _ => ?_) (fun _ => ?_)
  · extract_lets +onlyGivenNames x0
    try clear_value x0
    refine Sound4.ite (fun _ => ?_) (fun _ => ?_)
    · refine Sound4.mk ?_
      exact k0
    · refine Sound4.mk ?_
      exact State.hostData_sound k0
  · refine Sound4.ite (fun _ => ?_) (fun _ => ?_)
    · refine Sound4.mk ?_
      extract_lets +onlyGivenNames x1
      have h2 : Sound z x1 := State.calRefused_sound (Sound.same k0 rfl rfl rfl rfl rfl)
      try clear_value x1
      exact Sound.same h2 rfl rfl rfl rfl rfl
    · split
      · next y3 y4 e =>
        have h5 : Sound z y4 := by
          refine Sound2.of e ?_
          exact State.readFor_sound k0
        refine Sound4.mk ?_
        exact h5

theorem State.pullData_sound {z s0 v1 v2 v3 v4} (k0 : Sound z s0) : Sound4 z (State.pullData s0 v1 v2 v3 v4) := by
  unfold State.pullData
  extract_lets +onlyGivenNames x0
  try clear_value x0
  refine Sound4.ite (fun _ => ?_) (fun _ => ?_)
  · extract_lets +onlyGivenNames x1
    try clear_value x1
    split
    · next y2 y3 e =>
      have h4 : Sound z y3 := by
        refine Sound2.of e ?_
        exact State.kvRead_sound (Sound.same k0 rfl rfl rfl rfl rfl)
      extract_lets +onlyGivenNames x5
      have h6 : Sound z x5 := Sound.same h4 rfl rfl rfl rfl rfl
      try clear_value x5
      extract_lets +onlyGivenNames -merge x7 x8 x9
      try clear_value x7 x8 x9
      refine Sound4.ite (fun _ => ?_) (fun _ => ?_)
      · refine Sound4.mk ?_
        exact h6
      · refine Sound4.mk ?_
        exact h6
  · refine Sound4.ite (fun _ => ?_) (fun _ => ?_)
    · refine Sound4.mk ?_
      exact k0
    · extract_lets +onlyGivenNames -merge -underBinder x10
      have h14 : Sound4 z x10 := by
        unfold x10
        refine Sound4.foldl _ (fun q y h11 => ?_) _ ?_
        · extract_lets +onlyGivenNames x12
          have h13 : Sound4 z x12 := by
            unfold x12
            refine State.pullPart_sound ?_
            refine Sound4.snd ?_
            exact h11
          try clear_value x12
          refine Sound4.mk ?_
          refine Sound4.snd ?_
          exact h13
        · refine Sound4.mk ?_
          exact k0
      try clear_value x10
      extract_lets +onlyGivenNames x15
      have h16 : Sound4 z x15 := by
        unfold x15
        refine Sound4.ite (fun _ => ?_) (fun _ => ?_)
        · refine State.pullPart_sound ?_
          refine Sound4.snd ?_
          exact h14
        · refine Sound4.mk ?_
          refine Sound4.snd ?_
          exact h14
      try clear_value x15
      refine Sound4.ite (fun _ => ?_) (fun _ => ?_)
      · refine Sound4.mk ?_
        refine Sound4.snd ?_
        exact h16
      · refine Sound4.mk ?_
        refine Sound4.snd ?_
        exact h16

theorem State.pullHost_sound {z s v1 v2 v3 v4} (k : Sound z s) : SoundO2 z (State.pullHost s v1 v2 v3 v4) := by
  intro p e
  have h := State.hostAnswer_sound (v1 := (s.cl v1).seq.ctx) (v2 := s.seqOfCluster v1) (v3 := v2.hostReads) (v4 := v4) k
  replace e : (State.hostAnswer s (s.cl v1).seq.ctx (s.seqOfCluster v1) v2.hostReads v4).map (fun x =>
    (x.1, (v3 || (decide (s.mode = 2) && !v2.hostReads.isEmpty)), x.2)) = some p := e
  cases o : State.hostAnswer s (s.cl v1).seq.ctx (s.seqOfCluster v1) v2.hostReads v4 with
  | none =>
    rw [o] at e
    cases e
  | some x =>
    rw [o] at e
    cases e
    exact h x o

theorem doPullLanding_sound {z v0 v1 v2 v3 v4 v5 s6} (k6 : Sound z s6) : Sound z (doPullLanding v0 v1 v2 v3 v4 v5 s6) := by
  unfold doPullLanding
  refine Sound.ite (fun _ => ?_) (fun _ => ?_)
  · exact State.bump_sound k6
  · extract_lets +onlyGivenNames x0
    have h1 : Sound z x0 := State.catchUp_sound k6
    try clear_value x0
    split
    · exact h1
    · split
      · exact h1
      · refine Sound.ite (fun _ => ?_) (fun _ => ?_)
        · exact h1
        · split
          · exact h1
          · next y2 y3 y4 e =>
            have h5 : Sound z y4 := by
              refine SoundO2.of e ?_
              refine SoundO2.ite (fun _ => ?_) (fun _ => ?_)
              · refine SoundO2.mk ?_
                exact h1
              · exact State.pullHost_sound h1
            split
            · next y6 y7 y8 y9 e =>
              have h10 : Sound z y9 := by
                refine Sound4.of e ?_
                refine Sound4.ite (fun _ => ?_) (fun _ => ?_)
                · refine Sound4.mk ?_
                  exact h5
                · exact State.pullData_sound h5
              extract_lets +onlyGivenNames x11
              have h12 : Sound z x11 := by
                unfold x11
                refine Sound.ite (fun _ => ?_) (fun _ => ?_)
                · exact h10
                · exact State.send_sound h10
              try clear_value x11
              extract_lets +onlyGivenNames x13
              try clear_value x13
              extract_lets +onlyGivenNames x14
              have h15 : Sound z x14 := State.updCopy_sound h12
              try clear_value x14
              refine Sound.ite (fun _ => ?_) (fun _ => ?_)
              · exact State.overrun_sound h15
              · exact h15

theorem doMcastPull_sound {z v0 v1 v2 s3} (k3 : Sound z s3) : Sound z (doMcastPull v0 v1 v2 s3) := by
  unfold doMcastPull
  extract_lets +onlyGivenNames x0
  try clear_value x0
  refine Sound.ite (fun _ => ?_) (fun _ => ?_)
  · exact k3
  · extract_lets +onlyGivenNames -merge x1 x2
    try clear_value x1 x2
    split
    · exact k3
    · extract_lets +onlyGivenNames x3
      try clear_value x3
      refine Sound.ite (fun _ => ?_) (fun _ => ?_)
      · exact k3
      · split
        · exact k3
        · split
          · exact k3
          · split
            · exact k3
            · next y4 y5 y6 e =>
              have h7 : Sound z y6 := by
                refine SoundO2.of e ?_
                exact State.pullHost_sound k3
              extract_lets +onlyGivenNames -merge x8 x9
              try clear_value x8 x9
              split
              · next y10 y11 y12 y13 e =>
                have h14 : Sound z y13 := by
                  refine Sound4.of e ?_
                  refine Sound4.ite (fun _ => ?_) (fun _ => ?_)
                  · exact State.pullData_sound h7
                  · refine Sound4.mk ?_
                    exact h7
                refine Sound.foldl _ (fun q y h15 => ?_) _ ?_
                · extract_lets +onlyGivenNames -merge x16 x17 x18
                  try clear_value x16 x17 x18
                  extract_lets +onlyGivenNames x19
                  have h20 : Sound z x19 := State.updCopy_sound h15
                  try clear_value x19
                  refine Sound.ite (fun _ => ?_) (fun _ => ?_)
                  · exact State.send_sound h20
                  · refine Sound.ite (fun _ => ?_) (fun _ => ?_)
                    · exact h20
                    · exact State.send_sound h20
                · exact h14

theorem State.commitFrom_sound {z c id p n t l s} (k : Sound z s) : Sound2 z (State.commitFrom c id p n t l s) := by
  induction n generalizing s t l with
  | zero => exact k
  | succ n ih =>
    cases l with
    | nil => exact k
    | cons w r =>
      unfold State.commitFrom
      refine Sound2.ite (fun _ => ?_) (fun _ => ?_)
      · exact ih k
      · exact ih (State.sched_sound k)

theorem doPullCommit_sound {z v0 s1} (k1 : Sound z s1) : Sound z (doPullCommit v0 s1) := by
  unfold doPullCommit
  extract_lets +onlyGivenNames -merge x0 x1 x2
  try clear_value x0 x1 x2
  split
  · exact k1
  · split
    · exact k1
    · extract_lets +onlyGivenNames x3
      try clear_value x3
      refine Sound.ite (fun _ => ?_) (fun _ => ?_)
      · exact k1
      · extract_lets +onlyGivenNames -merge x4 x5 x6 x7
        try clear_value x4 x5 x6 x7
        extract_lets +onlyGivenNames x8
        have h9 : Sound z x8 := State.updCl_sound k1
        try clear_value x8
        split
        · next y10 y11 e =>
          have h12 : Sound z y11 := by
            refine Sound2.of e ?_
            exact State.commitFrom_sound h9
          exact State.tagAt_sound (State.updCopy_sound h12)

theorem State.outTag_sound {z s0 v1 v2 v3} (k0 : Sound z s0) : Sound z (State.outTag s0 v1 v2 v3) := by
  unfold State.outTag
  exact State.tagAt_sound (State.updCopy_sound k0)

theorem State.outWrite_sound {z s0 v1 v2 v3 v4} (k0 : Sound z s0) : Sound z (State.outWrite s0 v1 v2 v3 v4) := by
  unfold State.outWrite
  extract_lets +onlyGivenNames x0
  try clear_value x0
  extract_lets +onlyGivenNames -merge -underBinder x1
  have h2 : ∀ a0 a1 a2 a3, Sound z a0 → Sound z (x1 a0 a1 a2 a3) := by
    intro a0 a1 a2 a3 b0
    unfold x1
    refine Sound.ite (fun _ => ?_) (fun _ => ?_)
    · exact b0
    · refine Sound.ite (fun _ => ?_) (fun _ => ?_)
      · extract_lets +onlyGivenNames x3
        have h4 : Sound z x3 := State.calRefused_sound (Sound.same b0 rfl rfl rfl rfl rfl)
        try clear_value x3
        exact Sound.same h4 rfl rfl rfl rfl rfl
      · exact State.writeFor_sound b0
  try clear_value x1
  extract_lets +onlyGivenNames x5
  have h7 : Sound z x5 := by
    unfold x5
    refine Sound.foldl _ (fun q y h6 => ?_) _ ?_
    · refine h2 _ _ _ _ ?_
      · exact h6
    · exact k0
  try clear_value x5
  refine Sound.ite (fun _ => ?_) (fun _ => ?_)
  · refine h2 _ _ _ _ ?_
    · exact h7
  · exact h7

theorem doOutboundComplete_sound {z v0 v1 v2 s3} (k3 : Sound z s3) : Sound z (doOutboundComplete v0 v1 v2 s3) := by
  unfold doOutboundComplete
  extract_lets +onlyGivenNames x0
  have h1 : Sound z x0 := State.catchUp_sound k3
  try clear_value x0
  split
  · exact h1
  · split
    · exact h1
    · extract_lets +onlyGivenNames x2
      extract_lets +onlyGivenNames x3
      refine Sound.ite (fun _ => ?_) (fun _ => ?_)
      · exact h1
      · extract_lets +onlyGivenNames x4
        try clear_value x4
        extract_lets +onlyGivenNames x5
        have h6 : Sound z x5 := by
          unfold x5
          refine Sound.ite (fun _ => ?_) (fun _ => ?_)
          · exact h1
          · exact State.outWrite_sound h1
        try clear_value x5
        extract_lets +onlyGivenNames x7
        have h8 : Sound z x7 := State.updCopy_sound h6
        try clear_value x7
        extract_lets +onlyGivenNames x9
        have h10 : Sound z x9 := by
          unfold x9
          refine Sound.ite (fun _ => ?_) (fun _ => ?_)
          · exact State.overrun_sound h8
          · exact h8
        try clear_value x9
        refine Sound.ite (fun _ => ?_) (fun _ => ?_)
        · exact State.outTag_sound h10
        · refine Sound.ite (fun _ => ?_) (fun _ => ?_)
          · exact State.outTag_sound h10
          · refine Sound.ite (fun _ => ?_) (fun _ => ?_)
            · exact State.outTag_sound h10
            · exact h10

theorem doCopyDeadline_sound {z v0 v1 s2} (k2 : Sound z s2) : Sound z (doCopyDeadline v0 v1 s2) := by
  unfold doCopyDeadline
  split
  · exact k2
  · refine Sound.ite (fun _ => ?_) (fun _ => ?_)
    · exact k2
    · extract_lets +onlyGivenNames x0
      have h1 : Sound z x0 := State.updCopy_sound k2
      try clear_value x0
      refine Sound.ite (fun _ => ?_) (fun _ => ?_)
      · exact State.outTag_sound h1
      · exact h1

theorem doKvWrite_sound {z v0 v1 s2} (k2 : Sound z s2) : Sound z (doKvWrite v0 v1 s2) := by
  unfold doKvWrite
  split
  · exact k2
  · split
    · exact k2
    · refine Sound.ite (fun _ => ?_) (fun _ => ?_)
      · exact k2
      · extract_lets +onlyGivenNames -merge x0 x1 x2 x3
        try clear_value x0 x1 x2 x3
        split
        · next y4 y5 e =>
          have h6 : Sound z y5 := by
            refine Sound2.of e ?_
            exact State.kvWrite_sound (Sound.same k2 rfl rfl rfl rfl rfl)
          exact State.updCopy_sound (Sound.same h6 rfl rfl rfl rfl rfl)

theorem doServiceAccess_sound {z v0 v1 v2 s3} (k3 : Sound z s3) : Sound z (doServiceAccess v0 v1 v2 s3) := by
  unfold doServiceAccess
  refine Sound.ite (fun _ => ?_) (fun _ => ?_)
  · exact k3
  · split
    · exact State.noteReads_sound k3
    · exact State.writeWord_sound k3

theorem doClMemclr_sound {z v0 s1} (k1 : Sound z s1) : Sound z (doClMemclr v0 s1) := by
  unfold doClMemclr
  exact State.setReg_sound k1

theorem State.winErr_sound {z s0 v1 v2} (k0 : Sound z s0) : Sound z (State.winErr s0 v1 v2) := by
  unfold State.winErr
  exact State.sendEv_sound (State.orReg_sound k0)

theorem doWindowEnable_sound {z v0 v1 v2 s3} (k3 : Sound z s3) : Sound z (doWindowEnable v0 v1 v2 s3) := by
  unfold doWindowEnable
  refine Sound.ite (fun _ => ?_) (fun _ => ?_)
  · exact k3
  · refine Sound.ite (fun _ => ?_) (fun _ => ?_)
    · extract_lets +onlyGivenNames x0
      try clear_value x0
      extract_lets +onlyGivenNames x1
      refine Sound.ite (fun _ => ?_) (fun _ => ?_)
      · refine Sound.ite (fun _ => ?_) (fun _ => ?_)
        · exact k3
        · extract_lets +onlyGivenNames x2
          have h3 : Sound z x2 := State.setReg_sound k3
          try clear_value x2
          refine Sound.ite (fun _ => ?_) (fun _ => ?_)
          · exact State.winErr_sound h3
          · exact State.setFld_sound h3
      · exact State.setReg_sound k3
    · extract_lets +onlyGivenNames -merge x4 x5
      try clear_value x4 x5
      refine Sound.ite (fun _ => ?_) (fun _ => ?_)
      · refine Sound.ite (fun _ => ?_) (fun _ => ?_)
        · exact k3
        · extract_lets +onlyGivenNames x6
          have h7 : Sound z x6 := State.setReg_sound k3
          try clear_value x6
          refine Sound.ite (fun _ => ?_) (fun _ => ?_)
          · exact State.winErr_sound h7
          · exact State.setFld_sound h7
      · exact State.setReg_sound k3

/-! ### Sensors -/

theorem State.setCam_sound {z s0 v1 v2} (k0 : Sound z s0) : Sound z (State.setCam s0 v1 v2) := by
  unfold State.setCam
  exact Sound.same k0 rfl rfl rfl rfl rfl

theorem State.setBuf_sound {z s0 v1 v2} (k0 : Sound z s0) : Sound z (State.setBuf s0 v1 v2) := by
  unfold State.setBuf
  exact Sound.same k0 rfl rfl rfl rfl rfl

theorem State.camShow_sound {z s0 v1} (k0 : Sound z s0) : Sound z (State.camShow s0 v1) := by
  unfold State.camShow
  extract_lets +onlyGivenNames x0
  try clear_value x0
  exact State.setReg_sound (State.setFld_sound (State.setFld_sound k0))

theorem State.gaugeSee_sound {z s0 v1 v2 v3 v4 v5 v6} (k0 : Sound z s0) : Sound z (State.gaugeSee s0 v1 v2 v3 v4 v5 v6) := by
  unfold State.gaugeSee
  refine Sound.foldl _ (fun q y h0 => ?_) _ ?_
  · extract_lets +onlyGivenNames x1
    try clear_value x1
    refine Sound.ite (fun _ => ?_) (fun _ => ?_)
    · exact Sound.same h0 rfl rfl rfl rfl rfl
    · exact h0
  · exact k0

theorem State.markDrop_sound {z s0 v1 v2 v3} (k0 : Sound z s0) : Sound z (State.markDrop s0 v1 v2 v3) := by
  unfold State.markDrop
  extract_lets +onlyGivenNames x0
  try clear_value x0
  refine Sound.ite (fun _ => ?_) (fun _ => ?_)
  · exact State.setCam_sound k0
  · exact State.setBuf_sound k0

theorem State.dropRecord_sound {z s0 v1 v2} (k0 : Sound z s0) : Sound z (State.dropRecord s0 v1 v2) := by
  unfold State.dropRecord
  extract_lets +onlyGivenNames -merge x0 x1 x2
  try clear_value x0 x1 x2
  split
  · next y3 y4 e =>
    have h5 : Sound z y4 := by
      refine Sound2.of e ?_
      exact State.capture_sound k0
    exact State.sendLimited_sound (State.bump_sound h5)

theorem State.weirDrop_sound {z s0 v1 v2} (k0 : Sound z s0) : Sound z (State.weirDrop s0 v1 v2) := by
  unfold State.weirDrop
  extract_lets +onlyGivenNames x0
  try clear_value x0
  extract_lets +onlyGivenNames x1
  have h2 : Sound z x1 := State.dropRecord_sound k0
  try clear_value x1
  refine Sound.ite (fun _ => ?_) (fun _ => ?_)
  · extract_lets +onlyGivenNames x3
    try clear_value x3
    extract_lets +onlyGivenNames x4
    have h5 : Sound z x4 := State.setBuf_sound h2
    try clear_value x4
    refine Sound.ite (fun _ => ?_) (fun _ => ?_)
    · exact Sound.same h5 rfl rfl rfl rfl rfl
    · exact h5
  · extract_lets +onlyGivenNames x6
    have h7 : Sound z x6 := State.setBuf_sound h2
    try clear_value x6
    exact State.markDrop_sound h7

theorem State.enterBuf_sound {z s0 v1} (k0 : Sound z s0) : Sound z (State.enterBuf s0 v1) := by
  unfold State.enterBuf
  extract_lets +onlyGivenNames -merge x0 x1 x2
  try clear_value x0 x1 x2
  refine Sound.ite (fun _ => ?_) (fun _ => ?_)
  · exact State.weirDrop_sound k0
  · exact State.setBuf_sound k0

theorem State.fbGroup_sound {z s0 v1} (k0 : Sound z s0) : Sound z (State.fbGroup s0 v1) := by
  unfold State.fbGroup
  extract_lets +onlyGivenNames x0
  try clear_value x0
  exact Sound.same k0 rfl rfl rfl rfl rfl

theorem State.fbClose_sound {z s0 v1} (k0 : Sound z s0) : Sound z (State.fbClose s0 v1) := by
  unfold State.fbClose
  split
  · refine Sound.ite (fun _ => ?_) (fun _ => ?_)
    · exact Sound.same k0 rfl rfl rfl rfl rfl
    · exact k0
  · exact k0

theorem State.noteAge_sound {z s0 v1} (k0 : Sound z s0) : Sound z (State.noteAge s0 v1) := by
  unfold State.noteAge
  extract_lets +onlyGivenNames x0
  try clear_value x0
  exact State.setFld_sound k0

theorem doWeirDrop_sound {z v0 s1} (k1 : Sound z s1) : Sound z (doWeirDrop v0 s1) := by
  unfold doWeirDrop
  split
  · exact k1
  · refine Sound.ite (fun _ => ?_) (fun _ => ?_)
    · exact k1
    · split
      · exact k1
      · exact State.weirDrop_sound (State.noteAge_sound k1)

theorem State.deliverGroup_sound {z s0 v1} (k0 : Sound z s0) : Sound z (State.deliverGroup s0 v1) := by
  unfold State.deliverGroup
  extract_lets +onlyGivenNames x0
  try clear_value x0
  refine Sound.ite (fun _ => ?_) (fun _ => ?_)
  · exact k0
  · extract_lets +onlyGivenNames x1
    try clear_value x1
    split
    · next y2 y3 e =>
      have h4 : Sound z y3 := by
        refine Sound2.of e ?_
        exact State.capture_sound k0
      extract_lets +onlyGivenNames x5
      try clear_value x5
      extract_lets +onlyGivenNames x6
      have h7 : Sound z x6 := State.setCam_sound h4
      try clear_value x6
      extract_lets +onlyGivenNames x8
      have h9 : Sound z x8 := by
        unfold x8
        refine Sound.ite (fun _ => ?_) (fun _ => ?_)
        · exact State.gaugeSee_sound h7
        · exact h7
      try clear_value x8
      refine Sound.ite (fun _ => ?_) (fun _ => ?_)
      · exact h9
      · exact State.enterBuf_sound h9

theorem State.closeFrame_sound {z s0 v1 v2} (k0 : Sound z s0) : Sound z (State.closeFrame s0 v1 v2) := by
  unfold State.closeFrame
  extract_lets +onlyGivenNames x0
  try clear_value x0
  refine Sound.ite (fun _ => ?_) (fun _ => ?_)
  · exact k0
  · extract_lets +onlyGivenNames x1
    try clear_value x1
    extract_lets +onlyGivenNames x2
    have h3 : Sound z x2 := State.deliverGroup_sound k0
    try clear_value x2
    extract_lets +onlyGivenNames -merge x4 x5 x6
    try clear_value x4 x5 x6
    split
    · next y7 y8 e =>
      have h9 : Sound z y8 := by
        refine Sound2.of e ?_
        exact State.capture_sound h3
      extract_lets +onlyGivenNames x10
      have h11 : Sound z x10 := State.setCam_sound h9
      try clear_value x10
      extract_lets +onlyGivenNames x12
      have h13 : Sound z x12 := State.setReg_sound h11
      try clear_value x12
      extract_lets +onlyGivenNames x14
      have h15 : Sound z x14 := by
        unfold x14
        refine Sound.ite (fun _ => ?_) (fun _ => ?_)
        · exact h13
        · exact State.sendLimited_sound (State.bump_sound h13)
      try clear_value x14
      extract_lets +onlyGivenNames x16
      have h17 : Sound z x16 := by
        unfold x16
        refine Sound.ite (fun _ => ?_) (fun _ => ?_)
        · exact State.gaugeSee_sound h15
        · exact h15
      try clear_value x16
      extract_lets +onlyGivenNames x18
      try clear_value x18
      exact State.camShow_sound (State.setBuf_sound h17)

theorem State.dropPkt_sound {z s0 v1} (k0 : Sound z s0) : Sound z (State.dropPkt s0 v1) := by
  unfold State.dropPkt
  exact State.bump_sound k0

theorem State.camHeader_sound {z s0 v1 v2 v3 v4} (k0 : Sound z s0) : Sound2 z (State.camHeader s0 v1 v2 v3 v4) := by
  unfold State.camHeader
  extract_lets +onlyGivenNames x0
  have h1 : Sound z x0 := by
    unfold x0
    refine Sound.ite (fun _ => ?_) (fun _ => ?_)
    · exact State.bump_sound k0
    · exact k0
  try clear_value x0
  refine Sound2.ite (fun _ => ?_) (fun _ => ?_)
  · refine Sound2.mk ?_
    refine Sound.foldl _ (fun q y h2 => ?_) _ ?_
    · extract_lets +onlyGivenNames x3
      try clear_value x3
      refine Sound.ite (fun _ => ?_) (fun _ => ?_)
      · exact State.setCam_sound h2
      · exact h2
    · exact State.dropPkt_sound h1
  · extract_lets +onlyGivenNames x4
    have h5 : Sound z x4 := by
      unfold x4
      refine Sound.ite (fun _ => ?_) (fun _ => ?_)
      · exact State.bump_sound h1
      · exact h1
    try clear_value x4
    refine Sound2.ite (fun _ => ?_) (fun _ => ?_)
    · refine Sound2.mk ?_
      exact h5
    · refine Sound2.mk ?_
      exact State.dropPkt_sound h5

theorem doFrameStart_sound {z v0 v1 v2 v3 v4 s5} (k5 : Sound z s5) : Sound z (doFrameStart v0 v1 v2 v3 v4 s5) := by
  unfold doFrameStart
  refine Sound.ite (fun _ => ?_) (fun _ => ?_)
  · exact k5
  · split
    · next y0 y1 e =>
      have h2 : Sound z y1 := by
        refine Sound2.of e ?_
        exact State.camHeader_sound k5
      refine Sound.ite (fun _ => ?_) (fun _ => ?_)
      · exact h2
      · extract_lets +onlyGivenNames x3
        try clear_value x3
        extract_lets +onlyGivenNames x4
        have h5 : Sound z x4 := State.closeFrame_sound h2
        try clear_value x4
        extract_lets +onlyGivenNames -merge x6 x7 x8
        try clear_value x6 x7 x8
        extract_lets +onlyGivenNames x9
        have h10 : Sound z x9 := by
          unfold x9
          refine Sound.ite (fun _ => ?_) (fun _ => ?_)
          · exact State.send_sound h5
          · exact h5
        try clear_value x9
        extract_lets +onlyGivenNames x11
        try clear_value x11
        split
        · next y12 y13 e =>
          have h14 : Sound z y13 := by
            refine Sound2.of e ?_
            exact State.capture_sound h10
          exact State.camShow_sound (State.setCam_sound h14)

theorem doLongPacket_sound {z v0 v1 v2 v3 v4 v5 v6 v7 s8} (k8 : Sound z s8) : Sound z (doLongPacket v0 v1 v2 v3 v4 v5 v6 v7 s8) := by
  unfold doLongPacket
  refine Sound.ite (fun _ => ?_) (fun _ => ?_)
  · exact k8
  · split
    · next y0 y1 e =>
      have h2 : Sound z y1 := by
        refine Sound2.of e ?_
        exact State.camHeader_sound k8
      refine Sound.ite (fun _ => ?_) (fun _ => ?_)
      · exact h2
      · extract_lets +onlyGivenNames -merge x3 x4
        try clear_value x3 x4
        refine Sound.ite (fun _ => ?_) (fun _ => ?_)
        · exact State.dropPkt_sound h2
        · refine Sound.ite (fun _ => ?_) (fun _ => ?_)
          · exact State.setCam_sound h2
          · extract_lets +onlyGivenNames -merge x5 x6 x7
            try clear_value x5 x6 x7
            extract_lets +onlyGivenNames x8
            have h9 : Sound z x8 := State.setCam_sound h2
            try clear_value x8
            extract_lets +onlyGivenNames x10
            have h11 : Sound z x10 := by
              unfold x10
              refine Sound.ite (fun _ => ?_) (fun _ => ?_)
              · exact State.deliverGroup_sound h9
              · exact h9
            try clear_value x10
            exact State.camShow_sound h11

theorem doFrameEnd_sound {z v0 v1 v2 v3 s4} (k4 : Sound z s4) : Sound z (doFrameEnd v0 v1 v2 v3 s4) := by
  unfold doFrameEnd
  refine Sound.ite (fun _ => ?_) (fun _ => ?_)
  · exact k4
  · split
    · next y0 y1 e =>
      have h2 : Sound z y1 := by
        refine Sound2.of e ?_
        exact State.camHeader_sound k4
      refine Sound.ite (fun _ => ?_) (fun _ => ?_)
      · exact h2
      · refine Sound.ite (fun _ => ?_) (fun _ => ?_)
        · exact State.closeFrame_sound h2
        · exact State.dropPkt_sound h2

theorem doEmbeddedData_sound {z v0 v1 v2 v3 v4 v5 s6} (k6 : Sound z s6) : Sound z (doEmbeddedData v0 v1 v2 v3 v4 v5 s6) := by
  unfold doEmbeddedData
  refine Sound.ite (fun _ => ?_) (fun _ => ?_)
  · exact k6
  · split
    · next y0 y1 e =>
      have h2 : Sound z y1 := by
        refine Sound2.of e ?_
        exact State.camHeader_sound k6
      extract_lets +onlyGivenNames x3
      try clear_value x3
      refine Sound.ite (fun _ => ?_) (fun _ => ?_)
      · exact h2
      · refine Sound.ite (fun _ => ?_) (fun _ => ?_)
        · exact State.dropPkt_sound h2
        · refine Sound2.snd ?_
          exact State.capture_sound h2

theorem doFrameTimeout_sound {z v0 v1 s2} (k2 : Sound z s2) : Sound z (doFrameTimeout v0 v1 s2) := by
  unfold doFrameTimeout
  extract_lets +onlyGivenNames x0
  try clear_value x0
  refine Sound.ite (fun _ => ?_) (fun _ => ?_)
  · exact State.closeFrame_sound k2
  · exact k2

theorem State.closeAll_sound {z s0 v1 v2} (k0 : Sound z s0) : Sound z (State.closeAll s0 v1 v2) := by
  unfold State.closeAll
  refine Sound.foldl _ (fun q y h0 => ?_) _ ?_
  · exact State.closeFrame_sound h0
  · exact k0

theorem doLossOfLock_sound {z v0 s1} (k1 : Sound z s1) : Sound z (doLossOfLock v0 s1) := by
  unfold doLossOfLock
  refine Sound.ite (fun _ => ?_) (fun _ => ?_)
  · exact k1
  · extract_lets +onlyGivenNames x0
    have h1 : Sound z x0 := by
      unfold x0
      refine Sound.ite (fun _ => ?_) (fun _ => ?_)
      · exact k1
      · exact State.closeAll_sound k1
    try clear_value x0
    exact State.sendLimited_sound (State.setFld_sound h1)

theorem doLockAcquired_sound {z v0 v1 s2} (k2 : Sound z s2) : Sound z (doLockAcquired v0 v1 s2) := by
  unfold doLockAcquired
  refine Sound.ite (fun _ => ?_) (fun _ => ?_)
  · exact State.send_sound (State.setFld_sound (State.setFld_sound k2))
  · exact k2

theorem State.lidFlag_sound {z s0 v1 v2} (k0 : Sound z s0) : Sound z (State.lidFlag s0 v1 v2) := by
  unfold State.lidFlag
  extract_lets +onlyGivenNames x0
  try clear_value x0
  refine Sound.ite (fun _ => ?_) (fun _ => ?_)
  · exact Sound.same k0 rfl rfl rfl rfl rfl
  · exact k0

theorem State.setTrigs_sound {z s0 v1 v2} (k0 : Sound z s0) : Sound z (State.setTrigs s0 v1 v2) := by
  unfold State.setTrigs
  exact State.setFld_sound (Sound.same k0 rfl rfl rfl rfl rfl)

theorem State.trigMiss_sound {z s0 v1} (k0 : Sound z s0) : Sound z (State.trigMiss s0 v1) := by
  unfold State.trigMiss
  exact State.sendLimited_sound (State.bump_sound k0)

theorem doTriggerRequest_sound {z v0 v1 s2} (k2 : Sound z s2) : Sound z (doTriggerRequest v0 v1 s2) := by
  unfold doTriggerRequest
  extract_lets +onlyGivenNames x0
  try clear_value x0
  refine Sound.ite (fun _ => ?_) (fun _ => ?_)
  · exact State.trigMiss_sound k2
  · exact State.setTrigs_sound k2

theorem doTriggerSend_sound {z v0 s1} (k1 : Sound z s1) : Sound z (doTriggerSend v0 s1) := by
  unfold doTriggerSend
  split
  · exact k1
  · refine Sound.ite (fun _ => ?_) (fun _ => ?_)
    · exact k1
    · extract_lets +onlyGivenNames x0
      have h1 : Sound z x0 := State.setTrigs_sound k1
      try clear_value x0
      refine Sound.ite (fun _ => ?_) (fun _ => ?_)
      · exact State.trigMiss_sound h1
      · exact Sound.same h1 rfl rfl rfl rfl rfl

theorem State.setPoc_sound {z s0 v1 v2} (k0 : Sound z s0) : Sound z (State.setPoc s0 v1 v2) := by
  unfold State.setPoc
  exact State.setFld_sound k0

theorem State.powerMark_sound {z s0 v1} (k0 : Sound z s0) : Sound z (State.powerMark s0 v1) := by
  unfold State.powerMark
  refine Sound.foldl _ (fun q y h0 => ?_) _ ?_
  · extract_lets +onlyGivenNames x1
    try clear_value x1
    refine Sound.ite (fun _ => ?_) (fun _ => ?_)
    · exact State.setCam_sound h0
    · exact h0
  · exact k0

theorem State.pocCut_sound {z s0 v1 v2 v3} (k0 : Sound z s0) : Sound z (State.pocCut s0 v1 v2 v3) := by
  unfold State.pocCut
  extract_lets +onlyGivenNames x0
  try clear_value x0
  extract_lets +onlyGivenNames x1
  have h2 : Sound z x1 := State.bump_sound (State.setFld_sound (State.setPoc_sound k0))
  try clear_value x1
  extract_lets +onlyGivenNames x3
  have h4 : Sound z x3 := State.powerMark_sound (State.setFld_sound h2)
  try clear_value x3
  exact State.send_sound (Sound.same h4 rfl rfl rfl rfl rfl)

theorem doClr_sound {z v0 s1} (k1 : Sound z s1) : Sound z (doClr v0 s1) := by
  unfold doClr
  refine Sound.ite (fun _ => ?_) (fun _ => ?_)
  · exact State.setPoc_sound k1
  · exact k1

theorem doPen_sound {z v0 v1 s2} (k2 : Sound z s2) : Sound z (doPen v0 v1 s2) := by
  unfold doPen
  extract_lets +onlyGivenNames x0
  try clear_value x0
  extract_lets +onlyGivenNames x1
  have h2 : Sound z x1 := by
    unfold x1
    refine Sound.ite (fun _ => ?_) (fun _ => ?_)
    · exact State.setFld_sound k2
    · exact k2
  try clear_value x1
  extract_lets +onlyGivenNames x3
  try clear_value x3
  refine Sound.ite (fun _ => ?_) (fun _ => ?_)
  · refine Sound.ite (fun _ => ?_) (fun _ => ?_)
    · exact h2
    · extract_lets +onlyGivenNames x4
      try clear_value x4
      refine Sound.ite (fun _ => ?_) (fun _ => ?_)
      · exact h2
      · extract_lets +onlyGivenNames x5
        try clear_value x5
        refine Sound.ite (fun _ => ?_) (fun _ => ?_)
        · exact State.send_sound h2
        · exact State.setPoc_sound (State.setFld_sound h2)
  · extract_lets +onlyGivenNames x6
    have h7 : Sound z x6 := State.setFld_sound h2
    try clear_value x6
    refine Sound.ite (fun _ => ?_) (fun _ => ?_)
    · exact State.powerMark_sound (State.setPoc_sound h7)
    · exact h7

theorem doRampEnd_sound {z v0 v1 s2} (k2 : Sound z s2) : Sound z (doRampEnd v0 v1 s2) := by
  unfold doRampEnd
  refine Sound.ite (fun _ => ?_) (fun _ => ?_)
  · exact k2
  · refine Sound.ite (fun _ => ?_) (fun _ => ?_)
    · exact State.setPoc_sound k2
    · exact State.pocCut_sound k2

theorem doPocShort_sound {z v0 v1 s2} (k2 : Sound z s2) : Sound z (doPocShort v0 v1 s2) := by
  unfold doPocShort
  refine Sound.ite (fun _ => ?_) (fun _ => ?_)
  · exact State.pocCut_sound k2
  · exact k2

theorem doPocOverload_sound {z v0 s1} (k1 : Sound z s1) : Sound z (doPocOverload v0 s1) := by
  unfold doPocOverload
  refine Sound.ite (fun _ => ?_) (fun _ => ?_)
  · exact State.pocCut_sound k1
  · exact k1

theorem doOpenLoad_sound {z v0 s1} (k1 : Sound z s1) : Sound z (doOpenLoad v0 s1) := by
  unfold doOpenLoad
  refine Sound.ite (fun _ => ?_) (fun _ => ?_)
  · exact State.setFld_sound k1
  · exact k1

theorem doDischargeEnd_sound {z v0 s1} (k1 : Sound z s1) : Sound z (doDischargeEnd v0 s1) := by
  unfold doDischargeEnd
  refine Sound.ite (fun _ => ?_) (fun _ => ?_)
  · exact State.setPoc_sound k1
  · exact k1

theorem doPocMeasurement_sound {z v0 v1 v2 s3} (k3 : Sound z s3) : Sound z (doPocMeasurement v0 v1 v2 s3) := by
  unfold doPocMeasurement
  exact State.setFld_sound (State.setFld_sound k3)

theorem State.ptpRecord_sound {z s0 v1 v2 v3 v4} (k0 : Sound z s0) : Sound z (State.ptpRecord s0 v1 v2 v3 v4) := by
  unfold State.ptpRecord
  refine Sound2.snd ?_
  exact State.capture_sound k0

theorem doEthFrame_sound {z v0 v1 v2 v3 s4} (k4 : Sound z s4) : Sound z (doEthFrame v0 v1 v2 v3 s4) := by
  unfold doEthFrame
  refine Sound.ite (fun _ => ?_) (fun _ => ?_)
  · exact k4
  · refine Sound.ite (fun _ => ?_) (fun _ => ?_)
    · exact State.bump_sound k4
    · extract_lets +onlyGivenNames x0
      try clear_value x0
      split
      · refine Sound.ite (fun _ => ?_) (fun _ => ?_)
        · exact State.ptpRecord_sound k4
        · extract_lets +onlyGivenNames x1
          have h2 : ∀ a0 a1 a2 a3, Sound z a0 → Sound2 z (x1 a0 a1 a2 a3) := by
            intro a0 a1 a2 a3 b0
            unfold x1
            exact State.capture_sound b0
          try clear_value x1
          extract_lets +onlyGivenNames x3
          try clear_value x3
          split
          · extract_lets +onlyGivenNames x4
            have h5 : Sound z x4 := by
              unfold x4
              refine Sound2.snd ?_
              refine h2 _ _ _ _ ?_
              · exact k4
            try clear_value x4
            refine Sound.ite (fun _ => ?_) (fun _ => ?_)
            · exact h5
            · exact State.bump_sound h5
          · extract_lets +onlyGivenNames -merge x6 x7 x8
            try clear_value x6 x7 x8
            refine Sound.ite (fun _ => ?_) (fun _ => ?_)
            · refine State.sendLimited_sound ?_
              refine State.bump_sound ?_
              refine Sound2.snd ?_
              refine h2 _ _ _ _ ?_
              · exact k4
            · extract_lets +onlyGivenNames x9
              try clear_value x9
              split
              · next y10 y11 e =>
                have h12 : Sound z y11 := by
                  refine Sound2.of e ?_
                  refine h2 _ _ _ _ ?_
                  · exact k4
                extract_lets +onlyGivenNames x13
                have h14 : Sound z x13 := by
                  unfold x13
                  refine Sound.ite (fun _ => ?_) (fun _ => ?_)
                  · exact State.send_sound h12
                  · exact h12
                try clear_value x13
                extract_lets +onlyGivenNames -merge -underBinder x15 x16
                have h17 : Sound z x16 := Sound.same h14 rfl rfl rfl rfl rfl
                try clear_value x16
                extract_lets +onlyGivenNames x18
                try clear_value x18
                exact State.enterBuf_sound h17

theorem doApCntclr_sound {z v0 s1} (k1 : Sound z s1) : Sound z (doApCntclr v0 s1) := by
  unfold doApCntclr
  exact State.setFld_sound (State.setReg_sound k1)

theorem doLpCntclr_sound {z v0 s1} (k1 : Sound z s1) : Sound z (doLpCntclr v0 s1) := by
  unfold doLpCntclr
  exact State.setFld_sound (State.setReg_sound k1)

theorem doWrClr_sound {z s0} (k0 : Sound z s0) : Sound z (doWrClr s0) := by
  unfold doWrClr
  refine Sound.foldl _ (fun q y h0 => ?_) _ ?_
  · exact State.setReg_sound (State.setReg_sound h0)
  · exact k0

/-! ### Pipeline -/

theorem State.setPipe_sound {z s0 v1 v2} (k0 : Sound z s0) : Sound z (State.setPipe s0 v1 v2) := by
  unfold State.setPipe
  exact Sound.same k0 rfl rfl rfl rfl rfl

theorem State.setView_sound {z s0 v1 v2} (k0 : Sound z s0) : Sound z (State.setView s0 v1 v2) := by
  unfold State.setView
  exact Sound.same k0 rfl rfl rfl rfl rfl

theorem State.readRows_sound {z s0 v1 v2 v3} (k0 : Sound z s0) : Sound2 z (State.readRows s0 v1 v2 v3) := by
  unfold State.readRows
  refine Sound2.foldl _ (fun q y h0 => ?_) _ ?_
  · split
    · next y1 y2 e =>
      have h3 : Sound z y2 := by
        refine Sound2.of e ?_
        refine State.hubRead_sound ?_
        refine Sound2.snd ?_
        exact h0
      refine Sound2.mk ?_
      exact h3
  · refine Sound2.mk ?_
    exact k0

theorem State.writeSlot_sound {z s0 v1 v2 v3} (k0 : Sound z s0) : Sound z (State.writeSlot s0 v1 v2 v3) := by
  unfold State.writeSlot
  refine Sound.foldl _ (fun q y h0 => ?_) _ ?_
  · extract_lets +onlyGivenNames x1
    have h2 : Sound z x1 := State.writeFor_sound h0
    try clear_value x1
    exact State.writeFor_sound h2
  · exact k0

theorem State.freeTime_sound {z s0} (k0 : Sound z s0) : Sound2 z (State.freeTime s0) := by
  unfold State.freeTime
  split
  · next y0 y1 e =>
    have h2 : Sound z y1 := by
      refine Sound2.of e ?_
      exact State.free_sound k0
    refine Sound2.mk ?_
    exact h2

theorem State.emitStripe_sound {z s0 v1 v2 v3 v4 v5} (k0 : Sound z s0) : Sound z (State.emitStripe s0 v1 v2 v3 v4 v5) := by
  unfold State.emitStripe
  extract_lets +onlyGivenNames -merge x0 x1
  try clear_value x0 x1
  split
  · extract_lets +onlyGivenNames -merge x2 x3
    try clear_value x2 x3
    split
    · next y4 y5 e =>
      have h6 : Sound z y5 := by
        refine Sound2.of e ?_
        refine Sound2.ite (fun _ => ?_) (fun _ => ?_)
        · refine Sound2.mk ?_
          exact k0
        · exact State.readRows_sound k0
      split
      · extract_lets +onlyGivenNames -merge x7 x8 x9 x10 x11
        try clear_value x7 x8 x9 x10 x11
        split
        · next y12 y13 e =>
          have h14 : Sound z y13 := by
            refine Sound2.of e ?_
            split
            · exact State.freeTime_sound h6
            · refine Sound2.mk ?_
              exact h6
          extract_lets +onlyGivenNames -merge x15 x16 x17 x18 x19
          try clear_value x15 x16 x17 x18 x19
          extract_lets +onlyGivenNames x20
          have h21 : Sound z x20 := State.writeFor_sound (State.writeSlot_sound h14)
          try clear_value x20
          extract_lets +onlyGivenNames x22
          have h23 : Sound z x22 := State.orReg_sound h21
          try clear_value x22
          extract_lets +onlyGivenNames x24
          have h25 : Sound z x24 := State.count_sound h23
          try clear_value x24
          extract_lets +onlyGivenNames x26
          try clear_value x26
          extract_lets +onlyGivenNames x27
          have h28 : Sound z x27 := State.setView_sound h25
          try clear_value x27
          extract_lets +onlyGivenNames x29
          have h30 : Sound z x29 := by
            unfold x29
            refine Sound.ite (fun _ => ?_) (fun _ => ?_)
            · exact State.sendLimited_sound h28
            · exact h28
          try clear_value x29
          extract_lets +onlyGivenNames x31
          try clear_value x31
          exact State.gaugeSee_sound h30

theorem doStripeReady_sound {z v0 s1} (k1 : Sound z s1) : Sound z (doStripeReady v0 s1) := by
  unfold doStripeReady
  split
  · exact k1
  · split
    · exact k1
    · exact State.emitStripe_sound k1

theorem State.pipeOpen_sound {z s0 v1 v2} (k0 : Sound z s0) : Sound z (State.pipeOpen s0 v1 v2) := by
  unfold State.pipeOpen
  extract_lets +onlyGivenNames x0
  try clear_value x0
  extract_lets +onlyGivenNames -merge -underBinder x1
  have h3 : Sound z x1 := by
    unfold x1
    refine Sound.foldl _ (fun q y h2 => ?_) _ ?_
    · exact State.setView_sound h2
    · exact k0
  try clear_value x1
  exact State.setPipe_sound h3

theorem doLineGroupAdmission_sound {z v0 s1} (k1 : Sound z s1) : Sound z (doLineGroupAdmission v0 s1) := by
  unfold doLineGroupAdmission
  split
  · exact k1
  · refine Sound.ite (fun _ => ?_) (fun _ => ?_)
    · exact k1
    · extract_lets +onlyGivenNames -merge x0 x1
      try clear_value x0 x1
      extract_lets +onlyGivenNames x2
      have h3 : Sound z x2 := by
        unfold x2
        refine Sound.ite (fun _ => ?_) (fun _ => ?_)
        · exact State.pipeOpen_sound k1
        · exact k1
      try clear_value x2
      refine Sound.ite (fun _ => ?_) (fun _ => ?_)
      · exact h3
      · split
        · exact State.weirDrop_sound (State.noteAge_sound h3)
        · extract_lets +onlyGivenNames x4
          have h5 : Sound z x4 := State.fbGroup_sound (State.setBuf_sound (State.noteAge_sound h3))
          try clear_value x4
          refine Sound.ite (fun _ => ?_) (fun _ => ?_)
          · exact h5
          · extract_lets +onlyGivenNames x6
            try clear_value x6
            extract_lets +onlyGivenNames x7
            have h9 : Sound z x7 := by
              unfold x7
              refine Sound.foldl _ (fun q y h8 => ?_) _ ?_
              · exact State.hubPut_sound h8
              · exact h5
            try clear_value x7
            extract_lets +onlyGivenNames x10
            try clear_value x10
            exact State.setPipe_sound h9

theorem State.closeTags_sound {z s0 v1 v2} (k0 : Sound z s0) : Sound z (State.closeTags s0 v1 v2) := by
  unfold State.closeTags
  extract_lets +onlyGivenNames x0
  try clear_value x0
  refine Sound.foldl _ (fun q y h1 => ?_) _ ?_
  · extract_lets +onlyGivenNames -merge x2 x3 x4
    try clear_value x2 x3 x4
    exact State.writeFor_sound h1
  · exact k0

theorem doFrameCloseEmit_sound {z v0 s1} (k1 : Sound z s1) : Sound z (doFrameCloseEmit v0 s1) := by
  unfold doFrameCloseEmit
  split
  · exact k1
  · refine Sound.ite (fun _ => ?_) (fun _ => ?_)
    · exact k1
    · extract_lets +onlyGivenNames x0
      try clear_value x0
      split
      · exact k1
      · extract_lets +onlyGivenNames x1
        have h2 : Sound z x1 := State.fbClose_sound k1
        try clear_value x1
        extract_lets +onlyGivenNames x3
        have h4 : Sound z x3 := by
          unfold x3
          refine Sound.ite (fun _ => ?_) (fun _ => ?_)
          · exact State.pipeOpen_sound h2
          · exact h2
        try clear_value x3
        refine Sound.ite (fun _ => ?_) (fun _ => ?_)
        · exact State.setBuf_sound h4
        · extract_lets +onlyGivenNames x5
          have h7 : Sound z x5 := by
            unfold x5
            refine Sound.foldl _ (fun q y h6 => ?_) _ ?_
            · split
              · split
                · exact State.emitStripe_sound h6
                · exact State.emitStripe_sound h6
            · exact h4
          try clear_value x5
          extract_lets +onlyGivenNames -merge -underBinder x8
          have h15 : Sound z x8 := by
            unfold x8
            refine Sound.foldl _ (fun q y h9 => ?_) _ ?_
            · extract_lets +onlyGivenNames x10
              have h11 : Sound z x10 := State.setReg_sound (State.closeTags_sound h9)
              try clear_value x10
              extract_lets +onlyGivenNames x12
              try clear_value x12
              extract_lets +onlyGivenNames x13
              have h14 : Sound z x13 := by
                unfold x13
                refine Sound.ite (fun _ => ?_) (fun _ => ?_)
                · exact State.setFld_sound h11
                · exact h11
              try clear_value x13
              exact State.setView_sound h14
            · exact h7
          try clear_value x8
          extract_lets +onlyGivenNames x16
          try clear_value x16
          exact State.setBuf_sound (State.setPipe_sound h15)

theorem doViewEnable_sound {z v0 v1 s2} (k2 : Sound z s2) : Sound z (doViewEnable v0 v1 s2) := by
  unfold doViewEnable
  extract_lets +onlyGivenNames x0
  try clear_value x0
  refine Sound.ite (fun _ => ?_) (fun _ => ?_)
  · refine Sound.ite (fun _ => ?_) (fun _ => ?_)
    · exact State.setView_sound k2
    · refine Sound.ite (fun _ => ?_) (fun _ => ?_)
      · exact State.setView_sound k2
      · exact State.setFld_sound k2
  · extract_lets +onlyGivenNames x1
    have h2 : Sound z x1 := State.setReg_sound k2
    try clear_value x1
    refine Sound.ite (fun _ => ?_) (fun _ => ?_)
    · exact h2
    · refine Sound.ite (fun _ => ?_) (fun _ => ?_)
      · exact State.sendEv_sound h2
      · exact State.setFld_sound h2

theorem doMeshLoad_sound {z v0 s1} (k1 : Sound z s1) : Sound z (doMeshLoad v0 s1) := by
  unfold doMeshLoad
  extract_lets +onlyGivenNames x0
  try clear_value x0
  extract_lets +onlyGivenNames x1
  have h2 : Sound z x1 := State.setFld_sound k1
  try clear_value x1
  refine Sound.ite (fun _ => ?_) (fun _ => ?_)
  · exact h2
  · extract_lets +onlyGivenNames x3
    try clear_value x3
    split
    · exact h2
    · split
      · exact State.sendEv_sound h2
      · extract_lets +onlyGivenNames x4
        try clear_value x4
        split
        · next y5 y6 e =>
          have h7 : Sound z y6 := by
            refine Sound2.of e ?_
            exact State.hubRead_sound h2
          extract_lets +onlyGivenNames x8
          try clear_value x8
          exact Sound.same h7 rfl rfl rfl rfl rfl

theorem State.setLid_sound {z s0 v1 v2} (k0 : Sound z s0) : Sound z (State.setLid s0 v1 v2) := by
  unfold State.setLid
  exact Sound.same k0 rfl rfl rfl rfl rfl

theorem State.emitSector_sound {z s0 v1 v2 v3 v4 v5 v6 v7 v8} (k0 : Sound z s0) : Sound z (State.emitSector s0 v1 v2 v3 v4 v5 v6 v7 v8) := by
  unfold State.emitSector
  extract_lets +onlyGivenNames -merge x0 x1 x2 x3 x4 x5 x6 x7
  try clear_value x0 x1 x2 x3 x4 x5 x6 x7
  extract_lets +onlyGivenNames -merge -underBinder x8
  try clear_value x8
  extract_lets +onlyGivenNames -merge x9 x10 x11 x12 x13 x14 x15
  try clear_value x9 x10 x11 x12 x13 x14 x15
  split
  · next y16 y17 e =>
    have h18 : Sound z y17 := by
      refine Sound2.of e ?_
      split
      · refine Sound2.mk ?_
        exact k0
      · exact State.freeTime_sound k0
    split
    · next y19 y20 e =>
      have h21 : Sound z y20 := by
        refine Sound2.of e ?_
        split
        · refine Sound2.mk ?_
          exact h18
        · exact State.free_sound h18
      extract_lets +onlyGivenNames -merge x22 x23
      try clear_value x22 x23
      extract_lets +onlyGivenNames x24
      have h25 : Sound z x24 := State.writeFor_sound (State.writeSlot_sound h21)
      try clear_value x24
      exact State.count_sound (State.orReg_sound h25)

theorem State.closeSector_sound {z s0 v1 v2 v3} (k0 : Sound z s0) : Sound z (State.closeSector s0 v1 v2 v3) := by
  unfold State.closeSector
  extract_lets +onlyGivenNames x0
  try clear_value x0
  split
  · exact k0
  · extract_lets +onlyGivenNames x1
    have h2 : Sound z x1 := State.emitSector_sound k0
    try clear_value x1
    exact State.setLid_sound h2

theorem State.missed_sound {z s0 v1 v2 v3 v4 v5} (k0 : Sound z s0) : Sound z (State.missed s0 v1 v2 v3 v4 v5) := by
  unfold State.missed
  refine Sound.foldl _ (fun q y h0 => ?_) _ ?_
  · extract_lets +onlyGivenNames x1
    have h2 : Sound z x1 := State.emitSector_sound h0
    try clear_value x1
    extract_lets +onlyGivenNames x3
    try clear_value x3
    exact State.setLid_sound h2
  · exact k0

theorem State.revStart_sound {z s0 v1 v2} (k0 : Sound z s0) : Sound z (State.revStart s0 v1 v2) := by
  unfold State.revStart
  exact State.setLid_sound k0

theorem State.toSector_sound {z s0 v1 v2 v3 v4 v5 v6} (k0 : Sound z s0) : Sound z (State.toSector s0 v1 v2 v3 v4 v5 v6) := by
  unfold State.toSector
  extract_lets +onlyGivenNames x0
  have h1 : Sound z x0 := State.closeSector_sound k0
  try clear_value x0
  extract_lets +onlyGivenNames x2
  have h3 : Sound z x2 := by
    unfold x2
    split
    · refine Sound.ite (fun _ => ?_) (fun _ => ?_)
      · exact State.revStart_sound h1
      · exact h1
    · refine Sound.ite (fun _ => ?_) (fun _ => ?_)
      · exact State.missed_sound (State.revStart_sound (State.missed_sound h1))
      · exact State.missed_sound h1
  try clear_value x2
  exact State.setLid_sound h3

theorem State.lidBlock_sound {z s0 v1 v2 v3 v4 v5} (k0 : Sound z s0) : Sound2 z (State.lidBlock s0 v1 v2 v3 v4 v5) := by
  unfold State.lidBlock
  extract_lets +onlyGivenNames -merge x0 x1 x2 x3 x4 x5 x6 x7 x8
  try clear_value x0 x1 x2 x3 x4 x5 x6 x7 x8
  refine Sound2.ite (fun _ => ?_) (fun _ => ?_)
  · extract_lets +onlyGivenNames x9
    try clear_value x9
    extract_lets +onlyGivenNames x10
    have h11 : Sound z x10 := by
      unfold x10
      refine Sound.ite (fun _ => ?_) (fun _ => ?_)
      · exact State.setLid_sound k0
      · exact k0
    try clear_value x10
    refine Sound2.mk ?_
    exact State.sendLimited_sound (State.bump_sound h11)
  · extract_lets +onlyGivenNames x12
    try clear_value x12
    extract_lets +onlyGivenNames x13
    have h14 : Sound z x13 := by
      unfold x13
      split
      · exact k0
      · exact State.gaugeSee_sound k0
    try clear_value x13
    extract_lets +onlyGivenNames -merge x15 x16 x17 x18
    try clear_value x15 x16 x17 x18
    extract_lets +onlyGivenNames -merge -underBinder x19 x20
    have h21 : Sound z x20 := State.setLid_sound h14
    try clear_value x20
    refine Sound2.ite (fun _ => ?_) (fun _ => ?_)
    · extract_lets +onlyGivenNames x22
      try clear_value x22
      refine Sound2.mk ?_
      refine Sound.ite (fun _ => ?_) (fun _ => ?_)
      · exact State.setLid_sound h21
      · exact h21
    · extract_lets +onlyGivenNames x23
      try clear_value x23
      extract_lets +onlyGivenNames x24
      have h25 : Sound z x24 := by
        unfold x24
        refine Sound.ite (fun _ => ?_) (fun _ => ?_)
        · exact h21
        · exact State.toSector_sound h21
      try clear_value x24
      extract_lets +onlyGivenNames -merge x26 x27 x28
      try clear_value x26 x27 x28
      extract_lets +onlyGivenNames -merge -underBinder x29
      try clear_value x29
      extract_lets +onlyGivenNames x30
      try clear_value x30
      refine Sound2.mk ?_
      exact State.setLid_sound h25

theorem State.fbPacket_sound {z s0 v1} (k0 : Sound z s0) : Sound z (State.fbPacket s0 v1) := by
  unfold State.fbPacket
  refine Sound.ite (fun _ => ?_) (fun _ => ?_)
  · exact k0
  · extract_lets +onlyGivenNames -merge x0 x1
    try clear_value x0 x1
    refine Sound.foldl _ (fun q y h2 => ?_) _ ?_
    · extract_lets +onlyGivenNames -merge x3 x4 x5
      try clear_value x3 x4 x5
      split
      · exact Sound.same h2 rfl rfl rfl rfl rfl
      · refine Sound.ite (fun _ => ?_) (fun _ => ?_)
        · exact Sound.same h2 rfl rfl rfl rfl rfl
        · refine Sound.ite (fun _ => ?_) (fun _ => ?_)
          · exact Sound.same h2 rfl rfl rfl rfl rfl
          · exact Sound.same h2 rfl rfl rfl rfl rfl
    · exact k0

theorem doLidarBlock_sound {z v0 s1} (k1 : Sound z s1) : Sound z (doLidarBlock v0 s1) := by
  unfold doLidarBlock
  split
  · exact k1
  · split
    · exact k1
    · split
      · exact State.weirDrop_sound (State.noteAge_sound k1)
      · extract_lets +onlyGivenNames x0
        have h1 : Sound z x0 := State.fbPacket_sound (State.setBuf_sound (State.noteAge_sound k1))
        try clear_value x0
        extract_lets +onlyGivenNames x2
        try clear_value x2
        refine Sound.ite (fun _ => ?_) (fun _ => ?_)
        · exact h1
        · refine Sound2.snd ?_
          refine Sound2.foldl _ (fun q y h3 => ?_) _ ?_
          · refine State.lidBlock_sound ?_
            refine Sound2.snd ?_
            exact h3
          · refine Sound2.mk ?_
            exact h1

theorem doLidarEnable_sound {z v0 v1 s2} (k2 : Sound z s2) : Sound z (doLidarEnable v0 v1 s2) := by
  unfold doLidarEnable
  extract_lets +onlyGivenNames x0
  try clear_value x0
  refine Sound.ite (fun _ => ?_) (fun _ => ?_)
  · refine Sound.ite (fun _ => ?_) (fun _ => ?_)
    · exact k2
    · exact State.setLid_sound (State.setFld_sound k2)
  · extract_lets +onlyGivenNames x1
    have h2 : Sound z x1 := State.setReg_sound k2
    try clear_value x1
    refine Sound.ite (fun _ => ?_) (fun _ => ?_)
    · exact h2
    · refine Sound.ite (fun _ => ?_) (fun _ => ?_)
      · exact State.sendEv_sound h2
      · exact State.setLid_sound (State.setFld_sound h2)

theorem doSensStreamTimeout_sound {z v0 s1} (k1 : Sound z s1) : Sound z (doSensStreamTimeout v0 s1) := by
  unfold doSensStreamTimeout
  refine Sound.ite (fun _ => ?_) (fun _ => ?_)
  · exact k1
  · refine Sound.ite (fun _ => ?_) (fun _ => ?_)
    · extract_lets +onlyGivenNames -merge x0 x1
      try clear_value x0 x1
      refine Sound.ite (fun _ => ?_) (fun _ => ?_)
      · exact State.send_sound (State.setCam_sound k1)
      · exact k1
    · extract_lets +onlyGivenNames -merge x2 x3 x4
      try clear_value x2 x3 x4
      refine Sound.ite (fun _ => ?_) (fun _ => ?_)
      · exact State.closeSector_sound (State.send_sound (Sound.same k1 rfl rfl rfl rfl rfl))
      · exact k1

theorem State.closeSectors_sound {z s0 v1} (k0 : Sound z s0) : Sound z (State.closeSectors s0 v1) := by
  unfold State.closeSectors
  refine Sound.foldl _ (fun q y h0 => ?_) _ ?_
  · exact State.closeSector_sound h0
  · exact k0

theorem doEthLink_sound {z v0 s1} (k1 : Sound z s1) : Sound z (doEthLink v0 s1) := by
  unfold doEthLink
  refine Sound.ite (fun _ => ?_) (fun _ => ?_)
  · exact k1
  · extract_lets +onlyGivenNames x0
    have h1 : Sound z x0 := State.lqDropAll_sound (State.setFld_sound k1)
    try clear_value x0
    extract_lets +onlyGivenNames x2
    have h3 : Sound z x2 := by
      unfold x2
      refine Sound.ite (fun _ => ?_) (fun _ => ?_)
      · exact State.closeSectors_sound h1
      · exact h1
    try clear_value x2
    exact State.send_sound h3

theorem doEthLinkUp_sound {z v0 s1} (k1 : Sound z s1) : Sound z (doEthLinkUp v0 s1) := by
  unfold doEthLinkUp
  refine Sound.ite (fun _ => ?_) (fun _ => ?_)
  · exact k1
  · exact State.send_sound (State.setFld_sound k1)

theorem doReceiverEnable_sound {z v0 v1 s2} (k2 : Sound z s2) : Sound z (doReceiverEnable v0 v1 s2) := by
  unfold doReceiverEnable
  refine Sound.ite (fun _ => ?_) (fun _ => ?_)
  · extract_lets +onlyGivenNames x0
    try clear_value x0
    refine Sound.ite (fun _ => ?_) (fun _ => ?_)
    · refine Sound.ite (fun _ => ?_) (fun _ => ?_)
      · exact k2
      · extract_lets +onlyGivenNames x1
        have h2 : Sound z x1 := by
          unfold x1
          refine Sound.ite (fun _ => ?_) (fun _ => ?_)
          · exact k2
          · exact State.closeAll_sound k2
        try clear_value x1
        exact State.setFld_sound (State.setFld_sound h2)
    · extract_lets +onlyGivenNames x3
      have h4 : Sound z x3 := State.setReg_sound k2
      try clear_value x3
      refine Sound.ite (fun _ => ?_) (fun _ => ?_)
      · exact h4
      · refine State.camShow_sound ?_
        refine Sound.foldl _ (fun q y h5 => ?_) _ ?_
        · exact State.setCam_sound h5
        · exact h4
  · extract_lets +onlyGivenNames -merge x6 x7
    try clear_value x6 x7
    refine Sound.ite (fun _ => ?_) (fun _ => ?_)
    · refine Sound.ite (fun _ => ?_) (fun _ => ?_)
      · exact k2
      · exact State.lqDropAll_sound (State.setFld_sound (State.setFld_sound (State.closeSectors_sound k2)))
    · extract_lets +onlyGivenNames x8
      have h9 : Sound z x8 := State.setReg_sound k2
      try clear_value x8
      refine Sound.ite (fun _ => ?_) (fun _ => ?_)
      · exact h9
      · refine Sound.foldl _ (fun q y h10 => ?_) _ ?_
        · exact Sound.same h10 rfl rfl rfl rfl rfl
        · exact h9

/-! ### Gauge -/

theorem State.setGen_sound {z s0 v1 v2} (k0 : Sound z s0) : Sound z (State.setGen s0 v1 v2) := by
  unfold State.setGen
  exact Sound.same k0 rfl rfl rfl rfl rfl

theorem State.gMiss_sound {z s0 v1} (k0 : Sound z s0) : Sound z (State.gMiss s0 v1) := by
  unfold State.gMiss
  exact State.sendLimited_sound (State.bump_sound k0)

theorem State.gLate_sound {z s0 v1} (k0 : Sound z s0) : Sound z (State.gLate s0 v1) := by
  unfold State.gLate
  exact State.sendLimited_sound (State.bump_sound k0)

theorem State.gFlag_sound {z s0 v1} (k0 : Sound z s0) : Sound z (State.gFlag s0 v1) := by
  unfold State.gFlag
  extract_lets +onlyGivenNames -merge x0 x1 x2 x3
  try clear_value x0 x1 x2 x3
  extract_lets +onlyGivenNames x4
  have h6 : Sound z x4 := by
    unfold x4
    refine Sound.foldl _ (fun q y h5 => ?_) _ ?_
    · exact State.updSeq_sound h5
    · exact k0
  try clear_value x4
  refine Sound.ite (fun _ => ?_) (fun _ => ?_)
  · exact State.gMiss_sound h6
  · exact h6

theorem State.takeStep_sound {z s0 v1 v2 v3 v4 v5} (k0 : Sound z s0) : Sound2 z (State.takeStep s0 v1 v2 v3 v4 v5) := by
  unfold State.takeStep
  split
  · refine Sound2.mk ?_
    exact k0
  · extract_lets +onlyGivenNames x0
    have h1 : ∀ a0, Sound z a0 → Sound z (x0 a0) := by
      intro a0 b0
      unfold x0
      exact State.updRun_sound b0
    try clear_value x0
    refine Sound2.ite (fun _ => ?_) (fun _ => ?_)
    · refine Sound2.ite (fun _ => ?_) (fun _ => ?_)
      · refine Sound2.mk ?_
        exact k0
      · refine Sound2.mk ?_
        refine h1 _ ?_
        · exact k0
    · split
      · next y2 y3 e =>
        have h4 : Sound z y3 := by
          refine Sound2.of e ?_
          exact State.startStep_sound k0
        refine Sound2.mk ?_
        refine Sound.ite (fun _ => ?_) (fun _ => ?_)
        · exact h4
        · refine h1 _ ?_
          · exact h4

theorem State.gStep_sound {z s0 v1 v2 v3 v4} (k0 : Sound z s0) : Sound z (State.gStep s0 v1 v2 v3 v4) := by
  unfold State.gStep
  split
  · next y0 y1 e =>
    have h2 : Sound z y1 := by
      refine Sound2.of e ?_
      exact State.takeStep_sound k0
    refine Sound.ite (fun _ => ?_) (fun _ => ?_)
    · exact State.gMiss_sound h2
    · exact h2

theorem State.gFire_sound {z s0 v1 v2 v3 v4} (k0 : Sound z s0) : Sound z (State.gFire s0 v1 v2 v3 v4) := by
  unfold State.gFire
  extract_lets +onlyGivenNames x0
  have h1 : Sound z x0 := State.count_sound k0
  try clear_value x0
  extract_lets +onlyGivenNames x2
  try clear_value x2
  extract_lets +onlyGivenNames x3
  have h4 : Sound z x3 := State.setGen_sound h1
  try clear_value x3
  extract_lets +onlyGivenNames x5
  have h6 : Sound z x5 := by
    unfold x5
    refine Sound.ite (fun _ => ?_) (fun _ => ?_)
    · exact State.gFlag_sound h4
    · exact h4
  try clear_value x5
  refine Sound.ite (fun _ => ?_) (fun _ => ?_)
  · exact State.gStep_sound h6
  · exact h6

theorem doTimeFiring_sound {z v0 v1 s2} (k2 : Sound z s2) : Sound z (doTimeFiring v0 v1 s2) := by
  unfold doTimeFiring
  refine Sound.ite (fun _ => ?_) (fun _ => ?_)
  · exact k2
  · extract_lets +onlyGivenNames -merge x0 x1 x2 x3 x4
    try clear_value x0 x1 x2 x3 x4
    split
    · exact k2
    · extract_lets +onlyGivenNames x5
      have h6 : Sound z x5 := State.setGen_sound k2
      try clear_value x5
      extract_lets +onlyGivenNames x7
      have h9 : Sound z x7 := by
        unfold x7
        refine Sound.foldl _ (fun q y h8 => ?_) _ ?_
        · exact State.gMiss_sound h8
        · exact h6
      try clear_value x7
      exact State.gFire_sound h9

theorem State.gSensor_sound {z s0 v1 v2 v3} (k0 : Sound z s0) : SoundO1 z (State.gSensor s0 v1 v2 v3) := by
  unfold State.gSensor
  refine SoundO1.ite (fun _ => ?_) (fun _ => ?_)
  · exact SoundO1.none
  · split
    · exact SoundO1.none
    · extract_lets +onlyGivenNames -merge -underBinder x0 x1
      have h2 : Sound z x1 := Sound.same k0 rfl rfl rfl rfl rfl
      try clear_value x1
      extract_lets +onlyGivenNames x3
      have h4 : Sound z x3 := by
        unfold x3
        refine Sound.ite (fun _ => ?_) (fun _ => ?_)
        · exact State.gLate_sound h2
        · exact h2
      try clear_value x3
      refine SoundO1.mk ?_
      exact State.gFire_sound h4

theorem doAzimuthFiring_sound {z v0 v1 s2} (k2 : Sound z s2) : Sound z (doAzimuthFiring v0 v1 s2) := by
  unfold doAzimuthFiring
  split
  · exact k2
  · next y0 y1 e =>
    have h2 : Sound z y1 := by
      refine SoundO1.of e ?_
      exact State.gSensor_sound k2
    exact h2

theorem doLineFiring_sound {z v0 v1 s2} (k2 : Sound z s2) : Sound z (doLineFiring v0 v1 s2) := by
  unfold doLineFiring
  split
  · exact k2
  · next y0 y1 e =>
    have h2 : Sound z y1 := by
      refine SoundO1.of e ?_
      exact State.gSensor_sound k2
    exact h2

theorem doStripeFiring_sound {z v0 v1 s2} (k2 : Sound z s2) : Sound z (doStripeFiring v0 v1 s2) := by
  unfold doStripeFiring
  split
  · exact k2
  · next y0 y1 e =>
    have h2 : Sound z y1 := by
      refine SoundO1.of e ?_
      exact State.gSensor_sound k2
    exact h2

theorem doPredictFiring_sound {z v0 v1 s2} (k2 : Sound z s2) : Sound z (doPredictFiring v0 v1 s2) := by
  unfold doPredictFiring
  split
  · exact k2
  · next y0 y1 e =>
    have h2 : Sound z y1 := by
      refine SoundO1.of e ?_
      exact State.gSensor_sound k2
    extract_lets +onlyGivenNames x3
    try clear_value x3
    extract_lets +onlyGivenNames x4
    have h5 : Sound z x4 := State.setGen_sound h2
    try clear_value x4
    extract_lets +onlyGivenNames x6
    split
    · refine Sound.ite (fun _ => ?_) (fun _ => ?_)
      · exact State.gMiss_sound h5
      · exact h5
    · extract_lets +onlyGivenNames x7
      try clear_value x7
      extract_lets +onlyGivenNames x8
      have h9 : Sound z x8 := State.setReg_sound h5
      try clear_value x8
      refine Sound.ite (fun _ => ?_) (fun _ => ?_)
      · exact h9
      · refine Sound.ite (fun _ => ?_) (fun _ => ?_)
        · exact State.gMiss_sound h9
        · extract_lets +onlyGivenNames -merge x10 x11 x12
          try clear_value x10 x11 x12
          exact doTriggerRequest_sound h9

theorem doFallback_sound {z v0 v1 s2} (k2 : Sound z s2) : Sound z (doFallback v0 v1 s2) := by
  unfold doFallback
  extract_lets +onlyGivenNames x0
  try clear_value x0
  refine Sound.ite (fun _ => ?_) (fun _ => ?_)
  · exact k2
  · extract_lets +onlyGivenNames x1
    try clear_value x1
    refine Sound.ite (fun _ => ?_) (fun _ => ?_)
    · exact k2
    · split
      · exact k2
      · exact State.gFire_sound (State.gLate_sound k2)

theorem doHeldStepStart_sound {z v0 v1 v2 s3} (k3 : Sound z s3) : Sound z (doHeldStepStart v0 v1 v2 s3) := by
  unfold doHeldStepStart
  split
  · exact k3
  · split
    · exact k3
    · refine Sound.ite (fun _ => ?_) (fun _ => ?_)
      · exact k3
      · refine Sound2.snd ?_
        exact State.startStep_sound k3

theorem doGaugeEnable_sound {z v0 v1 s2} (k2 : Sound z s2) : Sound z (doGaugeEnable v0 v1 s2) := by
  unfold doGaugeEnable
  extract_lets +onlyGivenNames x0
  try clear_value x0
  refine Sound.ite (fun _ => ?_) (fun _ => ?_)
  · refine Sound.ite (fun _ => ?_) (fun _ => ?_)
    · exact k2
    · exact State.setFld_sound (Sound.same k2 rfl rfl rfl rfl rfl)
  · extract_lets +onlyGivenNames x1
    have h2 : Sound z x1 := State.setReg_sound k2
    try clear_value x1
    refine Sound.ite (fun _ => ?_) (fun _ => ?_)
    · exact h2
    · refine Sound.ite (fun _ => ?_) (fun _ => ?_)
      · exact State.sendEv_sound h2
      · exact State.setFld_sound (State.setGen_sound h2)

theorem doGaCntclr_sound {z v0 s1} (k1 : Sound z s1) : Sound z (doGaCntclr v0 s1) := by
  unfold doGaCntclr
  exact State.setReg_sound (State.setReg_sound k1)

theorem doTbCntclr_sound {z s0} (k0 : Sound z s0) : Sound z (doTbCntclr s0) := by
  unfold doTbCntclr
  exact State.setReg_sound k0

theorem doLqCntclr_sound {z v0 s1} (k1 : Sound z s1) : Sound z (doLqCntclr v0 s1) := by
  unfold doLqCntclr
  exact State.setFld_sound (State.setFld_sound k1)

end Sys2Proof.Machine
end

