-- ==== Sys2Proof/Laws/SoundModule.lean ====
section
/-! SUPPORT. `Sound` of every operation: Viaduct, Keystone, resets, faults, safety, management, power and registers. -/

namespace Sys2Proof.Machine

/-! ### Viaduct -/

theorem State.setVp_sound {z s0 v1 v2} (k0 : Sound z s0) : Sound z (State.setVp s0 v1 v2) := by
  unfold State.setVp
  exact Sound.same k0 rfl rfl rfl rfl rfl

theorem State.vpEnter_sound {z s0 v1 v2} (k0 : Sound z s0) : Sound z (State.vpEnter s0 v1 v2) := by
  unfold State.vpEnter
  extract_lets +onlyGivenNames x0
  try clear_value x0
  extract_lets +onlyGivenNames x1
  have h2 : Sound z x1 := State.setFld_sound k0
  try clear_value x1
  extract_lets +onlyGivenNames x3
  have h4 : Sound z x3 := by
    unfold x3
    refine Sound.ite (fun _ => ?_) (fun _ => ?_)
    · exact State.send_sound h2
    · exact h2
  try clear_value x3
  refine Sound.ite (fun _ => ?_) (fun _ => ?_)
  · exact State.send_sound (State.setVp_sound h4)
  · exact h4

theorem State.vpTrain_sound {z s0 v1} (k0 : Sound z s0) : Sound z (State.vpTrain s0 v1) := by
  unfold State.vpTrain
  exact State.vpEnter_sound (State.setVp_sound k0)

theorem doRetrain_sound {z v0 s1} (k1 : Sound z s1) : Sound z (doRetrain v0 s1) := by
  unfold doRetrain
  refine Sound.ite (fun _ => ?_) (fun _ => ?_)
  · exact k1
  · exact State.send_sound (State.vpEnter_sound (State.bump_sound k1))

theorem doPortEnable_sound {z v0 v1 s2} (k2 : Sound z s2) : Sound z (doPortEnable v0 v1 s2) := by
  unfold doPortEnable
  extract_lets +onlyGivenNames x0
  try clear_value x0
  extract_lets +onlyGivenNames x1
  extract_lets +onlyGivenNames x2
  have h3 : Sound z x2 := by
    unfold x2
    refine Sound.ite (fun _ => ?_) (fun _ => ?_)
    · exact k2
    · exact State.setFld_sound (State.setFld_sound k2)
  try clear_value x2
  extract_lets +onlyGivenNames x4
  have h5 : Sound z x4 := by
    unfold x4
    refine Sound.ite (fun _ => ?_) (fun _ => ?_)
    · exact State.setFld_sound h3
    · exact h3
  try clear_value x4
  refine Sound.ite (fun _ => ?_) (fun _ => ?_)
  · refine Sound.ite (fun _ => ?_) (fun _ => ?_)
    · exact h5
    · exact State.vpTrain_sound (State.setFld_sound h5)
  · refine Sound.ite (fun _ => ?_) (fun _ => ?_)
    · exact State.vpEnter_sound (State.setVp_sound (State.setFld_sound (State.setFld_sound h5)))
    · exact h5

theorem doByp_sound {z v0 v1 s2} (k2 : Sound z s2) : Sound z (doByp v0 v1 s2) := by
  unfold doByp
  extract_lets +onlyGivenNames x0
  have h1 : Sound z x0 := State.setFld_sound k2
  try clear_value x0
  refine Sound.ite (fun _ => ?_) (fun _ => ?_)
  · refine Sound.ite (fun _ => ?_) (fun _ => ?_)
    · exact State.vpEnter_sound h1
    · exact h1
  · refine Sound.ite (fun _ => ?_) (fun _ => ?_)
    · exact State.vpTrain_sound h1
    · exact h1

theorem doTrainResult_sound {z v0 v1 v2 v3 s4} (k4 : Sound z s4) : Sound z (doTrainResult v0 v1 v2 v3 s4) := by
  unfold doTrainResult
  refine Sound.ite (fun _ => ?_) (fun _ => ?_)
  · refine Sound.ite (fun _ => ?_) (fun _ => ?_)
    · extract_lets +onlyGivenNames x0
      have h1 : Sound z x0 := State.setFld_sound (State.setFld_sound k4)
      try clear_value x0
      refine Sound.ite (fun _ => ?_) (fun _ => ?_)
      · extract_lets +onlyGivenNames x2
        have h3 : Sound z x2 := State.vpEnter_sound h1
        try clear_value x2
        refine Sound.ite (fun _ => ?_) (fun _ => ?_)
        · exact State.vpEnter_sound h3
        · exact h3
      · exact State.send_sound (State.vpEnter_sound h1)
    · extract_lets +onlyGivenNames x4
      try clear_value x4
      extract_lets +onlyGivenNames x5
      have h6 : Sound z x5 := State.setVp_sound k4
      try clear_value x5
      refine Sound.ite (fun _ => ?_) (fun _ => ?_)
      · exact State.vpEnter_sound h6
      · exact h6
  · refine Sound.ite (fun _ => ?_) (fun _ => ?_)
    · refine Sound.ite (fun _ => ?_) (fun _ => ?_)
      · extract_lets +onlyGivenNames x7
        try clear_value x7
        exact State.vpEnter_sound (State.setVp_sound k4)
      · exact State.vpEnter_sound k4
    · exact k4

theorem State.vpReplay_sound {z s0 v1 v2} (k0 : Sound z s0) : Sound z (State.vpReplay s0 v1 v2) := by
  unfold State.vpReplay
  extract_lets +onlyGivenNames -merge x0 x1 x2
  try clear_value x0 x1 x2
  extract_lets +onlyGivenNames x3
  have h4 : Sound z x3 := State.setVp_sound k0
  try clear_value x3
  refine Sound.ite (fun _ => ?_) (fun _ => ?_)
  · exact h4
  · extract_lets +onlyGivenNames x5
    have h6 : Sound z x5 := State.sendLimited_sound (State.bump_sound h4)
    try clear_value x5
    refine Sound.ite (fun _ => ?_) (fun _ => ?_)
    · exact doRetrain_sound h6
    · exact h6

theorem doNak_sound {z v0 v1 s2} (k2 : Sound z s2) : Sound z (doNak v0 v1 s2) := by
  unfold doNak
  refine Sound.ite (fun _ => ?_) (fun _ => ?_)
  · exact State.vpReplay_sound k2
  · exact k2

theorem State.vpAck_sound {z s0 v1 v2} (k0 : Sound z s0) : Sound z (State.vpAck s0 v1 v2) := by
  unfold State.vpAck
  extract_lets +onlyGivenNames x0
  try clear_value x0
  exact State.setVp_sound k0

theorem State.inject_sound {z s0 v1 v2} (k0 : Sound z s0) : Sound z (State.inject s0 v1 v2) := by
  unfold State.inject
  exact Sound.same k0 rfl rfl rfl rfl rfl

theorem State.vdProto_sound {z s0} (k0 : Sound z s0) : Sound z (State.vdProto s0) := by
  unfold State.vdProto
  exact State.sendLimited_sound (State.bump_sound k0)

theorem State.creditBack_sound {z s0 v1 v2} (k0 : Sound z s0) : Sound z (State.creditBack s0 v1 v2) := by
  unfold State.creditBack
  extract_lets +onlyGivenNames x0
  try clear_value x0
  exact State.setVp_sound k0

theorem State.sendFlits_sound {z s0 v1 v2 v3} (k0 : Sound z s0) : Sound2 z (State.sendFlits s0 v1 v2 v3) := by
  unfold State.sendFlits
  extract_lets +onlyGivenNames -merge x0 x1
  try clear_value x0 x1
  refine Sound2.ite (fun _ => ?_) (fun _ => ?_)
  · refine Sound2.mk ?_
    exact k0
  · extract_lets +onlyGivenNames -merge x2 x3
    try clear_value x2 x3
    refine Sound2.mk ?_
    exact State.setVp_sound k0

theorem State.setJob_sound {z s0 v1 v2} (k0 : Sound z s0) : Sound z (State.setJob s0 v1 v2) := by
  unfold State.setJob
  exact Sound.same k0 rfl rfl rfl rfl rfl

theorem State.jShow_sound {z s0 v1} (k0 : Sound z s0) : Sound z (State.jShow s0 v1) := by
  unfold State.jShow
  exact State.setFld_sound k0

theorem State.jSend_sound {z s0 v1 v2 v3 v4 v5 v6 v7} (k0 : Sound z s0) : Sound z (State.jSend s0 v1 v2 v3 v4 v5 v6 v7) := by
  unfold State.jSend
  exact State.inject_sound k0

theorem State.jStale_sound {z s0 v1} (k0 : Sound z s0) : Sound z (State.jStale s0 v1) := by
  unfold State.jStale
  exact State.sendLimited_sound (State.bump_sound k0)

theorem State.stageFlag_sound {z s0 v1 v2 v3 v4} (k0 : Sound z s0) : Sound z (State.stageFlag s0 v1 v2 v3 v4) := by
  unfold State.stageFlag
  extract_lets +onlyGivenNames x0
  try clear_value x0
  refine Sound.foldl _ (fun q y h1 => ?_) _ ?_
  · refine Sound.ite (fun _ => ?_) (fun _ => ?_)
    · exact State.updSeq_sound h1
    · exact h1
  · exact k0

theorem State.stageFlags_sound {z j n s} (k : Sound z s) : Sound z (State.stageFlags j n s) := by
  induction n generalizing s with
  | zero => exact k
  | succ n ih =>
    unfold State.stageFlags
    exact Sound.ite (fun _ => ih (State.setJob_sound (State.stageFlag_sound k))) (fun _ => k)

theorem State.retractStep_sound {z s0 v1 v2} (k0 : Sound z s0) : Sound z (State.retractStep s0 v1 v2) := by
  unfold State.retractStep
  split
  · exact k0
  · extract_lets +onlyGivenNames x0
    try clear_value x0
    refine Sound.ite (fun _ => ?_) (fun _ => ?_)
    · exact State.updRun_sound k0
    · split
      · exact k0
      · extract_lets +onlyGivenNames x1
        try clear_value x1
        extract_lets +onlyGivenNames -merge -underBinder x2 x3
        have h4 : Sound z x3 := Sound.same k0 rfl rfl rfl rfl rfl
        try clear_value x3
        extract_lets +onlyGivenNames x5
        have h6 : Sound z x5 := Sound.same h4 rfl rfl rfl rfl rfl
        try clear_value x5
        exact State.updRun_sound h6

theorem State.retractCore_sound {z s0 v1 v2 v3 v4 v5} (k0 : Sound z s0) : Sound z (State.retractCore s0 v1 v2 v3 v4 v5) := by
  unfold State.retractCore
  extract_lets +onlyGivenNames x0
  have h2 : Sound z x0 := by
    unfold x0
    refine Sound.foldl _ (fun q y h1 => ?_) _ ?_
    · exact State.jSend_sound h1
    · exact k0
  try clear_value x0
  extract_lets +onlyGivenNames x3
  have h5 : Sound z x3 := by
    unfold x3
    refine Sound.ite (fun _ => ?_) (fun _ => ?_)
    · refine Sound.foldl _ (fun q y h4 => ?_) _ ?_
      · exact State.stageFlag_sound h4
      · exact h2
    · exact h2
  try clear_value x3
  extract_lets +onlyGivenNames x6
  try clear_value x6
  extract_lets +onlyGivenNames x7
  have h8 : Sound z x7 := State.setJob_sound h5
  try clear_value x7
  extract_lets +onlyGivenNames x9
  have h10 : Sound z x9 := State.bump_sound (State.retractStep_sound h8)
  try clear_value x9
  exact State.send_sound (State.jShow_sound h10)

theorem State.retractFrom_sound {z s0 v1 v2 v3 v4} (k0 : Sound z s0) : Sound z (State.retractFrom s0 v1 v2 v3 v4) := by
  unfold State.retractFrom
  extract_lets +onlyGivenNames x0
  try clear_value x0
  refine Sound.ite (fun _ => ?_) (fun _ => ?_)
  · extract_lets +onlyGivenNames x1
    have h2 : Sound z x1 := State.setJob_sound k0
    try clear_value x1
    exact State.retractCore_sound h2
  · extract_lets +onlyGivenNames x3
    have h4 : Sound z x3 := State.setJob_sound k0
    try clear_value x3
    exact State.retractCore_sound h4

theorem State.retractOwn_sound {z s0 v1 v2} (k0 : Sound z s0) : Sound2 z (State.retractOwn s0 v1 v2) := by
  unfold State.retractOwn
  extract_lets +onlyGivenNames x0
  try clear_value x0
  refine Sound2.ite (fun _ => ?_) (fun _ => ?_)
  · refine Sound2.mk ?_
    exact k0
  · extract_lets +onlyGivenNames -merge -underBinder x1 x2
    have h3 : Sound z x2 := by
      unfold x2
      refine Sound.ite (fun _ => ?_) (fun _ => ?_)
      · try clear_value x1
        exact State.setJob_sound k0
      · exact k0
    try clear_value x2
    refine Sound2.mk ?_
    exact State.retractCore_sound h3

theorem State.commit_sound {z s0 v1} (k0 : Sound z s0) : Sound z (State.commit s0 v1) := by
  unfold State.commit
  extract_lets +onlyGivenNames x0
  try clear_value x0
  extract_lets +onlyGivenNames x1
  have h3 : Sound z x1 := by
    unfold x1
    refine Sound.ite (fun _ => ?_) (fun _ => ?_)
    · exact k0
    · refine Sound.foldl _ (fun q y h2 => ?_) _ ?_
      · exact State.jSend_sound h2
      · exact k0
  try clear_value x1
  extract_lets +onlyGivenNames x4
  try clear_value x4
  extract_lets +onlyGivenNames x5
  have h6 : Sound z x5 := State.setReg_sound h3
  try clear_value x5
  extract_lets +onlyGivenNames x7
  try clear_value x7
  extract_lets +onlyGivenNames x8
  have h9 : Sound z x8 := State.setJob_sound h6
  try clear_value x8
  extract_lets +onlyGivenNames x10
  have h11 : Sound z x10 := State.stageFlags_sound (State.jShow_sound h9)
  try clear_value x10
  split
  · exact h11
  · exact State.finishEnds_sound h11

theorem State.waveRounds_sound {z j n s} (k : Sound z s) : Sound z (State.waveRounds j n s) := by
  induction n generalizing s with
  | zero => exact k
  | succ n ih =>
    unfold State.waveRounds
    refine Sound.ite (fun _ => ih (State.setJob_sound ?_)) (fun _ => k)
    exact Sound.foldl _ (fun q y hq => State.jSend_sound hq) _ k

theorem State.tryCommit_sound {z s0 v1} (k0 : Sound z s0) : Sound z (State.tryCommit s0 v1) := by
  unfold State.tryCommit
  refine Sound.ite (fun _ => ?_) (fun _ => ?_)
  · exact k0
  · refine Sound.ite (fun _ => ?_) (fun _ => ?_)
    · extract_lets +onlyGivenNames x0
      have h1 : Sound z x0 := State.waveRounds_sound k0
      try clear_value x0
      extract_lets +onlyGivenNames x2
      try clear_value x2
      refine Sound.ite (fun _ => ?_) (fun _ => ?_)
      · exact State.commit_sound h1
      · exact h1
    · refine Sound.ite (fun _ => ?_) (fun _ => ?_)
      · exact State.commit_sound k0
      · exact k0

theorem doOwnChecks_sound {z v0 s1} (k1 : Sound z s1) : Sound z (doOwnChecks v0 s1) := by
  unfold doOwnChecks
  refine Sound.ite (fun _ => ?_) (fun _ => ?_)
  · exact k1
  · exact State.tryCommit_sound (State.setJob_sound k1)

theorem State.gotConfirm_sound {z s0 v1} (k0 : Sound z s0) : Sound z (State.gotConfirm s0 v1) := by
  unfold State.gotConfirm
  split
  · split
    · exact k0
    · exact State.jStale_sound k0
  · split
    · exact State.jStale_sound k0
    · refine Sound.ite (fun _ => ?_) (fun _ => ?_)
      · exact State.jStale_sound k0
      · extract_lets +onlyGivenNames -merge x0 x1
        try clear_value x0 x1
        exact State.tryCommit_sound (State.setJob_sound k0)

theorem State.gotRetract_sound {z s0 v1} (k0 : Sound z s0) : Sound z (State.gotRetract s0 v1) := by
  unfold State.gotRetract
  split
  · split
    · exact k0
    · exact State.jStale_sound k0
  · split
    · exact State.jStale_sound k0
    · refine Sound.ite (fun _ => ?_) (fun _ => ?_)
      · exact State.jStale_sound k0
      · exact State.retractFrom_sound k0

theorem State.makePackets_sound {z s0 v1 v2 v3 v4 v5} (k0 : Sound z s0) : Sound z (State.makePackets s0 v1 v2 v3 v4 v5) := by
  unfold State.makePackets
  split
  · refine Sound.ite (fun _ => ?_) (fun _ => ?_)
    · exact State.updCopy_sound k0
    · extract_lets +onlyGivenNames -merge x0 x1 x2 x3 x4 x5
      try clear_value x0 x1 x2 x3 x4 x5
      extract_lets +onlyGivenNames -merge -underBinder x6
      try clear_value x6
      extract_lets +onlyGivenNames x7
      have h8 : Sound z x7 := State.setJob_sound k0
      try clear_value x7
      extract_lets +onlyGivenNames -merge -underBinder x9
      have h13 : Sound z x9 := by
        unfold x9
        refine Sound.foldl _ (fun q y h10 => ?_) _ ?_
        · extract_lets +onlyGivenNames -merge x11 x12
          try clear_value x11 x12
          exact Sound.same h10 rfl rfl rfl rfl rfl
        · exact h8
      try clear_value x9
      exact Sound.same h13 rfl rfl rfl rfl rfl

theorem State.makeAll_sound {z s} (k : Sound z s) : Sound z (State.makeAll s) := by
  unfold State.makeAll
  refine Sound.foldl _ (fun q y h => ?_) _ k
  split
  · exact Sound.ite (fun _ => State.makePackets_sound h) (fun _ => h)
  · exact h

theorem State.acked_sound {z s0 v1} (k0 : Sound z s0) : Sound z (State.acked s0 v1) := by
  unfold State.acked
  extract_lets +onlyGivenNames -merge -underBinder x0 x1
  have h2 : Sound z x1 := Sound.same k0 rfl rfl rfl rfl rfl
  try clear_value x1
  split
  · exact h2
  · extract_lets +onlyGivenNames x3
    try clear_value x3
    refine Sound.ite (fun _ => ?_) (fun _ => ?_)
    · exact State.updCopy_sound (Sound.same h2 rfl rfl rfl rfl rfl)
    · exact Sound.same h2 rfl rfl rfl rfl rfl

theorem State.gotWack_sound {z s0 v1} (k0 : Sound z s0) : Sound z (State.gotWack s0 v1) := by
  unfold State.gotWack
  split
  · split
    · exact State.jStale_sound k0
    · exact k0
  · exact State.acked_sound k0

theorem State.resend_sound {z s0 v1 v2} (k0 : Sound z s0) : Sound z (State.resend s0 v1 v2) := by
  unfold State.resend
  extract_lets +onlyGivenNames x0
  try clear_value x0
  exact Sound.same k0 rfl rfl rfl rfl rfl

theorem State.takeWrite_sound {z s0 v1 v2 v3} (k0 : Sound z s0) : Sound z (State.takeWrite s0 v1 v2 v3) := by
  unfold State.takeWrite
  extract_lets +onlyGivenNames -merge x0 x1 x2 x3 x4 x5 x6
  try clear_value x0 x1 x2 x3 x4 x5 x6
  refine Sound.ite (fun _ => ?_) (fun _ => ?_)
  · extract_lets +onlyGivenNames x7
    have h8 : Sound z x7 := State.calRefused_sound (Sound.same k0 rfl rfl rfl rfl rfl)
    try clear_value x7
    exact Sound.same h8 rfl rfl rfl rfl rfl
  · extract_lets +onlyGivenNames x9
    have h10 : Sound z x9 := State.writeFor_sound k0
    try clear_value x9
    extract_lets +onlyGivenNames -merge x11 x12 x13
    try clear_value x11 x12 x13
    extract_lets +onlyGivenNames x14
    have h15 : Sound z x14 := State.setJob_sound h10
    try clear_value x14
    exact State.stageFlags_sound (State.jSend_sound h15)

theorem State.gotWrite_sound {z s0 v1} (k0 : Sound z s0) : Sound z (State.gotWrite s0 v1) := by
  unfold State.gotWrite
  extract_lets +onlyGivenNames x0
  have h1 : ∀ a0 a1, Sound z a0 → Sound z (x0 a0 a1) := by
    intro a0 a1 b0
    unfold x0
    exact State.inject_sound b0
  try clear_value x0
  split
  · refine Sound.ite (fun _ => ?_) (fun _ => ?_)
    · refine h1 _ _ ?_
      · exact k0
    · split
      · exact k0
      · exact State.jStale_sound k0
  · split
    · exact State.jStale_sound k0
    · extract_lets +onlyGivenNames x2
      try clear_value x2
      refine Sound.ite (fun _ => ?_) (fun _ => ?_)
      · exact State.jSend_sound k0
      · refine Sound.ite (fun _ => ?_) (fun _ => ?_)
        · refine h1 _ _ ?_
          · exact k0
        · refine Sound.ite (fun _ => ?_) (fun _ => ?_)
          · refine h1 _ _ ?_
            · exact k0
          · refine Sound.ite (fun _ => ?_) (fun _ => ?_)
            · refine h1 _ _ ?_
              · exact k0
            · refine Sound.ite (fun _ => ?_) (fun _ => ?_)
              · exact State.jSend_sound k0
              · extract_lets +onlyGivenNames x3
                have h4 : Sound z x3 := by
                  unfold x3
                  refine Sound.ite (fun _ => ?_) (fun _ => ?_)
                  · exact State.retractFrom_sound k0
                  · exact k0
                try clear_value x3
                exact State.takeWrite_sound h4

theorem State.hopOne_sound {z s0 v1 v2} (k0 : Sound z s0) : Sound2 z (State.hopOne s0 v1 v2) := by
  unfold State.hopOne
  extract_lets +onlyGivenNames -merge -underBinder x0 x1
  have h2 : Sound z x1 := Sound.same k0 rfl rfl rfl rfl rfl
  try clear_value x1
  extract_lets +onlyGivenNames x3
  have h4 : Sound z x3 := State.sendLimited_sound (State.bump_sound h2)
  try clear_value x3
  refine Sound2.ite (fun _ => ?_) (fun _ => ?_)
  · refine Sound2.mk ?_
    exact State.vdProto_sound h2
  · refine Sound2.ite (fun _ => ?_) (fun _ => ?_)
    · refine Sound2.mk ?_
      exact h4
    · split
      · refine Sound2.mk ?_
        exact h4
      · extract_lets +onlyGivenNames x5
        try clear_value x5
        split
        · next y6 y7 e =>
          have h8 : Sound z y7 := by
            refine Sound2.of e ?_
            exact State.sendFlits_sound h2
          refine Sound2.ite (fun _ => ?_) (fun _ => ?_)
          · refine Sound2.mk ?_
            exact h8
          · refine Sound2.mk ?_
            exact k0

theorem State.hopData_sound {z s0} (k0 : Sound z s0) : Sound z (State.hopData s0) := by
  unfold State.hopData
  split
  · exact k0
  · split
    · next y0 y1 e =>
      have h2 : Sound z y1 := by
        refine Sound2.of e ?_
        exact State.hopOne_sound k0
      refine Sound.ite (fun _ => ?_) (fun _ => ?_)
      · exact h2
      · exact Sound.same k0 rfl rfl rfl rfl rfl

theorem doPacketHop_sound {z s0} (k0 : Sound z s0) : Sound z (doPacketHop s0) := by
  unfold doPacketHop
  extract_lets +onlyGivenNames x0
  have h1 : Sound z x0 := State.makeAll_sound k0
  try clear_value x0
  split
  · exact State.hopData_sound h1
  · split
    · next y2 y3 e =>
      have h4 : Sound z y3 := by
        refine Sound2.of e ?_
        exact State.hopOne_sound h1
      refine Sound.ite (fun _ => ?_) (fun _ => ?_)
      · exact h4
      · exact State.hopData_sound h1

theorem State.jobQuiet_sound {z s0 v1 v2 v3} (k0 : Sound z s0) : Sound z (State.jobQuiet s0 v1 v2 v3) := by
  unfold State.jobQuiet
  refine Sound.ite (fun _ => ?_) (fun _ => ?_)
  · exact k0
  · extract_lets +onlyGivenNames x0
    have h2 : Sound z x0 := by
      unfold x0
      refine Sound.foldl _ (fun q y h1 => ?_) _ ?_
      · exact State.jSend_sound h1
      · exact k0
    try clear_value x0
    extract_lets +onlyGivenNames -merge x3 x4
    try clear_value x3 x4
    extract_lets +onlyGivenNames -merge -underBinder x5 x6
    have h7 : Sound z x6 := Sound.same h2 rfl rfl rfl rfl rfl
    try clear_value x6
    extract_lets +onlyGivenNames x8
    have h9 : Sound z x8 := State.setFld_sound (State.setFld_sound h7)
    try clear_value x8
    exact State.setJob_sound h9

theorem doQuietExpiry_sound {z v0 s1} (k1 : Sound z s1) : Sound z (doQuietExpiry v0 s1) := by
  unfold doQuietExpiry
  refine Sound.ite (fun _ => ?_) (fun _ => ?_)
  · exact State.setFld_sound k1
  · exact k1

theorem doArm_sound {z v0 s1} (k1 : Sound z s1) : Sound z (doArm v0 s1) := by
  unfold doArm
  refine Sound.ite (fun _ => ?_) (fun _ => ?_)
  · exact State.send_sound k1
  · extract_lets +onlyGivenNames -merge -underBinder x0 x1
    have h2 : Sound z x1 := State.setJob_sound k1
    try clear_value x1
    exact State.setReg_sound (State.setReg_sound (State.setReg_sound h2))

theorem doVdCntclr_sound {z s0} (k0 : Sound z s0) : Sound z (doVdCntclr s0) := by
  unfold doVdCntclr
  exact State.setReg_sound k0

theorem doVpCntclr_sound {z v0 s1} (k1 : Sound z s1) : Sound z (doVpCntclr v0 s1) := by
  unfold doVpCntclr
  exact State.setReg_sound (State.setReg_sound k1)

theorem doWnakResend_sound {z v0 v1 v2 s3} (k3 : Sound z s3) : Sound z (doWnakResend v0 v1 v2 s3) := by
  unfold doWnakResend
  split
  · exact k3
  · split
    · exact k3
    · refine Sound.ite (fun _ => ?_) (fun _ => ?_)
      · exact State.resend_sound k3
      · exact k3

/-! ### Keystone -/

theorem State.setFbDown_sound {z s0 v1} (k0 : Sound z s0) : Sound z (State.setFbDown s0 v1) := by
  unfold State.setFbDown
  extract_lets +onlyGivenNames x0
  try clear_value x0
  exact State.setFld_sound (State.setFld_sound k0)

theorem State.updDec_sound {z s0 v1 v2} (k0 : Sound z s0) : Sound z (State.updDec s0 v1 v2) := by
  unfold State.updDec
  exact Sound.same k0 rfl rfl rfl rfl rfl

theorem State.enterSafe_sound {z s0 v1 v2 v3} (k0 : Sound z s0) : Sound z (State.enterSafe s0 v1 v2 v3) := by
  unfold State.enterSafe
  refine Sound.ite (fun _ => ?_) (fun _ => ?_)
  · exact k0
  · extract_lets +onlyGivenNames x0
    have h1 : Sound z x0 := State.setReg_sound k0
    try clear_value x0
    extract_lets +onlyGivenNames x2
    have h3 : Sound z x2 := State.setFld_sound (State.setFld_sound h1)
    try clear_value x2
    extract_lets +onlyGivenNames x4
    try clear_value x4
    extract_lets +onlyGivenNames x5
    have h7 : Sound z x5 := by
      unfold x5
      refine Sound.foldl _ (fun q y h6 => ?_) _ ?_
      · exact State.setFld_sound h6
      · exact h3
    try clear_value x5
    extract_lets +onlyGivenNames -merge -underBinder x8 x9
    have h10 : Sound z x9 := Sound.same h7 rfl rfl rfl rfl rfl
    try clear_value x9
    refine Sound.foldl _ (fun q y h11 => ?_) _ ?_
    · exact State.finishEnds_sound h11
    · exact h10

theorem State.decideOut_sound {z s0 v1 v2} (k0 : Sound z s0) : Sound z (State.decideOut s0 v1 v2) := by
  unfold State.decideOut
  extract_lets +onlyGivenNames x0
  try clear_value x0
  extract_lets +onlyGivenNames x1
  have h2 : Sound z x1 := State.updDec_sound k0
  try clear_value x1
  extract_lets +onlyGivenNames x3
  have h4 : Sound z x3 := State.setReg_sound (State.setFld_sound h2)
  try clear_value x3
  extract_lets +onlyGivenNames x5
  try clear_value x5
  extract_lets +onlyGivenNames -merge -underBinder x6 x7 x8 x9 x10
  have h13 : Sound z x10 := by
    unfold x10
    refine Sound.ite (fun _ => ?_) (fun _ => ?_)
    · have h11 : Sound z x6 := State.setFld_sound (State.count_sound h4)
      try clear_value x6
      exact Sound.same h11 rfl rfl rfl rfl rfl
    · have h12 : Sound z x8 := State.bump_sound (State.count_sound h4)
      try clear_value x8
      exact Sound.same h12 rfl rfl rfl rfl rfl
  try clear_value x10
  exact State.finishEnds_sound h13

theorem State.cover_sound {z s0 v1} (k0 : Sound z s0) : Sound z (State.cover s0 v1) := by
  unfold State.cover
  refine Sound.ite (fun _ => ?_) (fun _ => ?_)
  · exact k0
  · split
    · extract_lets +onlyGivenNames x0
      try clear_value x0
      exact State.enterSafe_sound (State.send_sound k0)
    · extract_lets +onlyGivenNames x1
      have h2 : Sound z x1 := State.hubPut_sound (Sound.same k0 rfl rfl rfl rfl rfl)
      try clear_value x1
      extract_lets +onlyGivenNames x3
      have h4 : Sound z x3 := State.send_sound (Sound.same h2 rfl rfl rfl rfl rfl)
      try clear_value x3
      extract_lets +onlyGivenNames x5
      have h6 : Sound z x5 := State.decideOut_sound h4
      try clear_value x5
      refine Sound.ite (fun _ => ?_) (fun _ => ?_)
      · exact State.enterSafe_sound h6
      · exact h6

theorem State.statusAt_sound {z s0 v1 v2} (k0 : Sound z s0) : Sound2 z (State.statusAt s0 v1 v2) := by
  unfold State.statusAt
  split
  · next y0 y1 e =>
    have h2 : Sound z y1 := by
      refine Sound2.of e ?_
      exact State.hubRead_sound (Sound.same k0 rfl rfl rfl rfl rfl)
    extract_lets +onlyGivenNames x3
    have h4 : Sound z x3 := Sound.same h2 rfl rfl rfl rfl rfl
    try clear_value x3
    refine Sound2.ite (fun _ => ?_) (fun _ => ?_)
    · refine Sound2.mk ?_
      exact h4
    · extract_lets +onlyGivenNames x5
      try clear_value x5
      refine Sound2.mk ?_
      exact h4

theorem State.resultAt_sound {z s0 v1 v2 v3} (k0 : Sound z s0) : Sound2 z (State.resultAt s0 v1 v2 v3) := by
  unfold State.resultAt
  split
  · next y0 y1 e =>
    have h2 : Sound z y1 := by
      refine Sound2.of e ?_
      exact State.hubRead_sound (Sound.same k0 rfl rfl rfl rfl rfl)
    extract_lets +onlyGivenNames x3
    have h4 : Sound z x3 := Sound.same h2 rfl rfl rfl rfl rfl
    try clear_value x3
    refine Sound2.mk ?_
    exact h4

theorem State.checkCopies_sound {z s0 v1} (k0 : Sound z s0) : Sound2 z (State.checkCopies s0 v1) := by
  unfold State.checkCopies
  extract_lets +onlyGivenNames -merge x0 x1
  try clear_value x0 x1
  extract_lets +onlyGivenNames x2
  extract_lets +onlyGivenNames -merge x3 x4 x5 x6
  try clear_value x3 x4 x5 x6
  split
  · next y7 y8 e =>
    have h9 : Sound z y8 := by
      refine Sound2.of e ?_
      exact State.statusAt_sound k0
    split
    · next y10 y11 e =>
      have h12 : Sound z y11 := by
        refine Sound2.of e ?_
        refine Sound2.ite (fun _ => ?_) (fun _ => ?_)
        · exact State.statusAt_sound h9
        · refine Sound2.mk ?_
          exact h9
      split
      · next y13 y14 e =>
        have h15 : Sound z y14 := by
          refine Sound2.of e ?_
          exact State.resultAt_sound h12
        split
        · next y16 y17 e =>
          have h18 : Sound z y17 := by
            refine Sound2.of e ?_
            refine Sound2.ite (fun _ => ?_) (fun _ => ?_)
            · exact State.resultAt_sound h15
            · refine Sound2.mk ?_
              exact h15
          extract_lets +onlyGivenNames -merge x19 x20 x21 x22
          try clear_value x19 x20 x21 x22
          refine Sound2.mk ?_
          exact h18

theorem State.dupMismatch_sound {z s0 v1} (k0 : Sound z s0) : Sound z (State.dupMismatch s0 v1) := by
  unfold State.dupMismatch
  extract_lets +onlyGivenNames x0
  have h1 : Sound z x0 := State.send_sound k0
  try clear_value x0
  extract_lets +onlyGivenNames -merge -underBinder x2 x3
  have h4 : Sound z x3 := Sound.same h1 rfl rfl rfl rfl rfl
  try clear_value x3
  exact State.cover_sound (State.updDec_sound h4)

theorem doRelease_sound {z v0 s1} (k1 : Sound z s1) : Sound z (doRelease v0 s1) := by
  unfold doRelease
  split
  · exact k1
  · refine Sound.ite (fun _ => ?_) (fun _ => ?_)
    · exact k1
    · split
      · next y0 y1 e =>
        have h2 : Sound z y1 := by
          refine Sound2.of e ?_
          exact State.checkCopies_sound k1
        extract_lets +onlyGivenNames x3
        refine Sound.ite (fun _ => ?_) (fun _ => ?_)
        · extract_lets +onlyGivenNames x4
          have h5 : Sound z x4 := by
            unfold x4
            refine Sound.ite (fun _ => ?_) (fun _ => ?_)
            · exact h2
            · exact State.dupMismatch_sound h2
          try clear_value x4
          extract_lets +onlyGivenNames x6
          have h7 : Sound z x6 := State.updDec_sound h5
          try clear_value x6
          exact State.setFld_sound h7
        · refine Sound.ite (fun _ => ?_) (fun _ => ?_)
          · exact h2
          · refine Sound.ite (fun _ => ?_) (fun _ => ?_)
            · exact State.dupMismatch_sound h2
            · refine Sound.ite (fun _ => ?_) (fun _ => ?_)
              · exact State.decideOut_sound h2
              · exact h2

theorem doReleaseDeadline_sound {z v0 s1} (k1 : Sound z s1) : Sound z (doReleaseDeadline v0 s1) := by
  unfold doReleaseDeadline
  split
  · exact k1
  · refine Sound.ite (fun _ => ?_) (fun _ => ?_)
    · exact State.cover_sound k1
    · exact k1

theorem State.coverUnits_sound {z s0 v1} (k0 : Sound z s0) : Sound z (State.coverUnits s0 v1) := by
  unfold State.coverUnits
  extract_lets +onlyGivenNames x0
  try clear_value x0
  refine Sound.foldl _ (fun q y h1 => ?_) _ ?_
  · exact State.cover_sound (State.updDec_sound h1)
  · exact k0

theorem State.ksErr_sound {z s0} (k0 : Sound z s0) : Sound z (State.ksErr s0) := by
  unfold State.ksErr
  exact State.setFld_sound k0

theorem State.ksRun_sound {z s0} (k0 : Sound z s0) : Sound z (State.ksRun s0) := by
  unfold State.ksRun
  extract_lets +onlyGivenNames x0
  have h1 : Sound z x0 := State.setFld_sound (State.setFld_sound k0)
  try clear_value x0
  exact Sound.same h1 rfl rfl rfl rfl rfl

theorem doKsGo_sound {z s0} (k0 : Sound z s0) : Sound z (doKsGo s0) := by
  unfold doKsGo
  refine Sound.ite (fun _ => ?_) (fun _ => ?_)
  · exact State.ksRun_sound k0
  · exact State.ksErr_sound k0

theorem doKsClear_sound {z s0} (k0 : Sound z s0) : Sound z (doKsClear s0) := by
  unfold doKsClear
  refine Sound.ite (fun _ => ?_) (fun _ => ?_)
  · exact State.ksRun_sound k0
  · exact State.ksErr_sound k0

theorem doKsEnter_sound {z s0} (k0 : Sound z s0) : Sound z (doKsEnter s0) := by
  unfold doKsEnter
  refine Sound.ite (fun _ => ?_) (fun _ => ?_)
  · exact k0
  · split
    · next y0 y1 e =>
      have h2 : Sound z y1 := by
        refine Sound2.of e ?_
        exact State.free_sound k0
      exact State.enterSafe_sound h2

theorem doOutputEnable_sound {z v0 v1 s2} (k2 : Sound z s2) : Sound z (doOutputEnable v0 v1 s2) := by
  unfold doOutputEnable
  extract_lets +onlyGivenNames -merge x0 x1
  try clear_value x0 x1
  refine Sound.ite (fun _ => ?_) (fun _ => ?_)
  · refine Sound.ite (fun _ => ?_) (fun _ => ?_)
    · exact k2
    · extract_lets +onlyGivenNames x2
      have h3 : Sound z x2 := State.setFld_sound k2
      try clear_value x2
      refine Sound.ite (fun _ => ?_) (fun _ => ?_)
      · exact h3
      · exact Sound.same h3 rfl rfl rfl rfl rfl
  · extract_lets +onlyGivenNames x4
    have h5 : Sound z x4 := State.setReg_sound k2
    try clear_value x4
    refine Sound.ite (fun _ => ?_) (fun _ => ?_)
    · exact h5
    · refine Sound.ite (fun _ => ?_) (fun _ => ?_)
      · refine Sound.ite (fun _ => ?_) (fun _ => ?_)
        · exact State.ksErr_sound h5
        · exact State.setFld_sound h5
      · extract_lets +onlyGivenNames x6
        try clear_value x6
        refine Sound.ite (fun _ => ?_) (fun _ => ?_)
        · exact State.ksErr_sound h5
        · extract_lets +onlyGivenNames x7
          try clear_value x7
          extract_lets +onlyGivenNames x8
          have h9 : Sound z x8 := State.setFld_sound h5
          try clear_value x8
          exact Sound.same h9 rfl rfl rfl rfl rfl

theorem State.fbFault_sound {z s0 v1} (k0 : Sound z s0) : Sound z (State.fbFault s0 v1) := by
  unfold State.fbFault
  extract_lets +onlyGivenNames x0
  have h1 : Sound z x0 := State.setFbDown_sound (State.send_sound k0)
  try clear_value x0
  exact Sound.same h1 rfl rfl rfl rfl rfl

theorem doFootbridgeRun_sound {z s0} (k0 : Sound z s0) : Sound z (doFootbridgeRun s0) := by
  unfold doFootbridgeRun
  refine Sound.ite (fun _ => ?_) (fun _ => ?_)
  · exact k0
  · extract_lets +onlyGivenNames -merge x0 x1 x2 x3 x4 x5 x6 x7 x8
    try clear_value x0 x1 x2 x3 x4 x5 x6 x7 x8
    exact Sound.same k0 rfl rfl rfl rfl rfl

theorem doFootbridgeRunEnd_sound {z s0} (k0 : Sound z s0) : Sound z (doFootbridgeRunEnd s0) := by
  unfold doFootbridgeRunEnd
  split
  · exact k0
  · refine Sound.ite (fun _ => ?_) (fun _ => ?_)
    · exact k0
    · split
      · next y0 y1 e =>
        have h2 : Sound z y1 := by
          refine Sound2.of e ?_
          exact State.free_sound k0
        split
        · next y3 y4 e =>
          have h5 : Sound z y4 := by
            refine Sound2.of e ?_
            exact State.free_sound h2
          extract_lets +onlyGivenNames x6
          try clear_value x6
          extract_lets +onlyGivenNames -merge -underBinder x7 x8
          have h9 : Sound z x8 := Sound.drawn h5 rfl rfl (Nat.le_add_right _ _) rfl rfl
          try clear_value x8
          exact State.setReg_sound h9

theorem doFbFault_sound {z v0 s1} (k1 : Sound z s1) : Sound z (doFbFault v0 s1) := by
  unfold doFbFault
  refine Sound.ite (fun _ => ?_) (fun _ => ?_)
  · split
    · exact k1
    · refine Sound.ite (fun _ => ?_) (fun _ => ?_)
      · exact State.fbFault_sound (Sound.same k1 rfl rfl rfl rfl rfl)
      · exact k1
  · refine Sound.ite (fun _ => ?_) (fun _ => ?_)
    · split
      · refine Sound.ite (fun _ => ?_) (fun _ => ?_)
        · exact State.fbFault_sound (Sound.same k1 rfl rfl rfl rfl rfl)
        · exact k1
      · exact k1
    · refine Sound.ite (fun _ => ?_) (fun _ => ?_)
      · exact State.fbFault_sound k1
      · exact k1

theorem doKnownAnswerRun_sound {z v0 s1} (k1 : Sound z s1) : Sound z (doKnownAnswerRun v0 s1) := by
  unfold doKnownAnswerRun
  refine Sound.ite (fun _ => ?_) (fun _ => ?_)
  · exact k1
  · refine Sound.ite (fun _ => ?_) (fun _ => ?_)
    · exact State.fbFault_sound (State.setFld_sound k1)
    · extract_lets +onlyGivenNames x0
      have h1 : Sound z x0 := State.setFld_sound k1
      try clear_value x0
      extract_lets +onlyGivenNames x2
      try clear_value x2
      refine Sound.ite (fun _ => ?_) (fun _ => ?_)
      · exact State.setFbDown_sound h1
      · exact h1

/-! ### Reset -/

theorem State.bumpGen_sound {z s0 v1} (k0 : Sound z s0) : Sound z (State.bumpGen s0 v1) := by
  unfold State.bumpGen
  extract_lets +onlyGivenNames x0
  try clear_value x0
  extract_lets +onlyGivenNames x1
  have h2 : Sound z x1 := by
    unfold x1
    refine Sound.ite (fun _ => ?_) (fun _ => ?_)
    · exact State.setFld_sound k0
    · exact Sound.same k0 rfl rfl rfl rfl rfl
  try clear_value x1
  exact Sound.same h2 rfl rfl rfl rfl rfl

theorem State.setBusy_sound {z s0 v1 v2} (k0 : Sound z s0) : Sound z (State.setBusy s0 v1 v2) := by
  unfold State.setBusy
  exact Sound.same k0 rfl rfl rfl rfl rfl

theorem State.stage_sound {z s0 v1} (k0 : Sound z s0) : Sound z (State.stage s0 v1) := by
  unfold State.stage
  extract_lets +onlyGivenNames x0
  try clear_value x0
  refine Sound.ite (fun _ => ?_) (fun _ => ?_)
  · exact State.orReg_sound k0
  · exact State.setFld_sound (Sound.same k0 rfl rfl rfl rfl rfl)

theorem State.captureCl_sound {z s0 v1 v2} (k0 : Sound z s0) : Sound z (State.captureCl s0 v1 v2) := by
  unfold State.captureCl
  extract_lets +onlyGivenNames x0
  try clear_value x0
  exact State.stage_sound k0

theorem State.capturePkg_sound {z s0 v1} (k0 : Sound z s0) : Sound z (State.capturePkg s0 v1) := by
  unfold State.capturePkg
  extract_lets +onlyGivenNames -merge x0 x1
  try clear_value x0 x1
  exact State.stage_sound k0

theorem State.reqReset_sound {z s0 v1} (k0 : Sound z s0) : Sound z (State.reqReset s0 v1) := by
  unfold State.reqReset
  refine Sound.ite (fun _ => ?_) (fun _ => ?_)
  · exact k0
  · extract_lets +onlyGivenNames x0
    have h1 : Sound z x0 := State.halt_sound (State.updSeq_sound k0)
    try clear_value x0
    refine State.setBusy_sound ?_
    extract_lets +onlyGivenNames x2
    have h3 : Sound z x2 := State.bumpGen_sound h1
    try clear_value x2
    exact Sound.same h3 rfl rfl rfl rfl rfl

theorem State.clearMem_sound {z s v1} (k : Sound z s) : Sound z (State.clearMem s v1) :=
  ⟨k.queue, k.clock, k.fresh, fun h => memory_wf_filter (k.memory h) _, fun h => marks_wf_filter (k.marks h) _⟩

theorem State.runReset_sound {z s0 v1} (k0 : Sound z s0) : Sound z (State.runReset s0 v1) := by
  unfold State.runReset
  extract_lets +onlyGivenNames x0
  try clear_value x0
  extract_lets +onlyGivenNames x1
  have h2 : Sound z x1 := by
    unfold x1
    refine Sound.ite (fun _ => ?_) (fun _ => ?_)
    · exact State.captureCl_sound k0
    · exact k0
  try clear_value x1
  extract_lets +onlyGivenNames x3
  try clear_value x3
  extract_lets +onlyGivenNames -merge -underBinder x4 x5 x6 x7
  have h8 : Sound z x7 := State.setCl_sound h2
  try clear_value x7
  extract_lets +onlyGivenNames x9
  have h10 : Sound z x9 := State.clearMem_sound h8
  try clear_value x9
  extract_lets +onlyGivenNames x11
  have h12 : Sound z x11 := Sound.same h10 rfl rfl rfl rfl rfl
  try clear_value x11
  extract_lets +onlyGivenNames x13
  have h15 : Sound z x13 := by
    unfold x13
    refine Sound.foldl _ (fun q y h14 => ?_) _ ?_
    · exact State.setReg_sound h14
    · exact h12
  try clear_value x13
  exact State.setBusy_sound (State.setFld_sound h15)

theorem State.resetCluster_sound {z s0 v1} (k0 : Sound z s0) : Sound z (State.resetCluster s0 v1) := by
  unfold State.resetCluster
  exact State.runReset_sound (State.reqReset_sound k0)

theorem State.quietJobs_sound {z s0 v1 v2 v3} (k0 : Sound z s0) : Sound z (State.quietJobs s0 v1 v2 v3) := by
  unfold State.quietJobs
  refine Sound.foldl _ (fun q y h0 => ?_) _ ?_
  · refine Sound.ite (fun _ => ?_) (fun _ => ?_)
    · exact State.jobQuiet_sound h0
    · exact h0
  · exact k0

theorem State.abortCtx_sound {z s0 v1 v2 v3 v4} (k0 : Sound z s0) : Sound z (State.abortCtx s0 v1 v2 v3 v4) := by
  unfold State.abortCtx
  extract_lets +onlyGivenNames x0
  have h1 : Sound z x0 := State.quietJobs_sound k0
  try clear_value x0
  refine Sound.ite (fun _ => ?_) (fun _ => ?_)
  · exact h1
  · extract_lets +onlyGivenNames x2
    try clear_value x2
    extract_lets +onlyGivenNames x3
    have h4 : Sound z x3 := State.abortCore_sound h1
    try clear_value x3
    refine Sound.ite (fun _ => ?_) (fun _ => ?_)
    · exact h4
    · refine Sound.foldl _ (fun q y h5 => ?_) _ ?_
      · exact State.reqReset_sound h5
      · exact h4

theorem doAbort_sound {z v0 s1} (k1 : Sound z s1) : Sound z (doAbort v0 s1) := by
  unfold doAbort
  refine Sound.ite (fun _ => ?_) (fun _ => ?_)
  · exact State.cmdErr_sound k1
  · exact State.abortCtx_sound k1

theorem doContextReset_sound {z v0 s1} (k1 : Sound z s1) : Sound z (doContextReset v0 s1) := by
  unfold doContextReset
  refine Sound.ite (fun _ => ?_) (fun _ => ?_)
  · exact State.cmdErr_sound k1
  · extract_lets +onlyGivenNames x0
    have h2 : Sound z x0 := by
      unfold x0
      refine Sound.ite (fun _ => ?_) (fun _ => ?_)
      · refine Sound.foldl _ (fun q y h1 => ?_) _ ?_
        · refine Sound2.snd ?_
          exact State.kvRelease_sound h1
        · exact k1
      · exact k1
    try clear_value x0
    exact State.setReg_sound (State.setReg_sound h2)

theorem State.setHost_sound {z s0 v1 v2} (k0 : Sound z s0) : Sound z (State.setHost s0 v1 v2) := by
  unfold State.setHost
  exact Sound.same k0 rfl rfl rfl rfl rfl

theorem State.fenceMap_sound {z s0 v1} (k0 : Sound z s0) : Sound z (State.fenceMap s0 v1) := by
  unfold State.fenceMap
  refine Sound.foldl _ (fun q y h0 => ?_) _ ?_
  · refine Sound.ite (fun _ => ?_) (fun _ => ?_)
    · exact State.setHost_sound h0
    · split
      · exact State.setHost_sound h0
      · exact State.setHost_sound (State.setHost_sound h0)
  · exact k0

theorem State.returnMap_sound {z s0 v1} (k0 : Sound z s0) : Sound z (State.returnMap s0 v1) := by
  unfold State.returnMap
  refine Sound.ite (fun _ => ?_) (fun _ => ?_)
  · exact k0
  · extract_lets +onlyGivenNames x0
    try clear_value x0
    split
    · exact k0
    · exact State.setHost_sound k0

theorem State.stepLost_sound {z s0 v1 v2} (k0 : Sound z s0) : Sound z (State.stepLost s0 v1 v2) := by
  unfold State.stepLost
  extract_lets +onlyGivenNames x0
  try clear_value x0
  refine Sound.ite (fun _ => ?_) (fun _ => ?_)
  · exact State.abortCtx_sound k0
  · extract_lets +onlyGivenNames x1
    try clear_value x1
    extract_lets +onlyGivenNames x2
    have h4 : Sound z x2 := by
      unfold x2
      refine Sound.foldl _ (fun q y h3 => ?_) _ ?_
      · exact State.cover_sound (State.updDec_sound h3)
      · exact k0
    try clear_value x2
    extract_lets +onlyGivenNames -merge -underBinder x5
    have h6 : Sound z x5 := State.updRun_sound h4
    try clear_value x5
    split
    · exact h6
    · refine Sound.ite (fun _ => ?_) (fun _ => ?_)
      · exact State.stepEnded_sound h6
      · exact h6

theorem State.workLost_sound {z s0 v1 v2} (k0 : Sound z s0) : Sound z (State.workLost s0 v1 v2) := by
  unfold State.workLost
  split
  · exact k0
  · refine Sound.ite (fun _ => ?_) (fun _ => ?_)
    · exact State.discardOne_sound k0
    · extract_lets +onlyGivenNames -merge x0 x1
      try clear_value x0 x1
      extract_lets +onlyGivenNames -merge -underBinder x2
      have h3 : Sound z x2 := State.updRun_sound k0
      try clear_value x2
      extract_lets +onlyGivenNames -merge -underBinder x4 x5
      try clear_value x5
      refine Sound.ite (fun _ => ?_) (fun _ => ?_)
      · exact h3
      · exact State.stepLost_sound h3

theorem State.fenceCl_sound {z s0 v1} (k0 : Sound z s0) : Sound z (State.fenceCl s0 v1) := by
  unfold State.fenceCl
  refine Sound.ite (fun _ => ?_) (fun _ => ?_)
  · exact k0
  · extract_lets +onlyGivenNames x0
    have h1 : Sound z x0 := State.fenceMap_sound (Sound.same k0 rfl rfl rfl rfl rfl)
    try clear_value x0
    exact State.workLost_sound (State.reqReset_sound h1)

theorem State.fenceDie_sound {z s0 v1} (k0 : Sound z s0) : Sound z (State.fenceDie s0 v1) := by
  unfold State.fenceDie
  refine Sound.ite (fun _ => ?_) (fun _ => ?_)
  · exact k0
  · extract_lets +onlyGivenNames x0
    have h1 : Sound z x0 := Sound.same k0 rfl rfl rfl rfl rfl
    try clear_value x0
    extract_lets +onlyGivenNames x2
    try clear_value x2
    extract_lets +onlyGivenNames x3
    have h5 : Sound z x3 := by
      unfold x3
      refine Sound.foldl _ (fun q y h4 => ?_) _ ?_
      · exact State.workLost_sound h4
      · exact h1
    try clear_value x3
    extract_lets +onlyGivenNames x6
    have h8 : Sound z x6 := by
      unfold x6
      refine Sound.foldl _ (fun q y h7 => ?_) _ ?_
      · exact State.reqReset_sound h7
      · exact h5
    try clear_value x6
    extract_lets +onlyGivenNames x9
    have h11 : Sound z x9 := by
      unfold x9
      refine Sound.foldl _ (fun q y h10 => ?_) _ ?_
      · refine Sound.ite (fun _ => ?_) (fun _ => ?_)
        · exact State.fenceMap_sound h10
        · exact h10
      · exact h8
    try clear_value x9
    refine Sound.foldl _ (fun q y h12 => ?_) _ ?_
    · exact State.abortCtx_sound h12
    · exact h11

theorem State.fence_sound {z s0 v1} (k0 : Sound z s0) : Sound z (State.fence s0 v1) := by
  unfold State.fence
  split
  · exact State.fenceCl_sound k0
  · refine Sound.foldl _ (fun q y h0 => ?_) _ ?_
    · exact State.fenceCl_sound h0
    · exact k0
  · exact State.fenceDie_sound k0
  · refine Sound.ite (fun _ => ?_) (fun _ => ?_)
    · exact k0
    · extract_lets +onlyGivenNames x1
      have h2 : Sound z x1 := doReceiverEnable_sound k0
      try clear_value x1
      exact Sound.same h2 rfl rfl rfl rfl rfl
  · refine Sound.ite (fun _ => ?_) (fun _ => ?_)
    · exact k0
    · extract_lets +onlyGivenNames x3
      have h4 : Sound z x3 := doReceiverEnable_sound k0
      try clear_value x3
      exact Sound.same h4 rfl rfl rfl rfl rfl
  · refine Sound.ite (fun _ => ?_) (fun _ => ?_)
    · exact k0
    · exact doByp_sound k0

theorem State.resetRegion_sound {z s0 v1} (k0 : Sound z s0) : Sound z (State.resetRegion s0 v1) := by
  unfold State.resetRegion
  extract_lets +onlyGivenNames x0
  try clear_value x0
  extract_lets +onlyGivenNames x1
  have h2 : Sound z x1 := by
    unfold x1
    refine Sound.ite (fun _ => ?_) (fun _ => ?_)
    · exact k0
    · exact State.setBusy_sound (State.bumpGen_sound k0)
  try clear_value x1
  extract_lets +onlyGivenNames x3
  have h5 : Sound z x3 := by
    unfold x3
    refine Sound.foldl _ (fun q y h4 => ?_) _ ?_
    · exact State.reqReset_sound h4
    · exact h2
  try clear_value x3
  extract_lets +onlyGivenNames x6
  have h7 : Sound z x6 := Sound.same h5 rfl rfl rfl rfl rfl
  try clear_value x6
  extract_lets +onlyGivenNames x8
  have h10 : Sound z x8 := by
    unfold x8
    refine Sound.foldl _ (fun q y h9 => ?_) _ ?_
    · exact State.runReset_sound h9
    · exact h7
  try clear_value x8
  exact State.setBusy_sound (Sound.same h10 rfl rfl rfl rfl rfl)

theorem State.dieRegs_sound {z s0 v1} (k0 : Sound z s0) : Sound z (State.dieRegs s0 v1) := by
  unfold State.dieRegs
  extract_lets +onlyGivenNames x0
  try clear_value x0
  exact Sound.same k0 rfl rfl rfl rfl rfl

theorem State.resetDie_sound {z s0 v1} (k0 : Sound z s0) : Sound z (State.resetDie s0 v1) := by
  unfold State.resetDie
  extract_lets +onlyGivenNames -merge x0 x1
  try clear_value x0 x1
  extract_lets +onlyGivenNames x2
  have h3 : Sound z x2 := by
    unfold x2
    refine Sound.ite (fun _ => ?_) (fun _ => ?_)
    · exact k0
    · exact State.setBusy_sound (State.bumpGen_sound k0)
  try clear_value x2
  extract_lets +onlyGivenNames x4
  have h6 : Sound z x4 := by
    unfold x4
    refine Sound.foldl _ (fun q y h5 => ?_) _ ?_
    · exact State.workLost_sound h5
    · exact h3
  try clear_value x4
  extract_lets +onlyGivenNames x7
  have h9 : Sound z x7 := by
    unfold x7
    refine Sound.foldl _ (fun q y h8 => ?_) _ ?_
    · exact State.reqReset_sound h8
    · exact h6
  try clear_value x7
  extract_lets +onlyGivenNames x10
  have h12 : Sound z x10 := by
    unfold x10
    refine Sound.foldl _ (fun q y h11 => ?_) _ ?_
    · refine Sound.ite (fun _ => ?_) (fun _ => ?_)
      · exact h11
      · exact State.bumpGen_sound h11
    · exact h9
  try clear_value x10
  extract_lets +onlyGivenNames x13
  have h15 : Sound z x13 := by
    unfold x13
    refine Sound.foldl _ (fun q y h14 => ?_) _ ?_
    · exact State.setBusy_sound h14
    · exact h12
  try clear_value x13
  extract_lets +onlyGivenNames x16
  have h18 : Sound z x16 := by
    unfold x16
    refine Sound.foldl _ (fun q y h17 => ?_) _ ?_
    · exact State.runReset_sound h17
    · exact h15
  try clear_value x16
  exact State.setBusy_sound (State.dieRegs_sound h18)

theorem State.resetHub_sound {z s0 v1} (k0 : Sound z s0) : Sound z (State.resetHub s0 v1) := by
  unfold State.resetHub
  refine Sound.ite (fun _ => ?_) (fun _ => ?_)
  · exact k0
  · extract_lets +onlyGivenNames x0
    have h1 : Sound z x0 := State.bumpGen_sound k0
    try clear_value x0
    refine Sound.ite (fun _ => ?_) (fun _ => ?_)
    · extract_lets +onlyGivenNames x2
      try clear_value x2
      extract_lets +onlyGivenNames -merge -underBinder x3 x4
      have h5 : Sound z x4 := Sound.same h1 rfl rfl rfl rfl rfl
      try clear_value x4
      refine Sound.foldl _ (fun q y h6 => ?_) _ ?_
      · exact State.abortCtx_sound h6
      · exact h5
    · refine Sound.ite (fun _ => ?_) (fun _ => ?_)
      · extract_lets +onlyGivenNames x7
        try clear_value x7
        refine Sound.foldl _ (fun q y h8 => ?_) _ ?_
        · exact State.abortCtx_sound h8
        · exact h1
      · refine Sound.ite (fun _ => ?_) (fun _ => ?_)
        · exact Sound.same h1 rfl rfl rfl rfl rfl
        · refine Sound.ite (fun _ => ?_) (fun _ => ?_)
          · exact State.setFbDown_sound (Sound.same h1 rfl rfl rfl rfl rfl)
          · exact h1

theorem doResetEscalation_sound {z v0 s1} (k1 : Sound z s1) : Sound z (doResetEscalation v0 s1) := by
  unfold doResetEscalation
  refine Sound.ite (fun _ => ?_) (fun _ => ?_)
  · exact k1
  · refine Sound.ite (fun _ => ?_) (fun _ => ?_)
    · extract_lets +onlyGivenNames x0
      try clear_value x0
      extract_lets +onlyGivenNames x1
      have h2 : Sound z x1 := by
        unfold x1
        refine Sound.ite (fun _ => ?_) (fun _ => ?_)
        · exact k1
        · exact State.setBusy_sound (State.bumpGen_sound k1)
      try clear_value x1
      refine Sound.foldl _ (fun q y h3 => ?_) _ ?_
      · exact State.reqReset_sound h3
      · exact h2
    · refine Sound.ite (fun _ => ?_) (fun _ => ?_)
      · extract_lets +onlyGivenNames -merge x4 x5
        try clear_value x4 x5
        extract_lets +onlyGivenNames x6
        have h7 : Sound z x6 := by
          unfold x6
          refine Sound.ite (fun _ => ?_) (fun _ => ?_)
          · exact k1
          · exact State.setBusy_sound (State.bumpGen_sound k1)
        try clear_value x6
        refine Sound.foldl _ (fun q y h8 => ?_) _ ?_
        · exact State.reqReset_sound h8
        · exact h7
      · refine Sound.ite (fun _ => ?_) (fun _ => ?_)
        · extract_lets +onlyGivenNames x9
          have h10 : Sound z x9 := State.fenceDie_sound (State.setBusy_sound k1)
          try clear_value x9
          extract_lets +onlyGivenNames x11
          have h12 : Sound z x11 := State.send_sound h10
          try clear_value x11
          exact Sound.same h12 rfl rfl rfl rfl rfl
        · exact State.sendSev_sound (State.setBusy_sound k1)

theorem State.pkgKept_sound {z s v1} (k : Sound z s) : Sound z (State.pkgKept s v1) :=
  ⟨k.queue, k.clock, k.fresh, fun h => memory_wf_filter (k.memory h) _, fun _ => rfl⟩

theorem State.pkgBegin_sound {z s0 v1} (k0 : Sound z s0) : Sound z (State.pkgBegin s0 v1) := by
  unfold State.pkgBegin
  exact State.setFld_sound (State.pkgKept_sound k0)

theorem State.markHalted_sound {z s0} (k0 : Sound z s0) : Sound z (State.markHalted s0) := by
  unfold State.markHalted
  exact State.setFld_sound (Sound.same k0 rfl rfl rfl rfl rfl)

theorem State.haltPkg_sound {z s0} (k0 : Sound z s0) : Sound z (State.haltPkg s0) := by
  unfold State.haltPkg
  refine Sound.ite (fun _ => ?_) (fun _ => ?_)
  · exact k0
  · extract_lets +onlyGivenNames x0
    try clear_value x0
    extract_lets +onlyGivenNames x1
    have h2 : Sound z x1 := State.enterSafe_sound k0
    try clear_value x1
    extract_lets +onlyGivenNames x3
    have h5 : Sound z x3 := by
      unfold x3
      refine Sound.foldl _ (fun q y h4 => ?_) _ ?_
      · refine Sound.ite (fun _ => ?_) (fun _ => ?_)
        · exact State.halt_sound (State.updSeq_sound h4)
        · exact h4
      · exact h2
    try clear_value x3
    extract_lets +onlyGivenNames x6
    have h8 : Sound z x6 := by
      unfold x6
      refine Sound.foldl _ (fun q y h7 => ?_) _ ?_
      · exact State.jobQuiet_sound h7
      · exact h5
    try clear_value x6
    extract_lets +onlyGivenNames -merge -underBinder x9
    have h13 : Sound z x9 := by
      unfold x9
      refine Sound.foldl _ (fun q y h10 => ?_) _ ?_
      · extract_lets +onlyGivenNames x11
        have h12 : Sound z x11 := State.discardAll_sound h10
        try clear_value x11
        exact State.settle_sound (Sound.same h12 rfl rfl rfl rfl rfl)
      · exact h8
    try clear_value x9
    extract_lets +onlyGivenNames x14
    have h15 : Sound z x14 := State.markHalted_sound (State.capturePkg_sound h13)
    try clear_value x14
    refine Sound.ite (fun _ => ?_) (fun _ => ?_)
    · exact State.pkgBegin_sound h15
    · exact h15

theorem State.readyRelief_sound {z s0 v1} (k0 : Sound z s0) : Sound z (State.readyRelief s0 v1) := by
  unfold State.readyRelief
  extract_lets +onlyGivenNames -merge -underBinder x0 x1
  have h2 : Sound z x1 := Sound.same k0 rfl rfl rfl rfl rfl
  try clear_value x1
  extract_lets +onlyGivenNames x3
  have h5 : Sound z x3 := by
    unfold x3
    refine Sound.foldl _ (fun q y h4 => ?_) _ ?_
    · refine Sound.ite (fun _ => ?_) (fun _ => ?_)
      · exact State.setFld_sound h4
      · exact h4
    · exact h2
  try clear_value x3
  exact State.resetCluster_sound h5

theorem doReExecution_sound {z v0 v1 v2 s3} (k3 : Sound z s3) : Sound z (doReExecution v0 v1 v2 s3) := by
  unfold doReExecution
  split
  · exact k3
  · split
    · split
      · exact State.stepLost_sound k3
      · extract_lets +onlyGivenNames x0
        try clear_value x0
        extract_lets +onlyGivenNames x1
        have h2 : Sound z x1 := State.readyRelief_sound k3
        try clear_value x1
        extract_lets +onlyGivenNames -merge -underBinder x3
        have h4 : Sound z x3 := State.updRun_sound h2
        try clear_value x3
        extract_lets +onlyGivenNames x5
        have h6 : Sound z x5 := Sound.same h4 rfl rfl rfl rfl rfl
        try clear_value x5
        exact State.startSections_sound h6
    · split
      · exact k3
      · refine Sound.ite (fun _ => ?_) (fun _ => ?_)
        · exact k3
        · split
          · exact k3
          · refine Sound.ite (fun _ => ?_) (fun _ => ?_)
            · exact k3
            · extract_lets +onlyGivenNames -merge x7 x8
              try clear_value x7 x8
              extract_lets +onlyGivenNames x9
              have h10 : Sound z x9 := State.updRun_sound k3
              try clear_value x9
              refine Sound.foldl _ (fun q y h11 => ?_) _ ?_
              · exact State.startSections_sound h11
              · exact h10

/-! ### Fault -/

theorem State.logAdd_sound {z s0 v1} (k0 : Sound z s0) : Sound z (State.logAdd s0 v1) := by
  unfold State.logAdd
  extract_lets +onlyGivenNames -merge x0 x1
  try clear_value x0 x1
  extract_lets +onlyGivenNames -merge -underBinder x2 x3
  have h4 : Sound z x3 := Sound.same k0 rfl rfl rfl rfl rfl
  try clear_value x3
  exact State.setFld_sound (State.setReg_sound h4)

theorem State.fcShow_sound {z s0} (k0 : Sound z s0) : Sound z (State.fcShow s0) := by
  unfold State.fcShow
  extract_lets +onlyGivenNames -merge x0 x1 x2
  try clear_value x0 x1 x2
  exact State.setFld_sound (State.setFld_sound (State.setFld_sound k0))

theorem State.report_sound {z s0 v1 v2 v3} (k0 : Sound z s0) : Sound z (State.report s0 v1 v2 v3) := by
  unfold State.report
  refine Sound.ite (fun _ => ?_) (fun _ => ?_)
  · exact k0
  · refine Sound.ite (fun _ => ?_) (fun _ => ?_)
    · exact State.bump_sound k0
    · extract_lets +onlyGivenNames -merge x0 x1 x2
      try clear_value x0 x1 x2
      exact Sound.same k0 rfl rfl rfl rfl rfl

theorem State.fcIrq_sound {z s0 v1} (k0 : Sound z s0) : Sound z (State.fcIrq s0 v1) := by
  unfold State.fcIrq
  refine Sound.ite (fun _ => ?_) (fun _ => ?_)
  · exact State.trigger_sound k0
  · exact k0

theorem State.recEvent_sound {z s0 v1 v2 v3} (k0 : Sound z s0) : Sound z (State.recEvent s0 v1 v2 v3) := by
  unfold State.recEvent
  extract_lets +onlyGivenNames x0
  try clear_value x0
  extract_lets +onlyGivenNames -merge -underBinder x1 x2
  have h3 : Sound z x2 := State.logAdd_sound (Sound.same k0 rfl rfl rfl rfl rfl)
  try clear_value x2
  exact State.fcShow_sound (State.report_sound h3)

theorem State.closeIf_sound {z s0 v1 v2} (k0 : Sound z s0) : Sound z (State.closeIf s0 v1 v2) := by
  unfold State.closeIf
  refine Sound.ite (fun _ => ?_) (fun _ => ?_)
  · exact State.recEvent_sound k0
  · exact k0

theorem State.histNote_sound {z s0 v1} (k0 : Sound z s0) : Sound z (State.histNote s0 v1) := by
  unfold State.histNote
  extract_lets +onlyGivenNames -merge x0 x1
  try clear_value x0 x1
  exact Sound.same k0 rfl rfl rfl rfl rfl

theorem doHistoryWrite_sound {z s0} (k0 : Sound z s0) : Sound z (doHistoryWrite s0) := by
  unfold doHistoryWrite
  split
  · exact k0
  · refine Sound.ite (fun _ => ?_) (fun _ => ?_)
    · exact Sound.same k0 rfl rfl rfl rfl rfl
    · refine Sound.ite (fun _ => ?_) (fun _ => ?_)
      · exact Sound.same k0 rfl rfl rfl rfl rfl
      · exact k0

theorem doOperatingHours_sound {z s0} (k0 : Sound z s0) : Sound z (doOperatingHours s0) := by
  unfold doOperatingHours
  refine Sound.ite (fun _ => ?_) (fun _ => ?_)
  · exact k0
  · extract_lets +onlyGivenNames x0
    try clear_value x0
    extract_lets +onlyGivenNames x1
    have h2 : Sound z x1 := State.setReg_sound k0
    try clear_value x1
    exact Sound.same h2 rfl rfl rfl rfl rfl

theorem State.spoil_sound {z s0 v1 v2} (k0 : Sound z s0) : Sound z (State.spoil s0 v1 v2) := by
  unfold State.spoil
  extract_lets +onlyGivenNames -merge x0 x1
  try clear_value x0 x1
  exact Sound.same k0 rfl rfl rfl rfl rfl

theorem State.jobAbort_sound {z s0 v1 v2 v3 v4} (k0 : Sound z s0) : Sound z (State.jobAbort s0 v1 v2 v3 v4) := by
  unfold State.jobAbort
  refine Sound.ite (fun _ => ?_) (fun _ => ?_)
  · exact k0
  · extract_lets +onlyGivenNames x0
    try clear_value x0
    extract_lets +onlyGivenNames x1
    have h2 : Sound z x1 := by
      unfold x1
      split
      · exact k0
      · exact State.send_sound k0
    try clear_value x1
    exact State.abortCtx_sound (State.jobQuiet_sound h2)

theorem State.checksFail_sound {z s0 v1 v2} (k0 : Sound z s0) : Sound z (State.checksFail s0 v1 v2) := by
  unfold State.checksFail
  refine Sound.ite (fun _ => ?_) (fun _ => ?_)
  · exact k0
  · split
    · next y0 y1 e =>
      have h2 : Sound z y1 := by
        refine Sound2.of e ?_
        exact State.retractOwn_sound k0
      refine Sound.ite (fun _ => ?_) (fun _ => ?_)
      · exact h2
      · exact State.jobAbort_sound k0

theorem State.spoilJobs_sound {z s0 v1} (k0 : Sound z s0) : Sound z (State.spoilJobs s0 v1) := by
  unfold State.spoilJobs
  extract_lets +onlyGivenNames x0
  try clear_value x0
  refine Sound.ite (fun _ => ?_) (fun _ => ?_)
  · exact k0
  · refine Sound.foldl _ (fun q y h1 => ?_) _ ?_
    · refine Sound.ite (fun _ => ?_) (fun _ => ?_)
      · exact h1
      · split
        · exact h1
        · extract_lets +onlyGivenNames x2
          try clear_value x2
          refine Sound.ite (fun _ => ?_) (fun _ => ?_)
          · exact State.checksFail_sound h1
          · exact h1
    · exact k0

theorem State.safetyRequest_sound {z s0 v1 v2} (k0 : Sound z s0) : Sound z (State.safetyRequest s0 v1 v2) := by
  unfold State.safetyRequest
  refine Sound.ite (fun _ => ?_) (fun _ => ?_)
  · exact State.coverUnits_sound k0
  · refine Sound.ite (fun _ => ?_) (fun _ => ?_)
    · exact k0
    · refine Sound.ite (fun _ => ?_) (fun _ => ?_)
      · exact k0
      · exact State.enterSafe_sound k0

theorem State.act_sound {z s0 v1 v2 v3 v4 v5} (k0 : Sound z s0) : Sound3 z (State.act s0 v1 v2 v3 v4 v5) := by
  unfold State.act
  extract_lets +onlyGivenNames -merge -underBinder x0 x1
  have h2 : Sound z x1 := Sound.same k0 rfl rfl rfl rfl rfl
  try clear_value x1
  refine Sound3.ite (fun _ => ?_) (fun _ => ?_)
  · split
    · refine Sound3.mk ?_
      exact h2
    · refine Sound3.mk ?_
      exact State.fence_sound h2
  · refine Sound3.ite (fun _ => ?_) (fun _ => ?_)
    · refine Sound3.mk ?_
      refine Sound.foldl _ (fun q y h3 => ?_) _ ?_
      · exact State.abortCtx_sound h3
      · exact h2
    · refine Sound3.ite (fun _ => ?_) (fun _ => ?_)
      · split
        · refine Sound3.mk ?_
          exact State.safetyRequest_sound h2
        · refine Sound3.mk ?_
          exact State.fence_sound (State.safetyRequest_sound h2)
      · refine Sound3.ite (fun _ => ?_) (fun _ => ?_)
        · refine Sound3.mk ?_
          exact State.haltPkg_sound h2
        · refine Sound3.mk ?_
          exact h2

theorem State.kindAct_sound {z s0 v1 v2} (k0 : Sound z s0) : Sound z (State.kindAct s0 v1 v2) := by
  unfold State.kindAct
  refine Sound.ite (fun _ => ?_) (fun _ => ?_)
  · split
    · refine Sound.foldl _ (fun q y h0 => ?_) _ ?_
      · exact State.fence_sound h0
      · exact k0
    · exact doHostLoss_sound k0
    · exact k0
  · exact k0

theorem State.reached2_sound {z s0 v1} (k0 : Sound z s0) : Sound z (State.reached2 s0 v1) := by
  unfold State.reached2
  exact State.spoilJobs_sound (State.spoil_sound (State.histNote_sound k0))

theorem State.openIn_sound {z s0 v1 v2} (k0 : Sound z s0) : Sound z (State.openIn s0 v1 v2) := by
  unfold State.openIn
  extract_lets +onlyGivenNames x0
  have h1 : Sound z x0 := State.recEvent_sound k0
  try clear_value x0
  extract_lets +onlyGivenNames x2
  have h3 : Sound z x2 := by
    unfold x2
    refine State.fcIrq_sound ?_
    refine Sound.ite (fun _ => ?_) (fun _ => ?_)
    · exact State.reached2_sound h1
    · exact h1
  try clear_value x2
  extract_lets +onlyGivenNames x4
  have h5 : Sound z x4 := State.kindAct_sound h3
  try clear_value x4
  split
  · next y6 y7 y8 e =>
    have h9 : Sound z y8 := by
      refine Sound3.of e ?_
      exact State.act_sound h5
    split
    · exact h9
    · exact Sound.same h9 rfl rfl rfl rfl rfl

theorem State.openRecord_sound {z s0 v1} (k0 : Sound z s0) : Sound z (State.openRecord s0 v1) := by
  unfold State.openRecord
  split
  · exact State.openIn_sound k0
  · split
    · extract_lets +onlyGivenNames x0
      have h1 : Sound z x0 := State.recEvent_sound k0
      try clear_value x0
      exact State.openIn_sound h1
    · extract_lets +onlyGivenNames x2
      have h3 : Sound z x2 := State.sendEv_sound (State.setFld_sound (State.logAdd_sound k0))
      try clear_value x2
      extract_lets +onlyGivenNames x4
      have h5 : Sound z x4 := by
        unfold x4
        refine Sound.ite (fun _ => ?_) (fun _ => ?_)
        · exact State.reached2_sound h3
        · exact h3
      try clear_value x4
      refine Sound3.snd ?_
      exact State.act_sound (State.kindAct_sound h5)

theorem State.escalate_sound {z s0 v1 v2} (k0 : Sound z s0) : Sound z (State.escalate s0 v1 v2) := by
  unfold State.escalate
  extract_lets +onlyGivenNames -merge x0 x1
  try clear_value x0 x1
  extract_lets +onlyGivenNames x2
  have h3 : Sound z x2 := State.recEvent_sound k0
  try clear_value x2
  extract_lets +onlyGivenNames x4
  have h5 : Sound z x4 := by
    unfold x4
    refine State.fcIrq_sound ?_
    refine Sound.ite (fun _ => ?_) (fun _ => ?_)
    · exact State.reached2_sound h3
    · exact h3
  try clear_value x4
  split
  · next y6 y7 y8 e =>
    have h9 : Sound z y8 := by
      refine Sound3.of e ?_
      exact State.act_sound h5
    split
    · exact h9
    · exact Sound.same h9 rfl rfl rfl rfl rfl

theorem State.repeatRec_sound {z s0 v1 v2} (k0 : Sound z s0) : Sound z (State.repeatRec s0 v1 v2) := by
  unfold State.repeatRec
  extract_lets +onlyGivenNames -merge x0 x1
  try clear_value x0 x1
  refine Sound.ite (fun _ => ?_) (fun _ => ?_)
  · exact State.recEvent_sound k0
  · extract_lets +onlyGivenNames x2
    have h3 : Sound z x2 := State.recEvent_sound k0
    try clear_value x2
    refine Sound.ite (fun _ => ?_) (fun _ => ?_)
    · exact h3
    · exact State.escalate_sound h3

theorem State.goneRec_sound {z s0 v1 v2} (k0 : Sound z s0) : Sound z (State.goneRec s0 v1 v2) := by
  unfold State.goneRec
  extract_lets +onlyGivenNames x0
  try clear_value x0
  exact State.closeIf_sound (State.fcIrq_sound (State.recEvent_sound k0))

theorem State.process_sound {z s0 v1} (k0 : Sound z s0) : Sound z (State.process s0 v1) := by
  unfold State.process
  extract_lets +onlyGivenNames -merge x0 x1 x2
  try clear_value x0 x1 x2
  refine Sound.ite (fun _ => ?_) (fun _ => ?_)
  · exact State.bump_sound k0
  · extract_lets +onlyGivenNames x3
    try clear_value x3
    extract_lets +onlyGivenNames x4
    have h5 : Sound z x4 := by
      unfold x4
      refine Sound.ite (fun _ => ?_) (fun _ => ?_)
      · exact k0
      · exact State.sendEv_sound k0
    try clear_value x4
    extract_lets +onlyGivenNames -merge -underBinder x6 x7
    have h8 : Sound z x7 := Sound.same h5 rfl rfl rfl rfl rfl
    try clear_value x7
    refine Sound.ite (fun _ => ?_) (fun _ => ?_)
    · exact h8
    · extract_lets +onlyGivenNames -merge x9 x10
      try clear_value x9 x10
      split
      · refine Sound.ite (fun _ => ?_) (fun _ => ?_)
        · exact State.repeatRec_sound h8
        · refine Sound.ite (fun _ => ?_) (fun _ => ?_)
          · exact State.goneRec_sound h8
          · exact State.logAdd_sound h8
      · extract_lets +onlyGivenNames x11
        try clear_value x11
        refine Sound.ite (fun _ => ?_) (fun _ => ?_)
        · exact State.openRecord_sound h8
        · exact State.logAdd_sound h8

theorem doFaultMessage_sound {z v0 v1 v2 s3} (k3 : Sound z s3) : Sound z (doFaultMessage v0 v1 v2 s3) := by
  unfold doFaultMessage
  split
  · extract_lets +onlyGivenNames -merge x0 x1
    try clear_value x0 x1
    extract_lets +onlyGivenNames x2
    have h3 : Sound z x2 := Sound.same k3 rfl rfl rfl rfl rfl
    try clear_value x2
    refine Sound.ite (fun _ => ?_) (fun _ => ?_)
    · exact State.process_sound h3
    · exact h3
  · split
    · exact k3
    · extract_lets +onlyGivenNames x4
      have h5 : Sound z x4 := Sound.same k3 rfl rfl rfl rfl rfl
      try clear_value x4
      refine Sound.ite (fun _ => ?_) (fun _ => ?_)
      · exact State.process_sound h5
      · exact h5

theorem doKeepAlive_sound {z v0 s1} (k1 : Sound z s1) : Sound z (doKeepAlive v0 s1) := by
  unfold doKeepAlive
  refine Sound.ite (fun _ => ?_) (fun _ => ?_)
  · exact k1
  · extract_lets +onlyGivenNames x0
    try clear_value x0
    extract_lets +onlyGivenNames x1
    have h2 : Sound z x1 := State.send_sound k1
    try clear_value x1
    refine Sound.ite (fun _ => ?_) (fun _ => ?_)
    · exact doFaultMessage_sound h2
    · exact h2

theorem State.ackRec_sound {z s0 v1 v2} (k0 : Sound z s0) : Sound2 z (State.ackRec s0 v1 v2) := by
  unfold State.ackRec
  split
  · refine Sound2.mk ?_
    exact State.bump_sound k0
  · refine Sound2.ite (fun _ => ?_) (fun _ => ?_)
    · refine Sound2.mk ?_
      exact State.bump_sound k0
    · refine Sound2.ite (fun _ => ?_) (fun _ => ?_)
      · refine Sound2.mk ?_
        exact k0
      · extract_lets +onlyGivenNames x0
        try clear_value x0
        refine Sound2.mk ?_
        exact State.closeIf_sound (State.recEvent_sound k0)

theorem doFcAck_sound {z v0 s1} (k1 : Sound z s1) : Sound z (doFcAck v0 s1) := by
  unfold doFcAck
  refine Sound2.snd ?_
  exact State.ackRec_sound k1

theorem doAckDeadline_sound {z v0 s1} (k1 : Sound z s1) : Sound z (doAckDeadline v0 s1) := by
  unfold doAckDeadline
  split
  · exact k1
  · refine Sound.ite (fun _ => ?_) (fun _ => ?_)
    · exact k1
    · exact State.escalate_sound k1

theorem State.fcConfig_sound {z s0} (k0 : Sound z s0) : Sound z (State.fcConfig s0) := by
  unfold State.fcConfig
  exact State.sendEv_sound k0

theorem doFenceCmd_sound {z v0 s1} (k1 : Sound z s1) : Sound z (doFenceCmd v0 s1) := by
  unfold doFenceCmd
  split
  · exact State.fcConfig_sound (State.bump_sound k1)
  · exact State.fence_sound (Sound.same k1 rfl rfl rfl rfl rfl)

theorem State.returnCl_sound {z s0 v1 v2} (k0 : Sound z s0) : Sound z (State.returnCl s0 v1 v2) := by
  unfold State.returnCl
  refine Sound.ite (fun _ => ?_) (fun _ => ?_)
  · exact k0
  · extract_lets +onlyGivenNames x0
    have h1 : Sound z x0 := State.resetCluster_sound k0
    try clear_value x0
    refine Sound.ite (fun _ => ?_) (fun _ => ?_)
    · extract_lets +onlyGivenNames -merge -underBinder x2 x3
      have h4 : Sound z x3 := Sound.same h1 rfl rfl rfl rfl rfl
      try clear_value x3
      exact State.resetCluster_sound (State.returnMap_sound h4)
    · extract_lets +onlyGivenNames x5
      try clear_value x5
      extract_lets +onlyGivenNames x6
      have h7 : Sound z x6 := State.send_sound h1
      try clear_value x6
      exact Sound.same h7 rfl rfl rfl rfl rfl

theorem doReturnToService_sound {z v0 v1 s2} (k2 : Sound z s2) : Sound z (doReturnToService v0 v1 s2) := by
  unfold doReturnToService
  split
  · exact State.fcConfig_sound (State.bump_sound k2)
  · refine Sound.ite (fun _ => ?_) (fun _ => ?_)
    · exact State.fcConfig_sound (State.bump_sound k2)
    · extract_lets +onlyGivenNames x0
      try clear_value x0
      split
      · exact State.returnCl_sound k2
      · refine Sound.foldl _ (fun q y h1 => ?_) _ ?_
        · exact State.returnCl_sound h1
        · exact State.resetRegion_sound k2
      · refine Sound.ite (fun _ => ?_) (fun _ => ?_)
        · exact k2
        · extract_lets +onlyGivenNames x2
          have h3 : Sound z x2 := State.resetDie_sound k2
          try clear_value x2
          split
          · refine Sound.foldl _ (fun q y h4 => ?_) _ ?_
            · exact State.resetCluster_sound h4
            · exact Sound.same h3 rfl rfl rfl rfl rfl
          · extract_lets +onlyGivenNames x5
            try clear_value x5
            extract_lets +onlyGivenNames x6
            have h7 : Sound z x6 := State.send_sound h3
            try clear_value x6
            exact Sound.same h7 rfl rfl rfl rfl rfl
      · exact Sound.same k2 rfl rfl rfl rfl rfl
      · exact Sound.same k2 rfl rfl rfl rfl rfl
      · exact doByp_sound k2

theorem doFcSev_sound {z v0 v1 s2} (k2 : Sound z s2) : Sound z (doFcSev v0 v1 s2) := by
  unfold doFcSev
  refine Sound.ite (fun _ => ?_) (fun _ => ?_)
  · exact k2
  · extract_lets +onlyGivenNames x0
    try clear_value x0
    extract_lets +onlyGivenNames -merge -underBinder x1
    try clear_value x1
    refine Sound.ite (fun _ => ?_) (fun _ => ?_)
    · exact State.fcConfig_sound k2
    · exact State.setReg_sound k2

theorem doPinthWrite_sound {z v0 s1} (k1 : Sound z s1) : Sound z (doPinthWrite v0 s1) := by
  unfold doPinthWrite
  exact State.fcShow_sound (State.setReg_sound k1)

theorem doTowpathReport_sound {z s0} (k0 : Sound z s0) : Sound z (doTowpathReport s0) := by
  unfold doTowpathReport
  split
  · exact k0
  · refine Sound.ite (fun _ => ?_) (fun _ => ?_)
    · exact k0
    · exact Sound.same k0 rfl rfl rfl rfl rfl

/-! ### ViaductOps -/

theorem State.gotAbort_sound {z s0 v1} (k0 : Sound z s0) : Sound z (State.gotAbort s0 v1) := by
  unfold State.gotAbort
  split
  · split
    · exact k0
    · exact State.jStale_sound k0
  · exact State.jobAbort_sound k0

theorem State.gotWnak_sound {z s0 v1} (k0 : Sound z s0) : Sound z (State.gotWnak s0 v1) := by
  unfold State.gotWnak
  split
  · split
    · exact State.jStale_sound k0
    · exact k0
  · refine Sound.ite (fun _ => ?_) (fun _ => ?_)
    · extract_lets +onlyGivenNames x0
      try clear_value x0
      exact Sound.same k0 rfl rfl rfl rfl rfl
    · refine Sound.ite (fun _ => ?_) (fun _ => ?_)
      · exact State.jobAbort_sound k0
      · refine Sound.ite (fun _ => ?_) (fun _ => ?_)
        · exact State.jobAbort_sound k0
        · exact k0

theorem State.gotPacket_sound {z s0 v1} (k0 : Sound z s0) : Sound z (State.gotPacket s0 v1) := by
  unfold State.gotPacket
  refine Sound.ite (fun _ => ?_) (fun _ => ?_)
  · exact State.gotWrite_sound k0
  · refine Sound.ite (fun _ => ?_) (fun _ => ?_)
    · exact State.gotWack_sound k0
    · refine Sound.ite (fun _ => ?_) (fun _ => ?_)
      · exact State.gotWnak_sound k0
      · refine Sound.ite (fun _ => ?_) (fun _ => ?_)
        · exact State.gotConfirm_sound k0
        · refine Sound.ite (fun _ => ?_) (fun _ => ?_)
          · exact State.gotRetract_sound k0
          · exact State.gotAbort_sound k0

theorem State.gotAny_sound {z s0 v1 v2} (k0 : Sound z s0) : Sound z (State.gotAny s0 v1 v2) := by
  unfold State.gotAny
  refine Sound.ite (fun _ => ?_) (fun _ => ?_)
  · exact State.vdProto_sound k0
  · refine Sound.ite (fun _ => ?_) (fun _ => ?_)
    · exact State.gotPacket_sound k0
    · exact State.inject_sound k0

theorem State.arrive_sound {z s0 v1 v2} (k0 : Sound z s0) : Sound z (State.arrive s0 v1 v2) := by
  unfold State.arrive
  refine Sound.ite (fun _ => ?_) (fun _ => ?_)
  · exact State.vdProto_sound k0
  · refine Sound.ite (fun _ => ?_) (fun _ => ?_)
    · exact State.gotPacket_sound k0
    · exact k0

theorem doWritePacket_sound {z v0 s1} (k1 : Sound z s1) : Sound z (doWritePacket v0 s1) := by
  unfold doWritePacket
  exact State.arrive_sound k1

theorem doWack_sound {z v0 s1} (k1 : Sound z s1) : Sound z (doWack v0 s1) := by
  unfold doWack
  exact State.arrive_sound k1

theorem doWnak_sound {z v0 s1} (k1 : Sound z s1) : Sound z (doWnak v0 s1) := by
  unfold doWnak
  exact State.arrive_sound k1

theorem doConfirm_sound {z v0 s1} (k1 : Sound z s1) : Sound z (doConfirm v0 s1) := by
  unfold doConfirm
  exact State.arrive_sound k1

theorem doAbortMessage_sound {z v0 s1} (k1 : Sound z s1) : Sound z (doAbortMessage v0 s1) := by
  unfold doAbortMessage
  exact State.arrive_sound k1

theorem State.takeFlit_sound {z s0 v1 v2} (k0 : Sound z s0) : Sound z (State.takeFlit s0 v1 v2) := by
  unfold State.takeFlit
  extract_lets +onlyGivenNames -merge x0 x1 x2 x3 x4
  try clear_value x0 x1 x2 x3 x4
  refine Sound.ite (fun _ => ?_) (fun _ => ?_)
  · extract_lets +onlyGivenNames -merge x5 x6
    try clear_value x5 x6
    exact State.gotAny_sound (State.setVp_sound k0)
  · exact State.setVp_sound k0

theorem doFlitReceive_sound {z v0 v1 v2 s3} (k3 : Sound z s3) : Sound z (doFlitReceive v0 v1 v2 s3) := by
  unfold doFlitReceive
  refine Sound.ite (fun _ => ?_) (fun _ => ?_)
  · exact k3
  · extract_lets +onlyGivenNames x0
    have h1 : Sound z x0 := by
      unfold x0
      refine Sound.ite (fun _ => ?_) (fun _ => ?_)
      · exact State.bump_sound k3
      · refine Sound.ite (fun _ => ?_) (fun _ => ?_)
        · exact State.bump_sound k3
        · exact k3
    try clear_value x0
    extract_lets +onlyGivenNames -merge x2 x3
    try clear_value x2 x3
    refine Sound.ite (fun _ => ?_) (fun _ => ?_)
    · exact State.setVp_sound h1
    · refine Sound.ite (fun _ => ?_) (fun _ => ?_)
      · extract_lets +onlyGivenNames x4
        have h5 : Sound z x4 := State.vpAck_sound h1
        try clear_value x4
        refine State.creditBack_sound ?_
        refine Sound.ite (fun _ => ?_) (fun _ => ?_)
        · exact State.vpReplay_sound h5
        · exact h5
      · extract_lets +onlyGivenNames x6
        have h7 : Sound z x6 := State.vpAck_sound h1
        try clear_value x6
        extract_lets +onlyGivenNames x8
        have h9 : Sound z x8 := by
          unfold x8
          refine Sound.ite (fun _ => ?_) (fun _ => ?_)
          · exact State.vpReplay_sound h7
          · exact h7
        try clear_value x8
        extract_lets +onlyGivenNames x10
        try clear_value x10
        refine Sound.ite (fun _ => ?_) (fun _ => ?_)
        · exact State.setVp_sound h9
        · exact State.takeFlit_sound (State.setVp_sound h9)

theorem doRtoExpiry_sound {z v0 v1 v2 s3} (k3 : Sound z s3) : Sound z (doRtoExpiry v0 v1 v2 s3) := by
  unfold doRtoExpiry
  split
  · exact k3
  · refine Sound.ite (fun _ => ?_) (fun _ => ?_)
    · exact k3
    · refine Sound.ite (fun _ => ?_) (fun _ => ?_)
      · exact State.resend_sound k3
      · exact State.jobAbort_sound k3

theorem doEpochTimeout_sound {z v0 s1} (k1 : Sound z s1) : Sound z (doEpochTimeout v0 s1) := by
  unfold doEpochTimeout
  refine Sound.ite (fun _ => ?_) (fun _ => ?_)
  · exact k1
  · split
    · exact k1
    · split
      · exact k1
      · refine Sound.ite (fun _ => ?_) (fun _ => ?_)
        · exact State.jobAbort_sound k1
        · exact k1

theorem doJobAbort_sound {z v0 s1} (k1 : Sound z s1) : Sound z (doJobAbort v0 s1) := by
  unfold doJobAbort
  exact State.jobAbort_sound k1

theorem State.dupsEqual_sound {z s0 v1 v2} (k0 : Sound z s0) : Sound2 z (State.dupsEqual s0 v1 v2) := by
  unfold State.dupsEqual
  split
  · refine Sound2.mk ?_
    exact k0
  · extract_lets +onlyGivenNames -merge x0 x1
    try clear_value x0 x1
    refine Sound2.foldl _ (fun q y h2 => ?_) _ ?_
    · split
      · next y3 y4 e =>
        have h5 : Sound z y4 := by
          refine Sound2.of e ?_
          refine State.checkCopies_sound ?_
          refine Sound2.snd ?_
          exact h2
        refine Sound2.mk ?_
        exact h5
    · refine Sound2.mk ?_
      exact k0

theorem doOwnChecksAll_sound {z v0 s1} (k1 : Sound z s1) : Sound z (doOwnChecksAll v0 s1) := by
  unfold doOwnChecksAll
  refine Sound.ite (fun _ => ?_) (fun _ => ?_)
  · exact k1
  · split
    · next y0 y1 e =>
      have h2 : Sound z y1 := by
        refine Sound2.of e ?_
        exact State.dupsEqual_sound k1
      refine Sound.ite (fun _ => ?_) (fun _ => ?_)
      · exact doOwnChecks_sound h2
      · exact k1

theorem doRetract_sound {z v0 v1 s2} (k2 : Sound z s2) : Sound z (doRetract v0 v1 s2) := by
  unfold doRetract
  split
  · exact State.arrive_sound k2
  · refine Sound.ite (fun _ => ?_) (fun _ => ?_)
    · exact k2
    · split
      · next y0 y1 e =>
        have h2 : Sound z y1 := by
          refine Sound2.of e ?_
          exact State.dupsEqual_sound k2
        refine Sound.ite (fun _ => ?_) (fun _ => ?_)
        · exact k2
        · exact State.checksFail_sound h2

/-! ### SafetyOps -/

theorem doSafetyRequest_sound {z v0 v1 s2} (k2 : Sound z s2) : Sound z (doSafetyRequest v0 v1 s2) := by
  unfold doSafetyRequest
  split
  · exact k2
  · refine Sound.ite (fun _ => ?_) (fun _ => ?_)
    · exact State.safetyRequest_sound k2
    · exact k2

theorem doPinMonitor_sound {z v0 v1 s2} (k2 : Sound z s2) : Sound z (doPinMonitor v0 v1 s2) := by
  unfold doPinMonitor
  extract_lets +onlyGivenNames -merge x0 x1
  try clear_value x0 x1
  exact State.setFld_sound (State.setFld_sound k2)

theorem doSafePin_sound {z v0 v1 s2} (k2 : Sound z s2) : Sound z (doSafePin v0 v1 s2) := by
  unfold doSafePin
  extract_lets +onlyGivenNames x0
  try clear_value x0
  refine Sound.ite (fun _ => ?_) (fun _ => ?_)
  · exact k2
  · exact State.sendEv_sound (State.setFld_sound (State.setFld_sound k2))

theorem doSelectFallingEdge_sound {z v0 s1} (k1 : Sound z s1) : Sound z (doSelectFallingEdge v0 s1) := by
  unfold doSelectFallingEdge
  extract_lets +onlyGivenNames x0
  try clear_value x0
  refine Sound.ite (fun _ => ?_) (fun _ => ?_)
  · exact k1
  · exact Sound.same k1 rfl rfl rfl rfl rfl

theorem State.spiFrameErr_sound {z s0 v1} (k0 : Sound z s0) : Sound z (State.spiFrameErr s0 v1) := by
  unfold State.spiFrameErr
  exact State.sendEv_sound (State.bump_sound k0)

theorem State.spiContentErr_sound {z s0 v1} (k0 : Sound z s0) : Sound z (State.spiContentErr s0 v1) := by
  unfold State.spiContentErr
  exact State.sendEv_sound (State.bump_sound k0)

theorem State.spiLengthErr_sound {z s0 v1} (k0 : Sound z s0) : Sound z (State.spiLengthErr s0 v1) := by
  unfold State.spiLengthErr
  exact State.sendEv_sound (State.bump_sound k0)

theorem State.spiGood_sound {z s0 v1} (k0 : Sound z s0) : Sound z (State.spiGood s0 v1) := by
  unfold State.spiGood
  extract_lets +onlyGivenNames x0
  have h1 : Sound z x0 := State.setFld_sound (State.bump_sound k0)
  try clear_value x0
  exact Sound.same h1 rfl rfl rfl rfl rfl

theorem doSspiNop_sound {z s0} (k0 : Sound z s0) : Sound z (doSspiNop s0) := by
  unfold doSspiNop
  exact State.spiGood_sound k0

theorem doAlive_sound {z v0 s1} (k1 : Sound z s1) : Sound z (doAlive v0 s1) := by
  unfold doAlive
  extract_lets +onlyGivenNames x0
  have h1 : Sound z x0 := State.setFld_sound (State.spiGood_sound k1)
  try clear_value x0
  exact Sound.same h1 rfl rfl rfl rfl rfl

theorem doReqsafe_sound {z s0} (k0 : Sound z s0) : Sound z (doReqsafe s0) := by
  unfold doReqsafe
  extract_lets +onlyGivenNames x0
  have h1 : Sound z x0 := State.spiGood_sound k0
  try clear_value x0
  refine Sound.ite (fun _ => ?_) (fun _ => ?_)
  · exact h1
  · split
    · next y2 y3 e =>
      have h4 : Sound z y3 := by
        refine Sound2.of e ?_
        exact State.free_sound h1
      exact State.enterSafe_sound h4

theorem doSelectRelease_sound {z v0 v1 s2} (k2 : Sound z s2) : Sound z (doSelectRelease v0 v1 s2) := by
  unfold doSelectRelease
  extract_lets +onlyGivenNames -merge -underBinder x0 x1
  have h2 : Sound z x1 := Sound.same k2 rfl rfl rfl rfl rfl
  try clear_value x1
  split
  · exact h2
  · refine Sound.ite (fun _ => ?_) (fun _ => ?_)
    · exact h2
    · refine Sound.ite (fun _ => ?_) (fun _ => ?_)
      · exact State.spiFrameErr_sound h2
      · refine Sound.ite (fun _ => ?_) (fun _ => ?_)
        · exact State.spiLengthErr_sound h2
        · refine Sound.ite (fun _ => ?_) (fun _ => ?_)
          · exact State.spiContentErr_sound h2
          · extract_lets +onlyGivenNames x3
            try clear_value x3
            refine Sound.ite (fun _ => ?_) (fun _ => ?_)
            · exact doAlive_sound h2
            · refine Sound.ite (fun _ => ?_) (fun _ => ?_)
              · exact doReqsafe_sound h2
              · exact doSspiNop_sound h2

theorem doSelectTimeout_sound {z v0 s1} (k1 : Sound z s1) : Sound z (doSelectTimeout v0 s1) := by
  unfold doSelectTimeout
  split
  · exact k1
  · refine Sound.ite (fun _ => ?_) (fun _ => ?_)
    · exact k1
    · exact State.spiLengthErr_sound (Sound.same k1 rfl rfl rfl rfl rfl)

theorem doSpiHeartbeatTimeout_sound {z s0} (k0 : Sound z s0) : Sound z (doSpiHeartbeatTimeout s0) := by
  unfold doSpiHeartbeatTimeout
  extract_lets +onlyGivenNames x0
  try clear_value x0
  refine Sound.ite (fun _ => ?_) (fun _ => ?_)
  · exact k0
  · exact State.sendEv_sound (Sound.same k0 rfl rfl rfl rfl rfl)

theorem doSsCntclr_sound {z s0} (k0 : Sound z s0) : Sound z (doSsCntclr s0) := by
  unfold doSsCntclr
  exact State.setReg_sound (State.setReg_sound k0)

theorem State.moveCluster_sound {z s0 v1 v2} (k0 : Sound z s0) : Sound z (State.moveCluster s0 v1 v2) := by
  have mv : ∀ s a b n, Sound z s →
      Sound z { s with mem := moveCells s.mem a b n, marks := moveMarks s.marks (a / 8) (b / 8) (n / 8) } :=
    fun s a b n k => ⟨k.queue, k.clock, k.fresh, fun h => memory_wf_move (k.memory h) _ _ _, fun h => marks_wf_move (k.marks h) _ _ _⟩
  unfold State.moveCluster
  extract_lets -merge +onlyGivenNames s m a b own from_ c d
  have hb : Sound z b := mv _ _ _ _ (mv _ _ _ _ (State.resetCluster_sound k0))
  clear_value b
  exact Sound.foldl _ (fun q y h => State.setReg_sound h) _ (State.setFld_sound (State.setCl_sound hb))

theorem doSelftestSlot_sound {z v0 s1} (k1 : Sound z s1) : Sound z (doSelftestSlot v0 s1) := by
  unfold doSelftestSlot
  refine Sound.ite (fun _ => ?_) (fun _ => ?_)
  · exact k1
  · split
    · exact State.setFld_sound k1
    · extract_lets +onlyGivenNames x0
      have h1 : Sound z x0 := State.setFld_sound k1
      try clear_value x0
      split
      · exact h1
      · extract_lets +onlyGivenNames -merge -underBinder x2
        have h3 : ∀ a0, Sound z a0 → Sound z (x2 a0) := by
          intro a0 b0
          unfold x2
          extract_lets +onlyGivenNames x4
          have h5 : Sound z x4 := State.resetCluster_sound b0
          try clear_value x4
          extract_lets +onlyGivenNames -merge -underBinder x6 x7
          have h8 : Sound z x7 := Sound.same h5 rfl rfl rfl rfl rfl
          try clear_value x7
          extract_lets +onlyGivenNames x9
          have h10 : Sound z x9 := State.setFld_sound h8
          try clear_value x9
          refine Sound.ite (fun _ => ?_) (fun _ => ?_)
          · exact h10
          · exact State.setFld_sound h10
        try clear_value x2
        refine Sound.ite (fun _ => ?_) (fun _ => ?_)
        · refine Sound.ite (fun _ => ?_) (fun _ => ?_)
          · exact h1
          · refine h3 _ ?_
            · exact h1
        · refine Sound.ite (fun _ => ?_) (fun _ => ?_)
          · exact h1
          · extract_lets +onlyGivenNames x11
            have h12 : Sound z x11 := State.moveCluster_sound h1
            try clear_value x11
            extract_lets +onlyGivenNames x13
            have h15 : Sound z x13 := by
              unfold x13
              refine Sound.foldl _ (fun q y h14 => ?_) _ ?_
              · exact State.setHost_sound h14
              · exact h12
            try clear_value x13
            refine h3 _ ?_
            · exact State.setHost_sound h15

theorem doSelftestComplete_sound {z v0 v1 s2} (k2 : Sound z s2) : Sound z (doSelftestComplete v0 v1 s2) := by
  unfold doSelftestComplete
  split
  · exact k2
  · extract_lets +onlyGivenNames -merge -underBinder x0 x1
    have h2 : Sound z x1 := Sound.same k2 rfl rfl rfl rfl rfl
    try clear_value x1
    extract_lets +onlyGivenNames x3
    have h4 : Sound z x3 := State.resetCluster_sound (State.setFld_sound h2)
    try clear_value x3
    extract_lets +onlyGivenNames x5
    have h6 : Sound z x5 := by
      unfold x5
      refine Sound.ite (fun _ => ?_) (fun _ => ?_)
      · exact State.setFld_sound h4
      · exact h4
    try clear_value x5
    refine Sound.ite (fun _ => ?_) (fun _ => ?_)
    · exact h6
    · refine Sound.ite (fun _ => ?_) (fun _ => ?_)
      · extract_lets +onlyGivenNames x7
        have h8 : Sound z x7 := State.count_sound h6
        try clear_value x7
        exact Sound.same h8 rfl rfl rfl rfl rfl
      · exact State.send_sound h6

theorem doSelftestOverdue_sound {z v0 s1} (k1 : Sound z s1) : Sound z (doSelftestOverdue v0 s1) := by
  unfold doSelftestOverdue
  refine Sound.ite (fun _ => ?_) (fun _ => ?_)
  · exact k1
  · exact State.sendEv_sound (Sound.same k1 rfl rfl rfl rfl rfl)

theorem doCmdTimeout_sound {z v0 v1 v2 v3 s4} (k4 : Sound z s4) : Sound z (doCmdTimeout v0 v1 v2 v3 s4) := by
  unfold doCmdTimeout
  refine Sound.ite (fun _ => ?_) (fun _ => ?_)
  · exact k4
  · extract_lets +onlyGivenNames x0
    have h1 : Sound z x0 := State.sendEv_sound k4
    try clear_value x0
    extract_lets +onlyGivenNames -merge -underBinder x2 x3
    have h4 : Sound z x3 := by
      unfold x3
      refine Sound.ite (fun _ => ?_) (fun _ => ?_)
      · exact Sound.same h1 rfl rfl rfl rfl rfl
      · refine Sound.ite (fun _ => ?_) (fun _ => ?_)
        · split
          · exact h1
          · exact State.cover_sound (State.updDec_sound h1)
        · exact h1
    try clear_value x3
    split
    · exact h4
    · exact doPullLanding_sound h4

/-! ### Package -/

theorem doClusterReset_sound {z v0 s1} (k1 : Sound z s1) : Sound z (doClusterReset v0 s1) := by
  unfold doClusterReset
  refine Sound.ite (fun _ => ?_) (fun _ => ?_)
  · exact State.resetCluster_sound k1
  · exact k1

theorem State.reqRegion_sound {z s0 v1} (k0 : Sound z s0) : Sound z (State.reqRegion s0 v1) := by
  unfold State.reqRegion
  extract_lets +onlyGivenNames x0
  try clear_value x0
  extract_lets +onlyGivenNames x1
  have h2 : Sound z x1 := by
    unfold x1
    refine Sound.ite (fun _ => ?_) (fun _ => ?_)
    · exact k0
    · exact State.setBusy_sound (State.bumpGen_sound k0)
  try clear_value x1
  refine Sound.foldl _ (fun q y h3 => ?_) _ ?_
  · exact State.reqReset_sound h3
  · exact h2

theorem doRegionReset_sound {z v0 s1} (k1 : Sound z s1) : Sound z (doRegionReset v0 s1) := by
  unfold doRegionReset
  refine Sound.ite (fun _ => ?_) (fun _ => ?_)
  · exact State.resetRegion_sound k1
  · exact k1

theorem State.reqDie_sound {z s0 v1} (k0 : Sound z s0) : Sound z (State.reqDie s0 v1) := by
  unfold State.reqDie
  extract_lets +onlyGivenNames -merge x0 x1
  try clear_value x0 x1
  extract_lets +onlyGivenNames x2
  have h3 : Sound z x2 := by
    unfold x2
    refine Sound.ite (fun _ => ?_) (fun _ => ?_)
    · exact k0
    · exact State.setBusy_sound (State.bumpGen_sound k0)
  try clear_value x2
  extract_lets +onlyGivenNames x4
  have h6 : Sound z x4 := by
    unfold x4
    refine Sound.foldl _ (fun q y h5 => ?_) _ ?_
    · exact State.workLost_sound h5
    · exact h3
  try clear_value x4
  refine Sound.foldl _ (fun q y h7 => ?_) _ ?_
  · exact State.reqReset_sound h7
  · exact h6

theorem doDieReset_sound {z v0 s1} (k1 : Sound z s1) : Sound z (doDieReset v0 s1) := by
  unfold doDieReset
  refine Sound.ite (fun _ => ?_) (fun _ => ?_)
  · exact State.resetDie_sound k1
  · exact k1

theorem doHubReset_sound {z v0 s1} (k1 : Sound z s1) : Sound z (doHubReset v0 s1) := by
  unfold doHubReset
  refine Sound.ite (fun _ => ?_) (fun _ => ?_)
  · exact State.setBusy_sound (State.resetHub_sound k1)
  · exact k1

theorem doRcCluster_sound {z v0 v1 s2} (k2 : Sound z s2) : Sound z (doRcCluster v0 v1 s2) := by
  unfold doRcCluster
  refine Sound.ite (fun _ => ?_) (fun _ => ?_)
  · exact k2
  · refine Sound.ite (fun _ => ?_) (fun _ => ?_)
    · exact State.reqReset_sound k2
    · exact State.fcConfig_sound k2

theorem doRcRegion_sound {z v0 v1 s2} (k2 : Sound z s2) : Sound z (doRcRegion v0 v1 s2) := by
  unfold doRcRegion
  refine Sound.ite (fun _ => ?_) (fun _ => ?_)
  · exact k2
  · refine Sound.ite (fun _ => ?_) (fun _ => ?_)
    · exact State.reqRegion_sound k2
    · exact State.fcConfig_sound k2

theorem doRcDie_sound {z v0 v1 s2} (k2 : Sound z s2) : Sound z (doRcDie v0 v1 s2) := by
  unfold doRcDie
  refine Sound.ite (fun _ => ?_) (fun _ => ?_)
  · exact k2
  · refine Sound.ite (fun _ => ?_) (fun _ => ?_)
    · exact State.reqDie_sound k2
    · exact State.fcConfig_sound k2

theorem doRcHub_sound {z v0 v1 s2} (k2 : Sound z s2) : Sound z (doRcHub v0 v1 s2) := by
  unfold doRcHub
  refine Sound.ite (fun _ => ?_) (fun _ => ?_)
  · exact k2
  · refine Sound.ite (fun _ => ?_) (fun _ => ?_)
    · refine Sound.ite (fun _ => ?_) (fun _ => ?_)
      · exact k2
      · exact State.setBusy_sound k2
    · exact State.fcConfig_sound k2

theorem doRcPackage_sound {z v0 s1} (k1 : Sound z s1) : Sound z (doRcPackage v0 s1) := by
  unfold doRcPackage
  refine Sound.ite (fun _ => ?_) (fun _ => ?_)
  · exact k1
  · exact State.pkgBegin_sound k1

theorem doRcDump_sound {z v0 s1} (k1 : Sound z s1) : Sound z (doRcDump v0 s1) := by
  unfold doRcDump
  refine Sound.ite (fun _ => ?_) (fun _ => ?_)
  · exact k1
  · exact State.capturePkg_sound (Sound.same k1 rfl rfl rfl rfl rfl)

theorem doPkgRstN_sound {z v0 s1} (k1 : Sound z s1) : Sound z (doPkgRstN v0 s1) := by
  unfold doPkgRstN
  refine Sound.ite (fun _ => ?_) (fun _ => ?_)
  · exact k1
  · exact State.pkgBegin_sound k1

theorem doPackageHalt_sound {z s0} (k0 : Sound z s0) : Sound z (doPackageHalt s0) := by
  unfold doPackageHalt
  split
  · exact k0
  · exact State.haltPkg_sound (Sound.same k0 rfl rfl rfl rfl rfl)

theorem doDumpmove_sound {z s0} (k0 : Sound z s0) : Sound z (doDumpmove s0) := by
  unfold doDumpmove
  split
  · exact k0
  · exact State.setFld_sound (Sound.same k0 rfl rfl rfl rfl rfl)

theorem State.moveHalt_sound {z n s} (k : Sound z s) : Sound z (State.moveHalt n s) := by
  induction n generalizing s with
  | zero => exact k
  | succ n ih =>
    unfold State.moveHalt
    split
    · exact k
    · exact ih (doDumpmove_sound (Sound.same k rfl rfl rfl rfl rfl))

theorem State.compact_sound {z s0} (k0 : Sound z s0) : Sound z (State.compact s0) := by
  unfold State.compact
  refine Sound.ite (fun _ => ?_) (fun _ => ?_)
  · exact k0
  · extract_lets +onlyGivenNames -merge x0 x1
    try clear_value x0 x1
    exact Sound.same k0 rfl rfl rfl rfl rfl

theorem State.markPerm_sound {z s0 v1} (k0 : Sound z s0) : Sound z (State.markPerm s0 v1) := by
  unfold State.markPerm
  extract_lets +onlyGivenNames x0
  try clear_value x0
  extract_lets +onlyGivenNames -merge -underBinder x1
  have h4 : Sound z x1 := by
    unfold x1
    split
    · exact k0
    · extract_lets +onlyGivenNames x2
      have h3 : Sound z x2 := by
        unfold x2
        split
        · exact State.orReg_sound k0
        · exact State.orReg_sound k0
        · exact State.orReg_sound k0
        · exact State.orReg_sound k0
        · exact State.orReg_sound k0
        · exact k0
      try clear_value x2
      exact State.fence_sound h3
  try clear_value x1
  extract_lets +onlyGivenNames x5
  try clear_value x5
  exact State.sendEv_sound (Sound.same h4 rfl rfl rfl rfl rfl)

theorem State.applyHistory_sound {z s0} (k0 : Sound z s0) : Sound z (State.applyHistory s0) := by
  unfold State.applyHistory
  extract_lets +onlyGivenNames x0
  have h1 : Sound z x0 := State.compact_sound k0
  try clear_value x0
  extract_lets +onlyGivenNames x2
  try clear_value x2
  extract_lets +onlyGivenNames -merge -underBinder x3
  try clear_value x3
  refine Sound.foldl _ (fun q y h4 => ?_) _ ?_
  · exact State.markPerm_sound h4
  · exact h1

theorem State.bootStop_sound {z s0} (k0 : Sound z s0) : Sound z (State.bootStop s0) := by
  unfold State.bootStop
  extract_lets +onlyGivenNames x0
  have h1 : Sound z x0 := State.sendEv_sound k0
  try clear_value x0
  exact Sound.same h1 rfl rfl rfl rfl rfl

theorem State.delayCodes_sound {z s0 v1} (k0 : Sound z s0) : Sound z (State.delayCodes s0 v1) := by
  unfold State.delayCodes
  extract_lets +onlyGivenNames x0
  try clear_value x0
  extract_lets +onlyGivenNames -merge -underBinder x1
  try clear_value x1
  exact Sound.same k0 rfl rfl rfl rfl rfl

theorem State.bringUp_sound {z s0 v1 v2} (k0 : Sound z s0) : Sound z (State.bringUp s0 v1 v2) := by
  unfold State.bringUp
  extract_lets +onlyGivenNames x0
  have h1 : Sound z x0 := State.delayCodes_sound k0
  try clear_value x0
  split
  · exact doGo_sound h1
  · extract_lets +onlyGivenNames x2
    have h3 : Sound z x2 := doGo_sound h1
    try clear_value x2
    split
    · exact doGo_sound h3
    · extract_lets +onlyGivenNames x4
      try clear_value x4
      extract_lets +onlyGivenNames x5
      have h6 : Sound z x5 := doGo_sound h3
      try clear_value x5
      exact Sound.same h6 rfl rfl rfl rfl rfl

theorem State.bootRest_sound {z s0 v1 v2 v3} (k0 : Sound z s0) : Sound z (State.bootRest s0 v1 v2 v3) := by
  unfold State.bootRest
  extract_lets +onlyGivenNames x0
  try clear_value x0
  extract_lets +onlyGivenNames x1
  have h2 : Sound z x1 := State.setFld_sound (State.setReg_sound k0)
  try clear_value x1
  extract_lets +onlyGivenNames x3
  have h4 : Sound z x3 := State.moveHalt_sound h2
  try clear_value x3
  extract_lets +onlyGivenNames x5
  have h6 : Sound z x5 := Sound.same h4 rfl rfl rfl rfl rfl
  try clear_value x5
  extract_lets +onlyGivenNames x7
  have h8 : Sound z x7 := State.applyHistory_sound h6
  try clear_value x7
  extract_lets +onlyGivenNames x9
  have h10 : Sound z x9 := State.bringUp_sound (State.bringUp_sound h8)
  try clear_value x9
  extract_lets +onlyGivenNames x11
  have h13 : Sound z x11 := by
    unfold x11
    refine Sound.foldl _ (fun q y h12 => ?_) _ ?_
    · refine Sound.ite (fun _ => ?_) (fun _ => ?_)
      · exact doPortEnable_sound h12
      · exact h12
    · exact h10
  try clear_value x11
  extract_lets +onlyGivenNames -merge -underBinder x14
  have h19 : Sound z x14 := by
    unfold x14
    split
    · extract_lets +onlyGivenNames x15
      have h16 : Sound z x15 := State.sendEv_sound h13
      try clear_value x15
      exact Sound.same h16 rfl rfl rfl rfl rfl
    · extract_lets +onlyGivenNames x17
      have h18 : Sound z x17 := State.setFld_sound (State.setFld_sound h13)
      try clear_value x17
      exact Sound.same h18 rfl rfl rfl rfl rfl
  try clear_value x14
  extract_lets +onlyGivenNames x20
  have h21 : Sound z x20 := State.setFld_sound (State.setFld_sound (State.setFld_sound h19))
  try clear_value x20
  extract_lets +onlyGivenNames x22
  have h23 : Sound z x22 := State.setFld_sound (State.setFld_sound h21)
  try clear_value x22
  extract_lets +onlyGivenNames x24
  have h25 : Sound z x24 := State.fcShow_sound h23
  try clear_value x24
  exact Sound.same h25 rfl rfl rfl rfl rfl

theorem State.measure_sound {z s0 v1} (k0 : Sound z s0) : Sound z (State.measure s0 v1) := by
  unfold State.measure
  extract_lets +onlyGivenNames -merge x0 x1
  try clear_value x0 x1
  exact Sound.same k0 rfl rfl rfl rfl rfl

theorem State.countPower_sound {z s0 v1} (k0 : Sound z s0) : Sound z (State.countPower s0 v1) := by
  unfold State.countPower
  extract_lets +onlyGivenNames x0
  have h2 : Sound z x0 := by
    unfold x0
    refine Sound.foldl _ (fun q y h1 => ?_) _ ?_
    · exact State.setCtxSeq_sound h1
    · exact k0
  try clear_value x0
  exact Sound.same h2 rfl rfl rfl rfl rfl

theorem doPackageReset_sound {z v0 s1} (k1 : Sound z s1) : Sound z (doPackageReset v0 s1) := by
  unfold doPackageReset
  split
  · exact k1
  · extract_lets +onlyGivenNames x0
    try clear_value x0
    split
    · extract_lets +onlyGivenNames x1
      have h2 : Sound z x1 := State.sendEv_sound k1
      try clear_value x1
      exact Sound.same h2 rfl rfl rfl rfl rfl
    · refine Sound.ite (fun _ => ?_) (fun _ => ?_)
      · exact State.bootStop_sound k1
      · extract_lets +onlyGivenNames x3
        have h4 : Sound z x3 := by
          unfold x3
          refine Sound.ite (fun _ => ?_) (fun _ => ?_)
          · exact State.countPower_sound k1
          · exact k1
        try clear_value x3
        extract_lets +onlyGivenNames x5
        extract_lets +onlyGivenNames -merge x6 x7 x8 x9 x10 x11 x12
        try clear_value x6 x7 x8 x9 x10 x11 x12
        extract_lets +onlyGivenNames x13
        have h14 : Sound z x13 := State.bump_sound h4
        try clear_value x13
        split
        · exact State.bootRest_sound (State.measure_sound h14)
        · extract_lets +onlyGivenNames x15
          have h16 : Sound z x15 := State.setFld_sound (State.setFld_sound h14)
          try clear_value x15
          extract_lets +onlyGivenNames x17
          have h18 : Sound z x17 := by
            unfold x17
            refine Sound.ite (fun _ => ?_) (fun _ => ?_)
            · exact State.setFld_sound h16
            · exact h16
          try clear_value x17
          exact State.bootStop_sound h18

theorem State.keepCount_sound {z s0 v1} (k0 : Sound z s0) : Sound z (State.keepCount s0 v1) := by
  unfold State.keepCount
  refine Sound.ite (fun _ => ?_) (fun _ => ?_)
  · exact Sound.same k0 rfl rfl rfl rfl rfl
  · exact k0

/-! ### Power -/

theorem State.setStretch_sound {z s0 v1 v2} (k0 : Sound z s0) : Sound z (State.setStretch s0 v1 v2) := by
  unfold State.setStretch
  extract_lets +onlyGivenNames -merge x0 x1 x2
  try clear_value x0 x1 x2
  exact State.setFld_sound (Sound.same k0 rfl rfl rfl rfl rfl)

theorem State.applyFloors_sound {z s0} (k0 : Sound z s0) : Sound z (State.applyFloors s0) := by
  unfold State.applyFloors
  refine Sound.foldl _ (fun q y h0 => ?_) _ ?_
  · refine Sound.ite (fun _ => ?_) (fun _ => ?_)
    · exact State.setStretch_sound h0
    · exact h0
  · exact k0

theorem doStretchWindow_sound {z v0 s1} (k1 : Sound z s1) : Sound z (doStretchWindow v0 s1) := by
  unfold doStretchWindow
  extract_lets +onlyGivenNames x0
  have h1 : Sound z x0 := State.setFld_sound (State.setFld_sound (State.setFld_sound k1))
  try clear_value x0
  extract_lets +onlyGivenNames x2
  have h3 : Sound z x2 := State.setFld_sound h1
  try clear_value x2
  extract_lets +onlyGivenNames x4
  have h6 : Sound z x4 := by
    unfold x4
    refine Sound.foldl _ (fun q y h5 => ?_) _ ?_
    · exact State.setFld_sound h5
    · exact h3
  try clear_value x4
  refine Sound.ite (fun _ => ?_) (fun _ => ?_)
  · exact h6
  · extract_lets +onlyGivenNames x7
    try clear_value x7
    refine Sound.foldl _ (fun q y h8 => ?_) _ ?_
    · extract_lets +onlyGivenNames -merge x9 x10
      try clear_value x9 x10
      extract_lets +onlyGivenNames -merge -underBinder x11
      have h12 : ∀ a0 a1, Sound z a0 → Sound z (x11 a0 a1) := by
        intro a0 a1 b0
        unfold x11
        exact Sound.same b0 rfl rfl rfl rfl rfl
      try clear_value x11
      refine Sound.ite (fun _ => ?_) (fun _ => ?_)
      · refine State.setStretch_sound ?_
        refine h12 _ _ ?_
        · exact h8
      · refine Sound.ite (fun _ => ?_) (fun _ => ?_)
        · refine Sound.ite (fun _ => ?_) (fun _ => ?_)
          · refine State.setStretch_sound ?_
            refine h12 _ _ ?_
            · exact h8
          · refine h12 _ _ ?_
            · exact h8
        · refine h12 _ _ ?_
          · exact h8
    · exact h6

theorem State.pwrLimit_sound {z s0 v1 v2} (k0 : Sound z s0) : Sound z (State.pwrLimit s0 v1 v2) := by
  unfold State.pwrLimit
  exact State.sendEv_sound k0

theorem doPwOpreq_sound {z v0 v1 s2} (k2 : Sound z s2) : Sound z (doPwOpreq v0 v1 s2) := by
  unfold doPwOpreq
  extract_lets +onlyGivenNames x0
  try clear_value x0
  extract_lets +onlyGivenNames x1
  have h2 : Sound z x1 := by
    unfold x1
    refine Sound.ite (fun _ => ?_) (fun _ => ?_)
    · exact State.setFld_sound k2
    · exact k2
  try clear_value x1
  refine Sound.ite (fun _ => ?_) (fun _ => ?_)
  · exact State.pwrLimit_sound (State.setFld_sound h2)
  · extract_lets +onlyGivenNames x3
    have h4 : Sound z x3 := State.setFld_sound (State.setFld_sound h2)
    try clear_value x3
    exact Sound.same h4 rfl rfl rfl rfl rfl

theorem doOpPointChange_sound {z v0 s1} (k1 : Sound z s1) : Sound z (doOpPointChange v0 s1) := by
  unfold doOpPointChange
  refine Sound.ite (fun _ => ?_) (fun _ => ?_)
  · exact k1
  · split
    · exact State.setFld_sound (Sound.same k1 rfl rfl rfl rfl rfl)
    · extract_lets +onlyGivenNames x0
      try clear_value x0
      refine Sound.ite (fun _ => ?_) (fun _ => ?_)
      · exact k1
      · exact State.setFld_sound (State.setFld_sound k1)

theorem doOpRequestTimeout_sound {z v0 s1} (k1 : Sound z s1) : Sound z (doOpRequestTimeout v0 s1) := by
  unfold doOpRequestTimeout
  refine Sound.ite (fun _ => ?_) (fun _ => ?_)
  · exact k1
  · exact State.pwrLimit_sound (State.setFld_sound (State.setFld_sound k1))

theorem doPointLowering_sound {z v0 s1} (k1 : Sound z s1) : Sound z (doPointLowering v0 s1) := by
  unfold doPointLowering
  refine Sound.ite (fun _ => ?_) (fun _ => ?_)
  · exact k1
  · extract_lets +onlyGivenNames x0
    try clear_value x0
    refine Sound.ite (fun _ => ?_) (fun _ => ?_)
    · exact State.pwrLimit_sound (Sound.same k1 rfl rfl rfl rfl rfl)
    · refine Sound.ite (fun _ => ?_) (fun _ => ?_)
      · exact Sound.same k1 rfl rfl rfl rfl rfl
      · exact k1

theorem State.powerLost_sound {z s} (k : Sound z s) : Sound z (State.powerLost s) :=
  ⟨k.queue, k.clock, k.fresh, fun h => memory_wf_filter (k.memory h) _, fun _ => rfl⟩

theorem doPowerUp_sound {z v0 v1 s2} (k2 : Sound z s2) : Sound z (doPowerUp v0 v1 s2) := by
  unfold doPowerUp
  extract_lets +onlyGivenNames x0
  try clear_value x0
  refine Sound.ite (fun _ => ?_) (fun _ => ?_)
  · exact k2
  · exact State.pkgBegin_sound (Sound.same k2 rfl rfl rfl rfl rfl)

theorem doChargeTimeout_sound {z s0} (k0 : Sound z s0) : Sound z (doChargeTimeout s0) := by
  unfold doChargeTimeout
  refine Sound.ite (fun _ => ?_) (fun _ => ?_)
  · exact k0
  · exact Sound.same k0 rfl rfl rfl rfl rfl

theorem doVinUv_sound {z v0 s1} (k1 : Sound z s1) : Sound z (doVinUv v0 s1) := by
  unfold doVinUv
  refine Sound.ite (fun _ => ?_) (fun _ => ?_)
  · exact k1
  · exact State.applyFloors_sound (State.send_sound (State.setFld_sound (State.setFld_sound k1)))

theorem doVinUvClear_sound {z v0 s1} (k1 : Sound z s1) : Sound z (doVinUvClear v0 s1) := by
  unfold doVinUvClear
  refine Sound.ite (fun _ => ?_) (fun _ => ?_)
  · exact k1
  · exact State.send_sound (State.setFld_sound (State.setFld_sound k1))

theorem doVinOv_sound {z v0 s1} (k1 : Sound z s1) : Sound z (doVinOv v0 s1) := by
  unfold doVinOv
  refine Sound.ite (fun _ => ?_) (fun _ => ?_)
  · exact k1
  · exact State.sendEv_sound (State.setFld_sound (State.setFld_sound k1))

theorem doPowerFail_sound {z v0 s1} (k1 : Sound z s1) : Sound z (doPowerFail v0 s1) := by
  unfold doPowerFail
  refine Sound.ite (fun _ => ?_) (fun _ => ?_)
  · exact k1
  · exact State.powerLost_sound k1

theorem doDisconnect_sound {z v0 s1} (k1 : Sound z s1) : Sound z (doDisconnect v0 s1) := by
  unfold doDisconnect
  refine Sound.ite (fun _ => ?_) (fun _ => ?_)
  · exact k1
  · exact State.powerLost_sound k1

theorem doDieHot_sound {z v0 v1 v2 s3} (k3 : Sound z s3) : Sound z (doDieHot v0 v1 v2 s3) := by
  unfold doDieHot
  refine Sound.ite (fun _ => ?_) (fun _ => ?_)
  · exact k3
  · extract_lets +onlyGivenNames x0
    try clear_value x0
    extract_lets +onlyGivenNames -merge -underBinder x1 x2
    have h3 : Sound z x2 := Sound.same k3 rfl rfl rfl rfl rfl
    try clear_value x2
    extract_lets +onlyGivenNames x4
    have h5 : Sound z x4 := by
      unfold x4
      refine Sound.ite (fun _ => ?_) (fun _ => ?_)
      · exact State.send_sound h3
      · exact h3
    try clear_value x4
    exact State.applyFloors_sound h5

theorem doDieHotClear_sound {z v0 v1 v2 s3} (k3 : Sound z s3) : Sound z (doDieHotClear v0 v1 v2 s3) := by
  unfold doDieHotClear
  refine Sound.ite (fun _ => ?_) (fun _ => ?_)
  · exact k3
  · extract_lets +onlyGivenNames -merge -underBinder x0 x1
    have h2 : Sound z x1 := Sound.same k3 rfl rfl rfl rfl rfl
    try clear_value x1
    refine Sound.ite (fun _ => ?_) (fun _ => ?_)
    · exact h2
    · exact State.send_sound h2

theorem doDieOvertemp_sound {z v0 v1 v2 s3} (k3 : Sound z s3) : Sound z (doDieOvertemp v0 v1 v2 s3) := by
  unfold doDieOvertemp
  refine Sound.ite (fun _ => ?_) (fun _ => ?_)
  · exact k3
  · exact State.send_sound k3

theorem doStandbyEntry_sound {z s0} (k0 : Sound z s0) : Sound z (doStandbyEntry s0) := by
  unfold doStandbyEntry
  refine Sound.ite (fun _ => ?_) (fun _ => ?_)
  · exact k0
  · refine Sound.ite (fun _ => ?_) (fun _ => ?_)
    · exact State.setFld_sound k0
    · extract_lets +onlyGivenNames x0
      have h1 : Sound z x0 := State.setFld_sound k0
      try clear_value x0
      extract_lets +onlyGivenNames x2
      have h3 : Sound z x2 := State.setFld_sound (State.setFld_sound (State.setFld_sound h1))
      try clear_value x2
      extract_lets +onlyGivenNames -merge -underBinder x4 x5
      have h6 : Sound z x5 := Sound.same h3 rfl rfl rfl rfl rfl
      try clear_value x5
      extract_lets +onlyGivenNames x7
      have h9 : Sound z x7 := by
        unfold x7
        refine Sound.foldl _ (fun q y h8 => ?_) _ ?_
        · exact doPen_sound h8
        · exact h6
      try clear_value x7
      extract_lets +onlyGivenNames x10
      have h11 : Sound z x10 := doSrenter_sound h9
      try clear_value x10
      extract_lets +onlyGivenNames x12
      have h14 : Sound z x12 := by
        unfold x12
        refine Sound.foldl _ (fun q y h13 => ?_) _ ?_
        · exact State.resetCluster_sound h13
        · exact h11
      try clear_value x12
      extract_lets +onlyGivenNames x15
      have h17 : Sound z x15 := by
        unfold x15
        refine Sound.foldl _ (fun q y h16 => ?_) _ ?_
        · exact State.vpEnter_sound (State.setVp_sound h16)
        · exact h14
      try clear_value x15
      exact State.setFld_sound (Sound.same h17 rfl rfl rfl rfl rfl)

theorem doStandbyExit_sound {z s0} (k0 : Sound z s0) : Sound z (doStandbyExit s0) := by
  unfold doStandbyExit
  refine Sound.ite (fun _ => ?_) (fun _ => ?_)
  · exact State.setFld_sound k0
  · extract_lets +onlyGivenNames x0
    have h1 : Sound z x0 := State.setFld_sound (State.setFld_sound k0)
    try clear_value x0
    extract_lets +onlyGivenNames x2
    have h3 : Sound z x2 := State.setFbDown_sound (doSrexit_sound h1)
    try clear_value x2
    extract_lets +onlyGivenNames -merge -underBinder x4 x5
    have h6 : Sound z x5 := Sound.same h3 rfl rfl rfl rfl rfl
    try clear_value x5
    extract_lets +onlyGivenNames x7
    have h9 : Sound z x7 := by
      unfold x7
      refine Sound.foldl _ (fun q y h8 => ?_) _ ?_
      · refine Sound.ite (fun _ => ?_) (fun _ => ?_)
        · exact State.vpTrain_sound h8
        · exact h8
      · exact h6
    try clear_value x7
    extract_lets +onlyGivenNames x10
    try clear_value x10
    refine Sound.foldl _ (fun q y h11 => ?_) _ ?_
    · exact doEnable_sound h11
    · exact Sound.same h9 rfl rfl rfl rfl rfl

theorem doRegionGating_sound {z v0 s1} (k1 : Sound z s1) : Sound z (doRegionGating v0 s1) := by
  unfold doRegionGating
  extract_lets +onlyGivenNames x0
  try clear_value x0
  refine Sound.ite (fun _ => ?_) (fun _ => ?_)
  · exact k1
  · exact Sound.same k1 rfl rfl rfl rfl rfl

theorem State.superHalt_sound {z s0} (k0 : Sound z s0) : Sound z (State.superHalt s0) := by
  unfold State.superHalt
  extract_lets +onlyGivenNames x0
  have h2 : Sound z x0 := by
    unfold x0
    refine Sound.foldl _ (fun q y h1 => ?_) _ ?_
    · refine Sound.ite (fun _ => ?_) (fun _ => ?_)
      · exact State.halt_sound (State.updSeq_sound h1)
      · exact h1
    · exact k0
  try clear_value x0
  extract_lets +onlyGivenNames -merge -underBinder x3 x4 x5
  have h6 : Sound z x5 := Sound.same h2 rfl rfl rfl rfl rfl
  try clear_value x5
  exact State.setFld_sound (State.setFld_sound (State.setFld_sound h6))

theorem doClkMon_sound {z v0 v1 v2 v3 s4} (k4 : Sound z s4) : Sound z (doClkMon v0 v1 v2 v3 s4) := by
  unfold doClkMon
  refine Sound.ite (fun _ => ?_) (fun _ => ?_)
  · exact k4
  · refine Sound.ite (fun _ => ?_) (fun _ => ?_)
    · exact State.superHalt_sound (State.orReg_sound k4)
    · refine Sound.ite (fun _ => ?_) (fun _ => ?_)
      · extract_lets +onlyGivenNames -merge -underBinder x0 x1
        have h2 : Sound z x1 := Sound.same k4 rfl rfl rfl rfl rfl
        try clear_value x1
        refine Sound.ite (fun _ => ?_) (fun _ => ?_)
        · exact h2
        · exact State.send_sound (State.orReg_sound h2)
      · refine Sound.ite (fun _ => ?_) (fun _ => ?_)
        · extract_lets +onlyGivenNames x3
          try clear_value x3
          refine Sound.ite (fun _ => ?_) (fun _ => ?_)
          · exact Sound.same k4 rfl rfl rfl rfl rfl
          · exact State.send_sound (State.clrReg_sound (Sound.same k4 rfl rfl rfl rfl rfl))
        · exact k4

theorem doOscFail_sound {z v0 v1 s2} (k2 : Sound z s2) : Sound z (doOscFail v0 v1 s2) := by
  unfold doOscFail
  refine Sound.ite (fun _ => ?_) (fun _ => ?_)
  · extract_lets +onlyGivenNames x0
    have h1 : Sound z x0 := State.setFld_sound k2
    try clear_value x0
    refine Sound.ite (fun _ => ?_) (fun _ => ?_)
    · exact h1
    · exact State.sendEv_sound h1
  · refine Sound.ite (fun _ => ?_) (fun _ => ?_)
    · exact k2
    · extract_lets +onlyGivenNames x2
      have h3 : Sound z x2 := State.setFld_sound k2
      try clear_value x2
      refine Sound.ite (fun _ => ?_) (fun _ => ?_)
      · refine Sound.ite (fun _ => ?_) (fun _ => ?_)
        · exact State.send_sound (State.sendEv_sound (State.setFld_sound h3))
        · exact State.superHalt_sound h3
      · exact State.send_sound h3

theorem doClkOsc_sound {z v0 s1} (k1 : Sound z s1) : Sound z (doClkOsc v0 s1) := by
  unfold doClkOsc
  refine Sound.ite (fun _ => ?_) (fun _ => ?_)
  · exact k1
  · extract_lets +onlyGivenNames x0
    try clear_value x0
    extract_lets +onlyGivenNames x1
    have h2 : Sound z x1 := State.setFld_sound k1
    try clear_value x1
    refine Sound.ite (fun _ => ?_) (fun _ => ?_)
    · exact State.setFld_sound h2
    · exact h2

theorem doVrFault_sound {z v0 v1 s2} (k2 : Sound z s2) : Sound z (doVrFault v0 v1 s2) := by
  unfold doVrFault
  exact State.sendEv_sound k2

/-! ### Mgmt -/

theorem State.setPair_sound {z s0 v1 v2} (k0 : Sound z s0) : Sound z (State.setPair s0 v1 v2) := by
  unfold State.setPair
  exact State.setFld_sound k0

theorem State.pairLoss_sound {z s0 v1 v2} (k0 : Sound z s0) : Sound z (State.pairLoss s0 v1 v2) := by
  unfold State.pairLoss
  refine Sound.ite (fun _ => ?_) (fun _ => ?_)
  · exact k0
  · extract_lets +onlyGivenNames x0
    try clear_value x0
    extract_lets +onlyGivenNames -merge -underBinder x1 x2
    have h3 : Sound z x2 := Sound.same k0 rfl rfl rfl rfl rfl
    try clear_value x2
    extract_lets +onlyGivenNames x4
    have h5 : Sound z x4 := State.setFld_sound (State.setPair_sound h3)
    try clear_value x4
    extract_lets +onlyGivenNames x6
    have h7 : Sound z x6 := State.sendEv_sound h5
    try clear_value x6
    refine Sound.ite (fun _ => ?_) (fun _ => ?_)
    · exact h7
    · exact Sound.same h7 rfl rfl rfl rfl rfl

theorem doLockstep_sound {z v0 s1} (k1 : Sound z s1) : Sound z (doLockstep v0 s1) := by
  unfold doLockstep
  refine Sound.ite (fun _ => ?_) (fun _ => ?_)
  · exact State.sendEv_sound k1
  · exact State.pairLoss_sound k1

theorem doMgKick_sound {z v0 v1 s2} (k2 : Sound z s2) : Sound z (doMgKick v0 v1 s2) := by
  unfold doMgKick
  refine Sound.ite (fun _ => ?_) (fun _ => ?_)
  · exact Sound.same k2 rfl rfl rfl rfl rfl
  · exact k2

theorem doPairWatchdog_sound {z v0 s1} (k1 : Sound z s1) : Sound z (doPairWatchdog v0 s1) := by
  unfold doPairWatchdog
  refine Sound.ite (fun _ => ?_) (fun _ => ?_)
  · exact k1
  · exact State.pairLoss_sound k1

theorem doPairResetEnd_sound {z v0 s1} (k1 : Sound z s1) : Sound z (doPairResetEnd v0 s1) := by
  unfold doPairResetEnd
  refine Sound.ite (fun _ => ?_) (fun _ => ?_)
  · exact State.setPair_sound k1
  · exact k1

theorem doMgtWdog_sound {z s0} (k0 : Sound z s0) : Sound z (doMgtWdog s0) := by
  unfold doMgtWdog
  split
  · refine Sound.ite (fun _ => ?_) (fun _ => ?_)
    · exact k0
    · exact State.sendEv_sound (Sound.same k0 rfl rfl rfl rfl rfl)
  · exact k0

theorem doMwdrstReset_sound {z s0} (k0 : Sound z s0) : Sound z (doMwdrstReset s0) := by
  unfold doMwdrstReset
  split
  · exact k0
  · refine Sound.ite (fun _ => ?_) (fun _ => ?_)
    · exact k0
    · exact State.pkgBegin_sound k0

theorem State.setShed_sound {z s0 v1} (k0 : Sound z s0) : Sound z (State.setShed s0 v1) := by
  unfold State.setShed
  exact State.sendEv_sound (State.setFld_sound k0)

theorem doShedWindow_sound {z v0 v1 s2} (k2 : Sound z s2) : Sound z (doShedWindow v0 v1 s2) := by
  unfold doShedWindow
  extract_lets +onlyGivenNames x0
  try clear_value x0
  extract_lets +onlyGivenNames -merge -underBinder x1
  have h2 : ∀ a0 a1, Sound z a0 → Sound z (x1 a0 a1) := by
    intro a0 a1 b0
    unfold x1
    exact Sound.same b0 rfl rfl rfl rfl rfl
  try clear_value x1
  refine Sound.ite (fun _ => ?_) (fun _ => ?_)
  · exact k2
  · refine Sound.ite (fun _ => ?_) (fun _ => ?_)
    · refine Sound.ite (fun _ => ?_) (fun _ => ?_)
      · refine State.setShed_sound ?_
        refine h2 _ _ ?_
        · exact k2
      · refine h2 _ _ ?_
        · exact k2
    · refine Sound.ite (fun _ => ?_) (fun _ => ?_)
      · refine Sound.ite (fun _ => ?_) (fun _ => ?_)
        · refine h2 _ _ ?_
          · exact k2
        · refine Sound.ite (fun _ => ?_) (fun _ => ?_)
          · refine h2 _ _ ?_
            · exact k2
          · refine State.setShed_sound ?_
            refine h2 _ _ ?_
            · exact k2
      · refine h2 _ _ ?_
        · exact k2

theorem State.twFrame_sound {z s0 v1 v2} (k0 : Sound z s0) : Sound z (State.twFrame s0 v1 v2) := by
  unfold State.twFrame
  extract_lets +onlyGivenNames -merge x0 x1
  try clear_value x0 x1
  exact Sound.same k0 rfl rfl rfl rfl rfl

theorem doTelemetry_sound {z s0} (k0 : Sound z s0) : Sound z (doTelemetry s0) := by
  unfold doTelemetry
  refine Sound.ite (fun _ => ?_) (fun _ => ?_)
  · exact k0
  · extract_lets +onlyGivenNames -merge x0 x1
    try clear_value x0 x1
    extract_lets +onlyGivenNames x2
    have h3 : Sound z x2 := State.twFrame_sound (Sound.drawn k0 rfl rfl (Nat.le_add_right _ _) rfl rfl)
    try clear_value x2
    exact Sound.same h3 rfl rfl rfl rfl rfl

theorem doSpanref_sound {z v0 s1} (k1 : Sound z s1) : Sound z (doSpanref v0 s1) := by
  unfold doSpanref
  refine Sound.ite (fun _ => ?_) (fun _ => ?_)
  · exact k1
  · extract_lets +onlyGivenNames -merge -underBinder x0
    have h5 : Sound z x0 := by
      unfold x0
      split
      · exact k1
      · extract_lets +onlyGivenNames x1
        try clear_value x1
        extract_lets +onlyGivenNames -merge -underBinder x2 x3
        have h4 : Sound z x3 := Sound.same k1 rfl rfl rfl rfl rfl
        try clear_value x3
        refine Sound.ite (fun _ => ?_) (fun _ => ?_)
        · exact State.sendEv_sound h4
        · exact Sound.same h4 rfl rfl rfl rfl rfl
    try clear_value x0
    refine Sound.ite (fun _ => ?_) (fun _ => ?_)
    · exact h5
    · extract_lets +onlyGivenNames x6
      try clear_value x6
      exact Sound.same h5 rfl rfl rfl rfl rfl

theorem State.placeReport_sound {z s0} (k0 : Sound z s0) : Sound z (State.placeReport s0) := by
  unfold State.placeReport
  extract_lets +onlyGivenNames -merge x0 x1
  try clear_value x0 x1
  extract_lets +onlyGivenNames x2
  have h4 : Sound z x2 := by
    unfold x2
    refine Sound.foldl _ (fun q y h3 => ?_) _ ?_
    · exact State.setReg_sound h3
    · exact k0
  try clear_value x2
  extract_lets +onlyGivenNames x5
  have h6 : Sound z x5 := State.setFld_sound h4
  try clear_value x5
  exact Sound.same h6 rfl rfl rfl rfl rfl

theorem doMbGo_sound {z v0 s1} (k1 : Sound z s1) : Sound z (doMbGo v0 s1) := by
  unfold doMbGo
  extract_lets +onlyGivenNames x0
  have h1 : Sound z x0 := by
    unfold x0
    refine Sound.ite (fun _ => ?_) (fun _ => ?_)
    · exact State.setFld_sound k1
    · exact k1
  try clear_value x0
  refine Sound.ite (fun _ => ?_) (fun _ => ?_)
  · exact h1
  · refine Sound.ite (fun _ => ?_) (fun _ => ?_)
    · exact State.setFld_sound h1
    · extract_lets +onlyGivenNames x2
      have h3 : Sound z x2 := State.setFld_sound h1
      try clear_value x2
      refine Sound.ite (fun _ => ?_) (fun _ => ?_)
      · exact State.placeReport_sound h3
      · exact Sound.same h3 rfl rfl rfl rfl rfl

/-! ### Registers -/

theorem doFmapRead_sound {z v0 s1} (k1 : Sound z s1) : Sound z (doFmapRead v0 s1) := by
  unfold doFmapRead
  exact Sound.same k1 rfl rfl rfl rfl rfl

theorem State.spanRead_sound {z s0 v1} (k0 : Sound z s0) : Sound2 z (State.spanRead s0 v1) := by
  unfold State.spanRead
  refine Sound2.ite (fun _ => ?_) (fun _ => ?_)
  · refine Sound2.ite (fun _ => ?_) (fun _ => ?_)
    · refine Sound2.mk ?_
      exact k0
    · exact State.free_sound k0
  · refine Sound2.ite (fun _ => ?_) (fun _ => ?_)
    · refine Sound2.mk ?_
      exact k0
    · refine Sound2.ite (fun _ => ?_) (fun _ => ?_)
      · extract_lets +onlyGivenNames -merge x0 x1
        try clear_value x0 x1
        refine Sound2.mk ?_
        refine Sound.ite (fun _ => ?_) (fun _ => ?_)
        · exact doFmapRead_sound k0
        · exact k0
      · refine Sound2.ite (fun _ => ?_) (fun _ => ?_)
        · split
          · refine Sound2.mk ?_
            exact k0
          · refine Sound2.mk ?_
            exact k0
        · refine Sound2.mk ?_
          exact k0

theorem State.regRead_sound {z s0 v1} (k0 : Sound z s0) : Sound2 z (State.regRead s0 v1) := by
  unfold State.regRead
  extract_lets +onlyGivenNames x0
  try clear_value x0
  refine Sound2.ite (fun _ => ?_) (fun _ => ?_)
  · exact State.spanRead_sound k0
  · refine Sound2.ite (fun _ => ?_) (fun _ => ?_)
    · refine Sound2.mk ?_
      exact k0
    · extract_lets +onlyGivenNames x1
      try clear_value x1
      extract_lets +onlyGivenNames x2
      have h3 : Sound z x2 := by
        unfold x2
        refine Sound.ite (fun _ => ?_) (fun _ => ?_)
        · exact doTbSecLo_sound k0
        · refine Sound.ite (fun _ => ?_) (fun _ => ?_)
          · exact doStns_sound k0
          · exact k0
      try clear_value x2
      refine Sound2.mk ?_
      exact h3

theorem State.regReads_sound {z n off s} (k : Sound z s) : Sound2 z (State.regReads n off s) := by
  induction n generalizing s off with
  | zero => exact k
  | succ n ih =>
    unfold State.regReads
    split
    next v t e =>
    split
    next r u e' =>
    exact Sound2.mk (Sound2.of e' (ih (Sound2.of e (State.regRead_sound k))))

theorem State.plainWrite_sound {z s0 v1 v2} (k0 : Sound z s0) : Sound z (State.plainWrite s0 v1 v2) := by
  unfold State.plainWrite
  split
  · exact k0
  · refine Sound.ite (fun _ => ?_) (fun _ => ?_)
    · exact k0
    · extract_lets +onlyGivenNames x0
      try clear_value x0
      exact State.setReg_sound k0

theorem State.clearWrite_sound {z s0 v1 v2} (k0 : Sound z s0) : Sound z (State.clearWrite s0 v1 v2) := by
  unfold State.clearWrite
  split
  · exact k0
  · exact State.setReg_sound k0

theorem State.writeIf_sound {z s0 v1 v2 v3} (k0 : Sound z s0) : Sound z (State.writeIf s0 v1 v2 v3) := by
  unfold State.writeIf
  refine Sound.ite (fun _ => ?_) (fun _ => ?_)
  · exact State.plainWrite_sound k0
  · exact k0

theorem doKvInitWrite_sound {z s0} (k0 : Sound z s0) : Sound z (doKvInitWrite s0) := by
  unfold doKvInitWrite
  refine Sound.ite (fun _ => ?_) (fun _ => ?_)
  · exact k0
  · refine Sound.ite (fun _ => ?_) (fun _ => ?_)
    · exact State.sendEv_sound k0
    · exact doKvInit_sound k0

theorem State.writeCtxCmd_sound {z s0 v1 v2} (k0 : Sound z s0) : Sound z (State.writeCtxCmd s0 v1 v2) := by
  unfold State.writeCtxCmd
  refine Sound.ite (fun _ => ?_) (fun _ => ?_)
  · exact doEnable_sound k0
  · refine Sound.ite (fun _ => ?_) (fun _ => ?_)
    · exact doDisable_sound k0
    · refine Sound.ite (fun _ => ?_) (fun _ => ?_)
      · exact doAbort_sound k0
      · refine Sound.ite (fun _ => ?_) (fun _ => ?_)
        · exact doContextReset_sound k0
        · exact k0

theorem State.writeCtx_sound {z s0 v1 v2 v3 v4} (k0 : Sound z s0) : Sound z (State.writeCtx s0 v1 v2 v3 v4) := by
  unfold State.writeCtx
  extract_lets +onlyGivenNames x0
  try clear_value x0
  refine Sound.ite (fun _ => ?_) (fun _ => ?_)
  · exact State.writeCtxCmd_sound k0
  · refine Sound.ite (fun _ => ?_) (fun _ => ?_)
    · exact State.plainWrite_sound k0
    · refine Sound.ite (fun _ => ?_) (fun _ => ?_)
      · exact State.plainWrite_sound k0
      · refine Sound.ite (fun _ => ?_) (fun _ => ?_)
        · extract_lets +onlyGivenNames x1
          try clear_value x1
          refine Sound.ite (fun _ => ?_) (fun _ => ?_)
          · exact doWindowEnable_sound k0
          · exact State.writeIf_sound k0
        · refine Sound.ite (fun _ => ?_) (fun _ => ?_)
          · exact doWindowEnable_sound k0
          · exact State.writeIf_sound k0

theorem State.writeHbm_sound {z s0 v1 v2 v3} (k0 : Sound z s0) : Sound z (State.writeHbm s0 v1 v2 v3) := by
  unfold State.writeHbm
  extract_lets +onlyGivenNames x0
  try clear_value x0
  refine Sound.ite (fun _ => ?_) (fun _ => ?_)
  · extract_lets +onlyGivenNames x1
    try clear_value x1
    extract_lets +onlyGivenNames x2
    have h3 : Sound z x2 := by
      unfold x2
      refine Sound.ite (fun _ => ?_) (fun _ => ?_)
      · exact State.hbConfig_sound k0
      · exact State.setFld_sound k0
    try clear_value x2
    extract_lets +onlyGivenNames x4
    have h5 : Sound z x4 := State.setFld_sound h3
    try clear_value x4
    extract_lets +onlyGivenNames x6
    have h7 : Sound z x6 := by
      unfold x6
      refine Sound.ite (fun _ => ?_) (fun _ => ?_)
      · exact doSrexit_sound h5
      · exact h5
    try clear_value x6
    refine Sound.ite (fun _ => ?_) (fun _ => ?_)
    · exact doSrenter_sound h7
    · exact h7
  · refine Sound.ite (fun _ => ?_) (fun _ => ?_)
    · exact doHbPaircls_sound k0
    · refine Sound.ite (fun _ => ?_) (fun _ => ?_)
      · exact doHbCal_sound k0
      · refine Sound.ite (fun _ => ?_) (fun _ => ?_)
        · refine Sound.ite (fun _ => ?_) (fun _ => ?_)
          · exact doGo_sound k0
          · exact k0
        · refine Sound.ite (fun _ => ?_) (fun _ => ?_)
          · exact State.writeIf_sound k0
          · exact State.plainWrite_sound k0

theorem State.writeIp_sound {z s0 v1 v2 v3} (k0 : Sound z s0) : Sound z (State.writeIp s0 v1 v2 v3) := by
  unfold State.writeIp
  extract_lets +onlyGivenNames x0
  try clear_value x0
  refine Sound.ite (fun _ => ?_) (fun _ => ?_)
  · exact doMeshLoad_sound k0
  · refine Sound.ite (fun _ => ?_) (fun _ => ?_)
    · exact State.writeIf_sound k0
    · refine Sound.ite (fun _ => ?_) (fun _ => ?_)
      · extract_lets +onlyGivenNames x1
        try clear_value x1
        refine Sound.ite (fun _ => ?_) (fun _ => ?_)
        · exact doViewEnable_sound k0
        · exact State.writeIf_sound k0
      · refine Sound.ite (fun _ => ?_) (fun _ => ?_)
        · extract_lets +onlyGivenNames x2
          try clear_value x2
          refine Sound.ite (fun _ => ?_) (fun _ => ?_)
          · exact doLidarEnable_sound k0
          · exact State.writeIf_sound k0
        · refine Sound.ite (fun _ => ?_) (fun _ => ?_)
          · exact State.writeIf_sound k0
          · exact State.plainWrite_sound k0

theorem State.writeTb_sound {z s0 v1 v2 v3} (k0 : Sound z s0) : Sound z (State.writeTb s0 v1 v2 v3) := by
  unfold State.writeTb
  extract_lets +onlyGivenNames x0
  try clear_value x0
  refine Sound.ite (fun _ => ?_) (fun _ => ?_)
  · exact doRefsrc_sound k0
  · refine Sound.ite (fun _ => ?_) (fun _ => ?_)
    · refine Sound.ite (fun _ => ?_) (fun _ => ?_)
      · exact State.timeConfig_sound k0
      · exact State.plainWrite_sound k0
    · refine Sound.ite (fun _ => ?_) (fun _ => ?_)
      · exact doIncCommit_sound k0
      · refine Sound.ite (fun _ => ?_) (fun _ => ?_)
        · extract_lets +onlyGivenNames x1
          have h2 : Sound z x1 := by
            unfold x1
            refine Sound.ite (fun _ => ?_) (fun _ => ?_)
            · exact doSet_sound k0
            · exact k0
          try clear_value x1
          refine Sound.ite (fun _ => ?_) (fun _ => ?_)
          · exact doAdj_sound h2
          · exact h2
        · refine Sound.ite (fun _ => ?_) (fun _ => ?_)
          · refine Sound.ite (fun _ => ?_) (fun _ => ?_)
            · exact doTbCntclr_sound k0
            · exact k0
          · refine Sound.ite (fun _ => ?_) (fun _ => ?_)
            · extract_lets +onlyGivenNames x3
              try clear_value x3
              refine Sound.ite (fun _ => ?_) (fun _ => ?_)
              · refine Sound.ite (fun _ => ?_) (fun _ => ?_)
                · exact doLaunchGo_sound k0
                · exact k0
              · refine Sound.ite (fun _ => ?_) (fun _ => ?_)
                · refine Sound.ite (fun _ => ?_) (fun _ => ?_)
                  · exact doLqCntclr_sound k0
                  · exact k0
                · exact State.plainWrite_sound k0
            · exact State.plainWrite_sound k0

theorem State.writeVd_sound {z s0 v1 v2 v3} (k0 : Sound z s0) : Sound z (State.writeVd s0 v1 v2 v3) := by
  unfold State.writeVd
  extract_lets +onlyGivenNames x0
  try clear_value x0
  refine Sound.ite (fun _ => ?_) (fun _ => ?_)
  · extract_lets +onlyGivenNames -merge x1 x2
    try clear_value x1 x2
    refine Sound.ite (fun _ => ?_) (fun _ => ?_)
    · exact State.sendEv_sound k0
    · exact State.plainWrite_sound k0
  · refine Sound.ite (fun _ => ?_) (fun _ => ?_)
    · refine Sound.ite (fun _ => ?_) (fun _ => ?_)
      · exact doVdCntclr_sound k0
      · exact k0
    · refine Sound.ite (fun _ => ?_) (fun _ => ?_)
      · extract_lets +onlyGivenNames x3
        try clear_value x3
        refine Sound.ite (fun _ => ?_) (fun _ => ?_)
        · extract_lets +onlyGivenNames x4
          have h5 : Sound z x4 := doPortEnable_sound k0
          try clear_value x4
          refine Sound.ite (fun _ => ?_) (fun _ => ?_)
          · exact h5
          · exact doByp_sound h5
        · refine Sound.ite (fun _ => ?_) (fun _ => ?_)
          · refine Sound.ite (fun _ => ?_) (fun _ => ?_)
            · exact doVpCntclr_sound k0
            · exact k0
          · exact State.plainWrite_sound k0
      · refine Sound.ite (fun _ => ?_) (fun _ => ?_)
        · extract_lets +onlyGivenNames x6
          try clear_value x6
          refine Sound.ite (fun _ => ?_) (fun _ => ?_)
          · extract_lets +onlyGivenNames x7
            have h8 : Sound z x7 := by
              unfold x7
              refine Sound.ite (fun _ => ?_) (fun _ => ?_)
              · exact doArm_sound k0
              · exact k0
            try clear_value x7
            refine Sound.ite (fun _ => ?_) (fun _ => ?_)
            · exact doJobAbort_sound h8
            · exact h8
          · refine Sound.ite (fun _ => ?_) (fun _ => ?_)
            · exact State.send_sound k0
            · exact State.plainWrite_sound k0
        · exact State.plainWrite_sound k0

theorem State.writeKsCmd_sound {z s0 v1} (k0 : Sound z s0) : Sound z (State.writeKsCmd s0 v1) := by
  unfold State.writeKsCmd
  extract_lets +onlyGivenNames x0
  try clear_value x0
  refine Sound.ite (fun _ => ?_) (fun _ => ?_)
  · exact k0
  · refine Sound.ite (fun _ => ?_) (fun _ => ?_)
    · exact State.ksErr_sound k0
    · refine Sound.ite (fun _ => ?_) (fun _ => ?_)
      · exact doKsGo_sound k0
      · refine Sound.ite (fun _ => ?_) (fun _ => ?_)
        · exact doKsClear_sound k0
        · exact doKsEnter_sound k0

theorem State.writeKs_sound {z s0 v1 v2 v3} (k0 : Sound z s0) : Sound z (State.writeKs s0 v1 v2 v3) := by
  unfold State.writeKs
  refine Sound.ite (fun _ => ?_) (fun _ => ?_)
  · exact State.writeKsCmd_sound k0
  · refine Sound.ite (fun _ => ?_) (fun _ => ?_)
    · extract_lets +onlyGivenNames x0
      try clear_value x0
      refine Sound.ite (fun _ => ?_) (fun _ => ?_)
      · exact doOutputEnable_sound k0
      · exact State.writeIf_sound k0
    · refine Sound.ite (fun _ => ?_) (fun _ => ?_)
      · exact doOutputEnable_sound k0
      · refine Sound.ite (fun _ => ?_) (fun _ => ?_)
        · exact State.writeIf_sound k0
        · refine Sound.ite (fun _ => ?_) (fun _ => ?_)
          · refine Sound.ite (fun _ => ?_) (fun _ => ?_)
            · exact doSsCntclr_sound k0
            · exact k0
          · exact State.plainWrite_sound k0

theorem State.writeRcCmd_sound {z s0 v1} (k0 : Sound z s0) : Sound z (State.writeRcCmd s0 v1) := by
  unfold State.writeRcCmd
  extract_lets +onlyGivenNames -merge x0 x1
  try clear_value x0 x1
  split
  · exact doRcCluster_sound k0
  · exact doRcRegion_sound k0
  · exact doRcDie_sound k0
  · exact doRcHub_sound k0
  · exact doRcPackage_sound k0
  · exact doRcDump_sound k0
  · exact k0

theorem State.writeRc_sound {z s0 v1 v2 v3} (k0 : Sound z s0) : Sound z (State.writeRc s0 v1 v2 v3) := by
  unfold State.writeRc
  refine Sound.ite (fun _ => ?_) (fun _ => ?_)
  · exact State.writeRcCmd_sound k0
  · refine Sound.ite (fun _ => ?_) (fun _ => ?_)
    · extract_lets +onlyGivenNames x0
      try clear_value x0
      exact State.writeIf_sound k0
    · exact State.plainWrite_sound k0

theorem State.writeMg_sound {z s0 v1 v2 v3} (k0 : Sound z s0) : Sound z (State.writeMg s0 v1 v2 v3) := by
  unfold State.writeMg
  extract_lets +onlyGivenNames x0
  try clear_value x0
  refine Sound.ite (fun _ => ?_) (fun _ => ?_)
  · extract_lets +onlyGivenNames x1
    have h2 : Sound z x1 := State.setFld_sound k0
    try clear_value x1
    extract_lets +onlyGivenNames x3
    try clear_value x3
    refine Sound.ite (fun _ => ?_) (fun _ => ?_)
    · exact h2
    · exact State.setFld_sound h2
  · refine Sound.ite (fun _ => ?_) (fun _ => ?_)
    · extract_lets +onlyGivenNames -merge x4 x5
      try clear_value x4 x5
      refine Sound.ite (fun _ => ?_) (fun _ => ?_)
      · exact k0
      · exact State.plainWrite_sound k0
    · refine Sound.ite (fun _ => ?_) (fun _ => ?_)
      · exact doMbGo_sound k0
      · refine Sound.ite (fun _ => ?_) (fun _ => ?_)
        · exact doPwOpreq_sound k0
        · refine Sound.ite (fun _ => ?_) (fun _ => ?_)
          · exact doMgKick_sound k0
          · exact State.plainWrite_sound k0

theorem State.writeFc_sound {z s0 v1 v2 v3} (k0 : Sound z s0) : Sound z (State.writeFc s0 v1 v2 v3) := by
  unfold State.writeFc
  extract_lets +onlyGivenNames x0
  try clear_value x0
  refine Sound.ite (fun _ => ?_) (fun _ => ?_)
  · exact doPinthWrite_sound k0
  · refine Sound.ite (fun _ => ?_) (fun _ => ?_)
    · exact doFcAck_sound k0
    · refine Sound.ite (fun _ => ?_) (fun _ => ?_)
      · refine Sound.ite (fun _ => ?_) (fun _ => ?_)
        · exact doReturnToService_sound k0
        · exact doFenceCmd_sound k0
      · refine Sound.ite (fun _ => ?_) (fun _ => ?_)
        · exact doFcSev_sound k0
        · exact State.plainWrite_sound k0

theorem doDcResync_sound {z v0 s1} (k1 : Sound z s1) : Sound z (doDcResync v0 s1) := by
  unfold doDcResync
  refine Sound.ite (fun _ => ?_) (fun _ => ?_)
  · exact k1
  · exact State.setFld_sound (State.setReg_sound k1)

theorem doTwCntclr_sound {z s0} (k0 : Sound z s0) : Sound z (doTwCntclr s0) := by
  unfold doTwCntclr
  exact State.setReg_sound k0

theorem State.regWrite_sound {z s0 v1 v2} (k0 : Sound z s0) : Sound z (State.regWrite s0 v1 v2) := by
  unfold State.regWrite
  extract_lets +onlyGivenNames -merge x0 x1 x2
  try clear_value x0 x1 x2
  refine Sound.ite (fun _ => ?_) (fun _ => ?_)
  · exact k0
  · refine Sound.ite (fun _ => ?_) (fun _ => ?_)
    · extract_lets +onlyGivenNames x3
      try clear_value x3
      refine Sound.ite (fun _ => ?_) (fun _ => ?_)
      · refine Sound.ite (fun _ => ?_) (fun _ => ?_)
        · exact doClMemclr_sound k0
        · exact k0
      · exact State.plainWrite_sound k0
    · refine Sound.ite (fun _ => ?_) (fun _ => ?_)
      · extract_lets +onlyGivenNames x4
        try clear_value x4
        exact State.writeIf_sound k0
      · refine Sound.ite (fun _ => ?_) (fun _ => ?_)
        · exact State.plainWrite_sound k0
        · refine Sound.ite (fun _ => ?_) (fun _ => ?_)
          · exact State.writeCtx_sound k0
          · refine Sound.ite (fun _ => ?_) (fun _ => ?_)
            · extract_lets +onlyGivenNames x5
              try clear_value x5
              refine Sound.ite (fun _ => ?_) (fun _ => ?_)
              · exact doSqTail_sound k0
              · refine Sound.ite (fun _ => ?_) (fun _ => ?_)
                · exact doCqHead_sound k0
                · exact k0
            · refine Sound.ite (fun _ => ?_) (fun _ => ?_)
              · refine Sound.ite (fun _ => ?_) (fun _ => ?_)
                · refine Sound.ite (fun _ => ?_) (fun _ => ?_)
                  · exact doKvInitWrite_sound k0
                  · exact k0
                · exact State.writeIf_sound k0
              · refine Sound.ite (fun _ => ?_) (fun _ => ?_)
                · exact State.plainWrite_sound k0
                · refine Sound.ite (fun _ => ?_) (fun _ => ?_)
                  · refine Sound.ite (fun _ => ?_) (fun _ => ?_)
                    · exact State.clearWrite_sound k0
                    · refine Sound.ite (fun _ => ?_) (fun _ => ?_)
                      · exact State.ringPtr_sound k0
                      · exact doDtCfg_sound k0
                  · refine Sound.ite (fun _ => ?_) (fun _ => ?_)
                    · exact State.writeHbm_sound k0
                    · refine Sound.ite (fun _ => ?_) (fun _ => ?_)
                      · extract_lets +onlyGivenNames x6
                        try clear_value x6
                        refine Sound.ite (fun _ => ?_) (fun _ => ?_)
                        · exact doReceiverEnable_sound k0
                        · refine Sound.ite (fun _ => ?_) (fun _ => ?_)
                          · refine Sound.ite (fun _ => ?_) (fun _ => ?_)
                            · exact doApCntclr_sound k0
                            · exact k0
                          · refine Sound.ite (fun _ => ?_) (fun _ => ?_)
                            · refine doPen_sound ?_
                              refine Sound.ite (fun _ => ?_) (fun _ => ?_)
                              · exact doClr_sound k0
                              · exact k0
                            · refine Sound.ite (fun _ => ?_) (fun _ => ?_)
                              · exact State.plainWrite_sound k0
                              · exact State.writeIf_sound k0
                      · refine Sound.ite (fun _ => ?_) (fun _ => ?_)
                        · extract_lets +onlyGivenNames x7
                          try clear_value x7
                          refine Sound.ite (fun _ => ?_) (fun _ => ?_)
                          · exact doReceiverEnable_sound k0
                          · refine Sound.ite (fun _ => ?_) (fun _ => ?_)
                            · refine Sound.ite (fun _ => ?_) (fun _ => ?_)
                              · exact doLpCntclr_sound k0
                              · exact k0
                            · exact State.writeIf_sound k0
                        · refine Sound.ite (fun _ => ?_) (fun _ => ?_)
                          · refine Sound.ite (fun _ => ?_) (fun _ => ?_)
                            · exact doTwCntclr_sound k0
                            · exact k0
                          · refine Sound.ite (fun _ => ?_) (fun _ => ?_)
                            · refine Sound.ite (fun _ => ?_) (fun _ => ?_)
                              · exact doWrClr_sound k0
                              · exact k0
                            · refine Sound.ite (fun _ => ?_) (fun _ => ?_)
                              · exact State.writeIp_sound k0
                              · refine Sound.ite (fun _ => ?_) (fun _ => ?_)
                                · exact doDcResync_sound k0
                                · refine Sound.ite (fun _ => ?_) (fun _ => ?_)
                                  · exact State.writeTb_sound k0
                                  · refine Sound.ite (fun _ => ?_) (fun _ => ?_)
                                    · refine Sound.ite (fun _ => ?_) (fun _ => ?_)
                                      · extract_lets +onlyGivenNames x8
                                        try clear_value x8
                                        refine Sound.ite (fun _ => ?_) (fun _ => ?_)
                                        · exact doGaugeEnable_sound k0
                                        · exact State.writeIf_sound k0
                                      · refine Sound.ite (fun _ => ?_) (fun _ => ?_)
                                        · refine Sound.ite (fun _ => ?_) (fun _ => ?_)
                                          · exact doGaCntclr_sound k0
                                          · exact k0
                                        · exact k0
                                    · refine Sound.ite (fun _ => ?_) (fun _ => ?_)
                                      · exact State.writeVd_sound k0
                                      · refine Sound.ite (fun _ => ?_) (fun _ => ?_)
                                        · exact State.writeFc_sound k0
                                        · refine Sound.ite (fun _ => ?_) (fun _ => ?_)
                                          · exact State.writeKs_sound k0
                                          · refine Sound.ite (fun _ => ?_) (fun _ => ?_)
                                            · exact State.writeRc_sound k0
                                            · refine Sound.ite (fun _ => ?_) (fun _ => ?_)
                                              · exact State.writeMg_sound k0
                                              · refine Sound.ite (fun _ => ?_) (fun _ => ?_)
                                                · refine Sound.ite (fun _ => ?_) (fun _ => ?_)
                                                  · exact doStandbyEntry_sound k0
                                                  · exact doStandbyExit_sound k0
                                                · refine Sound.ite (fun _ => ?_) (fun _ => ?_)
                                                  · exact doClkOsc_sound k0
                                                  · exact State.plainWrite_sound k0

theorem State.regWrites_sound {z off l s} (k : Sound z s) : Sound z (State.regWrites off l s) := by
  induction l generalizing s off with
  | nil => exact k
  | cons v r ih => exact ih (State.regWrite_sound k)

theorem doRegisterWrite_sound {z v0 v1 v2 s3} (k3 : Sound z s3) : Sound z (doRegisterWrite v0 v1 v2 s3) := by
  unfold doRegisterWrite
  refine Sound.ite (fun _ => ?_) (fun _ => ?_)
  · exact State.regWrite_sound k3
  · exact k3

/-! ### Towpath -/

theorem State.twSeen_sound {z s0 v1 v2} (k0 : Sound z s0) : Sound z (State.twSeen s0 v1 v2) := by
  unfold State.twSeen
  extract_lets +onlyGivenNames x0
  try clear_value x0
  exact Sound.same k0 rfl rfl rfl rfl rfl

theorem State.twAuth_sound {z s0 v1 v2} (k0 : Sound z s0) : Sound2 z (State.twAuth s0 v1 v2) := by
  unfold State.twAuth
  extract_lets +onlyGivenNames x0
  try clear_value x0
  split
  · refine Sound2.mk ?_
    exact k0
  · extract_lets +onlyGivenNames -merge x1 x2
    try clear_value x1 x2
    refine Sound2.ite (fun _ => ?_) (fun _ => ?_)
    · refine Sound2.mk ?_
      exact State.twSeen_sound k0
    · refine Sound2.mk ?_
      exact k0
  · extract_lets +onlyGivenNames x3
    try clear_value x3
    refine Sound2.ite (fun _ => ?_) (fun _ => ?_)
    · refine Sound2.mk ?_
      exact k0
    · refine Sound2.ite (fun _ => ?_) (fun _ => ?_)
      · refine Sound2.mk ?_
        exact Sound.same k0 rfl rfl rfl rfl rfl
      · refine Sound2.mk ?_
        exact k0
  · refine Sound2.mk ?_
    exact k0

theorem State.twAct_sound {z s0 v1 v2 v3 v4} (k0 : Sound z s0) : Sound3 z (State.twAct s0 v1 v2 v3 v4) := by
  unfold State.twAct
  extract_lets +onlyGivenNames x0
  try clear_value x0
  split
  · extract_lets +onlyGivenNames -merge x1 x2
    try clear_value x1 x2
    refine Sound3.ite (fun _ => ?_) (fun _ => ?_)
    · refine Sound3.mk ?_
      exact k0
    · split
      · next y3 y4 e =>
        have h5 : Sound z y4 := by
          refine Sound2.of e ?_
          exact State.regReads_sound k0
        refine Sound3.mk ?_
        exact h5
  · refine Sound3.ite (fun _ => ?_) (fun _ => ?_)
    · refine Sound3.mk ?_
      exact k0
    · refine Sound3.mk ?_
      exact k0
  · extract_lets +onlyGivenNames x6
    try clear_value x6
    refine Sound3.ite (fun _ => ?_) (fun _ => ?_)
    · refine Sound3.mk ?_
      exact k0
    · refine Sound3.mk ?_
      exact k0
  · extract_lets +onlyGivenNames x7
    try clear_value x7
    refine Sound3.mk ?_
    exact Sound.drawn k0 rfl rfl (Nat.le_add_right _ _) rfl rfl
  · extract_lets +onlyGivenNames -merge x8 x9
    try clear_value x8 x9
    refine Sound3.ite (fun _ => ?_) (fun _ => ?_)
    · refine Sound3.mk ?_
      exact k0
    · refine Sound3.ite (fun _ => ?_) (fun _ => ?_)
      · refine Sound3.mk ?_
        exact k0
      · refine Sound3.mk ?_
        exact State.regWrites_sound k0
  · refine Sound3.ite (fun _ => ?_) (fun _ => ?_)
    · refine Sound3.mk ?_
      exact k0
    · split
      · next y10 y11 e =>
        have h12 : Sound z y11 := by
          refine Sound2.of e ?_
          exact State.ackRec_sound k0
        refine Sound3.mk ?_
        exact h12
  · refine Sound3.mk ?_
    exact k0
  · extract_lets +onlyGivenNames x13
    try clear_value x13
    refine Sound3.ite (fun _ => ?_) (fun _ => ?_)
    · refine Sound3.mk ?_
      exact k0
    · refine Sound3.ite (fun _ => ?_) (fun _ => ?_)
      · refine Sound3.mk ?_
        exact k0
      · extract_lets +onlyGivenNames x14
        try clear_value x14
        refine Sound3.mk ?_
        exact Sound.same k0 rfl rfl rfl rfl rfl
  · extract_lets +onlyGivenNames -merge x15 x16
    try clear_value x15 x16
    refine Sound3.ite (fun _ => ?_) (fun _ => ?_)
    · refine Sound3.mk ?_
      exact k0
    · extract_lets +onlyGivenNames x17
      try clear_value x17
      refine Sound3.mk ?_
      exact Sound.drawn k0 rfl rfl (Nat.le_add_right _ _) rfl rfl
  · extract_lets +onlyGivenNames x18
    try clear_value x18
    refine Sound3.ite (fun _ => ?_) (fun _ => ?_)
    · refine Sound3.mk ?_
      exact k0
    · refine Sound3.ite (fun _ => ?_) (fun _ => ?_)
      · refine Sound3.mk ?_
        exact Sound.same k0 rfl rfl rfl rfl rfl
      · extract_lets +onlyGivenNames x19
        try clear_value x19
        refine Sound3.mk ?_
        exact Sound.same k0 rfl rfl rfl rfl rfl
  · refine Sound3.ite (fun _ => ?_) (fun _ => ?_)
    · refine Sound3.mk ?_
      exact Sound.same k0 rfl rfl rfl rfl rfl
    · refine Sound3.mk ?_
      exact State.sendEv_sound k0
  · extract_lets +onlyGivenNames -merge x20 x21
    try clear_value x20 x21
    refine Sound3.mk ?_
    exact Sound.same k0 rfl rfl rfl rfl rfl
  · refine Sound3.mk ?_
    exact Sound.same k0 rfl rfl rfl rfl rfl
  · refine Sound3.ite (fun _ => ?_) (fun _ => ?_)
    · refine Sound3.mk ?_
      exact k0
    · refine Sound3.mk ?_
      exact Sound.same k0 rfl rfl rfl rfl rfl
  · refine Sound3.mk ?_
    exact k0

theorem State.twRun_sound {z s0 v1 v2 v3 v4} (k0 : Sound z s0) : Sound3 z (State.twRun s0 v1 v2 v3 v4) := by
  unfold State.twRun
  extract_lets +onlyGivenNames -merge x0 x1
  try clear_value x0 x1
  refine Sound3.ite (fun _ => ?_) (fun _ => ?_)
  · refine Sound3.mk ?_
    exact k0
  · refine Sound3.ite (fun _ => ?_) (fun _ => ?_)
    · refine Sound3.mk ?_
      exact k0
    · split
      · refine Sound3.mk ?_
        exact k0
      · refine Sound3.ite (fun _ => ?_) (fun _ => ?_)
        · refine Sound3.mk ?_
          exact k0
        · split
          · next y2 y3 e =>
            have h4 : Sound z y3 := by
              refine Sound2.of e ?_
              refine Sound2.ite (fun _ => ?_) (fun _ => ?_)
              · refine Sound2.mk ?_
                exact k0
              · exact State.twAuth_sound k0
            refine Sound3.ite (fun _ => ?_) (fun _ => ?_)
            · exact State.twAct_sound h4
            · refine Sound3.mk ?_
              exact h4

theorem State.twServe_sound {z s0 v1 v2 v3} (k0 : Sound z s0) : Sound z (State.twServe s0 v1 v2 v3) := by
  unfold State.twServe
  split
  · next y0 y1 y2 e =>
    have h3 : Sound z y2 := by
      refine Sound3.of e ?_
      exact State.twRun_sound k0
    extract_lets +onlyGivenNames -merge x4 x5
    try clear_value x4 x5
    extract_lets +onlyGivenNames x6
    have h7 : Sound z x6 := State.twFrame_sound h3
    try clear_value x6
    refine Sound.ite (fun _ => ?_) (fun _ => ?_)
    · exact State.pkgBegin_sound h7
    · exact h7

theorem State.twFrameIn_sound {z s0 v1 v2 v3} (k0 : Sound z s0) : Sound z (State.twFrameIn s0 v1 v2 v3) := by
  unfold State.twFrameIn
  refine Sound.ite (fun _ => ?_) (fun _ => ?_)
  · exact k0
  · extract_lets +onlyGivenNames x0
    have h1 : Sound z x0 := State.count_sound k0
    try clear_value x0
    extract_lets +onlyGivenNames x2
    have h3 : Sound z x2 := by
      unfold x2
      refine Sound.ite (fun _ => ?_) (fun _ => ?_)
      · refine Sound2.snd ?_
        exact State.capture_sound h1
      · exact h1
    try clear_value x2
    refine Sound.ite (fun _ => ?_) (fun _ => ?_)
    · refine Sound.ite (fun _ => ?_) (fun _ => ?_)
      · exact State.twServe_sound h3
      · exact h3
    · refine Sound.ite (fun _ => ?_) (fun _ => ?_)
      · exact State.twServe_sound h3
      · refine Sound.ite (fun _ => ?_) (fun _ => ?_)
        · exact Sound.same h3 rfl rfl rfl rfl rfl
        · exact State.bump_sound h3

theorem State.twCommand_sound {z s0 v1 v2 v3 v4} (k0 : Sound z s0) : Sound z (State.twCommand s0 v1 v2 v3 v4) := by
  unfold State.twCommand
  refine Sound.ite (fun _ => ?_) (fun _ => ?_)
  · exact State.twFrameIn_sound k0
  · exact k0

theorem doRead_sound {z v0 v1 s2} (k2 : Sound z s2) : Sound z (doRead v0 v1 s2) := by
  unfold doRead
  exact State.twCommand_sound k2

theorem doAttest_sound {z v0 v1 s2} (k2 : Sound z s2) : Sound z (doAttest v0 v1 s2) := by
  unfold doAttest
  exact State.twCommand_sound k2

theorem doCert_sound {z v0 v1 s2} (k2 : Sound z s2) : Sound z (doCert v0 v1 s2) := by
  unfold doCert
  exact State.twCommand_sound k2

theorem doChallenge_sound {z v0 v1 s2} (k2 : Sound z s2) : Sound z (doChallenge v0 v1 s2) := by
  unfold doChallenge
  exact State.twCommand_sound k2

theorem doWrite_sound {z v0 v1 s2} (k2 : Sound z s2) : Sound z (doWrite v0 v1 s2) := by
  unfold doWrite
  exact State.twCommand_sound k2

theorem doAck_sound {z v0 v1 s2} (k2 : Sound z s2) : Sound z (doAck v0 v1 s2) := by
  unfold doAck
  exact State.twCommand_sound k2

theorem doTowpathReset_sound {z v0 v1 s2} (k2 : Sound z s2) : Sound z (doTowpathReset v0 v1 s2) := by
  unfold doTowpathReset
  exact State.twCommand_sound k2

theorem doCfgwrite_sound {z v0 v1 s2} (k2 : Sound z s2) : Sound z (doCfgwrite v0 v1 s2) := by
  unfold doCfgwrite
  exact State.twCommand_sound k2

theorem doDumpread_sound {z v0 v1 s2} (k2 : Sound z s2) : Sound z (doDumpread v0 v1 s2) := by
  unfold doDumpread
  exact State.twCommand_sound k2

theorem doFwchunk_sound {z v0 v1 s2} (k2 : Sound z s2) : Sound z (doFwchunk v0 v1 s2) := by
  unfold doFwchunk
  exact State.twCommand_sound k2

theorem doFwcommit_sound {z v0 v1 v2 s3} (k3 : Sound z s3) : Sound z (doFwcommit v0 v1 v2 s3) := by
  unfold doFwcommit
  exact State.twCommand_sound k3

theorem doSvnbump_sound {z v0 v1 s2} (k2 : Sound z s2) : Sound z (doSvnbump v0 v1 s2) := by
  unfold doSvnbump
  exact State.twCommand_sound k2

theorem doHistclear_sound {z v0 v1 s2} (k2 : Sound z s2) : Sound z (doHistclear v0 v1 s2) := by
  unfold doHistclear
  exact State.twCommand_sound k2

theorem doOwnerkey_sound {z v0 v1 s2} (k2 : Sound z s2) : Sound z (doOwnerkey v0 v1 s2) := by
  unfold doOwnerkey
  exact State.twCommand_sound k2

theorem State.serveQueue_sound {z l s} (k : Sound z s) : Sound z (State.serveQueue l s) := by
  induction l generalizing s with
  | nil => exact k
  | cons p r ih =>
    unfold State.serveQueue
    split
    next x t e =>
    exact ih (State.twServe_sound (Sound2.of e (State.free_sound k)))

theorem doPairTestEnd_sound {z v0 v1 s2} (k2 : Sound z s2) : Sound z (doPairTestEnd v0 v1 s2) := by
  unfold doPairTestEnd
  refine Sound.ite (fun _ => ?_) (fun _ => ?_)
  · exact k2
  · refine Sound.ite (fun _ => ?_) (fun _ => ?_)
    · exact State.setPair_sound k2
    · extract_lets +onlyGivenNames x0
      have h1 : Sound z x0 := State.setPair_sound k2
      try clear_value x0
      extract_lets +onlyGivenNames x2
      try clear_value x2
      extract_lets +onlyGivenNames -merge -underBinder x3 x4
      have h5 : Sound z x4 := Sound.same h1 rfl rfl rfl rfl rfl
      try clear_value x4
      extract_lets +onlyGivenNames x6
      have h7 : Sound z x6 := State.serveQueue_sound h5
      try clear_value x6
      refine Sound.ite (fun _ => ?_) (fun _ => ?_)
      · exact State.placeReport_sound h7
      · exact h7

/-! ### Replay -/

theorem State.decWait_sound {z s0} (k0 : Sound z s0) : Sound z (State.decWait s0) := by
  unfold State.decWait
  extract_lets +onlyGivenNames x0
  have h1 : Sound z x0 := State.orReg_sound k0
  try clear_value x0
  exact Sound.same h1 rfl rfl rfl rfl rfl

theorem State.syncLoss_sound {z s0} (k0 : Sound z s0) : Sound z (State.syncLoss s0) := by
  unfold State.syncLoss
  exact State.sendEv_sound (State.setReg_sound (State.setFld_sound (State.decWait_sound k0)))

theorem State.ringPass_sound {z s0 v1} (k0 : Sound z s0) : Sound z (State.ringPass s0 v1) := by
  unfold State.ringPass
  extract_lets +onlyGivenNames x0
  have h1 : Sound z x0 := State.setReg_sound k0
  try clear_value x0
  exact Sound.same h1 rfl rfl rfl rfl rfl

theorem State.recBad_sound {z s0} (k0 : Sound z s0) : Sound z (State.recBad s0) := by
  unfold State.recBad
  exact State.setReg_sound (State.bump_sound k0)

theorem State.recSkip_sound {z s0 v1 v2 v3} (k0 : Sound z s0) : Sound z (State.recSkip s0 v1 v2 v3) := by
  unfold State.recSkip
  extract_lets +onlyGivenNames x0
  have h1 : Sound z x0 := State.sendLimited_sound (State.orReg_sound (State.recBad_sound k0))
  try clear_value x0
  exact State.ringPass_sound (Sound.same h1 rfl rfl rfl rfl rfl)

theorem State.apply_sound {z s0 v1 v2 v3 v4} (k0 : Sound z s0) : Sound z (State.apply s0 v1 v2 v3 v4) := by
  unfold State.apply
  extract_lets +onlyGivenNames x0
  try clear_value x0
  split
  · exact State.camShow_sound (State.setCam_sound k0)
  · split
    · exact k0
    · extract_lets +onlyGivenNames x1
      try clear_value x1
      extract_lets +onlyGivenNames x2
      have h3 : Sound z x2 := State.setCam_sound k0
      try clear_value x2
      extract_lets +onlyGivenNames x4
      have h5 : Sound z x4 := by
        unfold x4
        refine Sound.ite (fun _ => ?_) (fun _ => ?_)
        · exact State.gaugeSee_sound h3
        · exact h3
      try clear_value x4
      refine State.camShow_sound ?_
      refine Sound.ite (fun _ => ?_) (fun _ => ?_)
      · exact h5
      · exact State.enterBuf_sound h5
  · extract_lets +onlyGivenNames -merge x6 x7
    try clear_value x6 x7
    extract_lets +onlyGivenNames x8
    have h9 : Sound z x8 := State.setCam_sound k0
    try clear_value x8
    extract_lets +onlyGivenNames x10
    have h11 : Sound z x10 := State.setReg_sound h9
    try clear_value x10
    extract_lets +onlyGivenNames x12
    have h13 : Sound z x12 := by
      unfold x12
      refine Sound.ite (fun _ => ?_) (fun _ => ?_)
      · exact State.gaugeSee_sound h11
      · exact h11
    try clear_value x12
    extract_lets +onlyGivenNames x14
    try clear_value x14
    exact State.camShow_sound (State.setBuf_sound h13)
  · split
    · exact k0
    · exact State.enterBuf_sound k0
  · exact Sound.same k0 rfl rfl rfl rfl rfl
  · extract_lets +onlyGivenNames x15
    try clear_value x15
    refine Sound.ite (fun _ => ?_) (fun _ => ?_)
    · refine Sound3.snd ?_
      exact State.twRun_sound k0
    · exact k0
  · exact k0

theorem State.releaseRec_sound {z s0 v1 v2 v3} (k0 : Sound z s0) : Sound z (State.releaseRec s0 v1 v2 v3) := by
  unfold State.releaseRec
  extract_lets +onlyGivenNames -merge x0 x1 x2
  try clear_value x0 x1 x2
  extract_lets +onlyGivenNames x3
  have h4 : Sound z x3 := by
    unfold x3
    refine Sound.ite (fun _ => ?_) (fun _ => ?_)
    · exact State.sendLimited_sound (State.setReg_sound (State.orReg_sound k0))
    · exact k0
  try clear_value x3
  extract_lets +onlyGivenNames -merge x5 x6 x7 x8
  try clear_value x5 x6 x7 x8
  extract_lets +onlyGivenNames -merge -underBinder x9 x10
  have h11 : Sound z x10 := Sound.same h4 rfl rfl rfl rfl rfl
  try clear_value x10
  extract_lets +onlyGivenNames x12
  have h13 : Sound z x12 := State.ringPass_sound h11
  try clear_value x12
  refine Sound.ite (fun _ => ?_) (fun _ => ?_)
  · exact State.keepCount_sound (State.acceptWith_sound h13)
  · exact State.apply_sound (Sound.same h13 rfl rfl rfl rfl rfl)

theorem doRecordRelease_sound {z s0} (k0 : Sound z s0) : Sound z (doRecordRelease s0) := by
  unfold doRecordRelease
  refine Sound.ite (fun _ => ?_) (fun _ => ?_)
  · exact k0
  · extract_lets +onlyGivenNames x0
    have h1 : Sound z x0 := by
      unfold x0
      refine Sound.ite (fun _ => ?_) (fun _ => ?_)
      · exact State.setReg_sound k0
      · exact k0
    try clear_value x0
    extract_lets +onlyGivenNames x2
    try clear_value x2
    refine Sound.ite (fun _ => ?_) (fun _ => ?_)
    · exact State.decWait_sound h1
    · refine Sound.ite (fun _ => ?_) (fun _ => ?_)
      · exact State.syncLoss_sound h1
      · split
        · next y3 y4 e =>
          have h5 : Sound z y4 := by
            refine Sound2.of e ?_
            exact State.hubRead_sound (Sound.same h1 rfl rfl rfl rfl rfl)
          extract_lets +onlyGivenNames x6
          have h7 : Sound z x6 := Sound.same h5 rfl rfl rfl rfl rfl
          try clear_value x6
          extract_lets +onlyGivenNames x8
          try clear_value x8
          refine Sound.ite (fun _ => ?_) (fun _ => ?_)
          · exact State.syncLoss_sound h7
          · refine Sound.ite (fun _ => ?_) (fun _ => ?_)
            · exact State.recSkip_sound h7
            · refine Sound.ite (fun _ => ?_) (fun _ => ?_)
              · exact State.recSkip_sound h7
              · refine Sound.ite (fun _ => ?_) (fun _ => ?_)
                · exact State.ringPass_sound h7
                · refine Sound.ite (fun _ => ?_) (fun _ => ?_)
                  · exact State.ringPass_sound (State.recBad_sound h7)
                  · refine Sound.ite (fun _ => ?_) (fun _ => ?_)
                    · exact h7
                    · split
                      · refine Sound.ite (fun _ => ?_) (fun _ => ?_)
                        · exact State.decWait_sound h7
                        · exact h7
                      · exact State.releaseRec_sound h7

theorem doReplayStarved_sound {z s0} (k0 : Sound z s0) : Sound z (doReplayStarved s0) := by
  unfold doReplayStarved
  split
  · exact k0
  · refine Sound.ite (fun _ => ?_) (fun _ => ?_)
    · exact State.sendEv_sound (Sound.same k0 rfl rfl rfl rfl rfl)
    · exact k0

theorem doPpsInput_sound {z v0 v1 s2} (k2 : Sound z s2) : Sound z (doPpsInput v0 v1 s2) := by
  unfold doPpsInput
  refine Sound.ite (fun _ => ?_) (fun _ => ?_)
  · exact k2
  · extract_lets +onlyGivenNames x0
    try clear_value x0
    extract_lets +onlyGivenNames -merge -underBinder x1 x2
    have h3 : Sound z x2 := Sound.same k2 rfl rfl rfl rfl rfl
    try clear_value x2
    refine doPpsEdge_sound ?_
    refine Sound2.snd ?_
    exact State.capture_sound h3

theorem doLaunchFrame_sound {z v0 v1 s2} (k2 : Sound z s2) : Sound z (doLaunchFrame v0 v1 s2) := by
  unfold doLaunchFrame
  split
  · exact k2
  · extract_lets +onlyGivenNames x0
    try clear_value x0
    split
    · extract_lets +onlyGivenNames x1
      have h2 : Sound z x1 := doLaunchSend_sound k2
      try clear_value x1
      refine Sound.ite (fun _ => ?_) (fun _ => ?_)
      · extract_lets +onlyGivenNames x3
        try clear_value x3
        exact State.ptpRecord_sound h2
      · exact h2

theorem State.twEth_sound {z s0 v1 v2 v3} (k0 : Sound z s0) : Sound z (State.twEth s0 v1 v2 v3) := by
  unfold State.twEth
  refine Sound.ite (fun _ => ?_) (fun _ => ?_)
  · exact k0
  · refine Sound.ite (fun _ => ?_) (fun _ => ?_)
    · exact State.bump_sound k0
    · extract_lets +onlyGivenNames x0
      have h1 : Sound z x0 := State.count_sound k0
      try clear_value x0
      split
      · refine Sound.ite (fun _ => ?_) (fun _ => ?_)
        · exact State.ptpRecord_sound h1
        · exact h1

theorem doEthInput_sound {z v0 v1 v2 v3 s4} (k4 : Sound z s4) : Sound z (doEthInput v0 v1 v2 v3 s4) := by
  unfold doEthInput
  refine Sound.ite (fun _ => ?_) (fun _ => ?_)
  · exact doEthFrame_sound k4
  · refine Sound.ite (fun _ => ?_) (fun _ => ?_)
    · exact State.twEth_sound k4
    · exact k4

theorem doAcceptKeep_sound {z v0 v1 v2 v3 s4} (k4 : Sound z s4) : Sound z (doAcceptKeep v0 v1 v2 v3 s4) := by
  unfold doAcceptKeep
  exact State.keepCount_sound (doAccept_sound k4)

end Sys2Proof.Machine
end

