-- ==== Sys2Proof/Tests/Slice0.lean ====
section
/-! SUPPORT. Tests: ill-formed commands are refused by WellFormed, the premises of every statement can be met, and single
steps and number formats against values that the specification gives. -/

namespace Sys2Proof.Tests

open Sys2Proof Sys2Proof.Machine

set_option Elab.async false

/-! ### Small states -/

/-- Cluster c runs and may issue from c-cycle 0. -/
def at0 (c : Nat) : State := State.reset.updSeq c (fun q => { q with st := .running })

/-- Cluster c runs, and its bundle is open. -/
def bundle (c : Nat) : State := State.reset.updSeq c (fun q => { q with st := .running, isOpen := true, next := 1 })

/-- Cluster c runs, its bundle is open, and its argument registers hold the given words. -/
def withArgs (c : Nat) (l : List (Nat × Nat)) : State :=
  (bundle c).updSeq c (fun q => { q with args := l.foldl (fun t e => t.set e.1 (BitVec.ofNat 32 e.2)) q.args, argSnap := l.foldl (fun t e => t.set e.1 (BitVec.ofNat 32 e.2)) q.argSnap })

/-- Cluster c runs and holds its bundle under a wait. -/
def held (c : Nat) (w : WaitKind) (arg : Nat) : State :=
  State.reset.updSeq c (fun q => { q with st := .running, wait := w, waitArg := arg })

/-- 64 bytes with some of them set. -/
def bytes64 (l : List (Nat × Nat)) : List Byte := (upTo 64).map (fun i => BitVec.ofNat 8 ((lookup l i).getD 0))

/-- Context 255 in state v, with rings of 64 and 128 entries and INFL = 4. -/
def ctx255 (v : Nat) : State :=
  ((State.reset.setReg (regCtx 255 4) (BitVec.ofNat 32 v)).setReg (regCtx 255 0x18) 0x00070006).setReg (regCtx 255 0x28) 4

/-- A journal entry of context 255 with number 7. -/
def entry7 (l : List (Nat × Nat)) (started : Bool) : JEntry := ⟨255, 7, bytes64 l, 0, 0, false, started, none, false, false⟩

/-- Context 255 is enabled, with one entry in the journal. -/
def with7 (e : JEntry) : State := { ctx255 1 with host := { (ctx255 1).host with journal := [e] } }

/-- A run record of context 255 with number 3. -/
def run3 (standing : Bool) : RunRec :=
  ⟨255, 3, 0, 7, standing, [], 0, [], (0, 0), (0, 0), ⟨false, 0, 0, 0, 0, [], [], [], false, false, 0, [], 0⟩, 0, none, [], []⟩

/-- A state whose record history knows capture 0 as record 5. -/
def known0 (s : State) : State := { s with rcd := { s.rcd with hist := [⟨5, 0, 0, 0, []⟩] } }

/-! ### Operands -/

/- Every command at the last value of each of its ranges. -/
theorem test_well_formed_1 : ([
    .startRecord 63 ⟨0, [], 0, 0, 0, false, 0⟩, .nop 63 4294967295, .setl 63 4294967295, .seth 63 4294967295,
    .addi 63 4294967295, .lda 63 4294967295, .step 63 4294967295, .lset 63 4294967295,
    .bloop 63 4294967295, .br 63 4294967295, .waitc 63 4294967295, .waitcRelease 63,
    .waitg 63 4294967295, .waitgRelease 63 0, .waitx 63 4294967295, .waitxRelease 63,
    .waitb 63 4294967295, .waitbRelease 63 0, .bar 63 4294967295, .barRelease 63 0,
    .fence 63 4294967295, .fenceRelease 63, .flagclr 63 4294967295, .endProgram 63 4294967295,
    .endCompletion 63, .waitTimeout 63, .mxT 63 7 4294967295, .mxP 63 7 4294967295,
    .mxQ 63 7 4294967295, .mxW 63 7 4294967295, .mxG 63 7 4294967295, .mxLd 63 7 4294967295,
    .mxDr 63 7 4294967295, .edAtt 63 7 4294967295, .vuLd 63 7 4294967295, .vuAdd 63 7 4294967295,
    .vuSub 63 7 4294967295, .vuMul 63 7 4294967295, .vuMax 63 7 4294967295, .vuMin 63 7 4294967295,
    .vuTab 63 7 4294967295, .vuSumr 63 7 4294967295, .vuMaxr 63 7 4294967295, .vuOut 63 7 4294967295,
    .vuTld 63 7 4294967295, .vuBci 63 7 4294967295, .slP1 63 7 4294967295, .slP2 63 7 4294967295] : List Instr).all (fun i => i.wf = true) = true := by decide +kernel

theorem test_well_formed_2 : ([
    .slCv 63 7 4294967295, .slTld 63 7 4294967295, .slZld 63 7 4294967295, .slSeed 63 7 4294967295,
    .slKl 63 7 4294967295, .slKa 63 7 4294967295, .slKu 63 7 4294967295, .setReady 63 1,
    .stRing 63 7 4294967295, .stWin 63 7 4294967295, .stRpk 63 7 4294967295, .stTrp 63 7 4294967295,
    .rdSum 63 7 4294967295, .cpRun 63 7 true 4294967295, .pullLanding 63 15 255 0 true [], .pullCommit 63,
    .outboundComplete 63 15 0, .mcastPull 18446744073709551615 true [], .copyDeadline 63 15, .egRun 63 7 4294967295,
    .egRunComplete 3, .serviceAccess 63 131071 none, .clMemclr 63, .sqTail 255 0,
    .cqHead 255 0, .accept 255 true [] 15, .descriptorNop 255 281474976710655, .loadp 255 281474976710655,
    .loadw 255 281474976710655, .run 255 281474976710655 0, .copy 255 281474976710655, .decode 255 281474976710655 none,
    .kvopShare 255 281474976710655, .kvopRelease 255 281474976710655, .kvopTruncate 255 281474976710655, .disarm 255 281474976710655,
    .outcomeRecord 255, .msixHoldoffExpiry 256, .enable 255, .disable 255,
    .abort 255, .contextReset 255, .hostLoss 2, .d3hotEntry,
    .d0Return, .kvWrite 63 15, .kvShare 255 63 0 255 63 0 0 0, .kvRelease 255 63 0 0 0] : List Instr).all (fun i => i.wf = true) = true := by decide +kernel

theorem test_well_formed_3 : ([
    .kvTruncate 255 63 0 0, .kvInit, .decodeWindowClose 15, .frameStart 15 3 2 true 0,
    .longPacket 15 3 63 2 true true [] 0, .frameEnd 15 3 2 true, .embeddedData 15 3 2 true [] 0, .frameTimeout 15 3,
    .lossOfLock 15, .lockAcquired 15 3, .sensStreamTimeout 95, .triggerRequest 15 0,
    .triggerSend 15, .pen 15 0, .clr 15, .rampEnd 15 true,
    .pocShort 15 true, .pocOverload 15, .openLoad 15, .dischargeEnd 15,
    .pocMeasurement 15 65535 65535, .ethFrame 4 true [] 0, .ethLink 4, .weirDrop 19,
    .lineGroupAdmission 15, .stripeReady 63, .frameCloseEmit 15, .viewEnable 31 0,
    .meshLoad 0, .lidarBlock 3, .lidarEnable 95 0, .recordCapture,
    .recordingResume, .recordRelease, .dcResync 4294967295, .replayStarved,
    .rdReady 255 281474976710655 0, .dtCfg 16 0, .windowEnable 255 16 0, .pieceArrival 0 0 true,
    .dataTurn 63, .normalServe 63, .refTurn 63, .trrTurn 63,
    .scrubTurn 63, .hbmLinkRetry 63, .hbmTempRead 1 0, .srenter] : List Instr).all (fun i => i.wf = true) = true := by decide +kernel

theorem test_well_formed_4 : ([
    .srexit, .hbmGo 1 (some 31), .hbCal 63 4294967295, .hbPaircls 2 4294967295,
    .timeTick, .setTime, .adjTime, .incCommit 0,
    .tbSecLo, .refsrc 0, .ppsEdge 15 0, .syncMessage 4 255,
    .referenceTimeout, .launchGo 4, .launchSend 4 15, .stns 4,
    .timeFiring 63 0, .azimuthFiring 63 0, .lineFiring 63 0, .stripeFiring 63 0,
    .predictFiring 63 0, .fallback 63 0, .heldStepStart 255 281474976710655 0, .gaugeEnable 63 0,
    .flitReceive 7 2 [], .nak 7 4095, .portEnable 7 0, .byp 7 true,
    .trainResult 7 true 2047 7, .retrain 7, .packetHop, .writePacket [],
    .wack [], .wnak [], .rtoExpiry 15 7 4294967295, .confirm [],
    .retract [] (some (15, 0)), .ownChecks 15, .epochTimeout 15, .arm 15,
    .jobAbort 15, .abortMessage [], .quietExpiry 15, .faultMessage 4095 true none,
    .keepAlive 4095, .fcAck 0, .ackDeadline 255, .fcFence 4095] : List Instr).all (fun i => i.wf = true) = true := by decide +kernel

theorem test_well_formed_5 : ([
    .returnToService 4095 [], .fcSev 4294967295 0, .towpathReport, .historyWrite,
    .operatingHours, .release 31, .releaseDeadline 31, .safetyRequest 4095 255,
    .pinMonitor true true, .safePin true true, .ksGo, .ksClear,
    .ksEnter, .outputEnable 32 0, .footbridgeRun, .footbridgeRunEnd,
    .fbFault 255, .knownAnswerRun true, .selectRelease 0 [0], .selectTimeout 0,
    .sspiNop, .alive 0, .reqsafe, .spiHeartbeatTimeout,
    .selftestSlot 3, .selftestComplete 3 255, .selftestOverdue 63, .cmdTimeout 255 4095 0 (some (63, 15, 255, 0)),
    .clusterReset 63, .regionReset 15, .dieReset 3, .hubSubblockReset 4095,
    .resetEscalation 4095, .packageHalt, .packageReset ⟨[], 0, 2, 0, [], 0, [], none, true, [], none⟩, .pkgRstN 0,
    .rcCluster 65535 4095, .rcRegion 65535 4095, .rcDie 65535 4095, .rcHub 65535 4095,
    .rcPackage 65535, .rcDump 65535, .reExecution 255 281474976710655 0, .lockstep 2,
    .mgKick 1 0, .pairWatchdog 1, .pairResetEnd 1, .pairTestEnd 1 true] : List Instr).all (fun i => i.wf = true) = true := by decide +kernel

theorem test_well_formed_6 : ([
    .mgtWdog, .mwdrstReset, .shedWindow 100 100, .telemetry,
    .spanref none, .dumpmove, .read 281474976710655 [], .attest 281474976710655 [],
    .cert 281474976710655 [], .challenge 281474976710655 [], .write 281474976710655 [], .ack 281474976710655 [],
    .towpathReset 281474976710655 [], .cfgwrite 281474976710655 [], .dumpread 281474976710655 [], .fwchunk 281474976710655 [],
    .fwcommit 281474976710655 [] true, .svnbump 281474976710655 [], .histclear 281474976710655 [], .ownerkey 281474976710655 [],
    .mbGo 0, .pwOpreq 3 0, .opPointChange 3, .powerUp 0 0,
    .chargeTimeout, .vinUv 65535, .powerFail 65535, .vinOv 65535,
    .disconnect 65535, .stretchWindow ⟨0, 0, 0, 0, []⟩, .pointLowering 3, .dieHot 4 255 0,
    .dieOvertemp 4 255 0, .standbyEntry, .standbyExit, .regionGating 15,
    .clkMon 39 0 true true, .oscFail 2 0, .clkOsc 0, .vrFault 4 255,
    .fmapRead 23, .apCntclr 15, .lpCntclr 3, .wrClr,
    .tbCntclr, .lqCntclr 4, .gaCntclr 63, .vdCntclr] : List Instr).all (fun i => i.wf = true) = true := by decide +kernel

theorem test_well_formed_7 : ([
    .vpCntclr 7, .ssCntclr, .twCntclr, .registerWrite 8388604 0 true,
    .hostTransferComplete 255 281474976710655 true [], .pcieLinkUp, .ethLinkUp 4, .selectFallingEdge 3,
    .vinUvClear 65535, .dieHotClear 4 255 0, .opRequestTimeout 3, .wnakResend 15 7 4294967295,
    .receiverEnable 19 0, .pinthWrite 0] : List Instr).all (fun i => i.wf = true) = true := by decide +kernel

/- Each check refuses an operand just outside its range. -/
theorem test_ill_formed_1 : ([
    .startRecord 64 ⟨0, [], 0, 0, 0, false, 0⟩, .nop 64 4294967295, .nop 63 4294967296, .setl 64 4294967295,
    .setl 63 4294967296, .seth 64 4294967295, .seth 63 4294967296, .addi 64 4294967295,
    .addi 63 4294967296, .lda 64 4294967295, .lda 63 4294967296, .step 64 4294967295,
    .step 63 4294967296, .lset 64 4294967295, .lset 63 4294967296, .bloop 64 4294967295,
    .bloop 63 4294967296, .br 64 4294967295, .br 63 4294967296, .waitc 64 4294967295,
    .waitc 63 4294967296, .waitcRelease 64, .waitg 64 4294967295, .waitg 63 4294967296,
    .waitgRelease 64 0, .waitx 64 4294967295, .waitx 63 4294967296, .waitxRelease 64,
    .waitb 64 4294967295, .waitb 63 4294967296, .waitbRelease 64 0, .bar 64 4294967295,
    .bar 63 4294967296, .barRelease 64 0, .fence 64 4294967295, .fence 63 4294967296,
    .fenceRelease 64, .flagclr 64 4294967295, .flagclr 63 4294967296, .endProgram 64 4294967295,
    .endProgram 63 4294967296, .endCompletion 64, .waitTimeout 64, .mxT 64 7 4294967295,
    .mxT 63 0 4294967295, .mxT 63 8 4294967295, .mxT 63 7 4294967296, .mxP 64 7 4294967295] : List Instr).all (fun i => i.wf = false) = true := by decide +kernel

theorem test_ill_formed_2 : ([
    .mxP 63 0 4294967295, .mxP 63 8 4294967295, .mxP 63 7 4294967296, .mxQ 64 7 4294967295,
    .mxQ 63 0 4294967295, .mxQ 63 8 4294967295, .mxQ 63 7 4294967296, .mxW 64 7 4294967295,
    .mxW 63 0 4294967295, .mxW 63 8 4294967295, .mxW 63 7 4294967296, .mxG 64 7 4294967295,
    .mxG 63 0 4294967295, .mxG 63 8 4294967295, .mxG 63 7 4294967296, .mxLd 64 7 4294967295,
    .mxLd 63 0 4294967295, .mxLd 63 8 4294967295, .mxLd 63 7 4294967296, .mxDr 64 7 4294967295,
    .mxDr 63 0 4294967295, .mxDr 63 8 4294967295, .mxDr 63 7 4294967296, .edAtt 64 7 4294967295,
    .edAtt 63 0 4294967295, .edAtt 63 8 4294967295, .edAtt 63 7 4294967296, .vuLd 64 7 4294967295,
    .vuLd 63 0 4294967295, .vuLd 63 8 4294967295, .vuLd 63 7 4294967296, .vuAdd 64 7 4294967295,
    .vuAdd 63 0 4294967295, .vuAdd 63 8 4294967295, .vuAdd 63 7 4294967296, .vuSub 64 7 4294967295,
    .vuSub 63 0 4294967295, .vuSub 63 8 4294967295, .vuSub 63 7 4294967296, .vuMul 64 7 4294967295,
    .vuMul 63 0 4294967295, .vuMul 63 8 4294967295, .vuMul 63 7 4294967296, .vuMax 64 7 4294967295,
    .vuMax 63 0 4294967295, .vuMax 63 8 4294967295, .vuMax 63 7 4294967296, .vuMin 64 7 4294967295] : List Instr).all (fun i => i.wf = false) = true := by decide +kernel

theorem test_ill_formed_3 : ([
    .vuMin 63 0 4294967295, .vuMin 63 8 4294967295, .vuMin 63 7 4294967296, .vuTab 64 7 4294967295,
    .vuTab 63 0 4294967295, .vuTab 63 8 4294967295, .vuTab 63 7 4294967296, .vuSumr 64 7 4294967295,
    .vuSumr 63 0 4294967295, .vuSumr 63 8 4294967295, .vuSumr 63 7 4294967296, .vuMaxr 64 7 4294967295,
    .vuMaxr 63 0 4294967295, .vuMaxr 63 8 4294967295, .vuMaxr 63 7 4294967296, .vuOut 64 7 4294967295,
    .vuOut 63 0 4294967295, .vuOut 63 8 4294967295, .vuOut 63 7 4294967296, .vuTld 64 7 4294967295,
    .vuTld 63 0 4294967295, .vuTld 63 8 4294967295, .vuTld 63 7 4294967296, .vuBci 64 7 4294967295,
    .vuBci 63 0 4294967295, .vuBci 63 8 4294967295, .vuBci 63 7 4294967296, .slP1 64 7 4294967295,
    .slP1 63 0 4294967295, .slP1 63 8 4294967295, .slP1 63 7 4294967296, .slP2 64 7 4294967295,
    .slP2 63 0 4294967295, .slP2 63 8 4294967295, .slP2 63 7 4294967296, .slCv 64 7 4294967295,
    .slCv 63 0 4294967295, .slCv 63 8 4294967295, .slCv 63 7 4294967296, .slTld 64 7 4294967295,
    .slTld 63 0 4294967295, .slTld 63 8 4294967295, .slTld 63 7 4294967296, .slZld 64 7 4294967295,
    .slZld 63 0 4294967295, .slZld 63 8 4294967295, .slZld 63 7 4294967296, .slSeed 64 7 4294967295] : List Instr).all (fun i => i.wf = false) = true := by decide +kernel

theorem test_ill_formed_4 : ([
    .slSeed 63 0 4294967295, .slSeed 63 8 4294967295, .slSeed 63 7 4294967296, .slKl 64 7 4294967295,
    .slKl 63 0 4294967295, .slKl 63 8 4294967295, .slKl 63 7 4294967296, .slKa 64 7 4294967295,
    .slKa 63 0 4294967295, .slKa 63 8 4294967295, .slKa 63 7 4294967296, .slKu 64 7 4294967295,
    .slKu 63 0 4294967295, .slKu 63 8 4294967295, .slKu 63 7 4294967296, .setReady 64 1,
    .setReady 63 2, .stRing 64 7 4294967295, .stRing 63 0 4294967295, .stRing 63 8 4294967295,
    .stRing 63 7 4294967296, .stWin 64 7 4294967295, .stWin 63 0 4294967295, .stWin 63 8 4294967295,
    .stWin 63 7 4294967296, .stRpk 64 7 4294967295, .stRpk 63 0 4294967295, .stRpk 63 8 4294967295,
    .stRpk 63 7 4294967296, .stTrp 64 7 4294967295, .stTrp 63 0 4294967295, .stTrp 63 8 4294967295,
    .stTrp 63 7 4294967296, .rdSum 64 7 4294967295, .rdSum 63 0 4294967295, .rdSum 63 8 4294967295,
    .rdSum 63 7 4294967296, .cpRun 64 7 true 4294967295, .cpRun 63 0 true 4294967295, .cpRun 63 8 true 4294967295,
    .cpRun 63 7 true 4294967296, .pullLanding 64 15 255 0 true [], .pullLanding 63 16 255 0 true [], .pullLanding 63 15 256 0 true [],
    .pullCommit 64, .outboundComplete 64 15 0, .outboundComplete 63 16 0, .mcastPull 18446744073709551616 true []] : List Instr).all (fun i => i.wf = false) = true := by decide +kernel

theorem test_ill_formed_5 : ([
    .copyDeadline 64 15, .copyDeadline 63 16, .egRun 64 7 4294967295, .egRun 63 0 4294967295,
    .egRun 63 8 4294967295, .egRun 63 7 4294967296, .egRunComplete 4, .serviceAccess 64 131071 none,
    .serviceAccess 63 131072 none, .serviceAccess 63 131071 (some [0]), .clMemclr 64, .sqTail 256 0,
    .cqHead 256 0, .accept 256 true [] 15, .accept 255 true [] 16, .descriptorNop 256 281474976710655,
    .descriptorNop 255 281474976710656, .loadp 256 281474976710655, .loadp 255 281474976710656, .loadw 256 281474976710655,
    .loadw 255 281474976710656, .run 256 281474976710655 0, .run 255 281474976710656 0, .copy 256 281474976710655,
    .copy 255 281474976710656, .decode 256 281474976710655 none, .decode 255 281474976710656 none, .kvopShare 256 281474976710655,
    .kvopShare 255 281474976710656, .kvopRelease 256 281474976710655, .kvopRelease 255 281474976710656, .kvopTruncate 256 281474976710655,
    .kvopTruncate 255 281474976710656, .disarm 256 281474976710655, .disarm 255 281474976710656, .outcomeRecord 256,
    .msixHoldoffExpiry 257, .enable 256, .disable 256, .abort 256,
    .contextReset 256, .hostLoss 3, .kvWrite 64 15, .kvWrite 63 16,
    .kvShare 256 63 0 255 63 0 0 0, .kvShare 255 64 0 255 63 0 0 0, .kvShare 255 63 0 256 63 0 0 0, .kvShare 255 63 0 255 64 0 0 0] : List Instr).all (fun i => i.wf = false) = true := by decide +kernel

theorem test_ill_formed_6 : ([
    .kvRelease 256 63 0 0 0, .kvRelease 255 64 0 0 0, .kvTruncate 256 63 0 0, .kvTruncate 255 64 0 0,
    .decodeWindowClose 16, .frameStart 16 3 2 true 0, .frameStart 15 4 2 true 0, .frameStart 15 3 3 true 0,
    .longPacket 16 3 63 2 true true [] 0, .longPacket 15 4 63 2 true true [] 0, .longPacket 15 3 64 2 true true [] 0, .longPacket 15 3 63 3 true true [] 0,
    .longPacket 15 3 63 2 true true (List.replicate (2 ^ 16) 0) 0, .frameEnd 16 3 2 true, .frameEnd 15 4 2 true, .frameEnd 15 3 3 true,
    .embeddedData 16 3 2 true [] 0, .embeddedData 15 4 2 true [] 0, .embeddedData 15 3 3 true [] 0, .frameTimeout 16 3,
    .frameTimeout 15 4, .lossOfLock 16, .lockAcquired 16 3, .lockAcquired 15 0,
    .lockAcquired 15 4, .sensStreamTimeout 96, .triggerRequest 16 0, .triggerSend 16,
    .pen 16 0, .clr 16, .rampEnd 16 true, .pocShort 16 true,
    .pocOverload 16, .openLoad 16, .dischargeEnd 16, .pocMeasurement 16 65535 65535,
    .pocMeasurement 15 65536 65535, .pocMeasurement 15 65535 65536, .ethFrame 5 true [] 0, .ethLink 5,
    .weirDrop 20, .lineGroupAdmission 16, .stripeReady 64, .frameCloseEmit 16,
    .viewEnable 32 0, .lidarBlock 4, .lidarEnable 63 0, .lidarEnable 96 0] : List Instr).all (fun i => i.wf = false) = true := by decide +kernel

theorem test_ill_formed_7 : ([
    .dcResync 4294967296, .rdReady 256 281474976710655 0, .rdReady 255 281474976710656 0, .dtCfg 4 0,
    .windowEnable 256 16 0, .windowEnable 255 17 0, .dataTurn 64, .normalServe 64,
    .refTurn 64, .trrTurn 64, .scrubTurn 64, .hbmLinkRetry 64,
    .hbmTempRead 2 0, .hbmGo 2 (some 31), .hbmGo 1 (some 32), .hbCal 64 4294967295,
    .hbCal 63 4294967296, .hbPaircls 3 4294967295, .hbPaircls 2 4294967296, .ppsEdge 16 0,
    .syncMessage 5 255, .syncMessage 4 256, .launchGo 5, .launchSend 5 15,
    .launchSend 4 16, .stns 5, .timeFiring 64 0, .azimuthFiring 64 0,
    .lineFiring 64 0, .stripeFiring 64 0, .predictFiring 64 0, .fallback 64 0,
    .heldStepStart 256 281474976710655 0, .heldStepStart 255 281474976710656 0, .gaugeEnable 64 0, .flitReceive 8 2 [],
    .flitReceive 7 3 [], .nak 8 4095, .nak 7 4096, .portEnable 8 0,
    .byp 8 true, .trainResult 8 true 2047 7, .trainResult 7 true 2048 7, .trainResult 7 true 2047 8,
    .retrain 8, .rtoExpiry 16 7 4294967295, .rtoExpiry 15 8 4294967295, .rtoExpiry 15 7 4294967296] : List Instr).all (fun i => i.wf = false) = true := by decide +kernel

theorem test_ill_formed_8 : ([
    .retract [] (some (16, 0)), .ownChecks 16, .epochTimeout 16, .arm 16,
    .jobAbort 16, .quietExpiry 16, .faultMessage 4096 true none, .keepAlive 4096,
    .ackDeadline 256, .fcFence 4096, .returnToService 4096 [], .fcSev 4294967296 0,
    .release 32, .releaseDeadline 32, .safetyRequest 4096 255, .safetyRequest 4095 256,
    .outputEnable 33 0, .fbFault 256, .selectRelease 0 [0, 0, 0, 0, 0, 0, 0, 0, 0], .selectRelease 0 [4294967296],
    .selftestSlot 4, .selftestComplete 4 255, .selftestComplete 3 256, .selftestOverdue 64,
    .cmdTimeout 256 4095 0 (some (63, 15, 255, 0)), .cmdTimeout 255 4096 0 (some (63, 15, 255, 0)), .cmdTimeout 255 4095 0 (some (64, 0, 0, 0)), .cmdTimeout 255 4095 0 (some (0, 16, 0, 0)),
    .cmdTimeout 255 4095 0 (some (0, 0, 256, 0)), .clusterReset 64, .regionReset 16, .dieReset 4,
    .hubSubblockReset 4096, .resetEscalation 4096, .rcCluster 65536 4095, .rcCluster 65535 4096,
    .rcRegion 65536 4095, .rcRegion 65535 4096, .rcDie 65536 4095, .rcDie 65535 4096,
    .rcHub 65536 4095, .rcHub 65535 4096, .rcPackage 65536, .rcDump 65536,
    .reExecution 256 281474976710655 0, .reExecution 255 281474976710656 0, .lockstep 3, .mgKick 2 0] : List Instr).all (fun i => i.wf = false) = true := by decide +kernel

theorem test_ill_formed_9 : ([
    .pairWatchdog 2, .pairResetEnd 2, .pairTestEnd 2 true, .shedWindow 101 100,
    .shedWindow 100 101, .read 281474976710656 [], .attest 281474976710656 [], .cert 281474976710656 [],
    .challenge 281474976710656 [], .write 281474976710656 [], .ack 281474976710656 [], .towpathReset 281474976710656 [],
    .cfgwrite 281474976710656 [], .dumpread 281474976710656 [], .fwchunk 281474976710656 [], .fwcommit 281474976710656 [] true,
    .svnbump 281474976710656 [], .histclear 281474976710656 [], .ownerkey 281474976710656 [], .pwOpreq 4 0,
    .opPointChange 4, .vinUv 65536, .powerFail 65536, .vinOv 65536,
    .disconnect 65536, .pointLowering 4, .dieHot 5 255 0, .dieHot 4 256 0,
    .dieOvertemp 5 255 0, .dieOvertemp 4 256 0, .regionGating 16, .clkMon 40 0 true true,
    .oscFail 3 0, .vrFault 5 255, .vrFault 4 256, .fmapRead 24,
    .apCntclr 16, .lpCntclr 4, .lqCntclr 5, .gaCntclr 64,
    .vpCntclr 8, .registerWrite 8388608 0 true, .registerWrite 2 0 true, .hostTransferComplete 256 281474976710655 true [],
    .hostTransferComplete 255 281474976710656 true [], .ethLinkUp 5, .selectFallingEdge 1, .vinUvClear 65536] : List Instr).all (fun i => i.wf = false) = true := by decide +kernel

theorem test_ill_formed_10 : ([
    .dieHotClear 5 255 0, .dieHotClear 4 256 0, .opRequestTimeout 4, .wnakResend 16 7 4294967295,
    .wnakResend 15 8 4294967295, .wnakResend 15 7 4294967296, .receiverEnable 20 0] : List Instr).all (fun i => i.wf = false) = true := by decide +kernel

/-! ### Premises of the statements can be met -/

theorem test_premises_ArgumentsLoopsAndBranches :
    (at0 63).mayIssue 63 ∧ bitsOf (2 ^ 26) 25 0 = 0 ∧ bitsOf 0xFFFF 19 16 = 0 ∧ bitOf 5 22 = false ∧ bitsOf 5 21 20 = 0
      ∧ bitOf (2 ^ 22) 22 = true ∧ bitsOf (2 ^ 22) 21 6 = 0 ∧ bitsOf 4095 25 12 = 0 ∧ bitsOf 4095 22 12 = 0
      ∧ ((((at0 63).updSeq 63 (fun q => { q with lc := q.lc.set 0 2 })).nextBundle 63).cl 63).seq.lc.get 0 0 = 2
      ∧ (((at0 63).nextBundle 63).cl 63).seq.lc.get 0 0 = 0 := by
  unfold State.mayIssue
  decide +kernel

theorem test_premises_TimedControl :
    (at0 63).mayIssue 63 ∧ bitsOf 65535 25 16 = 0 ∧ bitsOf (2 ^ 20 - 1) 25 20 = 0
      ∧ (∀ b, b < 32 → (((upTo 12).map (fun i => (((at0 63).nextBundle 63).cl 63).seq.args.get (48 + i) 0)).filter
          (fun m => bitOf m.toNat b)).length ≤ 1) ∧ bitsOf 131071 19 17 = 0 ∧ bitsOf 131071 22 20 = 0 := by
  unfold State.mayIssue
  decide +kernel

theorem test_premises_HeldBundles :
    (at0 3).mayIssue 3 ∧ ((at0 3).updSeq 3 (fun q => { q with args := q.args.set 0 8 })).mayIssue 3
      ∧ (let u := ((at0 3).updSeq 3 (fun q => { q with args := q.args.set 0 8 })).nextBundle 3
        let q := (u.cl 3).seq
        u.hostOf 3 = some 3 ∧ bitOf ((q.args.get 0 0).toNat + (q.args.get 1 0).toNat * 2 ^ 32) 3 = true) := by
  unfold State.mayIssue
  decide +kernel

/-- Cluster 63 with an open bundle and every plane loaded. -/
def loaded : State :=
  [0, 1, 2, 3].foldl (fun (s : State) t => s.updTile 63 t (fun x =>
    { x with plane0 := { x.plane0 with loaded := true, gs := 0 }, plane1 := { x.plane1 with loaded := true, gs := 0 } })) (bundle 63)

/-- Cluster 63 with an open bundle and staging set 0 in a state; where it fills, one delivery has come. -/
def staged (st : SetState) : State :=
  let v : StageSet :=
    ⟨st, slParamsOf 0, if st = .filling then [(0, 0)] else [], ⟨if st = .filling then [(0, [])] else []⟩, [], 0⟩
  (bundle 63).updCl 63 (fun k => { k with sl := k.sl.putSet 0 v })

/-- Cluster 63 with an open bundle and an empty staging set 0 that fills. -/
def filling : State :=
  (bundle 63).updCl 63 (fun k => { k with sl := k.sl.putSet 0 ⟨.filling, slParamsOf 0, [], ⟨[]⟩, [], 0⟩ })

/-- MX.DR of one row to S0 in slot 1, before SL.P1 of S0 in slot 2 where `p1`. -/
def drained (p1 : Bool) : State :=
  let s := doMxDr 63 1 (6 * 2 ^ 25) (bundle 63)
  if p1 then doSlP1 63 2 0 s else s

/-- The order of the slots has no meaning (R219): the drain finds its set opened by the same bundle, and without it the
bundle is refused for the drain's slot. -/
theorem test_slots_have_no_order :
    ((doNop 63 0 (drained true)).cl 63).seq.st = .running ∧ ((doNop 63 0 (drained false)).cl 63).seq.st = .stopped
      ∧ (doNop 63 0 (drained false)).fld (regCl 63 4) 31 20 = 0x052 := by
  repeat' apply And.intro
  all_goals decide +kernel

theorem test_premises_MatrixUnit :
    (∀ shape, shape < 5 →
      let o := shape * 2 ^ 25
      let k := loaded.cl 63
      let bl := k.seq.argBlock (bitsOf o 5 0) 2
      let as := bl.getD []
      let p := mxParOf o (as.getD 0 0) (as.getD 1 0)
      loaded.mayUse 63 7 (p.tiles.map portEdge) ∧ mxBad o (as.getD 1 0) bl = false ∧ p.planesBad k = false
        ∧ p.held k k.seq.cyc = false)
    ∧ (let o := 5 * 2 ^ 25
      let k := loaded.cl 63
      loaded.mayUse 63 1 ((ldTiles o).map portWeight) ∧ ldBad o (k.seq.argBlock 0 2) = false
        ∧ ∀ t ∈ ldTiles o, (k.tile t).portFree ≤ k.seq.cyc ∧ ((k.tile t).plane 0).usedUntil ≤ k.seq.cyc)
    ∧ (let o := 6 * 2 ^ 25 + 2 ^ 8
      loaded.mayUse 63 2 [portDrain 0] ∧ drBad o = false ∧ ((loaded.cl 63).tile 0).drainFree ≤ 0 ∧ bitOf o 8 = true)
    ∧ (let o := 6 * 2 ^ 25
      filling.mayUse 63 2 [portDrain 0] ∧ drBad o = false) := by
  simp only [State.mayUse]
  repeat' apply And.intro
  all_goals decide +kernel

theorem test_premises_VectorUnit :
    (bundle 63).mayUse 63 7 [portVector] ∧ (∀ n, n < 7 → n ∉ ((bundle 63).cl 63).vu.writes)
      ∧ bitsOf 0 20 18 + bitsOf 0 17 15 ≤ 7 ∧ ((bundle 63).cl 63).vu.portFree ≤ 0 ∧ bitsOf 62 5 0 < 63 ∧ bitsOf 62 8 7 ≠ 3
      ∧ filling.mayUse 63 1 [portVector] ∧ bitsOf 0 10 9 ≠ 3
      ∧ (let w := (bundle 63).updCl 63 (fun k => { k with sl := k.sl.putSet 0 ⟨.filling, slParamsOf 192, [], ⟨[]⟩, [], 0⟩ })
        w.mayUse 63 1 [portVector]) := by
  simp only [State.mayUse]
  repeat' apply And.intro
  all_goals decide +kernel

theorem test_premises_StagingSets :
    ((bundle 63).mayUse 63 1 [portSluice] ∧ bitsOf 0 22 6 = 0 ∧ slParamsBad 0 = false ∧ (((bundle 63).cl 63).sl.set 0).st = .free
        ∧ (((bundle 63).cl 63).sl.set 1).st = .free)
      ∧ (let k := (staged .ready).cl 63
        (staged .ready).mayUse 63 1 [portSluice] ∧ bitsOf (2 ^ 23 - 2 ^ 23) 5 0 < 63 ∧ (k.sl.set 0).st = .ready
          ∧ (k.sl.set 0).lastAt + 6 ≤ 6 ∧ k.sl.outMeets ((upTo (k.sl.set 0).par.m).map (fun m => 6 + m + 8)) = false
          ∧ k.sl.outMeets ((upTo (k.sl.set 0).par.m).map (fun m => 6 + m + 9)) = false)
      ∧ (let s := (staged .ready).updSeq 63 (fun q => { q with cyc := 6 })
        s.mayUse 63 1 [portSluice] ∧ (s.cl 63).seq.cyc = 6 ∧ ((s.cl 63).sl.set 0).st = .ready)
      ∧ (let s := staged .filling
        let k := s.cl 63
        let y := ((s.runTo 63 ((k.sl.set 0).lastAt + 6)).cl 63).sl.set 0
        k.seq.st = .running ∧ (((s.seal 63).cl 63).sl.set 0).posn.length = (k.sl.set 0).par.m * ((k.sl.set 0).par.w / 64)
          ∧ y.st = .filling ∧ y.complete = true)
      ∧ (let k := (drained true).cl 63
        k.seq.st = .running ∧ k.seq.wait = .none ∧ k.seq.cyc < k.seq.next ∧ k.seq.due ≠ []
          ∧ k.sl.firstRefused k.seq.due = none) := by
  simp only [State.mayUse]
  repeat' apply And.intro
  all_goals decide +kernel

theorem test_premises_SluiceLoads :
    (bundle 63).mayUse 63 7 [portSluice] ∧ bitOf 63 23 = false ∧ bitsOf 63 16 6 = 0 ∧ bitsOf 0 22 17 + (bitsOf 63 22 17 + 1) ≤ 64
      ∧ bitsOf 0 22 17 + (bitsOf (63 * 2 ^ 17) 22 17 + 1) ≤ 64 ∧ bitsOf (15 * 2 ^ 20) 19 6 = 0 ∧ bitsOf 63 23 6 = 0
      ∧ bitsOf (2 * 2 ^ 21) 20 6 = 0 ∧ bitsOf (2 * 2 ^ 21) 22 21 ≠ 3 := by
  simp only [State.mayUse]
  repeat' apply And.intro
  all_goals decide +kernel

theorem test_premises_DirectPathAndEddy :
    ((bundle 63).mayUse 63 7 [portSluice] ∧ ((bundle 63).cl 63).seq.argBlock 60 4 ≠ none ∧ bitsOf 60 23 6 = 0
        ∧ slParamsBad 0 = false ∧ ((bundle 63).cl 63).sl.direct.isOpen = false)
      ∧ (let k := (bundle 63).cl 63
        let p := edParOf (2 ^ 22) ((k.seq.argBlock 0 8).getD [])
        (bundle 63).mayUse 63 1 [portEddy] ∧ k.seq.argBlock 0 8 ≠ none ∧ edBad (2 ^ 22) ((k.seq.argBlock 0 8).getD []) = false
          ∧ k.ed.next ≤ 0 ∧ (k.ed.set p.st).refuses p 0 = false ∧ p.fin = false)
      ∧ (let k := filling.cl 63
        let op := 2 ^ 22 + 2 ^ 21
        let p := edParOf op ((k.seq.argBlock 0 8).getD [])
        filling.mayUse 63 1 [portEddy] ∧ edBad op ((k.seq.argBlock 0 8).getD []) = false ∧ (k.ed.set p.st).refuses p 0 = false
          ∧ p.fin = true) := by
  simp only [State.mayUse]
  repeat' apply And.intro
  all_goals decide +kernel

/-- Cluster 63 with an open bundle and ring 0 of its stripe engine. -/
def ringed : State :=
  (bundle 63).updCl 63 (fun k => { k with stp := { k.stp with rings := k.stp.rings.set 0 ⟨0, 0, 0, 1, 1, 0, 32, 0, 0, 0, 0⟩ } })

theorem test_premises_StripeReductionAndEdge :
    (ringed.mayUse 63 7 [portStripe] ∧ (ringed.cl 63).stp.next ≤ 0 ∧ bitsOf 60 5 0 < 61
        ∧ (ringed.cl 63).stp.rings.has (winParOf 60 0 0).ring = true ∧ (ringed.cl 63).stp.rings.has (rpkParOf 60 []).ring = true
        ∧ (ringed.cl 63).stp.rings.has (trpParOf 60 []).ring = true ∧ ([] : List Nat).getD 3 0 % 2 ^ 17 = 0)
      ∧ (let p := rdParOf 0 0
        filling.mayUse 63 1 [portReduction] ∧ filling.rdBad 63 0 0 = false ∧ (filling.cl 63).red.next ≤ 0 ∧ p.remote = false)
      ∧ (let a := 63 * 2 ^ 10
        let s := withArgs 63 [(0, a)]
        let p := rdParOf 256 a
        s.mayUse 63 1 [portReduction] ∧ ((s.cl 63).seq.arg 0).getD 0 = a ∧ s.rdBad 63 256 a = false ∧ p.remote = true
          ∧ s.claimMeets [⟨resRed 63 p.input, 5 + redDelay 63 63, 1, p.n, 63, 0⟩] = none)
      ∧ (let s := (bundle 63).setReg (regEe 3 0) 0x8000
        s.mayUse 63 1 [portEdgeEngine] ∧ s.fld (regEe (dieOf 63) 4) 0 0 = 0
          ∧ bitOf (s.reg (regEe (dieOf 63) 0)).toNat (63 % 16) = true)
      ∧ (let j : Job := ⟨.edge, 1, 0, [0], 0, ⟨[]⟩, [], none⟩
        let s := (bundle 63).updCl 63 (fun k => { k with jobs := ⟨[(1, j)]⟩ })
        (s.cl 63).jobs.rows.find? (fun e => e.2.kind = .edge) = some (1, j)
          ∧ lookup ((s.runTo 63 2).cl 63).jobs.rows 1 = some j) := by
  simp only [State.mayUse]
  repeat' apply And.intro
  all_goals decide +kernel

theorem test_premises_ReleasedBundles :
    ((held 63 .waitC 0).cl 63).seq.st = .running ∧ (((held 63 .waitC 0).runTo 63 0).cl 63).seq.st = .running
      ∧ (let s := (held 63 .waitG 63).updSeq 63 (fun q => { q with gflags := BitVec.ofNat 64 (2 ^ 63) })
        (s.cl 63).seq.wait = .waitG ∧ (s.cl 63).seq.gflags.getLsbD 63 = true ∧ (s.openAt 63 0).issuing 63 = true)
      ∧ (let s := { held 63 .waitB 15 with blockNo := ⟨[(15, 1)]⟩ }
        (s.cl 63).seq.wait = .waitB ∧ (s.cl 63).seq.seen.get 15 0 < s.blockNo.get 15 0 ∧ (s.openAt 63 0).issuing 63 = true)
      ∧ ((State.settleTags 63 0xFFFF flushFuel (held 63 .waitX 0xFFFF)).map (fun r => (r.1, (r.2.cl 63).seq.st))
          = some (0, .running))
      ∧ ((State.settleUnits 63 0xFFF flushFuel (held 63 .fence 0xFFF)).cl 63).seq.st = .running := by
  repeat' apply And.intro
  all_goals decide +kernel

theorem test_premises_ProgramsStartAndEnd :
    State.reset.fld (regCl 63 0x0C) 7 0 = 1 ∧ (State.reset.cl 63).seq.st = .idle
      ∧ (let s := held 63 .bar (16 * 2 ^ 63)
        (s.cl 63).seq.st = .running ∧ (s.cl 63).seq.wait = .bar
          ∧ (upTo 64).filter (fun h => bitOf ((s.cl 63).seq.waitArg / 16) h) = [63] ∧ s.hostOf 63 = some 63)
      ∧ (let s := (held 63 .ending 0).flush 63
        (s.cl 63).seq.st = .running ∧ (s.cl 63).seq.tags = 0 ∧ (s.cl 63).jobs.rows = [])
      ∧ (∀ more, more ∈ [0, 1] →
        let s := ({ held 63 .waitG 0 with ticks := 25000000 + more } : State)
        (s.cl 63).seq.st = .running ∧ s.syncWait 63 = true ∧ ((s.flush 63).cl 63).seq.st = .running
          ∧ (s.flush 63).syncWait 63 = true
          ∧ ((s.cl 63).seq.waitSince + 50000 * max 1 (s.fld (regCl 63 8) 15 0) < s.ticks ↔ more = 1)) := by
  repeat' apply And.intro
  all_goals decide +kernel

/-- A pull of four bytes of host memory, or a copy of four bytes to it. -/
def pull4 (kind dst mask : Nat) : CopyDesc := ⟨4 * 2 ^ 49, dst, 4, 0, kind, false, 4, 4, 0, 0, 0, mask⟩
def job4 (inbound landed sent : Bool) (d : Option CopyDesc) (mcNo : Nat) : CopyJob :=
  ⟨0, inbound, 15, 0, d, 0, 0, false, landed, 0, if landed then [(1, false), (2, false), (3, false), (4, false)] else [], [], 100, 0, false,
    sent, mcNo, none, 1⟩
def copying (c : Nat) (w : WaitKind) (e : CopyJob) : State :=
  (held c w 0).updCl c (fun k => { k with cp := { k.cp with jobs := [e] } })

theorem test_premises_CopiesOfACluster :
    ((bundle 63).mayUse 63 7 [portCopyIn] ∧ (bundle 63).mayUse 63 7 [portCopyOut] ∧ bitsOf 0 27 24 = 0 ∧ bitsOf (15 * 2 ^ 20) 19 6 = 0
        ∧ ((bundle 63).cl 63).seq.tags.getLsbD 15 = false
        ∧ (((bundle 63).cl 63).cp.jobs.filter (fun j => j.inbound = true)).length < 4)
      ∧ (0 ≠ State.reset.genOf 63 ∧ 255 ≠ State.reset.genOf 63)
      ∧ (let d := pull4 0 (2 ^ 49 + 63 * 2 ^ 22) 0
        let e := job4 true false false (some d) 0
        let u := (copying 63 .ending e).catchUp 63 5
        u.copyOf 63 15 = some e ∧ e.inbound = true ∧ e.landed = false ∧ u.mode ≠ 2 ∧ u.copyWaits 63 e = false
          ∧ (u.pullData 63 d true [1, 2, 3, 4]).2.2.1 = true ∧ max 5 (e.issued + 2) ≤ e.deadline)
      ∧ (let d := pull4 0 (2 ^ 49 + 63 * 2 ^ 22) 0
        let e := job4 true true true (some d) 0
        let s := copying 63 .ending e
        ((s.cl 63).cp.jobs.filter (fun e => e.inbound)).find? (fun e => !e.fixed) = some e ∧ s.commitWords d e ≠ []
          ∧ e.landed = true ∧ (s.cl 63).seq.st = .running ∧ (s.cl 63).seq.wait = .ending ∧ s.strict = false
          ∧ s.copyOf 63 15 = some e) := by
  simp only [State.mayUse]
  repeat' apply And.intro
  all_goals decide +kernel

theorem test_premises_OutboundMulticastAndService :
    (let d := pull4 0 (4 * 2 ^ 49) 0
      let e := { job4 false false true (some d) 0 with rows := [(1, false), (2, false), (3, false), (4, false)] }
      let u := (copying 63 .ending e).catchUp 63 5
      u.copyOf 63 15 = some e ∧ e.inbound = false ∧ e.sent = true ∧ e.doneAt = 0 ∧ d.kind = 0 ∧ e.remote = none
        ∧ u.copyWaits 63 e = false ∧ u.irqUp = true ∧ max 5 (e.lastRead + 1) ≤ e.deadline
        ∧ ((u.outWrite 63 d e.rows e.comp).updCopy 63 e.order (fun x => { x with landed := true, doneAt := 5 })).strict = false)
      ∧ (let d := pull4 1 (2 ^ 49 + 63 * 2 ^ 22) (2 ^ 63)
        let e := job4 true false false (some d) 1
        let s := copying 63 .ending e
        ((upTo 64).filter (fun h => bitOf (2 ^ 63) h)).map s.hostOf = [some 63] ∧ s.mode ≠ 2 ∧ (s.cl 63).cp.jobs = [e]
          ∧ e.mcNo = 1 ∧ e.sent = false ∧ d.kind = 1 ∧ d.mask = 2 ^ 63)
      ∧ (upTo 64).filter (fun h => bitOf 0 h) = [] ∧ (State.reset.cl 63).seq.st ≠ .running := by
  repeat' apply And.intro
  all_goals decide +kernel

theorem test_premises_ContextCommands :
    ((ctx255 1).host.d3 = false ∧ (ctx255 1).ctxState 255 = 1 ∧ (63#16).toNat < (ctx255 1).sqSize 255
        ∧ (ctx255 1).sqSize 255 ≤ (64#16).toNat ∧ (127#16).toNat < (ctx255 1).cqSize 255)
      ∧ (let s := (ctx255 1).setHctx 255 ⟨[some 1, none], true, []⟩
        s.ctxState 255 = 1 ∧ (2 + s.cqSize 255 - s.fld (regDb 255 4) 15 0) % s.cqSize 255 ≤ (s.hctx 255).used.length)
      ∧ (let s := (((ctx255 0).setReg (regCtx 255 0x48) 1024).setReg (regCtx 255 0x4C) 7)
        s.ctxState 255 = 0 ∧ s.fld (regPw 8) 1 0 = 0 ∧ s.enableRefused 255 = false)
      ∧ (State.reset.ctxState 255 = 0 ∧ State.reset.fld (regPw 8) 1 0 = 0 ∧ State.reset.enableRefused 255 = true)
      ∧ ((with7 (entry7 [] false)).ctxState 255 = 1 ∧ (with7 (entry7 [] false)).undecided 255 ≠ [])
      ∧ ((ctx255 1).undecided 255 = [] ∧ (ctx255 2).ctxState 255 = 2)
      ∧ (let s := with7 (entry7 [] false)
        ∀ e ∈ s.host.journal, ∀ x ∈ s.host.journal, e.ctx = 255 → x.ctx = 255 → e.seq = x.seq → e = x) := by
  repeat' apply And.intro
  all_goals decide +kernel

/-- Context 255 is enabled and has a descriptor to read. -/
def queued1 : State := (ctx255 1).setReg (regDb 255 0) 1

theorem test_premises_AcceptanceAndRecords :
    (queued1.mode ≠ 2 ∧ queued1.mayAccept 255 = true ∧ queued1.fld (regDb 255 8) 15 0 ≠ queued1.fld (regDb 255 0) 15 0
        ∧ queued1.decodeFull (bytes64 []) = false ∧ queued1.descMalformed (bytes64 []) = false)
      ∧ (State.reset.mayAccept 255 = false ∧ (ctx255 1).fld (regDb 255 8) 15 0 = (ctx255 1).fld (regDb 255 0) 15 0)
      ∧ (let e := { entry7 [] false with out := some ⟨2, 0, 0, [], 0⟩ }
        let s := with7 e
        s.canRecord 255 = true ∧ (s.hctx 255).frames = [] ∧ s.nextOutcome 255 = some (e, ⟨2, 0, 0, [], 0⟩))
      ∧ (let s := State.reset.setIrq 256 ⟨true, true, 0⟩
        (s.irq 256).hold = true ∧ (s.irq 256).due = true ∧ s.irqUp = true)
      ∧ (let s := State.reset.setIrq 256 ⟨true, false, 0⟩
        (s.irq 256).hold = true ∧ (s.irq 256).due = false)
      ∧ State.reset.host.d3 = false
      ∧ (let s := { State.reset with host := { State.reset.host with down := true, d3 := true } }
        s.host.down = true ∧ s.host.d3 = true) := by
  repeat' apply And.intro
  all_goals decide +kernel

theorem test_premises_LoadAndCopyDescriptors :
    (∀ t, t = 1 ∨ t = 2 → let e := entry7 [(0, t)] false
        (with7 e).entry 255 7 = some e ∧ e.typ = t ∧ e.out = none ∧ e.started = false ∧ e.busy = false
          ∧ (with7 e).bankArmed 255 (fieldAt e.desc 8 1) = false ∧ (with7 e).mayStart e = true)
      ∧ (let e := { entry7 [(0, 2), (8, 7)] false with busy := true }
        (with7 e).entry 255 7 = some e ∧ e.typ = 2 ∧ e.busy = true)
      ∧ (let r : RunRec := ⟨255, 3, 0, 7, true, [], 0, [], (0, 0), (0, 0), ⟨false, 0, 0, 0, 0, [], [], [], false, false, 0, [], 0⟩, 0, none, [], []⟩
        let e := entry7 [(0, 2), (8, 7)] false
        let s := { with7 e with runs := [r] }
        s.entry 255 7 = some e ∧ e.typ = 2 ∧ s.bankArmed 255 (fieldAt e.desc 8 1) = true)
      ∧ (∀ t, t = 0 ∨ t = 4 → let e := entry7 [(0, t)] false
        (with7 e).entry 255 7 = some e ∧ e.typ = t ∧ (with7 e).mayStart e = true)
      ∧ (∀ t, t = 2 ∨ t = 4 → let e := entry7 [(0, t), (22, 8), (32, 1)] true
        (with7 e).entry 255 7 = some e ∧ e.typ = t ∧ e.started = true ∧ (with7 e).mode ≠ 2 ∧ (with7 e).irqUp = true
          ∧ (with7 e).strict = false ∧ gaSpace (fieldAt e.desc 16 8) = 4 ∧ [(0 : Byte)].length = fieldAt e.desc 32 4
          ∧ fieldAt e.desc 8 1 < 8) := by
  refine ⟨?_, ?_, ?_, ?_, ?_⟩
  · rintro t (rfl | rfl) <;> decide +kernel
  · decide +kernel
  · decide +kernel
  · rintro t (rfl | rfl) <;> decide +kernel
  · rintro t (rfl | rfl) <;> decide +kernel

theorem test_premises_ManagerAndStreamDescriptors :
    (∀ op, op = 1 ∨ op = 2 ∨ op = 3 → let e := entry7 [(0, 6), (8, op)] false
        (with7 e).entry 255 7 = some e ∧ e.typ = 6 ∧ fieldAt e.desc 8 1 = op ∧ (with7 e).mayStart e = true)
      ∧ (∀ b, let e := entry7 [(0, 7), (8, 3)] false
        let s := { with7 e with runs := [run3 b] }
        s.entry 255 7 = some e ∧ e.typ = 7 ∧ s.mayStart e = true ∧ (run3 b).ctx = 255 ∧ (run3 b).seq = fieldAt e.desc 8 6
          ∧ (run3 b).standing = b)
      ∧ (let e := entry7 [(0, 5), (8, 15)] false
        let s := ((with7 e).setReg (regCtx 255 0x308) 1).setReg (regCtx 255 0x30C) 7
        s.entry 255 7 = some e ∧ e.typ = 5 ∧ s.mayStart e = true ∧ s.inWindows 255 0 0 (32 * s.fld (regBat 15 8) 31 24) false = true
          ∧ s.inWindows 255 0 0 1 true = true)
      ∧ (let e := entry7 [(0, 5), (8, 15)] true
        let r : DecReq := ⟨255, 7, 0, 0, 0, false⟩
        let s := (({ with7 e with host := { (with7 e).host with inBlock := ⟨[(15, [r])]⟩ } } : State).setReg (regCtx 255 0x308) 1).setReg
          (regCtx 255 0x30C) 7
        s.entry 255 7 = some e ∧ e.out = none ∧ r ∈ s.host.inBlock.get 15 [] ∧ s.inWindows 255 0 0 1 true = true) := by
  refine ⟨?_, ?_, ?_, ?_⟩
  · rintro op (rfl | rfl | rfl) <;> decide +kernel
  · decide +kernel
  · decide +kernel
  · decide +kernel

theorem test_premises_RunsOfAContext :
    (∀ st, st = 0 ∨ st = 4 → let e := entry7 [(0, 3), (1, st), (10, 0xFF)] false
      let s := (((with7 e).setReg (regCtx 255 0x84) 1).setReg (regCtx 255 0x80) 1).setReg (regCtx 255 0x30) 32
      let s := { s with mem := [(0, 0xFF), (1, 5), (6, 1), (7, 1)] }
      let h := s.slotHdr 255 0
      s.entry 255 7 = some e ∧ e.typ = 3 ∧ s.mayStart e = true ∧ s.slotState 255 0 = 1 ∧ s.bankState 255 0 = 1
        ∧ fieldAt e.desc 40 4 = 0 ∧ s.pickPlacement h = some [5] ∧ s.clMask 255 5 = true
        ∧ (s.placeSecs (entrySecs h (fieldAt e.desc 10 1)) [5]).isSome = true
        ∧ (s.startStep (run3 false) 0 0 0).1 = true)
      ∧ (let e := entry7 [(0, 3), (10, 0)] false
        (with7 e).entry 255 7 = some e ∧ e.typ = 3 ∧ (with7 e).mayStart e = true ∧ (with7 e).slotState 255 0 ≠ 1)
      ∧ (let e : StepEnd := ⟨255, 7, false, 0, 0, 0, true, [], (0, 0), (0, 0), 0, 0, false⟩
        let s := { ctx255 1 with host := { (ctx255 1).host with ends := [e] } }
        s.host.ends = [e] ∧ e.hashing = true ∧ s.epochOpen 255 0 0 = false ∧ s.regionBytes 255 0 0 = ([], s)) := by
  refine ⟨?_, ?_, ?_⟩
  · rintro op (rfl | rfl) <;> decide +kernel
  · decide +kernel
  · decide +kernel

/-- Contexts 254 and 255 use the page manager in domain 1. -/
def kv2 : State := (State.reset.setReg (regCtx 255 0x408) 0x01000080).setReg (regCtx 254 0x408) 0x01000080

theorem test_premises_PageManager :
    (State.reset.kvOn 255 = false ∧ kv2.kvOn 255 = true ∧ kv2.kvOn 254 = true ∧ kv2.fld (regCtx 255 0x408) 31 24 = 1
        ∧ kv2.fld (regCtx 254 0x408) 31 24 = 1)
      ∧ ((kv2.setReg (regCtx 254 0x408) 0x80).kvOn 254 = true ∧ (kv2.setReg (regCtx 254 0x408) 0x80).fld (regCtx 254 0x408) 31 24 = 0)
      ∧ ((kv2.ptes 255 63 4095 1).1 = some [⟨false, 0, 0⟩]) ∧ (kv2.kvCounts []).1 = some []
      ∧ (kv2.pte 255 63 0).1 = some ⟨false, 0, 0⟩ ∧ (kv2.kvRelease 255 63 4095 1 0).1 = true ∧ 1 % 256 ≠ 0
      ∧ (let d := pull4 3 0 0
        let e := { job4 false false true (some d) 0 with rows := [(1, false)] }
        let s := copying 63 .ending e
        s.copyOf 63 15 = some e ∧ d.kind = 3 ∧ e.inbound = false ∧ e.sent = true ∧ e.landed = false ∧ s.copyWaits 63 e = false)
      ∧ (let s := (State.reset.setReg (regKv 0x10) 1).setReg (regHb 0x10) 1
        s.kvInUse = false ∧ ∀ r ∈ s.kvRanges, ∀ i, i < ceilDiv r.2 (2 ^ 31) - r.1 / 2 ^ 31 → s.pairCls (r.1 / 2 ^ 31 + i) = 1)
      ∧ kv2.kvInUse = true ∧ State.reset.host.reqs.get 15 [] = []
      ∧ (let s := { State.reset.setReg (regBat 15 0) 0x80000001 with
          host := { State.reset.host with reqs := ⟨[(15, List.replicate 64 ⟨255, 7, 0, 0, 0, false⟩)]⟩ } }
        s.fld (regBat 15 0) 31 31 = 1 ∧ s.batWin 15 ≠ 0 ∧ s.fld (regDt 0) 0 0 = 0 ∧ 64 ≤ (s.host.reqs.get 15 []).length) := by
  repeat' apply And.intro
  all_goals decide +kernel

/-- Camera port 15 is enabled and locked, and channel 3 has an open frame of 5 lines. -/
def camera (isOpen : Bool) (ticks : Nat) : State :=
  { (State.reset.setReg (regAp 15 0) 0x8BC00007).setReg (regAp 15 0x10) 4 with ticks := ticks }.setCam 63
    { CamSt.reset with isOpen := isOpen, lines := 5 }

theorem test_premises_CameraFrames :
    (∀ b, (camera b 0).camLive 15 3 = true ∧ bitOf ((camera b 0).fld (regAp 15 0) 25 22) 3 = true ∧ ((camera b 0).cam 63).isOpen = b)
      ∧ ((camera true 0).cam 63).lines < (camera true 0).fld (regAp 15 4) 31 16
      ∧ (camera true 0).fld (regAp 15 0) 21 16 < 64
      ∧ ((camera true (2 ^ 40)).cam 63).seenAt + ticks100us (max 1 ((camera true (2 ^ 40)).fld (regAp 15 8) 31 16)) ≤ (2 : Nat) ^ 40
      ∧ (let s := (camera true 0).setReg (regAp 15 4) 0x00050B40
        (s.cam 63).flags = 0 ∧ (s.cam 63).gLines = 0 ∧ (s.cam 63).lines = s.fld (regAp 15 4) 31 16) := by
  repeat' apply And.intro
  all_goals decide +kernel

theorem test_premises_PortsAndLinks :
    (camera true 0).fld (regAp 15 0x10) 2 2 = 1
      ∧ (let s := (State.reset.setReg (regAp 15 0) 0x8FC00007)
        s.fld (regAp 15 0) 31 31 = 1 ∧ 3 ≤ s.fld (regAp 15 0) 27 26 ∧ s.fld (regAp 15 0x10) 2 2 = 0
          ∧ s.fences.contains (0x600 + 15) = false)
      ∧ (let s := camera false (2 ^ 40)
        s.mode ≠ 2 ∧ s.fld (regAp (63 / 4) 0) 31 31 = 1 ∧ bitOf (s.fld (regAp (63 / 4) 0) 25 22) (63 % 4) = true
          ∧ (s.cam 63).late = false ∧ (s.cam 63).seenAt + ticks100us (max 1 (s.fld (regAp (63 / 4) 8) 15 0)) ≤ s.ticks)
      ∧ (let s := { (State.reset.setReg (regLp 3 0) 0x80000000).setReg (regLp 3 0xB0) 0x80000000 with ticks := 2 ^ 40 }
        s.mode ≠ 2 ∧ s.fld (regLp 3 0) 31 31 = 1 ∧ s.fld (regLp 3 (0x40 + 0x10 * 7)) 31 31 = 1
          ∧ (s.sens.lidSeen.get 95 (0, false)).2 = false
          ∧ (s.sens.lidSeen.get 95 (0, false)).1 + ticks100us (max 1 (s.fld (regLp 3 (0xC0 + 4 * 7)) 15 0)) ≤ s.ticks)
      ∧ ((State.reset.setFld (regTw 0) 0 0 1).lqLink 4 = true ∧ State.reset.lqLink 4 = false ∧ State.reset.lqLink 3 = false
        ∧ (State.reset.setReg (regLp 3 0) 0x80000000).fld (regLp 3 0) 31 31 = 1 ∧ State.reset.fences.contains 0x613 = false)
      ∧ (State.reset.fld (regAp 15 0) 31 31 = 0 ∧ bitOf (0x80000000#32).toNat 31 = true ∧ bitOf (0#32).toNat 31 = false)
      ∧ (let s := ((State.reset.setReg (regLp 3 0) 0x80000000).setFld (regLp 3 4) 0 0 1).setReg (regLp 3 0x40) 0x80000800
        let s := s.setReg (regLp 3 0x4C) (BitVec.ofNat 32 (46 * 2 ^ 18 + 46 * 2 ^ 4))
        let ip : List Byte := (upTo 60).map (fun i => if i = 12 then 8 else 0)
        let ptp : List Byte := (upTo 60).map (fun i => if i = 12 then 0x88 else if i = 13 then 0xF7 else 0)
        s.mode ≠ 2 ∧ s.fld (regLp 3 0) 31 31 = 1 ∧ s.lqLink 3 = true ∧ ip.length = 60 ∧ ptp.length = 60 ∧ (etherOf ptp).1 = 0x88F7
          ∧ (etherOf ip).1 = 0x0800
          ∧ (upTo 8).findSome? (fun f => (s.lpClaim 3 f ip).map (fun u => (f, u))) = some (0, 14)
          ∧ s.fld (regLp 3 0x4C) 17 4 ≤ ip.length - 14 ∧ ip.length - 14 ≤ s.fld (regLp 3 0x4C) 31 18) := by
  repeat' apply And.intro
  all_goals decide +kernel

/-- Camera port 15 with its coax supply in a state. -/
def coax (v ticks : Nat) : State := { State.reset.setPoc 15 v with ticks := ticks }

theorem test_premises_TriggersAndCoaxPower :
    (let s := State.reset.setTrigs 15 [0];
      s.trigs 15 = [0] ∧ 0 ≤ s.now + s.tlead 15)
      ∧ (∀ v, v < 5 → (coax v 0).poc 15 = v)
      ∧ (coax 3 (2 ^ 40)).sens.cutAt.get 15 0 + 100 * ticksPerMs ≤ (coax 3 (2 ^ 40)).ticks
      ∧ (bitOf (0x80001878#32).toNat 31 = true ∧ bitsOf (0x80001878#32).toNat 12 8 = 24 ∧ bitsOf (0x80001878#32).toNat 7 0 = 120) := by
  repeat' apply And.intro
  all_goals decide +kernel

theorem test_premises_CoaxBudget :
    (let s := (upTo 11).foldl (fun (s : State) p => (s.setPoc p 2).setReg (regAp p 0x30) 0x1800) State.reset
    s.poc 15 = 0 ∧ ((List.range 16).map (fun p => if s.poc p = 1 ∨ s.poc p = 2 then s.fld (regAp p 0x30) 12 8 else 0)).sum = 264)
      ∧ (let s := (upTo 10).foldl (fun (s : State) p => (s.setPoc p 2).setReg (regAp p 0x30) 0x1800) State.reset
      let sum := ((List.range 16).map (fun p => if s.poc p = 1 ∨ s.poc p = 2 then s.fld (regAp p 0x30) 12 8 else 0)).sum
      s.poc 15 = 0 ∧ sum = 240 ∧ sum ≤ 256 ∧ (0x80001100#32).getLsbD 31 = true ∧ (0x80001100#32).getLsbD 30 = false
        ∧ 1 ≤ bitsOf (0x80001100#32).toNat 12 8 ∧ bitsOf (0x80001100#32).toNat 12 8 ≤ 24 ∧ bitsOf (0x80001100#32).toNat 7 0 ≤ 120
        ∧ 256 < sum + bitsOf (0x80001100#32).toNat 12 8) := by
  repeat' apply And.intro
  all_goals decide +kernel

/-- The head of a port's buffer. -/
def item (kind : BufKind) (stream stamp : Nat) : BufItem := ⟨kind, stream, 1, 0, 1, 0, [0, 0], stamp, 0, 0, 0, none⟩

theorem test_premises_DropsAndCounterClears :
    (let s := { State.reset.setBuf 15 [item .group 63 0] with time := { State.reset.time with now := 2 ^ 70 } };
      s.buf 15 = [item .group 63 0] ∧ (item .group 63 0).kind = .group ∧ portOf 63 = 15 ∧ s.judge (item .group 63 0) = some 0)
      ∧ (let s := State.reset.setBuf 19 [item .packet 95 0];
      s.buf 19 = [item .packet 95 0] ∧ s.judge (item .packet 95 0) = none) := by
  repeat' apply And.intro
  all_goals decide +kernel

theorem test_premises_InputPipeline :
    (let s := State.reset.setBuf 15 [item .group 63 0];
      s.buf 15 = [item .group 63 0] ∧ s.judge (item .group 63 0) = none ∧ s.fld (regCam 63 0) 31 31 = 0)
      ∧ (let s := ((State.reset.setBuf 15 [item .group 63 0]).setReg (regCam 63 0) 0x80000000).setPipe 63 ⟨true, 1, [], []⟩
        s.fld (regCam 63 0) 31 31 = 1 ∧ (s.pipe 63).isOpen = true ∧ (s.pipe 63).frame = (item .group 63 0).frame
          ∧ s.ringBusy 63 0 1 = false)
      ∧ State.reset.nextStripe 63 = none
      ∧ (let s := (((State.reset.setReg (regView 31 0) (BitVec.ofNat 32 (2 ^ 31 + 63 * 2 ^ 18 + 2 ^ 13))).setReg (regView 31 4) 0x00010020).setReg
          (regView 31 8) 0x00010001).setPipe 63 ⟨true, 1, [(0, 64, 0, 0)], [31]⟩
        (known0 s).nextStripe 63 = some (31, 0, 0) ∧ (known0 s).capSeq 0 = some 5)
      ∧ (let s := known0 (State.reset.setBuf 15 [item .close 63 0])
        s.buf 15 = [item .close 63 0] ∧ s.capSeq (item .close 63 0).cap = some 5)
      ∧ (State.reset.vOn 31 = false ∧ (State.reset.setReg (regView 31 0) 0x80000000).vOn 31 = true)
      ∧ (let u := (State.reset.setReg (regView 31 0) (15 * 2 ^ 14)).setFld (regIp 4) 3 0 15
        (upTo 32).filter (fun v => decide (u.fld (regView v 0) 17 14 = 15)) = [31] ∧ (u.vOn 31 && !u.vIdent 31) = false
          ∧ bitOf (0x8000000F#32).toNat 31 = true)
      ∧ (let s := known0 (State.reset.setBuf 19 [item .packet 95 0])
        let u := ((s.noteAge (item .packet 95 0)).setBuf 19 []).fbPacket (item .packet 95 0)
        s.buf 19 = [item .packet 95 0] ∧ s.capSeq 0 = some 5 ∧ s.judge (item .packet 95 0) = none ∧ u.lOn 95 = false)
      ∧ (let s := known0 ((State.reset.setBuf 19 [item .packet 95 0]).setReg (regLid 95 0) 0x80000000)
        let u := ((s.noteAge (item .packet 95 0)).setBuf 19 []).fbPacket (item .packet 95 0)
        s.judge (item .packet 95 0) = none ∧ u.lOn 95 = true)
      ∧ (State.reset.lOn 95 = false ∧ (State.reset.setReg (regLid 95 0) 0x80000000).lOn 95 = true) := by
  repeat' apply And.intro
  all_goals decide +kernel

/-- Replay with a ring of 64 KiB at offset 0 that holds some bytes. -/
def replaying (bs : List Byte) : State :=
  (((State.reset.setReg (regDt 0) 4).setReg (regDt 0x10) 1).setReg (regDt 0x14) 48).setBytes 0 bs

/-- A record of 48 bytes with its CRC; `ver` is its version byte. -/
def record48 (ver : Nat) : List Byte :=
  let body := leBytes 4 48 ++ leBytes 2 0 ++ leBytes 1 0x40 ++ leBytes 1 ver ++ List.replicate 36 0
  body ++ leBytes 4 (crc32c body).toNat

theorem test_premises_RecorderAndReplay :
    State.reset.rcd.waiting = [] ∧ (State.reset.capture 95 8 0 []).2.rcd.waiting ≠ []
      ∧ (let s := ({ State.reset with rcd := { RecSt.reset with lost := some (0, 1) } }.setReg (regDt 0) 2).setReg (regDt 0x10) 16
        s.rcd.lost = some (0, 1) ∧ s.mode = 1 ∧ 2 ^ 18 ≤ s.ringFree)
      ∧ (State.reset.mode ≠ 2 ∧ ((replaying []).setReg (regDc 0) 8).fld (regDc 0) 3 3 = 1)
      ∧ (let s := replaying [0]
        let h := oxHdr s.rrd (s.ringLook s.rrd 40)
        s.mode = 2 ∧ s.fld (regDc 0) 3 3 = 0 ∧ s.rrd + 48 ≤ s.ringSize ∧ 48 ≤ s.ringAvail s.rrd ∧ h.len ≤ s.ringAvail s.rrd
          ∧ s.lenOk h = false)
      ∧ (let s := replaying ((record48 1).take 47)
        let h := oxHdr s.rrd (s.ringLook s.rrd 40)
        let r := ({ s with actor := [s.ringCtx] } : State).hubRead 0 (s.ringBase + s.rrd) h.len
        s.mode = 2 ∧ s.rrd + 48 ≤ s.ringSize ∧ 48 ≤ s.ringAvail s.rrd ∧ h.len ≤ s.ringAvail s.rrd ∧ s.lenOk h = true
          ∧ r.1.any (fun b => b.2) = false ∧ crcOk (r.1.map (fun b => b.1)) = false)
      ∧ (let s := replaying (record48 2)
        let h := oxHdr s.rrd (s.ringLook s.rrd 40)
        let r := ({ s with actor := [s.ringCtx] } : State).hubRead 0 (s.ringBase + s.rrd) h.len
        let x := r.1.map (fun b => b.1)
        s.lenOk h = true ∧ h.len ≤ s.ringAvail s.rrd ∧ r.1.any (fun b => b.2) = false ∧ crcOk x = true ∧ formOk h x = false)
      ∧ (let s := replaying (record48 1)
        let h := oxHdr s.rrd (s.ringLook s.rrd 40)
        let r := ({ s with actor := [s.ringCtx] } : State).hubRead 0 (s.ringBase + s.rrd) h.len
        let u := { r.2 with actor := [] }
        let x := r.1.map (fun b => b.1)
        s.lenOk h = true ∧ h.len ≤ s.ringAvail s.rrd ∧ r.1.any (fun b => b.2) = false ∧ crcOk x = true ∧ formOk h x = true
          ∧ h.typ ≠ 0xFE ∧ u.rcd.expect.getD h.seq ≤ h.seq ∧ u.paced h.time = true ∧ u.takes h x = .known none)
      ∧ (let s := { replaying [] with rcd := { RecSt.reset with starved := some 0 }, ticks := 2 ^ 40 }
        s.rcd.starved = some 0 ∧ s.mode = 2 ∧ 0 + ticksPerMs < s.ticks ∧ s.rcd.starveSent = false)
      ∧ (((ctx255 1).ctxsOff && (ctx255 1).clustersOff) = false ∧ (ctx255 1).reg (regDt 0) ≠ 5#32 &&& 0xF)
      ∧ (let s := ((State.reset.setReg (regDt 0x10) 1).setReg (regCtx 0 0x308) 1).setReg (regCtx 0 0x30C) 0x1F
        (s.ctxsOff && s.clustersOff) = true ∧ s.ringOk = true ∧ bitsOf (2#32).toNat 2 1 ≠ 3) := by
  repeat' apply And.intro
  all_goals decide +kernel

/-- Pseudo-channel 63 has one piece in its queue. -/
def pieced (tries : Nat) (wr : Bool) : State := State.reset.setHbQueue 63 [⟨0, 0, 0, 0, 1, wr, 1, 0, tries⟩]

theorem test_premises_HbmTurns :
    ((State.reset.setReg (regDt 0) 1).calRefuses 0xBFFFFFFFF 1 true = true ∧ State.reset.calRefuses 0xBFFFFFFFF 1 true = false)
      ∧ (let s := (State.reset.setReg (regDt 0) 1)
        s.strict = true ∧ s.selfRefresh = false ∧ calKind 63 = 0 ∧ 5 < bitsOf ((s.turnStart 63).calEntry 63) 2 0)
      ∧ (let s := { ((pieced 0 false).setReg (regDt 0) 1).setReg (regHb (0x100 + 4 * 63)) 5 with
          hbm := { (pieced 0 false).hbm with curNo := 1 } }
        let e := (s.turnStart 63).calEntry 63
        bitsOf e 2 0 ≤ 5 ∧ (s.hbQueue 63).filter (fun p => decide (p.no < s.hbm.curNo) && (p.write == bitOf e 3)
          && decide (s.pairCls (p.bank / 2) = bitsOf e 2 0)) = [⟨0, 0, 0, 0, 1, false, 1, 0, 0⟩])
      ∧ ((pieced 0 false).strict = false ∧ (pieced 0 false).hbPick 63 = some ⟨0, 0, 0, 0, 1, false, 1, 0, 0⟩)
      ∧ (calKind 0 = 1 ∧ calKind 53 = 1 ∧ calKind 26 = 2 ∧ calKind 58 = 2)
      ∧ (let s := (State.reset.setReg (regHb (0x100 + 4 * 63)) 6).setReg (regHb 0) 4
        bitsOf (s.calEntry 63) 2 0 = 6 ∧ s.fld (regHb 0) 2 2 = 1 ∧ s.selfRefresh = false)
      ∧ ((pieced 1 false).hbQueue 63 = [⟨0, 0, 0, 0, 1, false, 1, 0, 1⟩] ∧ (pieced 2 true).hbQueue 63 = [⟨0, 0, 0, 0, 1, true, 1, 0, 2⟩]
        ∧ (pieced 2 true).hbm.fails = []) := by
  repeat' apply And.intro
  all_goals decide +kernel

theorem test_reset_quiet : State.reset.quiet = true ∧ State.reset.allDisabled = true := by decide +kernel

theorem test_premises_HbmControlAndWindows :
    (1 < State.reset.hbm.hot.length ∧ 1 < State.reset.hbm.hotOver.length)
      ∧ ((ctx255 1).allDisabled = false ∧ (State.reset.setReg (regDt 0) 2).detMode ≠ 0)
      ∧ (State.reset.detMode = 0 ∧ State.reset.selfRefresh = false ∧ (State.reset.setReg (regHb 4) 1).selfRefresh = true)
      ∧ ((ctx255 1).quiet = false ∧ calKind 63 = 0 ∧ calKind 0 ≠ 0)
      ∧ (∀ i, i < 8 → ¬ (bitsOf (State.reset.reg (regHb (0x10 + 4 * 2))).toNat (3 * i + 2) (3 * i)
          ≠ bitsOf (State.reset.reg (regHb (0x10 + 4 * 2))).toNat (3 * i + 2) (3 * i)))
      ∧ (let s := (State.reset.setReg (regCtx 0 0x308) 1).setReg (regCtx 0 0x30C) 1
        s.pairCovered 0 = true ∧ bitsOf (s.reg (regHb 0x10)).toNat 2 0 ≠ bitsOf 7 2 0)
      ∧ ((ctx255 1).ctxState 255 ≠ 0 ∧ (ctx255 0).ctxState 255 = 0 ∧ (ctx255 0).fld (regCtx 255 0x30C) 0 0 = 0
        ∧ (ctx255 0).fld (regCtx 255 0x420) 31 31 = 0 ∧ ((ctx255 0).setReg (regCtx 255 0x420) 0x80000000).fld (regCtx 255 0x420) 31 31 = 1
        ∧ ((ctx255 0).setReg (regCtx 255 0x3FC) 1).fld (regCtx 255 (0x300 + 0x10 * 15 + 0xC)) 0 0 = 1) := by
  repeat' apply And.intro
  all_goals decide +kernel

/-- A state with changes of the time base pending. -/
def ops (l : List TimeOp) : State := { State.reset with time := { State.reset.time with ops := l } }

theorem test_premises_TimeBase :
    ((ops [.set 5]).time.ops = [.set 5] ∧ (ops [.adj (-1)]).time.ops = [.adj (-1)] ∧ State.reset.time.ops = [])
      ∧ (∀ d, d = 0 ∨ d = 1717987 → let v := 2 ^ 33 + d
        v - 2 ^ 33 ≤ 4294967 ∧ 2 ^ 33 - v ≤ 4294967 ∧ v - State.reset.time.inc ≤ 1717987 ∧ State.reset.time.inc - v ≤ 1717987)
      ∧ 1717987 < 2 ^ 33 + 1717988 - State.reset.time.inc
      ∧ (State.reset.mode ≠ 2 ∧ (State.reset.reg (regTb 0x28)).toNat < 1000000000)
      ∧ ((State.reset.setReg (regDt 0) 4).mode = 2 ∧ 1000000000 ≤ ((State.reset.setReg (regTb 0x28) 1000000000).reg (regTb 0x28)).toNat) := by
  refine ⟨by decide +kernel, ?_, by decide +kernel, by decide +kernel, by decide +kernel⟩
  rintro d (rfl | rfl) <;> decide +kernel

theorem test_premises_ReferencesAndLaunches :
    ((6#32).toNat % 16 ≤ 6 ∧ 6 < (7#32).toNat % 16 ∧ (State.reset.setReg (regDt 0) 4).mode = 2)
      ∧ (let s := State.reset.setReg (regTb 0) 1
        s.mode ≠ 2 ∧ s.refSrc = 1 ∧ s.time.lastEdge = none ∧ 0 < 100 * max 1 (s.fld (regTb 0x40) 15 0)
          ∧ 100 * max 1 (s.fld (regTb 0x40) 15 0) ≤ 10000000)
      ∧ (let s := State.reset.setReg (regTb 0) 0xFF0006
        s.mode ≠ 2 ∧ s.refSrc = 4 + 2 ∧ s.fld (regTb 0) 23 16 = 255)
      ∧ (State.reset.refSrc ≠ 0 + 2)
      ∧ (let s := { State.reset.setReg (regTb 4) 1 with ticks := 2 ^ 40 }
        s.mode ≠ 2 ∧ s.refState = 1 ∧ s.time.lastRef + s.refTimeout ≤ s.ticks)
      ∧ (State.reset.fld (regLq 4 4) 13 0 < 60 ∧ (State.reset.setReg (regLq 4 4) 9018).fld (regLq 4 4) 13 0 = 9018
        ∧ (State.reset.time.launch.get 4 []).length < 16 ∧ (State.reset.setReg (regLq 4 4) 9018).lqLink 4 = false
        ∧ (((State.reset.setReg (regLq 4 4) 60).setReg (regLq 4 0xC) 0x80000000).setFld (regTw 0) 0 0 1).lqLink 4 = true
        ∧ ((State.reset.setReg (regLq 4 4) 60).setReg (regLq 4 0xC) 0x80000000).fld (regLq 4 0xC) 31 31 = 1)
      ∧ (let e : LaunchEntry := ⟨0, 60, 1, true, 0, false⟩
        let s := (State.reset.setLaunch 4 [e]).setFld (regTw 0) 0 0 1
        s.time.launch.get 4 [] = [e] ∧ s.mode ≠ 2 ∧ s.lqLink 4 = true ∧ (s.time.stamps.get 4 []).length < 16) := by
  repeat' apply And.intro
  all_goals decide +kernel

/-- Generator 63 is enabled with a kind, and an event of capture 0 waits for it. -/
def gauge (kind : Nat) (evs : List GaEvent) (cross : Option Nat) : State :=
  { known0 (State.reset.setReg (regGen 63 0) (BitVec.ofNat 32 (2 ^ 31 + kind * 2 ^ 28))) with
    gauge := ⟨evs, ⟨[(63, ⟨0, 0, cross⟩)]⟩⟩ }

theorem test_premises_GaugeFirings :
    ((gauge 0 [] none).gOn 63 = true ∧ (gauge 0 [] none).gKind 63 = 0
        ∧ (gauge 0 [] none).timeHorizon ((gauge 0 [] none).gInstant 63 0) ≠ none
        ∧ (gauge 0 [] none).timeHorizon 1 = none)
      ∧ (∀ kind, kind < 5 → 1 ≤ kind → let s := gauge kind [⟨63, 0, 0, false⟩] none
        s.gOn 63 = true ∧ s.gKind 63 = kind ∧ s.gTake 63 = some (⟨63, 0, 0, false⟩, 5))
      ∧ (let s := gauge 4 [⟨63, 0, 0, false⟩] none
        let u := { s with gauge := { s.gauge with events := dropEvent ⟨63, 0, 0, false⟩ s.gauge.events } }
        let v := u.gFire 63 5 0 0
        (v.gen 63).eCross = none ∧ v.fld (regGen 63 0) 25 25 = 0)
      ∧ (let s := (gauge 4 [⟨63, 0, 0, false⟩] (some 0)).setReg (regGen 63 0) (BitVec.ofNat 32 (2 ^ 31 + 4 * 2 ^ 28 + 2 ^ 25))
        let u := { s with gauge := { s.gauge with events := dropEvent ⟨63, 0, 0, false⟩ s.gauge.events } }
        let v := u.gFire 63 5 0 0
        (v.gen 63).eCross = some 0 ∧ v.fld (regGen 63 0) 25 25 = 1 ∧ (0 - 0) / oneNs ≤ 4000000000)
      ∧ (State.reset.gOn 63 = false ∧ (gauge 4 [] none).gTake 63 = none)
      ∧ (let s := (gauge 1 [] none).setReg (regGen 63 0x18) 1
        let e := (s.gen 63).ePrev + s.fld (regGen 63 0x18) 15 0 * 100000 * oneNs
        s.gOn 63 = true ∧ s.gKind 63 ≠ 0 ∧ s.fld (regGen 63 0x18) 15 0 ≠ 0 ∧ (∀ x ∈ s.gauge.events, x.gen = 63 → e < x.e)
          ∧ ({ s with time := { s.time with now := 2 ^ 60 } } : State).timeHorizon e ≠ none)
      ∧ (let s := { State.reset with runs := [{ run3 true with held := some (5, 0) }] }
        s.runs.find? (fun (r : RunRec) => decide (r.ctx = 255 ∧ r.seq = 3)) = some { run3 true with held := some (5, 0) }
          ∧ (run3 true).step.active = false) := by
  refine ⟨by decide +kernel, by decide +kernel, by decide +kernel, by decide +kernel, by decide +kernel, by decide +kernel, by decide +kernel⟩

/-- Viaduct port p is enabled and in a state. -/
def vport (p v : Nat) : State := (State.reset.setReg (regVp p 0) 0x80000000).setReg (regVp p 4) (BitVec.ofNat 32 (v * 2 ^ 29))

theorem test_premises_ViaductPorts :
    (State.reset.fld (regVp 7 0) 31 31 = 0 ∧ (vport 7 2).fld (regVp 7 0) 31 31 = 1)
      ∧ (∀ v, v < 7 → (vport 7 v).vpState 7 = v)
      ∧ ((vport 5 1).partner 5 = some (0, 4) ∧ (vport 5 1).partner 5 ≠ some (2047, 7))
      ∧ (let s := (vport 5 1).setVp 5 { VdPort.reset with tries := 2 };
        s.vpState 5 = 1 ∧ (s.vp 5).tries + 1 = 3) := by
  repeat' apply And.intro
  all_goals decide +kernel

/-- A packet's header with no data: destination, source, kind, auxiliary byte, hops, of job 7, generation 1. -/
def packet (dst src kind aux hops : Nat) : List Byte := pkHeader dst src kind 1 7 0 0 aux 0 0 0 0 hops 0

theorem leNat_leBytes (n v : Nat) : leNat (leBytes n v) = v % 256 ^ n := by
  induction n generalizing v with
  | zero => simp [leBytes, leNat, Nat.mod_one]
  | succ n ih =>
    simp only [leBytes, leNat, ih, BitVec.toNat_ofNat]
    have hp : 256 ^ (n + 1) = 256 * 256 ^ n := by rw [Nat.pow_succ, Nat.mul_comm]
    rw [hp, Nat.mod_mul]

theorem leBytes_length (n v : Nat) : (leBytes n v).length = n := by
  induction n generalizing v with
  | zero => rfl
  | succ n ih => simp [leBytes, ih]

/-- A flit that is made carries its own CRC. -/
theorem mkFlit_crc (lseq lack vc : Nat) (nak sop eop : Bool) (pl : List Byte) (h : pl.length = 248) :
    (mkFlit lseq lack vc nak sop eop pl).length = 256
      ∧ fieldAt (mkFlit lseq lack vc nak sop eop pl) 252 4 = (crc32c ((mkFlit lseq lack vc nak sop eop pl).take 252)).toNat := by
  have key : ∀ (b : List Byte) (c : Word32), b.length = 252 →
      (b ++ leBytes 4 c.toNat).length = 256 ∧ fieldAt (b ++ leBytes 4 c.toNat) 252 4 = c.toNat ∧ (b ++ leBytes 4 c.toNat).take 252 = b := by
    intro b c hb
    refine ⟨by simp [hb, leBytes_length], ?_, by rw [← hb]; simp⟩
    unfold fieldAt
    rw [← hb, List.drop_left, List.take_of_length_le (by simp [leBytes_length]), leNat_leBytes]
    have := c.isLt
    omega
  unfold mkFlit
  simp only []
  have hl : ∀ v, (leBytes 4 v ++ pl).length = 252 := by
    intro v
    rw [List.length_append, leBytes_length, h]
  obtain ⟨h1, h2, h3⟩ := key _ (crc32c _) (hl _)
  exact ⟨h1, by rw [h3]; exact h2⟩

theorem test_premises_ViaductFlits :
    (vport 7 2).vpState 7 = 2 ∧ (vport 7 3).vpState 7 ≠ 2
      ∧ (∀ x, x ∈ [(3, 0, true), (0, 5, true), (2, 0, false), (2, 0, true)] →
        let b := mkFlit x.2.1 4095 x.1 false true x.2.2 (packet 5 3 2 0 0 ++ List.replicate 216 0)
        b.length = 256 ∧ fieldAt b 252 4 = (crc32c (b.take 252)).toNat)
      ∧ (∀ x, x ∈ [(3, 0, true), (0, 5, true), (2, 0, false), (2, 0, true)] →
        let h := fieldAt (mkFlit x.2.1 4095 x.1 false true x.2.2 (packet 5 3 2 0 0 ++ List.replicate 216 0)) 0 4
        bitsOf h 7 6 = x.1 ∧ bitsOf h 31 20 = x.2.1 ∧ bitOf h 3 = x.2.2)
      ∧ ((vport 7 2).vpAck 7 4095).vp 7 = VdPort.reset
      ∧ (pkBad (packet 5 3 2 0 0) = false ∧ pkDst (packet 5 3 2 0 0) ≠ (vport 7 2).pid ∧ pkBad (packet 5 3 7 0 0) = true) := by
  refine ⟨by decide +kernel, by decide +kernel, fun x _ => mkFlit_crc _ _ _ _ _ _ _ (by decide +kernel), by decide +kernel, by decide +kernel,
    by decide +kernel, by decide +kernel, by decide +kernel⟩

/-- A torus of eight modules in the third dimension, with port 4 or its spare, port 6, up. -/
def torus (spare : Bool) : State :=
  ((State.reset.setReg (regVd 0) (BitVec.ofNat 32 (7 * 2 ^ 20))).setReg (regVp 4 4) (if spare then 0 else 0x40000000)).setReg
    (regVp 6 0) 0x98000000 |>.setReg (regVp 6 4) 0x40000000

def carrying (spare : Bool) (vc : Nat) (b : List Byte) (full spent : Nat) : State :=
  let s := (torus spare).setVp 4 { VdPort.reset with replay := List.replicate full (0, [], 0), spent := ⟨[(vc, spent)]⟩ }
  { s with vd := { s.vd with transit := [(vc, b)] } }

theorem test_premises_ViaductRouting :
    (let b := packet 3 0 2 0 0
    ∀ spare, let s := torus spare
      (pkKind b ≠ 1 ∧ bitOf (pkFlags b) 3 = false) ∧ (∀ e, e < 2 → s.distTo (pkDst b) e = 0) ∧ s.distTo (pkDst b) 2 ≠ 0
        ∧ s.fld (regVd 0) 24 23 ≠ 2 ∧ (spare = false → s.vpState 4 = 2)
        ∧ (spare = true → s.vpState 4 ≠ 2 ∧ s.vpState 6 = 2 ∧ s.vpRole 6 = 1 ∧ s.fld (regVp 6 0) 27 25 = 4))
      ∧ ({ torus false with vd := { (torus false).vd with transit := [] } } : State).makeAll.vd.transit = []
      ∧ (∀ b, b ∈ [packet 3 0 7 0 0, packet 3 0 2 0 63, packet 3 0 2 0 62] →
        let m := (carrying false 0 b 0 0).makeAll
        m.vd.transit = [(0, b)] ∧ pkBad b = decide (pkKind b = 7) ∧ ceilDiv b.length 248 = 1 ∧ m.route b (m.hopDim 0 b) = some (4, false, false))
      ∧ (∀ vc, vc ∈ [0, 1] → ∀ full, full ∈ [0, 511, 512] → ∀ left, left ∈ [0, 1] →
        let b := packet 3 0 2 0 62
        let n := if vc = 0 then 32 else 256
        let m := (carrying false vc b full (n - left)).makeAll
        m.vd.transit = [(vc, b)] ∧ (m.vp 4).replay.length = full ∧ (m.vp 4).spent.get vc 0 + 1 = n + 1 - left
          ∧ m.route b (m.hopDim vc b) = some (4, false, false))
      ∧ State.reset.route (packet 3 0 2 0 0) 0 = none
      ∧ ((torus false).vd.blocked = none ∧ (torus false).hopDim 1 (packet 3 0 1 0 0) = 2) := by
  repeat' apply And.intro
  all_goals decide +kernel

/-- Job slot 0 holds job 7, generation 1, of context 255 in a state, with peer 7 (PID 9) as both UP and DN; a WRITE of it waits. -/
def jobslot (v : Nat) (outs : List VdSent) (x : VdSlot) : State :=
  let s := (((ctx255 1).setReg (regJob 0 0) 0xFF010007).setReg (regJob 0 0x14) (BitVec.ofNat 32 v)).setReg (regJob 0 0x5C) 0xE0000009
  let s := s.setJob 0 x
  { s with vd := { s.vd with outs := outs }, ticks := 2 ^ 40 }
def sent (wnak : Option Nat) (sends : Nat) : VdSent := ⟨0, 7, 0, 0, 0, 0, [], sends, 2 ^ 40 - 50000, wnak, 0, 0⟩
def wr (epoch att addr : Nat) : List Byte := pkHeader 0 9 1 1 7 epoch att 0 0 0 1 2 0 addr ++ [5]

theorem test_premises_ViaductWrites :
    pkBad (packet 0 9 7 0 0) = true
      ∧ (∀ k, k ∈ [1, 2, 3, 4, 5, 6] → pkBad (packet 0 9 k 0 0) = false ∧ pkKind (packet 0 9 k 0 0) = k ∧ pkDst (packet 0 9 k 0 0) = State.reset.pid)
      ∧ (let s := jobslot 2 [] VdSlot.reset
        s.jobFor (packet 0 9 2 0 0) = none ∧ s.jobNamed (packet 0 9 2 0 0) = some 0 ∧ ∀ i, i < 16 → s.jState i = 0 → s.jId i ≠ 7)
      ∧ ((jobslot 0 [] VdSlot.reset).jobFor (wr 0 0 0) = none ∧ (jobslot 0 [] VdSlot.reset).jState 0 = 0
        ∧ (jobslot 0 [] VdSlot.reset).jId 0 = pkJob (wr 0 0 0))
      ∧ (let s := (jobslot 1 [] VdSlot.reset).setReg (regCtx 255 0x420) 0x80000001
        let at1 := { VdSlot.reset with expAtt := ⟨[(7, 1)]⟩ }
        let got := { VdSlot.reset with rxNo := ⟨[(7, 1)]⟩ }
        s.jobFor (wr 0 0 0) = some 0 ∧ s.peerOf 0 (pkSrc (wr 0 0 0)) = some 7 ∧ pkBad (wr 0 0 0) = false ∧ pkKind (wr 0 0 0) = 1
          ∧ pkDst (wr 0 0 0) = s.pid ∧ (s.job 0).done 7 0 = false ∧ got.done 7 0 = true
          ∧ s.writeOk 0 (wr 0 0 65535) = true ∧ s.writeOk 0 (wr 0 0 65536) = false ∧ s.jOldest 0 = 0
          ∧ pkEpoch (wr (2 ^ 31) 0 0) = 2 ^ 31 ∧ pkEpoch (wr 2 0 0) = 2 ∧ pkAtt (wr 1 1 0) = 1 ∧ s.jExp 0 1 7 = 0
          ∧ (s.setJob 0 at1).jExp 0 0 7 = 1 ∧ bitOf (pkFlags (wr 0 0 0)) 1 = true)
      ∧ (let s := jobslot 1 [sent none 4] VdSlot.reset
        s.sentFor (packet 0 9 2 0 0) = some (sent none 4) ∧ s.jState (sent none 4).slot = 1)
      ∧ (∀ aux, aux ∈ [1, 2, 3, 4] → pkAux (packet 0 9 3 aux 0) = aux ∧ pkMsg (packet 0 9 3 aux 0) = pkMsg (packet 0 9 2 0 0))
      ∧ (let s := jobslot 1 [sent none 4] VdSlot.reset
        s.vd.outs.find? (fun o => decide (o.slot = 0 ∧ o.peer = 7 ∧ o.msg = 0)) = some (sent none 4)
          ∧ (sent none 4).sentAt + 500 * min 200 (max 10 (s.fld (regVd 4) 7 0)) ≤ s.ticks
          ∧ s.ticks < (2 ^ 40 : Nat) + 500 * min 200 (max 10 (s.fld (regVd 4) 7 0)) ∧ (2 ^ 40 - 5000) + 5000 ≤ s.ticks)
      ∧ (jobslot 1 [] VdSlot.reset).vd.outs = [] := by
  repeat' apply And.intro
  all_goals decide +kernel

/-- Context 255 has a standing RUN of slot 0 whose step 0 began, and ended or not. -/
def stepped (s : State) (active : Bool) : State :=
  { s with runs := [{ run3 true with begun := [(0, 0)], nextNo := 1, step := { (run3 true).step with active := active } }] }

theorem test_premises_ViaductJobs :
    (let s := jobslot 0 [] VdSlot.reset;
      s.ctxState (s.jCtx 0) = 1 ∧ (∀ i, i < 16 → i ≠ 0 → s.jState i = 0) ∧ s.jPeers 0 = [7] ∧ s.jWave 0 = false
        ∧ bitOf (s.jPeer 0 7) 30 = true ∧ bitOf (s.jPeer 0 7) 29 = true ∧ (s.job 0).lastGen = none
        ∧ s.fld (regJob 0 4) 25 20 = 0 ∧ s.jState 0 = 0
        ∧ (jobslot 1 [] VdSlot.reset).jState 0 = 1)
      ∧ (let s := (jobslot 0 [] VdSlot.reset).setReg (regJob 0 0x58) 0xE0000009;
        6 ∈ s.jPeers 0 ∧ 7 ∈ s.jPeers 0 ∧ s.jPid 0 6 = s.jPid 0 7)
      ∧ (∀ k, k ∈ [4, 5, 6] → pkBad (packet 0 9 k 0 0) = false ∧ pkKind (packet 0 9 k 0 0) = k)
      ∧ (let b := packet 0 9 4 0 0
        let s := jobslot 1 [] VdSlot.reset
        pkDst b = s.pid ∧ s.jobFor b = some 0 ∧ s.peerOf 0 (pkSrc b) = some 7
          ∧ ¬ (pkAtt b < s.jExp 0 (pkEpoch b) 7 ∨ 2 ^ 31 ≤ (pkEpoch b + 2 ^ 32 - s.jOldest 0) % 2 ^ 32)
          ∧ pkAtt b < (s.setJob 0 { VdSlot.reset with expAtt := ⟨[(7, 1)]⟩ }).jExp 0 (pkEpoch b) 7)
      ∧ ((jobslot 1 [] VdSlot.reset).setReg (regJob 0 4) 0x80000000).jWave 0 = true
      ∧ (let u := jobslot 1 [] { VdSlot.reset with passed := true }
        u.jState 0 = 1 ∧ (u.job 0).passed = true ∧ u.jWave 0 = false ∧ u.jUps 0 = [7] ∧ (u.job 0).confs = [])
      ∧ (let u := jobslot 1 [] { VdSlot.reset with passed := true, confs := [⟨7, 0, 0, 0⟩] }
        u.jOldest 0 = 0 ∧ u.jExp 0 0 7 = 0 ∧ u.jUps 0 = [7])
      ∧ (let s := stepped (jobslot 1 [] VdSlot.reset) false
        s.dupsEqual 0 0 = (true, s) ∧ (s.job 0).passed = false ∧ s.checksHold 0 = true)
      ∧ (let s := stepped (jobslot 1 [] VdSlot.reset) true
        s.dupsEqual 0 0 = (true, s) ∧ s.checksHold 0 = false)
      ∧ (let s := stepped (jobslot 1 [] VdSlot.reset) true
        s.jRun 0 = some { run3 true with begun := [(0, 0)], nextNo := 1, step := { (run3 true).step with active := true } }
          ∧ max 0 (s.job 0).since + 50000 * max 1 (s.fld (regJob 0 0xC) 31 16) ≤ s.ticks)
      ∧ ((jobslot 3 [] VdSlot.reset).jState 0 = 3
        ∧ ((jobslot 3 [] VdSlot.reset).job 0).quietAt + ticksPerMs ≤ (jobslot 3 [] VdSlot.reset).ticks
        ∧ (0 : Nat) < ((jobslot 3 [] { VdSlot.reset with quietAt := 2 ^ 40 }).job 0).quietAt + ticksPerMs) := by
  repeat' apply And.intro
  all_goals decide +kernel

/-- One message of a source waits in the network. -/
def sending (src kind : Nat) (c : Bool) : State := State.reset.send src kind 0 c []

/-- A record of a source and kind with an effective severity. -/
def frec (src kind eff : Nat) : FaultRecord :=
  { State.reset.plainRec ⟨mkMsg src kind 0 0 0 true, [], 0⟩ eff with isOpen := true }
def recorded (s : State) (r : FaultRecord) : State := { s with fc := { s.fc with recs := ⟨[(127, r)]⟩ } }

theorem test_premises_FaultMessages :
    State.reset.net = []
      ∧ (∀ x, x ∈ [(63, 0x20, false), (63, 0x20, true), (63, 0x10, true), (63, 0xC0, true), (63, 0x42, false), (4095, 0, true)] →
        let s := sending x.1 x.2.1 x.2.2
        let m : NetMsg := ⟨mkMsg x.1 x.2.1 0 (State.reset.genOf x.1) 0 x.2.2, [], 0⟩
        s.net.find? (fun m => decide (msgSrc m.bits.toNat = x.1)) = some m ∧ msgGen m.bits.toNat = s.colGen x.1
          ∧ msgKind m.bits.toNat = x.2.1 ∧ msgC m.bits.toNat = x.2.2 ∧ s.openRec x.1 x.2.1 = none)
      ∧ ((sending 63 0x20 true).setReg (regCl 63 0x0C) 2).colGen 63 ≠ (State.reset.genOf 63)
      ∧ (effOf 63 0x20 (State.reset.sevOf 63 0x20) = 1 ∧ State.reset.freeSlot 63 0x20 = some 0
        ∧ effOf 63 0x10 (State.reset.sevOf 63 0x10) = 2 ∧ State.reset.inService 63 = true
        ∧ effOf 63 0xC0 (State.reset.sevOf 63 0xC0) = 5 ∧ State.reset.fld (regRc 0) 0 0 = 0)
      ∧ (∀ x, x ∈ [(63, 0x20, false), (63, 0x20, true), (63, 0x42, false)] →
        let s := recorded (sending x.1 x.2.1 x.2.2) (frec x.1 x.2.1 1)
        s.openRec x.1 x.2.1 = some (127, frec x.1 x.2.1 1) ∧ (frec x.1 x.2.1 1).isOpen = true ∧ (frec x.1 x.2.1 1).displaced = false
          ∧ (frec x.1 x.2.1 1).acked = false ∧ (frec x.1 x.2.1 1).carried = false ∧ (frec x.1 x.2.1 1).escRep = false
          ∧ kindLevel x.2.1 = decide (x.2.1 = 0x42))
      ∧ (recorded (sending 63 0x20 true) { frec 63 0x20 1 with acked := true }).openRec 63 0x20 = some (127, { frec 63 0x20 1 with acked := true })
      ∧ (let r := { frec 63 0x10 2 with ctxs := [] };
        r.eff = 2 ∧ r.ctxs = [] ∧ r.isOpen = true ∧ r.displaced = false)
      ∧ (¬ (0x300 < 0x300 ∨ 0x300 / 256 = 9) ∧ (0x9FF < 0x300 ∨ 0x9FF / 256 = 9))
      ∧ (∃ m, m ∈ (sending 0x2FF 0x20 true).net ∧ msgSrc m.bits.toNat = 0x2FF)
      ∧ (let s := { State.reset with fc := { State.reset.fc with expSeq := ⟨[(63, (1, 0))]⟩ } }
        s.colGen 63 = s.genOf 63 ∧ lookup s.fc.expSeq.rows 63 = some (s.genOf 63, (s.srcSeq.get 63 0).toNat)) := by
  refine ⟨by decide +kernel, by decide +kernel, by decide +kernel, by decide +kernel, by decide +kernel, by decide +kernel, by decide +kernel,
    by decide +kernel, ⟨_, List.mem_singleton.mpr rfl, by decide +kernel⟩, by decide +kernel⟩

theorem test_premises_FaultCommands :
    (let s := recorded State.reset (frec 63 0x20 1);
      lookup s.fc.recs.rows (bitsOf (127#32).toNat 7 0) = some (frec 63 0x20 1)
        ∧ (frec 63 0x20 1).lseq.toNat % 65536 = bitsOf (127#32).toNat 31 16
        ∧ (frec 63 0x20 1).lseq.toNat % 65536 ≠ bitsOf (0xFFFF007F#32).toNat 31 16
        ∧ (frec 63 0x20 1).acked = false ∧ lookup s.fc.recs.rows 255 = none)
      ∧ (let s := { recorded State.reset (frec 63 0x20 1) with ticks := 2 ^ 40 }
        ¬ ((frec 63 0x20 1).acked = true ∨ (frec 63 0x20 1).escDl = true ∨ (frec 63 0x20 1).carried = true
          ∨ s.ticks < (frec 63 0x20 1).at_ + max 1 (s.fld (regFc 0) 23 16) * ticksPerMs))
      ∧ (fencedBy 0xFFF = none ∧ State.reset.inService 63 = true ∧ portSrc 15 ∉ State.reset.fences
        ∧ State.reset.isBusy 63 = false ∧ (vport 7 2).vpState 7 = 2)
      ∧ (let s := { State.reset with fences := [63] }
        fencedBy 63 = some (.cluster 63) ∧ s.returnBad 63 (.cluster 63) = false ∧ 63 ∈ s.fences
          ∧ (recorded s (frec 63 0x20 2)).returnBad 63 (.cluster 63) = true
          ∧ (lookup [(63, 7)] 63).getD 0 ≠ 0 ∧ ((lookup ([] : List (Nat × Nat)) 63).getD 0 = 0))
      ∧ (State.reset.returnBad 0x907 (.viaduct 7) = false)
      ∧ (let x := fun (v j : Nat) => bitsOf v (8 * j + 2) (8 * j)
        let d := fun (j : Nat) => kindDefault (0x2FFC % 0x100 / 4 * 4 + j)
        (∀ j, j < 4 → x 0x05050505 j ≤ 5 ∧ (2 ≤ d j → d j ≤ x 0x05050505 j)) ∧ ∃ j, j < 4 ∧ 5 < x 0x06000000 j)
      ∧ (State.reset.fc.reports = [] ∧ State.reset.fld (regTw 0) 0 0 = 0 ∧ (State.reset.setFld (regTw 0) 0 0 1).fld (regTw 0) 0 0 = 1
        ∧ State.reset.fc.due = [])
      ∧ (let s := (State.reset.setFld (regTw 0) 0 0 1).histNote (frec 63 0x10 2)
        let u : State := { s with fc := { s.fc with reports := [[0]] } }
        s.fc.due.length = 1 ∧ u.fc.reports = [[0]] ∧ u.fld (regTw 0) 0 0 = 1)
      ∧ ((State.reset.setReg (regPw 8) 2).fld (regPw 8) 1 0 = 2 ∧ State.reset.fld (regPw 8) 1 0 ≠ 2) := by
  refine ⟨by decide +kernel, by decide +kernel, by decide +kernel, by decide +kernel, by decide +kernel, ⟨by decide +kernel, 3, by decide +kernel⟩,
    by decide +kernel, by decide +kernel, by decide +kernel⟩

/-- Keystone is in a state, with further registers written. -/
def keystone (v : Nat) (l : List (Nat × Nat)) : State :=
  l.foldl (fun (s : State) e => s.setReg e.1 (BitVec.ofNat 32 e.2)) ((State.reset.setReg (regKs 4) 0).setFld (regKs 4) 1 0 v)
def dec31 (want : Bool) (ended : Option Nat) : Decision := ⟨31, 255, 0, 7, 0, 0, 0, 0, ended, [], [], false, want, 0⟩
/-- Output 31 has a decision that waits; its status word says that step 0 is complete. -/
def deciding (l : List (Nat × Nat)) (want : Bool) (now : Nat) : State :=
  let s := (keystone 1 l).setByte 4 1
  { s with decs := [dec31 want (some 0)], ticks := 2 ^ 40, time := { s.time with now := now } }

theorem test_premises_ReleaseAndCover :
    (State.reset.decs = [] ∧ (deciding [] false 0).decs.find? (fun (d : Decision) => d.out = 31 ∧ d.result = 0) = some (dec31 false (some 0)))
      ∧ (let s := deciding [] false 0
        s.ks = 1 ∧ s.stepDone (dec31 false (some 0)) = true ∧ s.stepDone (dec31 false none) = false ∧ (dec31 false (some 0)).want = false)
      ∧ (let s := deciding [] false 0
        let x := s.checkCopies (dec31 false (some 0))
        x.1.c3 = true ∧ x.1.c4 = true ∧ x.1.c5 = true ∧ x.2.checkpointsOk (dec31 false (some 0)) = true
          ∧ x.2.age10 x.1.time ≤ x.2.fld (regKso 31 8) 31 16 ∧ x.2.fld (regKso 31 0) 28 28 = 0
          ∧ ¬ 0 + x.2.fld (regKso 31 8) 15 0 * 10000 * oneNs < x.2.now)
      ∧ (let x := (deciding [(regKso 31 0, 2 ^ 28)] false 0).checkCopies (dec31 false (some 0))
        x.1.c5 = true ∧ x.2.fld (regKso 31 0) 28 28 = 1)
      ∧ (let s := deciding [(regKso 31 0, 2 ^ 30), (regKso 31 0x14, 4), (regKso 31 0x18, 32)] false 0
        let x := ({ s with marks := setMark s.marks 16 .poisoned } : State).checkCopies (dec31 false (some 0))
        x.1.c5 = false ∧ ¬ 0 + x.2.fld (regKso 31 8) 15 0 * 10000 * oneNs < x.2.now)
      ∧ (let x := (deciding [] false 1).checkCopies (dec31 false (some 0))
        0 + x.2.fld (regKso 31 8) 15 0 * 10000 * oneNs < x.2.now)
      ∧ (let s := deciding [] true 0
        s.ks = 1 ∧ s.fld (regKso 31 0) 28 28 = 0 ∧ s.coverRec 31 = none)
      ∧ (let s := { deciding [(regKso 31 0, 2 ^ 8)] false 0 with saf := { SafSt.reset with fbRec := some ⟨0, 0, 0, 0, 1, []⟩ } }
        0 + s.fld (regKso 31 8) 15 0 * 10000 * oneNs ≤ s.now ∧ s.coverRec 31 = some ⟨0, 0, 0, 0, 1, []⟩
          ∧ s.fld (regKso 31 0) 15 8 = 1 ∧ (dec31 false none).out = 31) := by
  repeat' apply And.intro
  all_goals decide +kernel

theorem test_premises_KeystoneStates :
    (State.reset.openRec 4095 255 = none)
      ∧ (let s := recorded (keystone 1 []) (frec 4095 255 4)
        s.openRec 4095 255 = some (127, frec 4095 255 4) ∧ (frec 4095 255 4).eff = 4 ∧ s.ks = 1)
      ∧ ((recorded (keystone 1 []) (frec 0x2FF 255 4)).openRec 0x2FF 255 = some (127, frec 0x2FF 255 4))
      ∧ (let s := keystone 0 [(regKs 0xA08, 6), (regFc 4, 1)]
        s.ks = 0 ∧ s.fld (regKs 0xA08) 2 1 = 3 ∧ s.fbDown = false ∧ s.fld (regFc 4) 0 0 = 1 ∧ s.fc.recs.rows = [])
      ∧ (let s := keystone 2 [(regKs 0, 1)]
        s.ks = 2 ∧ s.fld (regKs 0) 0 0 = 1 ∧ s.fbDown = false ∧ s.fc.recs.rows = [])
      ∧ ((keystone 1 []).ks = 1 ∧ (keystone 2 []).ks ≠ 1 ∧ isPull none = true) := by
  repeat' apply And.intro
  all_goals decide +kernel

theorem test_premises_OutputsAndFootbridge :
    (State.reset.fld (regKso 31 0) 31 31 = 0 ∧ ((keystone 0 [(regKso 31 0, 2 ^ 31)]).fld (regKso 31 0) 31 31 = 1))
      ∧ (let u := (keystone 0 []).setReg (regKso 31 0) (0x80000000#32 &&& 0x7FFFFF00)
        u.outBad 31 = true)
      ∧ (let u := (keystone 0 [(regKso 31 8, 0x10001), (regCtx 0 0x300, 0), (regCtx 0 0x304, 0), (regCtx 0 0x308, 1), (regCtx 0 0x30C, 7)]).setReg
          (regKso 31 0) (0x90000000#32 &&& 0x7FFFFF00)
        u.outBad 31 = false)
      ∧ (State.reset.fld (regKs 0xA00) 31 31 = 0 ∧ (keystone 0 [(regKs 0xA00, 2 ^ 31)]).fld (regKs 0xA00) 31 31 = 1
        ∧ State.reset.saf.fbRun = none)
      ∧ (let s := { keystone 0 [(regKs 0xA00, 2 ^ 31)] with ticks := 2 ^ 40, saf := { SafSt.reset with fbRun := some ⟨0, 0, true, 0⟩, fbFire := [10, 5] } }
        s.saf.fbRun = some ⟨0, 0, true, 0⟩ ∧ 0 ≤ s.ticks ∧ 0 + 500 * (s.fld (regKs 0xA08) 31 16 + 100) ≤ s.ticks
          ∧ s.saf.fbFire = [10, 5] ∧ 10 + 2 * (10 - 5) < s.ticks ∧ s.fld (regKs 0xA00) 31 31 = 1)
      ∧ (let s := keystone 0 [(regKs 0xA08, 2)]
        s.saf.fbRun = none ∧ s.fld (regKs 0xA08) 1 1 = 1) := by
  repeat' apply And.intro
  all_goals decide +kernel

/-- A select of the safety SPI is low, with a mode. -/
def spi (mode : Nat) (rose : Option Nat) : State :=
  { State.reset with ticks := 1000, saf := { SafSt.reset with spi := some (mode, List.replicate 32 0), spiRose := rose } }

theorem test_premises_SafetySpi :
    ((spi 3 none).saf.spi = some (3, List.replicate 32 0) ∧ (spi 4 none).saf.spi = some (4, List.replicate 32 0))
      ∧ (State.reset.saf.spi = none ∧ State.reset.saf.spiRose = none)
      ∧ (let body : List Nat := [0x5C000000 + 2 * 2 ^ 16, 0, 0, 0, 0, 0, 0]
        let ws := body ++ [(crc32c (body.flatMap (leBytes 4))).toNat]
        areWords ws = true ∧ spiFrameGood ws = true ∧ bitsOf (ws.getD 0 0) 23 16 = 2)
      ∧ (spiFrameGood [] = false ∧ 31 % 32 ≠ 0 ∧ 224 % 32 = 0)
      ∧ ((keystone 1 [(regSs 0, 0xFF02)]).ks = 1 ∧ (keystone 1 [(regSs 0, 0xFF02)]).fld (regSs 0) 1 1 = 1)
      ∧ (let s := { keystone 1 [(regSs 0, 0xFF02)] with ticks := 2 ^ 40 }
        ¬ (s.fld (regSs 0) 15 8 = 0 ∨ s.saf.spiLate = true ∨ s.ticks < s.saf.alive + s.fld (regSs 0) 15 8 * ticksPerMs)) := by
  repeat' apply And.intro
  all_goals decide +kernel

theorem test_premises_RotatingSelfTest :
    (State.reset.setReg (regKs 0xC00) 0).fld (regKs 0xC00) 31 31 = 0
      ∧ (let s := keystone 0 [(regKs 0xC00, 2 ^ 31)]
        s.fld (regKs 0xC00) 31 31 = 1 ∧ s.dieOff 3 = false ∧ s.saf.testing.has 3 = false
          ∧ (s.reliefs []).find? (fun x => dieOf x.2 = 3) = some (63, 63) ∧ s.nextTest 3 = some (48, false) ∧ s.atBoundary 48 = true
          ∧ s.isBusy 63 = false ∧ Memory.wf s.mem = true ∧ (s.setBusy 63 true).isBusy 63 = true)
      ∧ (let s := { keystone 0 [(regKs 0xC00, 2 ^ 31)] with fences := [63] }
        s.dieOff 3 = false ∧ ∀ x, x ∈ s.reliefs [] → dieOf x.2 ≠ 3)
      ∧ (keystone 0 [(regKs 0xC00, 2 ^ 31), (regSt 3, 63)]).nextTest 3 = some (63, false)
      ∧ (let s := { State.reset with saf := { SafSt.reset with testing := ⟨[(3, 63)]⟩ } }
        lookup s.saf.testing.rows 3 = some 63 ∧ s.inService 63 = true)
      ∧ (let s := { State.reset with ticks := 2 ^ 40 }
        ¬ (63 ∈ s.saf.overdue ∨ s.ticks ≤ s.saf.tested.get 63 0 + max 1 (s.fld (regKs 0xC00) 23 16) * 100 * ticksPerMs)) := by
  repeat' apply And.intro
  all_goals decide +kernel

theorem test_premises_ResetDomains :
    (0xFFFF ≠ 0x5253) ∧ (64 ≤ 0xFFF ∧ ¬ (0x100 ≤ 0x110 ∧ 0x110 < 0x110) ∧ ¬ (0x200 ≤ 0x205 ∧ 0x205 < 0x240 ∧ 0x205 % 16 ≤ 4) ∧ 0 ∉ hubSubBlocks)
      ∧ (State.reset.isBusy 63 = false ∧ (State.reset.setBusy 63 true).isBusy 63 = true)
      ∧ (0x200 ≤ 0x234 ∧ 0x234 < 0x240 ∧ 0x234 % 16 ≤ 4)
      ∧ (∀ u, u ∈ hubSubBlocks → 0x240 ≤ u ∧ u < 2 ^ 12 ∧ State.reset.isBusy u = false ∧ (State.reset.setBusy u true).isBusy u = true)
      ∧ (State.reset.isBusy 0x10F = false ∧ 15 ∉ State.reset.pw.gated ∧ (State.reset.setBusy 0x10F true).isBusy 0x10F = true
        ∧ (State.reset.setBusy 0x230 true).isBusy (0x200 + 16 * 3) = true) := by
  repeat' apply And.intro
  all_goals decide +kernel

/-- A standing RUN of context 255 whose step runs section 0 on cluster 62, with an image whose section may be re-run. -/
def rerunning (st : RunStep) (redo : List (Nat × Nat × Nat)) : State :=
  { (((State.reset.setByte 7 1).setByte 16 32).setByte 38 1) with runs := [{ run3 true with homes := [62], redo := redo, step := st }] }

theorem test_premises_ReExecution :
    State.reset.runs = []
      ∧ (let s := { State.reset with runs := [run3 true] }
        s.runs.find? (fun (r : RunRec) => decide (r.ctx = 255 ∧ r.seq = 3) && r.standing) = some (run3 true)
          ∧ (run3 true).step.lost = [] ∧ (run3 true).redo = [])
      ∧ (let st := { (run3 true).step with active := true, lost := [0], secs := [(0, 62)] }
        let s := rerunning st []
        s.runs.find? (fun (r : RunRec) => decide (r.ctx = 255 ∧ r.seq = 3) && r.standing) = some { run3 true with homes := [62], redo := [], step := st }
          ∧ s.rerunOn { run3 true with homes := [62], redo := [], step := st } 0 = some (63, 63) ∧ 0 ∈ st.secs.map (fun z => z.1))
      ∧ (let st := { (run3 true).step with active := true, lost := [0], secs := [(0, 62)], again := [0] }
        let s := rerunning st []
        s.rerunOn { run3 true with homes := [62], redo := [], step := st } 0 = none)
      ∧ (let r := { run3 true with homes := [62], redo := [(5, 0, 0)] }
        let s := rerunning (run3 true).step [(5, 0, 0)]
        r.step.lost = [] ∧ r.step.active = false ∧ s.placeSecs (entrySecs (s.slotHdr r.ctx r.slot) r.entry) r.homes = some [(0, 62)]
          ∧ s.canLoad 62 = true) := by
  repeat' apply And.intro
  all_goals decide +kernel

def bootInfo (fails : List (Nat × Nat)) (fuse : Option Nat) (stored : Bool) : BootInfo := ⟨fails, 0, 0, 0, [], 0, [], none, stored, [], fuse⟩
def booting (cause : Nat) : State := { State.reset with rst := { State.reset.rst with boot := some cause } }

theorem test_premises_PackageResetAndHalt :
    (State.reset.fc.recs.rows = [] ∧ State.reset.rst.halted = false ∧ State.reset.fld (regRc 0) 0 0 = 0)
      ∧ (let s := recorded State.reset (frec 63 0xC0 5)
        ∃ e, e ∈ s.fc.recs.rows ∧ e.2.isOpen = true ∧ e.2.carried = false ∧ 5 ≤ e.2.eff)
      ∧ (State.reset.pw.powered = true ∧ 10 ≤ 10)
      ∧ (({ State.reset with rst := { State.reset.rst with boot := none } } : State).rst.boot = none ∧ (booting 255).rst.boot = some 255)
      ∧ ((bootInfo [] (some 7) true).fuse = some 7 ∧ (bootInfo [] none false).stored = false ∧ (booting 0).mg.powerCount ≠ 0xFFFF)
      ∧ (let b := bootInfo [(3, 0), (3, 1)] none true
        b.fuse = none ∧ (3, 0) ∈ b.fails ∧ (3, 1) ∈ b.fails ∧ (∀ x, x < 3 → 1 ≤ x → (x, 0) ∉ b.fails ∨ (x, 1) ∉ b.fails))
      ∧ (let b := bootInfo [(3, 0)] none true
        b.fuse = none ∧ b.stored = true ∧ (∀ x, x < 4 → 1 ≤ x → (x, 0) ∉ b.fails ∨ (x, 1) ∉ b.fails)) := by
  refine ⟨by decide +kernel, ⟨_, List.mem_singleton.mpr rfl, by decide +kernel⟩, by decide +kernel, by decide +kernel, by decide +kernel,
    by decide +kernel, by decide +kernel⟩

/-- The pairs of the management complex are in two states, with further registers written; the Towpath link is up. -/
def pairs (p0 p1 : Nat) (l : List (Nat × Nat)) : State :=
  ((l.foldl (fun (s : State) e => s.setReg e.1 (BitVec.ofNat 32 e.2)) (State.reset.setFld (regTw 0) 0 0 1)).setPair 0 p0).setPair 1 p1

theorem test_premises_ManagementPairs :
    ((pairs 0 0 []).pairSt 1 = 0 ∧ (pairs 0 1 []).pairSt 1 = 1 ∧ (pairs 0 2 []).pairSt 1 = 2 ∧ (pairs 0 3 []).pairSt 1 = 3)
      ∧ (let s := { pairs 0 0 [] with ticks := 2 ^ 40 }
        s.mg.kicks.get 1 0 + s.fld (regMg 4) 6 0 * ticksPerMs ≤ s.ticks)
      ∧ ((0 : Nat) < (({ pairs 0 0 [] with mg := { MgSt.reset with kicks := ⟨[(1, 1)]⟩ } } : State).mg.kicks.get 1 0)
          + (pairs 0 0 []).fld (regMg 4) 6 0 * ticksPerMs ∧ (pairs 0 0 []).ticks = 0)
      ∧ ((pairs 0 2 []).mg.queue = [] ∧ (pairs 0 2 []).mg.repWait = false ∧ State.reset.mg.none_ = none)
      ∧ (let s := { pairs 3 3 [(regMg 4, 0x807F)] with ticks := 2 ^ 40, mg := { MgSt.reset with none_ := some 0 } }
        s.mg.none_ = some 0 ∧ s.mg.wdog = none ∧ 0 + s.fld (regMg 4) 6 0 * ticksPerMs ≤ s.ticks)
      ∧ (let s := { pairs 3 3 [(regMg 4, 0x8000)] with ticks := 2 ^ 40, mg := { MgSt.reset with wdog := some 0 } }
        s.mg.wdog = some 0 ∧ 0 + 100 * ticksPerMs ≤ s.ticks ∧ s.serves = false ∧ s.fld (regMg 4) 15 15 = 1)
      ∧ (let s := pairs 0 0 [(regMg 8, 0x4B3200)]
        s.pairSt 0 = 0 ∧ s.fld (regMg 8) 23 16 < 100 ∧ ¬ s.fld (regMg 8) 23 16 < 60 ∧ ¬ 60 < s.fld (regMg 8) 15 8
          ∧ 0 < s.fld (regMg 8) 15 8 ∧ s.mg.calm + 1 < 10 ∧ s.serves = true) := by
  repeat' apply And.intro
  all_goals decide +kernel

theorem test_premises_ManagementTasks :
    (let s := pairs 0 0 []
    s.shed = 0 ∧ s.serves = true ∧ s.fld (regTw 0) 0 0 = 1)
      ∧ (State.reset.fld (regTw 0) 0 0 = 0 ∧ (pairs 3 3 []).serves = false ∧ (pairs 0 0 [(regMg 0, 3 * 2 ^ 10)]).shed = 3)
      ∧ ((31 < (List.replicate 32 (0, 0, 0, 0)).length) ∧ (pairs 0 0 []).rangeBad (0, 0, 0, 6) = true ∧ State.reset.mg.ranges = []
        ∧ (pairs 0 0 []).rangeBad (0, 0, 1, 6) = false)
      ∧ (State.reset.rst.dumps = [] ∧ ({ State.reset.rst with dumps := [⟨2, fcSrc, 0, 0, 0, ⟨[]⟩, ⟨[]⟩, [], []⟩] } : RstSt).dumps.length = 1)
      ∧ (bitOf (0x4#32).toNat 0 = false ∧ bitOf (0x1#32).toNat 0 = true ∧ State.reset.mg.repWait = false) := by
  repeat' apply And.intro
  all_goals decide +kernel

/-- A Towpath payload: version, class, operation, SEQ 5, body. -/
def towpath (cls op : Nat) (body : List Byte) : List Byte :=
  leBytes 1 1 ++ leBytes 1 cls ++ leBytes 1 op ++ leBytes 1 0 ++ leBytes 4 5 ++ leBytes 4 body.length ++ leBytes 4 0 ++ body

theorem test_premises_TowpathRequests :
    (∀ op, op ∈ [0x01, 0x02, 0x03, 0x04, 0x10, 0x11, 0x12, 0x13, 0x14, 0x20, 0x21, 0x30, 0x31, 0x32] →
        (towpath 0 op []).length < 2 ^ 16 ∧ twOp (towpath 0 op []) = op)
      ∧ twOp (towpath 0 0x21 []) ≠ 1 ∧ State.reset.twClass 0x21 ≠ none
      ∧ State.reset.fld (regTw 0) 0 0 = 0 ∧ (pairs 0 0 []).fld (regTw 0) 0 0 = 1
      ∧ (∀ l, l ∈ [pairs 3 3 [], pairs 3 3 [(regMg 0, 0x200)]] → (l.count (regTw 4) 15 0).serves = false ∧ (l.count (regTw 4) 15 0).mg.queue = [])
      ∧ ((pairs 3 3 [(regMg 0, 0x200)]).count (regTw 4) 15 0).fld (regMg 0) 9 9 = 1
      ∧ ((pairs 3 3 []).count (regTw 4) 15 0).fld (regMg 0) 9 9 = 0
      ∧ (let s := { pairs 3 3 [] with mg := { MgSt.reset with queue := List.replicate 32 (0, []) } };
        32 ≤ (s.count (regTw 4) 15 0).mg.queue.length)
      ∧ ((pairs 0 0 []).count (regTw 4) 15 0).serves = true
      ∧ ((pairs 0 0 []).count (regTw 4) 15 0).twRun 0 (towpath 0 0x32 []) false false
          = (2, [], (pairs 0 0 []).count (regTw 4) 15 0) := by
  repeat' apply And.intro
  all_goals decide +kernel

theorem sha256_length (m : List Byte) : (sha256 m).length = 32 := by
  have h : ∀ v, (beBytes 4 v).length = 4 := by
    intro v
    rw [beBytes, List.length_reverse, leBytes_length]
  simp only [sha256, List.flatMap_cons, List.flatMap_nil, List.length_append, h, List.length_nil]

/-- A message with its tag under the owner key. -/
theorem tagged_message (s : State) (k : List Byte) (m : List Byte) (h : s.mg.ownerKey = some k) :
    let p := m ++ (hmac256 k m).take 16
    s.twTag (p.take m.length) = some ((p.drop m.length).take 16) ∧ p.length = m.length + 16 := by
  refine ⟨?_, ?_⟩
  · rw [List.take_left, List.drop_left]
    simp [State.twTag, h, List.take_take]
  · rw [List.length_append, List.length_take, hmac256, sha256_length]
    rfl

theorem test_premises_TowpathOperations :
    (fieldAt ([] : List Byte) 0 1 ≠ 1 ∧ fieldAt (towpath 0 0 []) 0 1 = 1)
      ∧ (∀ x, x ∈ [(0, 0x01, leBytes 8 0 ++ leBytes 4 64), (0, 0x02, List.replicate 32 0), (0, 0x03, leBytes 4 0), (0, 0x04, []), (0, 0xFF, []),
          (1, 0x01, []), (2, 0x31, []), (0, 0x32, List.replicate 32 0)] →
        let p := towpath x.1 x.2.1 x.2.2
        fieldAt p 0 1 = 1 ∧ twLen p = x.2.2.length ∧ twLen p ≤ 1024 ∧ 16 + twLen p + (if twCls p = 1 then 16 else 0) ≤ p.length + (if x.1 = 1 then 16 else 0)
          ∧ twCls p = x.1 ∧ twOp p = x.2.1 ∧ twBody p = x.2.2)
      ∧ (State.reset.twClass 0xFF = none ∧ State.reset.twClass 0x01 = some 0 ∧ State.reset.twClass 0x31 = some 2 ∧ State.reset.mg.ownerKey = none)
      ∧ (let b := leBytes 8 0 ++ leBytes 4 64
        fieldAt b 8 4 ≠ 0 ∧ fieldAt b 8 4 ≤ 64 ∧ fieldAt b 0 8 % 4 = 0)
      ∧ (∀ x, x ∈ [(0x10, leBytes 8 0xFFFFFFFC ++ leBytes 4 1 ++ leBytes 4 9), (0x11, leBytes 8 0), (0x12, leBytes 4 0x5253), (0x13, leBytes 4 0xFFFF ++ [9]),
          (0x14, leBytes 4 3 ++ leBytes 4 (511 * 1024)), (0x20, leBytes 4 (24 * 2 ^ 20 - 1) ++ [9]), (0x21, [])] →
        let m := towpath 1 x.1 x.2
        m.length = 16 + x.2.length ∧ twLen m = x.2.length ∧ twCls m = 1 ∧ twOp m = x.1 ∧ twBody m = x.2 ∧ State.reset.twClass x.1 = some 1)
      ∧ (∀ (s : State) (k : List Byte), s.mg.ownerKey = some k → s.mg.seen = [] → ∀ x, x ∈ [0x10, 0x11, 0x12, 0x13, 0x14, 0x20, 0x21] → ∀ b : List Byte,
        let m := towpath 1 x b
        let p := m ++ (hmac256 k m).take 16
        s.twTag (p.take m.length) = some ((p.drop m.length).take 16) ∧ p.length = m.length + 16 ∧ s.mg.seen.find? (fun e => e.1 = 0) = none)
      ∧ (State.reset.mode ≠ 2 ∧ fieldAt (leBytes 4 0xFFFF ++ [9]) 0 4 + (5 - 4) ≤ 0x10000) := by
  refine ⟨by decide +kernel, by decide +kernel, by decide +kernel, by decide +kernel, by decide +kernel, ?_, by decide +kernel⟩
  intro s k h hs x _ b
  exact ⟨(tagged_message s k _ h).1, (tagged_message s k _ h).2, by rw [hs]; rfl⟩

/-- Registers written after reset, and a raw time. -/
def with32 (l : List (Nat × Nat)) (ticks : Nat) : State :=
  { l.foldl (fun (s : State) e => s.setReg e.1 (BitVec.ofNat 32 e.2)) State.reset with ticks := ticks }

theorem test_premises_SupplyCommands :
    (State.reset.pw.powered = true ∧ ({ State.reset.pw with powered := false } : PwSt).powered = false)
      ∧ (let s := { State.reset with ticks := 2 ^ 40, pw := { PwSt.reset with powered := false, charge := some 0 } }
        ¬ (s.ticks < s.pw.offAt + 100 * ticksPerMs ∨ ∃ t, s.pw.charge = some t ∧ s.ticks < t + 1000 * ticksPerMs))
      ∧ (State.reset.fld (regPw 8) 2 2 = 0 ∧ (with32 [(regPw 8, 4)] 0).fld (regPw 8) 2 2 = 1 ∧ State.reset.dieOff 3 = false)
      ∧ (3199 < 3200 ∧ 5800 < 5801 ∧ 5801 < 2 ^ 16) := by
  refine ⟨by decide +kernel, ?_, by decide +kernel, by decide +kernel⟩
  intro s h
  rcases h with h | ⟨t, ht, h⟩
  · revert h; decide +kernel
  · have : t = 0 := by
      have e : some 0 = some t := ht
      injection e with e
      exact e.symm
    subst this
    revert h
    decide +kernel

theorem test_premises_OperatingPoints :
    (State.reset.inP3 = false ∧ (with32 [(regPw 8, 2)] 0).inP3 = true ∧ State.reset.dieOff 3 = false)
      ∧ (let s := with32 [(regMg 0x440, 0xFF00)] 0
        let w := s.limitW * 10;
        w < 901 ∧ 0 * 100 < w * 95 ∧ w * 95 ≤ 900 * 100 ∧ 900 ≤ w)
      ∧ (({ State.reset.pw with below := ⟨[(3, 9)]⟩ } : PwSt).below.get 3 0 + 1 = 10 ∧ State.reset.pw.below.get 3 0 + 1 ≠ 10)
      ∧ (let v : Word32 := 2#32;
        v.toNat % 4 ≠ 3 ∧ (with32 [(regMg 0x40C, 2)] 0).fld (regMg (0x400 + 4 * 3)) 1 0 ≤ v.toNat % 4)
      ∧ ((∀ i, i < 16 → (State.reset.cl (16 * 3 + i)).seq.st ≠ .running) ∧ ((at0 63).cl (16 * 3 + 15)).seq.st = .running)
      ∧ (lookup ({ State.reset.pw with lower := ⟨[(3, 2)]⟩ } : PwSt).lower.rows 3 = some 2 ∧ lookup State.reset.pw.lower.rows 3 = none)
      ∧ (State.reset.fld (regOp 3) 3 3 = 0)
      ∧ (let s := with32 [(regOp 3, 2 + 8)] (2 ^ 40)
        s.fld (regOp 3) 3 3 = 1 ∧ s.pw.pendAt.get 3 0 + 1000 * ticksPerMs ≤ s.ticks ∧ ¬ (s.fld (regOp 3) 1 0 < s.cur 3 ∧ s.holdBits 3 ≠ 0))
      ∧ (let s := { with32 [(regOp 3, 0)] (2 ^ 40) with pw := { PwSt.reset with held := ⟨[(3, 0)]⟩ } }
        lookup s.pw.held.rows 3 = some 0 ∧ 0 + 100 * ticksPerMs ≤ s.ticks ∧ s.cur 3 < 2 ∧ s.pw.lower.has 3 = false)
      ∧ (let s := { with32 [(regOp 3, 2 * 16)] (2 ^ 40) with pw := { PwSt.reset with zero := ⟨[(3, 0)]⟩ } }
        lookup s.pw.zero.rows 3 = some 0 ∧ 0 + 1000 * ticksPerMs ≤ s.ticks ∧ s.fld (regOp 3) 1 0 < s.cur 3 ∧ s.fld (regOp 3) 3 3 = 0
          ∧ ¬ s.cur 3 < 2) := by
  repeat' apply And.intro
  all_goals decide +kernel

theorem test_premises_HeatStandbyAndClocks :
    (let s := { with32 [(regMg 0x440, 0x78870000)] 0 with pw := { PwSt.reset with hot := [sensorId 4 7] } }
    (s.fld (regMg 0x440) 31 24 : Int) ≤ 255 ∧ s.pw.hot.contains (sensorId 4 7) = true ∧ s.pw.hot.contains (sensorId 3 4) = false
      ∧ (-1 : Int) < (s.fld (regMg 0x440) 31 24 : Int) - 5 ∧ (s.fld (regMg 0x440) 23 16 : Int) ≤ 255)
      ∧ (State.reset.allDisabled = true ∧ (∀ j, j < 16 → State.reset.jState j ≠ 1) ∧ State.reset.mode = 0 ∧ State.reset.inP3 = false
        ∧ (with32 [(regDt 0, 2)] 0).mode ≠ 0 ∧ (with32 [(regPw 8, 2)] 0).inP3 = true ∧ State.reset.pw.enables = [])
      ∧ (let s := with32 [(regPw 0, 1)] 0
        s.fld (regPw 0) 0 0 = 1 ∧ 15 ∉ s.pw.gated ∧ ∀ i, i < 4 → ((s.cl (4 * 15 + i)).seq.st ≠ .running ∧ (s.cl (4 * 15 + i)).seq.st ≠ .stopped))
      ∧ ((with32 [(regPw 8, 2)] 0).clkStopped 0 = true ∧ State.reset.clkStopped 39 = false ∧ State.reset.clkStopped 4 = false
        ∧ State.reset.monBit 39 = false ∧ (with32 [(regMon 39, 2 ^ 7)] 0).monBit 39 = true
        ∧ State.reset.pw.good.get 39 0 + 1 < 10 ∧ 10 ≤ ({ PwSt.reset with good := ⟨[(39, 9)]⟩ } : PwSt).good.get 39 0 + 1)
      ∧ (∀ a, a < 2 → (with32 [(regClk 0, 2 * a + 12)] 0).fld (regClk 0) 1 1 = a ∧ (with32 [(regClk 0, 2 * a + 12)] 0).fld (regClk 0) 2 2 = 1
        ∧ (with32 [(regClk 0, 2 * a + 12)] 0).fld (regClk 0) 3 3 = 1
        ∧ (with32 [(regClk 0, 2 * a + 4 * 2 ^ a)] 0).fld (regClk 0) (2 + a) (2 + a) = 1 ∧ (with32 [(regClk 0, 2 * a + 4 * 2 ^ a)] 0).fld (regClk 0) (3 - a) (3 - a) = 0
        ∧ (with32 [(regClk 0, 2 * a + 4 * 2 ^ a)] 0).fld (regClk 0) 1 1 = a)
      ∧ (ctx255 1).allDisabled = false := by
  repeat' apply And.intro
  all_goals decide +kernel

/-- Commands wait. -/
def queue (l : List Instr) : State := { State.reset with pending := l }

theorem test_premises_StepRunsTheFrontCommand : (queue [.timeTick, .fcAck 0]).pending = [.timeTick, .fcAck 0] ∧ State.reset.pending = [] := by
  decide +kernel

theorem test_premises_RefusedExactlyWhenIllFormed : (Instr.clMemclr 63).wf = true ∧ (Instr.clMemclr 64).wf = false := by decide +kernel

theorem test_premises_StepKeepsTheMemoryForm :
    (queue [.timeTick]).formed = true ∧ step (queue []) = .next State.reset := by
  exact ⟨by decide +kernel, rfl⟩

theorem test_premises_QueueDrains : (queue [.timeTick, .clMemclr 63, .timeTick]).safe = true ∧ (queue []).safe = true := by decide +kernel

theorem test_premises_RegisterAccess :
    (2 ^ 23 - 4 < 2 ^ 23 ∧ (2 ^ 23 - 4) % 4 = 0 ∧ ({ State.reset with fences := [0x230] } : State).dieDark (regCl 63 0x208) = true)
      ∧ (State.reset.dieDark 0x401FFC = false ∧ State.reset.dieDark 0x100000 = false ∧ State.reset.dieDark (regCl 63 0x208) = false)
      ∧ (regRow 0x13FFFC = none ∧ (regRow (regBat 15 0)).isSome = true)
      ∧ (spanBlocks[23]?).isSome = true
      ∧ (∀ v, v < 5 → 1 ≤ v → (BitVec.ofNat 32 v).toNat % 8 = v)
      ∧ (bitsOf (0x4B530001#32).toNat 31 16 = 0x4B53 ∧ bitsOf (0x4B530001#32).toNat 1 0 = 1 ∧ bitsOf (0x00001000#32).toNat 14 12 = 1) := by
  repeat' apply And.intro
  all_goals decide +kernel

theorem test_premises_MalformedDescriptor :
    let d := bytes64 [(0, 8)]
    d.length = 64 ∧ 8 ≤ fieldAt d 0 1 ∧ fieldAt (bytes64 [(3, 1)]) 2 2 ≠ 0 ∧ queued1.mode ≠ 2 ∧ queued1.mayAccept 255 = true
      ∧ queued1.fld (regDb 255 8) 15 0 ≠ queued1.fld (regDb 255 0) 15 0 ∧ queued1.decodeFull d = false ∧ queued1.descMalformed d = true := by
  decide +kernel

/-! ### Words of commands, numbers and single steps -/

/-- No row of the table has bits, so no word spells a command. -/
theorem test_no_word_spells_a_command (s : State) (nbits w : Nat) : decodeTableWord nbits w = none ∧ s.withFetchWord nbits w = s :=
  ⟨rfl, rfl⟩

/-- R9: the byte of the lowest address is the least significant. -/
theorem test_little_endian : leNat [0x78, 0x56, 0x34, 0x12] = 0x12345678 ∧ leBytes 4 0x12345678 = [0x78, 0x56, 0x34, 0x12] := by
  decide +kernel

/-- The check value of CRC-32C over the ASCII digits 1 to 9 (R375's polynomial). -/
theorem test_crc32c : crc32c [0x31, 0x32, 0x33, 0x34, 0x35, 0x36, 0x37, 0x38, 0x39] = 0xE3069283 := by decide +kernel

/-- R401: a tick of CK_TIME adds the increment, 2 ns nominal. -/
theorem test_tick : (match exec .timeTick State.reset with | .next t => (t.ticks, t.time.now) | _ => (0, 0)) = (1, 2 * 2 ^ 32) := by
  decide +kernel

/-- R227: SETL keeps the upper half, SETH the lower half. -/
theorem test_setl : (match exec (.setl 63 (5 * 2 ^ 20 + 0xBEEF)) ((at0 63).updSeq 63 (fun q => { q with args := q.args.set 5 0x12345678 })) with
    | .next t => (t.cl 63).seq.args.get 5 0 | _ => 0) = 0x1234BEEF := by decide +kernel

theorem test_seth : (match exec (.seth 63 (5 * 2 ^ 20 + 0xBEEF)) ((at0 63).updSeq 63 (fun q => { q with args := q.args.set 5 0x12345678 })) with
    | .next t => (t.cl 63).seq.args.get 5 0 | _ => 0) = 0xBEEF5678 := by decide +kernel

/-- R227: the immediate of ADDI is sign-extended from 20 bits. -/
theorem test_addi : (match exec (.addi 0 (2 ^ 20 + 0xFFFFF)) (at0 0) with
    | .next t => (t.cl 0).seq.args.get 1 0 | _ => 0) = 0xFFFFFFFF := by decide +kernel

/-- R228: a count of 0 behaves as 1. -/
theorem test_bloop_falls_through : (match exec (.bloop 0 9) (at0 0) with
    | .next t => ((t.cl 0).seq.pc.toNat, (t.cl 0).seq.lc.get 0 0) | _ => (0, 1)) = (1, 0) := by decide +kernel

end Sys2Proof.Tests
end

section
/-! PROOFS. The state after package reset (O56). A register that repeats in every instance of a block has the reset value
of its first instance, so one evaluation per register settles all instances. -/

namespace Sys2Proof.Machine

/-! ### Where a row of the register map lies -/

/-- The place of the last register of a row. -/
def RegRow.last (r : RegRow) : Nat := r.base + (r.n1 - 1) * r.s1 + (r.n2 - 1) * r.s2

/-- The registers of a row lie in the span from its base to its last register. -/
theorem RegRow.span_of_covers {r : RegRow} {off : Nat} (h : r.covers off = true) : r.base ≤ off ∧ off ≤ r.last := by
  unfold RegRow.covers at h
  split at h
  · contradiction
  · simp only [decide_eq_true_eq] at h
    generalize hi : (if r.s1 = 0 then 0 else min ((off - r.base) / r.s1) (r.n1 - 1)) = i at h
    generalize hj : (if r.s2 = 0 then 0 else min ((off - r.base - i * r.s1) / r.s2) (r.n2 - 1)) = j at h
    have hi' : i * r.s1 ≤ (r.n1 - 1) * r.s1 := Nat.mul_le_mul_right _ (by grind)
    have hj' : j * r.s2 ≤ (r.n2 - 1) * r.s2 := Nat.mul_le_mul_right _ (by grind)
    unfold RegRow.last
    omega

/-- Within an instance only the sub-instances matter. -/
theorem RegRow.covers_at (r : RegRow) {i k : Nat} (hi : i < r.n1) (hk : k < r.s1) :
    r.covers (r.base + (r.s1 * i + k)) = decide (k = (if r.s2 = 0 then 0 else min (k / r.s2) (r.n2 - 1)) * r.s2) := by
  have hpos : 0 < r.s1 := by omega
  have hdiv : min ((r.s1 * i + k) / r.s1) (r.n1 - 1) = i := by
    rw [Nat.mul_add_div hpos, Nat.div_eq_of_lt hk]
    omega
  have hsub : r.s1 * i + k - i * r.s1 = k := by rw [Nat.mul_comm, Nat.add_sub_cancel_left]
  simp only [RegRow.covers, Nat.not_lt.mpr (Nat.le_add_right r.base _), if_false, Nat.add_sub_cancel_left,
    Nat.pos_iff_ne_zero.mp hpos, hdiv, hsub]

/-! ### Blocks of equal instances -/

/-- A row lies outside the `n` instances of `w` bytes from `b` on, or it repeats with them and stays inside each. -/
def RegRow.fits (b w n : Nat) (r : RegRow) : Bool :=
  r.last < b || b + w * n ≤ r.base || (b ≤ r.base && r.base - b + (r.n2 - 1) * r.s2 < w && r.s1 = w && n ≤ r.n1)

/-- A row that fits a block covers the same place of every instance. -/
theorem RegRow.covers_instance {b w n c o : Nat} {r : RegRow} (hr : r.fits b w n = true) (hc : c < n) (ho : o < w) :
    r.covers (b + (w * c + o)) = r.covers (b + o) := by
  have hin : w * c + w ≤ w * n := Nat.mul_le_mul_left w hc
  have outside (off : Nat) (h : off < r.base ∨ r.last < off) : r.covers off = false := by
    rw [← Bool.not_eq_true]
    intro hcov
    have span := RegRow.span_of_covers hcov
    omega
  simp only [RegRow.fits, Bool.or_eq_true, Bool.and_eq_true, decide_eq_true_eq] at hr
  obtain (before | after) | ⟨⟨⟨hb, hlen⟩, rfl⟩, hn⟩ := hr
  · rw [outside _ (by omega), outside _ (by omega)]
  · rw [outside _ (by omega), outside _ (by omega)]
  · by_cases hob : r.base - b ≤ o
    · have place (i : Nat) : b + (r.s1 * i + o) = r.base + (r.s1 * i + (o - (r.base - b))) := by omega
      have first : b + o = r.base + (r.s1 * 0 + (o - (r.base - b))) := by omega
      rw [place, first, r.covers_at (by omega) (by omega), r.covers_at (by omega) (by omega)]
    · rw [outside (b + o) (by omega)]
      cases c with
      | zero => exact outside _ (by omega)
      | succ i =>
        have place : b + (r.s1 * (i + 1) + o) = r.base + (r.s1 * i + (r.s1 + o - (r.base - b))) := by
          rw [Nat.mul_succ]; omega
        have hj : (if r.s2 = 0 then 0 else min ((r.s1 + o - (r.base - b)) / r.s2) (r.n2 - 1)) * r.s2 ≤ (r.n2 - 1) * r.s2 :=
          Nat.mul_le_mul_right _ (by grind)
        rw [place, r.covers_at (by omega) (by omega), decide_eq_false_iff_not]
        omega

/-- `n` equal instances of `w` bytes from `b` on that no row crosses, away from the two ranges whose reset values are
computed (R461 and Table 10.7). -/
def regBlock (b w n : Nat) : Bool :=
  regRows.all (RegRow.fits b w n) && (b + w * n ≤ 0x410100 || 0x410200 ≤ b) && (b + w * n ≤ 0x502000 || 0x503000 ≤ b)

/-- Two tests that agree on every row of a list find the same row: Mathlib's `List.find?_congr`, stated here because the
package's modules build on core Lean alone. -/
theorem find?_row_congr {l : List RegRow} {p q : RegRow → Bool} (h : ∀ r ∈ l, p r = q r) : l.find? p = l.find? q := by
  induction l with
  | nil => rfl
  | cons r l ih =>
    rw [List.find?_cons, List.find?_cons, h r List.mem_cons_self, ih fun x hx => h x (List.mem_cons_of_mem r hx)]

/-- Every instance of a block holds the rows of the first. -/
theorem regRow_instance {b w n c o : Nat} (hb : regBlock b w n = true) (hc : c < n) (ho : o < w) :
    regRow (b + (w * c + o)) = regRow (b + o) := by
  simp only [regBlock, Bool.and_eq_true, List.all_eq_true] at hb
  obtain ⟨⟨fit, -⟩, -⟩ := hb
  exact find?_row_congr fun r hr => RegRow.covers_instance (fit r hr) hc ho

/-- The register at an offset, if there is one, takes no bit of its reset value from the factory. -/
def noFactoryBits (off : Nat) : Bool := (regRow off).all (fun r => r.fac = 0)

/-- Outside the computed ranges a register without factory bits resets to the value of its row, a place without a register
to 0. -/
theorem regReset_of_row {off : Nat} (hcal : off < 0x410100 ∨ 0x410200 ≤ off) (hsev : off < 0x502000 ∨ 0x503000 ≤ off)
    (hfac : noFactoryBits off = true) :
    regReset off = ((regRow off).map (fun r => BitVec.ofNat 32 r.reset)).getD 0 := by
  unfold regReset
  rw [if_neg (by omega), if_neg (by omega)]
  cases h : regRow off with
  | none => rfl
  | some r =>
    have : r.fac = 0 := by simpa [noFactoryBits, h] using hfac
    simp [this]

/-- Every instance of a block resets to the values of the first. -/
theorem regReset_instance {off b w n c o : Nat} (hb : regBlock b w n = true) (hoff : off = b + w * c + o) (hc : c < n)
    (ho : o < w) (hfac : noFactoryBits (b + o) = true) : regReset off = regReset (b + o) := by
  rw [Nat.add_assoc] at hoff
  have same : regRow off = regRow (b + o) := hoff ▸ regRow_instance hb hc ho
  have hin : w * c + w ≤ w * n := Nat.mul_le_mul_left w hc
  have hfac' : noFactoryBits off = true := by rwa [noFactoryBits, same]
  simp only [regBlock, Bool.and_eq_true, Bool.or_eq_true, decide_eq_true_eq] at hb
  obtain ⟨⟨-, hcal⟩, hsev⟩ := hb
  rw [regReset_of_row (by omega) (by omega) hfac', regReset_of_row (by omega) (by omega) hfac, same]

theorem clusterBlock : regBlock 0x100000 0x1000 64 = true := by decide +kernel
theorem contextBlock : regBlock 0x200000 0x1000 256 = true := by decide +kernel
theorem coaxBlock : regBlock 0x420000 0x1000 16 = true := by decide +kernel
theorem generatorBlock : regBlock 0x4D1000 0x20 64 = true := by decide +kernel
theorem viaductPortBlock : regBlock 0x4E0100 0x40 8 = true := by decide +kernel
theorem jobBlock : regBlock 0x4E1000 0x80 16 = true := by decide +kernel

/-- The module has 16 job slots: behind them lie places without registers. -/
theorem behindJobBlock : regBlock 0x4E1800 0x80 48 = true := by decide +kernel

/-! ### Registers after package reset -/

/-- No register has been written. -/
theorem State.fld_reset (off hi lo : Nat) : State.reset.fld off hi lo = bitsOf (regReset off).toNat hi lo := rfl

theorem regReset_clGen {c : Nat} (hc : c < 64) : regReset (regCl c 0x0C) = 1 :=
  (regReset_instance clusterBlock rfl hc (by decide) (by decide +kernel)).trans (by decide +kernel)

theorem regReset_ctxStatus {c : Nat} (hc : c < 256) : regReset (regCtx c 4) = 0 :=
  (regReset_instance contextBlock rfl hc (by decide) (by decide +kernel)).trans (by decide +kernel)

theorem regReset_ctxSeqLo {c : Nat} (hc : c < 256) : regReset (regCtx c 8) = 1 :=
  (regReset_instance contextBlock rfl hc (by decide) (by decide +kernel)).trans (by decide +kernel)

theorem regReset_ctxSeqHi {c : Nat} (hc : c < 256) : regReset (regCtx c 0xC) = 0 :=
  (regReset_instance contextBlock rfl hc (by decide) (by decide +kernel)).trans (by decide +kernel)

theorem regReset_apSupply {p : Nat} (hp : p < 16) : regReset (regAp p 0x34) = 0 :=
  (regReset_instance coaxBlock rfl hp (by decide) (by decide +kernel)).trans (by decide +kernel)

theorem regReset_vpStatus {p : Nat} (hp : p < 8) : regReset (regVp p 4) = 0 :=
  (regReset_instance (o := 4) viaductPortBlock (by unfold regVp regVd; omega) hp (by decide) (by decide +kernel)).trans
    (by decide +kernel)

theorem regReset_genControl {g : Nat} (hg : g < 64) : regReset (regGen g 0) = 0 :=
  (regReset_instance (o := 0) generatorBlock (by unfold regGen regGa; omega) hg (by decide) (by decide +kernel)).trans
    (by decide +kernel)

theorem regReset_jobStatus {j : Nat} (hj : j < 64) : regReset (regJob j 0x14) = 0 := by
  by_cases slot : j < 16
  · exact (regReset_instance (o := 0x14) jobBlock (by unfold regJob regVd; omega) slot (by decide) (by decide +kernel)).trans
      (by decide +kernel)
  · have behind : regJob j 0x14 = 0x4E1800 + 0x80 * (j - 16) + 0x14 := by unfold regJob regVd; omega
    exact (regReset_instance behindJobBlock behind (by omega) (by decide) (by decide +kernel)).trans (by decide +kernel)

/-! ### The units after package reset -/

/-- R514: every cluster has generation 1. -/
theorem State.genOf_reset {c : Nat} (hc : c < 64) : State.reset.genOf c = 1 := by
  rw [State.genOf, if_pos hc, State.fld_reset, regReset_clGen hc]
  rfl

/-- R329: every context is DISABLED. -/
theorem State.ctxState_reset {c : Nat} (hc : c < 256) : State.reset.ctxState c = 0 := by
  rw [State.ctxState, State.fld_reset, regReset_ctxStatus hc]
  rfl

/-- SEQ_LO and SEQ_HI hold the number of the next descriptor. -/
theorem State.ctxSeq_reset {c : Nat} (hc : c < 256) : State.reset.ctxSeq c = 1 := by
  have lo : State.reset.reg (regCtx c 8) = 1 := regReset_ctxSeqLo hc
  rw [State.ctxSeq, lo, State.fld_reset, regReset_ctxSeqHi hc]
  rfl

/-- STATE of AP (Table 12.3): every coax supply is OFF. -/
theorem State.poc_reset {p : Nat} (hp : p < 16) : State.reset.poc p = 0 := by
  rw [State.poc, State.fld_reset, regReset_apSupply hp]
  rfl

/-- STATE of VP (Table 15.3): every Viaduct port is DISABLED. -/
theorem State.vpState_reset {p : Nat} (hp : p < 8) : State.reset.vpState p = 0 := by
  rw [State.vpState, State.fld_reset, regReset_vpStatus hp]
  rfl

/-- STATE of a job slot (R443): every job is IDLE. -/
theorem State.jState_reset {j : Nat} (hj : j < 64) : State.reset.jState j = 0 := by
  rw [State.jState, State.fld_reset, regReset_jobStatus hj]
  rfl

/-- EN of GA: every generator is off. -/
theorem State.gOn_reset {g : Nat} (hg : g < 64) : State.reset.gOn g = false := by
  rw [State.gOn, State.fld_reset, regReset_genControl hg]
  rfl

/-- R500: Keystone is in BOOT (Table 17.8). -/
theorem State.ks_reset : State.reset.ks = 0 := by decide +kernel

/-- STATE of TB_STAT (Table 14.1): the reference state is FREE. -/
theorem State.refState_reset : State.reset.refState = 0 := by decide +kernel

/-- MODE of DT: live, so neither recording nor replaying. -/
theorem State.mode_reset : State.reset.mode = 0 := by decide +kernel

/-- Settles O56: the fields that the reset state lists, by reading them, and those held in registers, by the reset value of
the first instance of each. -/
theorem resetState : Obligations.ResetState := by
  unfold Obligations.ResetState
  exact ⟨rfl, rfl, fun _ hc => ⟨rfl, rfl, State.genOf_reset hc⟩, rfl, rfl, rfl,
    fun _ hc => ⟨State.ctxState_reset hc, State.ctxSeq_reset hc⟩, rfl, rfl, fun _ => State.poc_reset, fun _ => State.vpState_reset,
    fun _ => State.jState_reset, State.ks_reset, State.refState_reset, rfl, rfl, State.mode_reset, fun _ => State.gOn_reset⟩

end Sys2Proof.Machine
end

section
/-! PROOFS. The rotating self-test (O42). A reset of a cluster, and the move of a program to a cluster, change nothing that
the self-test keeps elsewhere (`ClusterFrame`); with that, each branch of a slot and of a test's end is read off. -/

namespace Sys2Proof.Machine

/-! ### Fields of a register -/

/-- A word with a field replaced: the bits above it, its new value, the bits below it. -/
theorem putBits_eq (w v : Nat) {hi lo : Nat} (h : lo ≤ hi) : putBits w hi lo v =
    2 ^ lo * (2 ^ (hi + 1 - lo) * (w / 2 ^ (hi + 1)) + v % 2 ^ (hi + 1 - lo)) + w % 2 ^ lo := by
  have split : 2 ^ (hi + 1) = 2 ^ lo * 2 ^ (hi + 1 - lo) := by rw [← Nat.pow_add]; congr 1; omega
  have low := Nat.div_add_mod w (2 ^ lo)
  have high := Nat.div_add_mod (w / 2 ^ lo) (2 ^ (hi + 1 - lo))
  rw [Nat.div_div_eq_div_mul, ← split] at high
  rw [← high, Nat.mul_add] at low
  rw [putBits, bitsOf, Nat.mul_add, Nat.mul_comm (w / 2 ^ lo % _), Nat.mul_comm (v % _)]
  omega

/-- The replaced field reads its new value. -/
theorem bitsOf_putBits (w v : Nat) {hi lo : Nat} (h : lo ≤ hi) :
    bitsOf (putBits w hi lo v) hi lo = v % 2 ^ (hi + 1 - lo) := by
  have pos : 0 < 2 ^ lo := Nat.two_pow_pos lo
  rw [putBits_eq w v h, bitsOf, Nat.mul_add_div pos, Nat.div_eq_of_lt (Nat.mod_lt w pos), Nat.add_zero, Nat.mul_add_mod,
    Nat.mod_mod]

/-- A field that lies above or below the replaced one reads as before. -/
theorem bitsOf_putBits_disjoint (w v : Nat) {hi lo hi' lo' : Nat} (h : lo ≤ hi) (h' : lo' ≤ hi')
    (apart : hi < lo' ∨ hi' < lo) : bitsOf (putBits w hi lo v) hi' lo' = bitsOf w hi' lo' := by
  rw [putBits_eq w v h]
  rcases apart with above | below
  · have split : 2 ^ lo' = 2 ^ lo * 2 ^ (hi + 1 - lo) * 2 ^ (lo' - (hi + 1)) := by
      rw [← Nat.pow_add, ← Nat.pow_add]; congr 1; omega
    have split' : 2 ^ lo' = 2 ^ (hi + 1) * 2 ^ (lo' - (hi + 1)) := by rw [← Nat.pow_add]; congr 1; omega
    have pos : 0 < 2 ^ lo := Nat.two_pow_pos lo
    have pos' : 0 < 2 ^ (hi + 1 - lo) := Nat.two_pow_pos _
    unfold bitsOf
    congr 1
    conv => lhs; rw [split]
    conv => rhs; rw [split']
    rw [← Nat.div_div_eq_div_mul, ← Nat.div_div_eq_div_mul, Nat.mul_add_div pos, Nat.div_eq_of_lt (Nat.mod_lt w pos),
      Nat.add_zero, Nat.mul_add_div pos', Nat.div_eq_of_lt (Nat.mod_lt v pos'), Nat.add_zero, Nat.div_div_eq_div_mul]
  · rw [← bitsOf_mod _ hi' lo' lo below h', Nat.mul_add_mod, Nat.mod_mod, bitsOf_mod _ _ _ _ below h']

theorem State.fld_setFld (s : State) (off v : Nat) {hi lo : Nat} (h : lo ≤ hi) (hw : hi < 32) :
    (s.setFld off hi lo v).fld off hi lo = v % 2 ^ (hi + 1 - lo) := by
  rw [State.fld, State.setFld_eq, State.reg_setReg_same, BitVec.toNat_ofNat, bitsOf_mod _ _ _ _ hw h, bitsOf_putBits _ _ h]

theorem State.fld_setFld_disjoint (s : State) (off v : Nat) {hi lo hi' lo' : Nat} (h : lo ≤ hi) (h' : lo' ≤ hi')
    (hw : hi' < 32) (apart : hi < lo' ∨ hi' < lo) : (s.setFld off hi lo v).fld off hi' lo' = s.fld off hi' lo' := by
  rw [State.fld, State.setFld_eq, State.reg_setReg_same, BitVec.toNat_ofNat, bitsOf_mod _ _ _ _ hw h',
    bitsOf_putBits_disjoint _ _ h h' apart, State.fld]

/-! ### Moved and cleared memory -/

theorem lookup_append {α : Type} (l r : List (Nat × α)) (x : Nat) : lookup (l ++ r) x = (lookup l x).or (lookup r x) := by
  induction l with
  | nil => rfl
  | cons e l ih =>
    simp only [List.cons_append, lookup, ih]
    split <;> rfl

/-- What an index holds when the rows were filtered by their index. -/
theorem lookup_filter_key {α : Type} (l : List (Nat × α)) (p : Nat → Bool) (x : Nat) :
    lookup (l.filter (fun e => p e.1)) x = if p x then lookup l x else none := by
  induction l with
  | nil => simp [lookup]
  | cons e l ih =>
    obtain ⟨a, v⟩ := e
    by_cases hx : a = x
    · subst hx
      cases hp : p a <;> simp [lookup, ih, hp]
    · cases hp : p a <;> simp [lookup, ih, hp, hx]

/-- Rows [a, a + n) put at b. -/
theorem lookup_shift {α : Type} (l : List (Nat × α)) (a b n x : Nat) :
    lookup ((l.filter (fun e => decide (a ≤ e.1) && decide (e.1 < a + n))).map (fun e => (e.1 - a + b, e.2))) x
      = if b ≤ x ∧ x < b + n then lookup l (x - b + a) else none := by
  induction l with
  | nil => simp [lookup]
  | cons e l ih =>
    obtain ⟨i, v⟩ := e
    by_cases hin : a ≤ i ∧ i < a + n
    · rw [List.filter_cons_of_pos (by simpa using hin), List.map_cons]
      simp only [lookup, ih]
      grind
    · rw [List.filter_cons_of_neg (by simpa using hin), ih]
      simp only [lookup]
      grind

/-- Bytes [a, a + n) stand in the place of [b, b + n), every other byte as before. -/
theorem memRead_moveCells (m : List Host.Cell) (a b n x : Nat) :
    memRead (moveCells m a b n) x = if b ≤ x ∧ x < b + n then memRead m (x - b + a) else memRead m x := by
  have before := lookup_filter_key m (fun i => decide (i < b)) x
  have behind := lookup_filter_key m (fun i => decide (b + n ≤ i)) x
  simp only [memRead, moveCells, lookup_append, before, behind, lookup_shift, decide_eq_true_eq]
  by_cases hlow : x < b
  · rw [if_pos hlow, if_neg (by omega), if_neg (by omega), if_neg (by omega)]
    simp
  · by_cases hin : x < b + n
    · rw [if_neg hlow, if_pos (by omega), if_neg (by omega), if_pos (by omega)]
      simp
    · rw [if_neg hlow, if_neg (by omega), if_pos (by omega), if_neg (by omega)]
      simp

/-! ### What a cluster's reset and a move to a cluster leave alone -/

/-- The keys of cluster c: its memory and its program store. -/
def ownKey (c a : Nat) : Prop :=
  (clKey c 0 ≤ a ∧ a < clKey c 0 + 2 ^ 22) ∨ (psKey c 0 ≤ a ∧ a < psKey c 0 + 2 ^ 17)

/-- From s to t the host map, the messages, the fences and the time stayed, and clusters and bytes changed only in cluster c. -/
structure WorkFrame (c : Nat) (s t : State) : Prop where
  hostMap : t.hostMap = s.hostMap
  net : t.net = s.net
  fences : t.fences = s.fences
  ticks : t.ticks = s.ticks
  cl : ∀ j, j ≠ c → t.cl j = s.cl j
  byte : ∀ a, ¬ ownKey c a → t.byte a = s.byte a

/-- Moreover Keystone's state stayed, and registers changed only in the blocks of clusters, regions and edge engines and in
the dump status. -/
structure ClusterFrame (c : Nat) (s t : State) : Prop extends WorkFrame c s t where
  saf : t.saf = s.saf
  reg : ∀ off, 0x160000 ≤ off → off ≠ regRc 4 → t.reg off = s.reg off

namespace WorkFrame

variable {c : Nat} {s t u : State}

theorem refl (c : Nat) (s : State) : WorkFrame c s s := ⟨rfl, rfl, rfl, rfl, fun _ _ => rfl, fun _ _ => rfl⟩

theorem trans (h : WorkFrame c s t) (k : WorkFrame c t u) : WorkFrame c s u where
  hostMap := k.hostMap.trans h.hostMap
  net := k.net.trans h.net
  fences := k.fences.trans h.fences
  ticks := k.ticks.trans h.ticks
  cl j hj := (k.cl j hj).trans (h.cl j hj)
  byte a ha := (k.byte a ha).trans (h.byte a ha)

/-- Keystone's state and registers may change. -/
theorem upd (h : WorkFrame c s t) (saf : SafSt) (regs : Table Word32) : WorkFrame c s { t with saf := saf, regs := regs } :=
  ⟨h.hostMap, h.net, h.fences, h.ticks, h.cl, h.byte⟩

theorem inService (h : WorkFrame c s t) (k : Nat) : t.inService k = s.inService k := by
  rw [State.inService, State.dieOff, h.fences, State.inService, State.dieOff]

theorem hostOf (h : WorkFrame c s t) (x : Nat) : t.hostOf x = s.hostOf x := by
  rw [State.hostOf, h.hostMap, State.hostOf]

theorem homesOf (h : WorkFrame c s t) (k : Nat) : t.homesOf k = s.homesOf k := by
  unfold State.homesOf
  rw [funext h.hostOf]

end WorkFrame

namespace ClusterFrame

variable {c : Nat} {s t u : State}

/-- A change of none of the fields concerned. -/
theorem of_eq (saf : t.saf = s.saf := by rfl) (hostMap : t.hostMap = s.hostMap := by rfl) (net : t.net = s.net := by rfl)
    (fences : t.fences = s.fences := by rfl) (ticks : t.ticks = s.ticks := by rfl) (regs : t.regs = s.regs := by rfl)
    (clusters : t.clusters = s.clusters := by rfl) (mem : t.mem = s.mem := by rfl) : ClusterFrame c s t where
  saf := saf
  hostMap := hostMap
  net := net
  fences := fences
  ticks := ticks
  reg off _ _ := by rw [State.reg, regs, State.reg]
  cl j _ := by rw [State.cl, clusters, State.cl]
  byte a _ := by rw [State.byte, mem, State.byte]

theorem refl (c : Nat) (s : State) : ClusterFrame c s s := of_eq

theorem trans (h : ClusterFrame c s t) (k : ClusterFrame c t u) : ClusterFrame c s u where
  toWorkFrame := h.toWorkFrame.trans k.toWorkFrame
  saf := k.saf.trans h.saf
  reg off low dump := (k.reg off low dump).trans (h.reg off low dump)

theorem setReg {off : Nat} (v : Word32) (h : off < 0x160000 ∨ off = regRc 4) : ClusterFrame c s (s.setReg off v) :=
  { refl c s with reg := fun x low dump => State.reg_setReg_ne s v (by omega) }

theorem setFld {off : Nat} (hi lo v : Nat) (h : off < 0x160000 ∨ off = regRc 4) : ClusterFrame c s (s.setFld off hi lo v) :=
  setReg _ h

theorem setCl (k : Cluster) : ClusterFrame c s (s.setCl c k) :=
  { refl c s with cl := fun j hj => by rw [State.cl_setCl, if_neg (Ne.symm hj)] }

theorem setMem {m : List Host.Cell} {marks : Table Gran} (h : ∀ a, ¬ ownKey c a → memRead m a = memRead s.mem a) :
    ClusterFrame c s { s with mem := m, marks := marks } :=
  { refl c s with byte := h }

theorem foldl {α : Type} {f : State → α → State} {l : List α} (h : ∀ t, ∀ x ∈ l, ClusterFrame c t (f t x)) :
    ∀ s, ClusterFrame c s (l.foldl f s) := by
  induction l with
  | nil => exact refl c
  | cons x l ih =>
    exact fun s => (h s x List.mem_cons_self).trans (ih (fun t y hy => h t y (List.mem_cons_of_mem x hy)) (f s x))

theorem fld (h : ClusterFrame c s t) {off : Nat} (low : 0x160000 ≤ off) (dump : off ≠ regRc 4) (hi lo : Nat) :
    t.fld off hi lo = s.fld off hi lo := by
  rw [State.fld, h.reg off low dump, State.fld]

end ClusterFrame

/-- The registers of a cluster are among those that a frame lets change. -/
theorem regCl_framed {c o : Nat} (hc : c < 64) (ho : o < 0x1000) : regCl c o < 0x160000 ∨ regCl c o = regRc 4 := by
  unfold regCl
  omega

theorem State.halt_frame (s : State) {c : Nat} (hc : c < 64) : ClusterFrame c s (s.halt c) := by
  have edge : regEe (dieOf c) 4 < 0x160000 := by unfold regEe dieOf; omega
  unfold State.halt
  split
  · split
    · exact (ClusterFrame.setFld 0 0 0 (.inl edge)).trans (.setCl _)
    · exact .setCl _
  · exact .refl c s

theorem State.bumpGen_frame (s : State) {c : Nat} (hc : c < 64) : ClusterFrame c s (s.bumpGen c) := by
  simp only [State.bumpGen, if_pos hc]
  exact (ClusterFrame.setFld 7 0 _ (regCl_framed hc (by decide : 0xC < 0x1000))).trans .of_eq

theorem State.setBusy_frame (s : State) (c u : Nat) (b : Bool) : ClusterFrame c s (s.setBusy u b) := .of_eq

theorem State.reqReset_frame (s : State) {c : Nat} (hc : c < 64) : ClusterFrame c s (s.reqReset c) := by
  have dropped (u : State) (l : List Claim) : ClusterFrame c u { u with claims := l } := .of_eq
  simp only [State.reqReset]
  split
  · exact .refl c s
  · exact (ClusterFrame.setCl _).trans ((State.halt_frame _ hc).trans ((State.bumpGen_frame _ hc).trans
      ((dropped _ _).trans (State.setBusy_frame _ c c true))))

theorem State.stage_frame (s : State) (d : Dump) (c : Nat) : ClusterFrame c s (s.stage d) := by
  unfold State.stage
  extract_lets l
  split
  · exact .setReg _ (.inr rfl)
  · exact .trans .of_eq (.setFld 23 16 _ (.inr rfl))

theorem State.clearMem_frame (s : State) (c : Nat) : ClusterFrame c s (s.clearMem c) := by
  refine ClusterFrame.setMem fun a ha => ?_
  have kept := lookup_filter_key s.mem (fun i => decide (i < clKey c 0) || decide (clKey c 0 + 2 ^ 22 ≤ i)) a
  have outside : (decide (a < clKey c 0) || decide (clKey c 0 + 2 ^ 22 ≤ a)) = true := by
    simp only [ownKey, Bool.or_eq_true, decide_eq_true_eq] at ha ⊢
    omega
  rw [memRead, kept, if_pos outside, memRead]

/-- A cluster as its reset leaves it: how far it ran, its copies' order, its job numbers and its memory counts are kept. -/
def Cluster.cleared (k : Cluster) : Cluster :=
  { Cluster.reset with
    seq := { Seq.reset with ran := k.seq.ran }, cp := { k.cp with jobs := [], mcCount := [] },
    nextJob := k.nextJob, memLim := k.memLim }

/-- The crash dump of cluster c before its reset, where RC_CFG asks for one. -/
def State.dumpBefore (s : State) (c : Nat) : State :=
  if s.fld (regRc 0) 1 1 = 1 then s.captureCl c (((lookup s.fc.adopt.rows c).map (fun x => x.2)).getD (s.genOf c)) else s

/-- The cluster and its memory after the dump, before its registers are cleared. -/
def State.clearCluster (s : State) (c : Nat) : State :=
  { (s.setCl c (s.cl c).cleared).clearMem c with undo := s.undo.erase c }

theorem State.runReset_eq (s : State) (c : Nat) : s.runReset c =
    (([0x100, 0x204, 4].foldl (fun (u : State) o => u.setReg (regCl c o) 0) ((s.dumpBefore c).clearCluster c)).setFld
      (regCl c 0xC) 8 8 0).setBusy c false := rfl

theorem State.dumpBefore_frame (s : State) (c : Nat) : ClusterFrame c s (s.dumpBefore c) := by
  unfold State.dumpBefore
  split
  · exact s.stage_frame _ c
  · exact .refl c s

theorem State.clearCluster_frame (s : State) (c : Nat) : ClusterFrame c s (s.clearCluster c) :=
  (ClusterFrame.setCl _).trans ((State.clearMem_frame _ c).trans .of_eq)

theorem State.cl_clearCluster (s : State) (c : Nat) : (s.clearCluster c).cl c = (s.cl c).cleared :=
  s.cl_setCl_same c (s.cl c).cleared

theorem State.runReset_frame (s : State) {c : Nat} (hc : c < 64) : ClusterFrame c s (s.runReset c) := by
  have blockOnly : ∀ o ∈ [0x100, 0x204, 4], o < 0x1000 := by decide
  rw [State.runReset_eq]
  exact (s.dumpBefore_frame c).trans ((State.clearCluster_frame _ c).trans
    ((ClusterFrame.foldl (fun _ o ho => .setReg 0 (regCl_framed hc (blockOnly o ho))) _).trans
      ((ClusterFrame.setFld 8 8 0 (regCl_framed hc (by decide : 0xC < 0x1000))).trans (State.setBusy_frame _ c c false))))

/-- R517: a reset of a cluster stays within it. -/
theorem State.resetCluster_frame (s : State) {c : Nat} (hc : c < 64) : ClusterFrame c s (s.resetCluster c) :=
  (s.reqReset_frame hc).trans ((s.reqReset c).runReset_frame hc)

theorem State.cl_setBusy (s : State) (u j : Nat) (b : Bool) : (s.setBusy u b).cl j = s.cl j := rfl

/-- R517: after its reset a cluster is IDLE. -/
theorem State.resetCluster_idle (s : State) (c : Nat) : ((s.resetCluster c).cl c).seq.st = .idle := by
  rw [State.resetCluster, State.runReset_eq, State.cl_setBusy, State.setFld_eq, State.cl_setReg]
  simp only [List.foldl_cons, List.foldl_nil, State.cl_setReg, State.cl_clearCluster]
  rfl

/-! ### The move of a program to another cluster -/

/-- The keys of a cluster's memory. -/
theorem clKey_eq {c b : Nat} (hc : c < 64) (hb : b < 2 ^ 22) : clKey c b = 2 ^ 49 + c * 2 ^ 22 + b := by
  unfold clKey memKey
  omega

/-- The keys of a cluster's program store. -/
theorem psKey_eq {c : Nat} (hc : c < 64) : psKey c 0 = 16 * 2 ^ 49 + c * 2 ^ 17 := by
  unfold psKey memKey
  omega

/-- Memories lie below the program stores. -/
theorem clKey_lt_psKey {c k b : Nat} (hc : c < 64) (hk : k < 64) (hb : b < 2 ^ 22) : clKey c b < psKey k 0 := by
  rw [clKey_eq hc hb, psKey_eq hk]
  omega

/-- No byte of a cluster's memory is another cluster's. -/
theorem not_ownKey_clKey {c k b : Nat} (hc : c < 64) (hk : k < 64) (hne : c ≠ k) (hb : b < 2 ^ 22) :
    ¬ ownKey c (clKey k b) := by
  rw [ownKey, psKey_eq hc, clKey_eq hc (by decide), clKey_eq hk hb]
  omega

/-- The registers that move with a program (log entry 27). -/
def movedRegs : List Nat := [0x100, 0x240, 0x244, 0x248, 0x24C, 0x250] ++ (upTo 8).map (fun i => 0x110 + 4 * i)

/-- The memory and the program store of cluster c put in the place of cluster k's. -/
def State.moveMem (s : State) (c k : Nat) : State :=
  { s with
    mem := moveCells (moveCells s.mem (clKey c 0) (clKey k 0) (2 ^ 22)) (psKey c 0) (psKey k 0) (2 ^ 17)
    marks := moveMarks (moveMarks s.marks (clKey c 0 / 8) (clKey k 0 / 8) (2 ^ 22 / 8))
      (psKey c 0 / 8) (psKey k 0 / 8) (2 ^ 17 / 8) }

/-- Cluster k with the program of cluster c; its job numbers and its memory counts stay its own. -/
def State.movedCluster (s : State) (c k : Nat) : Cluster :=
  { s.cl c with nextJob := max (s.cl k).nextJob (s.cl c).nextJob, memLim := (s.cl k).memLim }

theorem State.moveCluster_eq (s : State) (c k : Nat) : s.moveCluster c k =
    let m := (s.resetCluster k).moveMem c k
    let n := m.setCl k (m.movedCluster c k)
    movedRegs.foldl (fun (u : State) o => u.setReg (regCl k o) (u.reg (regCl c o)))
      (n.setFld (regCl k 0xC) 8 8 (n.fld (regCl c 0xC) 8 8)) := rfl

theorem State.moveMem_frame (s : State) (c k : Nat) : ClusterFrame k s (s.moveMem c k) := by
  refine ClusterFrame.setMem fun a ha => ?_
  unfold ownKey at ha
  rw [memRead_moveCells, if_neg (by omega), memRead_moveCells, if_neg (by omega)]

/-- A byte of cluster k's memory is the byte of cluster c's. -/
theorem State.byte_moveMem (s : State) {c k b : Nat} (hc : c < 64) (hk : k < 64) (hb : b < 2 ^ 22) :
    (s.moveMem c k).byte (clKey k b) = s.byte (clKey c b) := by
  have store := clKey_lt_psKey hk hk hb
  have here : clKey k 0 ≤ clKey k b ∧ clKey k b < clKey k 0 + 2 ^ 22 := by
    rw [clKey_eq hk hb, clKey_eq hk (by decide)]; omega
  have there : clKey k b - clKey k 0 + clKey c 0 = clKey c b := by
    rw [clKey_eq hk hb, clKey_eq hk (by decide), clKey_eq hc hb, clKey_eq hc (by decide)]; omega
  show memRead (moveCells (moveCells s.mem _ _ _) _ _ _) _ = _
  rw [memRead_moveCells, if_neg (by omega), memRead_moveCells, if_pos here, there, State.byte]

/-- A fold of register writes leaves what a register write leaves. -/
theorem State.foldl_setReg_eq {α : Type} (f : α → Nat) (g : State → α → Word32) (l : List α) :
    ∀ s : State, ∃ r, l.foldl (fun (u : State) o => u.setReg (f o) (g u o)) s = { s with regs := r } := by
  induction l with
  | nil => exact fun s => ⟨s.regs, rfl⟩
  | cons x l ih => exact fun s => ih (s.setReg (f x) (g s x))

theorem State.cl_foldl_setReg {α : Type} (f : α → Nat) (g : State → α → Word32) (l : List α) (s : State) (j : Nat) :
    (l.foldl (fun (u : State) o => u.setReg (f o) (g u o)) s).cl j = s.cl j := by
  obtain ⟨r, eq⟩ := State.foldl_setReg_eq f g l s
  rw [eq]
  rfl

theorem State.byte_foldl_setReg {α : Type} (f : α → Nat) (g : State → α → Word32) (l : List α) (s : State) (a : Nat) :
    (l.foldl (fun (u : State) o => u.setReg (f o) (g u o)) s).byte a = s.byte a := by
  obtain ⟨r, eq⟩ := State.foldl_setReg_eq f g l s
  rw [eq]
  rfl

theorem State.byte_setReg (s : State) (off a : Nat) (v : Word32) : (s.setReg off v).byte a = s.byte a := rfl

theorem State.byte_setCl (s : State) (c a : Nat) (k : Cluster) : (s.setCl c k).byte a = s.byte a := rfl

/-- R35: the move stays within cluster k. -/
theorem State.moveCluster_frame (s : State) (c : Nat) {k : Nat} (hk : k < 64) : ClusterFrame k s (s.moveCluster c k) := by
  have blockOnly : ∀ o ∈ movedRegs, o < 0x1000 := by decide
  rw [State.moveCluster_eq]
  extract_lets m n
  have moved : ClusterFrame k s n := (s.resetCluster_frame hk).trans ((State.moveMem_frame _ c k).trans (.setCl _))
  exact moved.trans ((ClusterFrame.setFld 8 8 _ (regCl_framed hk (by decide : 0xC < 0x1000))).trans
    (.foldl (fun u o ho => .setReg _ (regCl_framed hk (blockOnly o ho))) _))

/-- R35: cluster k goes on where cluster c was. -/
theorem State.moveCluster_seq (s : State) {c k : Nat} (hk : k < 64) (hne : c ≠ k) :
    ((s.moveCluster c k).cl k).seq = (s.cl c).seq := by
  rw [State.moveCluster_eq, State.cl_foldl_setReg, State.setFld_eq, State.cl_setReg, State.cl_setCl_same]
  show (((s.resetCluster k).moveMem c k).cl c).seq = _
  rw [(State.moveMem_frame _ c k).cl c hne, (s.resetCluster_frame hk).cl c hne]

/-- R35: the memory of cluster k holds what cluster c's held. -/
theorem State.moveCluster_byte (s : State) {c k b : Nat} (hc : c < 64) (hk : k < 64) (hne : c ≠ k) (hb : b < 2 ^ 22) :
    (s.moveCluster c k).byte (clKey k b) = s.byte (clKey c b) := by
  rw [State.moveCluster_eq, State.byte_foldl_setReg, State.setFld_eq, State.byte_setReg, State.byte_setCl,
    State.byte_moveMem _ hc hk hb, (s.resetCluster_frame hk).byte _ (not_ownKey_clKey hk hc hne.symm hb)]

/-! ### The next cluster to be tested -/

/-- ST_STAT of a die is among the registers that a frame keeps. -/
theorem regSt_kept {d : Nat} (hd : d < 4) : 0x160000 ≤ regSt d ∧ regSt d ≠ regRc 4 := by
  unfold regSt regKs regRc
  omega

theorem State.testable_setFld (s : State) {c : Nat} (d hi lo v : Nat) (hc : c < 64) :
    (s.setFld (regSt d) hi lo v).testable c = s.testable c := by
  have other : regSt d ≠ regFc (0x30 + 4 * (c / 32)) := by unfold regSt regKs regFc; omega
  have mark : (s.setFld (regSt d) hi lo v).isPerm (.cluster c) = s.isPerm (.cluster c) := by
    simp only [State.isPerm, State.setFld_eq, State.reg_setReg_ne s _ other]
  rw [State.testable, mark]
  rfl

/-- NOREL of ST_STAT has no part in the choice of the next cluster. -/
theorem State.nextTest_setFld (s : State) {d : Nat} (v : Nat) (hd : d < 4) :
    (s.setFld (regSt d) 6 6 v).nextTest d = s.nextTest d := by
  have head : (fun c => decide (dieOf c = d) && (s.setFld (regSt d) 6 6 v).testable c)
      = fun c => decide (dieOf c = d) && s.testable c := by
    funext c
    by_cases hc : dieOf c = d
    · rw [s.testable_setFld d 6 6 v (by unfold dieOf at hc; omega)]
    · simp [hc]
  have turn (p : Nat) : ((fun c => (s.setFld (regSt d) 6 6 v).testable c) ∘ fun i => 16 * d + (p + i) % 16)
      = (fun c => s.testable c) ∘ fun i => 16 * d + (p + i) % 16 := by
    funext i
    exact s.testable_setFld d 6 6 v (c := 16 * d + (p + i) % 16) (by omega)
  unfold State.nextTest
  rw [head, s.fld_setFld_disjoint (regSt d) v (by decide) (by decide) (by decide) (by decide)]
  simp only [List.find?_map, turn]
  rfl

/-! ### The start of a test -/

/-- Cluster c of die d is marked as under test; `first`: R493 put it at the head, and the pointer stays. -/
def State.markTest (s : State) (d c : Nat) (first : Bool) : State :=
  let u := { s with saf := { s.saf with testing := s.saf.testing.set d c } }.setFld (regSt d) 7 7 1
  if first then u else u.setFld (regSt d) 5 0 c

theorem State.markTest_eq (s : State) (d c : Nat) (first : Bool) : ∃ r, s.markTest d c first =
    { s with saf := { s.saf with testing := s.saf.testing.set d c }, regs := r } := by
  cases first <;> exact ⟨_, rfl⟩

theorem State.markTest_frame (s : State) (d c k : Nat) (first : Bool) : WorkFrame k s (s.markTest d c first) := by
  obtain ⟨r, eq⟩ := s.markTest_eq d c first
  rw [eq]
  exact (WorkFrame.refl k s).upd _ r

theorem State.cl_markTest (s : State) (d c k : Nat) (first : Bool) : (s.markTest d c first).cl k = s.cl k := by
  obtain ⟨r, eq⟩ := s.markTest_eq d c first
  rw [eq]
  rfl

/-- The test of cluster c of die d starts. -/
def State.startTest (s : State) (d c : Nat) (first : Bool) : State := (s.resetCluster c).markTest d c first

section
variable (s : State) (d : Nat) {c : Nat} (first : Bool)

theorem State.startTest_testing : (s.startTest d c first).saf.testing.get d 64 = c := by
  obtain ⟨r, eq⟩ := (s.resetCluster c).markTest_eq d c first
  rw [State.startTest, eq, Table.get_set_same]

theorem State.startTest_running : (s.startTest d c first).fld (regSt d) 7 7 = 1 := by
  unfold State.startTest State.markTest
  split
  · exact State.fld_setFld _ _ _ (by decide) (by decide)
  · rw [State.fld_setFld_disjoint _ _ _ (by decide) (by decide) (by decide) (by decide)]
    exact State.fld_setFld _ _ _ (by decide) (by decide)

theorem State.startTest_pointer (hc : c < 64) : (s.startTest d c false).fld (regSt d) 5 0 = c := by
  rw [State.startTest, State.markTest, if_neg (by decide), State.fld_setFld _ _ _ (by decide) (by decide)]
  exact Nat.mod_eq_of_lt hc

theorem State.startTest_idle : ((s.startTest d c first).cl c).seq.st = .idle := by
  rw [State.startTest, State.cl_markTest, State.resetCluster_idle]

theorem State.startTest_frame (hc : c < 64) : WorkFrame c s (s.startTest d c first) :=
  (s.resetCluster_frame hc).toWorkFrame.trans (State.markTest_frame _ d c c first)

end

/-! ### The homes of a cluster whose work moved -/

/-- Cluster k carries the homes of cluster c, which becomes the carrier of relief home h. -/
def State.moveHomes (s : State) (c k h : Nat) : State :=
  ((s.homesOf c).foldl (fun (u : State) x => u.setHost x (some k)) s).setHost h (some c)

theorem State.hostOf_setHost (s : State) (h x : Nat) (k : Option Nat) :
    (s.setHost h k).hostOf x = if h = x then k else s.hostOf x :=
  Table.get_set s.hostMap h x k (some x)

theorem State.hostOf_foldl_setHost (k : Option Nat) (x : Nat) (l : List Nat) :
    ∀ s : State, (l.foldl (fun (u : State) h => u.setHost h k) s).hostOf x = if x ∈ l then k else s.hostOf x := by
  induction l with
  | nil => simp
  | cons h l ih =>
    intro s
    rw [List.foldl_cons, ih, State.hostOf_setHost]
    grind

theorem State.foldl_setHost_eq (k : Option Nat) (l : List Nat) :
    ∀ s : State, ∃ m, l.foldl (fun (u : State) h => u.setHost h k) s = { s with hostMap := m } := by
  induction l with
  | nil => exact fun s => ⟨s.hostMap, rfl⟩
  | cons h l ih => exact fun s => ih (s.setHost h k)

/-- Only the host map changes. -/
theorem State.moveHomes_eq (s : State) (c k h : Nat) : ∃ m, s.moveHomes c k h = { s with hostMap := m } := by
  obtain ⟨m, eq⟩ := State.foldl_setHost_eq (some k) (s.homesOf c) s
  exact ⟨m.set h (some c), by rw [State.moveHomes, eq]; rfl⟩

theorem State.cl_moveHomes (s : State) (c k h j : Nat) : (s.moveHomes c k h).cl j = s.cl j := by
  obtain ⟨m, eq⟩ := s.moveHomes_eq c k h
  rw [eq]
  rfl

theorem State.byte_moveHomes (s : State) (c k h a : Nat) : (s.moveHomes c k h).byte a = s.byte a := by
  obtain ⟨m, eq⟩ := s.moveHomes_eq c k h
  rw [eq]
  rfl

theorem State.hostOf_moveHomes_relief (s : State) (c k h : Nat) : (s.moveHomes c k h).hostOf h = some c := by
  rw [State.moveHomes, State.hostOf_setHost, if_pos rfl]

theorem State.hostOf_moveHomes (s : State) (c k : Nat) {h x : Nat} (hx : x ∈ s.homesOf c) (hne : x ≠ h) :
    (s.moveHomes c k h).hostOf x = some k := by
  rw [State.moveHomes, State.hostOf_setHost, if_neg hne.symm, State.hostOf_foldl_setHost, if_pos hx]

/-- R35: cluster k goes on with the sequencer, the memory and the homes of cluster c, which carries relief home h and is
under test. -/
theorem State.startTest_moved (s : State) (d h : Nat) {c k : Nat} (first : Bool) (hc : c < 64) (hk : k < 64) (other : c ≠ k) :
    let t := ((s.moveCluster c k).moveHomes c k h).startTest d c first
    t.hostOf h = some c ∧ (∀ x, x ∈ s.homesOf c → x ≠ h → t.hostOf x = some k) ∧ (t.cl k).seq = (s.cl c).seq
      ∧ ∀ b, b < 2 ^ 22 → t.byte (clKey k b) = s.byte (clKey c b) := by
  extract_lets t
  have start : WorkFrame c ((s.moveCluster c k).moveHomes c k h) t := State.startTest_frame _ d first hc
  refine ⟨?_, fun x hx hne => ?_, ?_, fun b hb => ?_⟩
  · rw [start.hostOf, State.hostOf_moveHomes_relief]
  · rw [start.hostOf, State.hostOf_moveHomes _ c k _ hne]
    rwa [(s.moveCluster_frame c hk).homesOf c]
  · rw [start.cl k other.symm, State.cl_moveHomes, s.moveCluster_seq hk other]
  · rw [start.byte _ (not_ownKey_clKey hc hk other hb), State.byte_moveHomes,
      s.moveCluster_byte hc hk other hb]

/-! ### A slot -/

/-- R494: no enable, an offline die or a test in progress. -/
theorem doSelftestSlot_off {s : State} {d : Nat}
    (off : s.fld (regKs 0xC00) 31 31 = 0 ∨ s.dieOff d = true ∨ s.saf.testing.has d = true) : doSelftestSlot d s = s :=
  if_pos off

section
variable {s : State} {d h k c : Nat} {first : Bool} (on : s.fld (regKs 0xC00) 31 31 = 1) (online : s.dieOff d = false)
  (untested : s.saf.testing.has d = false)
include on online untested

/-- R494: no relief cluster. -/
theorem doSelftestSlot_noRelief (noRelief : ∀ x, x ∈ s.reliefs [] → dieOf x.2 ≠ d) :
    doSelftestSlot d s = s.setFld (regSt d) 6 6 1 := by
  have absent : (s.reliefs []).find? (fun x => dieOf x.2 = d) = none :=
    List.find?_eq_none.2 fun x hx => by simpa using noRelief x hx
  unfold doSelftestSlot
  rw [if_neg (by simp [on, online, untested]), absent]

variable (hd : d < 4) (relief : (s.reliefs []).find? (fun x => dieOf x.2 = d) = some (h, k))
  (next : s.nextTest d = some (c, first))
include hd relief next

/-- A slot of a die that has a relief cluster (relief home h on cluster k) and a cluster c to test. -/
theorem doSelftestSlot_eq : doSelftestSlot d s =
    let u := s.setFld (regSt d) 6 6 0
    if c = k then (if s.isBusy k then u else u.startTest d c first)
    else if s.atBoundary c = false ∨ s.isBusy k = true then u
    else ((u.moveCluster c k).moveHomes c k h).startTest d c first := by
  unfold doSelftestSlot
  rw [if_neg (by simp [on, online, untested]), relief]
  simp only [s.nextTest_setFld 0 hd, next]
  rfl

/-- R494: the relief cluster is tested in place. -/
theorem doSelftestSlot_inPlace (same : c = k) (idle : s.isBusy k = false) :
    doSelftestSlot d s = (s.setFld (regSt d) 6 6 0).startTest d c first := by
  rw [doSelftestSlot_eq on online untested hd relief next]
  simp only [same, idle, if_true, Bool.false_eq_true, if_false]

/-- R35, R494: away from a frame boundary, or while the relief cluster is reset, nothing starts. -/
theorem doSelftestSlot_away (other : c ≠ k) (away : s.atBoundary c = false ∨ s.isBusy k = true) :
    doSelftestSlot d s = s.setFld (regSt d) 6 6 0 := by
  rw [doSelftestSlot_eq on online untested hd relief next]
  simp only [if_neg other, if_pos away]

/-- R35, R494: at a frame boundary the work moves to the relief cluster, and the test starts. -/
theorem doSelftestSlot_moves (other : c ≠ k) (boundary : s.atBoundary c = true) (idle : s.isBusy k = false) :
    doSelftestSlot d s = (((s.setFld (regSt d) 6 6 0).moveCluster c k).moveHomes c k h).startTest d c first := by
  rw [doSelftestSlot_eq on online untested hd relief next]
  simp only [if_neg other, boundary, idle, Bool.true_eq_false, Bool.false_eq_true, or_self, if_false]

end

/-! ### The end of a test -/

theorem Table.has_erase {α : Type} (t : Table α) (k : Nat) : (t.erase k).has k = false := by
  rw [Table.has, Table.erase, lookup_filter_ne, if_pos rfl]
  rfl

/-- Die d has no test in progress, and cluster c is no longer at the head. -/
def State.unmark (s : State) (d c : Nat) : State :=
  { s with saf := { s.saf with testing := s.saf.testing.erase d, head := s.saf.head.filter (fun x => x ≠ c) } }

/-- The pointer of die d moves on where it stands at cluster c. -/
def State.passPointer (s : State) (d c : Nat) : State :=
  if s.fld (regSt d) 5 0 = c then s.setFld (regSt d) 5 0 (16 * d + (c + 1) % 16) else s

/-- The test of cluster c of die d ends, whatever it found. -/
def State.endTest (s : State) (d c : Nat) : State :=
  (((s.unmark d c).setFld (regSt d) 7 7 0).resetCluster c).passPointer d c

theorem State.passPointer_frame (s : State) (d c k : Nat) : WorkFrame k s (s.passPointer d c) := by
  unfold State.passPointer
  split
  · exact (WorkFrame.refl k s).upd s.saf _
  · exact .refl k s

theorem State.passPointer_saf (s : State) (d c : Nat) : (s.passPointer d c).saf = s.saf := by
  unfold State.passPointer
  split <;> rfl

/-- The pointer lies in ST_STAT[5:0]. -/
theorem State.passPointer_fld (s : State) (d c : Nat) {hi lo : Nat} (above : 5 < lo) (h : lo ≤ hi) (hw : hi < 32) :
    (s.passPointer d c).fld (regSt d) hi lo = s.fld (regSt d) hi lo := by
  unfold State.passPointer
  split
  · exact s.fld_setFld_disjoint _ _ (by decide) h hw (.inl above)
  · rfl

section
variable (s : State) (d : Nat) {c : Nat} (hc : c < 64)
include hc

theorem State.endTest_frame : WorkFrame c s (s.endTest d c) := by
  have marked : WorkFrame c s ((s.unmark d c).setFld (regSt d) 7 7 0) := (WorkFrame.refl c s).upd _ _
  exact marked.trans ((State.resetCluster_frame _ hc).toWorkFrame.trans (State.passPointer_frame _ d c c))

theorem State.endTest_saf : (s.endTest d c).saf = (s.unmark d c).saf := by
  rw [State.endTest, State.passPointer_saf, (State.resetCluster_frame _ hc).saf]
  rfl

/-- Above the pointer an end changes BUSY alone. -/
theorem State.endTest_fld (hd : d < 4) {hi lo : Nat} (above : 5 < lo) (h : lo ≤ hi) (hw : hi < 32) :
    (s.endTest d c).fld (regSt d) hi lo = (s.setFld (regSt d) 7 7 0).fld (regSt d) hi lo := by
  obtain ⟨low, dump⟩ := regSt_kept hd
  rw [State.endTest, State.passPointer_fld _ d c above h hw, (State.resetCluster_frame _ hc).fld low dump]
  rfl

theorem State.endTest_busy (hd : d < 4) : (s.endTest d c).fld (regSt d) 7 7 = 0 := by
  rw [s.endTest_fld d hc hd (by decide) (by decide) (by decide)]
  exact s.fld_setFld _ _ (by decide) (by decide)

theorem State.endTest_count (hd : d < 4) : (s.endTest d c).fld (regSt d) 31 16 = s.fld (regSt d) 31 16 := by
  rw [s.endTest_fld d hc hd (by decide) (by decide) (by decide)]
  exact s.fld_setFld_disjoint _ _ (by decide) (by decide) (by decide) (by decide)

/-- R495, R496: a passed test counts and stamps the cluster, a failed one is reported. -/
theorem doSelftestComplete_eq {d : Nat} (p : Nat) (test : lookup s.saf.testing.rows d = some c)
    (inService : s.inService c = true) :
    doSelftestComplete d p s =
      if p = 0 then
        let u := (s.endTest d c).count (regSt d) 31 16
        { u with saf := { u.saf with tested := u.saf.tested.set c u.ticks, overdue := u.saf.overdue.filter (fun x => x ≠ c) } }
      else (s.endTest d c).send c 0xA2 (p % 16) true [] := by
  have still : ¬ (!(s.endTest d c).inService c) = true := by rw [(s.endTest_frame d hc).inService, inService]; decide
  unfold doSelftestComplete
  rw [test]
  exact if_neg still

end

/-- R496: no test in progress. -/
theorem doSelftestComplete_none {s : State} {d : Nat} (untested : s.saf.testing.has d = false) (p : Nat) :
    doSelftestComplete d p s = s := by
  have absent : lookup s.saf.testing.rows d = none := by simpa [Table.has] using untested
  unfold doSelftestComplete
  rw [absent]

/-- R496: a passed test. -/
theorem doSelftestComplete_pass (s : State) {d c : Nat} (hd : d < 4) (hc : c < 64)
    (test : lookup s.saf.testing.rows d = some c) (inService : s.inService c = true) :
    let t := doSelftestComplete d 0 s
    t.saf.testing.has d = false ∧ t.fld (regSt d) 7 7 = 0 ∧ t.saf.tested.get c 0 = s.ticks ∧ c ∉ t.saf.overdue ∧ t.net = s.net
      ∧ t.fld (regSt d) 31 16 = (s.fld (regSt d) 31 16 + 1) % 65536 ∧ t.hostMap = s.hostMap := by
  have raised : ((s.endTest d c).count (regSt d) 31 16).fld (regSt d) 31 16 = (s.fld (regSt d) 31 16 + 1) % 65536 := by
    rw [← s.endTest_count d hc hd]
    exact State.fld_setFld _ _ _ (by decide) (by decide)
  have ended : ((s.endTest d c).count (regSt d) 31 16).fld (regSt d) 7 7 = 0 := by
    rw [← s.endTest_busy d hc hd]
    exact State.fld_setFld_disjoint _ _ _ (by decide) (by decide) (by decide) (by decide)
  rw [doSelftestComplete_eq s hc 0 test inService, if_pos rfl]
  refine ⟨?_, ended, ?_, ?_, (s.endTest_frame d hc).net, raised, (s.endTest_frame d hc).hostMap⟩
  · show (s.endTest d c).saf.testing.has d = false
    rw [s.endTest_saf d hc]
    exact s.saf.testing.has_erase d
  · exact (Table.get_set_same _ c _ 0).trans ((s.endTest_frame d hc).ticks)
  · simp

/-- R496: a failed test. -/
theorem doSelftestComplete_fail (s : State) {d c p : Nat} (hd : d < 4) (hc : c < 64) (failed : p ≠ 0)
    (test : lookup s.saf.testing.rows d = some c) (inService : s.inService c = true) :
    let t := doSelftestComplete d p s
    t.saf.testing.has d = false ∧ t.fld (regSt d) 7 7 = 0 ∧ t.net.length = s.net.length + 1 ∧ t.saf.tested = s.saf.tested
      ∧ t.hostMap = s.hostMap := by
  rw [doSelftestComplete_eq s hc p test inService, if_neg failed]
  simp only [State.send_saf, State.send_net, s.endTest_saf d hc, (s.endTest_frame d hc).net]
  exact ⟨s.saf.testing.has_erase d, s.endTest_busy d hc hd, List.length_append, rfl, (s.endTest_frame d hc).hostMap⟩

/-- R496: an overdue cluster is reported once. -/
theorem doSelftestOverdue_eq (c : Nat) (s : State) : doSelftestOverdue c s =
    if c ∈ s.saf.overdue ∨ s.ticks ≤ s.saf.tested.get c 0 + max 1 (s.fld (regKs 0xC00) 23 16) * 100 * ticksPerMs then s
    else { s with saf := { s.saf with overdue := s.saf.overdue ++ [c] } }.sendEv keySrc 0xA2 (2 ^ 15 + c) := by
  simp only [doSelftestOverdue, List.contains_iff_mem, State.ltmax]

/-! ### The statement -/

/-- Settles O42: each branch of a slot by its equation, with what a start and a move leave alone; the ends by their
equations. -/
theorem rotatingSelfTest : Obligations.RotatingSelfTest := by
  unfold Obligations.RotatingSelfTest
  intro s d hd
  have slot : exec (.selftestSlot d) s = .next (doSelftestSlot d s) := exec_selftestSlot (decide_eq_true hd)
  have complete (p : Nat) (hp : p < 256) : exec (.selftestComplete d p) s = .next (doSelftestComplete d p s) :=
    exec_selftestComplete (Bool.and_eq_true_iff.2 ⟨decide_eq_true hd, decide_eq_true hp⟩)
  refine ⟨fun off => ?_, fun on online untested noRelief => ?_, fun h k c first on online untested relief next => ⟨?_, ?_, ?_⟩,
    fun untested p hp => ?_, fun c p hp hc test inService => ?_, fun c hc => ?_⟩
  · rw [slot, doSelftestSlot_off off]
  · rw [slot, doSelftestSlot_noRelief on online untested noRelief]
  · intro same hc idle
    refine ⟨_, slot, ?_⟩
    rw [doSelftestSlot_inPlace on online untested hd relief next same idle]
    have start : WorkFrame c (s.setFld (regSt d) 6 6 0) _ := State.startTest_frame _ d first hc
    exact ⟨State.startTest_testing _ d first, State.startTest_running _ d first,
      fun turn => turn ▸ State.startTest_pointer _ d hc, State.startTest_idle _ d first,
      start.hostMap, start.net⟩
  · intro other away
    rw [slot, doSelftestSlot_away on online untested hd relief next other away]
  · intro other boundary idle hc hk _
    refine ⟨_, slot, ?_⟩
    rw [doSelftestSlot_moves on online untested hd relief next other boundary idle]
    exact ⟨State.startTest_testing _ d first, State.startTest_running _ d first, State.startTest_moved _ d h first hc hk other⟩
  · rw [complete p hp, doSelftestComplete_none untested]
  · refine ⟨_, complete p hp, ?_⟩
    by_cases passed : p = 0
    · subst passed
      obtain ⟨marked, busy, stamp, onTime, quiet, counted, homes⟩ := doSelftestComplete_pass s hd hc test inService
      exact ⟨marked, busy, fun _ => ⟨stamp, onTime, quiet, counted⟩, fun failed => absurd rfl failed, homes⟩
    · obtain ⟨marked, busy, sent, stamps, homes⟩ := doSelftestComplete_fail s hd hc passed test inService
      exact ⟨marked, busy, fun zero => absurd zero passed, fun _ => ⟨sent, stamps⟩, homes⟩
  · intro off
    have overdue : exec (.selftestOverdue c) s = .next (doSelftestOverdue c s) := exec_selftestOverdue (decide_eq_true hc)
    rw [overdue, doSelftestOverdue_eq]
    exact ⟨fun quiet => congrArg _ (if_pos quiet), fun late => congrArg _ (if_neg late)⟩

end Sys2Proof.Machine
end

section
/-! PROOFS. The matrix unit (O4). Each stage of an issue takes a cluster from one of two forms to the next: `prepared`, before
the operation has its number, and `issued`, with the operation in flight. The statement reads the fields of the last one. -/

namespace Sys2Proof.Machine

/-! ### A cluster in the course of an issue -/

/-- A cluster whose bundle uses further ports, with the tiles and the deliveries due as the operation takes them. -/
def Cluster.prepared (k : Cluster) (ports : List Nat) (tiles : Table Tile) (due : List Promise) : Cluster :=
  { k with seq := { k.seq with ports := k.seq.ports ++ ports, due := due }, tiles := tiles }

/-- A prepared cluster with the operation in flight as `j`: it scheduled `evs` behind the acts that wait, and `units` are the
times of FENCE. -/
def Cluster.issued (k : Cluster) (ports : List Nat) (tiles : Table Tile) (due : List Promise) (j : Job) (evs : List Ev)
    (units : Table Nat) : Cluster :=
  { k with
    seq := { k.seq with ports := k.seq.ports ++ ports, due := due, unitDone := units }
    tiles := tiles, jobs := k.jobs.set k.nextJob j, nextJob := k.nextJob + 1, evs := k.evs ++ evs }

/-- The operation in flight that issues from a slot now. -/
def Cluster.entry (k : Cluster) (kind : JobKind) (slot op : Nat) (args : List Nat) : Job :=
  ⟨kind, k.seq.at slot, op, args, k.seq.cyc, ⟨[]⟩, [], none⟩

/-- R218: a slot may take the operation, and it is no reserved encoding: the operation runs on the prepared cluster. -/
theorem engine_prepared {s : State} {c slot : Nat} {ports : List Nat} {bad : Bool} {f : State → State}
    (use : s.mayUse c slot ports) (good : bad = false) :
    s.engine c slot ports bad f = f (s.setCl c ((s.cl c).prepared ports (s.cl c).tiles (s.cl c).seq.due)) :=
  engine_run use good

section
variable (t : State) (c : Nat) (k : Cluster) (ports : List Nat) (tiles : Table Tile) (due : List Promise)

@[simp] theorem Cluster.prepared_cyc : (k.prepared ports tiles due).seq.cyc = k.seq.cyc := rfl
@[simp] theorem Cluster.prepared_at (slot : Nat) : (k.prepared ports tiles due).seq.at slot = k.seq.at slot := rfl
@[simp] theorem Cluster.prepared_tile (x : Nat) : (k.prepared ports k.tiles due).tile x = k.tile x := rfl

theorem State.updTile_prepared (x : Nat) (f : Tile → Tile) : (t.setCl c (k.prepared ports k.tiles due)).updTile c x f =
    t.setCl c (k.prepared ports (k.tiles.set x (f (k.tile x))) due) := by
  rw [State.updTile, State.updCl_eq, State.cl_setCl_same, State.setCl_setCl]
  rfl

/-- A change of several tiles; `P` is what it makes hold of each. -/
theorem State.foldl_updTile_prepared (f : Tile → Tile) (P : Tile → Prop) (holds : ∀ x, P (f x)) (l : List Nat) :
    ∃ T : Table Tile, l.foldl (fun (s : State) x => s.updTile c x f) (t.setCl c (k.prepared ports tiles due))
        = t.setCl c (k.prepared ports T due) ∧ ∀ x ∈ l, P (T.get x Tile.reset) := by
  obtain ⟨k', changed, written, -, frame⟩ :=
    tiles_fold c f l P True (fun x => eq_true (holds x)) t (k.prepared ports tiles due)
  exact ⟨k'.tiles, frame ▸ changed, fun x hx => of_eq_true (written x hx)⟩

theorem State.promise_prepared (slot kind tgt : Nat) (ds : List Coming) :
    (t.setCl c (k.prepared ports tiles due)).promise c slot kind tgt ds =
      t.setCl c (k.prepared ports tiles (due ++ [⟨slot, kind, tgt, ds⟩])) := by
  rw [State.promise, State.updSeq_eq, State.cl_setCl_same, State.setCl_setCl]
  rfl

theorem State.launch_prepared (kind : JobKind) (slot op : Nat) (args : List Nat) :
    (t.setCl c (k.prepared ports tiles due)).launch c kind slot op args = (k.nextJob, t.setCl c (k.issued ports tiles due
      (k.entry kind slot op args) [] k.seq.unitDone)) := by
  rw [State.launch, State.nextJob, State.addJob_eq, State.cl_setCl_same, State.setCl_setCl, Cluster.issued, List.append_nil]
  rfl

variable (j : Job) (evs : List Ev) (units : Table Nat)

theorem Cluster.issued_append (e : List Ev) : { k.issued ports tiles due j evs units with
    evs := (k.issued ports tiles due j evs units).evs ++ e } = k.issued ports tiles due j (evs ++ e) units := by
  simp only [Cluster.issued, List.append_assoc]

theorem State.sched_issued (n ph job unit slot : Nat) (a : Act) :
    (t.setCl c (k.issued ports tiles due j evs units)).sched c n ph job unit slot a =
      t.setCl c (k.issued ports tiles due j (evs ++ [⟨n, ph, job, unit, slot, a⟩]) units) := by
  rw [State.sched_eq, State.cl_setCl_same, State.setCl_setCl, Cluster.issued_append]

/-- Turns that only schedule acts. -/
theorem State.each_issued {f : State → Nat → State} (turn : ∀ (evs : List Ev) i, ∃ e,
      f (t.setCl c (k.issued ports tiles due j evs units)) i = t.setCl c (k.issued ports tiles due j e units)) (n : Nat) :
    ∃ e, (t.setCl c (k.issued ports tiles due j evs units)).each n f = t.setCl c (k.issued ports tiles due j e units) := by
  unfold State.each
  induction upTo n generalizing evs with
  | nil => exact ⟨evs, rfl⟩
  | cons i l ih =>
    obtain ⟨e, eq⟩ := turn evs i
    rw [List.foldl_cons, eq]
    exact ih e

/-- One act in each turn. -/
theorem State.each_sched_issued (n : Nat) (T P J U L : Nat → Nat) (A : Nat → Act) :
    (t.setCl c (k.issued ports tiles due j evs units)).each n (fun s i => s.sched c (T i) (P i) (J i) (U i) (L i) (A i)) =
      t.setCl c (k.issued ports tiles due j (evs ++ (upTo n).map (fun i => ⟨T i, P i, J i, U i, L i, A i⟩)) units) := by
  rw [setCl_each, Cluster.issued_append]

theorem State.done_issued (u n : Nat) : (t.setCl c (k.issued ports tiles due j evs units)).done c u n =
    t.setCl c (k.issued ports tiles due j evs (units.set u (max n (units.get u 0)))) := by
  rw [State.done, State.updSeq_eq, State.cl_setCl_same, State.setCl_setCl]
  rfl

/-- R227: the completion of several units. -/
theorem State.foldl_done_issued (u : Nat → Nat) (n : Nat) (l : List Nat) :
    ∃ d, l.foldl (fun (s : State) x => s.done c (u x) n) (t.setCl c (k.issued ports tiles due j evs units))
      = t.setCl c (k.issued ports tiles due j evs d) := by
  induction l generalizing units with
  | nil => exact ⟨units, rfl⟩
  | cons x l ih =>
    rw [List.foldl_cons, State.done_issued]
    exact ih _

end

/-! ### MX.T, MX.P, MX.Q, MX.W, MX.G -/

/-- A tile whose edge and plane `pl` are taken until a c-cycle (R87, R88). -/
def Tile.edgeTaken (pl until_ : Nat) (tl : Tile) : Tile :=
  { (tl.setPlane pl { tl.plane pl with usedUntil := until_ }) with edgeFree := until_ }

/-- The c-cycle in which MX.G reads list i of its rows (R106). -/
def listAt (k4 : Bool) (I i : Nat) : Nat := I + (if k4 then 16 * i else 8 * i)

/-- The reads of operation `id` are scheduled: the lists of rows of MX.G (R106), the rows of the other shapes (R85). -/
def MxPar.schedReads (p : MxPar) (c id pl I : Nat) (k4 : Bool) (s : State) : State :=
  let u := uTile (p.tiles.headD 0)
  if p.shape = shG then
    s.each (ceilDiv p.m 8) (fun s i =>
      (s.sched c (listAt k4 I i) 1 id u pl (.rd (1000 + i) u [(p.abase + i) % 2 ^ 17])).sched c (listAt k4 I i) 2 id u pl
        (.run (1000 + i)))
  else
    s.each p.m (fun s m =>
      let ws := (upTo (p.k / 64)).map (fun x => (p.abase + m * p.astride + x) % 2 ^ 17)
      s.sched c (p.readAt k4 I m) 1 id u pl (.rd m u (ws ++ clWords (p.sbase * 32 + m * p.nsc) p.nsc)))

/-- The c-cycle in which the last accumulator row is written (R84). -/
def MxPar.lastAt (p : MxPar) (k4 : Bool) (I : Nat) : Nat :=
  p.accTiles.foldl (fun a t => max a (p.accAt k4 I (p.m - 1) t)) 0

/-- The issue of a matrix operation whose tiles and planes are free. -/
def MxPar.issue (p : MxPar) (c slot op : Nat) (args : List Nat) (s : State) : State :=
  let k := s.cl c
  let I := k.seq.cyc
  let k4 := p.isK4 k
  let f := (p.tiles.foldl (fun (s : State) t => s.updTile c t (Tile.edgeTaken p.pl (I + p.occ k4))) s).launch c .mx slot op args
  let u := uTile (p.tiles.headD 0)
  let pl := k.seq.at slot
  let r := (p.schedReads c f.1 pl I k4 f.2).each p.m (fun s m => s.sched c (p.readAt k4 I m) 2 f.1 u pl (.run m))
  (p.tiles.foldl (fun (s : State) t => s.done c (uTile t) (p.lastAt k4 I + 1)) r).sched c (p.lastAt k4 I) 2 f.1 u pl
    (.run dropStep)

theorem doMx_eq (shape c slot bits : Nat) (s : State) :
    let op := shape * 2 ^ 25 + bits % 2 ^ 25
    let bl := (s.cl c).seq.argBlock (bitsOf op 5 0) 2
    let as := bl.getD []
    let p := mxParOf op (as.getD 0 0) (as.getD 1 0)
    doMx shape c slot bits s =
      s.engine c slot (p.tiles.map portEdge) (mxBad op (as.getD 1 0) bl || p.planesBad (s.cl c)) (fun u =>
        if p.held (u.cl c) (u.cl c).seq.cyc then u.stop c kTileConflict slot
        else p.issue c slot op [as.getD 0 0, as.getD 1 0] u) := rfl

theorem MxPar.isK4_prepared (p : MxPar) (k : Cluster) (ports : List Nat) (due : List Promise) :
    p.isK4 (k.prepared ports k.tiles due) = p.isK4 k := rfl

theorem MxPar.held_prepared (p : MxPar) (k : Cluster) (ports : List Nat) (due : List Promise) (I : Nat) :
    p.held (k.prepared ports k.tiles due) I = p.held k I := rfl

/-- The acts on the activation rows, each after the reads of its c-cycle (R85). -/
def MxPar.runs (p : MxPar) (id pl I : Nat) (k4 : Bool) : List Ev :=
  (upTo p.m).map (fun m => ⟨p.readAt k4 I m, 2, id, uTile (p.tiles.headD 0), pl, .run m⟩)

theorem MxPar.each_run_issued (p : MxPar) (t : State) (c id pl I : Nat) (k4 : Bool) (k : Cluster) (ports : List Nat)
    (tiles : Table Tile) (due : List Promise) (j : Job) (evs : List Ev) (units : Table Nat) :
    (t.setCl c (k.issued ports tiles due j evs units)).each p.m
        (fun s m => s.sched c (p.readAt k4 I m) 2 id (uTile (p.tiles.headD 0)) pl (.run m))
      = t.setCl c (k.issued ports tiles due j (evs ++ p.runs id pl I k4) units) :=
  State.each_sched_issued ..

theorem MxPar.mem_runs {p : MxPar} {m : Nat} (hm : m < p.m) (id pl I : Nat) (k4 : Bool) :
    ⟨p.readAt k4 I m, 2, id, uTile (p.tiles.headD 0), pl, .run m⟩ ∈ p.runs id pl I k4 :=
  List.mem_map.2 ⟨m, List.mem_range.2 hm, rfl⟩

theorem MxPar.schedReads_issued (p : MxPar) (t : State) (c id pl I : Nat) (k4 : Bool) (k : Cluster) (ports : List Nat)
    (tiles : Table Tile) (due : List Promise) (j : Job) (units : Table Nat) :
    ∃ reads, p.schedReads c id pl I k4 (t.setCl c (k.issued ports tiles due j [] units)) =
      t.setCl c (k.issued ports tiles due j reads units) := by
  unfold MxPar.schedReads
  split
  · exact State.each_issued (turn := fun _ _ => ⟨_, by rw [State.sched_issued, State.sched_issued]⟩) ..
  · exact ⟨_, State.each_sched_issued ..⟩

/-- The issue of a matrix operation takes its tiles' edges and schedules its rows. -/
theorem MxPar.issue_prepared (p : MxPar) (t : State) (c slot op : Nat) (args ports : List Nat) (k : Cluster)
    (due : List Promise) :
    ∃ tiles reads units, p.issue c slot op args (t.setCl c (k.prepared ports k.tiles due))
        = t.setCl c (k.issued ports tiles due (k.entry .mx slot op args)
          (reads ++ p.runs k.nextJob (k.seq.at slot) k.seq.cyc (p.isK4 k)
            ++ [⟨p.lastAt (p.isK4 k) k.seq.cyc, 2, k.nextJob, uTile (p.tiles.headD 0), k.seq.at slot, .run dropStep⟩]) units)
      ∧ ∀ x ∈ p.tiles, (tiles.get x Tile.reset).edgeFree = k.seq.cyc + p.occ (p.isK4 k) := by
  obtain ⟨tiles, taken, edges⟩ := t.foldl_updTile_prepared c k ports k.tiles due
    (Tile.edgeTaken p.pl (k.seq.cyc + p.occ (p.isK4 k))) (fun x => x.edgeFree = k.seq.cyc + p.occ (p.isK4 k)) (fun _ => rfl)
    p.tiles
  obtain ⟨reads, read⟩ := p.schedReads_issued t c k.nextJob (k.seq.at slot) k.seq.cyc (p.isK4 k) k ports tiles due
    (k.entry .mx slot op args) k.seq.unitDone
  obtain ⟨units, complete⟩ := t.foldl_done_issued c k ports tiles due (k.entry .mx slot op args)
    (reads ++ p.runs k.nextJob (k.seq.at slot) k.seq.cyc (p.isK4 k)) k.seq.unitDone uTile (p.lastAt (p.isK4 k) k.seq.cyc + 1)
    p.tiles
  refine ⟨tiles, reads, units, ?_, edges⟩
  simp only [MxPar.issue, State.cl_setCl_same, Cluster.prepared_cyc, Cluster.prepared_at, p.isK4_prepared, taken,
    State.launch_prepared]
  rw [read, p.each_run_issued, complete, State.sched_issued]

/-! ### MX.LD -/

/-- A tile whose plane `pl` is loaded in a format, complete at `fin` (R86). -/
def Tile.planeLoading (pl wf : Nat) (block : Bool) (gs fin : Nat) (tl : Tile) : Tile :=
  { (tl.setPlane pl { tl.plane pl with
      loaded := true, wf := wf, block := block, gs := gs, rows := [], scales := [], readyAt := fin }) with portFree := fin }

/-- The c-cycle in which a load that issues at I is complete (R86). -/
def ldFin (op I : Nat) : Nat := I + 64 + ldScaleWords (bitsOf op 19 17) (bitOf op 16) (bitsOf op 15 14)

/-- A load finds the weight port or the plane of a tile in use (R87, R88). -/
def ldHeld (op : Nat) (k : Cluster) : Bool :=
  (ldTiles op).any (fun t => decide (k.seq.cyc < (k.tile t).portFree)
    || decide (k.seq.cyc < ((k.tile t).plane (bitsOf op 22 22)).usedUntil))

/-- The reads of load `id` are scheduled, tile by tile (R86); `wb` and `sb` are the argument words. -/
def schedLoad (op c id pl I wb sb : Nat) (s : State) : State :=
  let ts := ldTiles op
  let u := uTile (ts.headD 0)
  let ns := ldScaleWords (bitsOf op 19 17) (bitOf op 16) (bitsOf op 15 14)
  s.each ts.length (fun s j => s.each (64 + ns) (fun s i =>
    (s.sched c (I + i) 1 id u pl (.rd (100 * j + i) (uTile (ts.getD j 0))
      [(if i < 64 then bitsOf wb 16 0 + 64 * j + i else bitsOf sb 16 0 + j * ns + (i - 64)) % 2 ^ 17])).sched c (I + i) 2
      id u pl (.run (100 * j + i))))

/-- The issue of a load whose weight ports and planes are free; `wb` and `sb` are its argument words. -/
def ldIssue (c slot op wb sb : Nat) (s : State) : State :=
  let k := s.cl c
  let ts := ldTiles op
  let I := k.seq.cyc
  let f := (ts.foldl (fun (s : State) t => s.updTile c t (Tile.planeLoading (bitsOf op 22 22) (bitsOf op 19 17) (bitOf op 16)
    (bitsOf op 15 14) (ldFin op I))) s).launch c .mxLd slot op []
  (ts.foldl (fun (s : State) t => s.done c (uTile t) (ldFin op I)) (schedLoad op c f.1 (k.seq.at slot) I wb sb f.2)).sched c
    (ldFin op I - 1) 2 f.1 (uTile (ts.headD 0)) (k.seq.at slot) (.run dropStep)

theorem doMxLd_eq (c slot bits : Nat) (s : State) :
    let op := 5 * 2 ^ 25 + bits % 2 ^ 25
    let bl := (s.cl c).seq.argBlock (bitsOf op 5 0) 2
    doMxLd c slot bits s = s.engine c slot ((ldTiles op).map portWeight) (ldBad op bl) (fun u =>
      if ldHeld op (u.cl c) then u.stop c kTileConflict slot
      else ldIssue c slot op ((bl.getD []).getD 0 0) ((bl.getD []).getD 1 0) u) := rfl

theorem ldHeld_prepared (op : Nat) (k : Cluster) (ports : List Nat) (due : List Promise) :
    ldHeld op (k.prepared ports k.tiles due) = ldHeld op k := rfl

theorem ldHeld_of_free {op : Nat} {k : Cluster} (free : ∀ t ∈ ldTiles op,
    (k.tile t).portFree ≤ k.seq.cyc ∧ ((k.tile t).plane (bitsOf op 22 22)).usedUntil ≤ k.seq.cyc) : ldHeld op k = false := by
  simp only [ldHeld, List.any_eq_false, Bool.or_eq_true, decide_eq_true_eq, not_or, Nat.not_lt]
  exact free

theorem schedLoad_issued (op : Nat) (t : State) (c id pl I wb sb : Nat) (k : Cluster) (ports : List Nat) (tiles : Table Tile)
    (due : List Promise) (j : Job) (units : Table Nat) :
    ∃ reads, schedLoad op c id pl I wb sb (t.setCl c (k.issued ports tiles due j [] units)) =
      t.setCl c (k.issued ports tiles due j reads units) := by
  refine State.each_issued (turn := fun evs x => ?_) ..
  exact State.each_issued (turn := fun evs i => ⟨_, by rw [State.sched_issued, State.sched_issued]⟩) ..

/-- A plane as a load that completes at `fin` leaves it. -/
def Tile.LoadedAt (pl wf fin : Nat) (tl : Tile) : Prop :=
  tl.portFree = fin ∧ (tl.plane pl).readyAt = fin ∧ (tl.plane pl).loaded = true ∧ (tl.plane pl).wf = wf

theorem Tile.planeLoading_loadedAt (pl wf : Nat) (block : Bool) (gs fin : Nat) (tl : Tile) :
    (tl.planeLoading pl wf block gs fin).LoadedAt pl wf fin := by
  unfold Tile.LoadedAt Tile.planeLoading Tile.setPlane Tile.plane
  split <;> exact ⟨rfl, rfl, rfl, rfl⟩

/-- The issue of a load marks the planes of its tiles. -/
theorem ldIssue_prepared (op : Nat) (t : State) (c slot wb sb : Nat) (ports : List Nat) (k : Cluster) (due : List Promise) :
    ∃ tiles reads units, ldIssue c slot op wb sb (t.setCl c (k.prepared ports k.tiles due))
        = t.setCl c (k.issued ports tiles due (k.entry .mxLd slot op []) (reads
          ++ [⟨ldFin op k.seq.cyc - 1, 2, k.nextJob, uTile ((ldTiles op).headD 0), k.seq.at slot, .run dropStep⟩]) units)
      ∧ ∀ x ∈ ldTiles op, (tiles.get x Tile.reset).LoadedAt (bitsOf op 22 22) (bitsOf op 19 17) (ldFin op k.seq.cyc) := by
  obtain ⟨tiles, loading, loaded⟩ := t.foldl_updTile_prepared c k ports k.tiles due _ _
    (Tile.planeLoading_loadedAt (bitsOf op 22 22) (bitsOf op 19 17) (bitOf op 16) (bitsOf op 15 14) (ldFin op k.seq.cyc))
    (ldTiles op)
  obtain ⟨reads, read⟩ := schedLoad_issued op t c k.nextJob (k.seq.at slot) k.seq.cyc wb sb k ports tiles due
    (k.entry .mxLd slot op []) k.seq.unitDone
  obtain ⟨units, complete⟩ := t.foldl_done_issued c k ports tiles due (k.entry .mxLd slot op []) reads
    k.seq.unitDone uTile (ldFin op k.seq.cyc) (ldTiles op)
  refine ⟨tiles, reads, units, ?_, loaded⟩
  simp only [ldIssue, State.cl_setCl_same, Cluster.prepared_cyc, Cluster.prepared_at, loading, State.launch_prepared]
  rw [read, complete, State.sched_issued]

/-! ### MX.DR -/

/-- The issue of a drain whose port is free. -/
def drIssue (c slot op : Nat) (s : State) : State :=
  let k := s.cl c
  let t := bitsOf op 24 23
  let I := k.seq.cyc
  let n := drCount op
  let s := s.updTile c t (fun tl => { tl with drainFree := I + n })
  let s := if !bitOf op 8 then s.promise c slot kSluiceConflict (bitsOf op 7 6) (drComing op I) else s
  let f := s.launch c .mxDr slot op []
  let r := f.2.each n (fun s i => s.sched c (I + i) 0 f.1 (uTile t) (k.seq.at slot) (.run i))
  (r.done c (uTile t) (I + n + 2)).sched c (I + n - 1) 2 f.1 (uTile t) (k.seq.at slot) (.run dropStep)

theorem doMxDr_eq (c slot bits : Nat) (s : State) :
    let op := 6 * 2 ^ 25 + bits % 2 ^ 25
    doMxDr c slot bits s = s.engine c slot [portDrain (bitsOf op 24 23)] (drBad op) (fun u =>
      if (u.cl c).seq.cyc < ((u.cl c).tile (bitsOf op 24 23)).drainFree then u.stop c kTileConflict slot
      else drIssue c slot op u) := rfl

/-- The deliveries due after a drain: its own where it goes to a staging set (R101, log entry 129). -/
def drDue (slot op I : Nat) (due : List Promise) : List Promise :=
  if bitOf op 8 then due else due ++ [⟨slot, kSluiceConflict, bitsOf op 7 6, drComing op I⟩]

theorem State.promise_drain (t : State) (c slot op I : Nat) (k : Cluster) (ports : List Nat) (tiles : Table Tile)
    (due : List Promise) :
    (if !bitOf op 8
      then (t.setCl c (k.prepared ports tiles due)).promise c slot kSluiceConflict (bitsOf op 7 6) (drComing op I)
      else t.setCl c (k.prepared ports tiles due)) = t.setCl c (k.prepared ports tiles (drDue slot op I due)) := by
  unfold drDue
  cases bitOf op 8
  · exact State.promise_prepared ..
  · rfl

/-- The issue of a drain holds its port and schedules a row in each of its c-cycles. -/
theorem drIssue_prepared (op : Nat) (t : State) (c slot : Nat) (ports : List Nat) (k : Cluster) (due : List Promise) :
    ∃ tiles units, drIssue c slot op (t.setCl c (k.prepared ports k.tiles due))
        = t.setCl c (k.issued ports tiles (drDue slot op k.seq.cyc due)
          (k.entry .mxDr slot op [])
          ((upTo (drCount op)).map (fun i => ⟨k.seq.cyc + i, 0, k.nextJob, uTile (bitsOf op 24 23), k.seq.at slot, .run i⟩)
            ++ [⟨k.seq.cyc + drCount op - 1, 2, k.nextJob, uTile (bitsOf op 24 23), k.seq.at slot, .run dropStep⟩]) units)
      ∧ (tiles.get (bitsOf op 24 23) Tile.reset).drainFree = k.seq.cyc + drCount op := by
  simp only [drIssue, State.cl_setCl_same, Cluster.prepared_cyc, Cluster.prepared_at, State.updTile_prepared,
    State.promise_drain, State.launch_prepared, State.each_sched_issued, State.done_issued, State.sched_issued]
  exact ⟨_, _, rfl, by rw [Table.get_set_same]⟩

/-! ### The statement -/

/-- The operands of an operation in a slot that may take it are well formed. -/
theorem wf_of_mayUse {s : State} {c slot op : Nat} {ports : List Nat} (hc : c < 64) (hop : op < 2 ^ 32)
    (use : s.mayUse c slot ports) : (below 64 c && isSlot slot && below (2 ^ 32) op) = true := by
  obtain ⟨-, first, last, -⟩ := use
  simp only [below, isSlot, hc, hop, first, last, and_self, decide_true, Bool.and_self]

/-- The operations of the five shapes are one. -/
theorem exec_mx {shape c slot op : Nat} {i : Instr} {s : State} {ports : List Nat} (hc : c < 64) (hop : op < 2 ^ 32)
    (use : s.mayUse c slot ports)
    (command : (shape = 0 ∧ i = .mxT c slot op) ∨ (shape = 1 ∧ i = .mxP c slot op) ∨ (shape = 2 ∧ i = .mxQ c slot op)
      ∨ (shape = 3 ∧ i = .mxW c slot op) ∨ (shape = 4 ∧ i = .mxG c slot op)) :
    exec i s = .next (doMx shape c slot op s) := by
  have wf := wf_of_mayUse hc hop use
  obtain ⟨rfl, rfl⟩ | ⟨rfl, rfl⟩ | ⟨rfl, rfl⟩ | ⟨rfl, rfl⟩ | ⟨rfl, rfl⟩ := command
  · exact exec_mxT wf
  · exact exec_mxP wf
  · exact exec_mxQ wf
  · exact exec_mxW wf
  · exact exec_mxG wf

/-- Settles O4: the fields of the cluster that each issue leaves, the operations of the five shapes as one. -/
theorem matrixUnit : Obligations.MatrixUnit := by
  unfold Obligations.MatrixUnit
  refine ⟨fun s c slot op shape i hc hop command => ?_, fun s c slot op hc hop => ⟨?_, ?_⟩⟩
  · intro o k I bl as p use good planes free
    have run : exec i s = .next (p.issue c slot o [as.getD 0 0, as.getD 1 0]
        (s.setCl c (k.prepared (p.tiles.map portEdge) k.tiles k.seq.due))) := by
      rw [exec_mx hc hop use command, doMx_eq, engine_prepared use (Bool.or_eq_false_iff.2 ⟨good, planes⟩),
        State.cl_setCl_same, p.held_prepared, Cluster.prepared_cyc, if_neg (Bool.not_eq_true _ ▸ free)]
    obtain ⟨tiles, reads, units, issued, edges⟩ := p.issue_prepared s c slot o [as.getD 0 0, as.getD 1 0]
      (p.tiles.map portEdge) k k.seq.due
    exact ⟨_, run.trans (congrArg Host.Outcome.next issued), rfl, rfl, edges, fun m hm => List.mem_append_right _
      (List.mem_append_left _ (List.mem_append_right _ (MxPar.mem_runs hm ..))), rfl, rfl, rfl, rfl⟩
  · intro o bl fin pl use good free
    have run : exec (.mxLd c slot op) s = .next (ldIssue c slot o ((bl.getD []).getD 0 0) ((bl.getD []).getD 1 0)
        (s.setCl c ((s.cl c).prepared ((ldTiles o).map portWeight) (s.cl c).tiles (s.cl c).seq.due))) := by
      rw [exec_mxLd (wf_of_mayUse hc hop use), doMxLd_eq, engine_prepared use good, State.cl_setCl_same, ldHeld_prepared,
        ldHeld_of_free free, if_neg Bool.false_ne_true]
    obtain ⟨tiles, reads, units, issued, loaded⟩ := ldIssue_prepared o s c slot ((bl.getD []).getD 0 0)
      ((bl.getD []).getD 1 0) ((ldTiles o).map portWeight) (s.cl c) (s.cl c).seq.due
    exact ⟨_, run.trans (congrArg Host.Outcome.next issued), rfl, loaded⟩
  · intro o t n use good free
    have run : exec (.mxDr c slot op) s = .next (drIssue c slot o
        (s.setCl c ((s.cl c).prepared [portDrain t] (s.cl c).tiles (s.cl c).seq.due))) := by
      rw [exec_mxDr (wf_of_mayUse hc hop use), doMxDr_eq, engine_prepared use good, State.cl_setCl_same, Cluster.prepared_tile,
        Cluster.prepared_cyc, if_neg (Nat.not_lt.2 free)]
    obtain ⟨tiles, units, issued, drain⟩ := drIssue_prepared o s c slot [portDrain t] (s.cl c) (s.cl c).seq.due
    exact ⟨_, run.trans (congrArg Host.Outcome.next issued), rfl, drain, (List.append_assoc ..).symm, rfl, rfl⟩

end Sys2Proof.Machine
end

section
/-! PROOFS. Sluice and Eddy in the course of an issue: a step that changes a unit of a cluster gives the same form
(`Cluster.prepared`, `Cluster.issued`) of a changed cluster. -/

namespace Sys2Proof.Machine

/-! ### Units changed in the course of an issue -/

/-- A cluster with another Sluice. -/
def Cluster.withSl (k : Cluster) (x : Sluice) : Cluster := { k with sl := x }

@[simp] theorem Cluster.withSl_evs (k : Cluster) (x : Sluice) : (k.withSl x).evs = k.evs := rfl
@[simp] theorem Cluster.withSl_seq (k : Cluster) (x : Sluice) : (k.withSl x).seq = k.seq := rfl

/-- A cluster with another Eddy. -/
def Cluster.withEd (k : Cluster) (e : Eddy) : Cluster := { k with ed := e }

/-- The times of FENCE after an operation of a unit that is complete by c-cycle n (R227). -/
def Cluster.doneBy (k : Cluster) (u n : Nat) : Table Nat := k.seq.unitDone.set u (max n (k.seq.unitDone.get u 0))

/-- A cluster with such times of FENCE. -/
def Cluster.fenced (k : Cluster) (units : Table Nat) : Cluster := { k with seq := { k.seq with unitDone := units } }

/-- A cluster after the issue of an operation of Sluice that changes Sluice alone, complete by c-cycle n. -/
def Cluster.opened (k : Cluster) (x : Sluice) (n : Nat) : Cluster :=
  ((k.withSl x).fenced (k.doneBy uSluice n)).prepared [portSluice] k.tiles k.seq.due

theorem Cluster.opened_frame (k : Cluster) (x : Sluice) (n : Nat) :
    (k.opened x n).sl = x ∧ (k.opened x n).evs = k.evs ∧ (k.opened x n).jobs = k.jobs := ⟨rfl, rfl, rfl⟩

section
variable (t : State) (c : Nat) (k : Cluster) (ports : List Nat) (tiles : Table Tile) (due : List Promise)

@[simp] theorem Cluster.prepared_sl : (k.prepared ports tiles due).sl = k.sl := rfl
@[simp] theorem Cluster.prepared_ed : (k.prepared ports tiles due).ed = k.ed := rfl

theorem State.updSl_prepared (f : Sluice → Sluice) : (t.setCl c (k.prepared ports tiles due)).updSl c f =
    t.setCl c ((k.withSl (f k.sl)).prepared ports tiles due) := by
  rw [State.updSl, State.updCl_eq, State.cl_setCl_same, State.setCl_setCl]
  rfl

theorem State.updEd_prepared (f : Eddy → Eddy) :
    (t.setCl c (k.prepared ports tiles due)).updCl c (fun k => { k with ed := f k.ed }) =
      t.setCl c ((k.withEd (f k.ed)).prepared ports tiles due) := by
  rw [State.updCl_eq, State.cl_setCl_same, State.setCl_setCl]
  rfl

theorem State.done_prepared (u n : Nat) : (t.setCl c (k.prepared ports tiles due)).done c u n =
    t.setCl c ((k.fenced (k.doneBy u n)).prepared ports tiles due) := by
  rw [State.done, State.updSeq_eq, State.cl_setCl_same, State.setCl_setCl]
  rfl

variable (j : Job) (evs : List Ev) (units : Table Nat)

/-- A change of the operation that was entered last. -/
theorem State.updJob_issued (f : Job → Job) :
    (t.setCl c (k.issued ports tiles due j evs units)).updJob c k.nextJob f =
      t.setCl c (k.issued ports tiles due (f j) evs units) := by
  have entered : lookup (k.issued ports tiles due j evs units).jobs.rows k.nextJob = some j := by
    rw [Cluster.issued, Table.set, lookup_insertAt, if_pos rfl]
  rw [State.updJob, State.updCl_eq, State.cl_setCl_same, entered, State.setCl_setCl]
  simp only [Cluster.issued, Table.set_set]

/-- One act for each entry of a list. -/
theorem State.foldl_sched_issued {α : Type} (l : List α) (T P J U L : α → Nat) (A : α → Act) :
    l.foldl (fun (s : State) x => s.sched c (T x) (P x) (J x) (U x) (L x) (A x))
        (t.setCl c (k.issued ports tiles due j evs units)) =
      t.setCl c (k.issued ports tiles due j (evs ++ l.map (fun x => ⟨T x, P x, J x, U x, L x, A x⟩)) units) := by
  induction l generalizing evs with
  | nil => rw [List.foldl_nil, List.map_nil, List.append_nil]
  | cons x l ih => rw [List.foldl_cons, State.sched_issued, ih, List.append_assoc, List.map_cons, List.singleton_append]

end

end Sys2Proof.Machine
end

section
/-! PROOFS. The loads of Sluice (O7): each enters one operation with its acts, and nothing else of Sluice changes at its issue. -/

namespace Sys2Proof.Machine

/-- An act of the operation that issues from a slot of Sluice now. -/
def Cluster.sluiceEv (k : Cluster) (slot n ph : Nat) (a : Act) : Ev := ⟨n, ph, k.nextJob, uSluice, k.seq.at slot, a⟩

/-- The cluster after the issue of a load with the argument word `w` and the acts `evs`, complete by c-cycle n. -/
def Cluster.loading (k : Cluster) (kind : JobKind) (slot op w : Nat) (evs : List Ev) (n : Nat) : Cluster :=
  k.issued [portSluice] k.tiles k.seq.due (k.entry kind slot op [w]) evs (k.doneBy uSluice n)

/-- R139, R140: the word at I + 1, and the effect at the end of I + 2. -/
def Cluster.wordEvs (k : Cluster) (slot w : Nat) : List Ev :=
  [k.sluiceEv slot (k.seq.cyc + 1) 1 (.rd 0 uSluice [w % 2 ^ 17]), k.sluiceEv slot (k.seq.cyc + 2) 2 (.run 0)]

/-- R118: n words from I + 1 on, and the effect in the c-cycle after the last. -/
def Cluster.rescaleEvs (k : Cluster) (slot w n : Nat) : List Ev :=
  (upTo n).map (fun i => k.sluiceEv slot (k.seq.cyc + 1 + i) 1 (.rd i uSluice [(w % 2 ^ 17 + i) % 2 ^ 17]))
    ++ [k.sluiceEv slot (k.seq.cyc + n + 1) 2 (.run 0)]

theorem State.slWordOp_prepared (t : State) (c slot op : Nat) (kind : JobKind) (w : Nat) (k : Cluster) :
    (t.setCl c (k.prepared [portSluice] k.tiles k.seq.due)).slWordOp c slot op kind w =
      t.setCl c (k.loading kind slot op w (k.wordEvs slot w) (k.seq.cyc + 3)) := by
  simp only [State.slWordOp, State.cl_setCl_same, State.launch_prepared, State.sched_issued, State.done_issued, bitsOf_zero]
  rfl

section
variable {s : State} {c slot op : Nat} (use : s.mayUse c slot [portSluice])
include use

theorem doSlTld_loads (zero : bitOf op 23 = false) (rest : bitsOf op 16 6 = 0) :
    let k := s.cl c
    let w := (k.seq.arg (bitsOf op 5 0)).getD 0
    let n := bitsOf op 22 17 + 1
    bitsOf w 22 17 + n ≤ 64 → doSlTld c slot op s = s.setCl c
      (k.loading .slTld slot op w (k.rescaleEvs slot w n) (k.seq.cyc + n + 2)) := by
  intro k w n fits
  rw [doSlTld, engine_prepared use (decide_eq_false (not_or.2
    ⟨ne_true_of_eq_false zero, not_or.2 ⟨not_not_intro rest, Nat.not_lt.2 fits⟩⟩))]
  simp only [State.cl_setCl_same, State.launch_prepared, State.each_sched_issued, State.sched_issued, State.done_issued,
    bitsOf_zero _ 16]
  rfl

theorem doSlZld_loads (zero : bitOf op 23 = false) (rest : bitsOf op 19 6 = 0) :
    let k := s.cl c
    let w := (k.seq.arg (bitsOf op 5 0)).getD 0
    doSlZld c slot op s = s.setCl c (k.loading .slZld slot op w (k.wordEvs slot w) (k.seq.cyc + 3)) := by
  rw [doSlZld, engine_prepared use (decide_eq_false (not_or.2 ⟨ne_true_of_eq_false zero, not_not_intro rest⟩)),
    State.slWordOp_prepared]

theorem doSlKl_loads (rest : bitsOf op 23 6 = 0) :
    let k := s.cl c
    let w := (k.seq.arg (bitsOf op 5 0)).getD 0
    doSlKl c slot op s = s.setCl c (k.loading .slKl slot op w (k.wordEvs slot w) (k.seq.cyc + 3)) := by
  rw [doSlKl, engine_prepared use (decide_eq_false (not_not_intro rest)), State.slWordOp_prepared]

theorem doSlSeed_loads (zero : bitOf op 23 = false) (rest : bitsOf op 20 6 = 0) (named : bitsOf op 22 21 ≠ 3) :
    let k := s.cl c
    let w := (k.seq.arg (bitsOf op 5 0)).getD 0
    doSlSeed c slot op s = s.setCl c
      (k.loading .slSeed slot op w [k.sluiceEv slot k.seq.cyc 2 (.run 0)] (k.seq.cyc + 1)) := by
  rw [doSlSeed, engine_prepared use (decide_eq_false (not_or.2
    ⟨ne_true_of_eq_false zero, not_or.2 ⟨not_not_intro rest, named⟩⟩))]
  simp only [State.cl_setCl_same, State.launch_prepared, State.sched_issued, State.done_issued]
  rfl

theorem doSlKu_loads (rest : bitsOf op 23 6 = 0) :
    let k := s.cl c
    let w := (k.seq.arg (bitsOf op 5 0)).getD 0
    doSlKu c slot op s = s.setCl c
      (k.loading .slKu slot op w [k.sluiceEv slot (k.seq.cyc + 20) 0 (.run 0)] (k.seq.cyc + 21)) := by
  rw [doSlKu, engine_prepared use (decide_eq_false (not_not_intro rest))]
  simp only [State.cl_setCl_same, State.launch_prepared, State.sched_issued, State.done_issued]
  rfl

end

/-! ### The statement -/

/-- Settles O7: each load enters one operation with its acts, and leaves the Sluice as it was. -/
theorem sluiceLoads : Obligations.SluiceLoads := by
  unfold Obligations.SluiceLoads
  intro s c slot op hc hop use k I pl w n goes word
  have wf := wf_of_mayUse hc hop use
  have goes_of_loading : ∀ {i kind evs m}, exec i s = .next (s.setCl c (k.loading kind slot op w evs m)) →
      goes i kind evs := fun run => ⟨_, run, rfl, rfl, rfl⟩
  refine ⟨fun zero rest fits => ?_, fun zero rest => ?_, fun rest => ?_, fun zero rest named => ?_, fun rest => ?_⟩
  · exact goes_of_loading (doSlTld_loads use zero rest fits ▸ exec_slTld wf)
  · exact goes_of_loading (doSlZld_loads use zero rest ▸ exec_slZld wf)
  · exact goes_of_loading (doSlKl_loads use rest ▸ exec_slKl wf)
  · exact goes_of_loading (doSlSeed_loads use zero rest named ▸ exec_slSeed wf)
  · exact goes_of_loading (doSlKu_loads use rest ▸ exec_slKu wf)

end Sys2Proof.Machine
end

section
/-! PROOFS. The staging sets (O6). SL.P2 and SL.KA are one operation that drains a set, with what each does then; a bundle
whose deliveries break nothing is followed from the state in which they are taken. -/

namespace Sys2Proof.Machine

/-! ### SL.P1, SL.P2, SL.KA -/

@[simp] theorem Sluice.set_putSet (x : Sluice) (i : Nat) (v : StageSet) : (x.putSet i v).set i = v := by
  unfold Sluice.set Sluice.putSet
  split <;> rfl

/-- The output rows of m rows, one in each c-cycle from d c-cycles after c-cycle P on (R116, R142). -/
def outRows (P d m : Nat) : List Nat := (upTo m).map (fun i => P + i + d)

/-- R116: a Sluice with a set of m rows that is drained from c-cycle P on, with its output rows in the c-cycles `outs`. -/
def Sluice.draining (x : Sluice) (i P m : Nat) (outs : List Nat) : Sluice :=
  { x.putSet i { StageSet.reset with freeAt := P + m } with outBusy := x.outBusy ++ outs }

theorem Sluice.set_draining (x : Sluice) (i P m : Nat) (outs : List Nat) :
    (x.draining i P m outs).set i = { StageSet.reset with freeAt := P + m } := Sluice.set_putSet ..

/-- The set that is drained holds a poisoned value (R142). -/
def StageSet.poisoned (v : StageSet) : Bool :=
  (upTo v.par.m).any (fun m => (upTo v.par.w).any (fun j => (segVal v.segs m j).poison))

/-- The tensor scale that SL.KA fixes at its issue, with the second argument word (R142). -/
def Sluice.kaScale (x : Sluice) (v : StageSet) (w1 : Nat) : Nat :=
  if v.poisoned || x.maxBad then 0xFF else if bitOf w1 8 then bitsOf w1 7 0 else tensorScale x

/-- R142: a poisoned tensor maximum poisons the tensor scale. -/
theorem Sluice.kaScale_of_maxBad {x : Sluice} (bad : x.maxBad = true) (v : StageSet) (w1 : Nat) : x.kaScale v w1 = 0xFF := by
  rw [kaScale, bad, Bool.or_true, if_pos rfl]

/-- What the Sluice of a cluster is after SL.KA: the set drains, and the tensor scale stands. -/
def Sluice.clustering (x : Sluice) (i P m : Nat) (outs : List Nat) (ts : Nat) (poison : Bool) : Sluice :=
  { x.draining i P m outs with ts := ts, maxBad := x.maxBad || poison }

section
variable (x : Sluice) (i P m : Nat) (outs : List Nat) (ts : Nat) (poison : Bool)

theorem Sluice.set_clustering : (x.clustering i P m outs ts poison).set i = { StageSet.reset with freeAt := P + m } :=
  Sluice.set_putSet ..

theorem Sluice.outBusy_clustering : (x.clustering i P m outs ts poison).outBusy = x.outBusy ++ outs := rfl

theorem Sluice.ts_clustering : (x.clustering i P m outs ts poison).ts = ts := rfl

end

/-- An argument block that fits is read. -/
theorem Seq.argBlock_ne_none {a n : Nat} (fits : a + n ≤ 64) (q : Seq) : q.argBlock a n ≠ none := by
  rw [argBlock, if_pos fits]
  exact Option.some_ne_none _

/-- A set that is READY already stands as it is at the issue of what drains it. -/
theorem State.dueReady_of_ready {s : State} {c i : Nat} (ready : ((s.cl c).sl.set i).st = .ready) : s.dueReady c i = s := by
  have kept : s.setReady c i = s := if_neg (fun h => absurd (ready.symm.trans h.1) (by decide))
  rw [dueReady, kept, ite_self]

/-- An operation that drains a set, its output rows from d c-cycles after its issue on: `issue` is what it does with a READY
set (R116, R117). -/
def State.drainOp (s : State) (c slot op d : Nat) (issue : StageSet → State → State) : State :=
  s.engine c slot [portSluice] (bitsOf op 22 6 ≠ 0 ∨ (s.cl c).seq.argBlock (bitsOf op 5 0) 2 = none) (fun s =>
    let s := s.dueReady c (bitsOf op 23 23)
    let k := s.cl c
    let v := k.sl.set (bitsOf op 23 23)
    if v.st ≠ .ready ∨ k.seq.cyc < v.lastAt + 6 ∨ k.sl.outMeets (outRows k.seq.cyc d v.par.m) then
      s.stop c kSluiceConflict slot
    else issue v s)

/-- The issue of such an operation: Sluice changes by `f`, and the operation, changed by `g`, enters with one act in each of
its turns and its end. -/
def drainIssue (c slot op d turns n : Nat) (kind : JobKind) (args : List Nat) (f : Sluice → Sluice) (g : Job → Job)
    (v : StageSet) (s : State) : State :=
  let k := s.cl c
  let r := (s.updSl c f).launch c kind slot op args
  let u := (r.2.updJob c r.1 g).each turns
    (fun s i => s.sched c (k.seq.cyc + i + d) 0 r.1 uSluice (k.seq.at slot) (.run i))
  (u.done c uSluice n).sched c (k.seq.cyc + v.par.m + 8) 2 r.1 uSluice (k.seq.at slot) (.run dropStep)

theorem drainIssue_prepared (t : State) (c slot op d turns n : Nat) (kind : JobKind) (args : List Nat) (f : Sluice → Sluice)
    (g : Job → Job) (v : StageSet) (k : Cluster) : ∃ evs,
    drainIssue c slot op d turns n kind args f g v (t.setCl c (k.prepared [portSluice] k.tiles k.seq.due)) =
      t.setCl c ((k.withSl (f k.sl)).issued [portSluice] k.tiles k.seq.due (g (k.entry kind slot op args)) evs
        (k.doneBy uSluice n)) := by
  unfold drainIssue
  simp only [State.cl_setCl_same, State.updSl_prepared, State.launch_prepared]
  rw [State.updJob_issued (k := k.withSl (f k.sl))]
  simp only [State.each_sched_issued, State.sched_issued, State.done_issued]
  exact ⟨_, rfl⟩

/-- SL.P2: its output rows from 8 c-cycles on, and one turn more for the scales of COL and BLK orientation (R128). -/
theorem doSlP2_eq (c slot op : Nat) (s : State) : doSlP2 c slot op s = s.drainOp c slot op 8 (fun v u =>
    let P := (u.cl c).seq.cyc
    drainIssue c slot op 8 (v.par.m + 1) (P + v.par.m + (if v.par.orient = 0 then 8 else 9)) .slP2
      ((s.cl c).seq.arg2 (bitsOf op 5 0)) (fun x => x.draining (bitsOf op 23 23) P v.par.m (outRows P 8 v.par.m))
      (fun j => { j with stage := some v }) v u) := rfl

/-- SL.KA: its output rows from 9 c-cycles on, with the tensor scale fixed at issue (R142). -/
theorem doSlKa_eq (c slot op : Nat) (s : State) : doSlKa c slot op s = s.drainOp c slot op 9 (fun v u =>
    let P := (u.cl c).seq.cyc
    let ts := (u.cl c).sl.kaScale v (((s.cl c).seq.arg2 (bitsOf op 5 0)).getD 1 0)
    drainIssue c slot op 9 v.par.m (P + v.par.m + 9) .slKa ((s.cl c).seq.arg2 (bitsOf op 5 0))
      (fun x => x.clustering (bitsOf op 23 23) P v.par.m (outRows P 9 v.par.m) ts v.poisoned)
      (fun j => { j with stage := some v, note := [ts] }) v u) := rfl

section
variable {s : State} {c slot op : Nat} (use : s.mayUse c slot [portSluice]) (rest : bitsOf op 22 6 = 0)
include use rest

theorem doSlP1_opens :
    let k := s.cl c
    let w := (k.seq.arg (bitsOf op 5 0)).getD 0
    let x := bitsOf op 23 23
    slParamsBad w = false → (k.sl.set x).st = .free → (k.sl.set x).freeAt ≤ k.seq.cyc →
      doSlP1 c slot op s =
        s.setCl c (k.opened (k.sl.putSet x ⟨.filling, slParamsOf w, [], ⟨[]⟩, [], 0⟩) (k.seq.cyc + 1)) := by
  intro k w x good free empty
  have allowed : ¬ ((k.sl.set x).st ≠ .free ∨ k.seq.cyc < (k.sl.set x).freeAt) :=
    not_or.2 ⟨not_not_intro free, Nat.not_lt.2 empty⟩
  rw [doSlP1, engine_prepared use (decide_eq_false (not_or.2 ⟨not_not_intro rest, ne_true_of_eq_false good⟩))]
  simp only [State.cl_setCl_same, Cluster.prepared_cyc, Cluster.prepared_sl, State.updSl_prepared, State.done_prepared]
  rw [if_neg allowed]
  rfl

/-- A READY set whose last delivery arrived 6 c-cycles ago, and whose output rows meet no other, is drained. -/
theorem drainOp_of_ready {d : Nat} {issue : StageSet → State → State} (block : bitsOf op 5 0 < 63) :
    let k := s.cl c
    let v := k.sl.set (bitsOf op 23 23)
    v.st = .ready → v.lastAt + 6 ≤ k.seq.cyc → k.sl.outMeets (outRows k.seq.cyc d v.par.m) = false →
      s.drainOp c slot op d issue = issue v (s.setCl c (k.prepared [portSluice] k.tiles k.seq.due)) := by
  intro k v ready arrived clear
  have fits : bitsOf op 5 0 + 2 ≤ 64 := Nat.add_le_add_right block 1
  have drains : ¬ (v.st ≠ .ready ∨ k.seq.cyc < v.lastAt + 6 ∨ k.sl.outMeets (outRows k.seq.cyc d v.par.m) = true) :=
    not_or.2 ⟨not_not_intro ready, not_or.2 ⟨Nat.not_lt.2 arrived, ne_true_of_eq_false clear⟩⟩
  rw [State.drainOp, engine_prepared use (decide_eq_false (not_or.2
    ⟨not_not_intro rest, Seq.argBlock_ne_none fits _⟩))]
  dsimp only
  rw [State.dueReady_of_ready (by rwa [State.cl_setCl_same]), State.cl_setCl_same]
  exact if_neg drains

variable (block : bitsOf op 5 0 < 63)
include block

theorem doSlP2_drains :
    let k := s.cl c
    let x := bitsOf op 23 23
    let v := k.sl.set x
    let outs := outRows k.seq.cyc 8 v.par.m
    v.st = .ready → v.lastAt + 6 ≤ k.seq.cyc → k.sl.outMeets outs = false → ∃ evs units,
      doSlP2 c slot op s = s.setCl c ((k.withSl (k.sl.draining x k.seq.cyc v.par.m outs)).issued [portSluice] k.tiles k.seq.due
        { k.entry .slP2 slot op (k.seq.arg2 (bitsOf op 5 0)) with stage := some v } evs units) := by
  intro k x v outs ready arrived clear
  rw [doSlP2_eq, drainOp_of_ready use rest block ready arrived clear]
  simp only [State.cl_setCl_same]
  obtain ⟨evs, issued⟩ := drainIssue_prepared ..
  exact ⟨evs, _, issued⟩

theorem doSlKa_drains :
    let k := s.cl c
    let x := bitsOf op 23 23
    let v := k.sl.set x
    let as := k.seq.arg2 (bitsOf op 5 0)
    let ts := k.sl.kaScale v (as.getD 1 0)
    let outs := outRows k.seq.cyc 9 v.par.m
    v.st = .ready → v.lastAt + 6 ≤ k.seq.cyc → k.sl.outMeets outs = false → ∃ evs units,
      doSlKa c slot op s = s.setCl c ((k.withSl (k.sl.clustering x k.seq.cyc v.par.m outs ts v.poisoned)).issued [portSluice]
        k.tiles k.seq.due { k.entry .slKa slot op as with stage := some v, note := [ts] } evs units) := by
  intro k x v as ts outs ready arrived clear
  rw [doSlKa_eq, drainOp_of_ready use rest block ready arrived clear]
  simp only [State.cl_setCl_same]
  obtain ⟨evs, issued⟩ := drainIssue_prepared ..
  exact ⟨evs, _, issued⟩

end

/-! ### SET_READY -/

/-- The Sluice with a set READY, its scales fixed (R125) and the tensor maxima as they then are (R141). -/
def Sluice.readied (x : Sluice) (i : Nat) : Sluice :=
  let v := x.set i
  let mx := if v.par.k4 then x.maxima v.par v.segs else (x.maxPos, x.maxNeg, x.maxBad)
  { x.putSet i { v with st := .ready, scales := (x.allScales v.par v.segs).map (fun e => e.2) } with
    maxPos := mx.1, maxNeg := mx.2.1, maxBad := mx.2.2 }

theorem Sluice.set_readied (x : Sluice) (i : Nat) : (x.readied i).set i = { x.set i with
    st := .ready, scales := (x.allScales (x.set i).par (x.set i).segs).map (fun e => e.2) } := Sluice.set_putSet ..

/-- A complete FILLING set becomes READY. -/
theorem State.setReady_of_complete {s : State} {c i : Nat} (filling : ((s.cl c).sl.set i).st = .filling)
    (complete : ((s.cl c).sl.set i).complete = true) :
    s.setReady c i = s.setCl c ((s.cl c).withSl ((s.cl c).sl.readied i)) := if_pos ⟨filling, complete⟩

/-! ### Deliveries of a bundle (log entry 129) -/

/-- The state with the deliveries of a cluster's bundle taken. -/
def State.taken (s : State) (c : Nat) : State :=
  (s.updSeq c (fun q => { q with due := [] })).updCl c (fun k => { k with sl := (s.cl c).sl.reserves (s.cl c).seq.due })

/-- The cluster of such a state: nothing else of it changes. -/
theorem State.cl_taken (s : State) (c : Nat) : (s.taken c).cl c = { s.cl c with
    seq := { (s.cl c).seq with due := [] }, sl := (s.cl c).sl.reserves (s.cl c).seq.due } := by
  rw [taken, State.updCl_eq, State.updSeq_eq, State.cl_setCl_same, State.cl_setCl_same]

/-- A bundle without deliveries is whole. -/
theorem State.seal_of_no_due {s : State} {c : Nat} (noDue : (s.cl c).seq.due = []) : s.seal c = s := if_pos (.inl noDue)

/-- A cluster that runs and holds no bundle takes the next. -/
theorem Seq.takes_next {q : Seq} (running : q.st = .running) (free : q.wait = .none) :
    ¬ (q.st ≠ .running ∨ q.wait ≠ .none) :=
  not_or.2 ⟨not_not_intro running, not_not_intro free⟩

section
variable {s : State} {c : Nat} (running : (s.cl c).seq.st = .running) (due : (s.cl c).seq.due ≠ [])
  (good : (s.cl c).sl.firstRefused (s.cl c).seq.due = none)
include running due good

/-- The deliveries of a whole bundle that break nothing are taken. -/
theorem State.seal_of_good : s.seal c = s.taken c := by
  simp only [State.seal, running, due, good, ne_eq, not_true_eq_false, or_false, if_false]
  rfl

/-- The c-cycles after a bundle run with its deliveries taken. -/
theorem State.runTo_taken {I : Nat} (later : (s.cl c).seq.cyc < I) : s.runTo c I = (s.taken c).runTo c I := by
  have later' : ((s.taken c).cl c).seq.cyc < I := by rwa [State.cl_taken]
  have whole : (s.taken c).seal c = s.taken c := State.seal_of_no_due (by rw [State.cl_taken])
  rw [State.runTo, State.runTo, if_pos later, if_pos later', whole, State.seal_of_good running due good]

/-- The next bundle finds them taken. -/
theorem State.nextBundle_taken (free : (s.cl c).seq.wait = .none) (later : (s.cl c).seq.cyc < (s.cl c).seq.next) :
    s.nextBundle c = (s.taken c).nextBundle c := by
  have next' : ((s.taken c).cl c).seq.next = (s.cl c).seq.next := by rw [State.cl_taken]
  have goes := Seq.takes_next running free
  have goes' : ¬ (((s.taken c).cl c).seq.st ≠ .running ∨ ((s.taken c).cl c).seq.wait ≠ .none) := by rwa [State.cl_taken]
  rw [State.nextBundle, State.nextBundle, if_neg goes, if_neg goes', next', State.runTo_taken running due good later]

/-- So does a control operation. -/
theorem State.control_taken (free : (s.cl c).seq.wait = .none) (later : (s.cl c).seq.cyc < (s.cl c).seq.next) (reserved : Bool)
    (body : State → State) : s.control c reserved body = (s.taken c).control c reserved body := by
  have goes := Seq.takes_next running free
  have goes' : ¬ (((s.taken c).cl c).seq.st ≠ .running ∨ ((s.taken c).cl c).seq.wait ≠ .none) := by rwa [State.cl_taken]
  rw [State.control, State.control, if_neg goes, if_neg goes', State.nextBundle_taken running due good free later]

end

/-! ### The statement -/

/-- Settles O6: the step of a set that each operation makes, and the deliveries of a bundle at the next. -/
theorem stagingSets : Obligations.StagingSets := by
  unfold Obligations.StagingSets
  intro s c slot op hc hop k I x v as w
  refine ⟨?_, ?_, ?_, ?_, ?_⟩
  · intro use rest good free empty
    have opens := doSlP1_opens use rest good free empty
    exact ⟨_, (exec_slP1 (wf_of_mayUse hc hop use)).trans (congrArg Host.Outcome.next opens), k.opened_frame ..⟩
  · intro use rest block ready arrived clear
    obtain ⟨evs, units, drains⟩ := doSlP2_drains use rest block ready arrived clear
    exact ⟨_, (exec_slP2 (wf_of_mayUse hc hop use)).trans (congrArg Host.Outcome.next drains), k.sl.set_draining .., rfl,
      (lookup_insertAt ..).trans (if_pos rfl)⟩
  · intro use rest block ready arrived clear
    obtain ⟨evs, units, drains⟩ := doSlKa_drains use rest block ready arrived clear
    exact ⟨_, (exec_slKa (wf_of_mayUse hc hop use)).trans (congrArg Host.Outcome.next drains),
      k.sl.set_clustering .., k.sl.outBusy_clustering ..,
      fun bad => (k.sl.ts_clustering ..).trans (Sluice.kaScale_of_maxBad bad ..)⟩
  · intro n hn running v filling whole u y filling' complete
    have wf : (below 64 c && below 2 n) = true := by simp only [below, hc, hn, decide_true, Bool.and_self]
    have run : doSetReady c n s = u.setCl c ((u.cl c).withSl ((u.cl c).sl.readied n)) :=
      (if_pos ⟨running, filling, whole⟩).trans (State.setReady_of_complete filling' complete)
    have readied := (u.cl c).sl.set_readied n
    exact ⟨_, (exec_setReady wf).trans (congrArg Host.Outcome.next run), congrArg StageSet.st readied,
      congrArg StageSet.scales readied, Cluster.withSl_evs .., Cluster.withSl_seq ..⟩
  · intro running free later due good
    have wf : (below 64 c && below (2 ^ 32) op) = true := by simp only [below, hc, hop, decide_true, Bool.and_self]
    rw [exec_nop wf, exec_nop wf, doNop, State.control_taken running due good free later]
    rfl

end Sys2Proof.Machine
end

section
/-! PROOFS. The direct path and Eddy (O8): SL.CV changes the direct path alone; ED.ATT changes a set of Eddy, enters its
deliveries where it ends its chain, and enters itself with its acts. -/

namespace Sys2Proof.Machine

/-! ### SL.CV -/

/-- The words of fixed scales that SL.CV reads, for its argument words `w`: none with FSC (R127). -/
def fsaReads (w : Nat → Nat) : List Nat :=
  if bitOf (w 3) 8 then (fsaWordList (slParamsOf (w 0)) (kcOf (w 2)) (bitsOf (w 2) 31 18)).map
    (fun r => (bitsOf (w 3) 25 9 + r) % 2 ^ 17)
  else []

/-- The direct path as SL.CV opens it (R116, R127). -/
def Direct.opened (w : Nat → Nat) (acceptAt : Nat) : Direct :=
  ⟨true, slParamsOf (w 0), bitsOf (w 1) 16 0, bitsOf (w 1) 31 17, bitsOf (w 2) 16 0, kcOf (w 2), bitsOf (w 2) 31 18,
    [bitsOf (w 3) 7 0], [], acceptAt, [], ⟨[]⟩, [], []⟩

/-- The issue of SL.CV on a closed direct path. -/
def slCvIssue (c slot op : Nat) (as : List Nat) (w : Nat → Nat) (s : State) : State :=
  let k := s.cl c
  let ws := fsaReads w
  let n := k.seq.cyc + ws.length + 1
  let s := (s.updSl c (fun x => { x with direct := Direct.opened w n })).done c uSluice n
  if ws = [] then s
  else
    let r := s.launch c .slCv slot op as
    (r.2.each ws.length (fun s i => s.sched c (k.seq.cyc + 1 + i) 1 r.1 uSluice (k.seq.at slot)
      (.rd i uSluice [ws.getD i 0]))).sched c (k.seq.cyc + ws.length) 2 r.1 uSluice (k.seq.at slot) (.run 0)

theorem doSlCv_eq (c slot op : Nat) (s : State) :
    let bl := (s.cl c).seq.argBlock (bitsOf op 5 0) 4
    let w := fun (i : Nat) => (bl.getD []).getD i 0
    doSlCv c slot op s = s.engine c slot [portSluice] (bitsOf op 23 6 ≠ 0 ∨ bl = none ∨ slParamsBad (w 0) ∨ bitOf (w 0) 31
      ∨ bitsOf (w 3) 31 26 ≠ 0) (fun u =>
        if (u.cl c).sl.direct.isOpen then u.stop c kSluiceConflict slot else slCvIssue c slot op (bl.getD []) w u) := rfl

/-- With FSC the direct path opens, and no operation enters. -/
theorem slCvIssue_prepared {w : Nat → Nat} (fsc : bitOf (w 3) 8 = false) (t : State) (c slot op : Nat) (as : List Nat)
    (k : Cluster) : slCvIssue c slot op as w (t.setCl c (k.prepared [portSluice] k.tiles k.seq.due)) =
      t.setCl c (k.opened { k.sl with direct := Direct.opened w (k.seq.cyc + 1) } (k.seq.cyc + 1)) := by
  have noReads : fsaReads w = [] := if_neg (ne_true_of_eq_false fsc)
  simp only [slCvIssue, noReads, State.cl_setCl_same, Cluster.prepared_cyc, State.updSl_prepared, State.done_prepared, if_true]
  rfl

/-! ### ED.ATT -/

theorem Eddy.set_putSet (e : Eddy) (i : Nat) (v : EdSet) : (e.putSet i v).set i = v := by
  unfold Eddy.set Eddy.putSet
  split <;> rfl

/-- The Eddy in whose set an operation starts or extends a chain at c-cycle I (R156, R158). -/
def EdPar.attending (p : EdPar) (I : Nat) (e : Eddy) : Eddy :=
  { e.putSet p.st { e.set p.st with
      live := true, fin := p.fin, chain := p.chain, stateAt := p.stateAt I, emptyAt := if p.fin then p.emptyAt I else 0 } with
    next := I + 16 + p.nb * p.cb }

theorem EdPar.set_attending (p : EdPar) (I : Nat) (e : Eddy) : (p.attending I e).set p.st = { e.set p.st with
    live := true, fin := p.fin, chain := p.chain, stateAt := p.stateAt I, emptyAt := if p.fin then p.emptyAt I else 0 } :=
  Eddy.set_putSet ..

/-- The deliveries due after an operation: its own where it ends its chain (R151, log entry 129). -/
def EdPar.dueAfter (p : EdPar) (slot I : Nat) (due : List Promise) : List Promise :=
  if p.fin then due ++ [⟨slot, kEddyConflict, p.tgt, p.coming I⟩] else due

theorem State.promise_chain (t : State) (c slot I : Nat) (k : Cluster) (ports : List Nat) (tiles : Table Tile)
    (due : List Promise) (p : EdPar) :
    (if p.fin then (t.setCl c (k.prepared ports tiles due)).promise c slot kEddyConflict p.tgt (p.coming I)
      else t.setCl c (k.prepared ports tiles due)) = t.setCl c (k.prepared ports tiles (p.dueAfter slot I due)) := by
  unfold EdPar.dueAfter
  split
  · exact State.promise_prepared ..
  · rfl

/-- The issue of ED.ATT on a set that allows it. -/
def EdPar.issue (p : EdPar) (c slot op : Nat) (as : List Nat) (s : State) : State :=
  let k := s.cl c
  let I := k.seq.cyc
  let s := s.updCl c (fun k => { k with ed := p.attending I k.ed })
  let r := (if p.fin then s.promise c slot kEddyConflict p.tgt (p.coming I) else s).launch c .edAtt slot op as
  let s := (p.reads I).foldl (fun (s : State) e => s.sched c e.1 1 r.1 uEddy (k.seq.at slot) (.rd e.2.1 uEddy e.2.2)) r.2
  let s := (s.sched c I 2 r.1 uEddy (k.seq.at slot) (.run 0)).each p.nb (fun s b =>
    s.sched c (p.blockAt I b) 0 r.1 uEddy (k.seq.at slot) (.run (2 + b)))
  (s.sched c (p.stateAt I) 2 r.1 uEddy (k.seq.at slot) (.run dropStep)).done c uEddy
    (if p.fin then p.emptyAt I else p.stateAt I)

theorem doEdAtt_eq (c slot op : Nat) (s : State) :
    let bl := (s.cl c).seq.argBlock (bitsOf op 5 0) 8
    let as := bl.getD []
    let p := edParOf op as
    doEdAtt c slot op s = s.engine c slot [portEddy] (bl = none ∨ edBad op as) (fun u =>
      if (u.cl c).seq.cyc < (u.cl c).ed.next ∨ ((u.cl c).ed.set p.st).refuses p (u.cl c).seq.cyc then
        u.stop c kEddyConflict slot
      else p.issue c slot op as u) := rfl

theorem EdPar.issue_prepared (p : EdPar) (t : State) (c slot op : Nat) (as ports : List Nat) (tiles : Table Tile) (k : Cluster)
    (due : List Promise) : ∃ evs units, p.issue c slot op as (t.setCl c (k.prepared ports tiles due)) =
      t.setCl c ((k.withEd (p.attending k.seq.cyc k.ed)).issued ports tiles (p.dueAfter slot k.seq.cyc due)
        (k.entry .edAtt slot op as) evs units) := by
  unfold EdPar.issue
  simp only [State.cl_setCl_same, Cluster.prepared_cyc, State.updEd_prepared, State.promise_chain, State.launch_prepared,
    State.foldl_sched_issued, State.each_sched_issued, State.sched_issued, State.done_issued]
  exact ⟨_, _, rfl⟩

/-! ### The statement -/

/-- Settles O8: each operation is its issue on the prepared cluster, which changes the direct path alone, or Eddy and the
deliveries that are due. -/
theorem directPathAndEddy : Obligations.DirectPathAndEddy := by
  unfold Obligations.DirectPathAndEddy
  intro s c slot op hc hop k I
  refine ⟨?_, ?_⟩
  · intro bl w use block rest good noK4 zero fsc closed
    have free : ¬ k.sl.direct.isOpen = true := ne_true_of_eq_false closed
    have run : exec (.slCv c slot op) s =
        .next (slCvIssue c slot op (bl.getD []) w (s.setCl c (k.prepared [portSluice] k.tiles k.seq.due))) := by
      have unreserved := not_or.2 ⟨not_not_intro rest, not_or.2 ⟨block, not_or.2 ⟨ne_true_of_eq_false good,
        not_or.2 ⟨ne_true_of_eq_false noK4, not_not_intro zero⟩⟩⟩⟩
      rw [exec_slCv (wf_of_mayUse hc hop use), doSlCv_eq, engine_prepared use (decide_eq_false unreserved),
        State.cl_setCl_same, Cluster.prepared_sl, if_neg free]
    exact ⟨_, run.trans (congrArg Host.Outcome.next (slCvIssue_prepared fsc ..)), k.opened_frame ..⟩
  · intro bl as p use block good idle allowed
    have allows : ¬ (I < k.ed.next ∨ (k.ed.set p.st).refuses p I = true) :=
      not_or.2 ⟨Nat.not_lt.2 idle, ne_true_of_eq_false allowed⟩
    have run : exec (.edAtt c slot op) s =
        .next (p.issue c slot op as (s.setCl c (k.prepared [portEddy] k.tiles k.seq.due))) := by
      rw [exec_edAtt (wf_of_mayUse hc hop use), doEdAtt_eq, engine_prepared use
        (decide_eq_false (not_or.2 ⟨block, ne_true_of_eq_false good⟩)), State.cl_setCl_same, Cluster.prepared_cyc,
        Cluster.prepared_ed, if_neg allows]
    obtain ⟨evs, units, issued⟩ := p.issue_prepared s c slot op as [portEddy] k.tiles k k.seq.due
    have set := p.set_attending I k.ed
    exact ⟨_, run.trans (congrArg Host.Outcome.next issued), rfl, rfl, congrArg EdSet.live set, congrArg EdSet.fin set,
      congrArg EdSet.chain set, rfl, rfl⟩

end Sys2Proof.Machine
end

section
/-! PROOFS. KVOP, DISARM and DECODE (O17): what each does with its journal entry once it may start, as one equation per
outcome; then the request, the runs and the rows that those equations name. -/

namespace Sys2Proof.Machine

/-- A standing RUN taken out, with its open decisions (R349). -/
def State.disarmed (s : State) (c q : Nat) : State :=
  { s with runs := s.runs.filter (fun r => ¬ (r.ctx = c ∧ r.seq = q)),
           decs := s.decs.filter (fun d => ¬ (d.ctx = c ∧ d.run = q)) }

/-- A decode request of an entry in the window of stream b; the first one of an empty stream opens the window (R173). -/
def State.requested (s : State) (b : Nat) (r : DecReq) : State :=
  let u := s.updEntry r.ctx r.seq (fun x => { x with started := true })
  let waiting := s.host.reqs.get b []
  { u with host := { u.host with
      winOpen := if waiting = [] then s.host.winOpen.set b s.ticks else s.host.winOpen
      reqs := s.host.reqs.set b (waiting ++ [r]) } }

/-- The dispatched requests of stream b without those of one descriptor: DECODE ends them, as the model chooses (log entry 125). -/
def State.rowTaken (s : State) (c seq b : Nat) : State :=
  { s with host := { s.host with
      inBlock := s.host.inBlock.set b ((s.host.inBlock.get b []).filter (fun r => ¬ (r.ctx = c ∧ r.seq = seq))) } }

@[simp] theorem State.mem_runs_disarmed {s : State} {c q : Nat} {r : RunRec} :
    r ∈ (s.disarmed c q).runs ↔ r ∈ s.runs ∧ ¬ (r.ctx = c ∧ r.seq = q) := by
  simp only [State.disarmed, List.mem_filter, decide_eq_true_eq]

@[simp] theorem State.reqs_requested (s : State) (b : Nat) (r : DecReq) :
    (s.requested b r).host.reqs.get b [] = s.host.reqs.get b [] ++ [r] := Table.get_set_same ..

theorem State.mem_inBlock_rowTaken {s : State} {c seq b : Nat} {r : DecReq} :
    r ∈ (s.rowTaken c seq b).host.inBlock.get b [] ↔ r ∈ s.host.inBlock.get b [] ∧ ¬ (r.ctx = c ∧ r.seq = seq) := by
  simp only [State.rowTaken, Table.get_set_same, List.mem_filter, decide_eq_true_eq]

/-- R254, R336: windows are registers, which the end of a dispatched request leaves alone. -/
@[simp] theorem State.inWindows_rowTaken (s : State) (c seq b ctx space off n : Nat) (wr : Bool) :
    (s.rowTaken c seq b).inWindows ctx space off n wr = s.inWindows ctx space off n wr := rfl

/-! ### The descriptor's effect, once its entry is found -/

section
variable {s : State} {c seq : Nat} {e : JEntry} (found : s.entry c seq = some e)
include found

theorem State.kvop_of_mayStart {op : Nat} (go : List Byte → State → Bool × State) (typ : e.typ = 6)
    (kind : fieldAt e.desc 8 1 = op) (start : s.mayStart e = true) :
    let r := go e.desc s
    s.kvop c seq op go = if r.1 then r.2.status c seq 0 else r.2.done1 c seq 6 0 [] (r.2.fld (regCtx c 0x40C) 31 28) := by
  have ready : ¬ (e.typ ≠ 6 ∨ fieldAt e.desc 8 1 ≠ op ∨ s.mayStart e = false) := by simp [typ, kind, start]
  simp only [State.kvop, found, if_neg ready]

theorem doDisarm_of_standing (typ : e.typ = 7) (start : s.mayStart e = true)
    (armed : ∃ r ∈ s.runs, (r.ctx = c ∧ r.seq = fieldAt e.desc 8 6) ∧ r.standing = true) :
    doDisarm c seq s = ((s.disarmed c (fieldAt e.desc 8 6)).status c (fieldAt e.desc 8 6) 0).status c seq 0 := by
  have ready : ¬ (e.typ ≠ 7 ∨ s.mayStart e = false) := by simp [typ, start]
  have named : s.runs.any (fun r => decide (r.ctx = c) && decide (r.seq = fieldAt e.desc 8 6) && r.standing) = true := by
    simpa using armed
  simp only [doDisarm, found, if_neg ready, if_pos named, State.disarmed]

theorem doDisarm_of_not_standing (typ : e.typ = 7) (start : s.mayStart e = true)
    (unarmed : ∀ r ∈ s.runs, r.ctx = c ∧ r.seq = fieldAt e.desc 8 6 → r.standing = false) :
    doDisarm c seq s = s.status c seq 2 := by
  have ready : ¬ (e.typ ≠ 7 ∨ s.mayStart e = false) := by simp [typ, start]
  have unnamed : ¬ s.runs.any (fun r => decide (r.ctx = c) && decide (r.seq = fieldAt e.desc 8 6) && r.standing) = true := by
    simpa using unarmed
  simp only [doDisarm, found, if_neg ready, if_neg unnamed]

theorem doDecode_request (typ : e.typ = 5) (start : s.mayStart e = true)
    (input : s.inWindows c 0 (gaOff (fieldAt e.desc 16 8)) (32 * s.fld (regBat (fieldAt e.desc 8 1) 8) 31 24) false = true)
    (output : s.inWindows c (gaSpace (fieldAt e.desc 24 8)) (gaOff (fieldAt e.desc 24 8)) 1 true = true) :
    doDecode c seq none s =
      s.requested (fieldAt e.desc 8 1) ⟨c, seq, fieldAt e.desc 16 8, fieldAt e.desc 24 8, e.stamp, false⟩ := by
  have ready : ¬ (e.typ ≠ 5 ∨ s.mayStart e = false) := by simp [typ, start]
  simp only [doDecode, found, if_neg ready, input, output, Bool.not_true, Bool.or_self, Bool.false_eq_true, if_false]
  rfl

/-- The model's choice in log entries 19 and 125: DECODE writes the output row at OUTADDR and ends the dispatched request. -/
theorem doDecode_row {bs : List (Byte × Bool)} (typ : e.typ = 5) (undecided : e.out = none)
    (dispatched : ∃ r ∈ s.host.inBlock.get (fieldAt e.desc 8 1) [], r.ctx = c ∧ r.seq = seq)
    (output : s.inWindows c (gaSpace (fieldAt e.desc 24 8)) (gaOff (fieldAt e.desc 24 8)) bs.length true = true) :
    doDecode c seq (some bs) s = ((s.rowTaken c seq (fieldAt e.desc 8 1)).writeFor c (gaSpace (fieldAt e.desc 24 8))
      (gaOff (fieldAt e.desc 24 8)) bs).status c seq 0 := by
  have held : e.typ = 5 ∧ e.out.isNone = true ∧ (s.host.inBlock.get (fieldAt e.desc 8 1) []).any
      (fun r => decide (r.ctx = c) && decide (r.seq = seq)) = true :=
    ⟨typ, by rw [undecided]; rfl, by simpa using dispatched⟩
  simp only [doDecode, found, if_pos held]
  exact if_pos ((s.inWindows_rowTaken ..).trans output)

end

/-! ### The statement -/

theorem below_entry {c seq : Nat} (hc : c < 256) (hseq : seq < 2 ^ 48) : (below 256 c && below (2 ^ 48) seq) = true := by
  simp only [below, decide_eq_true hc, decide_eq_true hseq, Bool.and_self]

/-- Settles O17: a descriptor that may start is one equation per outcome, and the state that it names is read off. -/
theorem managerAndStreamDescriptors : Obligations.ManagerAndStreamDescriptors := by
  unfold Obligations.ManagerAndStreamDescriptors
  intro s c seq e hc hseq found f
  have wf := below_entry hc hseq
  refine ⟨?_, ?_, ?_⟩
  · intro i op r request typ kind start
    rcases request with ⟨rfl, rfl, rfl⟩ | ⟨rfl, rfl, rfl⟩ | ⟨rfl, rfl, rfl⟩
    · rw [exec_kvopShare wf, doKvopShare, State.kvop_of_mayStart found _ typ kind start]
    · rw [exec_kvopRelease wf, doKvopRelease, State.kvop_of_mayStart found _ typ kind start]
    · rw [exec_kvopTruncate wf, doKvopTruncate, State.kvop_of_mayStart found _ typ kind start]
  · intro typ start named
    refine ⟨fun armed => ⟨s.disarmed c (f 8 6), ?_, fun _ => State.mem_runs_disarmed, rfl, rfl, rfl⟩, fun unarmed => ?_⟩
    · rw [exec_disarm wf, doDisarm_of_standing found typ start armed]
    · rw [exec_disarm wf, doDisarm_of_not_standing found typ start unarmed]
  · intro b nch inp out
    refine ⟨fun typ start input output => ?_, fun bs typ undecided dispatched output => ?_⟩
    · refine ⟨s.requested b ⟨c, seq, inp, out, e.stamp, false⟩, ?_, s.reqs_requested .., rfl, rfl, rfl⟩
      rw [exec_decode wf, doDecode_request found typ start input output]
    · refine ⟨s.rowTaken c seq b, ?_, fun r held => (State.mem_inBlock_rowTaken.1 held).2, rfl, rfl⟩
      rw [exec_decode wf, doDecode_row found typ undecided dispatched output]

end Sys2Proof.Machine
end

section
/-! PROOFS. The control operations that issue at once (O1, O2): what each does to the cluster whose bundle has just been
opened. -/

namespace Sys2Proof.Machine

/-! ### Operands and their fields -/

/-- The operands of a control operation are well formed. -/
theorem wf_control {c op : Nat} (hc : c < 64) (hop : op < 2 ^ 32) : (below 64 c && below (2 ^ 32) op) = true :=
  Bool.and_eq_true_iff.2 ⟨decide_eq_true hc, decide_eq_true hop⟩

/-- The operand of a command of a cluster is well formed. -/
theorem wf_cluster {c : Nat} (hc : c < 64) : below 64 c = true := decide_eq_true hc

theorem ofNat_bitsOf (n w : Nat) : BitVec.ofNat (n + 1) (bitsOf w n 0) = BitVec.ofNat (n + 1) w := by
  rw [bitsOf_zero]
  exact BitVec.eq_of_toNat_eq (by simp only [BitVec.toNat_ofNat, Nat.mod_mod])

/-- Two changes that agree on the sequencer as it is are one. -/
theorem State.updSeq_congr {s : State} {c : Nat} {f g : Seq → Seq} (same : f (s.cl c).seq = g (s.cl c).seq) :
    s.updSeq c f = s.updSeq c g := by
  rw [State.updSeq_eq, same, State.updSeq_eq]

/-! ### Arguments, loops and branches -/

/-- The state with an argument register of a cluster written. -/
def State.putArg (s : State) (c d : Nat) (v : Word32) : State := s.updSeq c (fun q => { q with args := q.args.set d v })

section
variable {s : State} {c op : Nat} (may : s.mayIssue c)
include may

theorem doNop_eq (rest : bitsOf op 25 0 = 0) : doNop c op s = s.nextBundle c :=
  control_run may (decide_eq_false (not_not_intro rest))

theorem doSetl_eq (rest : bitsOf op 19 16 = 0) :
    let u := s.nextBundle c
    let d := bitsOf op 25 20
    doSetl c op s = u.putArg c d (((u.cl c).seq.argReg d).extractLsb' 16 16 ++ BitVec.ofNat 16 op) := by
  intro u d
  rw [doSetl, control_run may (decide_eq_false (not_not_intro rest))]
  exact State.updSeq_congr (congrArg ((u.cl c).seq.setArg d) (put_lo ..))

theorem doSeth_eq (rest : bitsOf op 19 16 = 0) :
    let u := s.nextBundle c
    let d := bitsOf op 25 20
    doSeth c op s = u.putArg c d (BitVec.ofNat 16 op ++ ((u.cl c).seq.argReg d).extractLsb' 0 16) := by
  intro u d
  rw [doSeth, control_run may (decide_eq_false (not_not_intro rest))]
  exact State.updSeq_congr (congrArg ((u.cl c).seq.setArg d) (put_hi ..))

theorem doAddi_eq :
    let u := s.nextBundle c
    let d := bitsOf op 25 20
    doAddi c op s = u.putArg c d ((u.cl c).seq.argReg d + (BitVec.ofNat 20 op).signExtend 32) := by
  intro u d
  rw [doAddi, control_run may rfl, ← sext20]
  exact State.updSeq_congr rfl

theorem doLset_immediate (form : bitOf op 22 = false) (rest : bitsOf op 21 20 = 0) :
    doLset c op s = (s.nextBundle c).updSeq c (fun q =>
      { q with lc := q.lc.set (bitsOf op 25 23) (BitVec.ofNat 20 op) }) := by
  rw [doLset, control_run may (by rw [form]; exact decide_eq_false (not_not_intro rest))]
  simp only [form, Bool.false_eq_true, if_false, ofNat_bitsOf]

theorem doLset_register (form : bitOf op 22 = true) (rest : bitsOf op 21 6 = 0) :
    doLset c op s = (s.nextBundle c).updSeq c (fun q =>
      { q with lc := q.lc.set (bitsOf op 25 23) ((q.argReg (bitsOf op 5 0)).setWidth 20) }) := by
  rw [doLset, control_run may (by rw [form]; exact decide_eq_false (not_not_intro rest))]
  simp only [form, if_true, BitVec.ofNat_toNat]

theorem doBr_eq (rest : bitsOf op 25 12 = 0) :
    doBr c op s = (s.nextBundle c).updSeq c (fun q => { q with pc := BitVec.ofNat 12 op }) := by
  rw [doBr, control_run may (decide_eq_false (not_not_intro rest))]
  simp only [ofNat_bitsOf]

variable (rest : bitsOf op 22 12 = 0)
include rest

theorem doBloop_branches :
    let u := s.nextBundle c
    let k := bitsOf op 25 23
    let n := (u.cl c).seq.lcReg k
    1 < n.toNat → doBloop c op s =
      u.updSeq c (fun q => { q with lc := q.lc.set k (n - 1), pc := BitVec.ofNat 12 op }) := by
  intro u k n more
  rw [doBloop, control_run may (decide_eq_false (not_not_intro rest)), ofNat_bitsOf]
  exact State.updSeq_congr (if_pos (Nat.succ_le_of_lt more))

theorem doBloop_falls :
    let u := s.nextBundle c
    let k := bitsOf op 25 23
    ((u.cl c).seq.lcReg k).toNat ≤ 1 → doBloop c op s = u.updSeq c (fun q => { q with lc := q.lc.set k 0 }) := by
  intro u k last
  rw [doBloop, control_run may (decide_eq_false (not_not_intro rest))]
  exact State.updSeq_congr (if_neg (Nat.not_le.2 (Nat.lt_succ_of_le last)))

end

/-! ### Timed operations -/

/-- A state that differs from another in one cluster is that one with the cluster replaced. -/
theorem State.eq_setCl_cl {s t : State} {c : Nat} {k : Cluster} (changed : t = s.setCl c k) : t = s.setCl c (t.cl c) := by
  rw [changed, State.cl_setCl_same]

/-- Masks of which no two share a bit do not overlap (R224). -/
theorem maskOverlap_of_apart {ms : List Word32} (apart : ∀ b, b < 32 → (ms.filter (fun m => bitOf m.toNat b)).length ≤ 1) :
    maskOverlap (ms.map (fun m => m.toNat)) = none := by
  refine List.find?_eq_none.2 fun b hb => ?_
  rw [decide_eq_true_eq, Nat.not_lt, List.filter_map, List.length_map]
  exact apart b (List.mem_range.1 hb)

/-- LDA names an aligned block of arguments where the low bits of d are 0. -/
theorem lda_aligned {op : Nat} (low : bitsOf op 22 20 = 0) : bitsOf op 25 20 % 8 = 0 :=
  (Nat.mod_mod_of_dvd (op / 2 ^ 20) (show 2 ^ 3 ∣ 2 ^ 6 by decide)).trans low

theorem Cluster.issued_at (k : Cluster) (ports : List Nat) (tiles : Table Tile) (due : List Promise) (j : Job) (evs : List Ev)
    (units : Table Nat) (slot : Nat) : (k.issued ports tiles due j evs units).seq.at slot = k.seq.at slot := rfl

/-- An operation enters a cluster that prepared nothing for it. -/
theorem State.launch_eq (s : State) (c : Nat) (kind : JobKind) (slot op : Nat) (args : List Nat) :
    s.launch c kind slot op args = ((s.cl c).nextJob, s.setCl c ((s.cl c).issued [] (s.cl c).tiles (s.cl c).seq.due
      ((s.cl c).entry kind slot op args) [] (s.cl c).seq.unitDone)) := by
  rw [State.launch, State.nextJob, State.addJob_eq, Cluster.issued, List.append_nil, List.append_nil]
  rfl

section
variable {s : State} {c op : Nat} (may : s.mayIssue c)
include may

theorem doWaitc_eq (rest : bitsOf op 25 16 = 0) : doWaitc c op s = (s.nextBundle c).updSeq c (fun q => { q with
    next := q.cyc + 1 + op % 2 ^ 16, wait := if op % 2 ^ 16 = 0 then .none else .waitC, waitArg := op % 2 ^ 16 }) := by
  rw [doWaitc, control_run may (decide_eq_false (not_not_intro rest)), bitsOf_zero]

theorem doFlagclr_eq (rest : bitsOf op 25 20 = 0) :
    let u := s.nextBundle c
    let q := (u.cl c).seq
    doFlagclr c op s = u.sched c (q.cyc + 1) 0 0 uSeq (q.at 0) (.flagClr (op % 2 ^ 20)) := by
  rw [doFlagclr, control_run may (decide_eq_false (not_not_intro rest)), bitsOf_zero]

theorem doStep_eq (rest : bitsOf op 25 0 = 0) :
    let u := s.nextBundle c
    let q := (u.cl c).seq
    let masks := (upTo 12).map (fun i => q.argReg (48 + i))
    (∀ b, b < 32 → (masks.filter (fun m => bitOf m.toNat b)).length ≤ 1) →
      doStep c op s = u.sched c q.cyc 2 0 uSeq (q.at 0) (.masks masks) := by
  intro u q masks apart
  rw [doStep, control_run may (decide_eq_false (not_not_intro rest))]
  have free : maskOverlap (masks.map (fun m => m.toNat)) = none := maskOverlap_of_apart apart
  dsimp only
  split
  next b overlap => exact nomatch free.symm.trans overlap
  next => rfl

theorem doLda_eq (rest : bitsOf op 19 17 = 0) (low : bitsOf op 22 20 = 0) :
    let u := s.nextBundle c
    let k := u.cl c
    let I := k.seq.cyc
    doLda c op s = u.setCl c (k.issued [] k.tiles k.seq.due (k.entry .lda 0 op [])
      [⟨I + 1, 1, k.nextJob, uSeq, k.seq.at 0, .rd 0 uSeq [op % 2 ^ 17]⟩, ⟨I + 2, 2, k.nextJob, uSeq, k.seq.at 0, .run 0⟩]
      (k.doneBy uSeq (I + 3))) := by
  intro u k I
  rw [doLda, control_run may (decide_eq_false (not_or.2 ⟨not_not_intro (lda_aligned low), not_not_intro rest⟩)),
    State.launch_eq]
  simp only [State.cl_setCl_same, Cluster.issued_at, State.sched_issued, State.done_issued, bitsOf_zero]
  rfl

end

/-! ### The statements -/

/-- Settles O1: each operation, where its bundle may issue, is one change of the sequencer. -/
theorem argumentsLoopsAndBranches : Obligations.ArgumentsLoopsAndBranches := by
  unfold Obligations.ArgumentsLoopsAndBranches
  refine ⟨fun s c op hc hop may => ?_, fun s c op hc hop may => ?_⟩
  · have wf := wf_control hc hop
    exact ⟨fun rest => (exec_nop wf).trans (congrArg Host.Outcome.next (doNop_eq may rest)),
      fun rest => (exec_setl wf).trans (congrArg Host.Outcome.next (doSetl_eq may rest)),
      fun rest => (exec_seth wf).trans (congrArg Host.Outcome.next (doSeth_eq may rest)),
      (exec_addi wf).trans (congrArg Host.Outcome.next (doAddi_eq may))⟩
  · have wf := wf_control hc hop
    exact ⟨fun form rest => (exec_lset wf).trans (congrArg Host.Outcome.next (doLset_immediate may form rest)),
      fun form rest => (exec_lset wf).trans (congrArg Host.Outcome.next (doLset_register may form rest)),
      fun rest => (exec_br wf).trans (congrArg Host.Outcome.next (doBr_eq may rest)),
      fun rest more => (exec_bloop wf).trans (congrArg Host.Outcome.next (doBloop_branches may rest more)),
      fun rest last => (exec_bloop wf).trans (congrArg Host.Outcome.next (doBloop_falls may rest last))⟩

/-- Settles O2: each operation changes its cluster alone, to the one that its equation gives. -/
theorem timedControl : Obligations.TimedControl := by
  unfold Obligations.TimedControl
  intro s c op hc hop may u q place masks
  have wf := wf_control hc hop
  refine ⟨fun rest => ?_, fun rest => ?_, fun rest apart => ?_, fun rest low => ?_⟩
  · refine ⟨_, (exec_waitc wf).trans (congrArg Host.Outcome.next (doWaitc_eq may rest)), State.eq_setCl_cl rfl, ?_⟩
    rw [State.updSeq_eq, State.cl_setCl_same]
    exact ⟨rfl, by simp⟩
  · refine ⟨_, (exec_flagclr wf).trans (congrArg Host.Outcome.next (doFlagclr_eq may rest)), State.eq_setCl_cl rfl, ?_⟩
    rw [State.sched_eq, State.cl_setCl_same]
    rfl
  · refine ⟨_, (exec_step wf).trans (congrArg Host.Outcome.next (doStep_eq may rest apart)), State.eq_setCl_cl rfl, ?_⟩
    rw [State.sched_eq, State.cl_setCl_same]
    rfl
  · refine ⟨_, (exec_lda wf).trans (congrArg Host.Outcome.next (doLda_eq may rest low)), State.eq_setCl_cl rfl, ?_⟩
    rw [State.cl_setCl_same]
    exact ⟨rfl, Table.get_set_same ..⟩

end Sys2Proof.Machine
end

section
/-! PROOFS. The waits (O3, O10): a bundle that waits issues where what it waits for is there, and is held where it is not; a
release opens it and does what the operation does. -/

namespace Sys2Proof.Machine

/-! ### What a bundle waits for -/

theorem bitOf_toNat {w : Nat} (x : BitVec w) (i : Nat) : bitOf x.toNat i = x.getLsbD i := by
  rw [bitOf, BitVec.getLsbD, Nat.testBit_eq_decide_div_mod_eq]

theorem bitOf_mod (w : Nat) {i n : Nat} (h : i < n) : bitOf (w % 2 ^ n) i = bitOf w i := by
  have field (x : Nat) : bitOf x i = decide (bitsOf x i i = 1) := by rw [bitOf, bitsOf, Nat.add_sub_cancel_left, Nat.pow_one]
  rw [field, field, bitsOf_mod w i i n h (Nat.le_refl i)]

/-- No tag of the mask is pending. -/
theorem Seq.pendingTags_eq_nil (q : Seq) (x : BitVec 16) : q.pendingTags x.toNat = [] ↔ x &&& q.tags = 0 := by
  simp only [Seq.pendingTags, List.filter_eq_nil_iff, upTo, List.mem_range, bitOf_toNat, BitVec.eq_of_getLsbD_eq_iff,
    BitVec.getLsbD_and, BitVec.ofNat_eq_ofNat, BitVec.getLsbD_zero, Bool.not_eq_true]

theorem State.blocksAhead_eq_zero (s : State) (c b : Nat) :
    s.blocksAhead c b = 0 ↔ ¬ (s.cl c).seq.seen.get b 0 < s.blockNo.get b 0 := by
  rw [State.blocksAhead, Nat.sub_eq_zero_iff_le, Nat.not_lt]

/-- R227: the operations of the named units are complete by a c-cycle. -/
theorem Seq.unitsDone_le (q : Seq) (m n : Nat) :
    q.unitsDone m ≤ n ↔ ∀ k ∈ upTo 12, bitOf m k = true → q.unitDone.get k 0 ≤ n := by
  have fold : ∀ (l : List Nat) (a : Nat), l.foldl (fun a u => if bitOf m u then max a (q.unitDone.get u 0) else a) a ≤ n ↔
      a ≤ n ∧ ∀ k ∈ l, bitOf m k = true → q.unitDone.get k 0 ≤ n := by
    intro l
    induction l with
    | nil => simp
    | cons u l ih =>
      intro a
      rw [List.foldl_cons, ih, List.forall_mem_cons]
      cases bitOf m u
      · simp
      · rw [if_pos rfl, Nat.max_le, and_assoc]
        simp
  exact (fold _ 0).trans (and_iff_right (Nat.zero_le n))

/-! ### Issue or hold -/

section
variable {s : State} {c op : Nat} (may : s.mayIssue c)
include may

/-- A holding operation issues its bundle where what it waits for is there. -/
theorem holding_eq {r there : Bool} {w : WaitKind} {a : Nat} {g : State → Bool} {f : State → State} (good : r = false)
    (held : g (s.nextBundle c) = !there) :
    s.holding c r w a g f = if there then f (s.nextBundle c) else (s.nextBundle c).hold c w a := by
  rw [holding_run may good, held]
  cases there <;> rfl

theorem doWaitg_eq (rest : bitsOf op 25 6 = 0) :
    let u := s.nextBundle c
    doWaitg c op s =
      if (u.cl c).seq.gflags.getLsbD (op % 64) then u.takeFlag c (op % 64) else u.hold c .waitG (op % 64) := by
  rw [doWaitg, bitsOf_zero]
  exact holding_eq may (decide_eq_false (not_not_intro rest)) (congrArg not (bitOf_toNat ..))

theorem doWaitx_eq (rest : bitsOf op 25 16 = 0) :
    let u := s.nextBundle c
    doWaitx c op s = if decide (BitVec.ofNat 16 op &&& (u.cl c).seq.tags = 0) then u else u.hold c .waitX (op % 2 ^ 16) := by
  intro u
  rw [doWaitx, bitsOf_zero]
  refine holding_eq may (decide_eq_false (not_not_intro rest)) ?_
  rw [← decide_not, decide_eq_decide]
  exact not_congr ((u.cl c).seq.pendingTags_eq_nil (BitVec.ofNat 16 op))

theorem doWaitb_eq (rest : bitsOf op 25 4 = 0) :
    let u := s.nextBundle c
    let q := (u.cl c).seq
    doWaitb c op s = if decide (q.seen.get (op % 16) 0 < u.blockNo.get (op % 16) 0) then u.takeBlock c (op % 16)
      else u.hold c .waitB (op % 16) := by
  intro u q
  rw [doWaitb, bitsOf_zero]
  refine holding_eq may (decide_eq_false (not_not_intro rest)) ?_
  rw [← decide_not, decide_eq_decide]
  exact u.blocksAhead_eq_zero c _

theorem doFence_eq (rest : bitsOf op 25 12 = 0) :
    let u := s.nextBundle c
    let q := (u.cl c).seq
    doFence c op s = if (upTo 12).all (fun k => !bitOf op k || decide (q.unitDone.get k 0 ≤ q.cyc)) then u
      else u.hold c .fence (op % 2 ^ 12) := by
  intro u q
  rw [doFence, bitsOf_zero]
  refine holding_eq may (decide_eq_false (not_not_intro rest)) ?_
  have complete : q.unitsDone (op % 2 ^ 12) ≤ q.cyc ↔
      (upTo 12).all (fun k => !bitOf op k || decide (q.unitDone.get k 0 ≤ q.cyc)) = true := by
    rw [q.unitsDone_le, List.all_eq_true]
    refine forall₂_congr fun k hk => ?_
    rw [bitOf_mod op (List.mem_range.1 hk)]
    cases bitOf op k <;> simp
  rw [Bool.eq_iff_iff, Bool.not_eq_true', ← Bool.not_eq_true, ← complete, Nat.not_le]
  exact decide_eq_true_iff

/-- The bundle of END issues, and END's wait stands behind it (log entry 128). -/
theorem doEnd_eq (rest : bitsOf op 25 0 = 0) :
    let u := s.nextBundle c
    doEnd c op s = u.updSeq c (fun q => { q with wait := .ending, waitArg := 0, waitSince := u.ticks, next := q.cyc }) :=
  control_run may (decide_eq_false (not_not_intro rest))

/-- BAR names two argument registers, and its mask a home that the cluster carries. -/
theorem doBar_eq (rest : bitsOf op 21 6 = 0) (block : op % 64 < 63) :
    let u := s.nextBundle c
    let q := (u.cl c).seq
    let m := (q.argReg (op % 64)).toNat + (q.argReg (op % 64 + 1)).toNat * 2 ^ 32
    (∃ h, h < 64 ∧ u.hostOf h = some c ∧ bitOf m h = true) →
      doBar c op s = if q.rerun then u else u.hold c .bar (bitsOf op 25 22 + 16 * m) := by
  rintro u q m ⟨h, hh, carried, named⟩
  have home : h ∈ u.homesOf c := List.mem_filter.2 ⟨List.mem_range.2 hh, decide_eq_true carried⟩
  have mine : ¬ (u.homesOf c).all (fun h => !bitOf m h) = true := fun others => by
    simpa [named] using List.all_eq_true.1 others h home
  rw [doBar, control_run may rfl, bitsOf_zero _ 5]
  exact if_neg (not_or.2 ⟨not_not_intro rest, not_or.2 ⟨Nat.not_lt.2 (Nat.le_of_lt_succ block), mine⟩⟩)

end

/-! ### Releases -/

section
variable {s : State} {c : Nat} (running : (s.cl c).seq.st = .running)
include running

theorem doWaitcRelease_eq (wait : (s.cl c).seq.wait = .waitC) :
    let u := s.runTo c (s.cl c).seq.next
    (u.cl c).seq.st = .running →
      doWaitcRelease c s = u.updSeq c (fun q => { q with wait := .none, isOpen := false }) := by
  intro u still
  rw [doWaitcRelease, if_pos ⟨running, wait⟩]
  exact State.updSeq_congr (if_pos still)

theorem doWaitgRelease_eq {t : Nat} (wait : (s.cl c).seq.wait = .waitG) :
    let q := (s.cl c).seq
    let u := s.release c t
    q.gflags.getLsbD q.waitArg = true → u.issuing c = true → doWaitgRelease c t s = u.takeFlag c q.waitArg := by
  intro q u flag issuing
  have set : bitOf q.gflags.toNat q.waitArg = true := (bitOf_toNat ..).trans flag
  rw [doWaitgRelease, if_pos ⟨running, wait, set⟩]
  exact if_pos issuing

theorem doWaitbRelease_eq {t : Nat} (wait : (s.cl c).seq.wait = .waitB) :
    let q := (s.cl c).seq
    let u := s.release c t
    q.seen.get q.waitArg 0 < s.blockNo.get q.waitArg 0 → u.issuing c = true →
      doWaitbRelease c t s = u.takeBlock c q.waitArg := by
  intro q u arrived issuing
  have ahead : s.blocksAhead c q.waitArg ≠ 0 := fun none => (s.blocksAhead_eq_zero c _).1 none arrived
  rw [doWaitbRelease, if_pos ⟨running, wait, ahead⟩]
  exact if_pos issuing

theorem doWaitxRelease_eq {n : Nat} {v : State} (wait : (s.cl c).seq.wait = .waitX)
    (settled : State.settleTags c (s.cl c).seq.waitArg flushFuel s = some (n, v)) (still : (v.cl c).seq.st = .running) :
    doWaitxRelease c s = v.release c n := by
  rw [doWaitxRelease, if_pos ⟨running, wait⟩, settled]
  exact if_pos still

theorem doFenceRelease_eq (wait : (s.cl c).seq.wait = .fence) :
    let q := (s.cl c).seq
    let v := State.settleUnits c q.waitArg flushFuel s
    (v.cl c).seq.st = .running → doFenceRelease c s = v.release c ((v.cl c).seq.unitsDone q.waitArg) := by
  intro q v still
  rw [doFenceRelease, if_pos ⟨running, wait⟩]
  exact if_pos still

end

/-! ### The statements -/

/-- Settles O3: each wait is decided in the state in which its bundle is open. -/
theorem heldBundles : Obligations.HeldBundles := by
  unfold Obligations.HeldBundles
  intro s c op hc hop may u q issues
  have wf := wf_control hc hop
  exact ⟨fun rest => (exec_waitg wf).trans (congrArg Host.Outcome.next (doWaitg_eq may rest)),
    fun rest => (exec_waitx wf).trans (congrArg Host.Outcome.next (doWaitx_eq may rest)),
    fun rest => (exec_waitb wf).trans (congrArg Host.Outcome.next (doWaitb_eq may rest)),
    fun rest => (exec_fence wf).trans (congrArg Host.Outcome.next (doFence_eq may rest)),
    fun rest => (exec_endProgram wf).trans (congrArg Host.Outcome.next (doEnd_eq may rest)),
    fun rest block named => (exec_bar wf).trans (congrArg Host.Outcome.next (doBar_eq may rest block named))⟩

/-- Settles O10: each release by its equation. -/
theorem releasedBundles : Obligations.ReleasedBundles := by
  unfold Obligations.ReleasedBundles
  intro s c t hc running q u
  have wf := wf_cluster hc
  refine ⟨fun wait still => ?_, fun wait flag issuing => ?_, fun wait arrived issuing => ?_,
    fun n v wait settled still => ?_, fun v wait settled still => ?_⟩
  · exact (exec_waitcRelease wf).trans (congrArg Host.Outcome.next (doWaitcRelease_eq running wait still))
  · exact (exec_waitgRelease wf).trans (congrArg Host.Outcome.next (doWaitgRelease_eq running wait flag issuing))
  · exact (exec_waitbRelease wf).trans (congrArg Host.Outcome.next (doWaitbRelease_eq running wait arrived issuing))
  · exact (exec_waitxRelease wf).trans (congrArg Host.Outcome.next (doWaitxRelease_eq running wait settled still))
  · subst settled
    exact (exec_fenceRelease wf).trans (congrArg Host.Outcome.next (doFenceRelease_eq running wait still))

end Sys2Proof.Machine
end

section
/-! PROOFS. The vector unit (O5). An arithmetic operation is one result that falls due; the loads enter an operation with its
acts; VU.OUT enters deliveries. -/

namespace Sys2Proof.Machine

/-! ### The vector unit in the course of an issue -/

/-- A cluster with another vector unit. -/
def Cluster.withVu (k : Cluster) (v : Vec) : Cluster := { k with vu := v }

/-- A cluster with further acts scheduled. -/
def Cluster.withEvs (k : Cluster) (evs : List Ev) : Cluster := { k with evs := k.evs ++ evs }

section
variable (t : State) (c : Nat) (k : Cluster) (ports : List Nat) (tiles : Table Tile) (due : List Promise)

@[simp] theorem Cluster.prepared_vu : (k.prepared ports tiles due).vu = k.vu := rfl

theorem State.updVu_prepared (f : Vec → Vec) :
    (t.setCl c (k.prepared ports tiles due)).updCl c (fun k => { k with vu := f k.vu }) =
      t.setCl c ((k.withVu (f k.vu)).prepared ports tiles due) := by
  rw [State.updCl_eq, State.cl_setCl_same, State.setCl_setCl]
  rfl

theorem State.sched_prepared (n ph job unit slot : Nat) (a : Act) :
    (t.setCl c (k.prepared ports tiles due)).sched c n ph job unit slot a =
      t.setCl c ((k.withEvs [⟨n, ph, job, unit, slot, a⟩]).prepared ports tiles due) := by
  rw [State.sched_eq, State.cl_setCl_same, State.setCl_setCl]
  rfl

/-- A cluster in which a result of the vector unit falls due in c-cycle w (R235). -/
def Cluster.resultDue (k : Cluster) (w : Nat) : Cluster :=
  (k.withVu { k.vu with writes := k.vu.writes ++ [w] }).fenced (k.doneBy uVector w)

theorem State.vuResult_prepared {w : Nat} (free : w ∉ k.vu.writes) (slot : Nat) (f : State → State) :
    (t.setCl c (k.prepared ports tiles due)).vuResult c slot w f =
      f (t.setCl c ((k.resultDue w).prepared ports tiles due)) := by
  have unscheduled : ¬ (k.prepared ports tiles due).vu.writes.contains w = true :=
    fun scheduled => free (List.contains_iff_mem.1 scheduled)
  rw [State.vuResult, State.cl_setCl_same, if_neg unscheduled]
  exact congrArg f ((congrArg (State.done · c uVector w) (t.updVu_prepared c k ports tiles due
    (fun v => { v with writes := v.writes ++ [w] }))).trans (State.done_prepared ..))

end

/-! ### Arithmetic -/

/-- The cluster after the issue of an arithmetic operation with the result `r`, readable n c-cycles later (R233, R235). -/
def Cluster.computing (k : Cluster) (slot op n : Nat) (r : List (Int × Bool) × Bool) : Cluster :=
  ((k.resultDue (k.seq.cyc + n)).withEvs [⟨k.seq.cyc + n - 1, 2, 0, uVector, k.seq.at slot,
    .lanes (bitsOf op 23 21) r.1 r.2 false⟩]).prepared [portVector] k.tiles k.seq.due

/-- What operation o of Table 7.9 computes from the lanes as they stand. -/
def Vec.result (v : Vec) (op o : Nat) : List (Int × Bool) × Bool :=
  laneOp v o (bitsOf op 20 18) (bitsOf op 17 15) (bitsOf op 14 11) (bitsOf op 12 11)

theorem signed_eq_toInt (n x : Nat) : signed (n + 1) x = (BitVec.ofNat (n + 1) x).toInt := by
  have half : x % 2 ^ (n + 1) < 2 ^ n ↔ 2 * (x % 2 ^ (n + 1)) < 2 ^ (n + 1) := by rw [Nat.pow_succ]; omega
  simp only [signed, BitVec.toInt_eq_toNat_cond, BitVec.toNat_ofNat, Nat.add_sub_cancel, half]
  norm_cast

section
variable {s : State} {c slot op : Nat} (use : s.mayUse c slot [portVector])
include use

theorem vuArith_computes (o n : Nat) {reserved : Bool} (good : reserved = false)
    (free : ((s.cl c).seq.cyc + n) ∉ (s.cl c).vu.writes) :
    s.vuArith c slot op o n reserved = s.setCl c ((s.cl c).computing slot op n ((s.cl c).vu.result op o)) := by
  rw [State.vuArith, engine_prepared use good]
  simp only [State.cl_setCl_same, Cluster.prepared_cyc, Cluster.prepared_vu, Cluster.prepared_at]
  rw [State.vuResult_prepared (free := free), State.sched_prepared]
  rfl

theorem doVuBci_computes (free : ((s.cl c).seq.cyc + 2) ∉ (s.cl c).vu.writes) :
    let k := s.cl c
    let v := (BitVec.ofNat 16 ((k.seq.arg (bitsOf op 5 0)).getD 0)).toInt
    doVuBci c slot op s = s.setCl c (k.computing slot op 2 (List.replicate 128 (v, false), false)) := by
  intro k v
  rw [doVuBci, engine_prepared use rfl]
  simp only [State.cl_setCl_same, Cluster.prepared_cyc, Cluster.prepared_at, signed_eq_toInt 15]
  rw [State.vuResult_prepared (free := free), State.sched_prepared]
  rfl

/-! ### Loads and deliveries -/

/-- The words that VU.LD reads, and its effect (R235). -/
theorem doVuLd_loads (block : bitsOf op 5 0 < 63) (size : bitsOf op 8 7 ≠ 3) :
    let k := s.cl c
    let I := k.seq.cyc
    let as := k.seq.arg2 (bitsOf op 5 0)
    k.vu.portFree ≤ I → (I + 5) ∉ k.vu.writes → ∃ reads, doVuLd c slot op s =
      s.setCl c (((k.resultDue (I + 5)).withVu { k.vu with portFree := I + 3, writes := k.vu.writes ++ [I + 5] }).issued
        [portVector] k.tiles k.seq.due (k.entry .vuLd slot op as)
        (reads ++ [⟨I + 4, 2, k.nextJob, uVector, k.seq.at slot, .run 0⟩]) (k.doneBy uVector (I + 5))) := by
  intro k I as idle free
  have fits : bitsOf op 5 0 + 2 ≤ 64 := Nat.add_le_add_right block 1
  rw [doVuLd, engine_prepared use (decide_eq_false (not_or.2 ⟨Seq.argBlock_ne_none fits _, size⟩))]
  simp only [State.cl_setCl_same, Cluster.prepared_cyc, Cluster.prepared_vu, Cluster.prepared_at]
  rw [if_neg (Nat.not_lt.2 idle), State.vuResult_prepared (free := free),
    State.updVu_prepared (f := fun v => { v with portFree := I + 3 })]
  simp only [State.launch_prepared, State.sched_issued]
  exact ⟨_, rfl⟩

theorem doVuTld_loads :
    let k := s.cl c
    let I := k.seq.cyc
    let w := (k.seq.arg (bitsOf op 5 0)).getD 0 % 2 ^ 17
    k.vu.portFree ≤ I → doVuTld c slot op s =
      s.setCl c ((k.withVu { k.vu with portFree := I + 17 }).issued [portVector] k.tiles k.seq.due (k.entry .vuTld slot op [w])
        ((upTo 16).map (fun i => ⟨I + 1 + i, 1, k.nextJob, uVector, k.seq.at slot, .rd i uVector [(w + i) % 2 ^ 17]⟩)
          ++ [⟨I + 16, 2, k.nextJob, uVector, k.seq.at slot, .run 0⟩]) (k.doneBy uVector (I + 17))) := by
  intro k I w idle
  rw [doVuTld, engine_prepared use rfl]
  simp only [State.cl_setCl_same, Cluster.prepared_cyc, Cluster.prepared_vu, Cluster.prepared_at, bitsOf_zero _ 16]
  rw [if_neg (Nat.not_lt.2 idle), State.updVu_prepared (f := fun v => { v with portFree := I + 17 })]
  simp only [State.launch_prepared, State.each_sched_issued, State.sched_issued, State.done_issued]
  rfl

theorem doVuOut_delivers (named : bitsOf op 10 9 ≠ 3) :
    let k := s.cl c
    let n := k.seq.cyc + 2
    let b := 2 * bitsOf op 8 8
    let row := bitsOf op 20 15
    let ls := k.vu.lane (bitsOf op 23 21)
    let act := fun (i : Nat) => (⟨n, 0, 0, uVector, k.seq.at slot, .dlv (bitsOf op 10 9) ⟨b + i, row, laneDlv ls i⟩⟩ : Ev)
    doVuOut c slot op s = s.setCl c (((k.withEvs [act 0, act 1]).fenced (k.doneBy uVector n)).prepared [portVector] k.tiles
      (k.seq.due ++ [⟨slot, kSluiceConflict, bitsOf op 10 9, [⟨b, row, n⟩, ⟨b + 1, row, n⟩]⟩])) := by
  intro k n b row ls act
  have both : (k.withEvs [act 0]).withEvs [act 1] = k.withEvs [act 0, act 1] := by
    simp only [Cluster.withEvs, List.append_assoc, List.singleton_append]
  rw [doVuOut, engine_prepared use (decide_eq_false named), ← both]
  simp only [State.promise_prepared, State.cl_setCl_same, Cluster.prepared_cyc, Cluster.prepared_at, Cluster.prepared_vu,
    State.sched_prepared, State.done_prepared]
  rfl

end

/-! ### The statement -/

/-- Settles O5: the arithmetic operations as one result that falls due, the others by their equations. -/
theorem vectorUnit : Obligations.VectorUnit := by
  unfold Obligations.VectorUnit
  refine ⟨fun s c slot op hc hop use => ?_, fun s c slot op hc hop use => ?_⟩
  · intro k I lanes does
    have wf := wf_of_mayUse hc hop use
    have does_of_computing {i : Instr} {n r}
        (run : (I + n) ∉ k.vu.writes → exec i s = .next (s.setCl c (k.computing slot op n r))) : does i n r :=
      fun free => ⟨_, run free, rfl, rfl, rfl, rfl, rfl, rfl⟩
    have arith {i : Instr} {reserved : Bool} (o n : Nat) (good : reserved = false)
        (run : exec i s = .next (s.vuArith c slot op o n reserved)) : does i n (lanes o) :=
      does_of_computing fun free => run.trans (congrArg Host.Outcome.next (vuArith_computes use o n good free))
    refine ⟨arith 1 2 rfl (exec_vuAdd wf), arith 2 2 rfl (exec_vuSub wf), arith 3 3 rfl (exec_vuMul wf),
      arith 4 2 rfl (exec_vuMax wf), arith 5 2 rfl (exec_vuMin wf), arith 6 4 rfl (exec_vuTab wf), fun range => ?_, ?_⟩
    · have good : decide (7 < bitsOf op 20 18 + bitsOf op 17 15) = false := decide_eq_false (Nat.not_lt.2 range)
      exact ⟨arith 7 6 good (exec_vuSumr wf), arith 8 6 good (exec_vuMaxr wf)⟩
    · exact does_of_computing fun free => (exec_vuBci wf).trans (congrArg Host.Outcome.next (doVuBci_computes use free))
  · intro k I pl as w
    have wf := wf_of_mayUse hc hop use
    refine ⟨fun block size idle free => ?_, fun idle => ?_, fun named => ?_⟩
    · obtain ⟨reads, loads⟩ := doVuLd_loads use block size idle free
      exact ⟨_, (exec_vuLd wf).trans (congrArg Host.Outcome.next loads), rfl, rfl,
        List.mem_append_right _ (List.mem_append_right _ List.mem_cons_self)⟩
    · exact ⟨_, (exec_vuTld wf).trans (congrArg Host.Outcome.next (doVuTld_loads use idle)), rfl,
        (List.append_assoc ..).symm⟩
    · exact ⟨_, (exec_vuOut wf).trans (congrArg Host.Outcome.next (doVuOut_delivers use named)), rfl, rfl, rfl⟩

end Sys2Proof.Machine
end

section
/-! PROOFS. The start and the end of a program (O11): a start record, a barrier's release, the end, and a wait that lasted too
long. -/

namespace Sys2Proof.Machine

/-! ### The start of a program -/

theorem lookup_map_upTo {α : Type} (n : Nat) (f : Nat → α) (i : Nat) :
    lookup ((upTo n).map (fun j => (j, f j))) i = if i < n then some (f i) else none := by
  induction n with
  | zero => rfl
  | succ n ih =>
    rw [upTo, List.range_succ, List.map_append, lookup_append, ← upTo, ih]
    by_cases below : i < n
    · rw [if_pos below, if_pos (Nat.lt_succ_of_lt below)]
      rfl
    · rw [if_neg below, Option.none_or]
      simp only [List.map_cons, List.map_nil, lookup]
      by_cases last : n = i
      · subst last
        rw [if_pos rfl, if_pos (Nat.lt_succ_self n)]
      · rw [if_neg last, if_neg (by omega)]

/-- R216: the first eight arguments of a record; every other register reads 0. -/
theorem startArgs_get (l : List Word32) (i : Nat) :
    (⟨(upTo (min 8 l.length)).map (fun j => (j, l.getD j 0))⟩ : Table Word32).get i 0 = if i < 8 then l.getD i 0 else 0 := by
  rw [Table.get, lookup_map_upTo]
  by_cases listed : i < l.length
  · simp only [Nat.lt_min, listed, and_true]
    split <;> rfl
  · have absent : l.getD i 0 = 0 := by
      rw [List.getD_eq_getElem?_getD, List.getElem?_eq_none (Nat.not_lt.1 listed), Option.getD_none]
    rw [if_neg (fun both => listed (Nat.lt_min.1 both).2), absent, ite_self]
    rfl

/-- The sequencer of cluster c once a program has started (R216, R515). -/
def State.startSeq (s : State) (c : Nat) (r : StartRecord) : Seq :=
  { Seq.reset with
    st := .running, pc := r.pc, args := ⟨(upTo (min 8 r.args.length)).map (fun i => (i, r.args.getD i 0))⟩, gflags := r.flags,
    flagsSeen := r.flags, ctx := r.ctx, slcfg := s.reg (regCl c 0x180), next := max r.at_ (s.cl c).seq.ran,
    ran := (s.cl c).seq.ran, rerun := r.rerun, seen := s.blockNo }

/-- Such a cluster: no copy, nothing scheduled, the stages of Sluice empty. -/
def State.startCluster (s : State) (c : Nat) (r : StartRecord) : Cluster :=
  let k := s.cl c
  { k with
    seq := s.startSeq c r
    sl := { k.sl with
      s0 := StageSet.reset, s1 := StageSet.reset, direct := Direct.reset, blockBusy := [], outBusy := [] }
    cp := ⟨[], k.cp.nextOrder, [], k.cp.lastOut⟩, evs := [], jobs := ⟨[]⟩ }

section
variable {s : State} {c : Nat} {r : StartRecord}

theorem doStartRecord_starts (present : r.gen = s.fld (regCl c 0x0C) 7 0)
    (free : (s.cl c).seq.st = .idle ∨ (s.cl c).seq.st = .ended) :
    doStartRecord c r s = ((s.setCl c (s.startCluster c r)).setReg (regCl c 4) 0).setReg (regCl c 0x250) 0 := by
  have takes : ¬ ((s.cl c).seq.st = .running ∨ (s.cl c).seq.st = .stopped) := by
    rcases free with idle | ended
    · simp [idle]
    · simp [ended]
  rw [doStartRecord, State.startProgram, if_neg (not_not_intro present), if_neg takes]
  rfl

theorem doStartRecord_stale (stale : r.gen ≠ s.fld (regCl c 0x0C) 7 0) :
    doStartRecord c r s = s.send c 0x13 ((s.reg (regCl c 4)).toNat % 2 ^ 24) true (s.ctxsOfCluster c) :=
  if_pos stale

end

/-! ### A barrier -/

/-- The clusters that carry the homes of a barrier's mask. -/
def State.barClusters (s : State) (arg : Nat) : List Nat :=
  ((upTo 64).filter (fun h => bitOf (arg / 16) h)).filterMap s.hostOf

/-- The c-cycle in which the last of them on a die arrived. -/
def State.barLast (s : State) (ks : List Nat) (die : Nat) : Nat :=
  (ks.filter (fun k => dieOf k = die)).foldl (fun a k => max a (s.cl k).seq.next) 0

/-- R230, R265: where all have arrived with one mask, each issues n c-cycles after the last on its die. -/
theorem doBarRelease_opens {s : State} {c : Nat} (n : Nat) (running : (s.cl c).seq.st = .running)
    (wait : (s.cl c).seq.wait = .bar)
    (arrived : ∀ h ∈ (upTo 64).filter (fun h => bitOf ((s.cl c).seq.waitArg / 16) h), ∃ k, s.hostOf h = some k
      ∧ (s.cl k).seq.st = .running ∧ (s.cl k).seq.wait = .bar ∧ (s.cl k).seq.waitArg = (s.cl c).seq.waitArg) :
    let ks := s.barClusters (s.cl c).seq.waitArg
    doBarRelease c n s = ks.foldl (fun u k => u.release k (s.barLast ks (dieOf k) + n)) s := by
  intro ks
  have carried : (((upTo 64).filter (fun h => bitOf ((s.cl c).seq.waitArg / 16) h)).map s.hostOf).filterMap id = ks :=
    List.filterMap_map
  rw [doBarRelease, if_pos ⟨running, wait⟩]
  dsimp only
  rw [if_pos, carried]
  · rfl
  · refine List.all_eq_true.2 fun x hx => ?_
    obtain ⟨h, hh, rfl⟩ := List.mem_map.1 hx
    obtain ⟨k, host, here⟩ := arrived h hh
    rw [host]
    exact decide_eq_true here

/-! ### A stop -/

section
variable {s : State} {c : Nat}

/-- The fields of CL_STOPINFO below the kind (R222). -/
def stopInfo (place bank : Nat) (exec : Bool) : Nat :=
  place % 8 * 2 ^ 21 + (if exec then 2 ^ 20 else 0) + place / 8 % 4096 * 256 + bank

/-- A stop for what slot 0 waits for names the bundle alone. -/
theorem stopInfo_place (q : Seq) : stopInfo q.place 0 false = q.pcLast.toNat * 2 ^ 8 := by
  rw [stopInfo, Seq.place, Nat.mul_mod_left, Nat.mul_div_cancel _ (by decide), Nat.mod_eq_of_lt q.pcLast.isLt, if_neg (by decide)]
  omega

/-- R222: a cluster that is not stopped already. -/
theorem State.stopAs_eq (alive : (s.cl c).seq.st ≠ .stopped) (kind place : Nat) (exec : Bool) (bank : Nat)
    (addr : Option Nat) :
    let u := (s.updSeq c (fun q => { q with st := .stopped, wait := .none, isOpen := false })).setReg (regCl c 4)
      (BitVec.ofNat 32 (kind * 2 ^ 24 + stopInfo place bank exec))
    s.stopAs c kind place exec bank addr = u.send c kind (addr.getD (stopInfo place bank exec)) true (u.ctxsOfCluster c) :=
  if_neg alive

@[simp] theorem State.halt_mem : (s.halt c).mem = s.mem := by
  unfold State.halt
  split
  · dsimp only
    split <;> rfl
  · rfl

@[simp] theorem State.halt_net : (s.halt c).net = s.net := by
  unfold State.halt
  split
  · dsimp only
    split <;> rfl
  · rfl

/-- A halt changes no register but EE_STAT of the die. -/
theorem State.reg_halt {off : Nat} (other : regEe (dieOf c) 4 ≠ off) : (s.halt c).reg off = s.reg off := by
  unfold State.halt
  split
  · dsimp only
    split
    · exact s.reg_setReg_ne _ other
    · rfl
  · rfl

/-- The units of a stopped cluster halt. -/
theorem State.cl_halt (stopped : (s.cl c).seq.st = .stopped) :
    (s.halt c).cl c = { s.cl c with evs := [], jobs := ⟨[]⟩, red := { (s.cl c).red with now := [] } } := by
  rw [State.halt, if_pos stopped]
  dsimp only
  rw [State.updCl_eq, State.cl_setCl_same]
  split <;> rfl

/-- The registers of a cluster are none of an edge engine's. -/
theorem regEe_ne_regCl {d o o' : Nat} (hc : c < 64) (ho : o < 0x1000) : regEe d o' ≠ regCl c o := by
  unfold regEe regCl
  omega

end

/-! ### The end, and a wait that lasted too long -/

/-- The model's choice in log entry 9: a wait that is none of synchronisation, or has not lasted too long, changes nothing. -/
theorem doWaitTimeout_early {s : State} {c : Nat} (early : ¬ (s.syncWait c = true ∧ s.waitLate c = true)) :
    doWaitTimeout c s = s :=
  if_neg fun all => early all.2

section
variable {s : State} {c : Nat} (running : (s.cl c).seq.st = .running)
include running

theorem doEndCompletion_ends (wait : (s.cl c).seq.wait = .ending) (still : ((s.flush c).cl c).seq.st = .running)
    (settled : ((s.flush c).cl c).seq.tags = 0) (idle : ((s.flush c).cl c).jobs.rows = []) :
    doEndCompletion c s =
      ((s.flush c).updSeq c (fun q => { q with st := .ended, wait := .none, isOpen := false })).programEnded c := by
  rw [doEndCompletion, if_pos ⟨running, wait⟩]
  exact if_pos ⟨still, settled, idle⟩

/-- R230, R521: a late wait that still stands once everything scheduled has run (log entry 53) stops the cluster. -/
theorem doWaitTimeout_stops (sync : s.syncWait c = true) (late : s.waitLate c = true)
    (still : ((s.flush c).cl c).seq.st = .running) (stands : (s.flush c).syncWait c = true) :
    let u := s.flush c
    doWaitTimeout c s = (u.stopAs c 0x11 (u.cl c).seq.place false 0 none).halt c := by
  rw [doWaitTimeout, if_pos ⟨running, sync, late⟩]
  exact if_pos ⟨still, stands⟩

end

/-- What such a stop leaves. -/
theorem State.timedOut {u : State} {c : Nat} (hc : c < 64) (running : (u.cl c).seq.st = .running) :
    let t := (u.stopAs c 0x11 (u.cl c).seq.place false 0 none).halt c
    (t.cl c).seq.st = .stopped ∧ (t.cl c).evs = [] ∧ (t.cl c).jobs.rows = []
      ∧ t.reg (regCl c 4) = BitVec.ofNat 32 (0x11 * 2 ^ 24 + (u.cl c).seq.pcLast.toNat * 2 ^ 8)
      ∧ t.net.length = u.net.length + 1 ∧ t.mem = u.mem := by
  intro t
  have alive : (u.cl c).seq.st ≠ .stopped := by simp [running]
  have stop := State.stopAs_eq alive 0x11 (u.cl c).seq.place false 0 none
  have stopped : ((u.stopAs c 0x11 (u.cl c).seq.place false 0 none).cl c).seq.st = .stopped := by
    rw [stop, State.cl_send, State.cl_setReg, State.updSeq_eq, State.cl_setCl_same]
  have halted := State.cl_halt stopped
  refine ⟨(congrArg (fun k => k.seq.st) halted).trans stopped, congrArg Cluster.evs halted,
    congrArg (fun k => k.jobs.rows) halted, ?_, ?_, ?_⟩
  · rw [State.reg_halt (regEe_ne_regCl hc (by decide)), stop, State.reg_send, State.reg_setReg_same, stopInfo_place]
  · rw [State.halt_net, stop, State.send_net, List.length_append]
    rfl
  · rw [State.halt_mem, stop]
    rfl

/-! ### The statement -/

/-- Settles O11: the state after a start is read off; the others by their equations. -/
theorem programsStartAndEnd : Obligations.ProgramsStartAndEnd := by
  unfold Obligations.ProgramsStartAndEnd
  intro s c hc q
  have wf := wf_cluster hc
  refine ⟨fun r present free => ?_, fun r stale => ?_, fun n running wait => ?_, fun running wait still settled idle => ?_,
    fun running => ⟨fun early => ?_, fun sync late still stands => ?_⟩⟩
  · have cl : (((s.setCl c (s.startCluster c r)).setReg (regCl c 4) 0).setReg (regCl c 0x250) 0).cl c = s.startCluster c r := by
      rw [State.cl_setReg, State.cl_setReg, State.cl_setCl_same]
    have apart : regCl c 0x250 ≠ regCl c 4 := by unfold regCl; omega
    refine ⟨_, (exec_startRecord wf).trans (congrArg Host.Outcome.next (doStartRecord_starts present free)), ?_⟩
    rw [cl]
    exact ⟨rfl, rfl, rfl, rfl, startArgs_get r.args, rfl, rfl, rfl, rfl,
      (State.reg_setReg_ne _ _ apart).trans (State.reg_setReg_same ..), rfl, rfl,
      fun d other => (State.cl_setCl ..).trans (if_neg other.symm)⟩
  · exact (exec_startRecord wf).trans (congrArg Host.Outcome.next (doStartRecord_stale stale))
  · intro hs ks last arrived
    exact (exec_barRelease wf).trans (congrArg Host.Outcome.next (doBarRelease_opens n running wait arrived))
  · exact (exec_endCompletion wf).trans (congrArg Host.Outcome.next (doEndCompletion_ends running wait still settled idle))
  · refine (exec_waitTimeout wf).trans (congrArg Host.Outcome.next (doWaitTimeout_early fun both => early ?_))
    exact ⟨both.1, of_decide_eq_true both.2⟩
  · exact ⟨_, (exec_waitTimeout wf).trans (congrArg Host.Outcome.next
      (doWaitTimeout_stops running sync (decide_eq_true late) still stands)), State.timedOut hc still⟩

end Sys2Proof.Machine
end

section
/-! PROOFS. The copies of a cluster (O12): CP.RUN enters one, a landing marks it, a commit schedules its writes. -/

namespace Sys2Proof.Machine

/-! ### CP.RUN -/

/-- A cluster with a further copy in the order of issue, its tag pending (R240, R267). -/
def Cluster.withCopy (k : Cluster) (e : CopyJob) : Cluster :=
  { k with
    cp := { k.cp with
      jobs := k.cp.jobs.filter (fun j => j.order < e.order) ++ [e] ++ k.cp.jobs.filter (fun j => e.order < j.order) }
    seq := { k.seq with tags := k.seq.tags ||| BitVec.ofNat 16 (2 ^ e.tag) } }

theorem State.withCopy_issued (t : State) (c : Nat) (k : Cluster) (ports : List Nat) (tiles : Table Tile) (due : List Promise)
    (j : Job) (evs : List Ev) (units : Table Nat) (e : CopyJob) :
    (t.setCl c (k.issued ports tiles due j evs units)).updCl c (fun k => k.withCopy e) =
      t.setCl c ((k.withCopy e).issued ports tiles due j evs units) := by
  rw [State.updCl_eq, State.cl_setCl_same, State.setCl_setCl]
  rfl

/-- The place of a copy in the order of issue: outbound before inbound within a bundle (R267). -/
def copyOrder (inbound : Bool) (I : Nat) : Nat := 2 * I + (if inbound then 1 else 0)

/-- The engine of a direction: its port, its memory user, its operation. -/
def copyPort (inbound : Bool) : Nat := if inbound then portCopyIn else portCopyOut
def copyUnit (inbound : Bool) : Nat := if inbound then uCopyIn else uCopyOut
def copyKind (inbound : Bool) : JobKind := if inbound then .cpIn else .cpOut

/-- The copy that issues from a slot now, with its descriptor at word `dw`. -/
def Cluster.copyEntry (k : Cluster) (slot tag dw : Nat) (inbound : Bool) : CopyJob :=
  { order := copyOrder inbound k.seq.cyc, inbound := inbound, tag := tag, word := dw, desc := none, issued := k.seq.cyc,
    lastRead := 0, fixed := false, landed := false, doneAt := 0, rows := [], comp := [], deadline := 0, cls := 0,
    passed := false, sent := false, mcNo := 0, remote := none, place := k.seq.at slot }

/-- The read of the descriptor in c-cycle I + 1, and the start of the copy after it. -/
def Cluster.descriptorEvs (k : Cluster) (slot dw unit : Nat) : List Ev :=
  [⟨k.seq.cyc + 1, 1, k.nextJob, unit, k.seq.at slot, .rd 0 unit [dw, dw + 1]⟩,
    ⟨k.seq.cyc + 1, 2, k.nextJob, unit, k.seq.at slot, .run 0⟩]

theorem doCpRun_enters {s : State} {c slot op : Nat} {inbound : Bool} (use : s.mayUse c slot [copyPort inbound])
    (code : bitsOf op 27 24 = 0) (rest : bitsOf op 19 6 = 0) :
    let k := s.cl c
    let w := (k.seq.arg (bitsOf op 5 0)).getD 0
    let tag := bitsOf op 23 20
    w % 2 = 0 → k.seq.tags.getLsbD tag = false → (k.cp.jobs.filter (fun j => j.inbound = inbound)).length < 4 →
      doCpRun c slot inbound op s = s.setCl c ((k.withCopy (k.copyEntry slot tag (w % 2 ^ 17) inbound)).issued [copyPort inbound]
        k.tiles k.seq.due { k.entry (copyKind inbound) slot op [w] with note := [copyOrder inbound k.seq.cyc] }
        (k.descriptorEvs slot (w % 2 ^ 17) (copyUnit inbound)) (k.doneBy (copyUnit inbound) (k.seq.cyc + 2))) := by
  intro k w tag even unused room
  have aligned : ¬ w % 2 ^ 17 % 2 = 1 := by
    rw [Nat.mod_mod_of_dvd w (show 2 ∣ 2 ^ 17 by decide), even]
    decide
  have enters : ¬ (bitOf k.seq.tags.toNat tag = true ∨ 4 ≤ (k.cp.jobs.filter (fun j => j.inbound = inbound)).length) :=
    not_or.2 ⟨ne_true_of_eq_false ((bitOf_toNat ..).trans unused), Nat.not_le.2 room⟩
  rw [doCpRun, bitsOf_zero _ 16]
  refine (engine_prepared use (decide_eq_false
    (not_or.2 ⟨not_not_intro code, not_or.2 ⟨not_not_intro rest, aligned⟩⟩))).trans ?_
  simp only [State.cl_setCl_same, Cluster.prepared_cyc, Cluster.prepared_at, State.launch_prepared, State.updJob_issued]
  refine (if_neg enters).trans ?_
  refine (congrArg (fun u => State.done (State.sched (State.sched u ..) ..) ..)
    (State.withCopy_issued (e := k.copyEntry slot tag (w % 2 ^ 17) inbound) ..)).trans ?_
  simp only [State.sched_issued, State.done_issued]
  rfl

/-! ### Landings -/

theorem State.genOf_lt (s : State) {c : Nat} (hc : c < 64) : s.genOf c < 256 := by
  rw [State.genOf, if_pos hc]
  exact Nat.mod_lt _ (by decide)

theorem doPullLanding_stale {s : State} {c gen : Nat} (stale : gen ≠ s.genOf c) (tag l : Nat) (ok : Bool) (host : List Byte) :
    doPullLanding c tag gen l ok host s = s.bump (regCl c 0x0C) 23 16 1 :=
  if_pos stale

/-- Outside replay the host's bytes are those that came (R287). -/
theorem State.pullHost_live {u : State} (live : u.mode ≠ 2) (c : Nat) (d : CopyDesc) (ok : Bool) (host : List Byte) :
    u.pullHost c d ok host = some (host, ok, u) := by
  simp [State.pullHost, State.hostAnswer, live]

/-- The data of a landing: those that a multicast pull read already, or those of the source now. -/
def State.landed (u : State) (c : Nat) (e : CopyJob) (d : CopyDesc) (ok : Bool) (host : List Byte) :
    List (Byte × Bool) × List (Byte × Bool) × Bool × State :=
  if e.sent then (e.rows, e.comp, true, u) else u.pullData c d ok host

theorem doPullLanding_lands {s u : State} {c tag l : Nat} {ok : Bool} {host : List Byte} {e : CopyJob} {d : CopyDesc}
    (caughtUp : s.catchUp c l = u) (found : u.copyOf c tag = some e) (desc : e.desc = some d) (inbound : e.inbound = true)
    (waiting : e.landed = false) (multicast : e.mcNo ≠ 0 → e.sent = true) (live : u.mode ≠ 2)
    (clear : u.copyWaits c e = false) (onTime : max l (e.issued + 2) ≤ e.deadline) :
    let r := u.landed c e d ok host
    r.2.2.1 = true → doPullLanding c tag (s.genOf c) l ok host s = r.2.2.2.updCopy c e.order (fun x =>
      { x with landed := true, doneAt := max l (e.issued + 2), rows := r.1, comp := r.2.1, sent := true }) := by
  intro r good
  have lands : ¬ (e.inbound = false ∨ e.landed = true ∨ u.copyWaits c e = true ∨ (e.mcNo ≠ 0 ∧ e.sent = false)) := by
    simpa [inbound, waiting, clear] using multicast
  have answer : (if e.sent then some (host, ok, u) else u.pullHost c d ok host) = some (host, ok, u) := by
    rw [State.pullHost_live live, ite_self]
  rw [doPullLanding, if_neg (not_not_intro rfl), caughtUp]
  simp only [found, desc]
  rw [if_neg lands]
  simp only [answer]
  refine (if_neg (Nat.not_lt.2 onTime)).trans ?_
  exact congrArg (fun v => State.updCopy v c e.order _) (if_pos good)

/-! ### Commits -/

/-- The writes of a commit from c-cycle n on are scheduled from there on, and end after it where there is one to make. -/
theorem State.commitFrom_eq (t : State) (c id place fuel : Nat) : ∀ (n : Nat) (ws : List (Nat × List (Nat × Nat) × List Nat))
    (k : Cluster), ∃ m evs, State.commitFrom c id place fuel n ws (t.setCl c k) = (m, t.setCl c (k.withEvs evs))
      ∧ n ≤ m ∧ (fuel ≠ 0 → ws ≠ [] → n < m) ∧ ∀ x ∈ evs, n ≤ x.at_ := by
  have unchanged (k : Cluster) : k.withEvs [] = k := by simp [Cluster.withEvs]
  induction fuel with
  | zero => exact fun n ws k => ⟨n, [], by rw [unchanged]; rfl, Nat.le_refl n, fun none => absurd rfl none, by simp⟩
  | succ fuel ih =>
    intro n ws k
    cases ws with
    | nil => exact ⟨n, [], by rw [unchanged]; rfl, Nat.le_refl n, fun _ none => absurd rfl none, by simp⟩
    | cons w ws =>
      rw [State.commitFrom, State.cl_setCl_same]
      split
      · obtain ⟨m, evs, eq, after, -, later⟩ := ih (n + 1) (w :: ws) k
        exact ⟨m, evs, eq, Nat.le_of_succ_le after, fun _ _ => after, fun x hx => Nat.le_of_succ_le (later x hx)⟩
      · obtain ⟨m, evs, eq, after, -, later⟩ := ih (n + 1) (commitPick 4 [] (w :: ws)).2
          (k.withEvs [⟨n, 1, id, uCopyIn, place, .wr true (commitPick 4 [] (w :: ws)).1⟩])
        refine ⟨m, ⟨n, 1, id, uCopyIn, place, .wr true (commitPick 4 [] (w :: ws)).1⟩ :: evs, ?_, Nat.le_of_succ_le after,
          fun _ _ => after, List.forall_mem_cons.2 ⟨Nat.le_refl n, fun x hx => Nat.le_of_succ_le (later x hx)⟩⟩
        dsimp only
        rw [State.sched_eq, State.cl_setCl_same, State.setCl_setCl]
        refine eq.trans ?_
        simp only [Cluster.withEvs, List.append_assoc, List.singleton_append]

/-- The first c-cycle in which a landed pull may be written (R267, R281). -/
def State.commitAt (s : State) (c : Nat) (e : CopyJob) : Nat :=
  let k := s.cl c
  let ins := k.cp.jobs.filter (fun e => e.inbound)
  let last := (ins.filter (fun x => x.order < e.order)).foldl (fun a x => max a (x.doneAt + 1)) 0
  max (max e.doneAt k.seq.next) (max last (max k.seq.ran (if s.strict then e.deadline else 0)))

theorem State.doneAt_le_commitAt (s : State) (c : Nat) (e : CopyJob) : e.doneAt ≤ s.commitAt c e :=
  Nat.le_trans (Nat.le_max_left ..) (Nat.le_max_left ..)

theorem State.deadline_le_commitAt {s : State} (strict : s.strict = true) (c : Nat) (e : CopyJob) :
    e.deadline ≤ s.commitAt c e := by
  rw [State.commitAt, if_pos strict]
  exact Nat.le_trans (Nat.le_max_right ..) (Nat.le_trans (Nat.le_max_right ..) (Nat.le_max_right ..))

/-- A cluster in which the copies of an order number are fixed, written by c-cycle n. -/
def Cluster.fixing (k : Cluster) (order n : Nat) : Cluster :=
  { k with cp := { k.cp with
      jobs := k.cp.jobs.map (fun j => if j.order = order then { j with fixed := true, doneAt := n } else j) } }

theorem Cluster.fixed_of_mem_fixing {k : Cluster} {order n : Nat} {x : CopyJob} (hx : x ∈ (k.fixing order n).cp.jobs)
    (same : x.order = order) : x.fixed = true := by
  obtain ⟨j, -, rfl⟩ := List.mem_map.1 hx
  split at same
  next is => rw [if_pos is]
  next other => exact absurd same other

/-- A cluster that has given out a job number. -/
def Cluster.numbered (k : Cluster) : Cluster := { k with nextJob := k.nextJob + 1 }

/-- The bound on the c-cycles of a commit. -/
def commitFuel (ws : List (Nat × List (Nat × Nat) × List Nat)) (u : State) : Nat :=
  ws.length + u.clusters.rows.foldl (fun a x => a + x.2.evs.length) 0

/-- The commit of a landed pull. -/
def State.commitCopy (s : State) (c : Nat) (e : CopyJob) (d : CopyDesc) : State :=
  let ws := s.commitWords d e
  let u := s.setCl c (s.cl c).numbered
  let r := State.commitFrom c (s.nextJob c) e.place (commitFuel ws u) (s.commitAt c e) ws u
  (r.2.updCopy c e.order (fun x => { x with fixed := true, doneAt := r.1 - 1 })).tagAt c r.1 0 uCopyIn e.place e.tag

theorem doPullCommit_commits {s : State} {c : Nat} {e : CopyJob} {d : CopyDesc}
    (oldest : ((s.cl c).cp.jobs.filter (fun e => e.inbound)).find? (fun e => !e.fixed) = some e) (desc : e.desc = some d)
    (landed : e.landed = true) (running : (s.cl c).seq.st = .running) (ending : (s.cl c).seq.wait = .ending)
    (passed : s.strict = true → e.passed = true) : doPullCommit c s = s.commitCopy c e d := by
  rw [doPullCommit]
  simp only [oldest, desc]
  refine if_neg ?_
  rintro (stopped | unnamed | unlanded | ⟨strict, early, -⟩)
  · exact stopped running
  · simp [ending] at unnamed
  · exact Bool.false_ne_true (unlanded.symm.trans landed)
  · exact Bool.false_ne_true (early.symm.trans (passed strict))

/-- What a commit schedules lies in or after the first c-cycle in which it may be written. -/
theorem State.commitCopy_eq {s : State} {c : Nat} {e : CopyJob} {d : CopyDesc} (writes : s.commitWords d e ≠ []) :
    ∃ n evs, s.commitCopy c e d = s.setCl c (((s.cl c).numbered.fixing e.order n).withEvs evs)
      ∧ ∀ x ∈ evs, s.commitAt c e ≤ x.at_ := by
  obtain ⟨m, evs, eq, -, after, later⟩ := s.commitFrom_eq c (s.nextJob c) e.place
    (commitFuel (s.commitWords d e) (s.setCl c (s.cl c).numbered)) (s.commitAt c e) (s.commitWords d e) (s.cl c).numbered
  have fuel : commitFuel (s.commitWords d e) (s.setCl c (s.cl c).numbered) ≠ 0 :=
    Nat.ne_of_gt (Nat.add_pos_left (List.length_pos_iff.2 writes) _)
  have ends : s.commitAt c e < m := after fuel writes
  have clears : s.commitAt c e ≤ max m ((s.cl c).seq.ran + 1) - 1 := by omega
  refine ⟨m - 1, evs ++ [⟨max m ((s.cl c).seq.ran + 1) - 1, 2, 0, uCopyIn, e.place, .tagClr e.tag⟩], ?_,
    List.forall_mem_append.2 ⟨later, List.forall_mem_singleton.2 clears⟩⟩
  rw [State.commitCopy, eq]
  simp only [State.updCopy, State.tagAt, State.updCl_eq, State.sched_eq, State.cl_setCl_same, State.setCl_setCl,
    Cluster.withEvs, List.append_assoc]
  rfl

/-! ### Deadlines -/

theorem doCopyDeadline_passes {s : State} {c tag : Nat} {e : CopyJob} (found : s.copyOf c tag = some e)
    (desc : e.desc.isSome = true) (lax : s.strict = false) :
    doCopyDeadline c tag s = s.updCopy c e.order (fun x => { x with passed := true }) := by
  have read : ¬ e.desc.isNone = true := by simpa [Option.isSome_iff_ne_none] using desc
  rw [doCopyDeadline]
  simp only [found]
  rw [if_neg read]
  exact if_neg fun late => Bool.false_ne_true (lax.symm.trans late.1)

/-! ### The statement -/

/-- Settles O12: each event by its equation; of a commit, the acts that it adds. -/
theorem copiesOfACluster : Obligations.CopiesOfACluster := by
  unfold Obligations.CopiesOfACluster
  intro s c hc
  have wf {tag gen : Nat} (htag : tag < 16) (hgen : gen < 256) : (below 64 c && below 16 tag && below 256 gen) = true := by
    simp only [below, hc, htag, hgen, decide_true, Bool.and_self]
  refine ⟨fun slot op inbound hop use => ?_, fun tag gen l ok host htag hgen stale => ?_,
    fun tag l ok host e d htag => ?_, fun e d oldest desc writes landed running ending passed => ?_,
    fun tag e htag found desc lax => ?_⟩
  · intro k I w tag unit code rest even unused room
    exact ⟨_, (exec_cpRun (wf_of_mayUse hc hop use)).trans
      (congrArg Host.Outcome.next (doCpRun_enters use code rest even unused room)), rfl,
      ⟨k.copyEntry slot tag (w % 2 ^ 17) inbound, List.mem_append_left _ (List.mem_append_right _ List.mem_cons_self),
        rfl, rfl, rfl, rfl, rfl⟩, rfl⟩
  · exact (exec_pullLanding (wf htag hgen)).trans (congrArg Host.Outcome.next (doPullLanding_stale stale ..))
  · intro u r found desc inbound waiting multicast live clear good onTime
    exact (exec_pullLanding (wf htag (s.genOf_lt hc))).trans (congrArg Host.Outcome.next
      (doPullLanding_lands rfl found desc inbound waiting multicast live clear onTime good))
  · obtain ⟨n, evs, commits, later⟩ := State.commitCopy_eq writes
    refine ⟨_, (exec_pullCommit (wf_cluster hc)).trans (congrArg Host.Outcome.next
      ((doPullCommit_commits oldest desc landed running ending passed).trans commits)),
      fun x hx same => Cluster.fixed_of_mem_fixing hx same, fun x hx new => ?_⟩
    have at_ := later x ((List.mem_append.1 hx).resolve_left new)
    exact ⟨Nat.le_trans (s.doneAt_le_commitAt c e) at_,
      fun strict => Nat.le_trans (State.deadline_le_commitAt strict c e) at_⟩
  · have named : (below 64 c && below 16 tag) = true := by simp only [below, hc, htag, decide_true, Bool.and_self]
    exact (exec_copyDeadline named).trans (congrArg Host.Outcome.next (doCopyDeadline_passes found desc lax))

end Sys2Proof.Machine
end

section
/-! PROOFS. Every step keeps the memory form (O55). The law of each meaning says what its command keeps; TIME_TICK alone moves
the clock. -/

namespace Sys2Proof.Machine

/-- An answer that is a next state is the meaning's. -/
theorem answer_sound {ok : Bool} {s u t : State} (law : Sound s s → Sound s u) (h : answer ok u = .next t) : Sound s t := by
  cases ok with
  | false => cases h
  | true =>
    cases h
    exact law (.refl s)

/-- The same of a command that is never refused. -/
theorem always_sound {s u t : State} (law : Sound s s → Sound s u) (h : answer true u = .next t) : Sound s t :=
  answer_sound law h

/-- What every command but TIME_TICK keeps. -/
theorem exec_sound {i : Instr} {s t : State} (other : i ≠ .timeTick) (h : exec i s = .next t) : Sound s t := by
  cases i with
  | startRecord => exact answer_sound doStartRecord_sound h
  | nop => exact answer_sound doNop_sound h
  | setl => exact answer_sound doSetl_sound h
  | seth => exact answer_sound doSeth_sound h
  | addi => exact answer_sound doAddi_sound h
  | lda => exact answer_sound doLda_sound h
  | step => exact answer_sound doStep_sound h
  | lset => exact answer_sound doLset_sound h
  | bloop => exact answer_sound doBloop_sound h
  | br => exact answer_sound doBr_sound h
  | waitc => exact answer_sound doWaitc_sound h
  | waitcRelease => exact answer_sound doWaitcRelease_sound h
  | waitg => exact answer_sound doWaitg_sound h
  | waitgRelease => exact answer_sound doWaitgRelease_sound h
  | waitx => exact answer_sound doWaitx_sound h
  | waitxRelease => exact answer_sound doWaitxRelease_sound h
  | waitb => exact answer_sound doWaitb_sound h
  | waitbRelease => exact answer_sound doWaitbRelease_sound h
  | bar => exact answer_sound doBar_sound h
  | barRelease => exact answer_sound doBarRelease_sound h
  | fence => exact answer_sound doFence_sound h
  | fenceRelease => exact answer_sound doFenceRelease_sound h
  | flagclr => exact answer_sound doFlagclr_sound h
  | endProgram => exact answer_sound doEnd_sound h
  | endCompletion => exact answer_sound doEndCompletion_sound h
  | waitTimeout => exact answer_sound doWaitTimeout_sound h
  | mxT => exact answer_sound doMx_sound h
  | mxP => exact answer_sound doMx_sound h
  | mxQ => exact answer_sound doMx_sound h
  | mxW => exact answer_sound doMx_sound h
  | mxG => exact answer_sound doMx_sound h
  | mxLd => exact answer_sound doMxLd_sound h
  | mxDr => exact answer_sound doMxDr_sound h
  | edAtt => exact answer_sound doEdAtt_sound h
  | vuLd => exact answer_sound doVuLd_sound h
  | vuAdd => exact answer_sound doVuAdd_sound h
  | vuSub => exact answer_sound doVuSub_sound h
  | vuMul => exact answer_sound doVuMul_sound h
  | vuMax => exact answer_sound doVuMax_sound h
  | vuMin => exact answer_sound doVuMin_sound h
  | vuTab => exact answer_sound doVuTab_sound h
  | vuSumr => exact answer_sound doVuSumr_sound h
  | vuMaxr => exact answer_sound doVuMaxr_sound h
  | vuOut => exact answer_sound doVuOut_sound h
  | vuTld => exact answer_sound doVuTld_sound h
  | vuBci => exact answer_sound doVuBci_sound h
  | slP1 => exact answer_sound doSlP1_sound h
  | slP2 => exact answer_sound doSlP2_sound h
  | slCv => exact answer_sound doSlCv_sound h
  | slTld => exact answer_sound doSlTld_sound h
  | slZld => exact answer_sound doSlZld_sound h
  | slSeed => exact answer_sound doSlSeed_sound h
  | slKl => exact answer_sound doSlKl_sound h
  | slKa => exact answer_sound doSlKa_sound h
  | slKu => exact answer_sound doSlKu_sound h
  | setReady => exact answer_sound doSetReady_sound h
  | stRing => exact answer_sound doStRing_sound h
  | stWin => exact answer_sound doStWin_sound h
  | stRpk => exact answer_sound doStRpk_sound h
  | stTrp => exact answer_sound doStTrp_sound h
  | rdSum => exact answer_sound doRdSum_sound h
  | cpRun => exact answer_sound doCpRun_sound h
  | pullLanding => exact answer_sound doPullLanding_sound h
  | pullCommit => exact answer_sound doPullCommit_sound h
  | outboundComplete => exact answer_sound doOutboundComplete_sound h
  | mcastPull => exact answer_sound doMcastPull_sound h
  | copyDeadline => exact answer_sound doCopyDeadline_sound h
  | egRun => exact answer_sound doEgRun_sound h
  | egRunComplete => exact answer_sound doEgRunComplete_sound h
  | serviceAccess => exact answer_sound doServiceAccess_sound h
  | clMemclr => exact answer_sound doClMemclr_sound h
  | sqTail => exact answer_sound doSqTail_sound h
  | cqHead => exact answer_sound doCqHead_sound h
  | accept => exact answer_sound doAcceptKeep_sound h
  | descriptorNop => exact answer_sound doDescriptorNop_sound h
  | loadp => exact answer_sound doLoadp_sound h
  | loadw => exact answer_sound doLoadw_sound h
  | run => exact answer_sound doRun_sound h
  | copy => exact answer_sound doCopy_sound h
  | decode => exact answer_sound doDecode_sound h
  | kvopShare => exact answer_sound doKvopShare_sound h
  | kvopRelease => exact answer_sound doKvopRelease_sound h
  | kvopTruncate => exact answer_sound doKvopTruncate_sound h
  | disarm => exact answer_sound doDisarm_sound h
  | outcomeRecord => exact answer_sound doOutcomeRecord_sound h
  | msixHoldoffExpiry => exact answer_sound doMsixHoldoffExpiry_sound h
  | enable => exact answer_sound doEnable_sound h
  | disable => exact answer_sound doDisable_sound h
  | abort => exact answer_sound doAbort_sound h
  | contextReset => exact answer_sound doContextReset_sound h
  | hostLoss => exact answer_sound doHostLoss_sound h
  | d3hotEntry => exact always_sound doD3hotEntry_sound h
  | d0Return => exact always_sound doD0Return_sound h
  | kvWrite => exact answer_sound doKvWrite_sound h
  | kvShare => exact answer_sound doKvShare_sound h
  | kvRelease => exact answer_sound doKvRelease_sound h
  | kvTruncate => exact answer_sound doKvTruncate_sound h
  | kvInit => exact always_sound doKvInitWrite_sound h
  | decodeWindowClose => exact answer_sound doDecodeWindowClose_sound h
  | frameStart => exact answer_sound doFrameStart_sound h
  | longPacket => exact answer_sound doLongPacket_sound h
  | frameEnd => exact answer_sound doFrameEnd_sound h
  | embeddedData => exact answer_sound doEmbeddedData_sound h
  | frameTimeout => exact answer_sound doFrameTimeout_sound h
  | lossOfLock => exact answer_sound doLossOfLock_sound h
  | lockAcquired => exact answer_sound doLockAcquired_sound h
  | sensStreamTimeout => exact answer_sound doSensStreamTimeout_sound h
  | triggerRequest => exact answer_sound doTriggerRequest_sound h
  | triggerSend => exact answer_sound doTriggerSend_sound h
  | pen => exact answer_sound doPen_sound h
  | clr => exact answer_sound doClr_sound h
  | rampEnd => exact answer_sound doRampEnd_sound h
  | pocShort => exact answer_sound doPocShort_sound h
  | pocOverload => exact answer_sound doPocOverload_sound h
  | openLoad => exact answer_sound doOpenLoad_sound h
  | dischargeEnd => exact answer_sound doDischargeEnd_sound h
  | pocMeasurement => exact answer_sound doPocMeasurement_sound h
  | ethFrame => exact answer_sound doEthInput_sound h
  | ethLink => exact answer_sound doEthLink_sound h
  | weirDrop => exact answer_sound doWeirDrop_sound h
  | lineGroupAdmission => exact answer_sound doLineGroupAdmission_sound h
  | stripeReady => exact answer_sound doStripeReady_sound h
  | frameCloseEmit => exact answer_sound doFrameCloseEmit_sound h
  | viewEnable => exact answer_sound doViewEnable_sound h
  | meshLoad => exact always_sound doMeshLoad_sound h
  | lidarBlock => exact answer_sound doLidarBlock_sound h
  | lidarEnable => exact answer_sound doLidarEnable_sound h
  | recordCapture => exact always_sound doRecordCapture_sound h
  | recordingResume => exact always_sound doRecordingResume_sound h
  | recordRelease => exact always_sound doRecordRelease_sound h
  | dcResync => exact answer_sound doDcResync_sound h
  | replayStarved => exact always_sound doReplayStarved_sound h
  | rdReady => exact answer_sound doRdReady_sound h
  | dtCfg => exact answer_sound doDtCfg_sound h
  | windowEnable => exact answer_sound doWindowEnable_sound h
  | pieceArrival => exact always_sound doPieceArrival_sound h
  | dataTurn => exact answer_sound doDataTurn_sound h
  | normalServe => exact answer_sound doNormalServe_sound h
  | refTurn => exact answer_sound doRefTurn_sound h
  | trrTurn => exact answer_sound doTrrTurn_sound h
  | scrubTurn => exact answer_sound doScrubTurn_sound h
  | hbmLinkRetry => exact answer_sound doHbmLinkRetry_sound h
  | hbmTempRead => exact answer_sound doHbmTempRead_sound h
  | srenter => exact always_sound doSrenter_sound h
  | srexit => exact always_sound doSrexit_sound h
  | hbmGo => exact answer_sound doGo_sound h
  | hbCal => exact answer_sound doHbCal_sound h
  | hbPaircls => exact answer_sound doHbPaircls_sound h
  | timeTick => exact absurd rfl other
  | setTime => exact always_sound doSet_sound h
  | adjTime => exact always_sound doAdj_sound h
  | incCommit => exact always_sound doIncCommit_sound h
  | tbSecLo => exact always_sound doTbSecLo_sound h
  | refsrc => exact always_sound doRefsrc_sound h
  | ppsEdge => exact answer_sound doPpsInput_sound h
  | syncMessage => exact answer_sound doSyncMessage_sound h
  | referenceTimeout => exact always_sound doReferenceTimeout_sound h
  | launchGo => exact answer_sound doLaunchGo_sound h
  | launchSend => exact answer_sound doLaunchFrame_sound h
  | stns => exact answer_sound doStns_sound h
  | timeFiring => exact answer_sound doTimeFiring_sound h
  | azimuthFiring => exact answer_sound doAzimuthFiring_sound h
  | lineFiring => exact answer_sound doLineFiring_sound h
  | stripeFiring => exact answer_sound doStripeFiring_sound h
  | predictFiring => exact answer_sound doPredictFiring_sound h
  | fallback => exact answer_sound doFallback_sound h
  | heldStepStart => exact answer_sound doHeldStepStart_sound h
  | gaugeEnable => exact answer_sound doGaugeEnable_sound h
  | flitReceive => exact answer_sound doFlitReceive_sound h
  | nak => exact answer_sound doNak_sound h
  | portEnable => exact answer_sound doPortEnable_sound h
  | byp => exact answer_sound doByp_sound h
  | trainResult => exact answer_sound doTrainResult_sound h
  | retrain => exact answer_sound doRetrain_sound h
  | packetHop => exact always_sound doPacketHop_sound h
  | writePacket => exact answer_sound doWritePacket_sound h
  | wack => exact answer_sound doWack_sound h
  | wnak => exact answer_sound doWnak_sound h
  | rtoExpiry => exact answer_sound doRtoExpiry_sound h
  | confirm => exact answer_sound doConfirm_sound h
  | retract => exact answer_sound doRetract_sound h
  | ownChecks => exact answer_sound doOwnChecksAll_sound h
  | epochTimeout => exact answer_sound doEpochTimeout_sound h
  | arm => exact answer_sound doArm_sound h
  | jobAbort => exact answer_sound doJobAbort_sound h
  | abortMessage => exact answer_sound doAbortMessage_sound h
  | quietExpiry => exact answer_sound doQuietExpiry_sound h
  | faultMessage => exact answer_sound doFaultMessage_sound h
  | keepAlive => exact answer_sound doKeepAlive_sound h
  | fcAck => exact always_sound doFcAck_sound h
  | ackDeadline => exact answer_sound doAckDeadline_sound h
  | fcFence => exact answer_sound doFenceCmd_sound h
  | returnToService => exact answer_sound doReturnToService_sound h
  | fcSev => exact answer_sound doFcSev_sound h
  | towpathReport => exact always_sound doTowpathReport_sound h
  | historyWrite => exact always_sound doHistoryWrite_sound h
  | operatingHours => exact always_sound doOperatingHours_sound h
  | release => exact answer_sound doRelease_sound h
  | releaseDeadline => exact answer_sound doReleaseDeadline_sound h
  | safetyRequest => exact answer_sound doSafetyRequest_sound h
  | pinMonitor => exact always_sound doPinMonitor_sound h
  | safePin => exact always_sound doSafePin_sound h
  | ksGo => exact always_sound doKsGo_sound h
  | ksClear => exact always_sound doKsClear_sound h
  | ksEnter => exact always_sound doKsEnter_sound h
  | outputEnable => exact answer_sound doOutputEnable_sound h
  | footbridgeRun => exact always_sound doFootbridgeRun_sound h
  | footbridgeRunEnd => exact always_sound doFootbridgeRunEnd_sound h
  | fbFault => exact answer_sound doFbFault_sound h
  | knownAnswerRun => exact always_sound doKnownAnswerRun_sound h
  | selectRelease => exact answer_sound doSelectRelease_sound h
  | selectTimeout => exact always_sound doSelectTimeout_sound h
  | sspiNop => exact always_sound doSspiNop_sound h
  | alive => exact always_sound doAlive_sound h
  | reqsafe => exact always_sound doReqsafe_sound h
  | spiHeartbeatTimeout => exact always_sound doSpiHeartbeatTimeout_sound h
  | selftestSlot => exact answer_sound doSelftestSlot_sound h
  | selftestComplete => exact answer_sound doSelftestComplete_sound h
  | selftestOverdue => exact answer_sound doSelftestOverdue_sound h
  | cmdTimeout => exact answer_sound doCmdTimeout_sound h
  | clusterReset => exact answer_sound doClusterReset_sound h
  | regionReset => exact answer_sound doRegionReset_sound h
  | dieReset => exact answer_sound doDieReset_sound h
  | hubSubblockReset => exact answer_sound doHubReset_sound h
  | resetEscalation => exact answer_sound doResetEscalation_sound h
  | packageHalt => exact always_sound doPackageHalt_sound h
  | packageReset => exact always_sound doPackageReset_sound h
  | pkgRstN => exact always_sound doPkgRstN_sound h
  | rcCluster => exact answer_sound doRcCluster_sound h
  | rcRegion => exact answer_sound doRcRegion_sound h
  | rcDie => exact answer_sound doRcDie_sound h
  | rcHub => exact answer_sound doRcHub_sound h
  | rcPackage => exact answer_sound doRcPackage_sound h
  | rcDump => exact answer_sound doRcDump_sound h
  | reExecution => exact answer_sound doReExecution_sound h
  | lockstep => exact answer_sound doLockstep_sound h
  | mgKick => exact answer_sound doMgKick_sound h
  | pairWatchdog => exact answer_sound doPairWatchdog_sound h
  | pairResetEnd => exact answer_sound doPairResetEnd_sound h
  | pairTestEnd => exact answer_sound doPairTestEnd_sound h
  | mgtWdog => exact always_sound doMgtWdog_sound h
  | mwdrstReset => exact always_sound doMwdrstReset_sound h
  | shedWindow => exact answer_sound doShedWindow_sound h
  | telemetry => exact always_sound doTelemetry_sound h
  | spanref => exact always_sound doSpanref_sound h
  | dumpmove => exact always_sound doDumpmove_sound h
  | read => exact answer_sound doRead_sound h
  | attest => exact answer_sound doAttest_sound h
  | cert => exact answer_sound doCert_sound h
  | challenge => exact answer_sound doChallenge_sound h
  | write => exact answer_sound doWrite_sound h
  | ack => exact answer_sound doAck_sound h
  | towpathReset => exact answer_sound doTowpathReset_sound h
  | cfgwrite => exact answer_sound doCfgwrite_sound h
  | dumpread => exact answer_sound doDumpread_sound h
  | fwchunk => exact answer_sound doFwchunk_sound h
  | fwcommit => exact answer_sound doFwcommit_sound h
  | svnbump => exact answer_sound doSvnbump_sound h
  | histclear => exact answer_sound doHistclear_sound h
  | ownerkey => exact answer_sound doOwnerkey_sound h
  | mbGo => exact always_sound doMbGo_sound h
  | pwOpreq => exact answer_sound doPwOpreq_sound h
  | opPointChange => exact answer_sound doOpPointChange_sound h
  | powerUp => exact always_sound doPowerUp_sound h
  | chargeTimeout => exact always_sound doChargeTimeout_sound h
  | vinUv => exact answer_sound doVinUv_sound h
  | powerFail => exact answer_sound doPowerFail_sound h
  | vinOv => exact answer_sound doVinOv_sound h
  | disconnect => exact answer_sound doDisconnect_sound h
  | stretchWindow => exact always_sound doStretchWindow_sound h
  | pointLowering => exact answer_sound doPointLowering_sound h
  | dieHot => exact answer_sound doDieHot_sound h
  | dieOvertemp => exact answer_sound doDieOvertemp_sound h
  | standbyEntry => exact always_sound doStandbyEntry_sound h
  | standbyExit => exact always_sound doStandbyExit_sound h
  | regionGating => exact answer_sound doRegionGating_sound h
  | clkMon => exact answer_sound doClkMon_sound h
  | oscFail => exact answer_sound doOscFail_sound h
  | clkOsc => exact always_sound doClkOsc_sound h
  | vrFault => exact answer_sound doVrFault_sound h
  | fmapRead => exact answer_sound doFmapRead_sound h
  | apCntclr => exact answer_sound doApCntclr_sound h
  | lpCntclr => exact answer_sound doLpCntclr_sound h
  | wrClr => exact always_sound doWrClr_sound h
  | tbCntclr => exact always_sound doTbCntclr_sound h
  | lqCntclr => exact answer_sound doLqCntclr_sound h
  | gaCntclr => exact answer_sound doGaCntclr_sound h
  | vdCntclr => exact always_sound doVdCntclr_sound h
  | vpCntclr => exact answer_sound doVpCntclr_sound h
  | ssCntclr => exact always_sound doSsCntclr_sound h
  | twCntclr => exact always_sound doTwCntclr_sound h
  | registerWrite => exact answer_sound doRegisterWrite_sound h
  | hostTransferComplete => exact answer_sound doHostTransferComplete_sound h
  | pcieLinkUp => exact always_sound doPcieLinkUp_sound h
  | ethLinkUp => exact answer_sound doEthLinkUp_sound h
  | selectFallingEdge => exact answer_sound doSelectFallingEdge_sound h
  | vinUvClear => exact answer_sound doVinUvClear_sound h
  | dieHotClear => exact answer_sound doDieHotClear_sound h
  | opRequestTimeout => exact answer_sound doOpRequestTimeout_sound h
  | wnakResend => exact answer_sound doWnakResend_sound h
  | receiverEnable => exact answer_sound doReceiverEnable_sound h
  | pinthWrite => exact always_sound doPinthWrite_sound h

/-- What every command keeps, whatever the clock. -/
theorem exec_sound_but_clock {i : Instr} {s t : State} (h : exec i s = .next t) : ∃ n, Sound { s with ticks := n } t := by
  by_cases tick : i = .timeTick
  · subst tick
    cases h
    exact ⟨_, doTimeTick_sound (.refl s)⟩
  · exact ⟨s.ticks, exec_sound tick h⟩

/-- What every step keeps of the state whose first command is taken off, whatever the clock. -/
theorem step_sound_but_clock {s t : State} (h : step s = .next t) :
    ∃ n, Sound { s with pending := s.pending.tail, ticks := n } t := by
  unfold step at h
  split at h
  next idle =>
    cases h
    have queue : s.pending = s.pending.tail := by rw [idle]; rfl
    exact ⟨s.ticks, (Sound.refl { s with pending := s.pending.tail }).same queue rfl rfl rfl rfl⟩
  next i r front =>
    rw [front]
    exact exec_sound_but_clock h

theorem Sound.formed {b t : State} (k : Sound b t) (h : b.formed = true) : t.formed = true := by
  obtain ⟨memory, marks⟩ := Bool.and_eq_true_iff.1 h
  exact Bool.and_eq_true_iff.2 ⟨k.memory memory, k.marks marks⟩

/-- Settles O55: what a step keeps, read off for the form, the queue and the free values. -/
theorem stepKeepsTheMemoryForm : Obligations.StepKeepsTheMemoryForm := by
  unfold Obligations.StepKeepsTheMemoryForm
  intro s t formed h
  obtain ⟨n, kept⟩ := step_sound_but_clock h
  exact ⟨kept.formed formed, kept.queue, kept.fresh⟩

end Sys2Proof.Machine
end

section
/-! PROOFS. Outbound copies, multicast pulls and service accesses (O13). -/

namespace Sys2Proof.Machine

/-! ### Outbound copies -/

/-- R266: a copy to a memory of the module whose bytes were read writes them; outside strict time its tag clears in the
c-cycle of completion. -/
theorem doOutboundComplete_clears {s u : State} {c tag n : Nat} {e : CopyJob} {d : CopyDesc} (caughtUp : s.catchUp c n = u)
    (found : u.copyOf c tag = some e) (desc : e.desc = some d) (outbound : e.inbound = false) (sent : e.sent = true)
    (undone : e.doneAt = 0) (plain : d.kind = 0) (near : e.remote = none) (clear : u.copyWaits c e = false)
    (up : u.irqUp = true) (onTime : max n (e.lastRead + 1) ≤ e.deadline) :
    let v := (u.outWrite c d e.rows e.comp).updCopy c e.order
      (fun x => { x with landed := true, doneAt := max n (e.lastRead + 1) })
    v.strict = false → doOutboundComplete c tag n s = v.outTag c (max n (e.lastRead + 1)) e := by
  intro v lax
  have noKv : ¬ d.kind = 3 := by rw [plain]; decide
  have late : ¬ e.deadline < max n (e.lastRead + 1) := Nat.not_lt.2 onTime
  rw [doOutboundComplete, caughtUp]
  simp only [found, desc]
  rw [if_neg (by simp [outbound, sent, undone, clear, near, noKv, up])]
  simp only [if_neg noKv, if_neg late]
  exact if_pos (by rw [lax]; rfl)

/-! ### Multicast pulls -/

/-- The clusters that carry the home clusters of a mask (R269). -/
def State.maskMembers (s : State) (mask : Nat) : List (Option Nat) :=
  ((upTo 64).filter (fun h => bitOf mask h)).map s.hostOf

/-- An empty mask, or one with a home cluster that no cluster carries. -/
theorem doMcastPull_unhosted {s : State} {mask : Nat} (unhosted : s.maskMembers mask = [] ∨ none ∈ s.maskMembers mask)
    (ok : Bool) (host : List Byte) : doMcastPull mask ok host s = s :=
  if_pos (unhosted.imp List.isEmpty_iff.2 fun absent => List.any_eq_true.2 ⟨none, absent, rfl⟩)

/-- The only copy of a cluster is its first multicast pull, with this mask and the descriptor fields of `d`, and the hub has not
read it (R269). -/
def State.awaits (s : State) (mask : Nat) (d : CopyDesc) (x : Nat × CopyJob) : Prop :=
  (s.cl x.1).cp.jobs = [x.2] ∧ x.2.mcNo = 1 ∧ x.2.sent = false
    ∧ ∃ y, x.2.desc = some y ∧ y.kind = 1 ∧ y.mask = mask ∧ y.mcKey = d.mcKey

/-- The pull of a cluster that MCAST_PULL looks for: the one with number n + 1. -/
def State.mcastCopy (s : State) (mask k n : Nat) : Option CopyJob :=
  (s.cl k).cp.jobs.find? (fun e => decide (e.mcNo = n + 1) && !e.sent
    && (match e.desc with | some d => decide (d.kind = 1 ∧ d.mask = mask) | none => false))

theorem State.mcastCopy_first {s : State} {mask : Nat} {d : CopyDesc} {x : Nat × CopyJob} (member : s.awaits mask d x) :
    s.mcastCopy mask x.1 0 = some x.2 := by
  obtain ⟨only, first, unread, y, desc, kind, same, -⟩ := member
  rw [State.mcastCopy, only]
  exact List.find?_cons_of_pos (by simp [first, unread, desc, kind, same])

theorem State.copyWaits_only {s : State} {mask : Nat} {d : CopyDesc} {x : Nat × CopyJob} (member : s.awaits mask d x) :
    s.copyWaits x.1 x.2 = false := by
  obtain ⟨only, -⟩ := member
  simp [State.copyWaits, only]

/-- Members that agree in their descriptors (R269). -/
theorem State.keys_agree {s : State} {mask : Nat} {d : CopyDesc} {l : List (Nat × CopyJob)}
    (await : ∀ x ∈ l, s.awaits mask d x) :
    (l.map (fun x => x.2.desc.map (fun y => y.mcKey))).all (fun y => y = some d.mcKey) = true := by
  refine List.all_eq_true.2 (List.forall_mem_map.2 fun x hx => ?_)
  obtain ⟨-, -, -, y, its, -, -, key⟩ := await x hx
  simp [its, key]

/-- Looking up the values of a list of pairs by their indexes gives the list. -/
theorem gather_of_lookup {l : List (Nat × CopyJob)} {f : Nat → Option CopyJob} (h : ∀ x ∈ l, f x.1 = some x.2) :
    (l.map Prod.fst).filterMap (fun k => (f k).map (fun e => (k, e))) = l := by
  induction l with
  | nil => rfl
  | cons x l ih =>
    obtain ⟨here, there⟩ := List.forall_mem_cons.1 h
    simp [here, ih there]

/-- R269: where every cluster of the mask has issued the pull, the hub reads its source once, and every member gets the same
data. -/
theorem doMcastPull_reads {s : State} {mask c : Nat} {ok : Bool} {host : List Byte} {e : CopyJob} {d : CopyDesc}
    {es : List (Nat × CopyJob)} (members : s.maskMembers mask = some c :: es.map (fun x => some x.1)) (desc : e.desc = some d)
    (live : s.mode ≠ 2) (await : ∀ x ∈ (c, e) :: es, s.awaits mask d x) :
    let r := s.pullData c d ok host
    doMcastPull mask ok host s = ((c, e) :: es).foldl (fun (u : State) x =>
      let v := u.updCopy x.1 x.2.order (fun j => { j with sent := true, rows := r.1, comp := r.2.1 })
      if r.2.2.1 then v else v.send x.1 0x26 x.2.addr true (v.ctxsOfCluster x.1)) r.2.2.2 := by
  intro r
  have hosted : ¬ ((s.maskMembers mask).isEmpty = true ∨ (s.maskMembers mask).any (fun k => k.isNone) = true) := by
    simp [members]
  unfold doMcastPull
  extract_lets hosts ks mine
  refine (if_neg hosted).trans ?_
  have names : ks = ((c, e) :: es).map Prod.fst :=
    (congrArg (List.filterMap id) members).trans (by simp [List.filterMap_map])
  have copies : ∀ x ∈ (c, e) :: es, mine x.1 0 = some x.2 := fun x hx => State.mcastCopy_first (await x hx)
  clear_value mine ks hosts
  subst names
  obtain ⟨only, first, -, -⟩ := await (c, e) List.mem_cons_self
  have bound : (s.cl ((((c, e) :: es).map Prod.fst).headD 0)).cp.jobs.foldl (fun a e => max a e.mcNo) 0 = 1 := by
    simpa [only] using first
  have found : (upTo 1).find? (fun n => (((c, e) :: es).map Prod.fst).all (fun k => (mine k n).isSome)) = some 0 := by
    refine List.find?_cons_of_pos (List.all_eq_true.2 (List.forall_mem_map.2 fun x hx => ?_))
    rw [copies x hx]
    rfl
  have free : ((c, e) :: es).any (fun x => s.copyWaits x.1 x.2) = false :=
    List.any_eq_false.2 fun x hx => ne_true_of_eq_false (State.copyWaits_only (await x hx))
  have gathered := gather_of_lookup (f := fun k => mine k 0) copies
  simp only [bound, found, gathered, free, desc, State.pullHost_live live, State.keys_agree await]
  rfl

/-! ### Service accesses -/

/-- Both nibbles of a byte written are the byte. -/
theorem mergeNibs_byteNibs (m : List Byte) (i : Nat) (b : Byte) (r : List (Nat × Nat)) :
    mergeNibs m (byteNibs i b.toNat ++ r) = mergeNibs (m.set i b) r := by
  have even : 2 * i / 2 = i := by omega
  have odd : (2 * i + 1) / 2 = i := by omega
  have upper : ¬ (2 * i + 1) % 2 = 0 := by omega
  simp only [byteNibs, List.cons_append, List.nil_append, mergeNibs, even, odd, Nat.mul_mod_right, if_true,
    if_neg upper, List.set_set]
  congr 1
  by_cases h : i < m.length
  · congr 1
    apply BitVec.eq_of_toNat_eq
    have := b.isLt
    simp [List.getD_eq_getElem?_getD, h]
    omega
  · rw [List.set_eq_of_length_le (by omega), List.set_eq_of_length_le (by omega)]

/-- The nibbles of bytes that lie from offset o of a word on. -/
def wordNibs (bs : List Byte) (o : Nat) : List (Nat × Nat) :=
  (bs.zip (List.range' o bs.length)).flatMap (fun b => byteNibs b.2 b.1.toNat)

theorem mergeNibs_wordNibs (p q bs : List Byte) (same : q.length = bs.length) :
    mergeNibs (p ++ q) (wordNibs bs p.length) = p ++ bs := by
  induction bs generalizing p q with
  | nil => simp [List.length_eq_zero_iff.1 same, wordNibs, mergeNibs]
  | cons b bs ih =>
    cases q with
    | nil => simp at same
    | cons y q =>
      have := ih (p ++ [b]) q (by simpa using same)
      simpa [wordNibs, List.range'_succ, mergeNibs_byteNibs] using this

/-- R249: accounting leaves the memories alone. -/
theorem State.mem_noteFinds (s : State) (c w : Nat) (l : List (Nat × Finding × Gran)) : (s.noteFinds c w l).mem = s.mem := by
  unfold State.noteFinds
  split
  · rfl
  · refine List.foldlRecOn (motive := fun (t : State) => t.mem = s.mem) l _ rfl fun t same x _ => ?_
    split
    · split
      · exact same
      · dsimp only
        split
        · split <;> exact same
        · exact same
    · exact same

theorem State.bytes_length (s : State) (a n : Nat) : (s.bytes a n).length = n := by
  simp [State.bytes, upTo]

/-- R246: a write of all bytes of a word. -/
theorem State.byte_writeWord_whole (s : State) (c w x : Nat) {bs : List Byte} (whole : bs.length = 32) (carry : List Nat) :
    (s.writeWord c w (wordNibs bs 0) carry).byte x =
      if clKey c (32 * w) ≤ x ∧ x < clKey c (32 * w) + 32 then bs.getD (x - clKey c (32 * w)) 0 else s.byte x := by
  have merged : mergeNibs (s.bytes (clKey c (32 * w)) 32) (wordNibs bs 0) = bs :=
    mergeNibs_wordNibs [] _ bs ((s.bytes_length ..).trans whole.symm)
  have mem : (s.writeWord c w (wordNibs bs 0) carry).mem = memWrites s.mem (clKey c (32 * w)) bs :=
    (State.mem_noteFinds ..).trans (congrArg (memWrites s.mem _) merged)
  rw [State.byte, mem, memRead_memWrites, whole]
  rfl

/-- R271: a service write of a cluster at rest. -/
theorem doServiceAccess_write {s : State} {c w : Nat} (rest : (s.cl c).seq.st ≠ .running) {bs : List Byte}
    (whole : bs.length = 32) : doServiceAccess c w (some bs) s = s.writeWord c w (wordNibs bs 0) [] := by
  rw [doServiceAccess, if_neg rest, wordNibs, whole, ← List.range_eq_range']
  rfl

/-! ### The statement -/

/-- Two operands within their bounds. -/
theorem below_and_below {m n x y : Nat} (hx : x < m) (hy : y < n) : (below m x && below n y) = true :=
  Bool.and_eq_true_iff.2 ⟨decide_eq_true hx, decide_eq_true hy⟩

/-- Settles O13: each command by its equation; of a service write, the bytes of its word and all others. -/
theorem outboundMulticastAndService : Obligations.OutboundMulticastAndService := by
  unfold Obligations.OutboundMulticastAndService
  refine ⟨fun s c tag n e d hc htag => ?_, fun s mask ok host hmask => ⟨fun unhosted => ?_, fun c e d es => ?_⟩,
    fun s c w hc hw rest => ⟨?_, fun bs whole => ?_⟩, fun s c hc => exec_clMemclr (wf_cluster hc)⟩
  · intro u m found desc outbound sent undone plain near clear up onTime v lax
    exact (exec_outboundComplete (below_and_below hc htag)).trans (congrArg Host.Outcome.next
      (doOutboundComplete_clears rfl found desc outbound sent undone plain near clear up onTime lax))
  · exact (exec_mcastPull (decide_eq_true hmask)).trans (congrArg Host.Outcome.next
      (doMcastPull_unhosted (unhosted.imp List.map_eq_nil_iff.2 List.mem_map.2) ok host))
  · intro members desc live await r
    exact (exec_mcastPull (decide_eq_true hmask)).trans (congrArg Host.Outcome.next
      (doMcastPull_reads members desc live await))
  · have wf : (below 64 c && below (2 ^ 17) w && isWordData none) = true :=
      Bool.and_eq_true_iff.2 ⟨below_and_below hc hw, rfl⟩
    exact (exec_serviceAccess wf).trans (congrArg Host.Outcome.next (if_neg rest))
  · have wf : (below 64 c && below (2 ^ 17) w && isWordData (some bs)) = true :=
      Bool.and_eq_true_iff.2 ⟨below_and_below hc hw, decide_eq_true whole⟩
    refine ⟨_, (exec_serviceAccess wf).trans (congrArg Host.Outcome.next (doServiceAccess_write rest whole)),
      fun i hi => ?_, fun a apart => ?_⟩
    · rw [s.byte_writeWord_whole c w _ whole, if_pos (by omega), Nat.add_sub_cancel_left]
    · rw [s.byte_writeWord_whole c w _ whole, if_neg (by omega)]

end Sys2Proof.Machine
end

section
/-! PROOFS. Control of the HBM controllers and the enables of windows (O27): each command by the registers and the fields of the
controller that it writes. -/

namespace Sys2Proof.Machine

/-! ### Temperatures -/

section
variable (s : State) (src kind addr : Nat) (was now : Bool)

@[simp] theorem State.level_regs : (s.level src kind addr was now).regs = s.regs := by unfold State.level; split <;> rfl
@[simp] theorem State.level_mem : (s.level src kind addr was now).mem = s.mem := by unfold State.level; split <;> rfl
@[simp] theorem State.level_clusters : (s.level src kind addr was now).clusters = s.clusters := by
  unfold State.level; split <;> rfl
@[simp] theorem State.level_hbm : (s.level src kind addr was now).hbm = s.hbm := by unfold State.level; split <;> rfl

/-- A message goes out where the condition changed. -/
theorem State.level_net_length :
    (s.level src kind addr was now).net.length = s.net.length + (if was = now then 0 else 1) := by
  unfold State.level
  split
  · rfl
  · exact List.length_append

end

theorem unsigned_lt (n : Nat) (x : Int) : unsigned n x < 2 ^ n := by
  have pos : (0 : Int) < 2 ^ n := Int.pow_pos (by decide)
  have := Int.emod_lt_of_pos x pos
  have := Int.emod_nonneg x (Int.ne_of_gt pos)
  have cast : ((2 ^ n : Nat) : Int) = 2 ^ n := by simp
  unfold unsigned
  omega

/-- R317: what a temperature read leaves. -/
theorem doHbmTempRead_shows (s : State) {st : Nat} (temp : Int) (hot : st < s.hbm.hot.length)
    (hotOver : st < s.hbm.hotOver.length) :
    let t := doHbmTempRead st temp s
    t.fld (regHbs st 0x14) 7 0 = (temp % 256).toNat
      ∧ t.hbm.hot.getD st false = decide (95 ≤ temp) ∧ t.hbm.hotOver.getD st false = decide (105 ≤ temp)
      ∧ t.net.length = s.net.length + (if s.hbm.hot.getD st false = decide (95 ≤ temp) then 0 else 1)
          + (if s.hbm.hotOver.getD st false = decide (105 ≤ temp) then 0 else 1)
      ∧ t.mem = s.mem ∧ t.clusters = s.clusters := by
  intro t
  let u := s.setFld (regHbs st 0x14) 7 0 (unsigned 8 temp)
  have regs : t.regs = u.regs := by simp [t, u, doHbmTempRead]
  have shown : t.fld (regHbs st 0x14) 7 0 = unsigned 8 temp := by
    rw [State.fld, State.reg, regs]
    exact (s.fld_setFld _ _ (by decide) (by decide)).trans (Nat.mod_eq_of_lt (unsigned_lt 8 temp))
  refine ⟨shown, ?_⟩
  simp [t, doHbmTempRead, State.setFld_eq, State.level_net_length, hot, hotOver]

/-! ### Self-refresh -/

theorem doSrenter_refused {s : State} (busy : s.allDisabled = false ∨ s.detMode ≠ 0) : doSrenter s = s.hbConfig 0 :=
  if_pos (by simpa using busy)

/-- The served aggressors of every pseudo-channel counted (R320). -/
def State.countServed (s : State) : State :=
  (upTo 64).foldl (fun (s : State) pc => s.setFld (regHbs (pc / 32) 0x10) 31 16 (s.fld (regHbs (pc / 32) 0x10) 31 16
    + ((s.hbm.aggrs.get pc []).length + (s.hbm.pends.get pc []).length))) s

theorem State.countServed_eq (s : State) : ∃ r, s.countServed = { s with regs := r } :=
  State.foldl_setReg_eq (fun pc => regHbs (pc / 32) 0x10) (fun u pc => BitVec.ofNat 32
    (putBits (u.reg (regHbs (pc / 32) 0x10)).toNat 31 16 (u.fld (regHbs (pc / 32) 0x10) 31 16
      + ((u.hbm.aggrs.get pc []).length + (u.hbm.pends.get pc []).length)))) _ s

/-- R320: self-refresh is entered, and nothing stays queued. -/
theorem doSrenter_enters {s : State} (disabled : s.allDisabled = true) (live : s.detMode = 0) (awake : s.selfRefresh = false) :
    let t := doSrenter s
    t.selfRefresh = true ∧ t.hbm.queues = ⟨[]⟩ ∧ t.hbm.acts = ⟨[]⟩ ∧ t.hbm.aggrs = ⟨[]⟩ ∧ t.hbm.pends = ⟨[]⟩ ∧ t.mem = s.mem
      ∧ t.net = s.net ∧ t.clusters = s.clusters := by
  obtain ⟨r, counted⟩ := s.countServed_eq
  have enters : doSrenter s = (let u := s.countServed
      { u with hbm := { u.hbm with queues := ⟨[]⟩, acts := ⟨[]⟩, aggrs := ⟨[]⟩, pends := ⟨[]⟩, opens := ⟨[]⟩ } }).setFld
        (regHb 4) 0 0 1 := by
    rw [doSrenter, if_neg (by simp [disabled, live]), awake]
    rfl
  rw [enters, counted]
  exact ⟨decide_eq_true (State.fld_setFld _ _ _ (by decide) (by decide)), rfl, rfl, rfl, rfl, rfl, rfl, rfl⟩

/-- R321: self-refresh ends, with the calendar as last written from position 0 on. -/
theorem doSrexit_leaves {s : State} (asleep : s.selfRefresh = true) :
    let t := doSrexit s
    t.selfRefresh = false ∧ t.fld (regHb 4) 15 10 = 0 ∧ t.hbm.cal = ⟨[]⟩ ∧ t.mem = s.mem ∧ t.clusters = s.clusters := by
  rw [doSrexit, if_pos asleep]
  have ended : ((s.setFld (regHb 4) 0 0 0).setFld (regHb 4) 15 10 0).fld (regHb 4) 0 0 = 0 :=
    (State.fld_setFld_disjoint _ _ _ (by decide) (by decide) (by decide) (.inr (by decide))).trans
      (State.fld_setFld _ _ _ (by decide) (by decide))
  refine ⟨?_, State.fld_setFld _ _ _ (by decide) (by decide), rfl, rfl, rfl⟩
  exact decide_eq_false fun still => absurd (still.symm.trans ended) (by decide)

/-! ### Verification -/

/-- HB_STAT.VOK brought up to date: set where both stacks passed (R319). -/
def State.vok (s : State) : State :=
  s.setFld (regHb 4) 1 1 (if s.fld (regHbs 0 0x20) 31 31 = 1 ∧ s.fld (regHbs 1 0x20) 31 31 = 1 then 1 else 0)

theorem regHb_ne_regHbs (st : Nat) : regHb 4 ≠ regHbs st 0x20 := by
  unfold regHb regHbs
  omega

theorem State.reg_vok (s : State) (st : Nat) : s.vok.reg (regHbs st 0x20) = s.reg (regHbs st 0x20) :=
  s.reg_setReg_ne _ (regHb_ne_regHbs st)

theorem State.fld_vok (s : State) {st : Nat} (hst : st < 2) : s.vok.fld (regHb 4) 1 1 =
    if s.fld (regHbs st 0x20) 31 31 = 1 ∧ s.fld (regHbs (1 - st) 0x20) 31 31 = 1 then 1 else 0 := by
  have both : (s.fld (regHbs 0 0x20) 31 31 = 1 ∧ s.fld (regHbs 1 0x20) 31 31 = 1) ↔
      (s.fld (regHbs st 0x20) 31 31 = 1 ∧ s.fld (regHbs (1 - st) 0x20) 31 31 = 1) := by
    obtain rfl | rfl : st = 0 ∨ st = 1 := by omega
    · rfl
    · exact and_comm
  rw [State.vok, State.fld_setFld _ _ _ (by decide) (by decide)]
  simp only [both]
  split <;> rfl

/-- A result of stack st, with the number of failures in a row (R319). -/
def State.verified (s : State) (st : Nat) (v : Word32) (n : Nat) : State :=
  { s.setReg (regHbs st 0x20) v with hbm := { s.hbm with badGo := s.hbm.badGo.set st n } }

theorem State.reg_verified (s : State) (st : Nat) (v : Word32) (n off : Nat) :
    (s.verified st v n).reg off = if regHbs st 0x20 = off then v else s.reg off := s.reg_setReg _ off v

theorem doGo_pass (s : State) (st : Nat) : doGo st none s = (s.verified st 0x80000000#32 0).vok := rfl

theorem doGo_fail (s : State) (st p : Nat) : doGo st (some p) s =
    (let n := s.hbm.badGo.getD st 0 + 1
     let u := s.verified st (BitVec.ofNat 32 (2 ^ 30 + p % 32 * 2 ^ 25)) n
     if 2 ≤ n then u.sendEv (0x380 + st) 0x41 0 else u).vok := rfl

/-- R319: a stack that passes. -/
theorem doGo_pass_shows (s : State) {st : Nat} (hst : st < 2) :
    let t := doGo st none s
    t.reg (regHbs st 0x20) = 0x80000000#32 ∧ (t.fld (regHb 4) 1 1 = 1 ↔ s.fld (regHbs (1 - st) 0x20) 31 31 = 1)
      ∧ t.net = s.net ∧ t.mem = s.mem := by
  have other : regHbs st 0x20 ≠ regHbs (1 - st) 0x20 := by
    unfold regHbs
    omega
  have passed : (s.verified st 0x80000000#32 0).fld (regHbs st 0x20) 31 31 = 1 := by
    rw [State.fld, s.reg_verified, if_pos rfl]
    decide
  have kept : (s.verified st 0x80000000#32 0).fld (regHbs (1 - st) 0x20) 31 31 = s.fld (regHbs (1 - st) 0x20) 31 31 := by
    rw [State.fld, s.reg_verified, if_neg other, State.fld]
  rw [doGo_pass]
  refine ⟨?_, ?_, rfl, rfl⟩
  · rw [State.reg_vok, s.reg_verified, if_pos rfl]
  · simp [State.fld_vok _ hst, passed, kept]

/-- R319: a stack that fails; the second failure in a row is reported. -/
theorem doGo_fail_shows (s : State) {st p : Nat} (hst : st < 2) (hp : p < 32) :
    let t := doGo st (some p) s
    t.reg (regHbs st 0x20) = BitVec.ofNat 32 (2 ^ 30 + p * 2 ^ 25) ∧ t.fld (regHb 4) 1 1 = 0
      ∧ t.net.length = s.net.length + (if s.hbm.badGo.getD st 0 = 0 then 0 else 1) ∧ t.mem = s.mem := by
  rw [doGo_fail, Nat.mod_eq_of_lt hp]
  extract_lets n u
  let w := if 2 ≤ n then u.sendEv (0x380 + st) 0x41 0 else u
  have written : w.reg (regHbs st 0x20) = BitVec.ofNat 32 (2 ^ 30 + p * 2 ^ 25) := by
    have regs : w.regs = u.regs := by
      unfold w
      split <;> rfl
    rw [State.reg, regs]
    exact (s.reg_verified ..).trans (if_pos rfl)
  have failed : w.fld (regHbs st 0x20) 31 31 = 0 := by
    rw [State.fld, written, BitVec.toNat_ofNat, bitsOf]
    omega
  have sent : w.net.length = s.net.length + (if s.hbm.badGo.getD st 0 = 0 then 0 else 1) := by
    unfold w n
    split
    next second => rw [if_neg (by omega)]; exact List.length_append
    next first => rw [if_pos (by omega)]; rfl
  have mem : w.mem = s.mem := by
    unfold w
    split <;> rfl
  refine ⟨(w.reg_vok st).trans written, ?_, sent, mem⟩
  rw [w.fld_vok hst, failed]
  rfl

/-! ### The calendar -/

theorem doHbCal_refused {s : State} {t : Nat} (refused : s.quiet = false ∨ calKind t ≠ 0) (v : Nat) :
    doHbCal t v s = s.hbConfig 0 := by
  refine if_neg ?_
  rcases refused with busy | fixed
  · simp [busy]
  · simp [fixed]

/-- Under strict time the entry in force at position t is kept aside before it is written over (R301). -/
def State.calHeld (s : State) (t : Nat) : State :=
  if s.strict && !s.hbm.cal.has t then
    { s with hbm := { s.hbm with cal := s.hbm.cal.set t (s.reg (regHb (0x100 + 4 * t))) } }
  else s

theorem State.calHeld_eq (s : State) (t : Nat) : ∃ h, s.calHeld t = { s with hbm := h } := by
  unfold State.calHeld
  split
  · exact ⟨_, rfl⟩
  · exact ⟨s.hbm, rfl⟩

theorem Table.get_of_has {α : Type} {t : Table α} {k : Nat} (h : t.has k = true) (d d' : α) : t.get k d = t.get k d' := by
  obtain ⟨v, listed⟩ := Option.isSome_iff_exists.1 h
  rw [Table.get, listed, Table.get, listed]
  rfl

theorem Table.get_of_not_has {α : Type} {t : Table α} {k : Nat} (h : t.has k = false) (d : α) : t.get k d = d := by
  rw [Table.get, Option.not_isSome_iff_eq_none.1 (ne_true_of_eq_false h)]
  rfl

/-- Whatever the register holds, the entry kept aside is the one that was in force. -/
theorem State.calHeld_entry {s : State} (strict : s.strict = true) (t : Nat) (v : Word32) :
    ((s.calHeld t).hbm.cal.get t v).toNat = s.calEntry t := by
  rw [State.calHeld, State.calEntry, strict, Bool.true_and]
  cases listed : s.hbm.cal.has t with
  | false =>
    rw [Table.get_of_not_has listed]
    exact congrArg BitVec.toNat (Table.get_set_same ..)
  | true => exact congrArg BitVec.toNat (Table.get_of_has listed ..)

/-- R301: an entry that quiet lets change. -/
theorem doHbCal_writes {s : State} (t v : Nat) (quiet : s.quiet = true) (free : calKind t = 0) :
    let u := doHbCal t v s
    u.fld (regHb (0x100 + 4 * t)) 3 0 = v % 16 ∧ (s.strict = true → u.calEntry t = s.calEntry t) ∧ u.mem = s.mem
      ∧ u.clusters = s.clusters := by
  have writes : doHbCal t v s = (s.calHeld t).setFld (regHb (0x100 + 4 * t)) 3 0 v := if_pos (by simp [quiet, free])
  obtain ⟨h, held⟩ := s.calHeld_eq t
  rw [writes]
  exact ⟨State.fld_setFld _ _ _ (by decide) (by decide), fun strict => s.calHeld_entry strict t _, by rw [held]; rfl,
    by rw [held]; rfl⟩

/-! ### Classes of bank pairs -/

/-- A write of v changes the class of pair i of register q (R298). -/
def State.classChanges (s : State) (q v i : Nat) : Prop :=
  bitsOf (s.reg (regHb (0x10 + 4 * q))).toNat (3 * i + 2) (3 * i) ≠ bitsOf v (3 * i + 2) (3 * i)

/-- Does a write of v change the class of a covered pair? -/
def State.changesCovered (s : State) (q v : Nat) : Bool :=
  (upTo 8).any (fun i => decide (bitsOf (s.reg (regHb (0x10 + 4 * q))).toNat (3 * i + 2) (3 * i)
    ≠ bitsOf (v % 2 ^ 24) (3 * i + 2) (3 * i)) && s.pairCovered (8 * q + i))

/-- The eight classes lie in the bits that the register holds. -/
theorem State.changesCovered_iff (s : State) (q v : Nat) : s.changesCovered q v = true ↔
    ∃ i, i < 8 ∧ s.classChanges q v i ∧ s.pairCovered (8 * q + i) = true := by
  simp only [State.changesCovered, upTo, List.any_eq_true, List.mem_range, Bool.and_eq_true, decide_eq_true_eq]
  refine exists_congr fun i => and_congr_right fun hi => ?_
  rw [bitsOf_mod v _ _ 24 (by omega) (by omega), State.classChanges]

theorem doHbPaircls_eq (s : State) (q v : Nat) : doHbPaircls q v s =
    if s.quiet && !s.changesCovered q v then s.setReg (regHb (0x10 + 4 * q)) (BitVec.ofNat 32 (v % 2 ^ 24))
    else s.hbConfig 0 := by
  rw [doHbPaircls, bitsOf_zero]
  rfl

theorem doHbPaircls_writes {s : State} {q v : Nat} (quiet : s.quiet = true)
    (free : ∀ i, i < 8 → s.classChanges q v i → s.pairCovered (8 * q + i) = false) :
    doHbPaircls q v s = s.setReg (regHb (0x10 + 4 * q)) (BitVec.ofNat 32 (v % 2 ^ 24)) := by
  have uncovered : s.changesCovered q v = false := by
    refine Bool.eq_false_iff.2 fun covered => ?_
    obtain ⟨i, hi, changes, covers⟩ := (s.changesCovered_iff q v).1 covered
    exact Bool.false_ne_true ((free i hi changes).symm.trans covers)
  rw [doHbPaircls_eq, quiet, uncovered]
  rfl

theorem doHbPaircls_refused {s : State} {q v : Nat}
    (refused : s.quiet = false ∨ ∃ i, i < 8 ∧ s.classChanges q v i ∧ s.pairCovered (8 * q + i) = true) :
    doHbPaircls q v s = s.hbConfig 0 := by
  rw [doHbPaircls_eq]
  refine if_neg ?_
  rcases refused with busy | covered
  · simp [busy]
  · simp [(s.changesCovered_iff q v).2 covered]

/-! ### Enables of windows -/

/-- The control register of window w of context c, and its enable bit: the HBM windows, and the hub-buffer window behind them. -/
def winReg (c w : Nat) : Nat := if w < 16 then regCtx c (0x300 + 0x10 * w + 0xC) else regCtx c 0x420
def winBit (w : Nat) : Nat := if w < 16 then 0 else 31

/-- The control register written, its window not enabled. -/
def State.winSet (s : State) (c w : Nat) (v : Word32) : State :=
  s.setReg (winReg c w) (if w < 16 then BitVec.ofNat 32 (bitsOf v.toNat 5 1 * 2)
    else BitVec.ofNat 32 (v.toNat % 2 ^ 31) &&& 0x01FF03FF#32)

/-- Does the window break a rule of R256? -/
def State.winBad (s : State) (c w : Nat) : Bool := if w < 16 then s.winRefused c w else s.hubWinRefused c

/-- R256: a write of the control register of a window of a disabled context. -/
theorem doWindowEnable_disabled {s : State} {c w : Nat} (v : Word32) (disabled : s.ctxState c = 0) (hw : w < 17) :
    doWindowEnable c w v s =
      if bitOf v.toNat (winBit w) then
        if s.fld (winReg c w) (winBit w) (winBit w) = 1 then s
        else if (s.winSet c w v).winBad c w then (s.winSet c w v).winErr c w
        else (s.winSet c w v).setFld (winReg c w) (winBit w) (winBit w) 1
      else s.winSet c w v := by
  rw [doWindowEnable, if_neg (not_not_intro disabled)]
  by_cases hbm : w < 16
  · simp only [State.winSet, State.winBad, winReg, winBit, if_pos hbm]
  · obtain rfl : w = 16 := by omega
    rfl

theorem doWindowEnable_enabled {s : State} {c : Nat} (enabled : s.ctxState c ≠ 0) (w : Nat) (v : Word32) :
    doWindowEnable c w v s = s := if_pos enabled

/-! ### The statement -/

/-- Settles O27: each command by what it leaves, or by its equation. -/
theorem hbmControlAndWindows : Obligations.HbmControlAndWindows := by
  unfold Obligations.HbmControlAndWindows
  refine fun s => ⟨fun st temp hst hot hotOver => ?_, fun busy => ?_, fun disabled live awake => ?_, fun asleep => ?_,
    fun st hst => ⟨?_, fun p hp => ?_⟩, fun t v ht hv => ⟨fun quiet free => ?_, fun refused => ?_⟩, fun q v hq hv => ?_,
    fun c w v hc hw => ?_⟩
  · exact ⟨_, exec_hbmTempRead (decide_eq_true hst), doHbmTempRead_shows s temp hot hotOver⟩
  · exact exec_srenter.trans (congrArg Host.Outcome.next (doSrenter_refused busy))
  · exact ⟨_, exec_srenter, doSrenter_enters disabled live awake⟩
  · exact ⟨_, exec_srexit, doSrexit_leaves asleep⟩
  · exact ⟨_, exec_hbmGo (by simp [Instr.wf, below, hst, isFailPc]), doGo_pass_shows s hst⟩
  · exact ⟨_, exec_hbmGo (by simp [Instr.wf, below, hst, hp, isFailPc]), doGo_fail_shows s hst hp⟩
  · exact ⟨_, exec_hbCal (below_and_below ht hv), doHbCal_writes t v quiet free⟩
  · exact (exec_hbCal (below_and_below ht hv)).trans (congrArg Host.Outcome.next (doHbCal_refused refused v))
  · intro changed
    have runs : exec (.hbPaircls q v) s = .next (doHbPaircls q v s) := exec_hbPaircls (below_and_below hq hv)
    exact ⟨fun quiet free => runs.trans (congrArg Host.Outcome.next (doHbPaircls_writes quiet free)),
      fun refused => runs.trans (congrArg Host.Outcome.next (doHbPaircls_refused refused))⟩
  · have runs : exec (.windowEnable c w v) s = .next (doWindowEnable c w v s) :=
      exec_windowEnable (below_and_below hc hw)
    refine ⟨fun enabled => runs.trans (congrArg Host.Outcome.next (doWindowEnable_enabled enabled w v)), ?_⟩
    intro off en t bad disabled
    rw [runs, doWindowEnable_disabled v disabled hw]
    refine ⟨fun clear => ?_, fun on was => ?_, fun on was => ?_⟩
    · exact congrArg Host.Outcome.next (if_neg (ne_true_of_eq_false clear))
    · exact congrArg Host.Outcome.next ((if_pos on).trans (if_pos was))
    · exact congrArg Host.Outcome.next ((if_pos on).trans (if_neg fun already => absurd (was.symm.trans already) (by decide)))

end Sys2Proof.Machine
end

section
/-! PROOFS. RUN and RD_READY (O18): a RUN that may start has its slot and bank judged, then its placement; one with a
placement enters the runs and is armed or takes its first step. The digest of an ended run decides its outcome, which takes it out of
the ends and the runs. -/

namespace Sys2Proof.Machine

/-! ### RUN, once its entry is found -/

/-- The RUN that a descriptor describes, on home clusters (Table 11.7). -/
def runOf (c seq : Nat) (d : List Byte) (homes : List Nat) : RunRec :=
  { ctx := c, seq := seq, slot := fieldAt d 8 1, bank := fieldAt d 9 1, standing := bitOf (fieldAt d 1 1) 2, homes := homes,
    entry := fieldAt d 10 1, args := (upTo 4).map (fun i => fieldAt d (16 + 4 * i) 4),
    res := (fieldAt d 32 8, fieldAt d 40 4), sc := (fieldAt d 48 8, fieldAt d 56 4),
    step := RunStep.idle, nextNo := 0, held := none, redo := [], begun := [] }

theorem runOf_of_empty {c seq : Nat} {d : List Byte} (homes : List Nat) (noResult : fieldAt d 40 4 = 0)
    (noScale : fieldAt d 56 4 = 0) :
    runOf c seq d homes = { runOf c seq d homes with res := (fieldAt d 32 8, 0), sc := (fieldAt d 48 8, 0) } := by
  simp only [runOf, noResult, noScale]

/-- The entry of a descriptor marked as started. -/
def State.markStarted (s : State) (c seq : Nat) : State := s.updEntry c seq (fun x => { x with started := true })

/-- A RUN entered: armed where it is STANDING; else its first step starts, or nothing happens where a cluster cannot take
it. -/
def State.enterRun (s : State) (r : RunRec) (horizon ref t : Nat) : State :=
  let u := { s with runs := s.runs ++ [r] }
  if r.standing then (u.markStarted r.ctx r.seq).reportPlacement r.ctx r.slot r.homes
  else
    let v := u.startStep r horizon ref t
    if v.1 then v.2.markStarted r.ctx r.seq else s

section
variable {s : State} {c seq : Nat} {e : JEntry} (found : s.entry c seq = some e) (typ : e.typ = 3)
  (start : s.mayStart e = true) (t : Nat)
include found typ start

theorem doRun_of_not_valid
    (invalid : s.slotState c (fieldAt e.desc 8 1) ≠ 1 ∨ s.bankState c (fieldAt e.desc 9 1) ≠ 1) :
    doRun c seq t s = s.status c seq 4 := by
  have ready : ¬ (e.typ ≠ 3 ∨ s.mayStart e = false) := by simp [typ, start]
  simp only [doRun, found, if_neg ready, if_pos invalid]

/-- R338: the checks of a RUN without result regions pass. -/
theorem doRun_of_placed {homes : List Nat} (slot : s.slotState c (fieldAt e.desc 8 1) = 1)
    (bank : s.bankState c (fieldAt e.desc 9 1) = 1) (noResult : fieldAt e.desc 40 4 = 0) (noScale : fieldAt e.desc 56 4 = 0)
    (picked : s.pickPlacement (s.slotHdr c (fieldAt e.desc 8 1)) = some homes) (mask : ∀ k ∈ homes, s.clMask c k = true)
    (placed : (s.placeSecs (entrySecs (s.slotHdr c (fieldAt e.desc 8 1)) (fieldAt e.desc 10 1)) homes).isSome = true)
    (named : fieldAt e.desc 10 1 = 0xFF ∨ fieldAt e.desc 10 1 < (s.slotHdr c (fieldAt e.desc 8 1)).nlc) :
    doRun c seq t s = s.enterRun (runOf c seq e.desc homes) ((s.capSeq e.cap).getD 0) e.stamp t := by
  have ready : ¬ (e.typ ≠ 3 ∨ s.mayStart e = false) := by simp [typ, start]
  have valid : ¬ (s.slotState c (fieldAt e.desc 8 1) ≠ 1 ∨ s.bankState c (fieldAt e.desc 9 1) ≠ 1) := by simp [slot, bank]
  have fits : ¬ (homes.any (fun k => !s.clMask c k)
      || (s.placeSecs (entrySecs (s.slotHdr c (fieldAt e.desc 8 1)) (fieldAt e.desc 10 1)) homes).isNone) = true := by
    simpa using ⟨mask, Option.isSome_iff_ne_none.1 placed⟩
  have entry : ¬ (fieldAt e.desc 10 1 ≠ 0xFF ∧ (s.slotHdr c (fieldAt e.desc 8 1)).nlc ≤ fieldAt e.desc 10 1) := by omega
  simp only [doRun, found, if_neg ready, if_neg valid, noResult, noScale, decide_true, Bool.true_or, Bool.and_self,
    Bool.not_true, Bool.false_eq_true, if_false, picked, if_neg fits, if_neg entry]
  simp only [State.enterRun, State.markStarted, runOf, noResult, noScale]

end

theorem State.enterRun_of_standing {r : RunRec} (standing : r.standing = true) (s : State) (horizon ref t : Nat) :
    s.enterRun r horizon ref t
      = (({ s with runs := s.runs ++ [r] } : State).markStarted r.ctx r.seq).reportPlacement r.ctx r.slot r.homes :=
  if_pos standing

theorem State.enterRun_of_started {r : RunRec} {s v : State} {horizon ref t : Nat} (now : r.standing = false)
    (started : ({ s with runs := s.runs ++ [r] } : State).startStep r horizon ref t = (true, v)) :
    s.enterRun r horizon ref t = v.markStarted r.ctx r.seq := by
  simp only [State.enterRun, now, Bool.false_eq_true, if_false, started, if_true]

/-! ### RD_READY -/

/-- The state without a RUN and without the end of its run, as its outcome leaves it (R342). -/
def State.runDone (s : State) (c seq no : Nat) : State :=
  { s with
    host := { s.host with ends := s.host.ends.filter (fun x => ¬ (x.ctx = c ∧ x.seq = seq ∧ x.no = no)) }
    runs := s.runs.filter (fun r => ¬ (r.ctx = c ∧ r.seq = seq)) }

theorem State.finishEnd_of_host {s : State} {e : StepEnd} (ready : e.hashing = false) (host : e.standing = false)
    (shut : s.epochOpen e.ctx e.slot e.no = false) :
    s.finishEnd e = (s.runDone e.ctx e.seq e.no).done1 e.ctx e.seq 0 e.flags e.rd 0 := by
  simp only [State.finishEnd, ready, host, shut, Bool.false_eq_true, if_false, Bool.not_false, if_true, State.runDone]

section
variable {s : State} {e : StepEnd} (only : s.host.ends = [e])
include only

theorem State.ends_runDone : (s.runDone e.ctx e.seq e.no).host.ends = [] := by simp [State.runDone, only]

theorem State.runDone_of_same_end {d : StepEnd} (ctx : d.ctx = e.ctx) (seq : d.seq = e.seq) (no : d.no = e.no) :
    ({ s with host := { s.host with ends := [d] } } : State).runDone e.ctx e.seq e.no = s.runDone e.ctx e.seq e.no := by
  simp [State.runDone, only, ctx, seq, no]

/-- R293, R342: the digest of the only end, of a RUN of the host. -/
theorem doRdReady_of_host {r q : List (Byte × Bool)} (hashing : e.hashing = true) (host : e.standing = false)
    (shut : s.epochOpen e.ctx e.slot e.no = false) (result : s.regionBytes e.ctx e.res.1 e.res.2 = (r, s))
    (scale : s.regionBytes e.ctx e.sc.1 e.sc.2 = (q, s)) :
    doRdReady e.ctx e.seq e.no s = (s.runDone e.ctx e.seq e.no).done1 e.ctx e.seq 0 (e.flags + 64)
      (s.rdOf e.ctx (s.image e.ctx e.slot).digest (s.image e.ctx (16 + e.bank)).digest e.horizon
        ((r ++ q).map (fun x => x.1))) 0 := by
  have waits : s.host.ends.find?
      (fun x => decide (x.ctx = e.ctx) && decide (x.seq = e.seq) && decide (x.no = e.no) && x.hashing) = some e := by
    simp [only, hashing]
  simp only [doRdReady, waits, result, scale]
  simp only [only, List.map_cons, List.map_nil, and_self, if_true]
  rw [State.finishEnd_of_host]
  · exact congrArg (fun u : State => u.done1 e.ctx e.seq 0 (e.flags + 64) _ 0) (State.runDone_of_same_end only rfl rfl rfl)
  · rfl
  · exact host
  · exact shut

end

/-! ### The statement -/

/-- Settles O18: a RUN by its checks and what entering it does, its end by the outcome that the digest decides. -/
theorem runsOfAContext : Obligations.RunsOfAContext := by
  unfold Obligations.RunsOfAContext
  intro s c seq hc hseq
  have wf := below_entry hc hseq
  refine ⟨?_, ?_, ?_⟩
  · intro e t homes found typ start f h slot bank noResult noScale picked mask placed named r u started
    have same : runOf c seq e.desc homes = r := runOf_of_empty homes noResult noScale
    have entered := doRun_of_placed found typ start t slot bank noResult noScale picked mask placed named
    rw [same] at entered
    rw [exec_run wf, entered]
    exact ⟨fun standing => congrArg Host.Outcome.next (State.enterRun_of_standing standing ..),
      fun v now took => congrArg Host.Outcome.next (State.enterRun_of_started now took)⟩
  · intro e t found typ start invalid
    rw [exec_run wf, doRun_of_not_valid found typ start t invalid]
  · rintro no e only rfl rfl rfl hashing host shut r q result scale
    exact ⟨s.runDone e.ctx e.seq e.no, (exec_rdReady wf).trans (congrArg Host.Outcome.next
      (doRdReady_of_host only hashing host shut result scale)), State.ends_runDone only, rfl, rfl, rfl⟩

end Sys2Proof.Machine
end

section
/-! PROOFS. The recorder (O25): which input is numbered next, what numbering does to the chain and what a store in the ring
leaves alone; then the decoder's judgement of the record at RRD, and the write condition of DT_CFG. -/

namespace Sys2Proof.Machine

/-! ### The order of captures (R285) -/

/-- Time, stream and capture number, in this order. -/
theorem Capture.before_eq_false_iff {a b : Capture} : a.before b = false ↔
    b.time < a.time ∨ b.time = a.time ∧ (b.stream < a.stream ∨ b.stream = a.stream ∧ b.id ≤ a.id) := by
  simp only [Capture.before, Bool.or_eq_false_iff, Bool.and_eq_false_iff, decide_eq_false_iff_not]
  omega

theorem Capture.before_self (a : Capture) : a.before a = false :=
  before_eq_false_iff.2 (.inr ⟨rfl, .inr ⟨rfl, Nat.le_refl _⟩⟩)

theorem Capture.before_asymm {a b : Capture} (h : a.before b = true) : b.before a = false := by
  have := mt before_eq_false_iff.2 (ne_false_of_eq_true h)
  rw [before_eq_false_iff]
  omega

theorem Capture.not_before_trans {a b c : Capture} (h : a.before b = false) (k : b.before c = false) :
    a.before c = false := by
  rw [before_eq_false_iff] at *
  omega

/-- Of captures that wait, one is next, and none comes before it. -/
theorem nextCapture_cons (a : Capture) (r : List Capture) :
    ∃ k, nextCapture (a :: r) = some k ∧ k ∈ a :: r ∧ ∀ x ∈ a :: r, x.before k = false := by
  induction r generalizing a with
  | nil => exact ⟨a, rfl, List.mem_cons_self, fun x hx => by rw [List.mem_singleton.1 hx, a.before_self]⟩
  | cons b r ih =>
    obtain ⟨k, next, mem, least⟩ := ih b
    by_cases earlier : k.before a = true
    · refine ⟨k, ?_, List.mem_cons_of_mem a mem, List.forall_mem_cons.2 ⟨Capture.before_asymm earlier, least⟩⟩
      rw [nextCapture, next]
      exact congrArg some (if_pos earlier)
    · refine ⟨a, ?_, List.mem_cons_self, List.forall_mem_cons.2 ⟨a.before_self, fun x hx =>
        Capture.not_before_trans (least x hx) (Bool.eq_false_iff.2 earlier)⟩⟩
      rw [nextCapture, next]
      exact congrArg some (if_neg earlier)

theorem nextCapture_of_ne_nil {l : List Capture} (waits : l ≠ []) :
    ∃ k, nextCapture l = some k ∧ k ∈ l ∧ ∀ x ∈ l, x.before k = false := by
  cases l with
  | nil => exact absurd rfl waits
  | cons a r => exact nextCapture_cons a r

/-! ### A store in the ring -/

/-- What a store in the ring leaves alone: the recorder and the clusters. -/
structure RingFrame (s t : State) : Prop where
  rcd : t.rcd = s.rcd
  clusters : t.clusters = s.clusters

namespace RingFrame

theorem refl (s : State) : RingFrame s s := ⟨rfl, rfl⟩

theorem trans {s t u : State} (h : RingFrame s t) (k : RingFrame t u) : RingFrame s u :=
  ⟨k.rcd.trans h.rcd, k.clusters.trans h.clusters⟩

theorem foldl {α : Type} {f : State → α → State} {l : List α} {s u : State} (h : ∀ t x, RingFrame t (f t x))
    (start : RingFrame s u) : RingFrame s (l.foldl f u) :=
  List.foldlRecOn (motive := RingFrame s) l f start fun t same x _ => same.trans (h t x)

end RingFrame

theorem State.hbNote_ringFrame (s : State) (off : Nat) (l : List (Nat × Finding × Gran)) :
    RingFrame s (s.hbNote off l) := by
  unfold State.hbNote
  split
  · exact .refl s
  · dsimp only
    refine RingFrame.foldl (fun t x => ?_) ⟨rfl, rfl⟩
    split
    · split
      · exact .refl t
      · split
        · split <;> exact ⟨rfl, rfl⟩
        · exact ⟨rfl, rfl⟩
    · exact .refl t

theorem State.hubNote_ringFrame (s : State) (space off : Nat) (l : List (Nat × Finding × Gran)) :
    RingFrame s (s.hubNote space off l) := by
  unfold State.hubNote
  refine RingFrame.foldl (fun t x => ?_) (.refl s)
  split
  · split <;> exact ⟨rfl, rfl⟩
  · exact .refl t

theorem State.unitNote_ringFrame (s : State) (space off : Nat) (l : List (Nat × Finding × Gran)) :
    RingFrame s (s.unitNote space off l) := by
  unfold State.unitNote
  split
  · exact s.hbNote_ringFrame off l
  · split
    · exact s.hubNote_ringFrame space off l
    · exact .refl s

theorem State.hubPut_ringFrame (s : State) (space off : Nat) (bs : List Byte) : RingFrame s (s.hubPut space off bs) := by
  unfold State.hubPut State.hubWrite
  refine RingFrame.foldl (fun t u => ?_) (.refl s)
  refine RingFrame.trans ?_ (State.unitNote_ringFrame ..)
  split <;> exact ⟨rfl, rfl⟩

theorem State.ringPut_ringFrame (s : State) (bs : List Byte) : RingFrame s (s.ringPut bs) :=
  have put := ({ s with actor := [s.ringCtx] } : State).hubPut_ringFrame 0 (s.ringBase + s.rwr) bs
  ⟨put.rcd, put.clusters⟩

theorem State.ringStore_ringFrame (s : State) (x : List Byte) : RingFrame s (s.ringStore x).2 := by
  unfold State.ringStore
  dsimp only
  split
  · exact .refl s
  · refine RingFrame.trans ?_ (State.ringPut_ringFrame ..)
    split
    · exact .refl s
    · split
      · exact ⟨rfl, rfl⟩
      · exact State.ringPut_ringFrame ..

/-! ### Numbering -/

/-- What storing a numbered record leaves alone: the waiting captures, the numbers, the chain and the clusters. -/
structure ChainFrame (s t : State) : Prop where
  waiting : t.rcd.waiting = s.rcd.waiting
  next : t.rcd.next = s.rcd.next
  chain : t.rcd.chain = s.rcd.chain
  hist : t.rcd.hist = s.rcd.hist
  clusters : t.clusters = s.clusters

theorem ChainFrame.refl (s : State) : ChainFrame s s := ⟨rfl, rfl, rfl, rfl, rfl⟩

theorem RingFrame.chainFrame {s t : State} (h : RingFrame s t) : ChainFrame s t :=
  ⟨congrArg RecSt.waiting h.rcd, congrArg RecSt.next h.rcd, congrArg RecSt.chain h.rcd,
    congrArg RecSt.hist h.rcd, h.clusters⟩

/-- R285, R286, R291: the chain goes on over a record, whether it is stored, lost or passed over. -/
theorem State.numberRecord_chainFrame (s : State) (cap stream typ time : Nat) (payload : List Byte) :
    ChainFrame (s.chainRecord cap stream time (recordBytes stream typ s.rcd.next time payload))
      (s.numberRecord cap stream typ time payload) := by
  unfold State.numberRecord
  extract_lets n x u
  have kept : ChainFrame u (u.ringStore x).2 := (u.ringStore_ringFrame x).chainFrame
  by_cases live : u.mode ≠ 1
  · rw [if_pos live]
    exact .refl u
  · rw [if_neg live]
    cases stored : u.ringStore x with
    | mk fits v =>
      rw [stored] at kept
      cases lost : u.rcd.lost with
      | some gap => exact ⟨rfl, rfl, rfl, rfl, rfl⟩
      | none =>
        cases fits with
        | true => exact kept
        | false => exact ⟨kept.waiting, kept.next, kept.chain, kept.hist, kept.clusters⟩

theorem State.numberRecord_live {s : State} (live : s.mode ≠ 1) (cap stream typ time : Nat) (payload : List Byte) :
    s.numberRecord cap stream typ time payload
      = s.chainRecord cap stream time (recordBytes stream typ s.rcd.next time payload) := if_pos live

/-- The model's choice in log entry 9. -/
theorem doRecordCapture_of_nil {s : State} (idle : s.rcd.waiting = []) : doRecordCapture s = s := by
  simp only [doRecordCapture, idle, nextCapture]

theorem doRecordCapture_of_next {s : State} {k : Capture} (next : nextCapture s.rcd.waiting = some k) :
    let u := { s with rcd := { s.rcd with waiting := s.rcd.waiting.filter (fun x => x.id ≠ k.id) } }
    doRecordCapture s = u.numberRecord k.id k.stream k.typ k.time k.payload := by
  simp only [doRecordCapture, next]

/-- R286: 256 KiB are free. -/
theorem doRecordingResume_of_free {s : State} {a b : Nat} (lost : s.rcd.lost = some (a, b)) (record : s.mode = 1)
    (free : 2 ^ 18 ≤ s.ringFree) :
    doRecordingResume s = ({ s with rcd := { s.rcd with lost := none, nextId := s.rcd.nextId + 1 } } : State).numberRecord
      s.rcd.nextId 0xFFFF 0xF0 s.now (leBytes 8 a ++ leBytes 8 b) := by
  simp only [doRecordingResume, lost, if_pos (And.intro record free)]

/-! ### The decoder (Table 13.4) -/

/-- In replay and in sync, the whole record at RRD lies in the ring, with header h: the wait for it comes before
the checks (log entry 119). -/
structure State.Presents (s : State) (h : OxHdr) : Prop where
  head : oxHdr s.rrd (s.ringLook s.rrd 40) = h
  replay : s.mode = 2
  sync : s.fld (regDc 0) 3 3 = 0
  fits : s.rrd + 48 ≤ s.ringSize
  header : 48 ≤ s.ringAvail s.rrd
  whole : h.len ≤ s.ringAvail s.rrd

theorem any_take_eq_false {α : Type} {p : α → Bool} {l : List α} (clean : l.any p = false) {n : Nat} :
    (l.take n).any p = false :=
  List.any_eq_false.2 fun x hx => List.any_eq_false.1 clean x (List.mem_of_mem_take hx)

/-- The model's choice in log entry 9. -/
theorem doRecordRelease_idle {s : State} (idle : s.mode ≠ 2 ∨ s.fld (regDc 0) 3 3 = 1) : doRecordRelease s = s :=
  if_pos idle

section
variable {s : State} {h : OxHdr} (p : s.Presents h)
include p

theorem State.Presents.live : ¬ (s.mode ≠ 2 ∨ s.fld (regDc 0) 3 3 = 1) := by simp [p.replay, p.sync]

theorem State.Presents.in_place : ¬ (s.rrd ≠ s.rwr ∧ s.rrd < s.ringSize ∧ s.ringSize - s.rrd < 48) := by
  have := p.fits
  omega

theorem State.Presents.there : ¬ (s.ringAvail s.rrd < 48 ∨ s.ringAvail s.rrd < h.len) := by
  have := p.header
  have := p.whole
  omega

/-- Check 1. -/
theorem doRecordRelease_of_bad_len (bad : s.lenOk h = false) : doRecordRelease s = s.syncLoss := by
  simp only [doRecordRelease, if_neg p.live, if_neg p.in_place, p.head, if_neg p.there, bad, Bool.not_false, if_true]

section
variable {xs : List (Byte × Bool)} {v : State} (len : s.lenOk h = true)
  (read : ({ s with actor := [s.ringCtx] } : State).hubRead 0 (s.ringBase + s.rrd) h.len = (xs, v))
  (clean : xs.any (fun b => b.2) = false)
include len read clean

/-- Check 2. -/
theorem doRecordRelease_of_bad_crc (bad : crcOk (xs.map (fun b => b.1)) = false) :
    doRecordRelease s = ({ v with actor := [] } : State).recSkip h.len 1 0x61 := by
  simp only [doRecordRelease, if_neg p.live, if_neg p.in_place, p.head, if_neg p.there, len, read, clean,
    any_take_eq_false clean, bad, Bool.not_false, Bool.not_true, Bool.or_true, Bool.false_eq_true, if_false, if_true]

section
variable (crc : crcOk (xs.map (fun b => b.1)) = true)
include crc

/-- Check 3. -/
theorem doRecordRelease_of_bad_form (bad : formOk h (xs.map (fun b => b.1)) = false) :
    doRecordRelease s = ({ v with actor := [] } : State).recSkip h.len 2 0x62 := by
  simp only [doRecordRelease, if_neg p.live, if_neg p.in_place, p.head, if_neg p.there, len, read, clean,
    any_take_eq_false clean, crc, bad, Bool.not_false, Bool.not_true, Bool.or_self, Bool.false_eq_true, if_false, if_true]

/-- R381: a good record that is neither a PAD nor an old one, when it is due and can be taken. -/
theorem doRecordRelease_of_good {cause : Option Nat} (form : formOk h (xs.map (fun b => b.1)) = true)
    (record : h.typ ≠ 0xFE) (new : ({ v with actor := [] } : State).rcd.expect.getD h.seq ≤ h.seq)
    (due : ({ v with actor := [] } : State).paced h.time = true)
    (taken : ({ v with actor := [] } : State).takes h (xs.map (fun b => b.1)) = .known cause) :
    doRecordRelease s = ({ v with actor := [] } : State).releaseRec h (xs.map (fun b => b.1)) cause := by
  simp only [doRecordRelease, if_neg p.live, if_neg p.in_place, p.head, if_neg p.there, len, read, clean,
    any_take_eq_false clean, crc, form, if_neg record, if_neg (Nat.not_lt.2 new), due, taken, Bool.not_true, Bool.or_self,
    Bool.false_eq_true, if_false]

end
end
end

/-- R380: the decoder finds the next record at an offset that software names. -/
theorem doDcResync_of_lost {s : State} {off : Nat} (aligned : off % 8 = 0) (lost : s.fld (regDc 0) 3 3 = 1) :
    doDcResync off s = (s.setReg (regDt 0x18) (BitVec.ofNat 32 off)).setFld (regDc 0) 3 3 0 :=
  if_neg (by omega)

/-- R295: said once a wait. -/
theorem doReplayStarved_of_late {s : State} {t : Nat} (starved : s.rcd.starved = some t) (replay : s.mode = 2)
    (late : t + ticksPerMs < s.ticks) (unsaid : s.rcd.starveSent = false) :
    doReplayStarved s = ({ s with rcd := { s.rcd with starveSent := true } } : State).sendEv 0xA00 0x33 0 := by
  simp only [doReplayStarved, starved, if_pos (And.intro replay (And.intro late unsaid))]

/-! ### DT_CFG (R278) -/

/-- MODE lies below the mask of DT_CFG. -/
theorem mode_masked (v : Word32) : bitsOf (v &&& 0xF).toNat 2 1 = bitsOf v.toNat 2 1 := by
  have masked : (v &&& 0xF).toNat = v.toNat % 2 ^ 4 := by
    rw [BitVec.toNat_and]
    exact Nat.and_two_pow_sub_one_eq_mod v.toNat 4
  rw [masked, bitsOf_mod _ _ _ _ (by decide) (by decide)]

theorem doDtCfg_refused {s : State} {v : Word32} (busy : (s.ctxsOff && s.clustersOff) = false)
    (change : s.reg (regDt 0) ≠ v &&& 0xF) : doDtCfg 0 v s = s.dtRefuse := by
  have mask : ¬ (0xF : Word32) = 0 := by decide
  simp only [doDtCfg, if_true, if_neg mask, busy, Bool.not_false, if_neg change]

/-- R278: a field of the ring is written while everything is off. -/
theorem doDtCfg_ring {s : State} (off : (s.ctxsOff && s.clustersOff) = true) (v : Word32) :
    doDtCfg 8 v s = s.setReg (regDt 8) (v &&& 0xFFFF0000)
      ∧ doDtCfg 0x10 v s = s.setReg (regDt 0x10) (v &&& 0xFF00FFFF) := by
  constructor <;> simp [doDtCfg, off]

/-- R285: a session starts; replay draws its first time (log entry 31). -/
theorem doDtCfg_starts {s : State} {v : Word32} (off : (s.ctxsOff && s.clustersOff) = true)
    (mode : bitsOf v.toNat 2 1 ≠ 3) (ring : bitsOf v.toNat 2 1 ≠ 0 → s.ringOk = true) :
    ∃ time drawn, doDtCfg 0 v s = { s.setReg (regDt 0) (v &&& 0xF) with
      rcd := { RecSt.reset with nextId := s.rcd.nextId }, replayTime := time, hostBytes := [], freeCount := drawn } := by
  have mask : ¬ (0xF : Word32) = 0 := by decide
  have accepted : ¬ (bitsOf v.toNat 2 1 = 3 ∨ (bitsOf v.toNat 2 1 = 1 ∨ bitsOf v.toNat 2 1 = 2) ∧ s.ringOk = false) := by
    rintro (three | ⟨one | two, bad⟩)
    · exact mode three
    · exact ne_true_of_eq_false bad (ring (by omega))
    · exact ne_true_of_eq_false bad (ring (by omega))
  simp only [doDtCfg, if_true, if_neg mask, off, Bool.not_true, Bool.false_eq_true, if_false, ne_eq, not_true, mode_masked,
    if_neg accepted]
  split
  · exact ⟨_, _, rfl⟩
  · exact ⟨_, _, rfl⟩

/-! ### The statement -/

/-- Settles O25: numbering by the capture that is next, the decoder by the checks of the record at RRD, DT_CFG by its
conditions. -/
theorem recorderAndReplay : Obligations.RecorderAndReplay := by
  unfold Obligations.RecorderAndReplay
  refine fun s => ⟨fun empty => ?_, fun waits => ?_, fun a b lost record free => ?_, fun idle => ?_, ?_,
    fun off hoff aligned lost => ?_, fun t starved replay late unsaid => ?_, fun v busy change => ?_,
    fun v off mode ring => ?_, fun v off => ⟨?_, ?_⟩⟩
  · exact exec_recordCapture.trans (congrArg Host.Outcome.next (doRecordCapture_of_nil empty))
  · obtain ⟨k, next, mem, least⟩ := nextCapture_of_ne_nil waits
    let u : State := { s with rcd := { s.rcd with waiting := s.rcd.waiting.filter (fun x => x.id ≠ k.id) } }
    obtain ⟨waiting, number, chain, hist, clusters⟩ := u.numberRecord_chainFrame k.id k.stream k.typ k.time k.payload
    refine ⟨_, k, exec_recordCapture.trans (congrArg Host.Outcome.next (doRecordCapture_of_next next)), mem, least, waiting,
      number, chain, ?_, clusters, fun live => ?_⟩
    · rw [hist, chain]
      rfl
    · rw [u.numberRecord_live live]
      exact ⟨rfl, rfl⟩
  · exact exec_recordingResume.trans (congrArg Host.Outcome.next (doRecordingResume_of_free lost record free))
  · exact exec_recordRelease.trans (congrArg Host.Outcome.next (doRecordRelease_idle idle))
  · intro h r u x replay sync fits header whole
    have p : s.Presents h := ⟨rfl, replay, sync, fits, header, whole⟩
    have read : ({ s with actor := [s.ringCtx] } : State).hubRead 0 (s.ringBase + s.rrd) h.len = r := rfl
    clear_value r
    obtain ⟨xs, v⟩ := r
    rw [exec_recordRelease]
    refine ⟨fun bad => congrArg Host.Outcome.next (doRecordRelease_of_bad_len p bad), fun len clean =>
      ⟨fun bad => ?_, fun crc bad => ?_, fun v crc form record new due taken => ?_⟩⟩
    · exact congrArg Host.Outcome.next (doRecordRelease_of_bad_crc p len read clean bad)
    · exact congrArg Host.Outcome.next (doRecordRelease_of_bad_form p len read clean crc bad)
    · exact congrArg Host.Outcome.next (doRecordRelease_of_good p len read clean crc form record new due taken)
  · exact (exec_dcResync (decide_eq_true hoff)).trans (congrArg Host.Outcome.next (doDcResync_of_lost aligned lost))
  · exact exec_replayStarved.trans (congrArg Host.Outcome.next (doReplayStarved_of_late starved replay late unsaid))
  · exact (exec_dtCfg rfl).trans (congrArg Host.Outcome.next (doDtCfg_refused busy change))
  · obtain ⟨time, drawn, starts⟩ := doDtCfg_starts off mode ring
    exact ⟨_, (exec_dtCfg rfl).trans (congrArg Host.Outcome.next starts), State.reg_setReg_same .., rfl, rfl,
      fun off other => State.reg_setReg_ne _ _ other.symm, rfl, rfl⟩
  · exact (exec_dtCfg rfl).trans (congrArg Host.Outcome.next (doDtCfg_ring off v).1)
  · exact (exec_dtCfg rfl).trans (congrArg Host.Outcome.next (doDtCfg_ring off v).2)

end Sys2Proof.Machine
end

section
/-! PROOFS. The turns of the HBM controller (O26), refuted. The class of a bank pair lies in HB_PAIRCLS, but the statement takes
any number for the bank of a queued piece. The pair of bank 0x4004 has the place of its class in HBS_TRR of stack 0, which
changes within the turn where an activate on an earlier pseudo-channel enters an aggressor. -/

namespace Sys2Proof.Machine

/-- The oldest piece of pseudo-channel 0: its activate reaches the threshold and is an aggressor. -/
def hammerPiece : HbPiece := ⟨0, 0, 0, 0, 1, false, 1, 0, 0⟩

/-- The oldest piece of pseudo-channel 1, at a bank that no stack has. -/
def strayPiece : HbPiece := ⟨1, 0x4004, 0, 0, 1, false, 1, 0, 0⟩

/-- Strict time, position 63 for reads of class 0, every pair of class 0, and a threshold of 0: both pieces arrived before
the selection point. -/
def strayTurn : State :=
  { (((State.reset.setReg (regDt 0) 1).setReg (regHb (0x100 + 4 * 63)) 0).setReg (regHb 0x10) 0).setReg (regHb 0) 0 with
    hbm := { Hbm.reset with nextNo := 2, curNo := 2, queues := ⟨[(0, [hammerPiece]), (1, [strayPiece])]⟩ } }

/-- At the start of the turn the stray piece has the class of the turn. -/
theorem strayTurn_candidates : (strayTurn.hbQueue 1).filter (fun p => decide (p.no < strayTurn.hbm.curNo)
    && (p.write == bitOf ((strayTurn.turnStart 63).calEntry 63) 3)
    && decide (strayTurn.pairCls (p.bank / 2) = bitsOf ((strayTurn.turnStart 63).calEntry 63) 2 0)) = [strayPiece] := by
  decide +kernel

/-- The aggressor of pseudo-channel 0 raises HBS_TRR[15:8] to 1, so bits 8 to 6, the class of the stray piece, read 4, and the
turn leaves it in its queue. -/
theorem strayTurn_leaves : (doDataTurn 63 strayTurn).hbQueue 1 = [strayPiece] := by decide +kernel

/-- Refutes O26: the data turn of `strayTurn` does not take the piece that the statement says it takes, since the class of
its bank pair changes while the turn serves pseudo-channel 0. No address of the HBM lies in such a bank. -/
theorem not_hbmTurns : ¬ Obligations.HbmTurns := by
  unfold Obligations.HbmTurns
  intro h
  obtain ⟨-, turn, -⟩ := h strayTurn
  obtain ⟨u, runs, -, -, -, serves⟩ := turn 63 (by decide) (by decide +kernel) (by decide +kernel) (by decide)
  obtain ⟨-, takes⟩ := serves 1 (by decide)
  have taken : u.hbQueue 1 = [] := takes strayPiece [] (by decide +kernel) strayTurn_candidates
  have same : doDataTurn 63 strayTurn = u := Host.Outcome.next.inj ((exec_dataTurn (by decide)).symm.trans runs)
  rw [← same, strayTurn_leaves] at taken
  exact absurd taken (by decide)

end Sys2Proof.Machine
end

section
/-! PROOFS. Package halt (O45), refuted. The halt enters SAFE, which finishes the ended steps of every decision that waits; the
statement takes any number for the context of such a step. The state of context 0x310 has the place of Keystone's own state, so
where a RUN of it is done, the context becomes DISABLED and Keystone leaves SAFE for BOOT. -/

namespace Sys2Proof.Machine

/-! ### The parts of a halt (R523) -/

/-- Every running cluster stops. -/
def State.stopRunning (s : State) : State :=
  (upTo 64).foldl (fun (s : State) k =>
    if (s.cl k).seq.st = .running then
      (s.updSeq k (fun q => { q with st := .stopped, wait := .none, isOpen := false })).halt k else s) s

/-- Every job in RUN goes QUIET. -/
def State.quietAll (s : State) : State := (upTo 16).foldl (fun (s : State) j => s.jobQuiet j 9 none) s

/-- The work of context c is discarded, its RUNs and decisions go. -/
def State.haltCtx (s : State) (c : Nat) : State :=
  let s := s.discardAll c 4
  { s with runs := s.runs.filter (fun (r : RunRec) => r.ctx ≠ c), decs := s.decs.filter (fun (d : Decision) => d.ctx ≠ c) }.settle c

/-- The halt before its dump. -/
def State.haltWork (s : State) : State :=
  (upTo 256).foldl State.haltCtx (s.enterSafe s.rst.trigger.1 s.rst.trigger.2.1 1).stopRunning.quietAll

theorem State.haltPkg_eq (s : State) : s.haltPkg =
    if s.rst.halted then s
    else if ((s.haltWork.capturePkg 1).markHalted).fld (regRc 0) 0 0 = 1 then ((s.haltWork.capturePkg 1).markHalted).pkgBegin 4
    else (s.haltWork.capturePkg 1).markHalted := rfl

/-- A package dump and the HALT bit change two status registers alone. -/
theorem State.reg_markHalted_capturePkg (s : State) {off : Nat} (dump : regRc 4 ≠ off) (halt : regFc 4 ≠ off) :
    ((s.capturePkg 1).markHalted).reg off = s.reg off :=
  (State.reg_setReg_ne _ _ halt).trans (State.reg_setReg_ne _ _ dump)

/-! ### A halt where nothing runs -/

/-- No work is accepted, every context is DISABLED, no cluster runs and no job is in RUN. -/
structure State.AtRest (s : State) : Prop where
  journal : s.host.journal = []
  contexts : ∀ c, c < 256 → s.ctxState c = 0
  clusters : ∀ k, k < 64 → (s.cl k).seq.st ≠ .running
  jobs : ∀ j, j < 16 → s.jState j ≠ 1

/-- A fold whose steps change nothing. -/
theorem State.foldl_unchanged {α : Type} {f : State → α → State} {s : State} (l : List α) (same : ∀ x, x ∈ l → f s x = s) :
    l.foldl f s = s := by
  induction l with
  | nil => rfl
  | cons x l ih =>
    rw [List.foldl_cons, same x List.mem_cons_self]
    exact ih fun y hy => same y (List.mem_cons_of_mem x hy)

theorem State.stopRunning_of_atRest {s : State} (rest : s.AtRest) : s.stopRunning = s :=
  State.foldl_unchanged _ fun k hk => if_neg (rest.clusters k (List.mem_range.1 hk))

theorem State.quietAll_of_atRest {s : State} (rest : s.AtRest) : s.quietAll = s :=
  State.foldl_unchanged _ fun j hj => if_pos (rest.jobs j (List.mem_range.1 hj))

theorem State.settle_of_disabled {s : State} {c : Nat} (disabled : s.ctxState c = 0) : s.settle c = s :=
  if_neg (by simp [disabled])

theorem State.discardAll_of_journal_nil {s : State} (c cause : Nat) (empty : s.host.journal = []) : s.discardAll c cause = s := by
  simp [State.discardAll, State.undecided, State.entries, empty, State.discardList]

theorem State.haltCtx_of_disabled {s : State} {c : Nat} (empty : s.host.journal = []) (disabled : s.ctxState c = 0) :
    ∃ r d, s.haltCtx c = { s with runs := r, decs := d } := by
  rw [State.haltCtx, State.discardAll_of_journal_nil c 4 empty]
  exact ⟨_, _, State.settle_of_disabled disabled⟩

/-- The halt of contexts without work drops RUNs and decisions alone. -/
theorem State.foldl_haltCtx {s : State} (empty : s.host.journal = []) (l : List Nat) (disabled : ∀ c, c ∈ l → s.ctxState c = 0) :
    ∃ r d, l.foldl State.haltCtx s = { s with runs := r, decs := d } := by
  induction l generalizing s with
  | nil => exact ⟨s.runs, s.decs, rfl⟩
  | cons c l ih =>
    obtain ⟨r, d, eq⟩ := State.haltCtx_of_disabled empty (disabled c List.mem_cons_self)
    rw [List.foldl_cons, eq]
    exact ih empty fun x hx => disabled x (List.mem_cons_of_mem c hx)

/-- Where the entry to SAFE leaves nothing running, the registers stay as it left them up to the dump. -/
theorem State.reg_haltWork {s : State} (rest : (s.enterSafe s.rst.trigger.1 s.rst.trigger.2.1 1).AtRest) (off : Nat) :
    s.haltWork.reg off = (s.enterSafe s.rst.trigger.1 s.rst.trigger.2.1 1).reg off := by
  obtain ⟨r, d, dropped⟩ := State.foldl_haltCtx rest.journal (upTo 256) fun c hc => rest.contexts c (List.mem_range.1 hc)
  rw [State.haltWork, State.stopRunning_of_atRest rest, State.quietAll_of_atRest rest, dropped]
  rfl

/-- Then, with AUTORST clear, Keystone stays as the entry to SAFE left it. -/
theorem State.ks_haltPkg {s : State} (live : s.rst.halted = false)
    (rest : (s.enterSafe s.rst.trigger.1 s.rst.trigger.2.1 1).AtRest)
    (stays : (s.enterSafe s.rst.trigger.1 s.rst.trigger.2.1 1).fld (regRc 0) 0 0 = 0) :
    s.haltPkg.ks = (s.enterSafe s.rst.trigger.1 s.rst.trigger.2.1 1).ks := by
  have kept {off : Nat} (dump : regRc 4 ≠ off) (halt : regFc 4 ≠ off) :=
    (State.reg_markHalted_capturePkg s.haltWork dump halt).trans (State.reg_haltWork rest off)
  have manual : ((s.haltWork.capturePkg 1).markHalted).fld (regRc 0) 0 0 = 0 := by
    rw [State.fld, kept (by decide) (by decide)]
    exact stays
  rw [State.haltPkg_eq, if_neg (by simp [live]), if_neg (by simp [manual]), State.ks, State.fld, kept (by decide) (by decide),
    State.ks, State.fld]

/-! ### The statement -/

/-- An open record of severity 5. -/
def haltRecord : FaultRecord := ⟨0, 0, 5, 5, false, true, false, false, false, false, false, false, false, 0, 0, [], 0⟩

/-- Keystone in RUN with a decision that waits, for a RUN of context 0x310 that has ended. -/
def strayHalt : State :=
  { State.reset.setReg (regKs 4) 1 with
    decs := [⟨0, 0x310, 0, 0, 0, 0, 0, 0, none, [], [], false, false, 0⟩],
    host := { HostSt.reset with ends := [⟨0x310, 0, false, 0, 0, 0, false, [], (0, 0), (0, 0), 0, 0, false⟩] },
    fc := { FcSt.reset with recs := ⟨[(0, haltRecord)]⟩ } }

/-- The halt starts from the record. -/
def strayHaltSet : State := { strayHalt with rst := { strayHalt.rst with trigger := (0, 0, 0) } }

theorem doPackageHalt_strayHalt : doPackageHalt strayHalt = strayHaltSet.haltPkg := rfl

/-- What `enterSafe` leaves of it. -/
def straySafe : State := strayHaltSet.enterSafe 0 0 1

/-- The state of context 0x310 lies where Keystone's does: the RUN that is done takes it from 2, DRAINING and SAFE alike, to 0. -/
theorem straySafe_ks : straySafe.ks = 0 := by decide +kernel

/-- The registers that were written, all of Keystone. -/
theorem straySafe_regs : straySafe.regs.rows.map (fun e => e.1) = [regKs 4, regKs 0xC, regKso 0 0x2C] := by decide +kernel

theorem lookup_eq_none_of_not_mem {α : Type} {l : List (Nat × α)} {k : Nat} (absent : k ∉ l.map (fun e => e.1)) :
    lookup l k = none := by
  induction l with
  | nil => rfl
  | cons e l ih =>
    rw [List.map_cons, List.mem_cons, not_or] at absent
    obtain ⟨other, later⟩ := absent
    exact (if_neg (Ne.symm other)).trans (ih later)

/-- Below Keystone every register has its reset value. -/
theorem straySafe_reg {off : Nat} (below : off < regKs 0) : straySafe.reg off = State.reset.reg off := by
  have absent : off ∉ straySafe.regs.rows.map (fun e => e.1) := by
    rw [straySafe_regs]
    simp only [regKso, regKs, List.mem_cons, List.not_mem_nil, or_false] at below ⊢
    omega
  rw [State.reg, Table.get, lookup_eq_none_of_not_mem absent]
  rfl

theorem straySafe_atRest : straySafe.AtRest where
  journal := by decide +kernel
  contexts c hc := by
    rw [State.ctxState, State.fld, straySafe_reg (by unfold regCtx regKs; omega)]
    exact State.ctxState_reset hc
  clusters k _ := by
    have none : straySafe.clusters = State.reset.clusters := by decide +kernel
    rw [State.cl, none]
    exact SeqState.noConfusion
  jobs j hj := by
    rw [State.jState, State.fld, straySafe_reg (by unfold regJob regVd regKs; omega)]
    exact fun running => absurd ((State.jState_reset (Nat.lt_trans hj (by decide))).symm.trans running) (by decide)

/-- Refutes O45: the halt of `strayHalt` takes Keystone from RUN to SAFE and on to BOOT. There is no
context 0x310: the last is 255. -/
theorem not_packageResetAndHalt : ¬ Obligations.PackageResetAndHalt := by
  unfold Obligations.PackageResetAndHalt
  intro h
  obtain ⟨-, halts, -⟩ := h strayHalt
  obtain ⟨t, d, runs, -, -, safe, -⟩ := halts (0, haltRecord) List.mem_cons_self rfl rfl (by decide) rfl (by decide +kernel)
  have same : doPackageHalt strayHalt = t := Host.Outcome.next.inj (exec_packageHalt.symm.trans runs)
  have boot : t.ks = 0 := by
    rw [← same, doPackageHalt_strayHalt]
    exact (State.ks_haltPkg rfl straySafe_atRest (by decide +kernel)).trans straySafe_ks
  exact absurd (boot.symm.trans (safe (by decide +kernel))) (by decide)

end Sys2Proof.Machine
end

section
/-! PROOFS. Register writes (O58): the writes that go nowhere, the plain writes of clusters and the batcher, the command registers,
and the latched half of FMAP. -/

namespace Sys2Proof.Machine

/-! ### Where a write goes -/

/-- A block that takes writes: not the Span Table, nor on a dark die. -/
theorem State.not_closed {s : State} {off : Nat} (above : 0x100000 ≤ off) (lit : s.dieDark off = false) :
    ¬ (off < 0x100000 ∨ s.dieDark off = true) := by
  rw [lit, or_iff_left Bool.false_ne_true]
  exact Nat.not_lt.2 above

/-- R326: a write that the block of its register ignores. -/
theorem State.regWrite_ignored {s : State} {off : Nat} (aligned : off % 4 = 0) (closed : off < 0x100000 ∨ s.dieDark off = true)
    (v : Word32) : s.regWrite off v = s := by
  unfold State.regWrite
  rw [Nat.div_mul_cancel (Nat.dvd_of_mod_eq_zero aligned)]
  exact if_pos closed

/-- R588: the registers of clusters but CL_MEMCLR, and those of the batcher, take a plain write. -/
theorem State.regWrite_plain {s : State} {off : Nat} (aligned : off % 4 = 0) (above : 0x100000 ≤ off)
    (lit : s.dieDark off = false) (block : off < 0x140000 ∧ off % 0x1000 ≠ 0x208 ∨ 0x401000 ≤ off ∧ off < 0x402000)
    (v : Word32) : s.regWrite off v = s.plainWrite off v := by
  unfold State.regWrite
  rw [Nat.div_mul_cancel (Nat.dvd_of_mod_eq_zero aligned)]
  dsimp only
  rw [if_neg (State.not_closed above lit)]
  rcases block with ⟨cluster, other⟩ | ⟨low, high⟩
  · rw [if_pos cluster, if_neg other]
  · rw [if_neg (by omega), if_neg (by omega), if_neg (by omega), if_neg (by omega), if_neg (by omega), if_neg (by omega),
      if_pos high]

theorem State.plainWrite_unmapped {off : Nat} (unmapped : regRow off = none) (s : State) (v : Word32) :
    s.plainWrite off v = s := by
  rw [State.plainWrite, unmapped]

/-- Table 0.3: what a mapped register holds after a plain write. -/
def RegRow.written (r : RegRow) (old v : Word32) : Word32 :=
  ((old &&& ~~~ BitVec.ofNat 32 r.rw) ||| (v &&& BitVec.ofNat 32 r.rw)) &&& ~~~ (v &&& BitVec.ofNat 32 r.w1c)

theorem RegRow.getLsbD_written (r : RegRow) (old v : Word32) {i : Nat} (hi : i < 32) : (r.written old v).getLsbD i =
    (if r.w1c.testBit i then (if r.rw.testBit i then v.getLsbD i else old.getLsbD i) && !v.getLsbD i
      else if r.rw.testBit i then v.getLsbD i else old.getLsbD i) := by
  simp only [RegRow.written, BitVec.getLsbD_and, BitVec.getLsbD_or, BitVec.getLsbD_not, BitVec.getLsbD_ofNat, hi,
    decide_true, Bool.true_and]
  cases r.rw.testBit i <;> cases r.w1c.testBit i <;> simp

/-- A row without writable bits keeps what its register holds. -/
theorem RegRow.written_of_readOnly {r : RegRow} (rw : r.rw = 0) (w1c : r.w1c = 0) (old v : Word32) : r.written old v = old := by
  rw [RegRow.written, rw, w1c]
  simp only [BitVec.and_zero, BitVec.or_zero, BitVec.not_zero, BitVec.and_allOnes]

/-- A plain write changes the register table, and of it the register alone. -/
theorem State.plainWrite_mapped {off : Nat} {r : RegRow} (mapped : regRow off = some r) (s : State) (v : Word32) :
    ∃ w, s.plainWrite off v = { s with regs := w } ∧ (s.plainWrite off v).reg off = r.written (s.reg off) v
      ∧ ∀ o, o ≠ off → (s.plainWrite off v).reg o = s.reg o := by
  rw [State.plainWrite, mapped]
  dsimp only
  split
  · next readOnly => exact ⟨s.regs, rfl, (RegRow.written_of_readOnly readOnly.1 readOnly.2 ..).symm, fun _ _ => rfl⟩
  · exact ⟨_, rfl, State.reg_setReg_same .., fun o other => State.reg_setReg_ne _ _ other.symm⟩

/-! ### Command registers -/

section
variable (s : State) (v : Word32)

theorem State.regWrite_clMemclr {c : Nat} (hc : c < 64) (lit : s.dieDark (regCl c 0x208) = false) (clr : v.getLsbD 0 = true) :
    s.regWrite (regCl c 0x208) v = doClMemclr c s := by
  have off : regCl c 0x208 = 0x100000 + 0x1000 * c + 0x208 := rfl
  have cluster : (regCl c 0x208 - 0x100000) / 0x1000 = c := by omega
  unfold State.regWrite
  rw [Nat.div_mul_cancel (by omega)]
  dsimp only
  rw [if_neg (State.not_closed (by omega) lit), if_pos (by omega), if_pos (by omega), if_pos ((bitOf_toNat v 0).trans clr), cluster]

/-- A doorbell's block (Table 21.9). -/
theorem State.regWrite_doorbell {c o : Nat} (hc : c < 256) (bell : o = 0 ∨ o = 4) : s.regWrite (regDb c o) v =
    if o = 0 then doSqTail c (v.truncate 16) s else doCqHead c (v.truncate 16) s := by
  have off : regDb c o = 0x300000 + 0x1000 * c + o := rfl
  have ctx : (regDb c o - 0x300000) / 0x1000 = c := by omega
  have place : regDb c o % 0x1000 = o := by omega
  unfold State.regWrite
  rw [Nat.div_mul_cancel (by omega)]
  dsimp only
  rw [if_neg (State.not_closed (by omega) (dieDark_hub s _ (by omega))), if_neg (by omega), if_neg (by omega),
    if_neg (by omega), if_neg (by omega), if_pos (by omega), ctx, place]
  rcases bell with rfl | rfl <;> rfl

theorem State.regWrite_ctxCmd {c : Nat} (hc : c < 256) : s.regWrite (regCtx c 0) v = s.writeCtxCmd c (v.toNat % 8) := by
  have off : regCtx c 0 = 0x200000 + 0x1000 * c := rfl
  have ctx : (regCtx c 0 - 0x200000) / 0x1000 = c := by omega
  have place : regCtx c 0 % 0x1000 = 0 := by omega
  unfold State.regWrite
  rw [Nat.div_mul_cancel (by omega)]
  dsimp only
  rw [if_neg (State.not_closed (by omega) (dieDark_hub s _ (by omega))), if_neg (by omega), if_neg (by omega),
    if_neg (by omega), if_pos (by omega), ctx, place, State.writeCtx, if_pos rfl]
  exact congrArg (s.writeCtxCmd c) (bitsOf_zero v.toNat 2)

theorem State.regWrite_refsrc : s.regWrite (regTb 0) v = doRefsrc v s := rfl

theorem State.regWrite_fcAck : s.regWrite (regFc 8) v = doFcAck v s := rfl

theorem State.regWrite_ksCmd : s.regWrite (regKs 8) v = s.writeKsCmd v.toNat := rfl

theorem State.regWrite_rcCmd : s.regWrite (regRc 8) v = s.writeRcCmd v.toNat := rfl

end

/-! ### The second half of FMAP (R582) -/

theorem State.fmap_doFmapRead (s : State) (k typ : Nat) : (doFmapRead k s).fmap typ = s.fmap typ := rfl

theorem getD_spanBlocks {b : SpanBlock} {k : Nat} (block : spanBlocks[k]? = some b) (d : SpanBlock) :
    spanBlocks.getD k d = b := by
  rw [List.getD_eq_getElem?_getD, block, Option.getD_some]

theorem State.entryDword_6 {b : SpanBlock} {k : Nat} (block : spanBlocks[k]? = some b) (s : State) :
    s.entryDword k 6 = s.fmap b.typ % 2 ^ 32 := by
  rw [State.entryDword, getD_spanBlocks block]
  rfl

/-- The high half is what the last read of the low half latched. -/
theorem State.entryDword_7 (s : State) (k : Nat) : s.entryDword k 7 = s.mg.latch.get k 0 := rfl

theorem State.latch_doFmapRead (s : State) (k j : Nat) : (doFmapRead k s).mg.latch.get j 0 =
    if k = j then s.fmap (spanBlocks.getD k ⟨0, 0, 0, 0, 0, 0, 0⟩).typ / 2 ^ 32 else s.mg.latch.get j 0 := Table.get_set ..

/-! ### The statement -/

theorem exec_registerWrite_whole (s : State) (v : Word32) {off : Nat} (mapped : off < 2 ^ 23) (aligned : off % 4 = 0) :
    exec (.registerWrite off v true) s = .next (s.regWrite off v) := registerWrite_go off v true s mapped aligned

/-- Settles O58: where a write goes, what a plain write leaves, and which command a write of a command register is. -/
theorem registerAccess : Obligations.RegisterAccess := by
  unfold Obligations.RegisterAccess
  refine fun s v => ⟨fun off mapped aligned => ⟨registerWrite_go off v false s mapped aligned, fun closed => ?_,
    fun above lit block => ⟨fun unmapped => ?_, fun r row => ?_⟩⟩, fun c hc lit clr => ?_, fun c hc => ?_, ?_, ?_, ?_, ?_,
    fun k hk => ?_⟩
  · rw [exec_registerWrite_whole s v mapped aligned, State.regWrite_ignored aligned closed]
  · rw [exec_registerWrite_whole s v mapped aligned, State.regWrite_plain aligned above lit block,
      State.plainWrite_unmapped unmapped]
  · obtain ⟨w, table, written, others⟩ := State.plainWrite_mapped row s v
    refine ⟨s.plainWrite off v, ?_, fun i hi => ?_, others, ?_⟩
    · rw [exec_registerWrite_whole s v mapped aligned, State.regWrite_plain aligned above lit block]
    · rw [written, r.getLsbD_written _ _ hi]
    · rw [table]
      exact ⟨rfl, rfl, rfl, rfl⟩
  · have place : regCl c 0x208 = 0x100000 + 0x1000 * c + 0x208 := rfl
    rw [exec_registerWrite_whole s v (by omega) (by omega), s.regWrite_clMemclr v hc lit clr, exec_clMemclr (wf_cluster hc)]
  · have wf : below 256 c = true := decide_eq_true hc
    have bell {o : Nat} (named : o = 0 ∨ o = 4) := exec_registerWrite_whole s v (off := regDb c o)
      (by unfold regDb; omega) (by unfold regDb; omega)
    have command := exec_registerWrite_whole s v (off := regCtx c 0) (by unfold regCtx; omega) (by unfold regCtx; omega)
    rw [s.regWrite_ctxCmd v hc] at command
    refine ⟨?_, ?_, fun op => ?_, fun op => ?_, fun op => ?_, fun op => ?_⟩
    · exact (bell (.inl rfl)).trans (congrArg Host.Outcome.next (s.regWrite_doorbell v hc (.inl rfl)))
        |>.trans (exec_sqTail wf).symm
    · exact (bell (.inr rfl)).trans (congrArg Host.Outcome.next (s.regWrite_doorbell v hc (.inr rfl)))
        |>.trans (exec_cqHead wf).symm
    · exact (op ▸ command).trans (exec_enable wf).symm
    · exact (op ▸ command).trans (exec_disable wf).symm
    · exact (op ▸ command).trans (exec_abort wf).symm
    · exact (op ▸ command).trans (exec_contextReset wf).symm
  · rw [exec_registerWrite_whole s v (by decide) (by decide), s.regWrite_refsrc, exec_refsrc]
  · rw [exec_registerWrite_whole s v (by decide) (by decide), s.regWrite_fcAck, exec_fcAck]
  · intro key op
    rw [exec_registerWrite_whole s v (by decide) (by decide), s.regWrite_ksCmd, exec_ksGo]
    simp [State.writeKsCmd, key, op]
  · intro op
    have wf : (below (2 ^ 16) (bitsOf v.toNat 31 16) && below (2 ^ 12) (bitsOf v.toNat 11 0)) = true :=
      below_and_below (Nat.mod_lt _ (by decide)) (Nat.mod_lt _ (by decide))
    rw [exec_registerWrite_whole s v (by decide) (by decide), s.regWrite_rcCmd, exec_rcCluster wf]
    simp only [State.writeRcCmd, op]
  · refine ⟨_, exec_fmapRead (decide_eq_true hk), s.fmap_doFmapRead k, fun b block => ⟨?_, ?_⟩, fun j other => ?_,
      rfl, rfl, rfl⟩
    · rw [State.entryDword_6 block, State.fmap_doFmapRead]
    · rw [State.entryDword_7, State.latch_doFmapRead, if_pos rfl, getD_spanBlocks block]
    · rw [State.entryDword_7, State.latch_doFmapRead, if_neg other.symm, State.entryDword_7]

end Sys2Proof.Machine
end

section
/-! PROOFS. LOADP, LOADW, DESCRIPTOR_NOP and COPY (O16): how each starts or is rejected once its entry is found, and what the end of
a transfer writes and decides. -/

namespace Sys2Proof.Machine

/-! ### Starts and rejections -/

section
variable {s : State} {c seq : Nat} {e : JEntry} (found : s.entry c seq = some e)
include found

section
variable (undecided : e.out = none) (new : e.started = false)
include undecided new

/-- R347: an earlier load of the slot or bank has no outcome yet. -/
theorem State.startLoad_of_busy (busy : e.busy = true) : s.startLoad c seq e.typ = s.status c seq 1 := by
  simp [State.startLoad, found, undecided, new, busy]

/-- R338: an armed RUN names the bank. -/
theorem State.startLoad_of_armed (typ : e.typ = 2) (idle : e.busy = false)
    (armed : s.bankArmed c (fieldAt e.desc 8 1) = true) : s.startLoad c seq 2 = s.status c seq 7 := by
  simp [State.startLoad, found, undecided, new, typ, idle, armed]

theorem State.startLoad_of_mayStart (idle : e.busy = false)
    (unarmed : e.typ = 2 → s.bankArmed c (fieldAt e.desc 8 1) = false) (start : s.mayStart e = true) :
    s.startLoad c seq e.typ =
      if s.hostMoveOk e then (s.markStarted c seq).setImage c e.imageNo 2 else s.status c seq 3 := by
  have notInUse : ¬ (e.typ = 2 ∧ s.bankArmed c (fieldAt e.desc 8 1) = true) := fun h => by simp [unarmed h.1] at h
  have new' : ¬ (e.typ ≠ e.typ ∨ e.out.isSome = true ∨ e.started = true) := by simp [undecided, new]
  simp only [State.startLoad, found, if_neg new', idle, if_neg notInUse, start, Bool.not_true, Bool.false_eq_true, if_false]
  cases s.hostMoveOk e <;> rfl

end

theorem doDescriptorNop_of_mayStart (typ : e.typ = 0) (start : s.mayStart e = true) :
    doDescriptorNop c seq s = s.status c seq 0 := by
  simp [doDescriptorNop, found, typ, start]

theorem doCopy_of_mayStart (typ : e.typ = 4) (start : s.mayStart e = true) :
    doCopy c seq s = if s.hostMoveOk e then s.markStarted c seq else s.status c seq 3 := by
  have ready : ¬ (e.typ ≠ 4 ∨ s.mayStart e = false) := by simp [typ, start]
  simp only [doCopy, found, if_neg ready]
  cases s.hostMoveOk e <;> rfl

end

/-! ### The end of a transfer (R338, R343) -/

/-- Outside replay the host's answer stands. -/
theorem State.hostAnswer_live {s : State} (live : s.mode ≠ 2) (c seq : Nat) (need : List (Nat × Nat)) (host : List Byte) :
    s.hostAnswer c seq need host = some (host, s) := if_neg fun h => live h.1

/-- R305: outside strict time the calendar refuses nothing. -/
theorem State.calRefuses_lax {s : State} (lax : s.strict = false) (off n : Nat) (wr : Bool) : s.calRefuses off n wr = false := by
  rw [State.calRefuses, lax, Bool.false_and]

/-- The bytes that the transfer of a descriptor reads, and the state after the read. -/
def State.sourceOf (s : State) (e : JEntry) (c seq : Nat) (data : List Byte) : List (Byte × Bool) × State :=
  let src := fieldAt e.desc 16 8
  { s with actor := [] }.transferRead c seq src (fieldAt e.desc 32 4) (decide (gaSpace src = 4)) false data

/-- They are written at the descriptor's destination. -/
def State.moved (s : State) (e : JEntry) (c seq : Nat) (data : List Byte) : State :=
  let r := s.sourceOf e c seq data
  let dst := fieldAt e.desc 24 8
  r.2.writeFor c (gaSpace dst) (gaOff dst) r.1

/-- An image enters the record of slot or bank i, which becomes VALID (R338). -/
def State.validImage (s : State) (c i : Nat) (r : ImageRec) : State :=
  ({ s with host := { s.host with images := s.host.images.set (32 * c + i) r } } : State).setImage c i 1

/-- Of a COPY and a LOADW, where no read fails and no calendar refuses. -/
theorem doHostTransferComplete_of_done {s : State} {c seq : Nat} {e : JEntry} {ok : Bool} {data : List Byte}
    (found : s.entry c seq = some e) (typ : e.typ = 2 ∨ e.typ = 4) (undecided : e.out = none) (started : e.started = true)
    (live : s.mode ≠ 2) (up : s.irqUp = true) (lax : s.strict = false)
    (answered : gaSpace (fieldAt e.desc 16 8) = 4 → ok = true ∧ data.length = fieldAt e.desc 32 4) :
    doHostTransferComplete c seq ok data s =
      let u := s.moved e c seq data
      if e.typ = 4 then u.done1 c seq 0 (if (s.sourceOf e c seq data).1.any (fun b => b.2) then 1 else 0) [] 0
      else (u.validImage c e.imageNo ⟨gaOff (fieldAt e.desc 24 8), fieldAt e.desc 32 4, sha256 data⟩).status c seq 0 := by
  have awaited : ¬ (e.out.isSome = true ∨ e.started = false ∨ ¬ (e.typ = 1 ∨ e.typ = 2 ∨ e.typ = 4)) := by
    simp [undecided, started, typ]
  have sendable (p : Prop) : ¬ (p ∧ ok = true ∧ s.irqUp = false) := by simp [up]
  have whole : (decide (gaSpace (fieldAt e.desc 16 8) = 4) && !ok) = false
      ∧ (decide (gaSpace (fieldAt e.desc 16 8) = 4) && decide (data.length ≠ fieldAt e.desc 32 4)) = false := by
    by_cases host : gaSpace (fieldAt e.desc 16 8) = 4
    · obtain ⟨rfl, whole⟩ := answered host
      simp [whole]
    · simp [host]
  have lax' : ({ s with actor := [] } : State).strict = false := lax
  unfold doHostTransferComplete
  simp only [found, if_neg awaited, if_neg (sendable _), State.hostAnswer_live live, State.calRefuses_lax lax, live,
    State.calRefuses_lax lax', false_and, if_false, Bool.and_false, Bool.false_eq_true, whole, Bool.or_self]
  rcases typ with load | copy
  · have notCopy : ¬ e.typ = 4 := by omega
    have notProgram : ¬ (e.typ = 1 ∧ imgValid (fun o k => fieldAt data o k) (fieldAt e.desc 32 4) = false) := by omega
    simp only [if_neg notCopy, if_neg notProgram, or_self, if_false]
    rfl
  · simp only [if_pos copy, or_self, if_false]
    rfl

/-! ### What a valid image leaves -/

theorem State.mem_setImage (s : State) (c i v : Nat) : (s.setImage c i v).mem = s.mem := by
  unfold State.setImage
  split <;> rfl

theorem State.host_setImage (s : State) (c i v : Nat) : (s.setImage c i v).host = s.host := by
  unfold State.setImage
  split <;> rfl

theorem State.mem_validImage (s : State) (c i : Nat) (r : ImageRec) : (s.validImage c i r).mem = s.mem :=
  State.mem_setImage ..

theorem State.image_validImage (s : State) (c i : Nat) (r : ImageRec) : (s.validImage c i r).image c i = r := by
  rw [State.image, State.validImage, State.host_setImage]
  exact Table.get_set_same ..

theorem State.bankState_validImage (s : State) (c : Nat) {b : Nat} (hb : b < 8) (r : ImageRec) :
    (s.validImage c (16 + b) r).bankState c b = 1 := by
  have bank : ¬ 16 + b < 16 := by omega
  have width : 2 * b + 1 + 1 - 2 * b = 2 := by omega
  rw [State.bankState, State.validImage, State.setImage, if_neg bank, Nat.add_sub_cancel_left]
  exact (State.fld_setFld _ _ _ (by omega) (by omega)).trans (congrArg (1 % 2 ^ ·) width)

/-! ### The statement -/

/-- Settles O16: each start by the equation of its outcome; of the end of a transfer, the bytes written and the image. -/
theorem loadAndCopyDescriptors : Obligations.LoadAndCopyDescriptors := by
  unfold Obligations.LoadAndCopyDescriptors
  intro s c seq e hc hseq found
  have wf := below_entry hc hseq
  refine ⟨?_, fun typ start => ?_, fun typ start => ?_, ?_⟩
  · intro v i load undecided new marked
    have loads : exec i s = .next (s.startLoad c seq e.typ) := by
      rcases load with ⟨typ, rfl⟩ | ⟨typ, rfl⟩
      · rw [exec_loadp wf, doLoadp, typ]
      · rw [exec_loadw wf, doLoadw, typ]
    rw [loads, marked]
    refine ⟨fun busy => ?_, fun idle typ armed => ?_, fun idle unarmed start => ?_⟩
    · rw [State.startLoad_of_busy found undecided new busy]
    · rw [typ, State.startLoad_of_armed found undecided new typ idle armed]
    · rw [State.startLoad_of_mayStart found undecided new idle unarmed start]
      rfl
  · rw [exec_descriptorNop wf, doDescriptorNop_of_mayStart found typ start]
  · rw [exec_copy wf, doCopy_of_mayStart found typ start]
    rfl
  · intro ok data typ undecided started live up lax src dst n host answered r u
    have done := (exec_hostTransferComplete wf).trans (congrArg Host.Outcome.next
      (doHostTransferComplete_of_done found typ undecided started live up lax fun h => answered (decide_eq_true h)))
    refine ⟨fun copy => ?_, fun load hb => ⟨u.validImage c e.imageNo ⟨gaOff dst, n, sha256 data⟩, ?_, ?_, ?_, ?_⟩⟩
    · simp only [if_pos copy] at done
      exact done
    · have notCopy : ¬ e.typ = 4 := by omega
      simp only [if_neg notCopy] at done
      exact done
    · have bank : e.imageNo = 16 + fieldAt e.desc 8 1 := if_neg (by omega)
      rw [bank, State.bankState_validImage _ _ hb]
    · exact State.mem_validImage ..
    · exact State.image_validImage ..

end Sys2Proof.Machine
end

section
/-! PROOFS. Completion records, acceptance and host losses (O15, O60). Records that go out change the rings and mark their entries as
written (`RecordFrame`); an acceptance enters one journal entry, and a malformed descriptor takes its outcome at once. -/

namespace Sys2Proof.Machine

/-! ### What writing completion records leaves alone (R341, R344) -/

/-- From s to t records went out: of the registers the tails of the completion rings changed, and of a journal entry only the mark
that its record is written. -/
structure RecordFrame (s t : State) : Prop where
  runs : t.runs = s.runs
  decs : t.decs = s.decs
  clusters : t.clusters = s.clusters
  d3 : t.host.d3 = s.host.d3
  reg : ∀ off, (∀ c, off ≠ regDb c 0xC) → t.reg off = s.reg off
  journal : ∀ e ∈ t.host.journal, ∃ x ∈ s.host.journal, e = { x with written := e.written }

namespace RecordFrame

theorem refl (s : State) : RecordFrame s s := ⟨rfl, rfl, rfl, rfl, fun _ _ => rfl, fun e he => ⟨e, he, rfl⟩⟩

theorem trans {s t u : State} (h : RecordFrame s t) (k : RecordFrame t u) : RecordFrame s u where
  runs := k.runs.trans h.runs
  decs := k.decs.trans h.decs
  clusters := k.clusters.trans h.clusters
  d3 := k.d3.trans h.d3
  reg off other := (k.reg off other).trans (h.reg off other)
  journal e he := by
    obtain ⟨x, hx, marked⟩ := k.journal e he
    obtain ⟨y, hy, marked'⟩ := h.journal x hx
    exact ⟨y, hy, by rw [marked, marked']⟩

end RecordFrame

theorem State.setHctx_frame (s : State) (c : Nat) (h : HostCtx) : RecordFrame s (s.setHctx c h) :=
  ⟨rfl, rfl, rfl, rfl, fun _ _ => rfl, fun e he => ⟨e, he, rfl⟩⟩

theorem State.setIrq_frame (s : State) (v : Nat) (i : IrqSt) : RecordFrame s (s.setIrq v i) :=
  ⟨rfl, rfl, rfl, rfl, fun _ _ => rfl, fun e he => ⟨e, he, rfl⟩⟩

theorem State.putRecord_frame (s : State) (c : Nat) (mark : Option Nat) (rec : Bool → List Byte) :
    RecordFrame s (s.putRecord c mark rec) :=
  ⟨rfl, rfl, rfl, rfl, fun _ other => State.reg_setReg_ne _ _ (other c).symm, fun e he => ⟨e, he, rfl⟩⟩

theorem State.ctxIrq_frame (s : State) (c : Nat) : RecordFrame s (s.ctxIrq c) := by
  unfold State.ctxIrq State.trigger
  dsimp only
  split
  · split <;> exact s.setIrq_frame ..
  · exact .refl s

theorem State.markWritten_frame (s : State) (c seq : Nat) :
    RecordFrame s (s.updEntry c seq (fun x => { x with written := true })) := by
  refine ⟨rfl, rfl, rfl, rfl, fun _ _ => rfl, fun e he => ?_⟩
  obtain ⟨x, hx, rfl⟩ := List.mem_map.1 he
  refine ⟨x, hx, ?_⟩
  split <;> rfl

theorem State.writeRecord_frame (s : State) (c : Nat) : RecordFrame s (s.writeRecord c) := by
  unfold State.writeRecord
  split
  · exact .refl s
  · split
    · refine RecordFrame.trans ?_ (State.ctxIrq_frame ..)
      exact (s.setHctx_frame ..).trans (State.putRecord_frame ..)
    · split
      · exact .refl s
      · dsimp only
        split
        · exact (State.putRecord_frame ..).trans ((State.markWritten_frame ..).trans (State.ctxIrq_frame ..))
        · exact (State.putRecord_frame ..).trans (State.markWritten_frame ..)

theorem State.flushRecords_frame (c n : Nat) (s : State) : RecordFrame s (State.flushRecords c n s) := by
  induction n generalizing s with
  | zero => exact .refl s
  | succ n ih => exact (s.writeRecord_frame c).trans (ih _)

theorem State.flushAll_frame (s : State) (c : Nat) : RecordFrame s (s.flushAll c) := State.flushRecords_frame ..

/-- R344: the oldest outcome that waits, where no FRAME record does. -/
theorem State.writeRecord_outcome {s : State} {c : Nat} {e : JEntry} {o : HostOut} (may : s.canRecord c = true)
    (noFrame : (s.hctx c).frames = []) (next : s.nextOutcome c = some (e, o)) :
    let u := s.putRecord c (some e.seq) (cqRecord e.seq o.kind o.code (fieldAt e.desc 4 4) o.rd
      (o.flags + (if e.resent then 32 else 0)) o.aux)
    let v := u.updEntry c e.seq (fun x => { x with written := true })
    s.writeRecord c = if o.kind = 3 ∨ bitOf (fieldAt e.desc 1 1) 1 = true then v.ctxIrq c else v := by
  intro u v
  simp only [State.writeRecord, may, noFrame, next, Bool.not_true, Bool.false_eq_true, if_false]
  rfl

/-! ### Interrupts (R328, R345) -/

theorem doMsixHoldoffExpiry_sends {s : State} {v : Nat} (hold : (s.irq v).hold = true) (due : (s.irq v).due = true)
    (up : s.irqUp = true) : doMsixHoldoffExpiry v s =
      s.setIrq v ⟨if v = 256 then true else decide (s.fld (regCtx v 0x2C) 15 0 ≠ 0), false, (s.irq v).sent + 1⟩ := by
  simp only [doMsixHoldoffExpiry, hold, due, up, Bool.not_true, Bool.and_self, Bool.false_eq_true, if_false, if_true]

theorem doMsixHoldoffExpiry_idle {s : State} {v : Nat} (hold : (s.irq v).hold = true) (idle : (s.irq v).due = false) :
    doMsixHoldoffExpiry v s = s.setIrq v { s.irq v with hold := false } := by
  simp only [doMsixHoldoffExpiry, hold, idle, Bool.not_true, Bool.false_and, Bool.false_eq_true, if_false]

@[simp] theorem State.irq_setIrq (s : State) (v : Nat) (i : IrqSt) : (s.setIrq v i).irq v = i := Table.get_set_same ..

/-- The triggers that fell due change the vectors alone. -/
theorem State.sendDue_eq (s : State) : ∃ q, s.sendDue = { s with host := { s.host with irqs := q } } := by
  refine List.foldlRecOn (motive := fun (t : State) => ∃ q, t = { s with host := { s.host with irqs := q } }) _ _
    ⟨s.host.irqs, rfl⟩ ?_
  rintro _ ⟨q, rfl⟩ v -
  dsimp only
  split
  · exact ⟨_, rfl⟩
  · exact ⟨q, rfl⟩

/-! ### Host losses and returns (R343, R345) -/

theorem State.hostLoss_setFld (s : State) (c x : Nat) :
    (s.setFld (regCtx c 4) 11 11 1).hostLoss x = (decide (c = x) || s.hostLoss x) := by
  by_cases same : c = x
  · subst same
    have set : (s.setFld (regCtx c 4) 11 11 1).fld (regCtx c 4) 11 11 = 1 := s.fld_setFld _ 1 (by decide) (by decide)
    rw [decide_eq_true (rfl : c = c), Bool.true_or]
    exact decide_eq_true set
  · have other : regCtx c 4 ≠ regCtx x 4 := by unfold regCtx; omega
    rw [decide_eq_false same, Bool.false_or, State.hostLoss, State.fld, State.setFld_eq, State.reg_setReg_ne _ _ other]
    rfl

theorem State.hostLoss_foldl (l : List Nat) (x : Nat) (s : State) :
    (l.foldl (fun (s : State) c => s.setFld (regCtx c 4) 11 11 1) s).hostLoss x = (decide (x ∈ l) || s.hostLoss x) := by
  induction l generalizing s with
  | nil => rfl
  | cons c l ih =>
    rw [List.foldl_cons, ih, State.hostLoss_setFld]
    by_cases same : x = c <;> simp [same, eq_comm]

/-- A host loss begins for every context. -/
theorem State.hostLoss_loseHost (s : State) {c : Nat} (hc : c < 256) : s.loseHost.hostLoss c = true := by
  have named : c ∈ upTo 256 := List.mem_range.2 hc
  rw [State.loseHost, State.hostLoss_foldl, decide_eq_true named, Bool.true_or]

/-- It is a change of registers. -/
theorem State.loseHost_eq (s : State) : ∃ r, s.loseHost = { s with regs := r } :=
  State.foldl_setReg_eq (fun c => regCtx c 4) (fun u c => BitVec.ofNat 32 (putBits (u.reg (regCtx c 4)).toNat 11 11 1)) _ s

@[simp] theorem State.host_loseHost (s : State) : s.loseHost.host = s.host := by
  obtain ⟨r, eq⟩ := s.loseHost_eq
  rw [eq]

@[simp] theorem State.runs_loseHost (s : State) : s.loseHost.runs = s.runs := by
  obtain ⟨r, eq⟩ := s.loseHost_eq
  rw [eq]

@[simp] theorem State.clusters_loseHost (s : State) : s.loseHost.clusters = s.clusters := by
  obtain ⟨r, eq⟩ := s.loseHost_eq
  rw [eq]

@[simp] theorem State.mem_loseHost (s : State) : s.loseHost.mem = s.mem := by
  obtain ⟨r, eq⟩ := s.loseHost_eq
  rw [eq]

/-- What follows the loss of the host at the endpoint: the message, and the link stays up where a function-level reset was the
cause (R343). -/
def State.linkLost (s : State) (kind : Nat) : State :=
  let u := ({ s with host := { s.host with soft := [] } } : State).sendEv 0x406 0x4A 0
  if kind = 2 then u.send 0x406 0x4A 0 false [] else { u with host := { u.host with down := true } }

theorem doHostLoss_eq (kind : Nat) (s : State) : doHostLoss kind s = s.loseHost.linkLost kind := rfl

theorem State.linkLost_leaves (s : State) (kind : Nat) :
    (s.linkLost kind).regs = s.regs ∧ (s.linkLost kind).host.down = (s.host.down || decide (kind ≠ 2))
      ∧ (s.linkLost kind).host.journal = s.host.journal ∧ (s.linkLost kind).runs = s.runs
      ∧ (s.linkLost kind).clusters = s.clusters ∧ (s.linkLost kind).mem = s.mem := by
  unfold State.linkLost
  dsimp only
  split
  · next flr => exact ⟨rfl, by simp [flr, State.sendEv], rfl, rfl, rfl, rfl⟩
  · next down => exact ⟨rfl, by simp [down], rfl, rfl, rfl, rfl⟩

/-- R343: what a host loss changes beside the registers, the messages and HOSTLOSS. -/
theorem doHostLoss_leaves (s : State) (kind : Nat) :
    let t := doHostLoss kind s
    (∀ c, c < 256 → t.hostLoss c = true) ∧ t.host.down = (s.host.down || decide (kind ≠ 2)) ∧ t.host.journal = s.host.journal
      ∧ t.runs = s.runs ∧ t.clusters = s.clusters ∧ t.mem = s.mem := by
  rw [doHostLoss_eq]
  intro t
  obtain ⟨regs, others⟩ := s.loseHost.linkLost_leaves kind
  rw [s.host_loseHost, s.runs_loseHost, s.clusters_loseHost, s.mem_loseHost] at others
  refine ⟨fun c hc => ?_, others⟩
  rw [State.hostLoss, State.fld, State.reg, regs]
  exact s.hostLoss_loseHost hc

theorem doPcieLinkUp_leaves {s : State} (down : s.host.down = true) :
    let t := doPcieLinkUp s
    t.host.down = false ∧ t.host.journal = s.host.journal ∧ t.regs = s.regs ∧ t.clusters = s.clusters := by
  intro t
  obtain ⟨q, eq⟩ := (({ s with host := { s.host with down := false } } : State).send 0x406 0x4A 0 false []).sendDue_eq
  have returned : t = _ := (if_pos down).trans eq
  rw [returned]
  exact ⟨rfl, rfl, rfl, rfl⟩

/-- The endpoint in D3hot, with the contexts whose host loss is that of D3hot alone (R345). -/
def State.inD3hot (s : State) (soft : List Nat) : State :=
  let u := s.sendEv 0x406 0x4A 0
  { u with host := { u.host with d3 := true, soft := soft } }

theorem State.inD3hot_leaves (s : State) (soft : List Nat) :
    let t := s.inD3hot soft
    t.host.d3 = true ∧ t.regs = s.regs ∧ t.host.journal = s.host.journal ∧ t.clusters = s.clusters ∧ t.mem = s.mem :=
  ⟨rfl, rfl, rfl, rfl, rfl⟩

theorem doD3hotEntry_eq {s : State} (awake : s.host.d3 = false) : doD3hotEntry s =
    s.loseHost.inD3hot (s.host.soft ++ (upTo 256).filter (fun c => !s.hostLoss c)) :=
  if_neg (by simp [awake])

theorem doD3hotEntry_leaves {s : State} (awake : s.host.d3 = false) :
    let t := doD3hotEntry s
    t.host.d3 = true ∧ (∀ c, c < 256 → t.hostLoss c = true) ∧ t.host.journal = s.host.journal ∧ t.clusters = s.clusters
      ∧ t.mem = s.mem := by
  rw [doD3hotEntry_eq awake]
  obtain ⟨asleep, regs, others⟩ := s.loseHost.inD3hot_leaves (s.host.soft ++ (upTo 256).filter (fun c => !s.hostLoss c))
  rw [s.host_loseHost, s.clusters_loseHost, s.mem_loseHost] at others
  refine ⟨asleep, fun c hc => ?_, others⟩
  rw [State.hostLoss, State.fld, State.reg, regs]
  exact s.hostLoss_loseHost hc

/-- R345: held records go out, then the triggers that fell due. -/
theorem doD0Return_leaves {s : State} (asleep : s.host.d3 = true) :
    let t := doD0Return s
    t.host.d3 = false ∧ t.clusters = s.clusters ∧ t.runs = s.runs := by
  intro t
  let u := ({ s with host := { s.host with d3 := false } } : State).send 0x406 0x4A 0 false []
  have flushed : RecordFrame u ((upTo 256).foldl (fun (s : State) c => s.flushAll c) u) :=
    List.foldlRecOn (motive := RecordFrame u) _ _ (.refl u) fun v frame c _ => frame.trans (v.flushAll_frame c)
  have returned : t = ((upTo 256).foldl (fun (s : State) c => s.flushAll c) u).sendDue := if_pos asleep
  generalize (upTo 256).foldl (fun (s : State) c => s.flushAll c) u = w at flushed returned
  obtain ⟨q, eq⟩ := w.sendDue_eq
  rw [returned, eq]
  exact ⟨flushed.d3, flushed.clusters, flushed.runs⟩

end Sys2Proof.Machine
end

section
/-! PROOFS. What an acceptance enters in the journal and in the completion ring (O15), and the acceptance of a malformed descriptor
(O60). The equations are stated over a state and a number that stay variables: the kernel then compares no register file. -/

namespace Sys2Proof.Machine

/-! ### The registers of a context and of its rings -/

theorem regCtx_ne_regCtx {c d o p : Nat} (ho : o < 0x1000) (hp : p < 0x1000) (other : o ≠ p) : regCtx c o ≠ regCtx d p := by
  unfold regCtx
  omega

theorem regDb_ne_regDb {c d o p : Nat} (ho : o < 0x1000) (hp : p < 0x1000) (other : o ≠ p) : regDb c o ≠ regDb d p := by
  unfold regDb
  omega

theorem regDb_ne_regCtx {c d o p : Nat} (hc : c < 256) (hd : d < 256) (hp : p < 0x1000) : regDb c o ≠ regCtx d p := by
  unfold regDb regCtx
  omega

theorem State.fld_setFld_ne (s : State) {off off' : Nat} (other : off ≠ off') (hi lo v hi' lo' : Nat) :
    (s.setFld off hi lo v).fld off' hi' lo' = s.fld off' hi' lo' := by
  rw [State.fld, State.setFld_eq, State.reg_setReg_ne _ _ other, State.fld]

/-! ### Acceptance (R339, R340) -/

theorem State.keepCount_eq (s : State) (c : Nat) : ∃ m, s.keepCount c = { s with mg := m } := by
  unfold State.keepCount
  split
  · exact ⟨_, rfl⟩
  · exact ⟨s.mg, rfl⟩

/-- The stored count K is all that it changes. -/
theorem State.keepCount_keeps {α : Type} (f : State → α) (s : State) (c : Nat)
    (noCount : ∀ m, f { s with mg := m } = f s := by exact fun _ => rfl) : f (s.keepCount c) = f s := by
  obtain ⟨m, eq⟩ := s.keepCount_eq c
  rw [eq, noCount]

section
variable (s : State) (c : Nat)

@[simp] theorem State.regs_keepCount : (s.keepCount c).regs = s.regs := s.keepCount_keeps State.regs c
@[simp] theorem State.mem_keepCount : (s.keepCount c).mem = s.mem := s.keepCount_keeps State.mem c
@[simp] theorem State.host_keepCount : (s.keepCount c).host = s.host := s.keepCount_keeps State.host c
@[simp] theorem State.net_keepCount : (s.keepCount c).net = s.net := s.keepCount_keeps State.net c
@[simp] theorem State.clusters_keepCount : (s.keepCount c).clusters = s.clusters := s.keepCount_keeps State.clusters c
@[simp] theorem State.claims_keepCount : (s.keepCount c).claims = s.claims := s.keepCount_keeps State.claims c
@[simp] theorem State.runs_keepCount : (s.keepCount c).runs = s.runs := s.keepCount_keeps State.runs c
@[simp] theorem State.decs_keepCount : (s.keepCount c).decs = s.decs := s.keepCount_keeps State.decs c
@[simp] theorem State.kv_keepCount : (s.keepCount c).kv = s.kv := s.keepCount_keeps State.kv c
@[simp] theorem State.hbm_keepCount : (s.keepCount c).hbm = s.hbm := s.keepCount_keeps State.hbm c

@[simp] theorem State.reg_keepCount (off : Nat) : (s.keepCount c).reg off = s.reg off := by
  rw [State.reg, State.regs_keepCount, State.reg]

@[simp] theorem State.byte_keepCount (a : Nat) : (s.keepCount c).byte a = s.byte a := by
  rw [State.byte, State.mem_keepCount, State.byte]

@[simp] theorem State.fld_keepCount (off hi lo : Nat) : (s.keepCount c).fld off hi lo = s.fld off hi lo := by
  rw [State.fld, State.reg_keepCount, State.fld]

@[simp] theorem State.ctxSeq_keepCount (x : Nat) : (s.keepCount c).ctxSeq x = s.ctxSeq x := by
  rw [State.ctxSeq, State.reg_keepCount, State.fld_keepCount, State.ctxSeq]

end

/-- Of the state, the module's Package ID alone decides whether a descriptor is malformed. -/
theorem State.descMalformed_congr {s t : State} (same : t.pid = s.pid) (d : List Byte) :
    t.descMalformed d = s.descMalformed d := by
  unfold State.descMalformed State.regionOk State.hostAddr
  rw [same]

/-- The journal entry of an accepted descriptor (R340). -/
def State.newEntry (s : State) (c seq stamp : Nat) (d : List Byte) : JEntry :=
  ⟨c, seq, d, stamp, s.rcd.nextId, !s.descMalformed d && s.busyLoad c ⟨c, seq, d, stamp, s.rcd.nextId, false, false, none, false, false⟩,
    false, none, false, false⟩

theorem State.newEntry_shows (s : State) (c seq stamp : Nat) (d : List Byte) :
    let e := s.newEntry c seq stamp d
    e.ctx = c ∧ e.seq = seq ∧ e.desc = d ∧ e.stamp = stamp ∧ e.out = none ∧ e.started = false :=
  ⟨rfl, rfl, rfl, rfl, rfl, rfl⟩

/-- The ACCEPTED record of a descriptor (Table 11.9). -/
def acceptedRecord (seq stamp : Nat) (d : List Byte) : Bool → List Byte :=
  cqRecord seq 1 0 (fieldAt d 4 4) (leBytes 4 (secOf stamp) ++ leBytes 4 (nsOf stamp)) 0 0

/-- The recorder's ACCEPT, the next number and the journal entry of an acceptance. -/
def State.entered (s : State) (c seq stamp : Nat) (d : List Byte) : State :=
  let u := (s.capture (256 + c) 0x20 stamp (leBytes 6 seq ++ leBytes 2 0 ++ d)).2
  { u.setCtxSeq c (seq + 1) with host := { u.host with journal := s.host.journal ++ [s.newEntry c seq stamp d] } }

/-- The acceptance with its ACCEPTED record. -/
def State.journaled (s : State) (c seq stamp : Nat) (d : List Byte) : State :=
  (s.entered c seq stamp d).putRecord c none (acceptedRecord seq stamp d)

/-- R335: a malformed descriptor sends HOST-MALFORMED and completes. -/
theorem State.acceptWith_eq (s : State) (c seq stamp : Nat) (d : List Byte) : s.acceptWith c seq stamp d =
    if s.descMalformed d then
      ((s.journaled c seq stamp d).send (ctxSrc c) 0x49 (seq % 2 ^ 32) true [c]).status c seq 2
    else s.journaled c seq stamp d := rfl

/-- SQ_HEAD advances by one slot. -/
def State.advanceHead (s : State) (c : Nat) : State :=
  s.setFld (regDb c 8) 15 0 ((s.fld (regDb c 8) 15 0 + 1) % s.sqSize c)

theorem doAccept_accepts {s : State} {c p : Nat} {d : List Byte} (live : s.mode ≠ 2) (may : s.mayAccept c = true)
    (waits : s.fld (regDb c 8) 15 0 ≠ s.fld (regDb c 0) 15 0) (whole : d.length = 64) (room : s.decodeFull d = false) :
    doAccept c true d p s = (s.advanceHead c).acceptWith c (s.ctxSeq c) (s.stampAt p) d := by
  have ready : ¬ (s.mode = 2 ∨ s.mayAccept c = false ∨ s.fld (regDb c 8) 15 0 = s.fld (regDb c 0) 15 0) := by
    simp [live, may, waits]
  simp only [doAccept, if_neg ready, whole, room, Bool.not_true, Bool.false_eq_true, not_true, ne_eq, or_self, if_false]
  rfl

theorem doAccept_waits {s : State} {c : Nat} (idle : s.mayAccept c = false ∨ s.fld (regDb c 8) 15 0 = s.fld (regDb c 0) 15 0)
    (ok : Bool) (d : List Byte) (p : Nat) : doAccept c ok d p s = s := if_pos (.inr idle)

theorem State.pid_advanceHead (s : State) {c : Nat} (hc : c < 256) : (s.advanceHead c).pid = s.pid :=
  s.fld_setFld_ne (by unfold regDb regVd; omega) ..

theorem State.sqSize_le (s : State) (c : Nat) : s.sqSize c ≤ 2 ^ 15 :=
  Nat.pow_le_pow_right (by decide) (Nat.le_of_lt_succ (Nat.mod_lt _ (by decide)))

theorem State.head_advanceHead (s : State) (c : Nat) : (s.advanceHead c).fld (regDb c 8) 15 0 =
    (s.fld (regDb c 8) 15 0 + 1) % s.sqSize c := by
  have pos : 0 < s.sqSize c := Nat.two_pow_pos _
  have small := Nat.mod_lt (s.fld (regDb c 8) 15 0 + 1) pos
  have le := s.sqSize_le c
  rw [State.advanceHead, State.fld_setFld _ _ _ (by decide) (by decide)]
  exact Nat.mod_eq_of_lt (by omega)

theorem State.reg_advanceHead (s : State) {c off : Nat} (other : regDb c 8 ≠ off) : (s.advanceHead c).reg off = s.reg off :=
  State.reg_setReg_ne _ _ other

/-- 48 bits hold the next number. -/
theorem State.ctxSeq_setCtxSeq (s : State) (c n : Nat) : (s.setCtxSeq c n).ctxSeq c = n % 2 ^ 48 := by
  have other : regCtx c 0xC ≠ regCtx c 8 := regCtx_ne_regCtx (by decide) (by decide) (by decide)
  rw [State.ctxSeq, State.setCtxSeq, State.fld_setFld _ _ _ (by decide) (by decide), State.setFld_eq,
    State.reg_setReg_ne _ _ other, State.reg_setReg_same, BitVec.toNat_ofNat]
  omega

section
variable (s : State) (c seq stamp : Nat) (d : List Byte)

/-- The registers that an acceptance writes: the number, and the tail of the completion ring. -/
theorem State.regs_journaled : ∃ tail, (s.journaled c seq stamp d).regs =
    ((s.setCtxSeq c (seq + 1)).setFld (regDb c 0xC) 15 0 tail).regs := ⟨_, rfl⟩

theorem State.reg_journaled {off : Nat} (other : off ∉ [regDb c 0xC, regCtx c 8, regCtx c 0xC]) :
    (s.journaled c seq stamp d).reg off = s.reg off := by
  obtain ⟨tail, regs⟩ := s.regs_journaled c seq stamp d
  simp only [List.mem_cons, List.not_mem_nil, or_false, not_or] at other
  obtain ⟨hTail, hLo, hHi⟩ := other
  rw [State.reg, regs]
  exact (State.reg_setReg_ne _ _ (Ne.symm hTail)).trans ((State.reg_setReg_ne _ _ (Ne.symm hHi)).trans
    (State.reg_setReg_ne _ _ (Ne.symm hLo)))

theorem State.ctxSeq_journaled (hc : c < 256) : (s.journaled c seq stamp d).ctxSeq c = (seq + 1) % 2 ^ 48 := by
  obtain ⟨tail, regs⟩ := s.regs_journaled c seq stamp d
  have lo : (s.journaled c seq stamp d).reg (regCtx c 8) = (s.setCtxSeq c (seq + 1)).reg (regCtx c 8) := by
    rw [State.reg, regs]
    exact State.reg_setReg_ne _ _ (regDb_ne_regCtx hc hc (by decide))
  have hi : (s.journaled c seq stamp d).reg (regCtx c 0xC) = (s.setCtxSeq c (seq + 1)).reg (regCtx c 0xC) := by
    rw [State.reg, regs]
    exact State.reg_setReg_ne _ _ (regDb_ne_regCtx hc hc (by decide))
  rw [← s.ctxSeq_setCtxSeq c (seq + 1), State.ctxSeq, State.fld, lo, hi]
  rfl

end

theorem State.head_journaled_advanceHead (s : State) (c seq stamp : Nat) (d : List Byte) :
    ((s.advanceHead c).journaled c seq stamp d).fld (regDb c 8) 15 0 = (s.fld (regDb c 8) 15 0 + 1) % s.sqSize c := by
  have outside : regDb c 8 ∉ [regDb c 0xC, regCtx c 8, regCtx c 0xC] := by
    simp only [regDb, regCtx, List.mem_cons, List.not_mem_nil, or_false, not_or]
    omega
  rw [State.fld, State.reg_journaled _ _ _ _ _ outside]
  exact s.head_advanceHead c

theorem State.journaled_advanceHead_leaves (s : State) {c : Nat} (hc : c < 256) (seq stamp : Nat) (d : List Byte) :
    let u := (s.advanceHead c).journaled c seq stamp d
    u.host.journal = s.host.journal ++ [(s.advanceHead c).newEntry c seq stamp d] ∧ u.ctxSeq c = (seq + 1) % 2 ^ 48
      ∧ u.fld (regDb c 8) 15 0 = (s.fld (regDb c 8) 15 0 + 1) % s.sqSize c
      ∧ u.clusters = s.clusters ∧ u.runs = s.runs ∧ u.claims = s.claims ∧ u.decs = s.decs ∧ u.kv = s.kv ∧ u.hbm = s.hbm
      ∧ u.host.reqs = s.host.reqs ∧ u.net = s.net :=
  ⟨rfl, State.ctxSeq_journaled _ _ _ _ _ hc, s.head_journaled_advanceHead .., rfl, rfl, rfl, rfl, rfl, rfl, rfl, rfl⟩

/-- The conditions on an ACCEPT's operands. -/
theorem wf_accept {c p : Nat} {d : List Byte} (hc : c < 256) (hp : p < 16) (hd : d.length < 2 ^ 16) :
    (below 256 c && below (2 ^ 16) d.length && below 16 p) = true := by
  simp only [below, decide_eq_true hc, decide_eq_true hp, decide_eq_true hd, Bool.and_self]

/-- The journal entry of a descriptor that is accepted in phase p of the tick. -/
def State.acceptedEntry (s : State) (c p : Nat) (d : List Byte) : JEntry :=
  (s.advanceHead c).newEntry c (s.ctxSeq c) (s.stampAt p) d

/-- The state after its acceptance. -/
def State.accepts (s : State) (c p : Nat) (d : List Byte) : State :=
  (s.advanceHead c).journaled c (s.ctxSeq c) (s.stampAt p) d

theorem State.acceptedEntry_shows (s : State) (c p : Nat) (d : List Byte) :
    let e := s.acceptedEntry c p d
    e.ctx = c ∧ e.seq = s.ctxSeq c ∧ e.desc = d ∧ e.stamp = s.stampAt p ∧ e.out = none ∧ e.started = false :=
  (s.advanceHead c).newEntry_shows c (s.ctxSeq c) (s.stampAt p) d

/-- What an acceptance does to the journal, the number and the ring index, and what it leaves alone (R335, R339). -/
theorem State.accepts_leaves (s : State) {c : Nat} (hc : c < 256) (p : Nat) (d : List Byte) :
    let u := s.accepts c p d
    u.host.journal = s.host.journal ++ [s.acceptedEntry c p d] ∧ u.ctxSeq c = (s.ctxSeq c + 1) % 2 ^ 48
      ∧ u.fld (regDb c 8) 15 0 = (s.fld (regDb c 8) 15 0 + 1) % s.sqSize c
      ∧ u.clusters = s.clusters ∧ u.runs = s.runs ∧ u.claims = s.claims ∧ u.decs = s.decs ∧ u.kv = s.kv ∧ u.hbm = s.hbm
      ∧ u.host.reqs = s.host.reqs ∧ u.net = s.net :=
  s.journaled_advanceHead_leaves hc (s.ctxSeq c) (s.stampAt p) d

theorem doAccept_journals {s : State} {c p : Nat} {d : List Byte} (hc : c < 256) (live : s.mode ≠ 2) (may : s.mayAccept c = true)
    (waits : s.fld (regDb c 8) 15 0 ≠ s.fld (regDb c 0) 15 0) (whole : d.length = 64) (room : s.decodeFull d = false)
    (good : s.descMalformed d = false) :
    doAccept c true d p s = s.accepts c p d := by
  have sound := (State.descMalformed_congr (s.pid_advanceHead hc) d).trans good
  rw [doAccept_accepts live may waits whole room, State.acceptWith_eq, if_neg (ne_true_of_eq_false sound), State.accepts]

/-- Settles O15: an acceptance by its journal entry, its number and its ring index; a record and a trigger by their equations; a
loss and a return by what they leave. -/
theorem acceptanceAndRecords : Obligations.AcceptanceAndRecords := by
  unfold Obligations.AcceptanceAndRecords
  refine fun s => ⟨?_, ?_, ?_, ?_, ?_, fun kind hkind => ⟨_, exec_hostLoss (decide_eq_true hkind), doHostLoss_leaves s kind⟩,
    fun down => ⟨_, exec_pcieLinkUp, doPcieLinkUp_leaves down⟩, fun awake => ⟨_, exec_d3hotEntry, doD3hotEntry_leaves awake⟩,
    fun asleep => ⟨_, exec_d0Return, doD0Return_leaves asleep⟩⟩
  · intro c p d hc hp whole live may waits room good
    have accepted := doAccept_journals (p := p) hc live may waits whole room good
    obtain ⟨entered, number, head, clusters, runs, -⟩ := s.accepts_leaves hc p d
    obtain ⟨ctx, seq, desc, stamp, out, started⟩ := s.acceptedEntry_shows c p d
    refine ⟨(s.accepts c p d).keepCount c, _, ?_, ?_, ctx, seq, desc, stamp, out, started,
      ?_, ?_, ?_, ?_⟩
    · rw [exec_accept (wf_accept hc hp (by omega)), doAcceptKeep, accepted]
    · rw [State.host_keepCount, entered]
    · rw [State.ctxSeq_keepCount, number]
    · rw [State.fld_keepCount, head]
    · rw [State.clusters_keepCount, clusters]
    · rw [State.runs_keepCount, runs]
  · intro c p d hc hp hd live idle ok
    rw [exec_accept (wf_accept hc hp hd), doAcceptKeep, doAccept_waits idle]
  · intro c e o hc may noFrame next u v
    rw [exec_outcomeRecord (decide_eq_true hc), doOutcomeRecord, State.writeRecord_outcome may noFrame next]
  · intro v hv hold due up
    refine ⟨_, exec_msixHoldoffExpiry (decide_eq_true hv), ?_⟩
    rw [doMsixHoldoffExpiry_sends hold due up, State.irq_setIrq]
    exact ⟨rfl, rfl, rfl, rfl⟩
  · intro v hv hold idle
    rw [exec_msixHoldoffExpiry (decide_eq_true hv), doMsixHoldoffExpiry_idle hold idle]

/-! ### A malformed descriptor (R335) -/

theorem leNat_of_zero {l : List Byte} (zero : ∀ b ∈ l, b = 0) : leNat l = 0 := by
  induction l with
  | nil => rfl
  | cons b l ih =>
    obtain ⟨rfl, rest⟩ := List.forall_mem_cons.1 zero
    rw [leNat, ih rest]
    rfl

/-- A field that is not zero has a byte that is not. -/
theorem zeroBytes_of_field {d : List Byte} {lo hi : Nat} (field : fieldAt d lo (hi + 1 - lo) ≠ 0) : zeroBytes d lo hi = false := by
  rw [← Bool.not_eq_true]
  intro zero
  exact field (leNat_of_zero fun b hb => of_decide_eq_true (List.all_eq_true.1 zero b hb))

/-- A reserved TYPE, and the reserved bytes 2 and 3 (Table 11.7; the reading of the table is log entry 18). -/
theorem State.descMalformed_of_reserved (s : State) {d : List Byte} (reserved : 8 ≤ fieldAt d 0 1 ∨ fieldAt d 2 2 ≠ 0) :
    s.descMalformed d = true := by
  rcases reserved with typ | field
  · have other (n : Nat) (hn : n < 8) : ¬ fieldAt d 0 1 = n := by omega
    unfold State.descMalformed
    dsimp only
    rw [if_neg (other 0 (by decide)), if_neg (not_or.2 ⟨other 1 (by decide), other 2 (by decide)⟩), if_neg (other 3 (by decide)),
      if_neg (other 4 (by decide)), if_neg (other 5 (by decide)), if_neg (other 6 (by decide)), if_neg (other 7 (by decide)),
      Bool.or_true]
  · have zero : zeroBytes d 2 3 = false := zeroBytes_of_field (lo := 2) (hi := 3) field
    unfold State.descMalformed
    simp only [zero, Bool.not_false, Bool.or_true, Bool.true_or]

/-- Table 16.1: the source of a message. -/
theorem msgSrc_mkMsg (src kind addr gen seq : Nat) (c : Bool) : msgSrc (mkMsg src kind addr gen seq c).toNat = src % 4096 := by
  unfold msgSrc mkMsg bitsOf
  rw [BitVec.toNat_ofNat]
  split <;> omega

theorem msgKind_mkMsg (src kind addr gen seq : Nat) (c : Bool) : msgKind (mkMsg src kind addr gen seq c).toNat = kind % 256 := by
  unfold msgKind mkMsg bitsOf
  rw [BitVec.toNat_ofNat]
  split <;> omega

/-- Only a context that drains or aborts is settled (Table 11.3). -/
theorem State.settle_of_enabled {s : State} {c : Nat} (enabled : s.ctxState c = 1) : s.settle c = s := if_neg (by omega)

theorem State.status_of_enabled {s : State} {c : Nat} (enabled : s.ctxState c = 1) (seq code : Nat) :
    s.status c seq code = s.enterOut c seq ⟨2, code, 0, [], 0⟩ := State.settle_of_enabled enabled

theorem State.ctxState_of_mayAccept {s : State} {c : Nat} (may : s.mayAccept c = true) : s.ctxState c = 1 := by
  simp only [State.mayAccept, Bool.and_eq_true, decide_eq_true_eq] at may
  obtain ⟨⟨⟨⟨⟨⟨enabled, -⟩, -⟩, -⟩, -⟩, -⟩, -⟩ := may
  exact enabled

/-- HOST-MALFORMED goes out, and the descriptor completes with status MALFORMED. -/
def State.rejected (s : State) (c seq : Nat) : State :=
  (s.send (ctxSrc c) 0x49 (seq % 2 ^ 32) true [c]).enterOut c seq ⟨2, 2, 0, [], 0⟩

theorem State.rejected_eq {s : State} {c : Nat} (enabled : s.ctxState c = 1) (seq : Nat) :
    (s.send (ctxSrc c) 0x49 (seq % 2 ^ 32) true [c]).status c seq 2 = s.rejected c seq :=
  State.status_of_enabled (s := s.send (ctxSrc c) 0x49 (seq % 2 ^ 32) true [c]) enabled seq 2

theorem State.acceptWith_malformed {s : State} {c seq stamp : Nat} {d : List Byte} (bad : s.descMalformed d = true)
    (enabled : (s.journaled c seq stamp d).ctxState c = 1) :
    s.acceptWith c seq stamp d = (s.journaled c seq stamp d).rejected c seq := by
  rw [State.acceptWith_eq, if_pos bad, State.rejected_eq enabled]

/-- The journal after the entry that was accepted last was rejected. -/
theorem State.journal_rejected {s : State} {c seq : Nat} {l : List JEntry} {e : JEntry} (last : s.host.journal = l ++ [e])
    (ctx : e.ctx = c) (number : e.seq = seq) (undecided : e.out = none) :
    (s.rejected c seq).host.journal.getLast? = some { e with out := some ⟨2, 2, 0, [], 0⟩ }
      ∧ (s.rejected c seq).host.journal.length = l.length + 1 := by
  simp [State.rejected, State.enterOut, State.updEntry, last, ctx, number, undecided]

/-- One message goes out. -/
theorem State.net_rejected (s : State) {c : Nat} (hc : c < 256) (seq : Nat) : ∃ m, (s.rejected c seq).net = s.net ++ [m]
    ∧ msgSrc m.bits.toNat = ctxSrc c ∧ msgKind m.bits.toNat = 0x49 := by
  refine ⟨_, rfl, (msgSrc_mkMsg ..).trans (Nat.mod_eq_of_lt ?_), msgKind_mkMsg ..⟩
  unfold ctxSrc
  omega

theorem length_acceptedRecord (seq stamp : Nat) (d : List Byte) (phase : Bool) : (acceptedRecord seq stamp d phase).length = 32 := by
  simp [acceptedRecord, cqRecord, leBytes]

/-- Where the next record of a context lies. -/
def State.cqPlace (s : State) (c : Nat) : Nat := memKey 4 (s.cqBase c + 32 * s.fld (regDb c 0xC) 15 0)

theorem State.cqPlace_congr {s t : State} {c : Nat} (lo : t.reg (regCtx c 0x20) = s.reg (regCtx c 0x20))
    (hi : t.reg (regCtx c 0x24) = s.reg (regCtx c 0x24)) (tail : t.reg (regDb c 0xC) = s.reg (regDb c 0xC)) :
    t.cqPlace c = s.cqPlace c := by
  simp only [State.cqPlace, State.cqBase, State.fld, lo, hi, tail]

theorem State.mem_putRecord (s : State) (c : Nat) (mark : Option Nat) (rec : Bool → List Byte) :
    (s.putRecord c mark rec).mem = memWrites s.mem (s.cqPlace c) (rec (s.hctx c).phase) := rfl

theorem State.reg_entered (s : State) (c seq stamp : Nat) (d : List Byte) (off : Nat) :
    (s.entered c seq stamp d).reg off = (s.setCtxSeq c (seq + 1)).reg off := rfl

/-- R341: of the memories an acceptance writes the 32 bytes of its record. -/
theorem State.byte_accepts (s : State) {c : Nat} (hc : c < 256) (p : Nat) (d : List Byte) {a : Nat}
    (outside : a < s.cqPlace c ∨ s.cqPlace c + 32 ≤ a) : (s.accepts c p d).byte a = s.byte a := by
  have kept {off : Nat} (head : regDb c 8 ≠ off) (lo : regCtx c 8 ≠ off) (hi : regCtx c 0xC ≠ off) :
      ((s.advanceHead c).entered c (s.ctxSeq c) (s.stampAt p) d).reg off = s.reg off := by
    rw [State.reg_entered]
    exact (State.reg_setReg_ne _ _ hi).trans ((State.reg_setReg_ne _ _ lo).trans (s.reg_advanceHead head))
  have ring {o : Nat} (ho : 0x10 ≤ o) (small : o < 0x1000) := kept (regDb_ne_regCtx hc hc small)
    (regCtx_ne_regCtx (by decide) small (by omega)) (regCtx_ne_regCtx (by decide) small (by omega))
  have place : ((s.advanceHead c).entered c (s.ctxSeq c) (s.stampAt p) d).cqPlace c = s.cqPlace c :=
    State.cqPlace_congr (ring (by decide) (by decide)) (ring (by decide) (by decide))
      (kept (regDb_ne_regDb (by decide) (by decide) (by decide)) (regDb_ne_regCtx hc hc (by decide)).symm
        (regDb_ne_regCtx hc hc (by decide)).symm)
  rw [State.byte, State.accepts, State.journaled, State.mem_putRecord, place, memRead_memWrites, length_acceptedRecord,
    if_neg (by omega)]
  rfl

theorem State.reg_accepts (s : State) (c p : Nat) (d : List Byte) {off : Nat}
    (outside : off ∉ [regDb c 8, regDb c 0xC, regCtx c 8, regCtx c 0xC]) : (s.accepts c p d).reg off = s.reg off := by
  obtain ⟨head, others⟩ := not_or.1 (mt List.mem_cons.2 outside)
  rw [State.accepts, State.reg_journaled _ _ _ _ _ others, s.reg_advanceHead (Ne.symm head)]

theorem State.ctxState_accepts (s : State) (c p : Nat) (d : List Byte) :
    (s.accepts c p d).ctxState c = s.ctxState c := by
  have outside : regCtx c 4 ∉ [regDb c 8, regDb c 0xC, regCtx c 8, regCtx c 0xC] := by
    simp only [regDb, regCtx, List.mem_cons, List.not_mem_nil, or_false, not_or]
    omega
  rw [State.ctxState, State.fld, s.reg_accepts c p d outside]
  rfl

theorem doAccept_rejects {s : State} {c p : Nat} {d : List Byte} (hc : c < 256) (live : s.mode ≠ 2) (may : s.mayAccept c = true)
    (waits : s.fld (regDb c 8) 15 0 ≠ s.fld (regDb c 0) 15 0) (whole : d.length = 64) (room : s.decodeFull d = false)
    (bad : s.descMalformed d = true) : doAccept c true d p s =
      (s.accepts c p d).rejected c (s.ctxSeq c) := by
  have malformed := (State.descMalformed_congr (s.pid_advanceHead hc) d).trans bad
  have enabled : (s.accepts c p d).ctxState c = 1 := (s.ctxState_accepts c p d).trans (State.ctxState_of_mayAccept may)
  rw [doAccept_accepts live may waits whole room, State.acceptWith_malformed malformed enabled, State.accepts]

/-- A rejected descriptor leaves alone what its acceptance did. -/
theorem State.rejected_leaves (s : State) (c seq : Nat) :
    let t := s.rejected c seq
    t.clusters = s.clusters ∧ t.runs = s.runs ∧ t.claims = s.claims ∧ t.decs = s.decs
      ∧ t.kv = s.kv ∧ t.hbm = s.hbm ∧ t.host.reqs = s.host.reqs := ⟨rfl, rfl, rfl, rfl, rfl, rfl, rfl⟩

theorem State.reg_rejected (s : State) (c seq off : Nat) : (s.rejected c seq).reg off = s.reg off := rfl

theorem State.fld_rejected (s : State) (c seq off hi lo : Nat) : (s.rejected c seq).fld off hi lo = s.fld off hi lo := rfl

theorem State.ctxSeq_rejected (s : State) (c seq x : Nat) : (s.rejected c seq).ctxSeq x = s.ctxSeq x := rfl

theorem State.byte_rejected (s : State) (c seq a : Nat) : (s.rejected c seq).byte a = s.byte a := rfl

/-- Settles O60: a reserved field is malformed, and a malformed descriptor is accepted, sends its message and takes its outcome, by the
equation of an acceptance. -/
theorem malformedDescriptor : Obligations.MalformedDescriptor := by
  unfold Obligations.MalformedDescriptor
  refine fun s c p d hc hp whole => ⟨s.descMalformed_of_reserved, fun live may waits room bad => ?_⟩
  have accepted := doAccept_rejects (p := p) hc live may waits whole room bad
  obtain ⟨ctx, seq, desc, -, out, started⟩ := s.acceptedEntry_shows c p d
  obtain ⟨entered, number, head, clusters, runs, claims, decs, kv, hbm, reqs, net⟩ :=
    s.accepts_leaves hc p d
  obtain ⟨last, length⟩ := State.journal_rejected entered ctx seq out
  obtain ⟨m, sent, src, kind⟩ := (s.accepts c p d).net_rejected hc (s.ctxSeq c)
  obtain ⟨clusters', runs', claims', decs', kv', hbm', reqs'⟩ :=
    (s.accepts c p d).rejected_leaves c (s.ctxSeq c)
  refine ⟨((s.accepts c p d).rejected c (s.ctxSeq c)).keepCount c,
    { s.acceptedEntry c p d with out := some ⟨2, 2, 0, [], 0⟩ }, m, ?_, ?_, ?_, ctx, seq, desc, rfl, started,
    ?_, src, kind, ?_, ?_, ?_, ?_, ?_, ?_, ?_, ?_, ?_, fun off outside => ?_, fun a outside => ?_⟩
  · rw [exec_accept (wf_accept hc hp (by omega)), doAcceptKeep, accepted]
  · rw [State.host_keepCount, last]
  · rw [State.host_keepCount, length]
  · rw [State.net_keepCount, sent, net]
  · rw [State.ctxSeq_keepCount, State.ctxSeq_rejected, number]
  · rw [State.fld_keepCount, State.fld_rejected, head]
  · rw [State.clusters_keepCount, clusters', clusters]
  · rw [State.claims_keepCount, claims', claims]
  · rw [State.runs_keepCount, runs', runs]
  · rw [State.decs_keepCount, decs', decs]
  · rw [State.kv_keepCount, kv', kv]
  · rw [State.hbm_keepCount, hbm', hbm]
  · rw [State.host_keepCount, reqs', reqs]
  · rw [State.reg_keepCount, State.reg_rejected, s.reg_accepts c p d outside]
  · rw [State.byte_keepCount, State.byte_rejected, s.byte_accepts hc p d outside]

end Sys2Proof.Machine
end

section
/-! PROOFS. The doorbells and the context commands (O14). A doorbell and an ENABLE by the equation of the state they leave; an abort
by what its parts keep of the host interface (`HostFrame`) and by the entries a discard leaves without outcome; a context RESET by
what the page manager leaves alone (`HubFrame`). -/

namespace Sys2Proof.Machine

/-! ### The state of a context -/

/-- It takes two bits. -/
theorem State.ctxState_setCtxState (s : State) (c v : Nat) : (s.setCtxState c v).ctxState c = v % 4 :=
  s.fld_setFld (regCtx c 4) v (by decide) (by decide)

theorem State.reg_setCtxState (s : State) {c off : Nat} (other : regCtx c 4 ≠ off) (v : Nat) :
    (s.setCtxState c v).reg off = s.reg off := State.reg_setReg_ne _ _ other

theorem State.ctxState_congr {s t : State} {c : Nat} (same : t.reg (regCtx c 4) = s.reg (regCtx c 4)) :
    t.ctxState c = s.ctxState c := by
  rw [State.ctxState, State.fld, same]
  rfl

/-- Records that go out leave the state of every context. -/
theorem RecordFrame.ctxState {s t : State} (h : RecordFrame s t) (c : Nat) : t.ctxState c = s.ctxState c :=
  State.ctxState_congr (h.reg _ fun _ => by unfold regCtx regDb; omega)

theorem State.mem_undecided {s : State} {c : Nat} {e : JEntry} :
    e ∈ s.undecided c ↔ e ∈ s.host.journal ∧ e.ctx = c ∧ e.out = none := by
  simp only [State.undecided, State.entries, List.mem_filter, decide_eq_true_eq, Option.isNone_iff_eq_none, and_assoc]

/-- Records that go out leave no descriptor without outcome where there was none. -/
theorem RecordFrame.undecided {s t : State} (h : RecordFrame s t) {c : Nat} (all : s.undecided c = []) : t.undecided c = [] := by
  refine List.eq_nil_iff_forall_not_mem.2 fun e he => ?_
  obtain ⟨mem, ctx, out⟩ := State.mem_undecided.1 he
  obtain ⟨x, hx, marked⟩ := h.journal e mem
  rw [marked] at ctx out
  exact List.eq_nil_iff_forall_not_mem.1 all x (State.mem_undecided.2 ⟨hx, ctx, out⟩)

/-- Table 11.3: a context that drains stays while a descriptor lacks its outcome. -/
theorem State.settle_of_undecided {s : State} {c : Nat} (some : s.undecided c ≠ []) : s.settle c = s := if_neg fun h => some h.2

theorem State.settle_of_decided {s : State} {c : Nat} (ends : s.ctxState c = 2 ∨ s.ctxState c = 3) (all : s.undecided c = []) :
    s.settle c = (s.flushAll c).setCtxState c 0 := if_pos ⟨ends, all⟩

/-! ### Doorbells (R333, R340, R343) -/

theorem State.ringBell_asleep {s : State} (asleep : s.host.d3 = true) (c : Nat) : s.ringBell c = s := if_pos asleep

/-- A doorbell changes the loss bit of its context and the contexts that D3hot took, nothing else. -/
theorem State.ringBell_awake {s : State} (awake : s.host.d3 = false) (c : Nat) : s.ringBell c =
    { s.setFld (regCtx c 4) 11 11 0 with host := { s.host with soft := s.host.soft.filter (fun x => x ≠ c) } } :=
  if_neg (ne_true_of_eq_false awake)

theorem State.ringBell_eq (s : State) (c : Nat) : s.ringBell c = s ∨ s.ringBell c =
    { s.setFld (regCtx c 4) 11 11 0 with host := { s.host with soft := s.host.soft.filter (fun x => x ≠ c) } } := by
  cases d3 : s.host.d3 with
  | true => exact .inl (State.ringBell_asleep d3 c)
  | false => exact .inr (State.ringBell_awake d3 c)

theorem State.ringBell_leaves (s : State) (c : Nat) : (s.ringBell c).mem = s.mem ∧ (s.ringBell c).clusters = s.clusters
    ∧ (s.ringBell c).host.journal = s.host.journal ∧ (s.ringBell c).host.ctxs = s.host.ctxs := by
  rcases s.ringBell_eq c with same | rung
  · rw [same]
    exact ⟨rfl, rfl, rfl, rfl⟩
  · rw [rung]
    exact ⟨rfl, rfl, rfl, rfl⟩

theorem State.hctx_ringBell (s : State) (c : Nat) : (s.ringBell c).hctx c = s.hctx c := by
  obtain ⟨-, -, -, ctxs⟩ := s.ringBell_leaves c
  rw [State.hctx, ctxs, State.hctx]

theorem State.reg_ringBell (s : State) {c off : Nat} (other : regCtx c 4 ≠ off) : (s.ringBell c).reg off = s.reg off := by
  rcases s.ringBell_eq c with same | rung
  · rw [same]
  · rw [rung]
    exact State.reg_setReg_ne _ _ other

theorem State.ctxState_ringBell (s : State) (c : Nat) : (s.ringBell c).ctxState c = s.ctxState c := by
  rcases s.ringBell_eq c with same | rung
  · rw [same]
  · rw [rung]
    exact s.fld_setFld_disjoint _ 0 (by decide) (by decide) (by decide) (.inr (by decide))

theorem State.hostLoss_ringBell {s : State} (awake : s.host.d3 = false) (c : Nat) : (s.ringBell c).hostLoss c = false := by
  have cleared : (s.ringBell c).fld (regCtx c 4) 11 11 = 0 := by
    rw [State.ringBell_awake awake]
    exact s.fld_setFld _ 0 (by decide) (by decide)
  rw [State.hostLoss, cleared]
  rfl

/-- The sizes of the rings stay. -/
theorem State.fld_ringSizes (s : State) (c hi lo : Nat) : (s.ringBell c).fld (regCtx c 0x18) hi lo =
    s.fld (regCtx c 0x18) hi lo := by
  rw [State.fld, s.reg_ringBell (regCtx_ne_regCtx (by decide) (by decide) (by decide)), State.fld]

theorem State.sqSize_ringBell (s : State) (c : Nat) : (s.ringBell c).sqSize c = s.sqSize c := congrArg (2 ^ ·) (s.fld_ringSizes ..)

theorem State.cqSize_ringBell (s : State) (c : Nat) : (s.ringBell c).cqSize c = s.cqSize c := congrArg (2 ^ ·) (s.fld_ringSizes ..)

theorem doSqTail_of_enabled {s : State} {c : Nat} {v : BitVec 16} (enabled : s.ctxState c = 1) (fits : v.toNat < s.sqSize c) :
    doSqTail c v s = (s.ringBell c).setFld (regDb c 0) 15 0 v.toNat := by
  rw [doSqTail, if_neg]
  rw [s.ctxState_ringBell, s.sqSize_ringBell]
  omega

theorem doSqTail_refused {s : State} {c : Nat} {v : BitVec 16} (refused : s.ctxState c ≠ 1 ∨ s.sqSize c ≤ v.toNat) :
    doSqTail c v s = (s.ringBell c).orReg (regCtx c 4) 0x100 := by
  rw [doSqTail, if_pos (by rwa [s.ctxState_ringBell, s.sqSize_ringBell]), State.dbErr]

theorem doSqTail_leaves {s : State} {c : Nat} {v : BitVec 16} (hc : c < 256) (awake : s.host.d3 = false)
    (enabled : s.ctxState c = 1) (fits : v.toNat < s.sqSize c) :
    let t := doSqTail c v s
    t.fld (regDb c 0) 15 0 = v.toNat ∧ t.hostLoss c = false
      ∧ (∀ off, off ≠ regDb c 0 → off ≠ regCtx c 4 → t.reg off = s.reg off)
      ∧ t.mem = s.mem ∧ t.clusters = s.clusters ∧ t.host.journal = s.host.journal := by
  obtain ⟨mem, clusters, journal, -⟩ := s.ringBell_leaves c
  rw [doSqTail_of_enabled enabled fits]
  refine ⟨?_, ?_, fun off tail loss => ?_, mem, clusters, journal⟩
  · rw [State.fld_setFld _ _ _ (by decide) (by decide)]
    exact Nat.mod_eq_of_lt v.isLt
  · rw [State.hostLoss, State.fld_setFld_ne _ (regDb_ne_regCtx hc hc (by decide))]
    exact State.hostLoss_ringBell awake c
  · rw [State.setFld_eq, State.reg_setReg_ne _ _ (Ne.symm tail), s.reg_ringBell (Ne.symm loss)]

/-- CQ_HEAD moves to v over n records of the completion ring, and their entries are free. -/
def State.passRecords (s : State) (c v n : Nat) : State :=
  let gone := ((s.hctx c).used.take n).filterMap id
  let u := (s.setFld (regDb c 4) 15 0 v).setHctx c { s.hctx c with used := (s.hctx c).used.drop n }
  { u with host := { u.host with journal := u.host.journal.filter (fun e => ¬ (e.ctx = c ∧ gone.contains e.seq = true)) } }

theorem State.passRecords_leaves (s : State) (c v n : Nat) :
    let t := s.passRecords c v n
    t.fld (regDb c 4) 15 0 = v % 2 ^ 16 ∧ (t.hctx c).used = (s.hctx c).used.drop n
      ∧ t.mem = s.mem ∧ t.clusters = s.clusters := by
  refine ⟨s.fld_setFld _ v (by decide) (by decide), ?_, rfl, rfl⟩
  exact congrArg HostCtx.used (Table.get_set_same ..)

theorem State.mem_journal_passRecords {s : State} {c v n : Nat} {e : JEntry} : e ∈ (s.passRecords c v n).host.journal ↔
    e ∈ s.host.journal ∧ ¬ (e.ctx = c ∧ some e.seq ∈ (s.hctx c).used.take n) := by
  have passed : (((s.hctx c).used.take n).filterMap id).contains e.seq = true ↔ some e.seq ∈ (s.hctx c).used.take n := by
    simp only [List.contains_iff_mem, List.mem_filterMap, id_eq, exists_eq_right]
  refine List.mem_filter.trans (and_congr_right' ?_)
  rw [decide_eq_true_eq, passed]

theorem doCqHead_of_enabled {s : State} {c : Nat} {v : BitVec 16} (hc : c < 256) (enabled : s.ctxState c = 1)
    (fits : v.toNat < s.cqSize c)
    (holds : (v.toNat + s.cqSize c - s.fld (regDb c 4) 15 0) % s.cqSize c ≤ (s.hctx c).used.length) :
    doCqHead c v s = (s.ringBell c).passRecords c v.toNat ((v.toNat + s.cqSize c - s.fld (regDb c 4) 15 0) % s.cqSize c) := by
  have head : (s.ringBell c).fld (regDb c 4) 15 0 = s.fld (regDb c 4) 15 0 := by
    rw [State.fld, s.reg_ringBell (regDb_ne_regCtx hc hc (by decide)).symm, State.fld]
  have granted : ¬ ((s.ringBell c).ctxState c ≠ 1 ∨ (s.ringBell c).cqSize c ≤ v.toNat
      ∨ ((s.ringBell c).hctx c).used.length <
        (v.toNat + (s.ringBell c).cqSize c - (s.ringBell c).fld (regDb c 4) 15 0) % (s.ringBell c).cqSize c) := by
    rw [s.ctxState_ringBell, s.cqSize_ringBell, head, s.hctx_ringBell]
    omega
  refine (if_neg granted).trans ?_
  rw [s.cqSize_ringBell, head]
  rfl

theorem doCqHead_leaves {s : State} {c : Nat} {v : BitVec 16} (hc : c < 256) (enabled : s.ctxState c = 1)
    (fits : v.toNat < s.cqSize c)
    (holds : (v.toNat + s.cqSize c - s.fld (regDb c 4) 15 0) % s.cqSize c ≤ (s.hctx c).used.length) :
    let n := (v.toNat + s.cqSize c - s.fld (regDb c 4) 15 0) % s.cqSize c
    let t := doCqHead c v s
    t.fld (regDb c 4) 15 0 = v.toNat ∧ (t.hctx c).used = (s.hctx c).used.drop n
      ∧ (∀ e, e ∈ t.host.journal ↔ e ∈ s.host.journal ∧ ¬ (e.ctx = c ∧ some e.seq ∈ (s.hctx c).used.take n))
      ∧ t.mem = s.mem ∧ t.clusters = s.clusters := by
  intro n t
  obtain ⟨mem, clusters, journal, -⟩ := s.ringBell_leaves c
  have eq : t = (s.ringBell c).passRecords c v.toNat n := doCqHead_of_enabled hc enabled fits holds
  obtain ⟨head, used, mem', clusters'⟩ := (s.ringBell c).passRecords_leaves c v.toNat n
  rw [eq]
  refine ⟨head.trans (Nat.mod_eq_of_lt v.isLt), used.trans (by rw [s.hctx_ringBell]), fun e => ?_, mem'.trans mem,
    clusters'.trans clusters⟩
  rw [State.mem_journal_passRecords, journal, s.hctx_ringBell]

/-! ### ENABLE and DISABLE (R330, R331, R344) -/

/-- An ENABLE before its records go out: the rings are empty, the entries whose record was written are free, and the others are
decided. -/
def State.opened (s : State) (c : Nat) : State :=
  let u := (((s.setReg (regDb c 0) 0).setReg (regDb c 4) 0).setReg (regDb c 8) 0).setReg (regDb c 0xC) 0
  let u := u.setHctx c { HostCtx.reset with frames := (s.hctx c).frames }
  let j := (s.host.journal.filter (fun e => ¬ (e.ctx = c ∧ e.written = true))).map
    (fun e => if e.ctx = c then { e with resent := true, out := some (e.out.getD ⟨3, 4, 0, [], 0⟩) } else e)
  { u with host := { u.host with journal := j } }.setCtxState c 1

theorem State.enableCtx_eq (s : State) (c : Nat) : s.enableCtx c = (s.opened c).flushAll c := rfl

theorem State.opened_leaves (s : State) (c : Nat) : (s.opened c).clusters = s.clusters ∧ (s.opened c).runs = s.runs
    ∧ (s.opened c).ctxState c = 1 := ⟨rfl, rfl, State.ctxState_setCtxState _ c 1⟩

theorem State.decided_opened {s : State} {c : Nat} {e : JEntry} (mem : e ∈ (s.opened c).host.journal) (ctx : e.ctx = c) :
    e.out.isSome = true ∧ e.resent = true := by
  obtain ⟨x, -, rfl⟩ := List.mem_map.1 mem
  by_cases own : x.ctx = c
  · rw [if_pos own]
    exact ⟨rfl, rfl⟩
  · rw [if_neg own] at ctx
    exact absurd ctx own

/-- The registers that an ENABLE writes. -/
theorem State.regs_opened (s : State) (c : Nat) : (s.opened c).regs =
    (((((s.setReg (regDb c 0) 0).setReg (regDb c 4) 0).setReg (regDb c 8) 0).setReg (regDb c 0xC) 0).setCtxState c 1).regs := rfl

theorem State.ring_opened (s : State) {c : Nat} (hc : c < 256) : (s.opened c).reg (regDb c 0) = 0
    ∧ (s.opened c).reg (regDb c 4) = 0 ∧ (s.opened c).reg (regDb c 8) = 0 := by
  have later {o p : Nat} (lt : o < p) (hp : p < 0x1000) : regDb c p ≠ regDb c o := regDb_ne_regDb hp (by omega) (by omega)
  have state (o : Nat) : regCtx c 4 ≠ regDb c o := (regDb_ne_regCtx hc hc (by decide)).symm
  unfold State.reg
  rw [s.regs_opened]
  refine ⟨?_, ?_, ?_⟩
  · refine (State.reg_setCtxState _ (state 0) 1).trans ?_
    rw [State.reg_setReg_ne _ _ (later (by decide) (by decide)), State.reg_setReg_ne _ _ (later (by decide) (by decide)),
      State.reg_setReg_ne _ _ (later (by decide) (by decide)), State.reg_setReg_same]
  · refine (State.reg_setCtxState _ (state 4) 1).trans ?_
    rw [State.reg_setReg_ne _ _ (later (by decide) (by decide)), State.reg_setReg_ne _ _ (later (by decide) (by decide)),
      State.reg_setReg_same]
  · refine (State.reg_setCtxState _ (state 8) 1).trans ?_
    rw [State.reg_setReg_ne _ _ (later (by decide) (by decide)), State.reg_setReg_same]

theorem State.enableCtx_leaves (s : State) {c : Nat} (hc : c < 256) :
    let t := s.enableCtx c
    t.ctxState c = 1 ∧ t.reg (regDb c 0) = 0 ∧ t.reg (regDb c 4) = 0 ∧ t.reg (regDb c 8) = 0
      ∧ (∀ e ∈ t.host.journal, e.ctx = c → e.out.isSome = true ∧ e.resent = true)
      ∧ t.clusters = s.clusters ∧ t.runs = s.runs := by
  obtain ⟨clusters, runs, enabled⟩ := s.opened_leaves c
  obtain ⟨tail, head, sqHead⟩ := s.ring_opened hc
  have flushed := (s.opened c).flushAll_frame c
  have ring {o : Nat} (ho : o < 0xC) := flushed.reg (regDb c o) fun _ => regDb_ne_regDb (by omega) (by decide) (by omega)
  rw [State.enableCtx_eq]
  refine ⟨(flushed.ctxState c).trans enabled, (ring (by decide)).trans tail, (ring (by decide)).trans head,
    (ring (by decide)).trans sqHead, fun e he ctx => ?_, flushed.clusters.trans clusters, flushed.runs.trans runs⟩
  obtain ⟨x, hx, marked⟩ := flushed.journal e he
  have ctx' : x.ctx = c := (congrArg JEntry.ctx marked).symm.trans ctx
  have decided := State.decided_opened hx ctx'
  rw [marked]
  exact decided

theorem doEnable_grants {s : State} {c : Nat} (disabled : s.ctxState c = 0) (awake : s.fld (regPw 8) 1 0 = 0)
    (granted : s.enableRefused c = false) : doEnable c s = s.enableCtx c := by
  rw [doEnable, if_neg (not_not_intro disabled), if_neg (not_not_intro awake), if_neg (ne_true_of_eq_false granted)]

theorem doEnable_refuses {s : State} {c : Nat} (disabled : s.ctxState c = 0) (awake : s.fld (regPw 8) 1 0 = 0)
    (refused : s.enableRefused c = true) : doEnable c s = (s.orReg (regCtx c 4) 0x40).send (0x500 + c) 0x4B 0 true [c] := by
  rw [doEnable, if_neg (not_not_intro disabled), if_neg (not_not_intro awake), if_pos refused, ctxSrc]

theorem State.settle_setCtxState_leaves {s : State} {c : Nat} (all : s.undecided c = []) :
    let t := (s.setCtxState c 2).settle c
    t.ctxState c = 0 ∧ t.runs = s.runs ∧ t.clusters = s.clusters := by
  have flushed := (s.setCtxState c 2).flushAll_frame c
  rw [State.settle_of_decided (s := s.setCtxState c 2) (.inl (s.ctxState_setCtxState c 2)) all]
  exact ⟨State.ctxState_setCtxState _ c 0, flushed.runs, flushed.clusters⟩

/-! ### What a discard leaves (R343, R348) -/

/-- The sequence numbers of a context's journal entries differ. -/
def State.Numbered (s : State) (c : Nat) : Prop :=
  ∀ e ∈ s.host.journal, ∀ x ∈ s.host.journal, e.ctx = c → x.ctx = c → e.seq = x.seq → e = x

/-- A journal entry after an outcome was entered for a descriptor. -/
def JEntry.enter (c seq : Nat) (o : HostOut) (e : JEntry) : JEntry :=
  if e.ctx = c ∧ e.seq = seq then (if e.out.isNone then { e with out := some o } else e) else e

theorem State.journal_enterOut (s : State) (c seq : Nat) (o : HostOut) :
    (s.enterOut c seq o).host.journal = s.host.journal.map (JEntry.enter c seq o) := rfl

theorem JEntry.enter_key (c seq : Nat) (o : HostOut) (e : JEntry) :
    (e.enter c seq o).ctx = e.ctx ∧ (e.enter c seq o).seq = e.seq := by
  unfold JEntry.enter
  split
  · split <;> exact ⟨rfl, rfl⟩
  · exact ⟨rfl, rfl⟩

/-- An entry that still lacks its outcome is another descriptor's. -/
theorem JEntry.enter_undecided {c seq : Nat} {o : HostOut} {e : JEntry} (undecided : (e.enter c seq o).out = none) :
    e.enter c seq o = e ∧ ¬ (e.ctx = c ∧ e.seq = seq) := by
  unfold JEntry.enter at undecided ⊢
  split at undecided
  · split at undecided
    next => cases undecided
    next decided => exact absurd (Option.isNone_iff_eq_none.2 undecided) decided
  · next other => exact ⟨if_neg other, other⟩

theorem State.numbered_enterOut {s : State} {c : Nat} (numbered : s.Numbered c) (seq : Nat) (o : HostOut) :
    (s.enterOut c seq o).Numbered c := by
  intro e he x hx ctx ctx' same
  rw [State.journal_enterOut] at he hx
  obtain ⟨y, hy, rfl⟩ := List.mem_map.1 he
  obtain ⟨z, hz, rfl⟩ := List.mem_map.1 hx
  obtain ⟨yCtx, ySeq⟩ := y.enter_key c seq o
  obtain ⟨zCtx, zSeq⟩ := z.enter_key c seq o
  rw [numbered y hy z hz (yCtx.symm.trans ctx) (zCtx.symm.trans ctx') (ySeq.symm.trans (same.trans zSeq))]

/-- DISCARDED is entered for the descriptor of an entry, and its RUN, its requests and its end go. -/
def State.discarded (s : State) (c cause : Nat) (e : JEntry) (seq : Nat) : State :=
  let u := (s.enterOut c seq ⟨3, cause, 0, [], 0⟩).leaveBehind e
  { u with
    runs := u.runs.filter (fun x => ¬ (x.ctx = c ∧ x.seq = seq)),
    host := { u.host with
      ends := u.host.ends.filter (fun x => ¬ (x.ctx = c ∧ x.seq = seq)),
      reqs := ⟨u.host.reqs.rows.map (fun p => (p.1, p.2.filter (fun x => ¬ (x.ctx = c ∧ x.seq = seq))))⟩ } }

theorem State.discardList_cons (c cause seq : Nat) (l : List Nat) (s : State) : State.discardList c cause (seq :: l) s =
    match s.entry c seq with
    | none => State.discardList c cause l s
    | some e => if e.out.isSome then State.discardList c cause l s
        else State.discardList c cause l (s.discarded c cause e seq) := rfl

/-- A load in progress leaves the mark INVALID of its slot or bank (R348). -/
theorem State.leaveBehind_eq (s : State) (e : JEntry) : s.leaveBehind e = s ∨
    ∃ o hi lo, (o = 0x80 ∨ o = 0x84) ∧ s.leaveBehind e = s.setFld (regCtx e.ctx o) hi lo 3 := by
  unfold State.leaveBehind
  split
  · exact .inr ⟨0x84, _, _, .inr rfl, rfl⟩
  · split
    · exact .inr ⟨0x80, _, _, .inl rfl, rfl⟩
    · exact .inl rfl

theorem State.journal_discarded (s : State) (c cause : Nat) (e : JEntry) (seq : Nat) :
    (s.discarded c cause e seq).host.journal = (s.enterOut c seq ⟨3, cause, 0, [], 0⟩).host.journal := by
  rcases (s.enterOut c seq ⟨3, cause, 0, [], 0⟩).leaveBehind_eq e with same | ⟨o, hi, lo, -, marked⟩
  · rw [State.discarded, same]
  · rw [State.discarded, marked]
    rfl

/-- The states of the contexts lie apart from the marks of their slots and banks. -/
theorem State.ctxState_discarded (s : State) (c cause : Nat) (e : JEntry) (seq d : Nat) :
    (s.discarded c cause e seq).ctxState d = s.ctxState d := by
  rcases (s.enterOut c seq ⟨3, cause, 0, [], 0⟩).leaveBehind_eq e with same | ⟨o, hi, lo, place, marked⟩
  · rw [State.discarded, same]
    rfl
  · rw [State.discarded, marked]
    exact State.fld_setFld_ne _ (regCtx_ne_regCtx (by omega) (by decide) (by omega)) ..

theorem State.ctxState_discardList (c cause d : Nat) (l : List Nat) (s : State) :
    (State.discardList c cause l s).ctxState d = s.ctxState d := by
  induction l generalizing s with
  | nil => rfl
  | cons seq l ih =>
    rw [State.discardList_cons]
    split
    · exact ih s
    · split
      · exact ih s
      · exact (ih _).trans (s.ctxState_discarded ..)

/-- An entry of the context that a discard leaves without outcome had none before, and its number is not among those discarded. -/
theorem State.undecided_discardList {c : Nat} (cause : Nat) {l : List Nat} {s : State} (numbered : s.Numbered c) {x : JEntry}
    (hx : x ∈ (State.discardList c cause l s).host.journal) (ctx : x.ctx = c) (undecided : x.out = none) :
    x ∈ s.host.journal ∧ x.seq ∉ l := by
  induction l generalizing s with
  | nil => exact ⟨hx, List.not_mem_nil⟩
  | cons seq l ih =>
    rw [State.discardList_cons] at hx
    split at hx
    next absent =>
      obtain ⟨mem, other⟩ := ih numbered hx
      refine ⟨mem, List.not_mem_cons_of_ne_of_not_mem (fun same => ?_) other⟩
      have := List.find?_eq_none.1 absent x mem
      simp [ctx, same] at this
    next e found =>
      have mem' := List.mem_of_find?_eq_some found
      have key := List.find?_some found
      simp only [Bool.and_eq_true, decide_eq_true_eq] at key
      obtain ⟨ctx', seq'⟩ := key
      split at hx
      next decided =>
        obtain ⟨mem, other⟩ := ih numbered hx
        refine ⟨mem, List.not_mem_cons_of_ne_of_not_mem (fun same => ?_) other⟩
        rw [numbered e mem' x mem ctx' ctx (seq'.trans same.symm), undecided] at decided
        cases decided
      next =>
        have journal := s.journal_discarded c cause e seq
        have numbered' : (s.discarded c cause e seq).Numbered c := by
          unfold State.Numbered
          rw [journal]
          exact State.numbered_enterOut numbered seq _
        obtain ⟨mem, other⟩ := ih numbered' hx
        rw [journal, State.journal_enterOut] at mem
        obtain ⟨y, hy, rfl⟩ := List.mem_map.1 mem
        obtain ⟨same, apart⟩ := JEntry.enter_undecided undecided
        rw [same] at ctx other ⊢
        exact ⟨hy, List.not_mem_cons_of_ne_of_not_mem (fun eq => apart ⟨ctx, eq⟩) other⟩

/-- R343: no descriptor of the context lacks its outcome. -/
theorem State.undecided_discardAll {s : State} {c : Nat} (numbered : s.Numbered c) (cause : Nat) :
    (s.discardAll c cause).undecided c = [] := by
  refine List.eq_nil_iff_forall_not_mem.2 fun e he => ?_
  obtain ⟨mem, ctx, undecided⟩ := State.mem_undecided.1 he
  obtain ⟨before, other⟩ := State.undecided_discardList cause numbered mem ctx undecided
  exact other (List.mem_map_of_mem (State.mem_undecided.2 ⟨before, ctx, undecided⟩))

/-! ### What stopping the work of a context leaves alone (R343, R452, R517) -/

/-- From s to t jobs went quiet or clusters stopped: the host interface, the RUNs and the decisions stay, and the state register of
every context. -/
structure HostFrame (s t : State) : Prop where
  host : t.host = s.host
  runs : t.runs = s.runs
  decs : t.decs = s.decs
  reg : ∀ c, c < 256 → t.reg (regCtx c 4) = s.reg (regCtx c 4)

namespace HostFrame

theorem refl (s : State) : HostFrame s s := ⟨rfl, rfl, rfl, fun _ _ => rfl⟩

theorem trans {s t u : State} (h : HostFrame s t) (k : HostFrame t u) : HostFrame s u :=
  ⟨k.host.trans h.host, k.runs.trans h.runs, k.decs.trans h.decs, fun c hc => (k.reg c hc).trans (h.reg c hc)⟩

theorem foldl {α : Type} {f : State → α → State} {l : List α} (h : ∀ t, ∀ x ∈ l, HostFrame t (f t x)) (s : State) :
    HostFrame s (l.foldl f s) :=
  List.foldlRecOn (motive := HostFrame s) l f (.refl s) fun t same x hx => same.trans (h t x hx)

theorem setReg (s : State) {off : Nat} (apart : ∀ c, c < 256 → off ≠ regCtx c 4) (v : Word32) : HostFrame s (s.setReg off v) :=
  ⟨rfl, rfl, rfl, fun c hc => State.reg_setReg_ne _ _ (apart c hc)⟩

theorem setFld (s : State) {off : Nat} (apart : ∀ c, c < 256 → off ≠ regCtx c 4) (hi lo v : Nat) :
    HostFrame s (s.setFld off hi lo v) := setReg s apart _

theorem ctxState {s t : State} (h : HostFrame s t) {c : Nat} (hc : c < 256) : t.ctxState c = s.ctxState c :=
  State.ctxState_congr (h.reg c hc)

end HostFrame

theorem regJob_ne_regCtx {j o : Nat} : ∀ c, c < 256 → regJob j o ≠ regCtx c 4 := by
  unfold regJob regVd regCtx
  omega

theorem State.setVd_hostFrame (s : State) (v : VdSt) : HostFrame s { s with vd := v } := ⟨rfl, rfl, rfl, fun _ _ => rfl⟩

theorem State.jSend_hostFrame (s : State) (j p kind epoch att aux msg : Nat) :
    HostFrame s (s.jSend j p kind epoch att aux msg) := s.setVd_hostFrame _

theorem State.jobQuiet_hostFrame (s : State) (j cause : Nat) (from_ : Option Nat) : HostFrame s (s.jobQuiet j cause from_) := by
  unfold State.jobQuiet
  split
  · exact .refl s
  · extract_lets a mine tr _ b d
    have sent : HostFrame s a := HostFrame.foldl (fun t p _ => t.jSend_hostFrame ..) s
    have cut : HostFrame a b := a.setVd_hostFrame _
    have quiet : HostFrame b d := (HostFrame.setFld b regJob_ne_regCtx ..).trans (HostFrame.setFld _ regJob_ne_regCtx ..)
    exact sent.trans (cut.trans (quiet.trans (d.setVd_hostFrame _)))

theorem State.quietJobs_hostFrame (s : State) (c cause : Nat) (from_ : Option (Nat × Nat)) :
    HostFrame s (s.quietJobs c cause from_) := by
  refine HostFrame.foldl (fun t j _ => ?_) s
  split
  · exact State.jobQuiet_hostFrame ..
  · exact .refl t

/-- The registers that a stop or a reset of a cluster writes lie below those of the contexts. -/
theorem ne_regCtx_of_low {off : Nat} (low : off < 0x200000) : ∀ c, c < 256 → off ≠ regCtx c 4 := by
  unfold regCtx
  omega

theorem State.setCl_hostFrame (s : State) (k : Nat) (x : Cluster) : HostFrame s (s.setCl k x) := ⟨rfl, rfl, rfl, fun _ _ => rfl⟩

theorem State.halt_hostFrame (s : State) {k : Nat} (hk : k < 64) : HostFrame s (s.halt k) := by
  have edge : regEe (dieOf k) 4 < 0x200000 := by unfold regEe dieOf; omega
  unfold State.halt
  split
  · dsimp only
    split
    · exact (HostFrame.setFld s (ne_regCtx_of_low edge) ..).trans (State.setCl_hostFrame ..)
    · exact State.setCl_hostFrame ..
  · exact .refl s

theorem State.bumpGen_hostFrame (s : State) {k : Nat} (hk : k < 64) : HostFrame s (s.bumpGen k) := by
  have gen : regCl k 0xC < 0x200000 := by unfold regCl; omega
  simp only [State.bumpGen, if_pos hk]
  exact (HostFrame.setFld s (ne_regCtx_of_low gen) ..).trans ⟨rfl, rfl, rfl, fun _ _ => rfl⟩

theorem State.reqReset_hostFrame (s : State) {k : Nat} (hk : k < 64) : HostFrame s (s.reqReset k) := by
  simp only [State.reqReset]
  split
  · exact .refl s
  · exact (State.setCl_hostFrame ..).trans ((State.halt_hostFrame _ hk).trans ((State.bumpGen_hostFrame _ hk).trans
      ⟨rfl, rfl, rfl, fun _ _ => rfl⟩))

theorem State.lt_of_mem_ctxClusters {s : State} {c k : Nat} (hk : k ∈ s.ctxClusters c) : k < 64 :=
  List.mem_range.1 (List.mem_filter.1 hk).1

/-! ### ABORT (R343) -/

/-- The clusters of a context stop. -/
def State.stopCtx (s : State) (c : Nat) : State :=
  (s.ctxClusters c).foldl (fun (s : State) k =>
    (s.updSeq k (fun q => { q with st := .stopped, wait := .none, isOpen := false })).halt k) s

theorem State.stopCtx_hostFrame (s : State) (c : Nat) : HostFrame s (s.stopCtx c) :=
  HostFrame.foldl (fun _ _ hk => (State.setCl_hostFrame ..).trans (State.halt_hostFrame _ (State.lt_of_mem_ctxClusters hk))) s

/-- The RUNs, the decisions and the decode requests of a context go. -/
def State.dropWork (s : State) (c : Nat) : State :=
  let u := s.dropRequests c
  { u with runs := u.runs.filter (fun r => r.ctx ≠ c), decs := u.decs.filter (fun d => d.ctx ≠ c) }

theorem State.abortCore_eq (s : State) (c cause : Nat) :
    s.abortCore c [] cause = ((((s.setCtxState c 3).stopCtx c).discardAll c cause).dropWork c).settle c := by
  simp only [State.abortCore, State.discardList]
  rfl

theorem State.dropWork_leaves (s : State) (c : Nat) : (s.dropWork c).ctxState c = s.ctxState c
    ∧ (s.dropWork c).undecided c = s.undecided c
    ∧ (∀ r ∈ (s.dropWork c).runs, r.ctx ≠ c) ∧ ∀ d ∈ (s.dropWork c).decs, d.ctx ≠ c :=
  ⟨rfl, rfl, fun _ hr => of_decide_eq_true (List.mem_filter.1 hr).2, fun _ hd => of_decide_eq_true (List.mem_filter.1 hd).2⟩

/-- What a context has after its abort: it is DISABLED, every descriptor is decided, and no RUN and no decision is its own. -/
structure State.Aborted (s : State) (c : Nat) : Prop where
  disabled : s.ctxState c = 0
  decided : s.undecided c = []
  runs : ∀ r ∈ s.runs, r.ctx ≠ c
  decs : ∀ d ∈ s.decs, d.ctx ≠ c

theorem HostFrame.aborted {s t : State} (h : HostFrame s t) {c : Nat} (hc : c < 256) (k : s.Aborted c) : t.Aborted c where
  disabled := (h.ctxState hc).trans k.disabled
  decided := by
    rw [State.undecided, State.entries, h.host]
    exact k.decided
  runs := h.runs ▸ k.runs
  decs := h.decs ▸ k.decs

theorem State.aborted_settle {s : State} {c : Nat} (aborts : s.ctxState c = 3) (all : s.undecided c = [])
    (runs : ∀ r ∈ s.runs, r.ctx ≠ c) (decs : ∀ d ∈ s.decs, d.ctx ≠ c) : (s.settle c).Aborted c := by
  have flushed := s.flushAll_frame c
  rw [State.settle_of_decided (.inr aborts) all]
  exact ⟨State.ctxState_setCtxState _ c 0, flushed.undecided all, flushed.runs ▸ runs, flushed.decs ▸ decs⟩

theorem State.aborted_abortCore {s : State} {c : Nat} (hc : c < 256) (numbered : s.Numbered c) (cause : Nat) :
    (s.abortCore c [] cause).Aborted c := by
  have stopped := (s.setCtxState c 3).stopCtx_hostFrame c
  have numbered' : ((s.setCtxState c 3).stopCtx c).Numbered c := by
    unfold State.Numbered
    rw [stopped.host]
    exact numbered
  obtain ⟨state, undecided, runs, decs⟩ := (((s.setCtxState c 3).stopCtx c).discardAll c cause).dropWork_leaves c
  rw [State.abortCore_eq]
  refine State.aborted_settle ?_ (undecided.trans (State.undecided_discardAll numbered' cause)) runs decs
  rw [state, State.discardAll, State.ctxState_discardList, stopped.ctxState hc, State.ctxState_setCtxState]

theorem State.aborted_abortCtx {s : State} {c : Nat} (hc : c < 256) (numbered : s.Numbered c)
    (works : s.ctxState c = 1 ∨ s.ctxState c = 2) (cause jobCause : Nat) : (s.abortCtx c [] cause jobCause).Aborted c := by
  have quiet := s.quietJobs_hostFrame c jobCause none
  have numbered' : (s.quietJobs c jobCause none).Numbered c := by
    unfold State.Numbered
    rw [quiet.host]
    exact numbered
  have core := State.aborted_abortCore hc numbered' cause
  simp only [State.abortCtx]
  rw [if_neg (by rw [quiet.ctxState hc]; omega)]
  split
  · exact core
  · exact (HostFrame.foldl (fun t k hk => t.reqReset_hostFrame (State.lt_of_mem_ctxClusters hk)) _).aborted hc core

theorem doAbort_aborts {s : State} {c : Nat} (works : s.ctxState c = 1 ∨ s.ctxState c = 2) :
    doAbort c s = s.abortCtx c [] 3 2 := by
  rw [doAbort, if_neg (by omega)]

/-! ### What the page manager leaves alone (R167 to R169) -/

/-- From s to t the page manager worked: the host interface and the clusters stay, and the state register of every context. -/
structure HubFrame (s t : State) : Prop where
  host : t.host = s.host
  clusters : t.clusters = s.clusters
  reg : ∀ c, c < 256 → t.reg (regCtx c 4) = s.reg (regCtx c 4)

namespace HubFrame

theorem refl (s : State) : HubFrame s s := ⟨rfl, rfl, fun _ _ => rfl⟩

theorem trans {s t u : State} (h : HubFrame s t) (k : HubFrame t u) : HubFrame s u :=
  ⟨k.host.trans h.host, k.clusters.trans h.clusters, fun c hc => (k.reg c hc).trans (h.reg c hc)⟩

theorem foldl {α : Type} {f : State → α → State} {l : List α} {s u : State} (h : ∀ t x, HubFrame t (f t x))
    (start : HubFrame s u) : HubFrame s (l.foldl f u) :=
  List.foldlRecOn (motive := HubFrame s) l f start fun t same x _ => same.trans (h t x)

theorem setReg {s t : State} (h : HubFrame s t) {off : Nat} (apart : ∀ c, c < 256 → off ≠ regCtx c 4) (v : Word32) :
    HubFrame s (t.setReg off v) := h.trans ⟨rfl, rfl, fun c hc => State.reg_setReg_ne _ _ (apart c hc)⟩

theorem setFld {s t : State} (h : HubFrame s t) {off : Nat} (apart : ∀ c, c < 256 → off ≠ regCtx c 4) (hi lo v : Nat) :
    HubFrame s (t.setFld off hi lo v) := h.setReg apart _

theorem send (s : State) (src kind addr : Nat) (c : Bool) (l : List Nat) : HubFrame s (s.send src kind addr c l) :=
  ⟨rfl, rfl, fun _ _ => rfl⟩

end HubFrame

theorem regHbs_ne_regCtx {st o : Nat} : ∀ c, c < 256 → regHbs st o ≠ regCtx c 4 := by
  unfold regHbs regCtx
  omega

theorem regKv_ne_regCtx {o : Nat} : ∀ c, c < 256 → regKv o ≠ regCtx c 4 := by
  unfold regKv regCtx
  omega

theorem pageCount_ne_regCtx {d : Nat} : ∀ c, c < 256 → regCtx d 0x40C ≠ regCtx c 4 :=
  fun _ _ => regCtx_ne_regCtx (by decide) (by decide) (by decide)

theorem State.hbNote_hubFrame (s : State) (off : Nat) (l : List (Nat × Finding × Gran)) : HubFrame s (s.hbNote off l) := by
  have wrote {t : State} (h : HubFrame s t) (st o : Nat) (v : Word32) := h.setReg (regHbs_ne_regCtx (st := st) (o := o)) v
  unfold State.hbNote
  split
  · exact .refl s
  · dsimp only
    refine HubFrame.foldl (fun t x => ?_) (wrote (wrote (wrote (wrote (wrote (.refl s) _ _ _) _ _ _) _ _ _) _ _ _) _ _ _)
    split
    · split
      · exact .refl t
      · split
        · split
          · exact .refl t
          · exact ⟨rfl, rfl, fun _ _ => rfl⟩
        · exact .send ..
    · exact .refl t

theorem State.hubNote_hubFrame (s : State) (space off : Nat) (l : List (Nat × Finding × Gran)) :
    HubFrame s (s.hubNote space off l) := by
  unfold State.hubNote
  refine HubFrame.foldl (fun t x => ?_) (.refl s)
  split
  · split
    · exact .refl t
    · exact .send ..
  · exact .refl t

theorem State.unitNote_hubFrame (s : State) (space off : Nat) (l : List (Nat × Finding × Gran)) :
    HubFrame s (s.unitNote space off l) := by
  unfold State.unitNote
  split
  · exact s.hbNote_hubFrame off l
  · split
    · exact s.hubNote_hubFrame space off l
    · exact .refl s

theorem State.hubPut_hubFrame (s : State) (space off : Nat) (bs : List Byte) : HubFrame s (s.hubPut space off bs) := by
  unfold State.hubPut State.hubWrite
  refine HubFrame.foldl (fun t u => ?_) (.refl s)
  refine HubFrame.trans ?_ (State.unitNote_hubFrame ..)
  split <;> exact ⟨rfl, rfl, fun _ _ => rfl⟩

theorem State.hbmNat_hubFrame (s : State) (off n : Nat) : HubFrame s (s.hbmNat off n).2 :=
  HubFrame.foldl (fun _ _ => State.unitNote_hubFrame ..) (.refl s)

theorem State.kvSetFree_hubFrame (s : State) (l : List Nat) : HubFrame s (s.kvSetFree l) :=
  HubFrame.setReg (s := s) (t := { s with kv := { s.kv with free := l } }) ⟨rfl, rfl, fun _ _ => rfl⟩ regKv_ne_regCtx _

theorem State.kvQuarantine_hubFrame (s : State) (n : Nat) : HubFrame s (s.kvQuarantine n) :=
  (s.kvSetFree_hubFrame _).trans ⟨rfl, rfl, fun _ _ => rfl⟩

theorem State.kvGiveBack_hubFrame (s : State) (n : Nat) : HubFrame s (s.kvGiveBack n) := by
  unfold State.kvGiveBack
  split
  · exact .refl s
  · exact s.kvSetFree_hubFrame _

theorem State.kvDrop_hubFrame (s : State) (n k uses : Nat) : HubFrame s (s.kvDrop n k uses) := by
  have counted : HubFrame s (s.kvSetCount n (k - uses)) := s.hubPut_hubFrame ..
  unfold State.kvDrop
  dsimp only
  split
  · exact counted.trans (State.kvGiveBack_hubFrame ..)
  · exact counted

theorem State.kvRefuse_hubFrame (s : State) (ctx err addr : Nat) : HubFrame s (s.kvRefuse ctx err addr) :=
  ((HubFrame.refl s).setFld pageCount_ne_regCtx ..).trans (.send ..)

theorem State.setPte_hubFrame (s : State) (ctx hg tb : Nat) (was : Bool) (p : Pte) : HubFrame s (s.setPte ctx hg tb was p) := by
  have put := s.hubPut_hubFrame 0 (s.pteAt ctx hg tb) (leBytes 4 p.word)
  unfold State.setPte
  dsimp only
  split
  · exact put
  · exact put.setFld pageCount_ne_regCtx ..

theorem State.ptes_hubFrame (s : State) (ctx hg tb n : Nat) : HubFrame s (s.ptes ctx hg tb n).2 := by
  induction n generalizing s tb with
  | zero => exact .refl s
  | succ n ih =>
    have read : HubFrame s (s.pte ctx hg tb).2 := s.hbmNat_hubFrame ..
    rw [State.ptes]
    dsimp only
    split
    · exact read.trans (State.kvQuarantine_hubFrame ..)
    · exact read.trans (ih ..)

theorem State.kvCounts_hubFrame (s : State) (l : List Nat) : HubFrame s (s.kvCounts l).2 := by
  induction l generalizing s with
  | nil => exact .refl s
  | cons n l ih =>
    have read : HubFrame s (s.kvCount n).2 := s.hbmNat_hubFrame ..
    rw [State.kvCounts]
    dsimp only
    split
    · exact read.trans (State.kvQuarantine_hubFrame ..)
    · exact read.trans (ih _)

theorem State.kvRelease_hubFrame (s : State) (ctx hg tb n addr : Nat) : HubFrame s (s.kvRelease ctx hg tb n addr).2 := by
  have entries := s.ptes_hubFrame ctx hg tb n
  unfold State.kvRelease
  dsimp only
  split
  · exact entries.trans (State.kvRefuse_hubFrame ..)
  · have counts (l : List Nat) := entries.trans ((s.ptes ctx hg tb n).2.kvCounts_hubFrame l)
    split
    · exact (counts _).trans (State.kvRefuse_hubFrame ..)
    · exact HubFrame.foldl (fun _ _ => State.kvDrop_hubFrame ..) (HubFrame.foldl (fun _ _ => State.setPte_hubFrame ..) (counts _))

/-! ### RESET of a context (R331) -/

/-- The page-table entries of a context are released. -/
def State.releasePages (s : State) (c : Nat) : State :=
  if s.fld (regCtx c 0x408) 7 7 = 1 then (upTo 64).foldl (fun (s : State) hg => (s.kvRelease c hg 0 4096 0).2) s else s

theorem State.releasePages_hubFrame (s : State) (c : Nat) : HubFrame s (s.releasePages c) := by
  unfold State.releasePages
  split
  · exact HubFrame.foldl (fun _ _ => State.kvRelease_hubFrame ..) (.refl s)
  · exact .refl s

theorem doContextReset_resets {s : State} {c : Nat} (disabled : s.ctxState c = 0) : doContextReset c s =
    ((s.releasePages c).setReg (regCtx c 0x80) 0).setReg (regCtx c 0x84) 0 := if_neg (not_not_intro disabled)

theorem doContextReset_leaves {s : State} {c : Nat} (hc : c < 256) (disabled : s.ctxState c = 0) :
    let t := doContextReset c s
    t.ctxState c = 0 ∧ t.reg (regCtx c 0x80) = 0 ∧ t.reg (regCtx c 0x84) = 0 ∧ t.clusters = s.clusters
      ∧ t.host.journal = s.host.journal := by
  have released := s.releasePages_hubFrame c
  have other {o p : Nat} (ho : o < 0x1000) (hp : p < 0x1000) (apart : o ≠ p) := regCtx_ne_regCtx (c := c) (d := c) ho hp apart
  rw [doContextReset_resets disabled]
  refine ⟨?_, ?_, State.reg_setReg_same .., released.clusters, congrArg HostSt.journal released.host⟩
  · rw [← disabled]
    refine State.ctxState_congr ?_
    rw [State.reg_setReg_ne _ _ (other (by decide) (by decide) (by decide)),
      State.reg_setReg_ne _ _ (other (by decide) (by decide) (by decide)), released.reg c hc]
  · rw [State.reg_setReg_ne _ _ (other (by decide) (by decide) (by decide)), State.reg_setReg_same]

/-! ### The statement -/

/-- Settles O14: each command by the equation of its state and by what that state leaves. -/
theorem contextCommands : Obligations.ContextCommands := by
  unfold Obligations.ContextCommands
  intro s c hc
  have wf : below 256 c = true := decide_eq_true hc
  refine ⟨fun v awake enabled fits => ⟨_, exec_sqTail wf, doSqTail_leaves hc awake enabled fits⟩,
    fun v refused => (exec_sqTail wf).trans (congrArg _ (doSqTail_refused refused)),
    ?_, ?_, ?_, ?_, ?_, ?_, ?_,
    fun disabled => ⟨_, exec_contextReset wf, doContextReset_leaves hc disabled⟩⟩
  · intro v _ enabled fits n holds
    exact ⟨_, exec_cqHead wf, doCqHead_leaves hc enabled fits holds⟩
  · intro disabled awake granted
    refine ⟨s.enableCtx c, ?_, s.enableCtx_leaves hc⟩
    rw [exec_enable wf, doEnable_grants disabled awake granted]
  · intro disabled awake refused
    rw [exec_enable wf, doEnable_refuses disabled awake refused]
  · intro wrong
    exact ⟨(exec_enable wf).trans (congrArg _ (if_pos wrong)), (exec_contextReset wf).trans (congrArg _ (if_pos wrong))⟩
  · intro enabled waits
    rw [exec_disable wf, doDisable, if_neg (not_not_intro enabled), State.settle_of_undecided (s := s.setCtxState c 2) waits]
    rfl
  · intro enabled all
    refine ⟨_, ?_, State.settle_setCtxState_leaves all⟩
    rw [exec_disable wf, doDisable, if_neg (not_not_intro enabled)]
  · intro numbered works
    obtain ⟨disabled, decided, runs, decs⟩ := State.aborted_abortCtx hc numbered works 3 2
    refine ⟨_, ?_, disabled, decided, runs, decs⟩
    rw [exec_abort wf, doAbort_aborts works]

end Sys2Proof.Machine
end

section
/-! PROOFS. Registers, messages and marks of the sensor ports: what a field reads after a write of a wider one, and what
the messages and the marks of a port leave alone. -/

namespace Sys2Proof.Machine

/-! ### Fields of registers -/

/-- Registers of camera ports lie apart. -/
theorem regAp_ne {p q o o' : Nat} (ho : o < 0x1000) (ho' : o' < 0x1000) (apart : p ≠ q ∨ o ≠ o') :
    regAp p o ≠ regAp q o' := by
  unfold regAp
  omega

/-- A field is read off the low part of its register. -/
theorem State.fld_low (s : State) (off : Nat) {hi hi' lo' : Nat} (h' : lo' ≤ hi') (inside : hi' ≤ hi) :
    s.fld off hi' lo' = bitsOf (s.fld off hi 0) hi' lo' := by
  rw [State.fld, State.fld, bitsOf_zero, bitsOf_mod _ _ _ _ (Nat.lt_succ_of_le inside) h']

theorem State.fld_setFld_low (s : State) (off v : Nat) {hi hi' lo' : Nat} (h' : lo' ≤ hi') (inside : hi' ≤ hi) (hw : hi < 32) :
    (s.setFld off hi 0 v).fld off hi' lo' = bitsOf v hi' lo' := by
  rw [State.fld_low _ off h' inside, State.fld_setFld _ _ _ (Nat.zero_le hi) hw, Nat.sub_zero,
    bitsOf_mod _ _ _ _ (Nat.lt_succ_of_le inside) h']

/-- Registers and fields are read off the register table. -/
theorem State.reg_of_regs {s t : State} (regs : t.regs = s.regs) (off : Nat) : t.reg off = s.reg off := by
  rw [State.reg, regs, State.reg]

theorem State.fld_of_regs {s t : State} (regs : t.regs = s.regs) (off hi lo : Nat) : t.fld off hi lo = s.fld off hi lo := by
  rw [State.fld, State.reg_of_regs regs, State.fld]

theorem State.toNat_reg (s : State) (off : Nat) : (s.reg off).toNat = s.fld off 31 0 := by
  rw [State.fld, bitsOf_zero, Nat.mod_eq_of_lt (s.reg off).isLt]

theorem State.fld_lt (s : State) (off hi lo : Nat) : s.fld off hi lo < 2 ^ (hi + 1 - lo) := Nat.mod_lt _ (Nat.two_pow_pos _)

/-- A counter saturates at its width. -/
theorem State.fld_bump (s : State) (off k : Nat) {hi lo : Nat} (h : lo ≤ hi) (hw : hi < 32) :
    (s.bump off hi lo k).fld off hi lo = min (s.fld off hi lo + k) (2 ^ (hi + 1 - lo) - 1) := by
  have pos : 0 < 2 ^ (hi + 1 - lo) := Nat.two_pow_pos _
  rw [State.bump, State.fld_setFld _ _ _ h hw, satAdd, Nat.mod_eq_of_lt (by omega)]

/-! ### Messages and marks -/

/-- A message of a limited kind changes the fault network and its limits alone. -/
theorem State.sendLimited_eq (s : State) (src kind addr : Nat) :
    ∃ net seqs lims, s.sendLimited src kind addr = { s with net := net, srcSeq := seqs, rateLim := lims } := by
  unfold State.sendLimited
  dsimp only
  split
  · exact ⟨_, _, _, rfl⟩
  · exact ⟨_, _, _, rfl⟩

/-- What a message of a limited kind cannot change. -/
theorem State.sendLimited_keeps {α : Type} (f : State → α) (s : State) (src kind addr : Nat)
    (same : ∀ net seqs lims, f { s with net := net, srcSeq := seqs, rateLim := lims } = f s := by intros; rfl) :
    f (s.sendLimited src kind addr) = f s := by
  obtain ⟨net, seqs, lims, e⟩ := s.sendLimited_eq src kind addr
  rw [e, same]

/-- The POWER marks change camera frames alone. -/
theorem State.powerMark_eq (s : State) (port : Nat) :
    ∃ cams : Table CamSt, s.powerMark port = { s with sens := { s.sens with cams := cams } } := by
  refine List.foldlRecOn (motive := fun t => ∃ cams : Table CamSt, t = { s with sens := { s.sens with cams := cams } })
    (upTo 4) _ ⟨s.sens.cams, rfl⟩ ?_
  rintro _ ⟨cams, rfl⟩ v -
  dsimp only
  split
  · exact ⟨_, rfl⟩
  · exact ⟨cams, rfl⟩

/-- What the POWER marks cannot change. -/
theorem State.powerMark_keeps {α : Type} (f : State → α) (s : State) (port : Nat)
    (same : ∀ cams, f { s with sens := { s.sens with cams := cams } } = f s := by intros; rfl) : f (s.powerMark port) = f s := by
  obtain ⟨cams, e⟩ := s.powerMark_eq port
  rw [e, same]

end Sys2Proof.Machine
end

section
/-! PROOFS. The coax supply (O22, O59): its moves between the states of a port, and the budget over all ports. -/

namespace Sys2Proof.Machine

/-! ### The registers of a port's supply -/

/-- AP_POC and AP_POCSTAT are two registers. -/
theorem pocStat_ne_poc (p q : Nat) : regAp p 0x34 ≠ regAp q 0x30 := regAp_ne (by decide) (by decide) (.inr (by decide))

section
variable (s : State) (port v : Nat)

theorem State.poc_setPoc (named : v < 8) : (s.setPoc port v).poc port = v := by
  rw [State.poc, State.setPoc, State.fld_setFld _ _ _ (by decide) (by decide)]
  exact Nat.mod_eq_of_lt named

/-- AP_POCSTAT.STATE is a field of its own. -/
theorem State.poc_setFld_stat {hi lo : Nat} (h : lo ≤ hi) (below : hi < 25) :
    (s.setFld (regAp port 0x34) hi lo v).poc port = s.poc port :=
  s.fld_setFld_disjoint _ v h (by decide) (by decide) (.inl below)

/-- A write of AP_POC leaves every state. -/
theorem State.poc_setFld_poc (q hi lo : Nat) : (s.setFld (regAp q 0x30) hi lo v).poc port = s.poc port :=
  s.fld_setFld_ne (pocStat_ne_poc port q).symm ..

/-- A change of state leaves AP_POC. -/
theorem State.fld_setPoc (q hi lo : Nat) : (s.setPoc port v).fld (regAp q 0x30) hi lo = s.fld (regAp q 0x30) hi lo :=
  s.fld_setFld_ne (pocStat_ne_poc port q) ..

theorem State.fld_powerMark (off hi lo : Nat) : (s.powerMark port).fld off hi lo = s.fld off hi lo :=
  State.fld_of_regs (s.powerMark_keeps State.regs port) ..

theorem State.poc_powerMark (q : Nat) : (s.powerMark port).poc q = s.poc q := s.fld_powerMark ..

end

/-! ### The other ports -/

/-- From s to t the supplies of the ports other than `port` stayed. -/
structure CoaxFrame (port : Nat) (s t : State) : Prop where
  setting : ∀ p, p ≠ port → t.reg (regAp p 0x30) = s.reg (regAp p 0x30)
  status : ∀ p, p ≠ port → t.reg (regAp p 0x34) = s.reg (regAp p 0x34)

namespace CoaxFrame

variable {port : Nat} {s t u : State}

theorem refl (port : Nat) (s : State) : CoaxFrame port s s := ⟨fun _ _ => rfl, fun _ _ => rfl⟩

theorem of_regs (h : CoaxFrame port s t) (regs : u.regs = t.regs) : CoaxFrame port s u :=
  ⟨fun p other => (State.reg_of_regs regs _).trans (h.setting p other),
    fun p other => (State.reg_of_regs regs _).trans (h.status p other)⟩

theorem setFld (h : CoaxFrame port s t) {o : Nat} (ho : o < 0x1000) (hi lo v : Nat) :
    CoaxFrame port s (t.setFld (regAp port o) hi lo v) where
  setting p other := (State.reg_setReg_ne _ _ (regAp_ne ho (by decide) (.inl other.symm))).trans (h.setting p other)
  status p other := (State.reg_setReg_ne _ _ (regAp_ne ho (by decide) (.inl other.symm))).trans (h.status p other)

theorem setPoc (h : CoaxFrame port s t) (v : Nat) : CoaxFrame port s (t.setPoc port v) := h.setFld (by decide) ..

theorem powerMark (h : CoaxFrame port s t) (q : Nat) : CoaxFrame port s (t.powerMark q) :=
  h.of_regs (t.powerMark_keeps State.regs q)

theorem poc (h : CoaxFrame port s t) {p : Nat} (other : p ≠ port) : t.poc p = s.poc p := by
  rw [State.poc, State.fld, h.status p other, State.poc, State.fld]

end CoaxFrame

/-! ### The budget (R362) -/

/-- What a port counts in the budget: its PLIM in RAMP and ON. -/
def State.coaxDraw (s : State) (p : Nat) : Nat := if s.poc p = 1 ∨ s.poc p = 2 then s.fld (regAp p 0x30) 12 8 else 0

def State.coaxSum (s : State) : Nat := ((List.range 16).map s.coaxDraw).sum

theorem State.coaxDraw_idle {s : State} {p : Nat} (idle : ¬ (s.poc p = 1 ∨ s.poc p = 2)) : s.coaxDraw p = 0 := if_neg idle

theorem State.coaxDraw_congr {s t : State} {p : Nat} (state : t.poc p = s.poc p)
    (limit : t.fld (regAp p 0x30) 12 8 = s.fld (regAp p 0x30) 12 8) : t.coaxDraw p = s.coaxDraw p := by
  rw [State.coaxDraw, state, limit, State.coaxDraw]

/-- The model adds the limits up port by port. -/
theorem State.foldl_coaxDraw (s : State) (l : List Nat) (a : Nat) :
    l.foldl (fun a p => if s.poc p = 1 ∨ s.poc p = 2 then a + s.fld (regAp p 0x30) 12 8 else a) a
      = a + (l.map s.coaxDraw).sum := by
  induction l generalizing a with
  | nil => rfl
  | cons p l ih =>
    rw [List.foldl_cons, ih, List.map_cons, List.sum_cons, State.coaxDraw]
    split <;> omega

/-- Two sums over a list that differ at one member. -/
theorem sum_map_change {f g : Nat → Nat} {p : Nat} (same : ∀ q, q ≠ p → g q = f q) {l : List Nat} (nodup : l.Nodup)
    (mem : p ∈ l) : (l.map g).sum + f p = (l.map f).sum + g p := by
  induction l with
  | nil => exact (List.not_mem_nil mem).elim
  | cons x l ih =>
    obtain ⟨fresh, nodup⟩ := List.nodup_cons.1 nodup
    rw [List.map_cons, List.sum_cons, List.map_cons, List.sum_cons]
    by_cases own : x = p
    · subst own
      have rest : l.map g = l.map f := List.map_congr_left fun q member => same q fun e => fresh (e ▸ member)
      rw [rest]
      omega
    · have inner := ih nodup ((List.mem_cons.1 mem).resolve_left (Ne.symm own))
      rw [same x own]
      omega

namespace CoaxFrame

variable {port : Nat} {s t : State}

/-- The sum moves with the draw of the one port. -/
theorem coaxSum (h : CoaxFrame port s t) (hport : port < 16) :
    t.coaxSum + s.coaxDraw port = s.coaxSum + t.coaxDraw port :=
  sum_map_change (fun p other => State.coaxDraw_congr (h.poc other) (by rw [State.fld, h.setting p other, State.fld]))
    List.nodup_range (List.mem_range.2 hport)

/-- A port that draws no more than before keeps the budget. -/
theorem keeps_budget (h : CoaxFrame port s t) (hport : port < 16) (less : t.coaxDraw port ≤ s.coaxDraw port)
    (within : s.coaxSum ≤ 256) : t.coaxSum ≤ 256 := by
  have := h.coaxSum hport
  omega

end CoaxFrame

/-! ### CUT (R363, R364) -/

section
variable (s : State) (port cause kind : Nat)

/-- The registers of a port that enters CUT. -/
def State.cutRegs : State :=
  ((((s.setPoc port 3).setFld (regAp port 0x34) 24 23 cause).bump (regAp port 0x34) 22 16 1).setFld (regAp port 0x30) 31 31 0)

/-- The entry into CUT is dated. -/
def State.dateCut : State := { s with sens := { s.sens with cutAt := s.sens.cutAt.set port s.ticks } }

theorem State.pocCut_eq : s.pocCut port cause kind =
    (((s.cutRegs port cause).powerMark port).dateCut port).send (portSrc port) kind 0 true [] := rfl

theorem State.pocCut_regs : (s.pocCut port cause kind).regs = (s.cutRegs port cause).regs := by
  rw [State.pocCut_eq, State.send_regs, State.dateCut]
  exact (s.cutRegs port cause).powerMark_keeps State.regs port

theorem State.fld_pocCut (off hi lo : Nat) :
    (s.pocCut port cause kind).fld off hi lo = (s.cutRegs port cause).fld off hi lo :=
  State.fld_of_regs (s.pocCut_regs ..) ..

theorem State.poc_pocCut : (s.pocCut port cause kind).poc port = 3 := by
  rw [State.poc, State.fld_pocCut, ← State.poc, State.cutRegs, State.poc_setFld_poc, State.bump,
    State.poc_setFld_stat _ _ _ (by decide) (by decide), State.poc_setFld_stat _ _ _ (by decide) (by decide),
    State.poc_setPoc _ _ _ (by decide)]

theorem State.fld_cause_pocCut (named : cause < 4) : (s.pocCut port cause kind).fld (regAp port 0x34) 24 23 = cause := by
  rw [State.fld_pocCut, State.cutRegs, State.fld_setFld_ne _ (pocStat_ne_poc port port).symm, State.bump,
    State.fld_setFld_disjoint _ _ _ (by decide) (by decide) (by decide) (by decide),
    State.fld_setFld _ _ _ (by decide) (by decide)]
  exact Nat.mod_eq_of_lt named

theorem State.fld_count_pocCut : (s.pocCut port cause kind).fld (regAp port 0x34) 22 16 =
    min (s.fld (regAp port 0x34) 22 16 + 1) 127 := by
  change _ = min (s.fld (regAp port 0x34) 22 16 + 1) (2 ^ (22 + 1 - 16) - 1)
  rw [State.fld_pocCut, State.cutRegs, State.fld_setFld_ne _ (pocStat_ne_poc port port).symm,
    State.fld_bump _ _ _ (by decide) (by decide),
    State.fld_setFld_disjoint _ _ _ (by decide) (by decide) (by decide) (by decide), State.setPoc,
    State.fld_setFld_disjoint _ _ _ (by decide) (by decide) (by decide) (by decide)]

theorem State.fld_enable_pocCut : (s.pocCut port cause kind).fld (regAp port 0x30) 31 31 = 0 := by
  rw [State.fld_pocCut, State.cutRegs]
  exact State.fld_setFld _ _ 0 (by decide) (by decide)

theorem State.pocCut_frame : CoaxFrame port s (s.pocCut port cause kind) :=
  ((((CoaxFrame.refl port s).setPoc 3).setFld (by decide) ..).setFld (by decide) ..).setFld (by decide) ..
    |>.of_regs (s.pocCut_regs ..)

/-- What an entry into CUT leaves: its state, cause and count, the supply off, one message. -/
theorem State.pocCut_leaves (named : cause < 4) :
    let t := s.pocCut port cause kind
    t.poc port = 3 ∧ t.fld (regAp port 0x34) 24 23 = cause
      ∧ t.fld (regAp port 0x34) 22 16 = min (s.fld (regAp port 0x34) 22 16 + 1) 127 ∧ t.fld (regAp port 0x30) 31 31 = 0
      ∧ t.sens.cutAt.get port 0 = s.ticks ∧ t.net.length = s.net.length + 1 ∧ t.mem = s.mem ∧ t.clusters = s.clusters := by
  refine ⟨s.poc_pocCut .., s.fld_cause_pocCut port cause kind named, s.fld_count_pocCut .., s.fld_enable_pocCut .., ?_⟩
  rw [State.pocCut_eq, State.send_sens, State.send_net, State.send_mem, State.send_clusters, List.length_append,
    State.dateCut]
  dsimp only
  rw [Table.get_set_same, State.powerMark_keeps State.ticks, State.powerMark_keeps State.net,
    State.powerMark_keeps State.mem, State.powerMark_keeps State.clusters]
  exact ⟨rfl, rfl, rfl, rfl⟩

end

/-! ### PEN (R362) -/

/-- A write of AP_POC takes VSET and PLIM in OFF only. -/
def State.takeSetting (s : State) (port : Nat) (v : Word32) : State :=
  if s.poc port = 0 then s.setFld (regAp port 0x30) 12 0 (bitsOf v.toNat 12 0) else s

section
variable (s : State) (port : Nat) (v : Word32)

theorem State.takeSetting_frame : CoaxFrame port s (s.takeSetting port v) := by
  unfold State.takeSetting
  split
  · exact (CoaxFrame.refl port s).setFld (by decide) ..
  · exact .refl port s

theorem State.poc_takeSetting (q : Nat) : (s.takeSetting port v).poc q = s.poc q := by
  unfold State.takeSetting
  split
  · exact s.poc_setFld_poc ..
  · rfl

theorem State.fld_takeSetting : (s.takeSetting port v).fld (regAp port 0x30) 12 0 =
    if s.poc port = 0 then bitsOf v.toNat 12 0 else s.fld (regAp port 0x30) 12 0 := by
  unfold State.takeSetting
  split
  · rw [State.fld_setFld _ _ _ (by decide) (by decide)]
    exact Nat.mod_eq_of_lt (Nat.mod_lt _ (by decide))
  · rfl

theorem State.enable_takeSetting :
    (s.takeSetting port v).fld (regAp port 0x30) 31 31 = s.fld (regAp port 0x30) 31 31 := by
  unfold State.takeSetting
  split
  · exact s.fld_setFld_disjoint _ _ (by decide) (by decide) (by decide) (by decide)
  · rfl

theorem State.draw_takeSetting : (s.takeSetting port v).coaxDraw port = s.coaxDraw port := by
  by_cases off : s.poc port = 0
  · have idle : ¬ (s.poc port = 1 ∨ s.poc port = 2) := by omega
    rw [State.coaxDraw_idle idle, State.coaxDraw_idle (by rwa [State.poc_takeSetting])]
  · rw [State.takeSetting, if_neg off]

theorem State.coaxSum_takeSetting (hport : port < 16) : (s.takeSetting port v).coaxSum = s.coaxSum := by
  have := (s.takeSetting_frame port v).coaxSum hport
  rw [State.draw_takeSetting] at this
  omega

end

/-- The limits that a write of AP_POC names in OFF. -/
theorem State.limit_takeSetting {s : State} {port : Nat} (off : s.poc port = 0) (v : Word32) {hi lo : Nat} (h : lo ≤ hi)
    (inside : hi ≤ 12) : (s.takeSetting port v).fld (regAp port 0x30) hi lo = bitsOf v.toNat hi lo := by
  rw [State.fld_low _ _ h inside, State.fld_takeSetting, if_pos off, bitsOf_zero,
    bitsOf_mod _ _ _ _ (Nat.lt_succ_of_le inside) h]

section
variable {s : State} {port : Nat} {v : Word32}

/-- A write of PEN = 1 outside OFF. -/
theorem doPen_busy (on : bitOf v.toNat 31 = true) (busy : s.poc port ≠ 0) : doPen port v s = s := by
  rw [doPen]
  dsimp only
  rw [if_neg busy, if_pos on, if_pos busy]

/-- A write of PEN = 1 in OFF: limits out of range are not enabled, those beyond the budget are refused. -/
theorem doPen_on (on : bitOf v.toNat 31 = true) (off : s.poc port = 0) (hport : port < 16) :
    let t := s.takeSetting port v
    let pl := bitsOf v.toNat 12 8
    doPen port v s =
      if pl = 0 ∨ 24 < pl ∨ 120 < bitsOf v.toNat 7 0 then t
      else if 256 < s.coaxSum + pl then t.send (portSrc port) 0x58 0 true []
      else (t.setFld (regAp port 0x30) 31 31 1).setPoc port 1 := by
  dsimp only
  have sum := (s.takeSetting port v).foldl_coaxDraw (upTo 16) 0
  rw [Nat.zero_add] at sum
  rw [← s.coaxSum_takeSetting port v hport, ← State.limit_takeSetting off v (by decide) (by decide),
    ← State.limit_takeSetting off v (hi := 7) (by decide) (by decide)]
  unfold doPen
  dsimp only
  rw [if_pos on, ← State.takeSetting, if_neg (not_not_intro ((s.poc_takeSetting port v port).trans off)), sum]
  rfl

/-- A write of PEN = 0 switches the supply off. -/
theorem doPen_off (low : bitOf v.toNat 31 = false) : doPen port v s =
    let t := (s.takeSetting port v).setFld (regAp port 0x30) 31 31 0
    if s.poc port = 1 ∨ s.poc port = 2 then (t.setPoc port 4).powerMark port else t := by
  unfold doPen
  dsimp only
  rw [if_neg (ne_true_of_eq_false low), ← State.takeSetting, State.poc_takeSetting]

end

end Sys2Proof.Machine
end

section
/-! PROOFS. The coax budget (O59): what a write of AP_POC can do, and that no command of the supply takes the sum beyond 256. -/

namespace Sys2Proof.Machine

section
variable {s : State} {port : Nat}

/-! ### What PEN can do -/

/-- The states that a write of AP_POC can leave. -/
theorem doPen_cases (hport : port < 16) (v : Word32) :
    let t := s.takeSetting port v
    let u := t.setFld (regAp port 0x30) 31 31 0
    doPen port v s = t ∨ doPen port v s = t.send (portSrc port) 0x58 0 true []
      ∨ (s.coaxSum + t.fld (regAp port 0x30) 12 8 ≤ 256 ∧ s.poc port = 0
        ∧ doPen port v s = (t.setFld (regAp port 0x30) 31 31 1).setPoc port 1)
      ∨ doPen port v s = u ∨ doPen port v s = (u.setPoc port 4).powerMark port := by
  dsimp only
  cases on : bitOf v.toNat 31 with
  | false =>
    rw [doPen_off on]
    dsimp only
    split
    · exact .inr (.inr (.inr (.inr rfl)))
    · exact .inr (.inr (.inr (.inl rfl)))
  | true =>
    by_cases off : s.poc port = 0
    · rw [doPen_on on off hport, State.limit_takeSetting off v (by decide) (by decide)]
      split
      · exact .inl rfl
      · split
        · exact .inr (.inl rfl)
        · next within => exact .inr (.inr (.inl ⟨Nat.le_of_not_lt within, off, rfl⟩))
    · rw [doPen_busy on off, State.takeSetting, if_neg off]
      exact .inl rfl

/-- A write of AP_POC concerns its port alone. -/
theorem doPen_frame (hport : port < 16) (v : Word32) : CoaxFrame port s (doPen port v s) := by
  have taken := s.takeSetting_frame port v
  have enable (b : Nat) := taken.setFld (o := 0x30) (by decide) 31 31 b
  rcases doPen_cases hport v with e | e | ⟨-, -, e⟩ | e | e <;> rw [e]
  · exact taken
  · exact taken.of_regs rfl
  · exact (enable 1).setPoc 1
  · exact enable 0
  · exact ((enable 0).setPoc 4).powerMark port

/-- The enable bit lies above VSET and PLIM. -/
theorem State.limits_setFld_enable (s : State) (port b : Nat) {hi lo : Nat} (h : lo ≤ hi) (below : hi < 31) :
    (s.setFld (regAp port 0x30) 31 31 b).fld (regAp port 0x30) hi lo = s.fld (regAp port 0x30) hi lo :=
  s.fld_setFld_disjoint _ b (Nat.le_refl _) h (by omega) (.inr below)

/-- VSET and PLIM after a write of AP_POC. -/
theorem doPen_limits (hport : port < 16) (v : Word32) :
    (doPen port v s).fld (regAp port 0x30) 12 0 = (s.takeSetting port v).fld (regAp port 0x30) 12 0 := by
  have enable (b : Nat) := (s.takeSetting port v).limits_setFld_enable port b (hi := 12) (lo := 0) (by decide) (by decide)
  rcases doPen_cases hport v with e | e | ⟨-, -, e⟩ | e | e <;> rw [e]
  · rfl
  · rw [State.fld_setPoc, enable]
  · exact enable 0
  · rw [State.fld_powerMark, State.fld_setPoc, enable]

/-! ### The sum -/

/-- A port that leaves RAMP and ON, or stays outside, draws nothing. -/
theorem CoaxFrame.keeps_budget_idle {t : State} (h : CoaxFrame port s t) (hport : port < 16)
    (idle : ¬ (t.poc port = 1 ∨ t.poc port = 2)) (within : s.coaxSum ≤ 256) : t.coaxSum ≤ 256 := by
  refine h.keeps_budget hport ?_ within
  rw [State.coaxDraw_idle idle]
  exact Nat.zero_le _

theorem State.setPoc_keeps_budget (hport : port < 16) {v : Nat} (named : v < 8) (idle : ¬ (v = 1 ∨ v = 2))
    (within : s.coaxSum ≤ 256) : (s.setPoc port v).coaxSum ≤ 256 := by
  refine ((CoaxFrame.refl port s).setPoc v).keeps_budget_idle hport ?_ within
  rwa [State.poc_setPoc _ _ _ named]

theorem State.pocCut_keeps_budget (hport : port < 16) (cause kind : Nat) (within : s.coaxSum ≤ 256) :
    (s.pocCut port cause kind).coaxSum ≤ 256 := by
  refine (s.pocCut_frame port cause kind).keeps_budget_idle hport ?_ within
  rw [State.poc_pocCut]
  decide

/-- A port in RAMP counts the limit that it was granted. -/
theorem State.coaxDraw_granted (s : State) (port : Nat) : ((s.setFld (regAp port 0x30) 31 31 1).setPoc port 1).coaxDraw port =
    s.fld (regAp port 0x30) 12 8 := by
  rw [State.coaxDraw, State.poc_setPoc _ _ _ (by decide), if_pos (.inl rfl), State.fld_setPoc,
    State.limits_setFld_enable _ _ _ (by decide) (by decide)]

/-- A write of AP_POC keeps the budget. -/
theorem doPen_keeps_budget (hport : port < 16) (v : Word32) (within : s.coaxSum ≤ 256) : (doPen port v s).coaxSum ≤ 256 := by
  have taken : (s.takeSetting port v).coaxSum ≤ 256 := by rwa [s.coaxSum_takeSetting port v hport]
  have enable (b : Nat) : CoaxFrame port (s.takeSetting port v) ((s.takeSetting port v).setFld (regAp port 0x30) 31 31 b) :=
    (CoaxFrame.refl ..).setFld (by decide) ..
  have draw (b : Nat) : ((s.takeSetting port v).setFld (regAp port 0x30) 31 31 b).coaxDraw port =
      (s.takeSetting port v).coaxDraw port :=
    State.coaxDraw_congr (State.poc_setFld_poc ..) (State.limits_setFld_enable _ _ _ (by decide) (by decide))
  have frame := doPen_frame (s := s) hport v
  rcases doPen_cases hport v with e | e | ⟨room, off, e⟩ | e | e
  · rwa [e]
  · rw [e]
    exact taken
  · have sum := frame.coaxSum hport
    rw [e, State.coaxDraw_granted, State.coaxDraw_idle (s := s) (by omega)] at sum
    rw [e]
    omega
  · rw [e]
    exact (enable 0).keeps_budget hport (Nat.le_of_eq (draw 0)) taken
  · refine frame.keeps_budget_idle hport ?_ within
    rw [e, State.poc_powerMark, State.poc_setPoc _ _ _ (by decide)]
    decide

/-- At the end of a good ramp the draw of RAMP goes on in ON. -/
theorem State.setPoc_on_keeps_budget (hport : port < 16) (ramp : s.poc port = 1) (within : s.coaxSum ≤ 256) :
    (s.setPoc port 2).coaxSum ≤ 256 := by
  refine ((CoaxFrame.refl port s).setPoc 2).keeps_budget hport (Nat.le_of_eq ?_) within
  rw [State.coaxDraw, State.poc_setPoc _ _ _ (by decide), if_pos (.inr rfl), State.fld_setPoc, State.coaxDraw,
    if_pos (.inl ramp)]

theorem doClr_keeps_budget (hport : port < 16) (within : s.coaxSum ≤ 256) : (doClr port s).coaxSum ≤ 256 := by
  unfold doClr
  split
  · exact State.setPoc_keeps_budget hport (by decide) (by decide) within
  · exact within

theorem doRampEnd_keeps_budget (hport : port < 16) (reached : Bool) (within : s.coaxSum ≤ 256) :
    (doRampEnd port reached s).coaxSum ≤ 256 := by
  unfold doRampEnd
  split
  · exact within
  · next ramp =>
    split
    · exact State.setPoc_on_keeps_budget hport (Decidable.of_not_not ramp) within
    · exact State.pocCut_keeps_budget hport _ _ within

theorem doPocShort_keeps_budget (hport : port < 16) (backfeed : Bool) (within : s.coaxSum ≤ 256) :
    (doPocShort port backfeed s).coaxSum ≤ 256 := by
  unfold doPocShort
  split
  · exact State.pocCut_keeps_budget hport _ _ within
  · exact within

theorem doPocOverload_keeps_budget (hport : port < 16) (within : s.coaxSum ≤ 256) :
    (doPocOverload port s).coaxSum ≤ 256 := by
  unfold doPocOverload
  split
  · exact State.pocCut_keeps_budget hport _ _ within
  · exact within

theorem doDischargeEnd_keeps_budget (hport : port < 16) (within : s.coaxSum ≤ 256) :
    (doDischargeEnd port s).coaxSum ≤ 256 := by
  unfold doDischargeEnd
  split
  · exact State.setPoc_keeps_budget hport (by decide) (by decide) within
  · exact within

theorem doOpenLoad_keeps_budget (hport : port < 16) (within : s.coaxSum ≤ 256) : (doOpenLoad port s).coaxSum ≤ 256 := by
  unfold doOpenLoad
  split
  · refine ((CoaxFrame.refl port s).setFld (by decide) ..).keeps_budget hport (Nat.le_of_eq ?_) within
    exact State.coaxDraw_congr (s.poc_setFld_stat port 1 (by decide) (by decide)) (s.fld_setFld_ne (pocStat_ne_poc port port) ..)
  · exact within

/-! ### The write through BAR0 -/

/-- A write of AP_POC without CLR is the PEN command. -/
theorem State.regWrite_poc (s : State) (hport : port < 16) {v : Word32} (keep : v.getLsbD 30 = false) :
    s.regWrite (regAp port 0x30) v = doPen port v s := by
  have off : regAp port 0x30 = 0x420000 + 0x1000 * port + 0x30 := rfl
  have named : (regAp port 0x30 - 0x420000) / 0x1000 = port := by omega
  have place : regAp port 0x30 % 0x1000 = 0x30 := by omega
  unfold State.regWrite
  rw [Nat.div_mul_cancel (by omega)]
  dsimp only
  rw [if_neg (State.not_closed (by omega) (dieDark_hub s _ (by omega))), if_neg (by omega), if_neg (by omega),
    if_neg (by omega), if_neg (by omega), if_neg (by omega), if_neg (by omega), if_neg (by omega), if_neg (by omega),
    if_neg (by omega), if_pos (by omega), named, place, if_neg (by decide), if_neg (by decide), if_pos rfl,
    if_neg (ne_true_of_eq_false ((bitOf_toNat v 30).trans keep))]

end

/-! ### The statement -/

/-- Settles O59: of each command what it does to the draw of its port, the other ports being left alone. -/
theorem coaxBudget : Obligations.CoaxBudget := by
  unfold Obligations.CoaxBudget
  intro s port v hport
  have wf : below 16 port = true := decide_eq_true hport
  refine ⟨fun i command => ?_, fun on off least most volts beyond => ?_, fun t done => ?_, fun keep => ?_⟩
  · rcases command with rfl | rfl | ⟨b, rfl⟩ | ⟨b, rfl⟩ | rfl | rfl | rfl
    · exact ⟨_, exec_pen wf, doPen_keeps_budget hport v⟩
    · exact ⟨_, exec_clr wf, doClr_keeps_budget hport⟩
    · exact ⟨_, exec_rampEnd wf, doRampEnd_keeps_budget hport b⟩
    · exact ⟨_, exec_pocShort wf, doPocShort_keeps_budget hport b⟩
    · exact ⟨_, exec_pocOverload wf, doPocOverload_keeps_budget hport⟩
    · exact ⟨_, exec_dischargeEnd wf, doDischargeEnd_keeps_budget hport⟩
    · exact ⟨_, exec_openLoad wf, doOpenLoad_keeps_budget hport⟩
  · have inRange : ¬ (bitsOf v.toNat 12 8 = 0 ∨ 24 < bitsOf v.toNat 12 8 ∨ 120 < bitsOf v.toNat 7 0) := by omega
    refine ⟨?_, s.enable_takeSetting port v, (s.poc_takeSetting port v port).trans off⟩
    rw [exec_pen wf, doPen_on ((bitOf_toNat v 31).trans on) off hport]
    rw [if_neg inRange, if_pos (show 256 < s.coaxSum + bitsOf v.toNat 12 8 from beyond)]
    rfl
  · rw [exec_pen wf] at done
    cases done
    have frame := doPen_frame (s := s) hport v
    exact ⟨(doPen_limits hport v).trans (s.fld_takeSetting port v), fun p _ other => ⟨frame.setting p other, frame.poc other⟩⟩
  · have place : regAp port 0x30 = 0x420000 + 0x1000 * port + 0x30 := rfl
    rw [exec_registerWrite_whole s v (by omega) (by omega), s.regWrite_poc hport keep, exec_pen wf]

end Sys2Proof.Machine
end

section
/-! PROOFS. Triggers and the states of the coax supply (O22). -/

namespace Sys2Proof.Machine

section
variable {s : State} {port : Nat}

/-! ### Triggers (R359, R360) -/

/-- A trigger that is missed changes counters and messages. -/
theorem State.trigMiss_keeps {α : Type} (f : State → α) (s : State) (port : Nat)
    (same : ∀ regs net seqs lims, f { s with regs := regs, net := net, srcSeq := seqs, rateLim := lims } = f s := by
      intros; rfl) : f (s.trigMiss port) = f s := by
  obtain ⟨net, seqs, lims, e⟩ := (s.bump (regAp port 0x44) 31 16 1).sendLimited_eq (portSrc port) 0x54 0
  rw [State.trigMiss, e]
  exact same ..

/-- A request is entered where it is early enough and fewer than four wait. -/
theorem doTriggerRequest_eq (T : Nat) : doTriggerRequest port T s =
    if (s.trigs port).length < 4 ∧ s.now + s.tlead port ≤ T then s.setTrigs port (sortIn T (s.trigs port))
    else s.trigMiss port := by
  rw [doTriggerRequest]
  by_cases room : (s.trigs port).length < 4 ∧ s.now + s.tlead port ≤ T
  · rw [if_pos room, if_neg (by omega)]
  · rw [if_neg room, if_pos (by omega)]

theorem State.trigs_setTrigs (s : State) (port : Nat) (l : List Nat) : (s.setTrigs port l).trigs port = l :=
  Table.get_set_same ..

/-- AP_TRIG shows the waiting requests; the link's status is another register. -/
theorem State.lock_setTrigs (s : State) (port : Nat) (l : List Nat) :
    (s.setTrigs port l).fld (regAp port 0x10) 2 2 = s.fld (regAp port 0x10) 2 2 := by
  rw [State.setTrigs, State.fld_setFld_ne _ (regAp_ne (by decide) (by decide) (.inr (by decide)))]
  rfl

/-- The head of the queue is sent; it counts where the port is locked. -/
theorem doTriggerSend_leaves {T : Nat} {r : List Nat} (waits : s.trigs port = T :: r) (reached : T ≤ s.now + s.tlead port) :
    let t := doTriggerSend port s
    t.trigs port = r ∧ t.sens.sent.get port 0 = s.sens.sent.get port 0 + s.fld (regAp port 0x10) 2 2
      ∧ t.clusters = s.clusters ∧ t.mem = s.mem := by
  unfold doTriggerSend
  rw [waits]
  dsimp only
  rw [if_neg (Nat.not_lt.2 reached), State.lock_setTrigs]
  split
  · next unlocked =>
    rw [unlocked, State.trigMiss_keeps (·.trigs port), State.trigMiss_keeps State.sens, State.trigMiss_keeps State.clusters,
      State.trigMiss_keeps State.mem]
    exact ⟨s.trigs_setTrigs port r, rfl, rfl, rfl⟩
  · next locked =>
    have bit := s.fld_lt (regAp port 0x10) 2 2
    have one : s.fld (regAp port 0x10) 2 2 = 1 := by omega
    refine ⟨s.trigs_setTrigs port r, ?_, rfl, rfl⟩
    rw [one]
    exact Table.get_set_same ..

/-! ### The states of the supply (R362 to R364) -/

/-- A write of PEN = 1 in OFF with limits in range: RAMP within the budget, refused beyond. -/
theorem doPen_on_leaves (hport : port < 16) {v : Word32} (on : bitOf v.toNat 31 = true) (off : s.poc port = 0)
    (least : 1 ≤ bitsOf v.toNat 12 8) (most : bitsOf v.toNat 12 8 ≤ 24) (volts : bitsOf v.toNat 7 0 ≤ 120) :
    let t := doPen port v s
    t.fld (regAp port 0x30) 12 0 = bitsOf v.toNat 12 0
      ∧ t.poc port = (if s.coaxSum + bitsOf v.toNat 12 8 ≤ 256 then 1 else 0)
      ∧ t.fld (regAp port 0x30) 31 31
        = (if s.coaxSum + bitsOf v.toNat 12 8 ≤ 256 then 1 else s.fld (regAp port 0x30) 31 31)
      ∧ t.net.length = s.net.length + (if s.coaxSum + bitsOf v.toNat 12 8 ≤ 256 then 0 else 1) := by
  have limits : (doPen port v s).fld (regAp port 0x30) 12 0 = bitsOf v.toNat 12 0 := by
    rw [doPen_limits hport, State.fld_takeSetting, if_pos off]
  have inRange : ¬ (bitsOf v.toNat 12 8 = 0 ∨ 24 < bitsOf v.toNat 12 8 ∨ 120 < bitsOf v.toNat 7 0) := by omega
  have net : (s.takeSetting port v).net = s.net := by
    rw [State.takeSetting, if_pos off]
    rfl
  refine ⟨limits, ?_⟩
  rw [doPen_on on off hport, if_neg inRange]
  by_cases within : s.coaxSum + bitsOf v.toNat 12 8 ≤ 256
  · rw [if_neg (Nat.not_lt.2 within), if_pos within, if_pos within, if_pos within, State.poc_setPoc _ _ _ (by decide),
      State.fld_setPoc, State.fld_setFld _ _ _ (by decide) (by decide)]
    exact ⟨rfl, rfl, congrArg List.length net⟩
  · rw [if_pos (Nat.lt_of_not_le within), if_neg within, if_neg within, if_neg within]
    refine ⟨(s.poc_takeSetting port v port).trans off, s.enable_takeSetting port v, ?_⟩
    rw [State.send_net, List.length_append, net]
    rfl

/-- A write of PEN = 0 in RAMP or ON. -/
theorem doPen_off_leaves {v : Word32} (low : bitOf v.toNat 31 = false) (live : s.poc port = 1 ∨ s.poc port = 2) :
    let t := doPen port v s
    t.poc port = 4 ∧ t.fld (regAp port 0x30) 31 31 = 0 ∧ t.net = s.net := by
  have kept : s.takeSetting port v = s := if_neg (by omega)
  rw [doPen_off low, kept]
  dsimp only
  rw [if_pos live, State.poc_powerMark, State.poc_setPoc _ _ _ (by decide), State.fld_powerMark, State.fld_setPoc,
    State.fld_setFld _ _ _ (by decide) (by decide), State.powerMark_keeps State.net]
  exact ⟨rfl, rfl, rfl⟩

/-- The two halves of AP_POCMEAS make the whole register. -/
theorem doPocMeasurement_eq (mv : Nat) {ma : Nat} (hma : ma < 2 ^ 16) :
    doPocMeasurement port mv ma s = s.setReg (regAp port 0x38) (BitVec.ofNat 32 (mv * 2 ^ 16 + ma)) := by
  rw [doPocMeasurement, State.setFld_eq, State.setFld_eq, State.reg_setReg_same, State.setReg_setReg]
  congr 1
  have whole := (s.reg (regAp port 0x38)).isLt
  refine BitVec.eq_of_toNat_eq ?_
  simp only [BitVec.toNat_ofNat, putBits_eq _ _ (show 0 ≤ 15 by decide), putBits_eq _ _ (show 16 ≤ 31 by decide)]
  omega

end

/-! ### The statement -/

/-- Settles O22: each command by its equation; of a cut, a switch-on and a switch-off, the registers of the port. -/
theorem triggersAndCoaxPower : Obligations.TriggersAndCoaxPower := by
  unfold Obligations.TriggersAndCoaxPower
  intro s port hport
  have wf : below 16 port = true := decide_eq_true hport
  refine ⟨fun time => ?_, fun T r waits reached => ⟨_, exec_triggerSend wf, doTriggerSend_leaves waits reached⟩,
    fun cut long => ?_, fun v on off => ?_, fun v low live => ⟨_, exec_pen wf, doPen_off_leaves low live⟩, fun ramp => ?_,
    fun i cause way => ?_, fun live => ?_, fun dis => ?_, fun mv ma hmv hma => ?_⟩
  · rw [exec_triggerRequest wf, doTriggerRequest_eq]
  · rw [exec_clr wf, doClr, if_pos ⟨cut, long⟩]
    rfl
  · dsimp only
    have sum := s.foldl_coaxDraw (upTo 16) 0
    rw [Nat.zero_add] at sum
    rw [sum]
    exact fun least most volts => ⟨_, exec_pen wf, doPen_on_leaves hport on off least most volts⟩
  · rw [exec_rampEnd wf, doRampEnd, if_neg (not_not_intro ramp), if_pos rfl]
    rfl
  · rcases way with ⟨ramp, rfl, rfl⟩ | ⟨live, rfl, rfl⟩ | ⟨live, rfl, rfl⟩ | ⟨live, rfl, rfl⟩
    · refine ⟨_, ?_, s.pocCut_leaves port 1 0x56 (by decide)⟩
      rw [exec_rampEnd wf, doRampEnd, if_neg (not_not_intro ramp), if_neg Bool.false_ne_true]
    · refine ⟨_, ?_, s.pocCut_leaves port 1 0x56 (by decide)⟩
      rw [exec_pocShort wf, doPocShort, if_pos live, if_neg Bool.false_ne_true]
    · refine ⟨_, ?_, s.pocCut_leaves port 2 0x57 (by decide)⟩
      rw [exec_pocOverload wf, doPocOverload, if_pos live]
    · refine ⟨_, ?_, s.pocCut_leaves port 3 0x56 (by decide)⟩
      rw [exec_pocShort wf, doPocShort, if_pos live, if_pos rfl]
  · rw [exec_openLoad wf, doOpenLoad, if_pos live]
  · rw [exec_dischargeEnd wf, doDischargeEnd, if_pos dis]
    rfl
  · have operands : (below 16 port && below (2 ^ 16) mv && below (2 ^ 16) ma) = true := by
      simp only [below, hport, hmv, hma, decide_true, Bool.and_self]
    rw [exec_pocMeasurement operands, doPocMeasurement_eq mv hma]

end Sys2Proof.Machine
end

section
/-! PROOFS. Weir's drops and the counter clears (O23). -/

namespace Sys2Proof.Machine

/-! ### A stale group (R368) -/

section
variable (s : State) (b : BufItem) (cause : Nat)

/-- The record of a drop changes the recorder, the count and the messages. -/
theorem State.dropRecord_keeps {α : Type} (f : State → α) (same : ∀ rcd regs net seqs lims,
    f { s with rcd := rcd, regs := regs, net := net, srcSeq := seqs, rateLim := lims } = f s := by intros; rfl) :
    f (s.dropRecord b cause) = f s := by
  unfold State.dropRecord
  dsimp only
  obtain ⟨net, seqs, lims, e⟩ := State.sendLimited_eq _ (streamSrc b.stream) 0x59 b.frame
  rw [e]
  exact same ..

/-- The drop count of the stream is raised by one, up to its largest value. -/
theorem State.count_dropRecord : (s.dropRecord b cause).fld (regWr (0x300 + 4 * b.stream)) 31 0 =
    min (s.fld (regWr (0x300 + 4 * b.stream)) 31 0 + 1) (2 ^ 32 - 1) := by
  unfold State.dropRecord
  dsimp only
  rw [State.fld_of_regs (State.sendLimited_keeps State.regs ..), State.fld_bump _ _ _ (by decide) (by decide)]
  rfl

/-- The mark of a drop goes to the open frame or to the close that waits. -/
theorem State.markDrop_eq (x frame bit : Nat) :
    (∃ c, s.markDrop x frame bit = s.setCam x c) ∨
      s.markDrop x frame bit = s.setBuf (portOf x) ((s.buf (portOf x)).map (fun y =>
        if y.kind = .close ∧ y.stream = x ∧ y.frame = frame then { y with status := (y.status ||| bit) % 2 ^ 31 } else y)) := by
  unfold State.markDrop
  dsimp only
  split
  · exact .inl ⟨_, rfl⟩
  · exact .inr rfl

/-- What the mark of a drop cannot change. -/
theorem State.markDrop_keeps {α : Type} (f : State → α) (x frame bit : Nat)
    (same : ∀ cams bufs, f { s with sens := { s.sens with cams := cams, bufs := bufs } } = f s := by intros; rfl) :
    f (s.markDrop x frame bit) = f s := by
  rcases s.markDrop_eq x frame bit with ⟨c, e⟩ | e
  · rw [e]
    exact same _ s.sens.bufs
  · rw [e]
    exact same s.sens.cams _

theorem State.buf_setBuf (p : Nat) (l : List BufItem) : (s.setBuf p l).buf p = l := Table.get_set_same ..

/-- An item that stands after the mark stood before it, with another status at most. -/
theorem State.mem_buf_markDrop {x frame bit : Nat} {y : BufItem} (mem : y ∈ (s.markDrop x frame bit).buf (portOf x)) :
    ∃ z ∈ s.buf (portOf x), y.kind = z.kind ∧ y.stream = z.stream ∧ y.frame = z.frame := by
  rcases s.markDrop_eq x frame bit with ⟨c, e⟩ | e
  · rw [e] at mem
    exact ⟨y, mem, rfl, rfl, rfl⟩
  · rw [e, State.buf_setBuf] at mem
    obtain ⟨z, hz, rfl⟩ := List.mem_map.1 mem
    refine ⟨z, hz, ?_⟩
    split <;> exact ⟨rfl, rfl, rfl⟩

end

section
variable {b : BufItem} (group : b.kind = .group) (s : State) (cause : Nat)
include group

/-- A group that is dropped takes the later groups of its frame with it, and marks the frame. -/
theorem State.weirDrop_group : s.weirDrop b cause =
    let t := s.dropRecord b cause
    (t.setBuf (portOf b.stream) ((t.buf (portOf b.stream)).filter (fun y =>
        ¬ (y.kind = .group ∧ y.stream = b.stream ∧ y.frame = b.frame)))).markDrop b.stream b.frame
      (if cause = 0 then 0x800000 else 0x400000) := by
  unfold State.weirDrop
  dsimp only
  rw [if_neg (by rw [group]; decide)]

theorem State.weirDrop_clears : ∀ y ∈ (s.weirDrop b cause).buf (portOf b.stream),
    ¬ (y.kind = .group ∧ y.stream = b.stream ∧ y.frame = b.frame) := by
  rw [State.weirDrop_group group]
  intro y mem
  obtain ⟨z, hz, kind, stream, frame⟩ := State.mem_buf_markDrop _ mem
  rw [State.buf_setBuf] at hz
  rw [kind, stream, frame]
  exact of_decide_eq_true (List.mem_filter.1 hz).2

theorem State.weirDrop_group_keeps {α : Type} (f : State → α) (same : ∀ s rcd regs net seqs lims cams bufs, f { s with
    rcd := rcd, regs := regs, net := net, srcSeq := seqs, rateLim := lims,
    sens := { s.sens with cams := cams, bufs := bufs } } = f s := by intros; rfl) : f (s.weirDrop b cause) = f s := by
  rw [State.weirDrop_group group]
  dsimp only
  rw [State.markDrop_keeps _ f _ _ _ fun _ _ => same ..]
  exact (same ..).trans (s.dropRecord_keeps b cause f fun _ _ _ _ _ => same ..)

end

/-- Weir judges the head of a buffer stale. -/
theorem doWeirDrop_stale {s : State} {port cause : Nat} {b : BufItem} {r : List BufItem} (head : s.buf port = b :: r)
    (group : b.kind = .group) (stale : s.judge b = some cause) : doWeirDrop port s = (s.noteAge b).weirDrop b cause := by
  unfold doWeirDrop
  rw [head]
  dsimp only
  rw [if_neg (by rw [group]; decide), stale]

/-- Weir lets the head of a buffer pass. -/
theorem doWeirDrop_passes {s : State} {port : Nat} {b : BufItem} {r : List BufItem} (head : s.buf port = b :: r)
    (passes : s.judge b = none) : doWeirDrop port s = s := by
  unfold doWeirDrop
  rw [head]
  dsimp only
  rw [passes]
  exact ite_self s

/-- MAXAGE is a register of its own. -/
theorem State.count_noteAge (s : State) (b : BufItem) :
    (s.noteAge b).fld (regWr (0x300 + 4 * b.stream)) 31 0 = s.fld (regWr (0x300 + 4 * b.stream)) 31 0 := by
  refine s.fld_setFld_ne ?_ ..
  unfold regWr
  omega

theorem doWeirDrop_leaves {s : State} {cause : Nat} {b : BufItem} {r : List BufItem} (head : s.buf (portOf b.stream) = b :: r)
    (group : b.kind = .group) (stale : s.judge b = some cause) :
    let t := doWeirDrop (portOf b.stream) s
    (∀ y ∈ t.buf (portOf b.stream), ¬ (y.kind = .group ∧ y.stream = b.stream ∧ y.frame = b.frame))
      ∧ (t.reg (regWr (0x300 + 4 * b.stream))).toNat
        = min ((s.reg (regWr (0x300 + 4 * b.stream))).toNat + 1) (2 ^ 32 - 1)
      ∧ t.mem = s.mem ∧ t.clusters = s.clusters := by
  dsimp only
  rw [doWeirDrop_stale head group stale]
  refine ⟨State.weirDrop_clears group _ cause, ?_, ?_, ?_⟩
  · rw [State.toNat_reg, State.toNat_reg, State.weirDrop_group group]
    dsimp only
    rw [State.fld_of_regs (State.markDrop_keeps _ State.regs ..)]
    exact (State.count_dropRecord ..).trans (by rw [s.count_noteAge b])
  · exact State.weirDrop_group_keeps group (s.noteAge b) cause State.mem
  · exact State.weirDrop_group_keeps group (s.noteAge b) cause State.clusters

/-! ### Counter clears (R373) -/

/-- From s to t the registers `whole` and the fields `part` are zero; no other register and nothing else changed. -/
structure Zeroed (s t : State) (whole : List Nat) (part : List (Nat × Nat × Nat)) : Prop where
  regZero : ∀ off ∈ whole, t.reg off = 0
  fldZero : ∀ f ∈ part, t.fld f.1 f.2.1 f.2.2 = 0
  others : ∀ off, off ∉ whole → off ∉ part.map (fun f => f.1) → t.reg off = s.reg off
  regs : t = { s with regs := t.regs }

namespace Zeroed

variable {s t : State} {W : List Nat} {P : List (Nat × Nat × Nat)}

theorem refl (s : State) : Zeroed s s [] [] :=
  ⟨fun _ mem => (List.not_mem_nil mem).elim, fun _ mem => (List.not_mem_nil mem).elim, fun _ _ _ => rfl, rfl⟩

/-- One more register is cleared. -/
theorem setReg (h : Zeroed s t W P) (off : Nat) : Zeroed s (t.setReg off 0) (W ++ [off]) P where
  regZero x mem := by
    rw [State.reg_setReg]
    split
    · rfl
    · next other => exact h.regZero x (by simpa [Ne.symm other] using mem)
  fldZero f mem := by
    rw [State.fld, State.reg_setReg]
    split
    · exact (congrArg (· % _) (Nat.zero_div _)).trans (Nat.zero_mod _)
    · exact h.fldZero f mem
  others x notWhole notPart := by
    rw [List.mem_append, List.mem_singleton, not_or] at notWhole
    rw [State.reg_setReg_ne _ _ (Ne.symm notWhole.2), h.others x notWhole.1 notPart]
  regs := by
    conv => lhs; rw [h.regs]
    rfl

/-- One more field is cleared, which no register or field before it meets. -/
theorem setFld (h : Zeroed s t W P) (off : Nat) {hi lo : Nat} (ordered : lo ≤ hi) (inside : hi < 32) (apartW : off ∉ W)
    (apartP : ∀ f ∈ P, f.1 = off ∧ f.2.2 ≤ f.2.1 ∧ f.2.1 < 32 ∧ (hi < f.2.2 ∨ f.2.1 < lo)) :
    Zeroed s (t.setFld off hi lo 0) W (P ++ [(off, hi, lo)]) where
  regZero x mem := by
    rw [State.setFld_eq, State.reg_setReg_ne _ _ (ne_of_mem_of_not_mem mem apartW).symm, h.regZero x mem]
  fldZero f mem := by
    rcases List.mem_append.1 mem with old | new
    · obtain ⟨same, f_ordered, f_inside, apart⟩ := apartP f old
      rw [same, State.fld_setFld_disjoint _ _ _ ordered f_ordered f_inside apart, ← same, h.fldZero f old]
    · obtain rfl := List.mem_singleton.1 new
      exact (State.fld_setFld _ _ _ ordered inside).trans (Nat.zero_mod _)
  others x notWhole notPart := by
    rw [List.map_append, List.map_singleton, List.mem_append, List.mem_singleton, not_or] at notPart
    rw [State.setFld_eq, State.reg_setReg_ne _ _ (Ne.symm notPart.2), h.others x notWhole notPart.1]
  regs := by
    conv => lhs; rw [h.regs]
    rfl

/-- The order in which the registers are named does not matter. -/
theorem of_mem_iff (h : Zeroed s t W P) {V : List Nat} (same : ∀ off, off ∈ V ↔ off ∈ W) : Zeroed s t V P where
  regZero off mem := h.regZero off ((same off).1 mem)
  fldZero := h.fldZero
  others off notWhole := h.others off (fun mem => notWhole ((same off).2 mem))
  regs := h.regs

end Zeroed

/-- WR_CLR clears two registers of each stream of a list. -/
theorem zeroed_foldl (a b : Nat → Nat) (l : List Nat) {s t : State} {W : List Nat} (h : Zeroed s t W []) :
    Zeroed s (l.foldl (fun (s : State) x => (s.setReg (a x) 0).setReg (b x) 0) t) (W ++ l.flatMap (fun x => [a x, b x])) [] := by
  induction l generalizing t W with
  | nil => simpa using h
  | cons x l ih =>
    have next := ih ((h.setReg (a x)).setReg (b x))
    rw [List.append_assoc, List.append_assoc] at next
    exact next

theorem doWrClr_zeroed (s : State) : Zeroed s (doWrClr s)
    ((upTo 96).map (fun x => regWr (0x300 + 4 * x)) ++ (upTo 96).map (fun x => regWr (0x500 + 4 * x))) [] := by
  refine (zeroed_foldl _ _ (upTo 96) (.refl s)).of_mem_iff fun off => ?_
  simp only [List.nil_append, List.mem_append, List.mem_map, List.mem_flatMap, List.mem_cons, List.not_mem_nil, or_false]
  constructor
  · rintro (⟨x, mem, rfl⟩ | ⟨x, mem, rfl⟩)
    · exact ⟨x, mem, .inl rfl⟩
    · exact ⟨x, mem, .inr rfl⟩
  · rintro ⟨x, mem, rfl | rfl⟩
    · exact .inl ⟨x, mem, rfl⟩
    · exact .inr ⟨x, mem, rfl⟩

/-- A register and a field of another register are cleared. -/
theorem zeroed_reg_fld (s : State) {off off' : Nat} (other : off' ≠ off) : Zeroed s ((s.setReg off 0).setFld off' 31 16 0)
    [off] [(off', 31, 16)] :=
  ((Zeroed.refl s).setReg off).setFld off' (by decide) (by decide) (mt List.mem_singleton.1 other)
    (fun _ mem => (List.not_mem_nil mem).elim)

theorem doLqCntclr_zeroed (q : Nat) (s : State) : Zeroed s (doLqCntclr q s) []
    [(regLq q 0x14, 31, 16), (regLq q 0x14, 15, 8)] := by
  have late : Zeroed s (s.setFld (regLq q 0x14) 31 16 0) [] [(regLq q 0x14, 31, 16)] := (Zeroed.refl s).setFld _ (by decide)
    (by decide) List.not_mem_nil (fun _ mem => (List.not_mem_nil mem).elim)
  refine late.setFld _ (by decide) (by decide) List.not_mem_nil (fun f mem => ?_)
  obtain rfl := List.mem_singleton.1 mem
  exact ⟨rfl, (by decide : 16 ≤ 31), (by decide : 31 < 32), (by decide : 15 < 16 ∨ 31 < 8)⟩

/-- A clear command as the statement has it. -/
theorem Zeroed.settles {s t : State} {W : List Nat} {P : List (Nat × Nat × Nat)} (h : Zeroed s t W P) {i : Instr}
    (run : exec i s = .next t) : ∃ t, exec i s = .next t ∧ (∀ off ∈ W, t.reg off = 0)
      ∧ (∀ f ∈ P, t.fld f.1 f.2.1 f.2.2 = 0) ∧ (∀ off, off ∉ W → off ∉ P.map (fun f => f.1) → t.reg off = s.reg off)
      ∧ t = { s with regs := t.regs } := ⟨t, run, h.regZero, h.fldZero, h.others, h.regs⟩

/-! ### The statement -/

/-- Settles O23: a dropped group by what it takes out of its buffer, each clear by the registers and fields that it zeroes. -/
theorem dropsAndCounterClears : Obligations.DropsAndCounterClears := by
  unfold Obligations.DropsAndCounterClears
  intro s
  have one (off : Nat) : Zeroed s (s.setReg off 0) [off] [] := (Zeroed.refl s).setReg off
  have two (off off' : Nat) : Zeroed s ((s.setReg off 0).setReg off' 0) [off, off'] [] := (one off).setReg off'
  refine ⟨fun port cause b r hport head group _ home stale => ?_, fun port b r hport head passes => ?_,
    fun p hp => ?_, fun p hp => ?_, ?_, ?_, fun q hq => ?_, fun g hg => ?_, ?_, fun p hp => ?_, ?_, ?_⟩
  · subst home
    exact ⟨_, exec_weirDrop (decide_eq_true hport), doWeirDrop_leaves head group stale⟩
  · rw [exec_weirDrop (decide_eq_true hport), doWeirDrop_passes head passes]
  · exact (zeroed_reg_fld s (regAp_ne (by decide) (by decide) (.inr (by decide)))).settles (exec_apCntclr (decide_eq_true hp))
  · exact (zeroed_reg_fld s (by unfold regLp; omega)).settles (exec_lpCntclr (decide_eq_true hp))
  · exact (doWrClr_zeroed s).settles exec_wrClr
  · exact (one _).settles exec_tbCntclr
  · exact (doLqCntclr_zeroed q s).settles (exec_lqCntclr (decide_eq_true hq))
  · exact (two _ _).settles (exec_gaCntclr (decide_eq_true hg))
  · exact (one _).settles exec_vdCntclr
  · exact (two _ _).settles (exec_vpCntclr (decide_eq_true hp))
  · exact (two _ _).settles exec_ssCntclr
  · exact (one _).settles exec_twCntclr

end Sys2Proof.Machine
end

section
/-! PROOFS. Camera frames (O20). Everything that a port does with an input of one virtual channel leaves the other channels,
the memories and the clusters (`CamFrame`); what it does within an open frame keeps its lines too (`OpenFrame`). -/

namespace Sys2Proof.Machine

/-! ### What an input of channel x leaves alone -/

theorem State.cam_setCam (s : State) (x y : Nat) (c : CamSt) : (s.setCam x c).cam y = if x = y then c else s.cam y :=
  Table.get_set ..

theorem State.cam_setCam_same (s : State) (x : Nat) (c : CamSt) : (s.setCam x c).cam x = c := Table.get_set_same ..

/-- From s to t the memories, the clusters, the lidar streams and the other channels stayed, and the frame number of x. -/
structure CamFrame (x : Nat) (s t : State) : Prop where
  mem : t.mem = s.mem
  clusters : t.clusters = s.clusters
  packets : t.sens.packets = s.sens.packets
  lidSeen : t.sens.lidSeen = s.sens.lidSeen
  others : ∀ y, y ≠ x → t.cam y = s.cam y
  frame : (t.cam x).frame = (s.cam x).frame

/-- Moreover the frame of x is open as before, with as many lines. -/
structure OpenFrame (x : Nat) (s t : State) : Prop extends CamFrame x s t where
  isOpen : (t.cam x).isOpen = (s.cam x).isOpen
  lines : (t.cam x).lines = (s.cam x).lines

/-- Moreover x has no open frame in t. -/
structure ClosedFrame (x : Nat) (s t : State) : Prop extends CamFrame x s t where
  closed : (t.cam x).isOpen = false

section
variable {x : Nat} {s t u : State}

theorem CamFrame.trans (h : CamFrame x s t) (k : CamFrame x t u) : CamFrame x s u where
  mem := k.mem.trans h.mem
  clusters := k.clusters.trans h.clusters
  packets := k.packets.trans h.packets
  lidSeen := k.lidSeen.trans h.lidSeen
  others y other := (k.others y other).trans (h.others y other)
  frame := k.frame.trans h.frame

/-- A state of x with the same frame number is entered. -/
theorem CamFrame.setCam (h : CamFrame x s t) {c : CamSt} (frame : c.frame = (s.cam x).frame) : CamFrame x s (t.setCam x c) where
  mem := h.mem
  clusters := h.clusters
  packets := h.packets
  lidSeen := h.lidSeen
  others y other := by rw [State.cam_setCam, if_neg (Ne.symm other), h.others y other]
  frame := by rw [State.cam_setCam_same, frame]

namespace OpenFrame

/-- A change of none of the fields concerned. -/
theorem of_eq (cams : t.sens.cams = s.sens.cams := by rfl) (mem : t.mem = s.mem := by rfl)
    (clusters : t.clusters = s.clusters := by rfl) (packets : t.sens.packets = s.sens.packets := by rfl)
    (lidSeen : t.sens.lidSeen = s.sens.lidSeen := by rfl) : OpenFrame x s t := by
  have cam (y : Nat) : t.cam y = s.cam y := by rw [State.cam, cams, State.cam]
  exact ⟨⟨mem, clusters, packets, lidSeen, fun y _ => cam y, by rw [cam]⟩, by rw [cam], by rw [cam]⟩

theorem refl (x : Nat) (s : State) : OpenFrame x s s := of_eq

theorem trans (h : OpenFrame x s t) (k : OpenFrame x t u) : OpenFrame x s u where
  toCamFrame := h.toCamFrame.trans k.toCamFrame
  isOpen := k.isOpen.trans h.isOpen
  lines := k.lines.trans h.lines

/-- A state of x with the same open frame is entered. -/
theorem setCam (h : OpenFrame x s t) {c : CamSt} (frame : c.frame = (s.cam x).frame) (isOpen : c.isOpen = (s.cam x).isOpen)
    (lines : c.lines = (s.cam x).lines) : OpenFrame x s (t.setCam x c) where
  toCamFrame := h.toCamFrame.setCam frame
  isOpen := by rw [State.cam_setCam_same, isOpen]
  lines := by rw [State.cam_setCam_same, lines]

theorem capture (h : OpenFrame x s t) (stream typ time : Nat) (payload : List Byte) :
    OpenFrame x s (t.capture stream typ time payload).2 := h.trans of_eq

theorem sendLimited (h : OpenFrame x s t) (src kind addr : Nat) : OpenFrame x s (t.sendLimited src kind addr) := by
  refine h.trans ?_
  obtain ⟨net, seqs, lims, e⟩ := t.sendLimited_eq src kind addr
  rw [e]
  exact of_eq

/-- An event for the Gauge is noted. -/
theorem gaugeSee (h : OpenFrame x s t) (kinds : List Nat) (src : Nat) (p : Nat → Bool) (e cap : Nat) (atClose : Bool) :
    OpenFrame x s (t.gaugeSee kinds src p e cap atClose) := by
  refine List.foldlRecOn (motive := OpenFrame x s) (upTo 64) _ h fun u kept g _ => ?_
  dsimp only
  split
  · exact kept.trans of_eq
  · exact kept

theorem dropRecord (h : OpenFrame x s t) (b : BufItem) (cause : Nat) : OpenFrame x s (t.dropRecord b cause) :=
  h.trans (of_eq (t.dropRecord_keeps b cause (·.sens.cams)) (t.dropRecord_keeps b cause State.mem)
    (t.dropRecord_keeps b cause State.clusters) (t.dropRecord_keeps b cause (·.sens.packets))
    (t.dropRecord_keeps b cause (·.sens.lidSeen)))

theorem setBuf (h : OpenFrame x s t) (p : Nat) (l : List BufItem) : OpenFrame x s (t.setBuf p l) := h.trans of_eq

theorem markDrop (h : OpenFrame x s t) (frame bit : Nat) : OpenFrame x s (t.markDrop x frame bit) := by
  unfold State.markDrop
  dsimp only
  split
  · exact h.trans ((refl x t).setCam rfl rfl rfl)
  · exact h.setBuf ..

theorem weirDrop (h : OpenFrame x s t) {b : BufItem} (stream : b.stream = x) (cause : Nat) :
    OpenFrame x s (t.weirDrop b cause) := by
  subst stream
  unfold State.weirDrop
  dsimp only
  split
  · have dropped := (h.dropRecord b cause).setBuf (portOf b.stream)
    split
    · exact (dropped _).trans of_eq
    · exact dropped _
  · exact ((h.dropRecord b cause).setBuf ..).markDrop ..

theorem enterBuf (h : OpenFrame x s t) {b : BufItem} (stream : b.stream = x) : OpenFrame x s (t.enterBuf b) := by
  unfold State.enterBuf
  dsimp only
  generalize (if portOf b.stream < 16 then 512 * 1024 else 256 * 1024) = cap
  split
  · exact h.weirDrop stream 1
  · exact h.setBuf ..

end OpenFrame

namespace ClosedFrame

theorem trans_open (h : ClosedFrame x s t) (k : OpenFrame x t u) : ClosedFrame x s u where
  toCamFrame := h.toCamFrame.trans k.toCamFrame
  closed := k.isOpen.trans h.closed

theorem setReg (h : ClosedFrame x s t) (off : Nat) (v : Word32) : ClosedFrame x s (t.setReg off v) := h.trans_open .of_eq

/-- A bad status is counted and reported. -/
theorem reportIf (h : ClosedFrame x s t) (good : Prop) [Decidable good] (off hi lo k src kind addr : Nat) :
    ClosedFrame x s (if good then t else (t.bump off hi lo k).sendLimited src kind addr) := by
  split
  · exact h
  · exact (h.setReg ..).trans_open ((OpenFrame.refl x _).sendLimited ..)

/-- The close is an event for the Gauge. -/
theorem gaugeIf (h : ClosedFrame x s t) (first : Prop) [Decidable first] (kinds : List Nat) (src : Nat) (p : Nat → Bool)
    (e cap : Nat) (atClose : Bool) :
    ClosedFrame x s (if first then t.gaugeSee kinds src p e cap atClose else t) := by
  split
  · exact h.trans_open ((OpenFrame.refl x t).gaugeSee ..)
  · exact h

end ClosedFrame

end

/-! ### Groups and closes (R354, R355, R357) -/

section
variable (s : State) (x : Nat)

theorem State.deliverGroup_empty {s : State} {x : Nat} (empty : (s.cam x).gLines = 0) : s.deliverGroup x = s := if_pos empty

/-- The delivery of a group keeps the open frame. -/
theorem State.deliverGroup_openFrame : OpenFrame x s (s.deliverGroup x) := by
  by_cases empty : (s.cam x).gLines = 0
  · rw [State.deliverGroup_empty empty]
    exact .refl x s
  · unfold State.deliverGroup
    dsimp only
    rw [if_neg empty]
    have delivered {u : State} (captured : OpenFrame x s u) := captured.setCam (c := { s.cam x with
      gLines := 0, gBytes := [], gFirst := (s.cam x).lines, gIndex := (s.cam x).gIndex + 1 }) rfl rfl rfl
    split <;> split
    · exact (delivered .of_eq).gaugeSee ..
    · exact delivered .of_eq
    · exact ((delivered .of_eq).gaugeSee ..).enterBuf rfl
    · exact (delivered .of_eq).enterBuf rfl

theorem State.closeFrame_closed {s : State} {x : Nat} (closed : (s.cam x).isOpen = false) (bits : Nat) :
    s.closeFrame x bits = s := by
  unfold State.closeFrame
  dsimp only
  rw [closed, if_pos (by decide)]

/-- The close of an open frame enters the port's buffer last. -/
theorem State.closeFrame_eq {s : State} {x : Nat} (isOpen : (s.cam x).isOpen = true) (bits : Nat) :
    ∃ u b, s.closeFrame x bits = (u.setBuf (x / 4) (u.buf (x / 4) ++ [b])).camShow (x / 4) ∧ ClosedFrame x s u
      ∧ b.kind = .close ∧ b.stream = x ∧ b.frame = (s.cam x).frame.toNat
      ∧ (bits = 0 → (s.cam x).flags = 0 → (s.cam x).gLines = 0 → (s.cam x).lines = s.fld (regAp (x / 4) 4) 31 16 →
        b.status = 2 ^ 31 + (s.cam x).lines) := by
  have delivered := s.deliverGroup_openFrame x
  unfold State.closeFrame
  dsimp only
  rw [isOpen, if_neg (by decide)]
  refine ⟨_, _, rfl, ?_, rfl, rfl, congrArg BitVec.toNat delivered.frame, fun bits flags lines whole => ?_⟩
  · have closed {u : State} (captured : OpenFrame x (s.deliverGroup x) u) {c : CamSt} (off : c.isOpen = false)
        (frame : c.frame = (s.cam x).frame) : ClosedFrame x s (u.setCam x c) :=
      ⟨(delivered.trans captured).toCamFrame.setCam frame, (congrArg CamSt.isOpen (State.cam_setCam_same ..)).trans off⟩
    refine .gaugeIf (.reportIf (.setReg ?_ ..) ..) ..
    exact closed (.capture (.refl ..) ..) rfl delivered.frame
  · rw [State.deliverGroup_empty lines, flags, bits, if_neg (not_not_intro whole)]
    rfl

/-- After a close, x has no open frame. -/
theorem State.closeFrame_closedFrame (bits : Nat) : ClosedFrame x s (s.closeFrame x bits) := by
  cases isOpen : (s.cam x).isOpen with
  | false =>
    rw [State.closeFrame_closed isOpen]
    exact ⟨(OpenFrame.refl x s).toCamFrame, isOpen⟩
  | true =>
    obtain ⟨u, b, e, closed, -⟩ := State.closeFrame_eq isOpen bits
    rw [e]
    exact closed.trans_open .of_eq

end

/-! ### Headers (R353) -/

/-- A corrected header is counted. -/
def State.countHeader (s : State) (port hdr : Nat) : State := if hdr = 1 then s.bump (regAp port 0x20) 31 24 1 else s

theorem State.countHeader_openFrame (s : State) (port hdr x : Nat) : OpenFrame x s (s.countHeader port hdr) := by
  unfold State.countHeader
  split
  · exact .of_eq
  · exact .refl x s

theorem State.cam_countHeader (s : State) (port hdr x : Nat) : (s.countHeader port hdr).cam x = s.cam x := by
  unfold State.countHeader
  split <;> rfl

/-- The counters of packets are a register of their own. -/
theorem State.fld_countHeader (s : State) (port hdr : Nat) {o : Nat} (ho : o < 0x20) (hi lo : Nat) :
    (s.countHeader port hdr).fld (regAp port o) hi lo = s.fld (regAp port o) hi lo := by
  unfold State.countHeader
  split
  · exact s.fld_setFld_ne (regAp_ne (by decide) (by omega) (.inr (by omega))) ..
  · rfl

section
variable {s : State} {port vc hdr : Nat} (good : hdr < 2) (enabled : bitOf (s.fld (regAp port 0) 25 22) vc = true)
include good enabled

/-- A good or corrected header of an enabled channel is taken. -/
theorem State.camHeader_taken : s.camHeader port vc hdr false = (true, s.countHeader port hdr) := by
  have channel : bitOf ((s.countHeader port hdr).fld (regAp port 0) 25 22) vc = true := by
    rw [State.fld_countHeader _ _ _ (by decide), enabled]
  unfold State.camHeader
  dsimp only
  rw [if_neg Bool.false_ne_true, if_neg (Nat.ne_of_lt good), ← State.countHeader, if_pos channel]

end

/-! ### The packets -/

section
variable {s : State} {port vc hdr : Nat} (good : hdr < 2) (live : s.camLive port vc = true)
  (enabled : bitOf (s.fld (regAp port 0) 25 22) vc = true)
include good live enabled

/-- FRAME_START opens the next frame of its channel, without lines. -/
theorem doFrameStart_opens (ago : Nat) :
    let x := 4 * port + vc
    let t := doFrameStart port vc hdr false ago s
    (t.cam x).isOpen = true ∧ (t.cam x).frame = (s.cam x).frame + 1 ∧ (t.cam x).lines = 0
      ∧ (∀ y, y ≠ x → t.cam y = s.cam y) ∧ t.mem = s.mem ∧ t.clusters = s.clusters := by
  have closed := ((s.countHeader_openFrame port hdr (4 * port + vc)).toCamFrame).trans
    ((s.countHeader port hdr).closeFrame_closedFrame (4 * port + vc) 0x10000000).toCamFrame
  have opened : ∃ u c, doFrameStart port vc hdr false ago s = (u.setCam (4 * port + vc) c).camShow port
      ∧ CamFrame (4 * port + vc) s u ∧ c.isOpen = true ∧ c.frame = (s.cam (4 * port + vc)).frame + 1 ∧ c.lines = 0 := by
    unfold doFrameStart
    dsimp only
    rw [live, State.camHeader_taken good enabled, if_neg (by decide)]
    dsimp only
    rw [if_neg (by decide)]
    refine ⟨_, _, rfl, ?_, rfl, congrArg (· + 1) closed.frame, rfl⟩
    split <;> exact closed.trans (OpenFrame.toCamFrame .of_eq)
  obtain ⟨u, c, e, kept, isOpen, frame, lines⟩ := opened
  dsimp only
  rw [e]
  refine ⟨?_, ?_, ?_, fun y other => ?_, kept.mem, kept.clusters⟩
  · exact (congrArg CamSt.isOpen (u.cam_setCam_same _ c)).trans isOpen
  · exact (congrArg CamSt.frame (u.cam_setCam_same _ c)).trans frame
  · exact (congrArg CamSt.lines (u.cam_setCam_same _ c)).trans lines
  · exact ((u.cam_setCam _ y c).trans (if_neg other.symm)).trans (kept.others y other)

/-- A line of the set data type is one more line of the open frame. -/
theorem doLongPacket_line {dt : Nat} (typed : dt = s.fld (regAp port 0) 21 16) (isOpen : (s.cam (4 * port + vc)).isOpen = true)
    (room : (s.cam (4 * port + vc)).lines < s.fld (regAp port 4) 31 16) (crc : Bool) (bs : List Byte) (ago : Nat) :
    let x := 4 * port + vc
    let t := doLongPacket port vc dt hdr false crc bs ago s
    (t.cam x).isOpen = true ∧ (t.cam x).lines = (s.cam x).lines + 1 ∧ (t.cam x).frame = (s.cam x).frame
      ∧ (∀ y, y ≠ x → t.cam y = s.cam y) ∧ t.mem = s.mem ∧ t.clusters = s.clusters := by
  have head := (s.countHeader_openFrame port hdr (4 * port + vc)).toCamFrame
  have group (w : State) (full : Prop) [Decidable full] :
      OpenFrame (4 * port + vc) w ((if full then w.deliverGroup (4 * port + vc) else w).camShow port) := by
    split
    · exact (w.deliverGroup_openFrame _).trans .of_eq
    · exact .of_eq
  have entered : ∃ u c, OpenFrame (4 * port + vc) (u.setCam (4 * port + vc) c)
        (doLongPacket port vc dt hdr false crc bs ago s)
      ∧ CamFrame (4 * port + vc) s u ∧ c.isOpen = true ∧ c.frame = (s.cam (4 * port + vc)).frame
      ∧ c.lines = (s.cam (4 * port + vc)).lines + 1 := by
    unfold doLongPacket
    dsimp only
    rw [live, State.camHeader_taken good enabled, if_neg (by decide)]
    dsimp only
    rw [if_neg (by decide), State.cam_countHeader, State.fld_countHeader _ _ _ (by decide),
      State.fld_countHeader _ _ _ (by decide), isOpen, if_neg (by simp [typed]), if_neg (Nat.not_le.2 room)]
    exact ⟨_, _, group _ _, head, rfl, rfl, rfl⟩
  obtain ⟨u, c, line, kept, begun, frame, lines⟩ := entered
  have own := u.cam_setCam_same (4 * port + vc) c
  dsimp only
  refine ⟨?_, ?_, ?_, fun y other => ?_, line.mem.trans kept.mem, line.clusters.trans kept.clusters⟩
  · rw [line.isOpen, own, begun]
  · rw [line.lines, own, lines]
  · rw [line.frame, own, frame]
  · rw [line.others y other, State.cam_setCam, if_neg (Ne.symm other), kept.others y other]

/-- FRAME_END closes the open frame. -/
theorem doFrameEnd_closes (isOpen : (s.cam (4 * port + vc)).isOpen = true) :
    doFrameEnd port vc hdr false s = (s.countHeader port hdr).closeFrame (4 * port + vc) 0 := by
  unfold doFrameEnd
  rw [live, State.camHeader_taken good enabled, if_neg (by decide)]
  dsimp only
  rw [if_neg (by decide), State.cam_countHeader, isOpen, if_pos rfl]

end

section
variable {s : State} {port vc : Nat} (live : s.camLive port vc = true)
  (enabled : bitOf (s.fld (regAp port 0) 25 22) vc = true)
include live

theorem State.live_of_camLive : s.mode ≠ 2 := by
  intro replay
  simp [State.camLive, replay] at live

/-- FTO has elapsed: the open frame is closed. -/
theorem doFrameTimeout_closes (isOpen : (s.cam (4 * port + vc)).isOpen = true)
    (late : (s.cam (4 * port + vc)).seenAt + ticks100us (max 1 (s.fld (regAp port 8) 31 16)) ≤ s.ticks) :
    doFrameTimeout port vc s = s.closeFrame (4 * port + vc) 0x20000000 :=
  if_pos ⟨State.live_of_camLive live, isOpen, late⟩

include enabled

/-- A packet of another type, or outside a frame, is dropped. -/
theorem doLongPacket_drops {dt : Nat} (stray : dt ≠ s.fld (regAp port 0) 21 16 ∨ (s.cam (4 * port + vc)).isOpen = false)
    (crc : Bool) (bs : List Byte) (ago : Nat) : doLongPacket port vc dt 0 false crc bs ago s = s.dropPkt port := by
  unfold doLongPacket
  dsimp only
  rw [live, State.camHeader_taken (by decide) enabled, if_neg (by decide)]
  exact if_pos stray

/-- Embedded data enters the recorder with its frame. -/
theorem doEmbeddedData_records (isOpen : (s.cam (4 * port + vc)).isOpen = true) (bs : List Byte) (ago : Nat) :
    doEmbeddedData port vc 0 false bs ago s = (s.capture (4 * port + vc) 3 (s.mediumStamp (regAp port 0x28) ago)
      (leBytes 4 (s.cam (4 * port + vc)).frame.toNat ++ leBytes 4 bs.length ++ bs)).2 := by
  unfold doEmbeddedData
  dsimp only
  rw [live, State.camHeader_taken (by decide) enabled, if_neg (by decide), State.cam_countHeader, isOpen]
  rfl

end

/-- What stands in the buffer after a close. -/
theorem State.closeFrame_leaves {s : State} {port vc : Nat} (channel : vc < 4)
    (isOpen : (s.cam (4 * port + vc)).isOpen = true) (bits : Nat) :
    let x := 4 * port + vc
    let t := s.closeFrame x bits
    ∃ l b, (t.cam x).isOpen = false ∧ (t.cam x).frame = (s.cam x).frame ∧ (∀ y, y ≠ x → t.cam y = s.cam y)
      ∧ t.buf port = l ++ [b] ∧ b.kind = .close ∧ b.stream = x ∧ b.frame = (s.cam x).frame.toNat ∧ t.mem = s.mem
      ∧ t.clusters = s.clusters ∧ (bits = 0 → (s.cam x).flags = 0 → (s.cam x).gLines = 0 →
        (s.cam x).lines = s.fld (regAp port 4) 31 16 → b.status = 2 ^ 31 + (s.cam x).lines) := by
  have own : (4 * port + vc) / 4 = port := by omega
  have kept := s.closeFrame_closedFrame (4 * port + vc) bits
  obtain ⟨u, b, e, -, kind, stream, frame, status⟩ := State.closeFrame_eq isOpen bits
  rw [own] at e status
  refine ⟨u.buf port, b, kept.closed, kept.frame, kept.others, ?_, kind, stream, frame, kept.mem, kept.clusters, status⟩
  rw [e]
  exact u.buf_setBuf ..

/-! ### The statement -/

/-- Settles O20: each packet by what it does to the frame of its channel, all else being left alone. -/
theorem cameraFrames : Obligations.CameraFrames := by
  unfold Obligations.CameraFrames
  intro s port vc hdr ago hport hvc hhdr live enabled
  have packet : (below 16 port && below 4 vc && below 3 hdr) = true := by
    simp only [below, hport, hvc, Nat.lt_succ_of_lt hhdr, decide_true, Bool.and_self]
  have long {dt : Nat} {bs : List Byte} (hdt : dt < 64) (hbs : bs.length < 2 ^ 16) :
      (below 16 port && below 4 vc && below 64 dt && below 3 hdr && below (2 ^ 16) bs.length) = true := by
    simp only [below, hport, hvc, hdt, Nat.lt_succ_of_lt hhdr, hbs, decide_true, Bool.and_self]
  refine ⟨⟨_, exec_frameStart packet, doFrameStart_opens hhdr live enabled ago⟩,
    fun dt crc bs hdt hbs typed isOpen room => ⟨_, exec_longPacket (long hdt hbs),
      doLongPacket_line hhdr live enabled typed isOpen room crc bs ago⟩,
    fun dt crc bs hdt hbs plain stray => ?_, fun i way isOpen => ?_, fun bs hbs plain isOpen => ?_⟩
  · subst plain
    rw [exec_longPacket (long hdt hbs), doLongPacket_drops live enabled stray]
    rfl
  · rcases way with rfl | ⟨rfl, late⟩
    · have headed : ((s.countHeader port hdr).cam (4 * port + vc)).isOpen = true := by rwa [State.cam_countHeader]
      have kept := s.countHeader_openFrame port hdr (4 * port + vc)
      obtain ⟨l, b, closed, frame, others, buf, kind, stream, number, mem, clusters, status⟩ :=
        State.closeFrame_leaves hvc headed 0
      rw [State.cam_countHeader] at frame number status
      rw [State.fld_countHeader _ _ _ (by decide)] at status
      refine ⟨_, l, b, (exec_frameEnd packet).trans (congrArg _ (doFrameEnd_closes hhdr live enabled isOpen)), closed, frame,
        fun y other => (others y other).trans (State.cam_countHeader ..), buf, kind, stream, number, mem.trans kept.mem,
        clusters.trans kept.clusters, fun _ => status rfl⟩
    · obtain ⟨l, b, closed, frame, others, buf, kind, stream, number, mem, clusters, -⟩ :=
        State.closeFrame_leaves hvc isOpen 0x20000000
      exact ⟨_, l, b, (exec_frameTimeout (below_and_below hport hvc)).trans
        (congrArg _ (doFrameTimeout_closes live isOpen late)), closed, frame, others, buf, kind, stream, number, mem, clusters,
        fun other => nomatch other⟩
  · subst plain
    have operands : (below 16 port && below 4 vc && below 3 0 && below (2 ^ 16) bs.length) = true := by
      simp only [below, hport, hvc, hbs, Nat.zero_lt_succ, decide_true, Bool.and_self]
    rw [exec_embeddedData operands, doEmbeddedData_records live enabled isOpen]

end Sys2Proof.Machine
end

section
/-! PROOFS. Ports and links (O21). A sector that closes is emitted to memory: the clusters, the ports, the time base and the
registers of the ports stay (`SectorFrame`); with that, each command is its own few writes. -/

namespace Sys2Proof.Machine

/-! ### What the emission of a sector leaves alone (R396, R397) -/

/-- The registers of the sensor ports and of Weir. -/
def portReg (off : Nat) : Prop := 0x420000 ≤ off ∧ off < 0x480000

/-- From s to t the clusters, the ports and the time base stayed, with the registers of the ports. -/
structure SectorFrame (s t : State) : Prop where
  clusters : t.clusters = s.clusters
  sens : t.sens = s.sens
  time : t.time = s.time
  reg : ∀ off, portReg off → t.reg off = s.reg off

namespace SectorFrame

variable {s t u : State}

/-- A change of none of the fields concerned. -/
theorem of_eq (regs : t.regs = s.regs := by rfl) (clusters : t.clusters = s.clusters := by rfl)
    (sens : t.sens = s.sens := by rfl) (time : t.time = s.time := by rfl) : SectorFrame s t :=
  ⟨clusters, sens, time, fun off _ => State.reg_of_regs regs off⟩

theorem refl (s : State) : SectorFrame s s := of_eq

theorem trans (h : SectorFrame s t) (k : SectorFrame t u) : SectorFrame s u :=
  ⟨k.clusters.trans h.clusters, k.sens.trans h.sens, k.time.trans h.time,
    fun off port => (k.reg off port).trans (h.reg off port)⟩

theorem setReg (h : SectorFrame s t) {off : Nat} (other : ¬ portReg off) (v : Word32) : SectorFrame s (t.setReg off v) :=
  h.trans ⟨rfl, rfl, rfl, fun _ port => State.reg_setReg_ne _ _ (fun same => other (same ▸ port))⟩

theorem send (h : SectorFrame s t) (src kind addr : Nat) (c : Bool) (l : List Nat) : SectorFrame s (t.send src kind addr c l) :=
  h.trans of_eq

theorem setLid (h : SectorFrame s t) (x : Nat) (l : LidSt) : SectorFrame s (t.setLid x l) := h.trans of_eq

theorem foldl {α : Type} {f : State → α → State} (l : List α) (h : SectorFrame s t) (each : ∀ u x, SectorFrame u (f u x)) :
    SectorFrame s (l.foldl f t) :=
  List.foldlRecOn (motive := SectorFrame s) l f h fun u kept x _ => kept.trans (each u x)

theorem fld (h : SectorFrame s t) {off : Nat} (port : portReg off) (hi lo : Nat) : t.fld off hi lo = s.fld off hi lo := by
  rw [State.fld, h.reg off port, State.fld]

end SectorFrame

section
variable (s : State)

/-- The counters of a pseudo-channel are registers of the HBM block. -/
theorem regHbs_not_portReg (off : Nat) {o : Nat} (ho : o < 0x1000) : ¬ portReg (regHbs (hbPc off / 32) o) := by
  have pc : hbPc off < 64 := Nat.mod_lt _ (by decide)
  unfold portReg regHbs
  omega

theorem State.hbNote_sectorFrame (off : Nat) (l : List (Nat × Finding × Gran)) : SectorFrame s (s.hbNote off l) := by
  have note {t : State} {o : Nat} (h : SectorFrame s t) (ho : o < 0x1000) (v : Word32) :=
    h.setReg (regHbs_not_portReg off ho) v
  unfold State.hbNote
  split
  · exact .refl s
  · dsimp only
    refine SectorFrame.foldl _ (note (note (note (note (note (.refl s) ?_ _) ?_ _) ?_ _) ?_ _) ?_ _) fun t x => ?_
    iterate 5 decide
    split
    · split
      · exact .refl t
      · split
        · split
          · exact .refl t
          · exact .of_eq
        · exact .of_eq
    · exact .refl t

theorem State.hubNote_sectorFrame (space off : Nat) (l : List (Nat × Finding × Gran)) :
    SectorFrame s (s.hubNote space off l) := by
  unfold State.hubNote
  refine SectorFrame.foldl _ (.refl s) fun t x => ?_
  split
  · split
    · exact .refl t
    · exact .of_eq
  · exact .refl t

theorem State.unitNote_sectorFrame (space off : Nat) (l : List (Nat × Finding × Gran)) :
    SectorFrame s (s.unitNote space off l) := by
  unfold State.unitNote
  split
  · exact s.hbNote_sectorFrame off l
  · split
    · exact s.hubNote_sectorFrame space off l
    · exact .refl s

theorem State.hubWrite_sectorFrame (space off : Nat) (bs : List (Byte × Bool)) :
    SectorFrame s (s.hubWrite space off bs) := by
  unfold State.hubWrite
  refine SectorFrame.foldl _ (.refl s) fun t u => .trans ?_ (State.unitNote_sectorFrame ..)
  split <;> exact .of_eq

theorem State.writeFor_sectorFrame (ctx space off : Nat) (bs : List (Byte × Bool)) :
    SectorFrame s (s.writeFor ctx space off bs) := by
  unfold State.writeFor
  split
  · exact .of_eq
  · have written := State.hubWrite_sectorFrame { s with actor := [ctx] } space off bs
    exact ⟨written.clusters, written.sens, written.time, written.reg⟩

theorem State.writeSlot_sectorFrame (geo : RingGeo) (k : Nat) (rows : List (List GroupOut)) :
    SectorFrame s (s.writeSlot geo k rows) :=
  SectorFrame.foldl _ (.refl s) fun t _ => (t.writeFor_sectorFrame ..).trans (State.writeFor_sectorFrame ..)

/-- The pipeline's registers are none of a port's. -/
theorem regIp_not_portReg (o : Nat) : ¬ portReg (regIp o) := by
  unfold portReg regIp
  omega

/-- A free value is counted. -/
theorem State.free_sectorFrame (n : Nat) : SectorFrame s (s.free n).2 := .of_eq

theorem State.freeTime_sectorFrame : SectorFrame s s.freeTime.2 := s.free_sectorFrame (2 ^ 112)

theorem State.emitSector_sectorFrame (x rev n : Nat) (vals : List (Nat × Nat × Nat × Nat)) (flags pkts : Nat)
    (stamp seq : Option Nat) : SectorFrame s (s.emitSector x rev n vals flags pkts stamp seq) := by
  have counted {t : State} (h : SectorFrame s t) (m : Nat) :
      SectorFrame s ((t.orReg (regIp 0x10) m).count (regLid x 0x44) 31 16) :=
    (h.setReg (regIp_not_portReg _) _).setReg (regIp_not_portReg _) _
  have written {t : State} (h : SectorFrame s t) (geo : RingGeo) (k ctx space off : Nat) (rows : List (List GroupOut))
      (bs : List (Byte × Bool)) : SectorFrame s ((t.writeSlot geo k rows).writeFor ctx space off bs) :=
    (h.trans (t.writeSlot_sectorFrame ..)).trans (State.writeFor_sectorFrame ..)
  unfold State.emitSector
  dsimp only
  refine counted (written ?_ ..) _
  cases stamp <;> cases seq <;> dsimp only
  · exact s.freeTime_sectorFrame.trans (State.free_sectorFrame ..)
  · exact s.freeTime_sectorFrame
  · exact s.free_sectorFrame _
  · exact .refl s

theorem State.closeSector_sectorFrame (x extra : Nat) (seq : Option Nat) : SectorFrame s (s.closeSector x extra seq) := by
  unfold State.closeSector
  dsimp only
  split
  · exact .refl s
  · exact .setLid (s.emitSector_sectorFrame ..) ..

/-- The stream has no open sector then. -/
theorem State.closeSector_closes (x extra : Nat) (seq : Option Nat) :
    ((s.closeSector x extra seq).inp.lids.get x LidSt.reset).sector = none := by
  unfold State.closeSector
  dsimp only
  split
  · next shut => exact shut
  · exact congrArg LidSt.sector (Table.get_set_same ..)

theorem State.closeSectors_sectorFrame (p : Nat) : SectorFrame s (s.closeSectors p) :=
  SectorFrame.foldl _ (.refl s) fun t _ => t.closeSector_sectorFrame ..

end

/-! ### Launch queues (R416) -/

/-- Every entry that is dropped is counted. -/
theorem State.foldl_lqLate (s : State) (q : Nat) (l : List LaunchEntry) : ∃ w, l.foldl (fun (s : State) _ => s.lqLate q) s =
    { s with regs := w } ∧ ∀ off, off ≠ regLq q 0x14 → State.reg { s with regs := w } off = s.reg off := by
  induction l generalizing s with
  | nil => exact ⟨s.regs, rfl, fun _ _ => rfl⟩
  | cons e l ih =>
    obtain ⟨w, dropped, others⟩ := ih (s.lqLate q)
    exact ⟨w, dropped, fun off other => (others off other).trans (State.reg_setReg_ne _ _ other.symm)⟩

section
variable (s : State) (q : Nat)

/-- The queue is empty then; no register but its count changed, and no cluster. -/
theorem State.lqDropAll_leaves : (s.lqDropAll q).time.launch.get q [] = [] ∧ (s.lqDropAll q).clusters = s.clusters
    ∧ ∀ off, off ≠ regLq q 0x14 → (s.lqDropAll q).reg off = s.reg off := by
  obtain ⟨w, dropped, others⟩ := s.foldl_lqLate q (s.time.launch.get q [])
  rw [State.lqDropAll, dropped]
  exact ⟨Table.get_set_same .., rfl, others⟩

/-- The link bit of a launch queue's port. -/
def linkReg : Nat := if q < 4 then regLp q 4 else regTw 0

theorem State.lqLink_eq : s.lqLink q = decide (s.fld (linkReg q) 0 0 = 1) := rfl

theorem linkReg_portReg {q : Nat} (hq : q < 5) : portReg (linkReg q) := by
  unfold portReg linkReg regLp regTw
  split <;> omega

theorem portReg_ne_regLq {off : Nat} (port : portReg off) : off ≠ regLq q 0x14 := by
  unfold regLq regTb
  unfold portReg at port
  omega

theorem State.lqDropAll_fld {off : Nat} (port : portReg off) (hi lo : Nat) :
    (s.lqDropAll q).fld off hi lo = s.fld off hi lo := by
  rw [State.fld, (s.lqDropAll_leaves q).2.2 off (portReg_ne_regLq q port), State.fld]

end

/-- A lost link: its queue is empty and its bit clear. -/
theorem doEthLink_leaves {s : State} {q : Nat} (hq : q < 5) (up : s.lqLink q = true) :
    let t := doEthLink q s
    t.lqLink q = false ∧ t.time.launch.get q [] = [] ∧ t.clusters = s.clusters := by
  obtain ⟨dropped, clusters, -⟩ := (s.setFld (linkReg q) 0 0 0).lqDropAll_leaves q
  have cleared : ((s.setFld (linkReg q) 0 0 0).lqDropAll q).fld (linkReg q) 0 0 = 0 := by
    rw [State.lqDropAll_fld _ _ (linkReg_portReg hq)]
    exact State.fld_setFld _ _ 0 (by decide) (by decide)
  have closed (u : State) : SectorFrame u (if q < 4 then u.closeSectors q else u) := by
    split
    · exact u.closeSectors_sectorFrame q
    · exact .refl u
  have kept := closed ((s.setFld (linkReg q) 0 0 0).lqDropAll q)
  have lost : doEthLink q s = (if q < 4 then ((s.setFld (linkReg q) 0 0 0).lqDropAll q).closeSectors q
      else (s.setFld (linkReg q) 0 0 0).lqDropAll q).send (portSrc (16 + q)) 0x55 0 true [] := by
    unfold doEthLink
    rw [up]
    rfl
  dsimp only
  rw [lost, State.send_time, State.send_clusters, kept.time, kept.clusters, dropped, clusters, State.lqLink_eq]
  refine ⟨decide_eq_false ?_, rfl, rfl⟩
  rw [State.fld_of_regs (State.send_regs ..), kept.fld (linkReg_portReg hq), cleared]
  exact Nat.zero_ne_one

/-! ### Locks and receivers of camera ports (R354, R356) -/

/-- The frames of the listed channels are closed, and stay so. -/
theorem State.foldl_closeFrame (port bits : Nat) (l : List Nat) (s : State) :
    let t := l.foldl (fun (s : State) v => s.closeFrame (4 * port + v) bits) s
    (∀ y, (s.cam y).isOpen = false ∨ y ∈ l.map (4 * port + ·) → (t.cam y).isOpen = false) ∧ t.mem = s.mem
      ∧ t.clusters = s.clusters := by
  induction l generalizing s with
  | nil =>
    refine ⟨fun y shut => ?_, rfl, rfl⟩
    simpa using shut
  | cons v l ih =>
    have closed := s.closeFrame_closedFrame (4 * port + v) bits
    obtain ⟨shut, mem, clusters⟩ := ih (s.closeFrame (4 * port + v) bits)
    refine ⟨fun y way => shut y ?_, mem.trans closed.mem, clusters.trans closed.clusters⟩
    by_cases own : y = 4 * port + v
    · exact .inl (own ▸ closed.closed)
    · rw [closed.others y own]
      simpa [own] using way

theorem State.closeAll_leaves (s : State) (port bits : Nat) :
    let t := s.closeAll port bits
    (∀ v, v < 4 → (t.cam (4 * port + v)).isOpen = false) ∧ t.mem = s.mem ∧ t.clusters = s.clusters := by
  obtain ⟨shut, mem, clusters⟩ := State.foldl_closeFrame port bits (upTo 4) s
  exact ⟨fun v hv => shut _ (.inr (List.mem_map_of_mem (List.mem_range.2 hv))), mem, clusters⟩

/-- In live use the open frames of the port are closed; in replay they are not its own. -/
theorem State.closeLive_leaves (s : State) (port bits : Nat) :
    let t := if s.mode = 2 then s else s.closeAll port bits
    (s.mode ≠ 2 → ∀ v, v < 4 → (t.cam (4 * port + v)).isOpen = false) ∧ t.mem = s.mem ∧ t.clusters = s.clusters := by
  dsimp only
  split
  · next replay => exact ⟨fun live => (live replay).elim, rfl, rfl⟩
  · obtain ⟨shut, mem, clusters⟩ := s.closeAll_leaves port bits
    exact ⟨fun _ => shut, mem, clusters⟩

theorem doLossOfLock_leaves {s : State} {port : Nat} (locked : s.fld (regAp port 0x10) 2 2 = 1) :
    let t := doLossOfLock port s
    t.fld (regAp port 0x10) 2 2 = 0 ∧ (s.mode ≠ 2 → ∀ v, v < 4 → (t.cam (4 * port + v)).isOpen = false) ∧ t.mem = s.mem
      ∧ t.clusters = s.clusters := by
  obtain ⟨shut, mem, clusters⟩ := s.closeLive_leaves port 0x40000000
  unfold doLossOfLock
  rw [if_neg (by rw [locked]; decide)]
  dsimp only at shut mem clusters ⊢
  generalize (if s.mode = 2 then s else s.closeAll port 0x40000000) = u at shut mem clusters ⊢
  rw [State.fld_of_regs (State.sendLimited_keeps State.regs ..), State.fld_setFld_low _ _ _ (by decide) (by decide) (by decide),
    State.sendLimited_keeps State.mem, State.sendLimited_keeps State.clusters]
  refine ⟨rfl, fun live v hv => ?_, mem, clusters⟩
  rw [State.sendLimited_keeps (·.cam (4 * port + v))]
  exact shut live v hv

/-- The receivers of a port's channels begin anew. -/
theorem State.foldl_startCam (port : Nat) (l : List Nat) (s : State) : ∃ cams : Table CamSt,
    l.foldl (fun (s : State) c => s.setCam (4 * port + c) { CamSt.reset with seenAt := s.ticks }) s
      = { s with sens := { s.sens with cams := cams } }
    ∧ ∀ y, y ∈ l.map (4 * port + ·) ∨ s.cam y = { CamSt.reset with seenAt := s.ticks } →
      cams.get y CamSt.reset = { CamSt.reset with seenAt := s.ticks } := by
  induction l generalizing s with
  | nil =>
    refine ⟨s.sens.cams, rfl, fun y begun => ?_⟩
    simpa [State.cam] using begun
  | cons c l ih =>
    obtain ⟨cams, started, begun⟩ := ih (s.setCam (4 * port + c) { CamSt.reset with seenAt := s.ticks })
    refine ⟨cams, started, fun y way => begun y ?_⟩
    rw [State.cam_setCam]
    by_cases own : 4 * port + c = y
    · rw [if_pos own]
      exact .inr rfl
    · rw [if_neg own]
      exact way.imp_left fun mem => (List.mem_cons.1 mem).resolve_left (Ne.symm own)

section
variable {s : State} {port : Nat} {v : Word32}

/-- A receiver that is switched on starts its channels anew. -/
theorem doReceiverEnable_on (hport : port < 16) (off : s.fld (regAp port 0) 31 31 = 0) (on : bitOf v.toNat 31 = true) :
    let t := doReceiverEnable port v s
    t.reg (regAp port 0) = v &&& 0x8FFF003F#32 ∧ (∀ c, c < 4 → t.cam (4 * port + c) = { CamSt.reset with seenAt := s.ticks })
      ∧ t.mem = s.mem ∧ t.clusters = s.clusters := by
  obtain ⟨cams, started, begun⟩ := State.foldl_startCam port (upTo 4) (s.setReg (regAp port 0) (v &&& 0x8FFF003F#32))
  have apart {o : Nat} (ho : o < 0x1000) (other : o ≠ 0) : regAp port o ≠ regAp port 0 := regAp_ne ho (by decide) (.inr other)
  unfold doReceiverEnable
  dsimp only
  rw [if_pos hport, if_neg (by rw [off]; decide), on, if_neg (by decide), started]
  refine ⟨?_, fun c hc => begun _ (.inl (List.mem_map_of_mem (List.mem_range.2 hc))), rfl, rfl⟩
  rw [State.camShow, State.reg_setReg_ne _ _ (apart (by decide) (by decide)), State.setFld_eq,
    State.reg_setReg_ne _ _ (apart (by decide) (by decide)), State.setFld_eq,
    State.reg_setReg_ne _ _ (apart (by decide) (by decide))]
  exact s.reg_setReg_same ..

/-- A camera receiver that is switched off loses its lock. -/
theorem doReceiverEnable_off_camera (hport : port < 16) (on : s.fld (regAp port 0) 31 31 = 1) (off : bitOf v.toNat 31 = false) :
    let t := doReceiverEnable port v s
    t.fld (regAp port 0) 31 31 = 0 ∧ t.fld (regAp port 0x10) 2 0 = 0 ∧ t.clusters = s.clusters := by
  obtain ⟨-, -, clusters⟩ := s.closeLive_leaves port 0x80000
  unfold doReceiverEnable
  dsimp only
  rw [if_pos hport, if_pos on, off, if_neg Bool.false_ne_true,
    State.fld_setFld_ne _ (regAp_ne (by decide) (by decide) (.inr (by decide))),
    State.fld_setFld _ _ _ (by decide) (by decide), State.fld_setFld _ _ _ (by decide) (by decide)]
  exact ⟨rfl, rfl, clusters⟩

/-- A lidar receiver that is switched off loses its link. -/
theorem doReceiverEnable_off_lidar (hport : port < 20) (lidar : 16 ≤ port)
    (on : s.fld (regLp (port - 16) 0) 31 31 = 1) (off : bitOf v.toNat 31 = false) :
    let t := doReceiverEnable port v s
    t.fld (regLp (port - 16) 0) 31 31 = 0 ∧ t.lqLink (port - 16) = false ∧ t.clusters = s.clusters := by
  have named (o : Nat) (ho : o < 0x1000) : portReg (regLp (port - 16) o) := by
    unfold portReg regLp
    omega
  have link : linkReg (port - 16) = regLp (port - 16) 4 := if_pos (by omega)
  have apart : regLp (port - 16) 4 ≠ regLp (port - 16) 0 := by
    unfold regLp
    omega
  have clusters := (s.closeSectors_sectorFrame (port - 16)).clusters
  unfold doReceiverEnable
  dsimp only
  rw [if_neg (by omega), if_pos on, off, if_neg Bool.false_ne_true, State.lqLink_eq, link]
  generalize s.closeSectors (port - 16) = u at clusters ⊢
  rw [State.lqDropAll_fld _ _ (named 0 (by decide)), State.lqDropAll_fld _ _ (named 4 (by decide)), State.fld_setFld_ne _ apart,
    State.fld_setFld _ _ _ (by decide) (by decide), State.fld_setFld _ _ _ (by decide) (by decide),
    (State.lqDropAll_leaves ..).2.1]
  exact ⟨rfl, rfl, clusters⟩

end

/-! ### Silent streams (R358, R366) -/

/-- A camera stream that stays silent is reported. -/
theorem doSensStreamTimeout_camera {s : State} {x : Nat} (hx : x < 64) (live : s.mode ≠ 2)
    (on : s.fld (regAp (x / 4) 0) 31 31 = 1) (enabled : bitOf (s.fld (regAp (x / 4) 0) 25 22) (x % 4) = true)
    (first : (s.cam x).late = false)
    (silent : (s.cam x).seenAt + ticks100us (max 1 (s.fld (regAp (x / 4) 8) 15 0)) ≤ s.ticks) :
    doSensStreamTimeout x s = (s.setCam x { s.cam x with late := true }).send (0x700 + x) 0x52 0 true [] := by
  unfold doSensStreamTimeout
  rw [if_neg live, if_pos hx]
  exact if_pos ⟨on, enabled, first, silent⟩

/-- A lidar stream that stays silent is reported, and its sector closed. -/
theorem doSensStreamTimeout_lidar {s : State} {p f : Nat} (hf : f < 8) (live : s.mode ≠ 2)
    (on : s.fld (regLp p 0) 31 31 = 1) (enabled : s.fld (regLp p (0x40 + 0x10 * f)) 31 31 = 1)
    (first : (s.sens.lidSeen.get (64 + 8 * p + f) (0, false)).2 = false)
    (silent : (s.sens.lidSeen.get (64 + 8 * p + f) (0, false)).1
      + ticks100us (max 1 (s.fld (regLp p (0xC0 + 4 * f)) 15 0)) ≤ s.ticks) :
    let x := 64 + 8 * p + f
    let t := doSensStreamTimeout x s
    (t.sens.lidSeen.get x (0, false)).2 = true ∧ (t.inp.lids.get x LidSt.reset).sector = none ∧ t.clusters = s.clusters := by
  have port : (64 + 8 * p + f - 64) / 8 = p := by omega
  have filter : (64 + 8 * p + f - 64) % 8 = f := by omega
  unfold doSensStreamTimeout
  dsimp only
  rw [if_neg live, if_neg (by omega), port, filter, if_pos ⟨on, enabled, first, silent⟩]
  refine ⟨?_, State.closeSector_closes .., (State.closeSector_sectorFrame ..).clusters⟩
  rw [(State.closeSector_sectorFrame ..).sens]
  exact congrArg Prod.snd (Table.get_set_same ..)

/-! ### Frames on lidar ports (R365, R366) -/

/-- A frame of a right length with a good FCS. -/
theorem ethFrame_fits {fcsOk : Bool} {bs : List Byte} (good : fcsOk = true) (least : 60 ≤ bs.length) (most : bs.length ≤ 9018) :
    ¬ (fcsOk = false ∨ bs.length + 4 < 64 ∨ 9022 < bs.length + 4) := by
  rw [good, not_or, not_or]
  exact ⟨by decide, by omega, by omega⟩

section
variable {s : State} {q ago : Nat} {fcsOk : Bool} {bs : List Byte} (hq : q < 4) (live : s.mode ≠ 2)
  (on : s.fld (regLp q 0) 31 31 = 1) (link : s.lqLink q = true) (unfenced : s.fences.contains (0x610 + q) = false)
include hq live on link unfenced

/-- The port takes frames. -/
theorem lidarPort_takes : ¬ (s.mode = 2 ∨ s.fld (regLp q 0) 31 31 = 0 ∨ s.fld (regLp q 4) 0 0 = 0
    ∨ s.fences.contains (portSrc (16 + q)) = true) := by
  have up : s.fld (regLp q 4) 0 0 = 1 := by
    rw [State.lqLink_eq, linkReg, if_pos hq] at link
    exact of_decide_eq_true link
  have source : portSrc (16 + q) = 0x610 + q := (Nat.add_assoc 0x600 16 q).symm
  rw [source, unfenced, on, up]
  simp [live]

/-- A frame with a wrong length or FCS is counted. -/
theorem doEthInput_bad (bad : fcsOk = false ∨ bs.length < 60 ∨ 9018 < bs.length) :
    doEthInput q fcsOk bs ago s = s.bump (regLp q 8) 31 16 1 := by
  unfold doEthInput doEthFrame
  rw [if_pos hq, if_neg (lidarPort_takes hq live on link unfenced),
    if_pos (bad.imp_right (.imp (by omega) (by omega)))]

variable (good : fcsOk = true) (least : 60 ≤ bs.length) (most : bs.length ≤ 9018)
include good least most

/-- A gPTP frame is recorded. -/
theorem doEthInput_gptp (gptp : (etherOf bs).1 = 0x88F7) : doEthInput q fcsOk bs ago s =
    s.ptpRecord (100 + q) 0 (s.mediumStamp (regLp q 0x10) ago) (bs.drop (etherOf bs).2.2) := by
  unfold doEthInput doEthFrame
  rw [if_pos hq, if_neg (lidarPort_takes hq live on link unfenced), if_neg (ethFrame_fits good least most)]
  exact if_pos gptp

/-- A frame that a filter claims is one packet of its stream; then it enters the port's buffer. -/
theorem doEthInput_claimed {f u : Nat} (other : (etherOf bs).1 ≠ 0x88F7) (noPause : (etherOf bs).1 ≠ 0x8808)
    (claimed : (upTo 8).findSome? (fun f => (s.lpClaim q f bs).map (fun u => (f, u))) = some (f, u))
    (atLeast : s.fld (regLp q (0x4C + 0x10 * f)) 17 4 ≤ bs.length - u)
    (atMost : bs.length - u ≤ s.fld (regLp q (0x4C + 0x10 * f)) 31 18) :
    let x := 64 + 8 * q + f
    ∃ (w : State) (b : BufItem), doEthInput q fcsOk bs ago s = w.enterBuf b ∧ b.stream = x ∧ w.mem = s.mem
      ∧ w.clusters = s.clusters
      ∧ w.sens.packets = s.sens.packets.set x (s.sens.packets.get x 0 + 1)
      ∧ w.sens.lidSeen = s.sens.lidSeen.set x (s.ticks, false) := by
  unfold doEthInput doEthFrame
  dsimp only
  rw [if_pos hq, if_neg (lidarPort_takes hq live on link unfenced), if_neg (ethFrame_fits good least most), if_neg other,
    if_neg noPause, claimed]
  dsimp only
  rw [if_neg (by omega)]
  refine ⟨_, _, rfl, rfl, ?_⟩
  split <;> exact ⟨rfl, rfl, rfl, rfl⟩

end

/-! ### The statement -/

/-- Settles O21: each command by its equation or by what it leaves, with what a sector or a frame that closes keeps. -/
theorem portsAndLinks : Obligations.PortsAndLinks := by
  unfold Obligations.PortsAndLinks
  intro s
  refine ⟨fun port hport locked => ⟨_, exec_lossOfLock (decide_eq_true hport), doLossOfLock_leaves locked⟩,
    fun port gear hport slow fast on fits unlocked unfenced => ?_,
    fun x hx live on enabled first silent => ?_,
    fun p f hp hf live on enabled first silent => ⟨_, exec_sensStreamTimeout (decide_eq_true (by omega)),
      doSensStreamTimeout_lidar hf live on enabled first silent⟩,
    fun q hq up => ⟨_, exec_ethLink (decide_eq_true hq), doEthLink_leaves hq up⟩,
    fun q hq down ready => ?_,
    fun port v hport off on => ⟨_, exec_receiverEnable (decide_eq_true (by omega)), doReceiverEnable_on hport off on⟩,
    fun port v hport off on => ?_,
    fun q ago fcsOk bs hq hbs live on link unfenced => ?_⟩
  · have operands : (below 16 port && isGear gear) = true := by
      simp only [below, isGear, hport, slow, fast, and_self, decide_true, Bool.and_self]
    rw [exec_lockAcquired operands]
    exact congrArg _ (if_pos ⟨on, slow, fits, unlocked, unfenced⟩)
  · rw [exec_sensStreamTimeout (decide_eq_true (by omega)), doSensStreamTimeout_camera hx live on enabled first silent]
  · have source : portSrc (16 + q) = 0x610 + q := (Nat.add_assoc 0x600 16 q).symm
    rw [exec_ethLinkUp (decide_eq_true hq), doEthLinkUp, source, if_neg]
    rintro (up | ⟨lidar, off | fenced⟩)
    · exact absurd (up.symm.trans down) (by decide)
    · exact absurd ((ready lidar).1.symm.trans off) (by decide)
    · exact absurd (fenced.symm.trans (ready lidar).2) (by decide)
  · have run := exec_receiverEnable (port := port) (v := v) (s := s) (decide_eq_true hport)
    by_cases camera : port < 16
    · simp only [if_pos camera] at on ⊢
      obtain ⟨disabled, unlocked, clusters⟩ := doReceiverEnable_off_camera camera on off
      exact ⟨_, run, disabled, fun _ => unlocked, fun lidar => absurd camera (Nat.not_lt.2 lidar), clusters⟩
    · simp only [if_neg camera] at on ⊢
      obtain ⟨disabled, down, clusters⟩ := doReceiverEnable_off_lidar hport (Nat.le_of_not_lt camera) on off
      exact ⟨_, run, disabled, fun h => absurd h camera, fun _ => down, clusters⟩
  · have run (ok : Bool) := exec_ethFrame (q := q) (fcsOk := ok) (bs := bs) (ago := ago) (s := s)
      (below_and_below (Nat.lt_succ_of_lt hq) hbs)
    refine ⟨fun bad => ?_, fun good least most => ⟨fun gptp => ?_, fun f u other noPause claimed atLeast atMost => ?_⟩⟩
    · rw [run, doEthInput_bad hq live on link unfenced bad]
    · rw [run, doEthInput_gptp hq live on link unfenced good least most gptp]
    · obtain ⟨w, b, taken, stream, mem, clusters, packets, seen⟩ :=
        doEthInput_claimed (ago := ago) hq live on link unfenced good least most other noPause claimed atLeast atMost
      have kept := (OpenFrame.refl (64 + 8 * q + f) w).enterBuf stream
      refine ⟨_, run _, ?_⟩
      rw [taken, kept.packets, kept.lidSeen, packets, seen]
      exact ⟨Table.get_set_same .., Table.get_set_same .., kept.mem.trans mem, kept.clusters.trans clusters⟩

end Sys2Proof.Machine
end

section
/-! PROOFS. Answers, steps and whole runs (O53, O54, O57). A command's answer is its meaning's where its operands exist; a step
takes one command off the queue, and a run of a safe queue ends with it. -/

namespace Sys2Proof.Machine

/-! ### Answers -/

/-- Every command answers by the check of its operands. -/
theorem exec_eq_answer (i : Instr) (s : State) : ∃ t, exec i s = answer i.wf t := by
  cases i <;> exact ⟨_, rfl⟩

/-- Settles O54: a command answers by the check of its operands alone. -/
theorem refusedExactlyWhenIllFormed : Obligations.RefusedExactlyWhenIllFormed := by
  unfold Obligations.RefusedExactlyWhenIllFormed
  intro i s
  obtain ⟨t, answered⟩ := exec_eq_answer i s
  rw [answered]
  exact ⟨fun formed => ⟨t, answer_ok formed⟩, answer_bad⟩

/-! ### Steps -/

theorem step_of_cons {s : State} {i : Instr} {r : List Instr} (front : s.pending = i :: r) :
    step s = exec i { s with pending := r } := by
  unfold step
  rw [front]

theorem step_of_nil {s : State} (empty : s.pending = []) : step s = .next s := by
  unfold step
  rw [empty]

/-- Settles O53: the two cases of a step. -/
theorem stepRunsTheFrontCommand : Obligations.StepRunsTheFrontCommand := by
  unfold Obligations.StepRunsTheFrontCommand
  exact fun s => ⟨fun _ _ => step_of_cons, step_of_nil⟩

/-! ### Runs -/

/-- The ticks that a command adds to the raw clock. -/
def clockTicks (i : Instr) : Nat := if i = .timeTick then 1 else 0

/-- What a command keeps, with the advance of the raw clock. -/
theorem exec_advances {i : Instr} {s t : State} (h : exec i s = .next t) : Sound { s with ticks := s.ticks + clockTicks i } t := by
  unfold clockTicks
  split
  · next tick =>
    subst tick
    cases h
    exact doTimeTick_sound (.refl s)
  · next other => exact exec_sound other h

/-- A step of a safe state: the front command leaves the queue, and only TIME_TICK moves the clock. -/
theorem step_of_safe {s : State} {i : Instr} {r : List Instr} (safe : s.safe = true) (front : s.pending = i :: r) :
    ∃ t, step s = .next t ∧ t.safe = true ∧ t.pending = r ∧ t.ticks = s.ticks + clockTicks i ∧ s.freeCount ≤ t.freeCount := by
  obtain ⟨formed, queued⟩ := Bool.and_eq_true_iff.1 safe
  rw [State.queued, front, List.all_cons, Bool.and_eq_true] at queued
  obtain ⟨t, run⟩ := (refusedExactlyWhenIllFormed i { s with pending := r }).1 queued.1
  have kept := exec_advances run
  have rest : t.queued = true := by rw [State.queued, kept.queue]; exact queued.2
  exact ⟨t, (step_of_cons front).trans run, Bool.and_eq_true_iff.2 ⟨kept.formed formed, rest⟩, kept.queue, kept.clock, kept.fresh⟩

/-- A first step that answers a next state hands the rest of the run on. -/
theorem run_succ {s t : State} (first : step s = .next t) (k : Nat) :
    Sys2Proof.core.run (k + 1) s = Sys2Proof.core.run k t := by
  have taken : Sys2Proof.core.step s = .next t := first
  exact (Host.Core.run.eq_2 ..).trans (by rw [taken])

/-- With an empty queue the module idles, however long. -/
theorem run_of_nil {s : State} (empty : s.pending = []) (k : Nat) : Sys2Proof.core.run k s = .next s := by
  induction k with
  | zero => rfl
  | succ k ih => rw [run_succ (step_of_nil empty), ih]

/-- Settles O57, by induction on the queue: each command is one step of a safe state, and the state that the last one leaves
idles. -/
theorem queueDrains : Obligations.QueueDrains := by
  unfold Obligations.QueueDrains
  intro s
  induction queue : s.pending generalizing s with
  | nil =>
    intro safe
    have idles := run_of_nil queue
    exact ⟨s, rfl, queue, (Bool.and_eq_true_iff.1 safe).1, rfl, Nat.le_refl _, fun k => by rw [idles]⟩
  | cons i r ih =>
    intro safe
    obtain ⟨u, first, safe', queue', clock, fresh⟩ := step_of_safe safe queue
    obtain ⟨t, run, empty, formed, clock', fresh', idles⟩ := ih u queue' safe'
    have advance : clockTicks i = if decide (i = .timeTick) = true then 1 else 0 := by simp only [clockTicks, decide_eq_true_eq]
    refine ⟨t, (run_succ first _).trans run, empty, formed, ?_, fresh.trans fresh', fun k => ?_⟩
    · rw [clock', clock, List.countP_cons, advance]
      omega
    · rw [List.length_cons, Nat.succ_add, run_succ first, idles]

end Sys2Proof.Machine
end

section
/-! PROOFS. The time base (O28), and fields that the registers of the later parts share. A tick is its committed changes around one
addition, with the end of a pulse on PPS_OUT beside. -/

namespace Sys2Proof.Machine

/-! ### Bits of registers -/

/-- A bit read as a field. -/
theorem bitsOf_single (w i : Nat) : bitsOf w i i = (w.testBit i).toNat := by
  rw [bitsOf, Nat.add_sub_cancel_left, Nat.testBit_eq_decide_div_mod_eq, Nat.pow_one]
  rcases Nat.mod_two_eq_zero_or_one (w / 2 ^ i) with even | odd
  · rw [even]; rfl
  · rw [odd]; rfl

theorem bitOf_eq_testBit (w i : Nat) : bitOf w i = w.testBit i := by
  rw [bitOf, Nat.testBit_eq_decide_div_mod_eq]

theorem State.fld_single (s : State) (off i : Nat) : s.fld off i i = ((s.reg off).getLsbD i).toNat := bitsOf_single _ _

/-- Bits that are set read 1. -/
theorem State.fld_orReg_bit (s : State) (off : Nat) {m i : Nat} (set : m.testBit i = true) (hi : i < 32) :
    (s.orReg off m).fld off i i = 1 := by
  rw [State.fld_single, State.orReg, State.reg_setReg_same, BitVec.getLsbD_or, BitVec.getLsbD_ofNat, set, decide_eq_true hi]
  simp

theorem State.reg_orReg_ne (s : State) {off off' : Nat} (m : Nat) (other : off ≠ off') :
    (s.orReg off m).reg off' = s.reg off' := State.reg_setReg_ne _ _ other

/-! ### A tick (R401, R404, R405) -/

/-- The raw clock advanced, with the pending changes taken up. -/
def State.ticked (s : State) : State := { s with ticks := s.ticks + 1, time := { s.time with ops := [] } }

/-- The time advanced by the increment. -/
def State.advanced (s : State) : State := { s with time := { s.time with now := s.time.now + s.time.inc } }

def State.commitAll (s : State) (ops : List TimeOp) : State := ops.foldl (fun (s : State) o => s.timeOp o) s

/-- A tick but for PPS_OUT. -/
def State.tickCore (s : State) : State :=
  ((s.ticked.commitAll (s.time.ops.filter (fun o => o.isInc))).advanced).commitAll (s.time.ops.filter (fun o => !o.isInc))

/-- A tick is its core with some end of the pulse on PPS_OUT. -/
theorem doTimeTick_eq (s : State) :
    ∃ p, doTimeTick s = { s.tickCore with time := { s.tickCore.time with ppsUntil := p } } := by
  unfold doTimeTick
  dsimp only
  split
  · exact ⟨_, rfl⟩
  · exact ⟨s.tickCore.time.ppsUntil, rfl⟩

variable {s : State}

/-- A pending increment drives the tick's own advance. -/
theorem State.tickCore_of_inc {o : TimeOp} (one : s.time.ops = [o]) (kind : o.isInc = true) :
    s.tickCore = (s.ticked.timeOp o).advanced := by
  simp [State.tickCore, State.commitAll, one, kind]

/-- Another change applies after it. -/
theorem State.tickCore_of_change {o : TimeOp} (one : s.time.ops = [o]) (kind : o.isInc = false) :
    s.tickCore = s.ticked.advanced.timeOp o := by
  simp [State.tickCore, State.commitAll, one, kind]

theorem State.tickCore_of_nil (idle : s.time.ops = []) : s.tickCore = s.ticked.advanced := by
  rw [State.tickCore, idle]
  rfl

/-- Does an increment lie within both limits (R405)? -/
def incWithin (v now : Nat) : Prop :=
  v - 2 ^ 33 ≤ 4294967 ∧ 2 ^ 33 - v ≤ 4294967 ∧ v - now ≤ 1717987 ∧ now - v ≤ 1717987

theorem State.timeOp_inc_within {v : Nat} (within : incWithin v s.time.inc) :
    s.timeOp (.inc v) = { s with time := { s.time with inc := v } } := by
  obtain ⟨above, below, raised, lowered⟩ := within
  unfold State.timeOp
  refine if_neg ?_
  simp only [Bool.or_eq_true, decide_eq_true_eq]
  omega

theorem State.timeOp_inc_far {v : Nat} (far : ¬ incWithin v s.time.inc) :
    s.timeOp (.inc v) = (s.orReg (regTb 4) 0x40).sendLimited timeSrc 0x6B s.refSrc := by
  unfold State.timeOp
  refine if_pos ?_
  simp only [Bool.or_eq_true, decide_eq_true_eq]
  unfold incWithin at far
  omega

/-- A rejected increment sets its bit, and the tick advances by the old one. -/
theorem State.tickCore_of_far {v : Nat} (inc : s.time.ops = [.inc v]) (far : ¬ incWithin v s.time.inc) :
    s.tickCore.time.inc = s.time.inc ∧ s.tickCore.time.now = s.time.now + s.time.inc ∧ s.tickCore.fld (regTb 4) 6 6 = 1
      ∧ s.tickCore.mem = s.mem := by
  have rejected := State.timeOp_inc_far (s := s.ticked) far
  obtain ⟨net, seqs, lims, sent⟩ := (s.ticked.orReg (regTb 4) 0x40).sendLimited_eq timeSrc 0x6B s.ticked.refSrc
  rw [State.tickCore_of_inc inc rfl, rejected, sent]
  exact ⟨rfl, rfl, State.fld_orReg_bit _ _ rfl (by decide), rfl⟩

/-! ### Changes entered (R404, R405, R407) -/

theorem doSet_enters (live : s.mode ≠ 2) (below : (s.reg (regTb 0x28)).toNat < 1000000000) :
    doSet s = { s with time := { s.time with ops := s.time.ops
      ++ [.set (((s.reg (regTb 0x20)).toNat + (s.reg (regTb 0x24)).toNat * 2 ^ 32) * (1000000000 * 2 ^ 32)
        + (s.reg (regTb 0x28)).toNat * 2 ^ 32 + s.fld (regTb 0x2C) 15 0 * 2 ^ 16)] } } := by
  unfold doSet
  rw [if_neg live]
  exact if_neg (Nat.not_le.2 below)

theorem doSet_refused (refused : s.mode = 2 ∨ 1000000000 ≤ (s.reg (regTb 0x28)).toNat) : doSet s = s.timeConfig := by
  unfold doSet
  split
  · rfl
  · next live => exact if_pos (refused.resolve_left live)

theorem doAdj_enters (live : s.mode ≠ 2) :
    doAdj s = { s with time := { s.time with ops := s.time.ops
      ++ [.adj ((s.reg (regTb 0x28)).toInt * 2 ^ 32 + ((s.fld (regTb 0x2C) 15 0 : Nat) : Int) * 2 ^ 16)] } } := by
  have sec : signed 32 (s.reg (regTb 0x28)).toNat = (s.reg (regTb 0x28)).toInt := by
    rw [signed_eq_toInt 31, BitVec.ofNat_toNat, BitVec.setWidth_eq]
  unfold doAdj
  rw [if_neg live]
  dsimp only
  rw [sec, oneNs, Nat.cast_mul, Nat.cast_pow, Nat.cast_pow, Nat.cast_ofNat]

theorem doIncCommit_enters (live : s.mode ≠ 2) (v : Word32) :
    doIncCommit v s = { s.setReg (regTb 0x1C) v with time := { s.time with ops := s.time.ops
      ++ [.inc (v.toNat * 2 ^ 32 + (s.reg (regTb 0x18)).toNat)] } } := by
  unfold doIncCommit
  rw [if_neg live]
  dsimp only
  rw [State.reg_setReg_ne s v (by decide : regTb 0x1C ≠ regTb 0x18)]
  rfl

/-! ### The statement -/

/-- Settles O28: a tick by its core, each change by its equation. -/
theorem timeBase : Obligations.TimeBase := by
  unfold Obligations.TimeBase
  intro s
  obtain ⟨p, tick⟩ := doTimeTick_eq s
  refine ⟨fun idle => ⟨_, exec_timeTick, ?_⟩, fun v set => ⟨_, exec_timeTick, ?_⟩, fun d adj => ⟨_, exec_timeTick, ?_⟩,
    fun v inc above below raised lowered => ⟨_, exec_timeTick, ?_⟩, fun v inc far => ⟨_, exec_timeTick, ?_⟩,
    fun live below => ?_, fun refused => ?_,
    fun live => ?_, fun v live => ?_,
    fun replay => ⟨?_, fun v => ?_⟩, exec_tbSecLo⟩
  · rw [tick, State.tickCore_of_nil idle]
    exact ⟨rfl, rfl, rfl, rfl, rfl, rfl⟩
  · rw [tick, State.tickCore_of_change set rfl]
    exact ⟨rfl, rfl, rfl, State.fld_orReg_bit _ _ rfl (by decide), fun off other => State.reg_orReg_ne _ _ other.symm, rfl⟩
  · rw [tick, State.tickCore_of_change adj rfl]
    exact ⟨rfl, rfl, rfl, rfl, rfl⟩
  · rw [tick, State.tickCore_of_inc inc rfl, State.timeOp_inc_within (s := s.ticked) ⟨above, below, raised, lowered⟩]
    exact ⟨rfl, rfl, rfl, rfl, rfl, rfl⟩
  · have rejected : ¬ incWithin v s.time.inc := by
      unfold incWithin
      omega
    rw [tick]
    exact State.tickCore_of_far inc rejected
  · rw [exec_setTime, doSet_enters live below]
  · rw [exec_setTime, doSet_refused refused]
  · rw [exec_adjTime, doAdj_enters live]
  · rw [exec_incCommit, doIncCommit_enters live v]
  · rw [exec_adjTime, doAdj, if_pos replay]
  · rw [exec_incCommit, doIncCommit, if_pos replay]

end Sys2Proof.Machine
end

section
/-! PROOFS. References and launches (O29). A change of the monitor's state writes its field and sends messages; a launch reads the
hub buffer, which sends messages alone. -/

namespace Sys2Proof.Machine

/-! ### The reference monitor (R408 to R412) -/

section
variable (s : State)

/-- A change of state writes its field and sends messages. -/
theorem State.refEnter_eq (v : Nat) :
    ∃ net seqs, s.refEnter v = { s.setFld (regTb 4) 1 0 v with net := net, srcSeq := seqs } := by
  unfold State.refEnter
  dsimp only
  split <;> split <;> try split
  all_goals exact ⟨_, _, rfl⟩

theorem State.refEnter_keeps {α : Type} (f : State → α) (v : Nat)
    (same : ∀ regs net seqs, f { s with regs := regs, net := net, srcSeq := seqs } = f s := by intros; rfl) :
    f (s.refEnter v) = f s := by
  obtain ⟨net, seqs, e⟩ := s.refEnter_eq v
  rw [e]
  exact same ..

theorem State.refState_refEnter {v : Nat} (named : v < 4) : (s.refEnter v).refState = v := by
  obtain ⟨net, seqs, e⟩ := s.refEnter_eq v
  rw [e]
  exact (s.fld_setFld (regTb 4) v (by decide) (by decide)).trans (Nat.mod_eq_of_lt named)

theorem State.reg_refEnter (v : Nat) {off : Nat} (other : regTb 4 ≠ off) : (s.refEnter v).reg off = s.reg off := by
  obtain ⟨net, seqs, e⟩ := s.refEnter_eq v
  rw [e]
  exact State.reg_setReg_ne _ _ other

/-- Entering HOLD from TRACK sends one message. -/
theorem State.net_refEnter_hold (track : s.refState = 1) : (s.refEnter 2).net.length = s.net.length + 1 := by
  unfold State.refEnter
  rw [track]
  exact List.length_append

/-- What an accepted reference leaves. -/
structure RefAccepted (s t : State) : Prop where
  okRun : t.time.okRun = s.time.okRun + 1
  lastRef : t.time.lastRef = s.ticks
  lastEdge : t.time.lastEdge = s.time.lastEdge
  state : t.refState = if max 1 (s.fld (regTb 0x44) 23 16) ≤ s.time.okRun + 1 then 1 else s.refState
  reg : ∀ off, regTb 4 ≠ off → t.reg off = s.reg off
  sens : t.sens = s.sens
  mem : t.mem = s.mem
  clusters : t.clusters = s.clusters

theorem State.refOk_accepts : RefAccepted s s.refOk := by
  unfold State.refOk
  dsimp only
  split
  · next enters =>
    exact { okRun := State.refEnter_keeps _ (·.time.okRun) 1, lastRef := State.refEnter_keeps _ (·.time.lastRef) 1
            lastEdge := State.refEnter_keeps _ (·.time.lastEdge) 1
            state := (State.refState_refEnter _ (by decide)).trans (if_pos enters.2).symm
            reg := fun off other => State.reg_refEnter _ 1 other, sens := State.refEnter_keeps _ State.sens 1
            mem := State.refEnter_keeps _ State.mem 1, clusters := State.refEnter_keeps _ State.clusters 1 }
  · next stays =>
    refine { okRun := rfl, lastRef := rfl, lastEdge := rfl, state := ?_, reg := fun off _ => rfl, sens := rfl, mem := rfl,
             clusters := rfl }
    split
    · next enough => exact Classical.byContradiction fun other => stays ⟨other, enough⟩
    · rfl

end

section
variable {s : State}

/-- The state after a write of the reference source. -/
theorem doRefsrc_selects {v : Word32} (named : v.toNat % 16 ≤ 6) :
    let t := doRefsrc v s
    t.refState = 0 ∧ t.reg (regTb 0) = v &&& 0xFF000F ∧ t.time.lastEdge = none ∧ t.time.interval = none ∧ t.time.okRun = 0
      ∧ t.time.now = s.time.now ∧ t.clusters = s.clusters := by
  have entered := s.refState_refEnter (v := 0) (by decide)
  have now := s.refEnter_keeps (·.time.now) 0
  have clusters := s.refEnter_keeps State.clusters 0
  unfold doRefsrc
  rw [if_neg (Nat.not_lt.2 named)]
  generalize s.refEnter 0 = u at entered now clusters ⊢
  have other : regTb 0 ≠ regTb 4 := by decide
  have state : (u.setReg (regTb 0) (v &&& 0xFF000F)).refState = u.refState := by
    rw [State.refState, State.fld, u.reg_setReg_ne _ other]
    rfl
  exact ⟨state.trans entered, u.reg_setReg_same .., rfl, rfl, rfl, now, clusters⟩

/-- A first edge of a long enough pulse is an accepted reference. -/
theorem doPpsEdge_first {p high : Nat} (live : s.mode ≠ 2) (source : s.refSrc = 1)
    (long : 100 * max 1 (s.fld (regTb 0x40) 15 0) ≤ high) (first : s.time.lastEdge = none) :
    doPpsEdge p high s = ((({ s with time := { s.time with lastEdge := some s.ticks } }.setReg (regTb 0x50)
      (BitVec.ofNat 32 (secOf (s.stampAt p)))).setReg (regTb 0x54) (BitVec.ofNat 32 (nsOf (s.stampAt p))))).refOk := by
  unfold doPpsEdge
  rw [if_neg (by simp [live, source]), if_neg (Nat.not_lt.2 long), first]

theorem doPpsEdge_short {p high : Nat} (live : s.mode ≠ 2) (source : s.refSrc = 1)
    (short : high < 100 * max 1 (s.fld (regTb 0x40) 15 0)) :
    doPpsEdge p high s = (s.bump (regTb 0x58) 15 0 1).sendLimited timeSrc 0x6A s.refSrc := by
  unfold doPpsEdge
  rw [if_neg (by simp [live, source]), if_pos short]

/-- The state in which the pin's edge has been counted and recorded. -/
def State.ppsNoted (s : State) (p : Nat) : State :=
  ({ s with sens := { s.sens with ppsEdges := s.sens.ppsEdges + 1 } }.capture 105 0x11 (s.stampAt p)
    (leBytes 8 (s.sens.ppsEdges + 1))).2

theorem doPpsInput_live (p high : Nat) (live : s.mode ≠ 2) : doPpsInput p high s = doPpsEdge p high (s.ppsNoted p) :=
  if_neg live

theorem doPpsInput_accepts {p high : Nat} (live : s.mode ≠ 2) (source : s.refSrc = 1)
    (long : 100 * max 1 (s.fld (regTb 0x40) 15 0) ≤ high) (first : s.time.lastEdge = none) :
    let t := doPpsInput p high s
    t.sens.ppsEdges = s.sens.ppsEdges + 1 ∧ t.time.lastEdge = some s.ticks ∧ t.time.okRun = s.time.okRun + 1
      ∧ t.reg (regTb 0x50) = BitVec.ofNat 32 (secOf (s.stampAt p)) ∧ t.reg (regTb 0x54) = BitVec.ofNat 32 (nsOf (s.stampAt p))
      ∧ t.mem = s.mem ∧ t.clusters = s.clusters := by
  have edge := doPpsEdge_first (s := s.ppsNoted p) (p := p) live source long first
  dsimp only
  rw [doPpsInput_live p high live, edge]
  have kept := State.refOk_accepts ((({ s.ppsNoted p with time := { s.time with lastEdge := some s.ticks } }.setReg (regTb 0x50)
      (BitVec.ofNat 32 (secOf (s.stampAt p)))).setReg (regTb 0x54) (BitVec.ofNat 32 (nsOf (s.stampAt p)))))
  refine ⟨congrArg SensSt.ppsEdges kept.sens, kept.lastEdge, kept.okRun, (kept.reg _ (by decide)).trans ?_,
    (kept.reg _ (by decide)).trans (State.reg_setReg_same ..), kept.mem, kept.clusters⟩
  rw [State.reg_setReg_ne _ _ (by decide), State.reg_setReg_same]

theorem doPpsInput_counts {p high : Nat} (live : s.mode ≠ 2) (source : s.refSrc = 1)
    (short : high < 100 * max 1 (s.fld (regTb 0x40) 15 0)) :
    let t := doPpsInput p high s
    t.time = s.time ∧ t.fld (regTb 0x58) 15 0 = min (s.fld (regTb 0x58) 15 0 + 1) (2 ^ 16 - 1) ∧ t.clusters = s.clusters := by
  have edge := doPpsEdge_short (s := s.ppsNoted p) (p := p) live source short
  dsimp only
  rw [doPpsInput_live p high live, edge, State.sendLimited_keeps State.time, State.sendLimited_keeps State.clusters,
    State.fld_of_regs (State.sendLimited_keeps State.regs ..), State.fld_bump _ _ _ (by decide) (by decide)]
  exact ⟨rfl, rfl, rfl⟩

end

/-! ### Launch queues (R415, R416) -/

section
variable (s : State)

/-- What a read of the hub buffer finds is reported, no more. -/
theorem State.hubRead_buffer_eq (off n : Nat) :
    ∃ net seqs, (s.hubRead 2 off n).2 = { s with net := net, srcSeq := seqs } := by
  unfold State.hubRead
  refine List.foldlRecOn (motive := fun t : State => ∃ net seqs, t = { s with net := net, srcSeq := seqs }) _ _
    ⟨s.net, s.srcSeq, rfl⟩ ?_
  rintro _ ⟨net, seqs, rfl⟩ u -
  unfold State.unitNote State.hubNote
  rw [if_neg (by decide), if_pos (.inl rfl)]
  refine List.foldlRecOn (motive := fun t : State => ∃ net seqs, t = { s with net := net, srcSeq := seqs }) _ _
    ⟨net, seqs, rfl⟩ ?_
  rintro _ ⟨net, seqs, rfl⟩ x -
  split
  · split
    · exact ⟨net, seqs, rfl⟩
    · exact ⟨_, _, rfl⟩
  · exact ⟨net, seqs, rfl⟩

/-- With nothing in the queue there is no head to judge. -/
theorem State.lqHead_of_nil {q : Nat} (empty : s.time.launch.get q [] = []) (fuel : Nat) : State.lqHead q fuel s = s := by
  cases fuel with
  | zero => rfl
  | succ n =>
    unfold State.lqHead
    rw [empty]

/-- Judging the head changes the queue and the count of late entries, and sends messages. -/
theorem State.lqHead_keeps {α : Type} (f : State → α) (q fuel : Nat)
    (same : ∀ (s : State) regs net seqs lims launch, f { s with
      regs := regs, net := net, srcSeq := seqs, rateLim := lims, time := { s.time with launch := launch } } = f s := by
        intros; rfl) :
    f (State.lqHead q fuel s) = f s := by
  induction fuel generalizing s with
  | zero => rfl
  | succ n ih =>
    unfold State.lqHead
    split
    · rfl
    · split
      · rfl
      · split
        · rw [ih, State.sendLimited_keeps f _ _ _ _ (fun net seqs lims => same _ _ net seqs lims _)]
          exact same s _ _ _ _ _
        · exact same s _ _ _ _ _

end

section
variable {s : State} {q : Nat}

theorem doLaunchGo_refused (refused : 16 ≤ (s.time.launch.get q []).length ∨ s.fld (regLq q 4) 13 0 < 60
    ∨ 9018 < s.fld (regLq q 4) 13 0) : doLaunchGo q s = s.orReg (regLq q 0x14) 0x80 := if_pos refused

/-- The entry that the registers of a queue describe. -/
def State.lqEntry (s : State) (q : Nat) : LaunchEntry :=
  { buf := s.fld (regLq q 0) 24 3 * 8, len := s.fld (regLq q 4) 13 0, tag := s.fld (regLq q 4) 31 16,
    imm := s.fld (regLq q 0xC) 31 31 = 1,
    time := (secOf s.now / 2 ^ 32 * 2 ^ 32 + (s.reg (regLq q 8)).toNat) * oneS + s.fld (regLq q 0xC) 29 0 * oneNs,
    judged := false }

theorem doLaunchGo_eq (room : (s.time.launch.get q []).length < 16) (least : 60 ≤ s.fld (regLq q 4) 13 0)
    (most : s.fld (regLq q 4) 13 0 ≤ 9018) : doLaunchGo q s =
      if s.lqLink q then State.lqHead q 17 (s.setLaunch q (lqInsert (s.lqEntry q) (s.time.launch.get q [])))
      else s.lqLate q := if_neg (by omega)

/-- The head of a queue alone is judged where it is not immediate. -/
theorem State.lqHead_of_single {e : LaunchEntry} (unjudged : e.judged = false)
    (ahead : e.imm = true ∨ s.now + 2000 * oneNs ≤ e.time) (fuel : Nat) :
    State.lqHead q (fuel + 1) (s.setLaunch q [e]) = s.setLaunch q [{ e with judged := !e.imm }] := by
  have queue : (s.setLaunch q [e]).time.launch.get q [] = [e] := Table.get_set_same ..
  have again (x : LaunchEntry) : (s.setLaunch q [e]).setLaunch q [x] = s.setLaunch q [x] := by
    simp only [State.setLaunch, Table.set_set]
  rw [State.lqHead, queue]
  dsimp only
  rcases Bool.eq_false_or_eq_true e.imm with imm | timed
  · have same : { e with judged := !e.imm } = e := by
      cases e
      simp_all
    rw [if_pos (.inl imm), same]
  · have due : ¬ e.time < (s.setLaunch q [e]).now + 2000 * oneNs :=
      Nat.not_lt.2 (ahead.resolve_left (by simp [timed]))
    rw [if_neg (by simp [timed, unjudged]), if_neg due, again, timed, Bool.not_false]

/-- The carrier delay of a queue's port. -/
def State.lqCarrier (s : State) (q : Nat) : Nat := s.fld (if q < 4 then regLp q 0x10 else regTw 0x10) 15 0

/-- The transmit stamp of a frame that leaves in phase p. -/
def State.launchStamp (s : State) (q p : Nat) : Nat :=
  s.stampAt p - (s.fld (regLq q 0x24) 31 16 + s.lqCarrier q) * oneNs / 64

/-- What the head leaves as it goes: its stamp, and the rest of the queue with its head judged. -/
theorem doLaunchSend_leaves {p : Nat} {e : LaunchEntry} {r : List LaunchEntry} (head : s.time.launch.get q [] = e :: r)
    (live : s.mode ≠ 2) (link : s.lqLink q = true) (due : e.imm = true ∨ e.time ≤ s.now + 8 * oneNs)
    (room : (s.time.stamps.get q []).length < 16) :
    let t := doLaunchSend q p s
    t.time.stamps.get q [] = s.time.stamps.get q [] ++ [(e.tag, s.launchStamp q p)]
      ∧ (r = [] → t.time.launch.get q [] = []) ∧ t.mem = s.mem ∧ t.clusters = s.clusters := by
  obtain ⟨net, seqs, read⟩ := s.hubRead_buffer_eq e.buf e.len
  unfold doLaunchSend
  rw [head]
  dsimp only
  rw [if_neg (by simp [live, link, due]), read]
  have space : ¬ 16 ≤ (s.time.stamps.get q []).length := Nat.not_le.2 room
  dsimp only
  rw [if_neg space, State.lqHead_keeps _ (fun t => t.time.stamps.get q []), State.lqHead_keeps _ State.mem,
    State.lqHead_keeps _ State.clusters]
  refine ⟨Table.get_set_same .., fun last => ?_, rfl, rfl⟩
  have empty : (s.time.launch.set q r).get q [] = [] := by rw [Table.get_set_same, last]
  rw [State.lqHead_of_nil _ empty]
  exact empty

/-- The record of a gPTP message touches the recorder alone. -/
theorem doLaunchFrame_keeps {α : Type} (f : State → α) (q p : Nat) (s : State) {e : LaunchEntry} {r : List LaunchEntry}
    (head : s.time.launch.get q [] = e :: r) (same : ∀ (s : State) rcd, f { s with rcd := rcd } = f s := by intros; rfl) :
    f (doLaunchFrame q p s) = f (doLaunchSend q p s) := by
  unfold doLaunchFrame
  rw [head]
  dsimp only
  split
  · exact same _ _
  · rfl

end

/-! ### The statement -/

/-- Settles O29: the monitor by what a reference leaves, a launch by the entry that is entered or sent. -/
theorem referencesAndLaunches : Obligations.ReferencesAndLaunches := by
  unfold Obligations.ReferencesAndLaunches
  intro s
  refine ⟨fun v named => ⟨_, exec_refsrc, doRefsrc_selects named⟩, fun v reserved => ?_, fun p high hp replay => ?_,
    fun p high hp live source long first => ⟨_, exec_ppsEdge (decide_eq_true hp), doPpsInput_accepts live source long first⟩,
    fun p high hp live source short => ⟨_, exec_ppsEdge (decide_eq_true hp), doPpsInput_counts live source short⟩,
    fun q domain hq hd live source named => ?_, fun q domain hq hd other => ?_, fun live track late => ?_, fun q hq => ?_,
    fun q p e r hq hp head live link due room => ?_, fun q hq => exec_stns (decide_eq_true hq)⟩
  · exact exec_refsrc.trans (congrArg _ (if_pos reserved))
  · rw [exec_ppsEdge (decide_eq_true hp), doPpsInput, if_pos replay]
  · have kept := s.refOk_accepts
    refine ⟨_, exec_syncMessage (below_and_below hq hd), ?_⟩
    rw [doSyncMessage, if_pos ⟨live, source, Nat.le_of_lt_succ hq, named⟩]
    exact ⟨kept.okRun, kept.lastRef, kept.state, kept.clusters⟩
  · rw [exec_syncMessage (below_and_below hq hd), doSyncMessage, if_neg]
    rintro ⟨live, source, -, named⟩
    rcases other with replay | elsewhere | foreign
    · exact live replay
    · exact elsewhere source
    · exact foreign named
  · refine ⟨_, exec_referenceTimeout, ?_⟩
    rw [doReferenceTimeout, if_pos ⟨live, track, late⟩]
    exact ⟨State.refState_refEnter _ (by decide), State.refEnter_keeps _ (·.time.okRun) 2, State.net_refEnter_hold _ track⟩
  · rw [exec_launchGo (decide_eq_true hq)]
    refine ⟨fun refused => by rw [doLaunchGo_refused refused], fun room least most down => ?_,
      fun room least most up ahead empty => ?_⟩
    · rw [doLaunchGo_eq room least most, if_neg (by simp [down])]
    · rw [doLaunchGo_eq room least most, if_pos up, empty]
      exact congrArg _ (State.lqHead_of_single (e := s.lqEntry q) rfl ahead 16)
  · obtain ⟨stamps, rest, mem, clusters⟩ := doLaunchSend_leaves (p := p) head live link due room
    refine ⟨_, exec_launchSend (below_and_below hq hp), ?_⟩
    rw [doLaunchFrame_keeps (·.time.stamps.get q []) q p s head, doLaunchFrame_keeps (·.time.launch.get q []) q p s head,
      doLaunchFrame_keeps State.mem q p s head, doLaunchFrame_keeps State.clusters q p s head]
    exact ⟨stamps, rest, mem, clusters⟩

end Sys2Proof.Machine
end

section
/-! PROOFS. The firings of the Gauge generators (O30). The generators that observe events share one step, `gSensor`. -/

namespace Sys2Proof.Machine

/-! ### Firings on events (R418, R423) -/

section
variable {s : State} {g t kind n : Nat} {e : GaEvent}

/-- The state in which an event has been taken and its firing done. -/
def State.firedOn (s : State) (g : Nat) (e : GaEvent) (n t : Nat) : State :=
  let u : State := { s with gauge := { s.gauge with events := dropEvent e s.gauge.events } }
  (if e.atClose then u.gLate g else u).gFire g n e.e t

theorem State.gSensor_of_take (on : s.gOn g = true) (kinded : s.gKind g = kind) (take : s.gTake g = some (e, n)) :
    s.gSensor kind g t = some (e, s.firedOn g e n t) := by
  unfold State.gSensor
  rw [if_neg (by simp [on, kinded]), take]
  rfl

theorem State.gSensor_of_idle (idle : s.gOn g = false ∨ s.gTake g = none) : s.gSensor kind g t = none := by
  unfold State.gSensor
  split
  · rfl
  · next ready =>
    have on : s.gOn g = true := by
      by_contra off
      exact ready (.inl (by simpa using off))
    rw [idle.resolve_left (by simp [on])]

variable (on : s.gOn g = true) (kinded : s.gKind g = 4) (take : s.gTake g = some (e, n))
include on kinded take

/-- A first crossing is noted; with no trigger that is all. -/
theorem doPredictFiring_first (first : ((s.firedOn g e n t).gen g).eCross = none)
    (quiet : (s.firedOn g e n t).fld (regGen g 0) 25 25 = 0) :
    doPredictFiring g t s = (s.firedOn g e n t).setGen g { (s.firedOn g e n t).gen g with eCross := some e.e } := by
  unfold doPredictFiring
  rw [State.gSensor_of_take on kinded take]
  dsimp only
  rw [first]
  refine if_neg fun trig => ?_
  exact absurd (trig.symm.trans quiet) (by decide)

/-- The crossing noted, with its period. -/
def State.crossed (v : State) (g : Nat) (e : GaEvent) (b : Nat) : State :=
  (v.setGen g { v.gen g with eCross := some e.e }).setReg (regGst g 8) (BitVec.ofNat 32 ((e.e - b) / oneNs))

/-- The instant that a prediction asks its trigger for. -/
def State.crossInstant (w : State) (g : Nat) (e : GaEvent) (b : Nat) : Nat :=
  let d := (w.fld (regGen g 4) 31 16 + 36000 - w.fld (regGen g 4) 15 0 % 36000) % 36000
  ((e.e : Int) + (((d * ((e.e - b) / oneNs) + 18000) / 36000 : Nat) : Int) * (oneNs : Int)
    + (w.reg (regGen g 8)).toInt * (oneNs : Int)).toNat

/-- A later crossing requests its trigger. -/
theorem doPredictFiring_later {b : Nat} (later : ((s.firedOn g e n t).gen g).eCross = some b)
    (trig : (s.firedOn g e n t).fld (regGen g 0) 25 25 = 1) (period : (e.e - b) / oneNs ≤ 4000000000) :
    let w := (s.firedOn g e n t).crossed g e b
    doPredictFiring g t s = doTriggerRequest (w.fld (regGen g 0x18) 31 28) (w.crossInstant g e b) w := by
  unfold doPredictFiring
  rw [State.gSensor_of_take on kinded take]
  dsimp only
  rw [later]
  dsimp only
  have trig' : ((s.firedOn g e n t).setGen g { (s.firedOn g e n t).gen g with eCross := some e.e }).fld (regGen g 0) 25 25 = 1 :=
    trig
  rw [if_neg (by simp [trig']), if_neg (Nat.not_lt.2 period), signed_eq_toInt 31, BitVec.ofNat_toNat, BitVec.setWidth_eq]
  rfl

end

/-! ### Firings on instants (R418, R424, R425) -/

section
variable {s : State} {g t : Nat}

/-- The last instant that the time base has passed, or the next one. -/
def State.lastK (s : State) (g : Nat) : Nat :=
  let k := (s.gen g).k
  if s.now < s.gInstant g k then k
  else k + (s.now - s.gInstant g k) / (max 1 (s.reg (regGen g 8)).toNat * oneNs)

theorem doTimeFiring_early (early : s.timeHorizon (s.gInstant g (s.lastK g)) = none) : doTimeFiring g t s = s := by
  unfold doTimeFiring
  split
  · rfl
  · unfold State.lastK at early
    dsimp only at early ⊢
    rw [early]

theorem doTimeFiring_fires (on : s.gOn g = true) (kinded : s.gKind g = 0) {h : Nat}
    (due : s.timeHorizon (s.gInstant g (s.lastK g)) = some h) : doTimeFiring g t s =
      ((upTo (s.lastK g - (s.gen g).k)).foldl (fun (u : State) _ => u.gMiss g)
        (s.setGen g { s.gen g with k := s.lastK g + 1 })).gFire g h (s.gInstant g (s.lastK g)) t := by
  unfold doTimeFiring
  rw [if_neg (by simp [on, kinded])]
  unfold State.lastK at due ⊢
  dsimp only at due ⊢
  rw [due]

variable (on : s.gOn g = true) (kinded : s.gKind g ≠ 0) (limited : s.fld (regGen g 0x18) 15 0 ≠ 0)
include on kinded limited

/-- The deadline of the next event. -/
def State.fallbackAt (s : State) (g : Nat) : Nat := (s.gen g).ePrev + s.fld (regGen g 0x18) 15 0 * 100000 * oneNs

theorem doFallback_eq : doFallback g t s =
    if s.gauge.events.any (fun (x : GaEvent) => decide (x.gen = g ∧ x.e ≤ s.fallbackAt g)) then s
    else match s.timeHorizon (s.fallbackAt g) with
      | none => s
      | some h => (s.gLate g).gFire g h (s.fallbackAt g) t := by
  unfold doFallback
  rw [if_neg (by simp [on, kinded, limited])]
  rfl

theorem doFallback_in_time (came : ∃ x ∈ s.gauge.events, x.gen = g ∧ x.e ≤ s.fallbackAt g) : doFallback g t s = s := by
  rw [doFallback_eq on kinded limited, if_pos (by simpa using came)]

theorem doFallback_fires {h : Nat} (late : ∀ x ∈ s.gauge.events, x.gen = g → s.fallbackAt g < x.e)
    (due : s.timeHorizon (s.fallbackAt g) = some h) : doFallback g t s = (s.gLate g).gFire g h (s.fallbackAt g) t := by
  rw [doFallback_eq on kinded limited, if_neg (by simpa using late), due]

end

/-! ### The enable of a generator (R427) -/

section
variable {s : State} {g : Nat} {w : Word32}

theorem doGaugeEnable_turn (off : s.gOn g = false) : doGaugeEnable g w s =
    let u := s.setReg (regGen g 0) (w &&& 0x7FFFFFFF#32)
    if bitOf w.toNat 31 then
      if u.genBad g then u.sendEv (gaugeSrc g) 0x70 g
      else (u.setGen g ⟨u.firstK g, u.now, none⟩).setFld (regGen g 0) 31 31 1
    else u := by
  unfold doGaugeEnable
  rw [if_neg (by simp [off])]
  cases bitOf w.toNat 31 <;> rfl

theorem doGaugeEnable_off (on : s.gOn g = true) (low : bitOf w.toNat 31 = false) :
    let u := doGaugeEnable g w s
    u.gOn g = false ∧ u.gauge.events = s.gauge.events.filter (fun x => x.gen ≠ g) ∧ u.clusters = s.clusters := by
  unfold doGaugeEnable
  rw [if_pos on, if_neg (by simp [low])]
  refine ⟨decide_eq_false ?_, rfl, rfl⟩
  rw [State.fld_setFld _ _ _ (by decide) (by decide)]
  decide

end

/-! ### The statement -/

/-- Settles O30: each firing by its equation, the enable by its cases. -/
theorem gaugeFirings : Obligations.GaugeFirings := by
  unfold Obligations.GaugeFirings
  intro s g t hg
  have gen : below 64 g = true := decide_eq_true hg
  refine ⟨fun on kinded => ⟨fun early => ?_, fun h due => ?_⟩, fun kind n i e on kinded take => ⟨?_, ?_, ?_⟩, ?_,
    fun on kinded limited => ⟨fun came => ?_, fun h late due => ?_⟩, fun c seq h e r ok u hc hseq found held idle start => ?_,
    fun w => ⟨fun off low => ?_, fun off high => ?_, fun on low => ⟨_, exec_gaugeEnable gen, doGaugeEnable_off on low⟩⟩⟩
  · rw [exec_timeFiring gen, doTimeFiring_early early]
  · rw [exec_timeFiring gen, doTimeFiring_fires on kinded due]
    rfl
  · rintro (⟨rfl, rfl⟩ | ⟨rfl, rfl⟩ | ⟨rfl, rfl⟩)
    · rw [exec_azimuthFiring gen, doAzimuthFiring, State.gSensor_of_take on kinded take]
      rfl
    · rw [exec_lineFiring gen, doLineFiring, State.gSensor_of_take on kinded take]
      rfl
    · rw [exec_stripeFiring gen, doStripeFiring, State.gSensor_of_take on kinded take]
      rfl
  · rintro rfl first quiet
    rw [exec_predictFiring gen]
    exact congrArg _ (doPredictFiring_first on kinded take first quiet)
  · intro b four later p w d trig period
    subst four
    have requested := exec_triggerRequest (port := w.fld (regGen g 0x18) 31 28) (time := w.crossInstant g e b) (s := w)
      (decide_eq_true (w.fld_lt ..))
    exact (exec_predictFiring gen).trans ((congrArg _ (doPredictFiring_later on kinded take later trig period)).trans
      requested.symm)
  · rintro i (rfl | rfl | rfl | rfl) idle
    · rw [exec_azimuthFiring gen, doAzimuthFiring, State.gSensor_of_idle idle]
    · rw [exec_lineFiring gen, doLineFiring, State.gSensor_of_idle idle]
    · rw [exec_stripeFiring gen, doStripeFiring, State.gSensor_of_idle idle]
    · rw [exec_predictFiring gen, doPredictFiring, State.gSensor_of_idle idle]
  · rw [exec_fallback gen, doFallback_in_time on kinded limited came]
  · rw [exec_fallback gen, doFallback_fires on kinded limited late due]
    rfl
  · rw [exec_heldStepStart (below_and_below hc hseq), doHeldStepStart, found]
    dsimp only
    rw [held]
    dsimp only
    rw [idle, start]
    rfl
  · rw [exec_gaugeEnable gen, doGaugeEnable_turn off]
    exact congrArg _ (if_neg (by simp [low]))
  · rw [exec_gaugeEnable gen, doGaugeEnable_turn off]
    exact congrArg _ (if_pos high)

end Sys2Proof.Machine
end

section
/-! PROOFS. Viaduct ports (O31). What a command does at one port leaves the registers and the link layers of the others
(`PortFrame`); a change of state is its field, with the messages of VD-PORT-DOWN. -/

namespace Sys2Proof.Machine

/-! ### Reads of registers after writes elsewhere -/

section
variable (s : State) (off hi lo : Nat)

theorem State.net_setFld (v : Nat) : (s.setFld off hi lo v).net = s.net := rfl

theorem State.fld_send (src kind addr : Nat) (c : Bool) (l : List Nat) :
    (s.send src kind addr c l).fld off hi lo = s.fld off hi lo := State.fld_of_regs (s.send_regs ..) ..

theorem State.fld_sendLimited (src kind addr : Nat) : (s.sendLimited src kind addr).fld off hi lo = s.fld off hi lo :=
  State.fld_of_regs (State.sendLimited_keeps State.regs ..) ..

theorem State.fld_setVp (p : Nat) (x : VdPort) : (s.setVp p x).fld off hi lo = s.fld off hi lo := State.fld_of_regs rfl ..

end

/-! ### What a port leaves alone -/

/-- The registers of a port. -/
def inPort (p off : Nat) : Prop := regVp p 0 ≤ off ∧ off < regVp p 0x40

/-- From s to t the other ports, the packets on their way, the memory and the clusters stayed. -/
structure PortFrame (p : Nat) (s t : State) : Prop where
  reg : ∀ off, ¬ inPort p off → t.reg off = s.reg off
  ports : ∀ q, q ≠ p → t.vp q = s.vp q
  transit : t.vd.transit = s.vd.transit
  mem : t.mem = s.mem
  clusters : t.clusters = s.clusters

theorem inPort_apart {p q o : Nat} (ho : o < 0x40) (other : q ≠ p) : ¬ inPort p (regVp q o) := by
  unfold inPort regVp regVd
  omega

theorem inPort_own (p : Nat) {o : Nat} (ho : o < 0x40) : inPort p (regVp p o) := by
  unfold inPort regVp regVd
  omega

theorem not_inPort_regVd (p : Nat) {o : Nat} (ho : o < 0x100) : ¬ inPort p (regVd o) := by
  unfold inPort regVp regVd
  omega

theorem regVp_ne {p o o' : Nat} (other : o ≠ o') : regVp p o ≠ regVp p o' := by
  unfold regVp regVd
  omega

theorem State.vp_setVp_same (s : State) (p : Nat) (x : VdPort) : (s.setVp p x).vp p = x := Table.get_set_same ..

theorem State.vp_setVp_ne (s : State) {p q : Nat} (x : VdPort) (other : q ≠ p) : (s.setVp p x).vp q = s.vp q := by
  simp only [State.vp, State.setVp, Table.get_set, if_neg other.symm]

namespace PortFrame

variable {p : Nat} {s t u : State}

theorem refl (p : Nat) (s : State) : PortFrame p s s := ⟨fun _ _ => rfl, fun _ _ => rfl, rfl, rfl, rfl⟩

theorem trans (h : PortFrame p s t) (k : PortFrame p t u) : PortFrame p s u :=
  ⟨fun off out => (k.reg off out).trans (h.reg off out), fun q other => (k.ports q other).trans (h.ports q other),
    k.transit.trans h.transit, k.mem.trans h.mem, k.clusters.trans h.clusters⟩

/-- A change of none of the fields concerned. -/
theorem of_eq (regs : t.regs = s.regs := by rfl) (vd : t.vd = s.vd := by rfl) (mem : t.mem = s.mem := by rfl)
    (clusters : t.clusters = s.clusters := by rfl) : PortFrame p s t :=
  ⟨fun off _ => State.reg_of_regs regs off, fun q _ => by rw [State.vp, vd, State.vp], congrArg VdSt.transit vd, mem, clusters⟩

theorem setFld (h : PortFrame p s t) {o : Nat} (ho : o < 0x40) (hi lo v : Nat) :
    PortFrame p s (t.setFld (regVp p o) hi lo v) :=
  h.trans ⟨fun _ out => State.reg_setReg_ne _ _ fun same => out (same ▸ inPort_own p ho), fun _ _ => rfl, rfl, rfl, rfl⟩

theorem setVp (h : PortFrame p s t) (x : VdPort) : PortFrame p s (t.setVp p x) :=
  h.trans ⟨fun _ _ => rfl, fun _ other => t.vp_setVp_ne x other, rfl, rfl, rfl⟩

theorem send (h : PortFrame p s t) (src kind addr : Nat) (c : Bool) (l : List Nat) : PortFrame p s (t.send src kind addr c l) :=
  h.trans of_eq

theorem sendLimited (h : PortFrame p s t) (src kind addr : Nat) : PortFrame p s (t.sendLimited src kind addr) :=
  h.trans (of_eq (State.sendLimited_keeps State.regs ..) (State.sendLimited_keeps State.vd ..)
    (State.sendLimited_keeps State.mem ..) (State.sendLimited_keeps State.clusters ..))

theorem vpState (h : PortFrame p s t) {q : Nat} (other : q ≠ p) : t.vpState q = s.vpState q := by
  rw [State.vpState, State.fld, h.reg _ (inPort_apart (by decide) other), State.vpState, State.fld]

/-- What the statement asks of the other ports. -/
theorem others (h : PortFrame p s t) (q : Nat) (_ : q < 8) (other : q ≠ p) : t.vpState q = s.vpState q ∧ t.vp q = s.vp q :=
  ⟨h.vpState other, h.ports q other⟩

end PortFrame

/-! ### States of a port (Table 15.3) -/

section
variable (s : State) (p q : Nat)

theorem State.vpState_setVp (x : VdPort) : (s.setVp q x).vpState p = s.vpState p := s.fld_setVp ..

theorem State.vpState_send (src kind addr : Nat) (c : Bool) (l : List Nat) :
    (s.send src kind addr c l).vpState p = s.vpState p := s.fld_send ..

theorem State.vpState_sendLimited (src kind addr : Nat) : (s.sendLimited src kind addr).vpState p = s.vpState p :=
  s.fld_sendLimited ..

theorem State.vp_send (src kind addr : Nat) (c : Bool) (l : List Nat) : (s.send src kind addr c l).vp p = s.vp p :=
  congrArg (fun vd : VdSt => vd.ports.get p VdPort.reset) (s.send_vd ..)

theorem State.vp_sendLimited (src kind addr : Nat) : (s.sendLimited src kind addr).vp p = s.vp p :=
  State.sendLimited_keeps (·.vp p) ..

theorem State.vp_setFld (off hi lo v : Nat) : (s.setFld off hi lo v).vp p = s.vp p :=
  congrArg (fun vd : VdSt => vd.ports.get p VdPort.reset) (s.setReg_vd ..)

theorem State.vp_bump (off hi lo k : Nat) : (s.bump off hi lo k).vp p = s.vp p := s.vp_setFld ..

end

section
variable (s : State) (p : Nat)

theorem State.vpState_setFld {v : Nat} (named : v < 8) : (s.setFld (regVp p 4) 31 29 v).vpState p = v :=
  (s.fld_setFld (regVp p 4) v (by decide) (by decide)).trans (Nat.mod_eq_of_lt named)

/-- Another register of the port, or a lower field of VP_STAT, leaves the state. -/
theorem State.vpState_setFld_ne {o : Nat} (other : o ≠ 4) (hi lo v : Nat) :
    (s.setFld (regVp p o) hi lo v).vpState p = s.vpState p := s.fld_setFld_ne (regVp_ne other) ..

theorem State.vpState_setFld_low {hi lo : Nat} (v : Nat) (ordered : lo ≤ hi) (low : hi < 29) :
    (s.setFld (regVp p 4) hi lo v).vpState p = s.vpState p :=
  s.fld_setFld_disjoint _ v ordered (by decide) (by decide) (.inl low)

/-- A state other than DOWN, entered from one: the field alone. -/
theorem State.vpEnter_calm {v : Nat} (up : v ≠ 4) (was : s.vpState p ≠ 4) : s.vpEnter p v = s.setFld (regVp p 4) 31 29 v := by
  unfold State.vpEnter
  dsimp only
  rw [if_neg up, if_neg fun ends => was ends.1]

/-- DOWN is entered with its message, and the replay buffer is discarded. -/
theorem State.vpEnter_down : s.vpEnter p 4 =
    ((s.setFld (regVp p 4) 31 29 4).setVp p { s.vp p with replay := [] }).send (vpSrc p) 0x7A p true [] := by
  unfold State.vpEnter
  dsimp only
  rw [if_pos rfl, if_neg fun ends => ends.2 rfl]
  rfl

/-- Another state is entered with its field, and perhaps the message that ends VD-PORT-DOWN. -/
theorem State.vpEnter_eq {v : Nat} (up : v ≠ 4) :
    ∃ net seqs, s.vpEnter p v = { s.setFld (regVp p 4) 31 29 v with net := net, srcSeq := seqs } := by
  unfold State.vpEnter
  dsimp only
  rw [if_neg up]
  split
  · exact ⟨_, _, rfl⟩
  · exact ⟨_, _, rfl⟩

theorem State.vpEnter_frame (v : Nat) : PortFrame p s (s.vpEnter p v) := by
  by_cases down : v = 4
  · subst down
    rw [State.vpEnter_down]
    exact (((PortFrame.refl p s).setFld (o := 4) (by decide) 31 29 4).setVp _).send ..
  · obtain ⟨net, seqs, entered⟩ := s.vpEnter_eq p down
    rw [entered]
    exact ((PortFrame.refl p s).setFld (o := 4) (by decide) 31 29 v).trans .of_eq

theorem State.vpState_vpEnter {v : Nat} (named : v < 8) (up : v ≠ 4) : (s.vpEnter p v).vpState p = v := by
  obtain ⟨net, seqs, entered⟩ := s.vpEnter_eq p up
  rw [entered]
  exact s.vpState_setFld p named

theorem State.vp_vpEnter {v : Nat} (up : v ≠ 4) (q : Nat) : (s.vpEnter p v).vp q = s.vp q := by
  obtain ⟨net, seqs, entered⟩ := s.vpEnter_eq p up
  rw [entered]
  rfl

theorem State.fld_vpEnter {v : Nat} (up : v ≠ 4) {o : Nat} (other : 4 ≠ o) (hi lo : Nat) :
    (s.vpEnter p v).fld (regVp p o) hi lo = s.fld (regVp p o) hi lo := by
  obtain ⟨net, seqs, entered⟩ := s.vpEnter_eq p up
  rw [entered]
  exact s.fld_setFld_ne (regVp_ne other) ..

end

/-! ### Enables (R434) -/

section
variable (s : State) (p : Nat) (v : Word32)

/-- The fields ROLE and DIM or the spare's port, as a write of VP_CTL gives them. -/
def State.takePortRole (s : State) (p : Nat) (v : Word32) : State :=
  (if p < 6 then s else s.setFld (regVp p 0) 29 28 (bitsOf v.toNat 29 28)).setFld (regVp p 0) 27 25 (bitsOf v.toNat 27 25)

theorem doPortEnable_eq : doPortEnable p v s =
    let u := s.takePortRole p v
    if bitOf v.toNat 31 then
      if s.fld (regVp p 0) 31 31 = 1 then u else (u.setFld (regVp p 0) 31 31 1).vpTrain p
    else if s.fld (regVp p 0) 31 31 = 1 then
      (((u.setFld (regVp p 0) 31 31 0).setFld (regVp p 0) 30 30 0).setVp p VdPort.reset).vpEnter p 0
    else u := by
  unfold doPortEnable State.takePortRole
  by_cases plain : p < 6
  · simp only [if_pos plain]
  · simp only [if_neg plain]

theorem State.takePortRole_frame : PortFrame p s (s.takePortRole p v) := by
  unfold State.takePortRole
  split
  · exact (PortFrame.refl p s).setFld (by decide) ..
  · exact ((PortFrame.refl p s).setFld (by decide) ..).setFld (by decide) ..

theorem State.vpState_takePortRole : (s.takePortRole p v).vpState p = s.vpState p := by
  unfold State.takePortRole
  rw [State.vpState_setFld_ne _ _ (by decide)]
  split
  · rfl
  · exact s.vpState_setFld_ne p (by decide) ..

theorem State.takePortRole_vd : (s.takePortRole p v).vd = s.vd ∧ (s.takePortRole p v).net = s.net := by
  unfold State.takePortRole
  split <;> exact ⟨rfl, rfl⟩

theorem State.fld_takePortRole : (s.takePortRole p v).fld (regVp p 0) 27 25 = bitsOf v.toNat 27 25 :=
  (State.fld_setFld _ _ _ (by decide) (by decide)).trans (Nat.mod_eq_of_lt (Nat.mod_lt _ (by decide)))

theorem State.enable_takePortRole : (s.takePortRole p v).fld (regVp p 0) 31 31 = s.fld (regVp p 0) 31 31 := by
  unfold State.takePortRole
  rw [State.fld_setFld_disjoint _ _ _ (by decide) (by decide) (by decide) (.inl (by decide))]
  split
  · rfl
  · exact State.fld_setFld_disjoint _ _ _ (by decide) (by decide) (by decide) (.inl (by decide))

theorem State.role_takePortRole : (s.takePortRole p v).vpRole p = if p < 6 then 0 else bitsOf v.toNat 29 28 := by
  unfold State.vpRole State.takePortRole
  split
  · rfl
  · rw [State.fld_setFld_disjoint _ _ _ (by decide) (by decide) (by decide) (.inl (by decide)),
      State.fld_setFld _ _ _ (by decide) (by decide)]
    exact Nat.mod_eq_of_lt (Nat.mod_lt _ (by decide))

/-- The enable fields and the role, read off VP_CTL. -/
structure PortSetting (p : Nat) (v : Word32) (t : State) : Prop where
  enable : t.fld (regVp p 0) 31 31 = bitsOf v.toNat 31 31
  role : t.vpRole p = if p < 6 then 0 else bitsOf v.toNat 29 28
  field : t.fld (regVp p 0) 27 25 = bitsOf v.toNat 27 25

theorem PortSetting.congr {p : Nat} {v : Word32} {t u : State} (h : PortSetting p v t)
    (same : ∀ hi lo, u.fld (regVp p 0) hi lo = t.fld (regVp p 0) hi lo) : PortSetting p v u :=
  ⟨(same ..).trans h.enable, by rw [← h.role, State.vpRole, State.vpRole, same], (same ..).trans h.field⟩

/-- Once the enable bit is written, the set-up is the one that was written. -/
theorem State.setting_setFld {b : Nat} (bit : b % 2 = bitsOf v.toNat 31 31) :
    PortSetting p v ((s.takePortRole p v).setFld (regVp p 0) 31 31 b) := by
  have role := s.role_takePortRole p v
  refine ⟨(State.fld_setFld _ _ _ (by decide) (by decide)).trans bit, ?_, ?_⟩
  · unfold State.vpRole at role ⊢
    rw [State.fld_setFld_disjoint _ _ _ (by decide) (by decide) (by decide) (.inr (by decide))]
    exact role
  · rw [State.fld_setFld_disjoint _ _ _ (by decide) (by decide) (by decide) (.inr (by decide)), State.fld_takePortRole]

theorem bitsOf_of_bitOf {w i : Nat} (set : bitOf w i = true) : bitsOf w i i = 1 := by
  rw [bitsOf_single, ← bitOf_eq_testBit, set]
  rfl

theorem bitsOf_of_not_bitOf {w i : Nat} (clear : bitOf w i = false) : bitsOf w i i = 0 := by
  rw [bitsOf_single, ← bitOf_eq_testBit, clear]
  rfl

/-- What a write of VP_CTL leaves, whatever it changes. -/
structure PortEnabled (p : Nat) (v : Word32) (s t : State) : Prop where
  turnsOn : s.fld (regVp p 0) 31 31 = 0 → bitOf v.toNat 31 = true → t.vpState p = 1 ∧ t.vp p = VdPort.reset
  turnsOff : s.fld (regVp p 0) 31 31 = 1 → bitOf v.toNat 31 = false →
    t.vpState p = 0 ∧ t.vp p = VdPort.reset ∧ t.fld (regVp p 0) 30 30 = 0
  stays : s.fld (regVp p 0) 31 31 = bitsOf v.toNat 31 31 → t.vpState p = s.vpState p ∧ t.vp p = s.vp p ∧ t.net = s.net
  setting : PortSetting p v t
  frame : PortFrame p s t

theorem State.enable_cases : s.fld (regVp p 0) 31 31 = 0 ∨ s.fld (regVp p 0) 31 31 = 1 :=
  Nat.mod_two_eq_zero_or_one _

theorem doPortEnable_leaves : PortEnabled p v s (doPortEnable p v s) := by
  have frame := s.takePortRole_frame p v
  have state := s.vpState_takePortRole p v
  have ⟨vd, net⟩ := s.takePortRole_vd p v
  have vp : (s.takePortRole p v).vp p = s.vp p := by rw [State.vp, vd, State.vp]
  have same (bit : s.fld (regVp p 0) 31 31 = bitsOf v.toNat 31 31) : PortSetting p v (s.takePortRole p v) :=
    ⟨(s.enable_takePortRole p v).trans bit, s.role_takePortRole p v, s.fld_takePortRole p v⟩
  rw [doPortEnable_eq]
  rcases s.enable_cases p with off | on <;> rcases Bool.eq_false_or_eq_true (bitOf v.toNat 31) with high | low
  · have bit := bitsOf_of_bitOf high
    simp only [high, off, if_true, Nat.zero_ne_one, if_false]
    rw [State.vpTrain]
    exact {
      turnsOn := fun _ _ => ⟨State.vpState_vpEnter _ _ (by decide) (by decide),
        (State.vp_vpEnter _ _ (by decide) _).trans (State.vp_setVp_same ..)⟩
      turnsOff := fun on => absurd (off.symm.trans on) (by decide)
      stays := fun same => absurd (off.symm.trans (same.trans bit)) (by decide)
      setting := (s.setting_setFld p v (b := 1) bit.symm).congr fun hi lo =>
        (State.fld_vpEnter _ _ (by decide) (by decide) ..).trans (State.fld_setVp ..)
      frame := ((frame.setFld (by decide) 31 31 1).setVp _).trans (State.vpEnter_frame ..) }
  · have bit := bitsOf_of_not_bitOf low
    simp only [low, off, Bool.false_eq_true, if_false, Nat.zero_ne_one]
    exact {
      turnsOn := fun _ high => absurd (low.symm.trans high) (by decide)
      turnsOff := fun on => absurd (off.symm.trans on) (by decide)
      stays := fun _ => ⟨state, vp, net⟩
      setting := same (off.trans bit.symm)
      frame := frame }
  · have bit := bitsOf_of_bitOf high
    simp only [high, on, if_true]
    exact {
      turnsOn := fun off => absurd (on.symm.trans off) (by decide)
      turnsOff := fun _ low => absurd (high.symm.trans low) (by decide)
      stays := fun _ => ⟨state, vp, net⟩
      setting := same (on.trans bit.symm)
      frame := frame }
  · have bit := bitsOf_of_not_bitOf low
    simp only [low, on, Bool.false_eq_true, if_false, if_true]
    have setting : PortSetting p v (((s.takePortRole p v).setFld (regVp p 0) 31 31 0).setFld (regVp p 0) 30 30 0) := by
      obtain ⟨enable, role, field⟩ := s.setting_setFld p v (b := 0) bit.symm
      have above {hi lo : Nat} (ordered : lo ≤ hi) (hw : hi < 32) (apart : 30 < lo ∨ hi < 30) :=
        State.fld_setFld_disjoint ((s.takePortRole p v).setFld (regVp p 0) 31 31 0) (regVp p 0) 0
          (hi := 30) (lo := 30) (by decide) ordered hw apart
      refine ⟨(above (by decide) (by decide) (.inl (by decide))).trans enable, ?_,
        (above (by decide) (by decide) (.inr (by decide))).trans field⟩
      unfold State.vpRole at role ⊢
      rw [above (by decide) (by decide) (.inr (by decide))]
      exact role
    exact {
      turnsOn := fun off => absurd (on.symm.trans off) (by decide)
      turnsOff := fun _ _ => ⟨State.vpState_vpEnter _ _ (by decide) (by decide),
        (State.vp_vpEnter _ _ (by decide) _).trans (State.vp_setVp_same ..),
        (State.fld_vpEnter _ _ (by decide) (by decide) ..).trans
          ((State.fld_setVp ..).trans (State.fld_setFld _ _ _ (by decide) (by decide)))⟩
      stays := fun same => absurd (on.symm.trans (same.trans bit)) (by decide)
      setting := setting.congr fun hi lo => (State.fld_vpEnter _ _ (by decide) (by decide) ..).trans (State.fld_setVp ..)
      frame := (((frame.setFld (by decide) 31 31 0).setFld (by decide) 30 30 0).setVp _).trans (State.vpEnter_frame ..) }

end

/-! ### BYP, training and RETRAIN (R434 to R436) -/

section
variable {s : State} {p : Nat}

theorem doByp_leaves (on : Bool) :
    let t := doByp p on s
    t.fld (regVp p 0) 30 30 = (if on then 1 else 0)
      ∧ t.vpState p = (if on = true ∧ s.vpState p = 2 then 6 else if on = false ∧ s.vpState p = 6 then 1 else s.vpState p)
      ∧ PortFrame p s t ∧ t.net = s.net := by
  have state := s.vpState_setFld_ne p (o := 0) (by decide) 30 30 (if on then 1 else 0)
  have bit : (s.setFld (regVp p 0) 30 30 (if on then 1 else 0)).fld (regVp p 0) 30 30 = if on then 1 else 0 := by
    rw [State.fld_setFld _ _ _ (by decide) (by decide)]
    cases on <;> rfl
  have frame := (PortFrame.refl p s).setFld (o := 0) (by decide) 30 30 (if on then 1 else 0)
  have net : (s.setFld (regVp p 0) 30 30 (if on then 1 else 0)).net = s.net := rfl
  unfold doByp
  dsimp only
  generalize s.setFld (regVp p 0) 30 30 (if on then 1 else 0) = u at state bit frame net ⊢
  rw [state]
  cases on with
  | true =>
    by_cases up : s.vpState p = 2
    · simp only [up, if_true, and_self]
      rw [State.vpEnter_calm _ _ (by decide) (by rw [state, up]; decide)]
      exact ⟨(State.fld_setFld_ne _ (regVp_ne (by decide)) ..).trans bit, State.vpState_setFld _ _ (by decide),
        frame.setFld (by decide) .., net⟩
    · simp only [up, if_true, if_false, and_false, Bool.true_eq_false, false_and]
      exact ⟨bit, state, frame, net⟩
  | false =>
    by_cases bypassed : s.vpState p = 6
    · have was : (u.setVp p VdPort.reset).vpState p ≠ 4 := by
        rw [State.vpState_setVp, state, bypassed]
        decide
      simp only [bypassed, if_true, if_false, Bool.false_eq_true, false_and, and_self]
      rw [State.vpTrain, State.vpEnter_calm _ _ (by decide) was]
      exact ⟨(State.fld_setFld_ne _ (regVp_ne (by decide)) ..).trans ((State.fld_setVp ..).trans bit),
        State.vpState_setFld _ _ (by decide), (frame.setVp _).setFld (by decide) .., net⟩
    · simp only [bypassed, if_false, Bool.false_eq_true, false_and, and_false]
      exact ⟨bit, state, frame, net⟩

/-- The identity that the partner sent, noted. -/
def State.noteIdentity (s : State) (p pid port : Nat) : State :=
  (s.setFld (regVp p 4) 28 26 port).setFld (regVp p 4) 25 15 pid

/-- The check of an identity does not read where it is noted. -/
theorem State.partner_congr {t : State} (ctl : t.reg (regVp p 0) = s.reg (regVp p 0)) (vd : t.reg (regVd 0) = s.reg (regVd 0)) :
    t.partner p = s.partner p := by
  have dim (d : Nat) : t.dimOf d = s.dimOf d := by simp only [State.dimOf, State.fld, vd]
  have pid : t.pid = s.pid := by simp only [State.pid, State.fld, vd]
  have coord (x d : Nat) : t.coord x d = s.coord x d := by simp only [State.coord, dim]
  have shifted (d k : Nat) : t.shifted d k = s.shifted d k := by simp only [State.shifted, dim, pid, coord]
  have ctl' (hi lo : Nat) : t.fld (regVp p 0) hi lo = s.fld (regVp p 0) hi lo := by rw [State.fld, ctl, State.fld]
  have vd' (hi lo : Nat) : t.fld (regVd 0) hi lo = s.fld (regVd 0) hi lo := by rw [State.fld, vd, State.fld]
  simp only [State.partner, State.neighbour, State.vpRole, ctl', vd', dim, shifted]
  rfl

theorem State.noteIdentity_leaves {pid port : Nat} (hpid : pid < 2 ^ 11) (hport : port < 8) :
    let t := s.noteIdentity p pid port
    t.fld (regVp p 4) 28 26 = port ∧ t.fld (regVp p 4) 25 15 = pid ∧ t.vpState p = s.vpState p ∧ t.partner p = s.partner p
      ∧ (∀ hi lo, t.fld (regVp p 0) hi lo = s.fld (regVp p 0) hi lo) ∧ PortFrame p s t ∧ t.net = s.net ∧ t.vd = s.vd := by
  have other : regVp p 4 ≠ regVp p 0 := regVp_ne (by decide)
  have ctl : (s.noteIdentity p pid port).reg (regVp p 0) = s.reg (regVp p 0) :=
    (State.reg_setReg_ne _ _ other).trans (State.reg_setReg_ne _ _ other)
  have frame : PortFrame p s (s.noteIdentity p pid port) :=
    ((PortFrame.refl p s).setFld (by decide) ..).setFld (by decide) ..
  refine ⟨?_, ?_, ?_, State.partner_congr ctl (frame.reg _ (not_inPort_regVd p (by decide))), fun hi lo => ?_, frame, rfl, rfl⟩
  · rw [State.noteIdentity, State.fld_setFld_disjoint _ _ _ (by decide) (by decide) (by decide) (.inl (by decide)),
      State.fld_setFld _ _ _ (by decide) (by decide)]
    exact Nat.mod_eq_of_lt hport
  · rw [State.noteIdentity, State.fld_setFld _ _ _ (by decide) (by decide)]
    exact Nat.mod_eq_of_lt hpid
  · exact (State.vpState_setFld_low _ _ _ (by decide) (by decide)).trans (State.vpState_setFld_low _ _ _ (by decide) (by decide))
  · rw [State.fld, ctl, State.fld]

/-- A change of state keeps the identity that is noted. -/
theorem State.identity_setFld (u : State) (v : Nat) {hi lo : Nat} (ordered : lo ≤ hi) (low : hi < 29) :
    (u.setFld (regVp p 4) 31 29 v).fld (regVp p 4) hi lo = u.fld (regVp p 4) hi lo :=
  u.fld_setFld_disjoint _ v (by decide) ordered (by omega) (.inr low)

theorem doTrainResult_identified (training : s.vpState p = 1) {pid port : Nat} (hpid : pid < 2 ^ 11) (hport : port < 8) :
    let t := doTrainResult p true pid port s
    t.fld (regVp p 4) 28 26 = port ∧ t.fld (regVp p 4) 25 15 = pid
      ∧ t.vpState p = (if s.partner p = some (pid, port) then (if s.fld (regVp p 0) 30 30 = 1 then 6 else 2) else 5)
      ∧ t.net.length = s.net.length + (if s.partner p = some (pid, port) then 0 else 1) ∧ PortFrame p s t := by
  obtain ⟨portNoted, pidNoted, state, partner, ctl, frame, net, -⟩ := s.noteIdentity_leaves (p := p) hpid hport
  have run : doTrainResult p true pid port s =
      if (s.noteIdentity p pid port).partner p = some (pid, port) then
        if ((s.noteIdentity p pid port).vpEnter p 2).fld (regVp p 0) 30 30 = 1 then
          ((s.noteIdentity p pid port).vpEnter p 2).vpEnter p 6
        else (s.noteIdentity p pid port).vpEnter p 2
      else ((s.noteIdentity p pid port).vpEnter p 5).send (vpSrc p) 0x7B p true [] := if_pos training
  generalize s.noteIdentity p pid port = u at portNoted pidNoted state partner ctl frame net run
  have was : u.vpState p ≠ 4 := by
    rw [state, training]
    decide
  dsimp only
  rw [run, partner, State.vpEnter_calm u p (by decide) was, State.vpEnter_calm u p (by decide) was,
    State.fld_setFld_ne _ (regVp_ne (by decide)), ctl]
  by_cases expected : s.partner p = some (pid, port)
  · simp only [if_pos expected]
    split
    · have up : (u.setFld (regVp p 4) 31 29 2).vpState p ≠ 4 := by
        rw [State.vpState_setFld _ _ (by decide)]
        decide
      rw [State.vpEnter_calm _ p (by decide) up]
      refine ⟨?_, ?_, State.vpState_setFld _ _ (by decide),
        by rw [State.net_setFld, State.net_setFld, net, Nat.add_zero],
        (frame.setFld (by decide) ..).setFld (by decide) ..⟩
      · rw [State.identity_setFld _ _ (by decide) (by decide), State.identity_setFld _ _ (by decide) (by decide), portNoted]
      · rw [State.identity_setFld _ _ (by decide) (by decide), State.identity_setFld _ _ (by decide) (by decide), pidNoted]
    · refine ⟨?_, ?_, State.vpState_setFld _ _ (by decide), by rw [State.net_setFld, net, Nat.add_zero], frame.setFld (by decide) ..⟩
      · rw [State.identity_setFld _ _ (by decide) (by decide), portNoted]
      · rw [State.identity_setFld _ _ (by decide) (by decide), pidNoted]
  · simp only [if_neg expected]
    rw [State.fld_send, State.fld_send, State.vpState_send, State.identity_setFld _ _ (by decide) (by decide),
      State.identity_setFld _ _ (by decide) (by decide), State.vpState_setFld _ _ (by decide), State.send_net,
      List.length_append, State.net_setFld, net]
    exact ⟨portNoted, pidNoted, rfl, rfl, (frame.setFld (by decide) ..).send ..⟩

/-- A port that goes DOWN. -/
theorem State.vpEnter_down_leaves (u : State) :
    let t := u.vpEnter p 4
    t.vpState p = 4 ∧ t.vp p = { u.vp p with replay := [] } ∧ t.net.length = u.net.length + 1 := by
  dsimp only
  rw [State.vpEnter_down, State.vpState_send, State.vpState_setVp, State.vpState_setFld _ _ (by decide), State.vp_send,
    State.vp_setVp_same, State.send_net, List.length_append]
  exact ⟨rfl, rfl, rfl⟩

theorem doTrainResult_fails (training : s.vpState p = 1) (pid port : Nat) :
    let t := doTrainResult p false pid port s
    (t.vp p).tries = (s.vp p).tries + 1 ∧ t.vpState p = (if 3 ≤ (s.vp p).tries + 1 then 4 else 1)
      ∧ t.net.length = s.net.length + (if 3 ≤ (s.vp p).tries + 1 then 1 else 0) ∧ PortFrame p s t := by
  have run : doTrainResult p false pid port s =
      let u := s.setVp p { s.vp p with tries := (s.vp p).tries + 1 }
      if 3 ≤ (s.vp p).tries + 1 then u.vpEnter p 4 else u := if_pos training
  have noted := s.vp_setVp_same p { s.vp p with tries := (s.vp p).tries + 1 }
  have frame := (PortFrame.refl p s).setVp { s.vp p with tries := (s.vp p).tries + 1 }
  dsimp only
  rw [run]
  dsimp only
  split
  · obtain ⟨state, vp, net⟩ := (s.setVp p { s.vp p with tries := (s.vp p).tries + 1 }).vpEnter_down_leaves (p := p)
    rw [vp, noted]
    exact ⟨rfl, state, net, frame.trans (State.vpEnter_frame ..)⟩
  · rw [noted, State.vpState_setVp]
    exact ⟨rfl, training, rfl, frame⟩

theorem doTrainResult_again (retrain : s.vpState p = 3) (pid port : Nat) :
    let t := doTrainResult p true pid port s
    t.vpState p = 2 ∧ (t.vp p).replay.map (fun f => (f.1, f.2.1)) = (s.vp p).replay.map (fun f => (f.1, f.2.1))
      ∧ t.net = s.net := by
  have run : doTrainResult p true pid port s =
      (s.setVp p { s.vp p with replay := (s.vp p).replay.map (fun f => (f.1, f.2.1, 0)) }).vpEnter p 2 :=
    (if_neg (by rw [retrain]; decide)).trans (if_pos retrain)
  have was : (s.setVp p { s.vp p with replay := (s.vp p).replay.map (fun f => (f.1, f.2.1, 0)) }).vpState p ≠ 4 := by
    rw [State.vpState_setVp, retrain]
    decide
  dsimp only
  rw [run, State.vpEnter_calm _ _ (by decide) was, State.vpState_setFld _ _ (by decide), State.vp_setFld,
    State.vp_setVp_same, List.map_map]
  exact ⟨rfl, rfl, rfl⟩

theorem doTrainResult_lost (retrain : s.vpState p = 3) (pid port : Nat) : doTrainResult p false pid port s = s.vpEnter p 4 :=
  (if_neg (by rw [retrain]; decide)).trans (if_pos retrain)

theorem doTrainResult_idle (ok : Bool) (train : s.vpState p ≠ 1) (retrain : s.vpState p ≠ 3) (pid port : Nat) :
    doTrainResult p ok pid port s = s := (if_neg train).trans (if_neg retrain)

theorem doRetrain_leaves (up : s.vpState p = 2) :
    let t := doRetrain p s
    t.vpState p = 3 ∧ t.vp p = s.vp p ∧ t.fld (regVp p 0xC) 31 16 = min (s.fld (regVp p 0xC) 31 16 + 1) 65535
      ∧ t.net.length = s.net.length + 1 ∧ (∀ o, o ≠ 4 → o ≠ 0xC → ∀ hi lo, t.fld (regVp p o) hi lo = s.fld (regVp p o) hi lo)
      ∧ PortFrame p s t := by
  have state : (s.bump (regVp p 0xC) 31 16 1).vpState p = s.vpState p := s.vpState_setFld_ne p (by decide) ..
  have run : doRetrain p s = ((s.bump (regVp p 0xC) 31 16 1).vpEnter p 3).send (vpSrc p) 0x79 p true [] :=
    if_neg (not_not_intro up)
  dsimp only
  rw [run, State.vpEnter_calm _ _ (by decide) (by rw [state, up]; decide), State.vpState_send,
    State.vpState_setFld _ _ (by decide), State.vp_send, State.vp_setFld, State.vp_bump, State.fld_send,
    State.fld_setFld_ne _ (regVp_ne (by decide)), State.fld_bump _ _ _ (by decide) (by decide), State.send_net,
    List.length_append]
  refine ⟨rfl, rfl, rfl, rfl, fun o other other' hi lo => ?_,
    (((PortFrame.refl p s).setFld (by decide) ..).setFld (by decide) ..).send ..⟩
  rw [State.fld_send, State.fld_setFld_ne _ (regVp_ne other.symm), State.bump, State.fld_setFld_ne _ (regVp_ne other'.symm)]

/-! ### Replay (R433) -/

/-- The flits that a NAK leaves for replay, each counted once more. -/
def State.unacked (s : State) (p lack : Nat) : List (Nat × List Byte × Nat) :=
  ((s.vp p).replay.filter (fun f => decide (2048 ≤ (lack + 4096 - f.1) % 4096))).map (fun f => (f.1, f.2.1, f.2.2 + 1))

theorem State.vpReplay_eq (s : State) (p lack : Nat) : s.vpReplay p lack =
    let u := s.setVp p { s.vp p with replay := s.unacked p lack }
    if s.unacked p lack = [] then u
    else
      let w := (u.bump (regVp p 8) 31 16 (s.unacked p lack).length).sendLimited (vpSrc p) 0x78 p
      if (s.unacked p lack).any (fun f => decide (8 ≤ f.2.2)) then doRetrain p w else w := by
  have same : (fun f : Nat × List Byte × Nat => !decide ((lack + 4096 - f.1) % 4096 < 2048))
      = fun f => decide (2048 ≤ (lack + 4096 - f.1) % 4096) := by
    funext f
    rw [← decide_not, decide_eq_decide, Nat.not_lt]
  unfold State.vpReplay
  dsimp only
  rw [same]
  rfl

theorem State.vpReplay_leaves (up : s.vpState p = 2) (lack : Nat) :
    let t := s.vpReplay p lack
    (t.vp p).replay = s.unacked p lack
      ∧ t.vpState p = (if (s.unacked p lack).any (fun f => decide (8 ≤ f.2.2)) = true then 3 else 2)
      ∧ t.fld (regVp p 8) 31 16 = min (s.fld (regVp p 8) 31 16 + (s.unacked p lack).length) 65535 ∧ PortFrame p s t := by
  dsimp only
  rw [State.vpReplay_eq]
  generalize s.unacked p lack = left
  have kept : (s.setVp p { s.vp p with replay := left }).vp p = { s.vp p with replay := left } := s.vp_setVp_same ..
  have frame := (PortFrame.refl p s).setVp { s.vp p with replay := left }
  dsimp only
  by_cases none : left = []
  · have least := s.fld_lt (regVp p 8) 31 16
    rw [none] at kept frame
    rw [if_pos none, none, kept, State.vpState_setVp, State.fld_setVp, List.length_nil, Nat.add_zero]
    exact ⟨rfl, up, (Nat.min_eq_left (Nat.le_of_lt_succ least)).symm, frame⟩
  · rw [if_neg none]
    have frame' := (frame.setFld (o := 8) (by decide) 31 16 (satAdd 16 ((s.setVp p { s.vp p with replay := left }).fld
      (regVp p 8) 31 16) left.length)).sendLimited (vpSrc p) 0x78 p
    have count : (((s.setVp p { s.vp p with replay := left }).bump (regVp p 8) 31 16 left.length).sendLimited
        (vpSrc p) 0x78 p).fld (regVp p 8) 31 16 = min (s.fld (regVp p 8) 31 16 + left.length) 65535 := by
      rw [State.fld_sendLimited, State.fld_bump _ _ _ (by decide) (by decide), State.fld_setVp]
      rfl
    have state : (((s.setVp p { s.vp p with replay := left }).bump (regVp p 8) 31 16 left.length).sendLimited
        (vpSrc p) 0x78 p).vpState p = 2 := by
      rw [State.vpState_sendLimited, State.bump, State.vpState_setFld_ne _ p (by decide), State.vpState_setVp, up]
    have vp : (((s.setVp p { s.vp p with replay := left }).bump (regVp p 8) 31 16 left.length).sendLimited
        (vpSrc p) 0x78 p).vp p = { s.vp p with replay := left } := by
      rw [State.vp_sendLimited, State.vp_bump, kept]
    change PortFrame p s (((s.setVp p { s.vp p with replay := left }).bump (regVp p 8) 31 16 left.length).sendLimited
        (vpSrc p) 0x78 p) at frame'
    generalize ((s.setVp p { s.vp p with replay := left }).bump (regVp p 8) 31 16 left.length).sendLimited (vpSrc p) 0x78 p
      = w at frame' count state vp ⊢
    split
    · obtain ⟨state', vp', -, -, flds, frame''⟩ := doRetrain_leaves state
      exact ⟨by rw [vp', vp], state', (flds 8 (by decide) (by decide) ..).trans count, frame'.trans frame''⟩
    · exact ⟨by rw [vp], state, count, frame'⟩

end

/-! ### The statement -/

/-- Settles O31: each command by what it leaves of its port and by its frame. -/
theorem viaductPorts : Obligations.ViaductPorts := by
  unfold Obligations.ViaductPorts
  intro s p hp
  have port8 : below 8 p = true := decide_eq_true hp
  refine ⟨fun v => ⟨_, exec_portEnable port8, ?_⟩, fun on => ⟨_, exec_byp port8, ?_⟩, fun pid port hpid hport => ?_,
    fun up => ⟨_, exec_retrain port8, ?_⟩, fun still => ⟨?_, fun lack hl => ?_⟩,
    fun lack hl up => ⟨_, exec_nak (below_and_below hp hl), ?_⟩⟩
  · have left := doPortEnable_leaves s p v
    exact ⟨left.turnsOn, left.turnsOff, left.stays, left.setting.enable, left.setting.role, left.setting.field,
      left.frame.others, left.frame.mem, left.frame.clusters⟩
  · obtain ⟨bit, state, frame, net⟩ := doByp_leaves (s := s) (p := p) on
    exact ⟨bit, state, frame.others, net, frame.mem, frame.clusters⟩
  · have run (ok : Bool) : exec (.trainResult p ok pid port) s = .next (doTrainResult p ok pid port s) :=
      exec_trainResult (Bool.and_eq_true_iff.2 ⟨below_and_below hp hpid, decide_eq_true hport⟩)
    refine ⟨fun training => ⟨_, run true, ?_⟩, fun training => ⟨_, run false, ?_⟩,
      fun retrain => ⟨_, run true, doTrainResult_again retrain pid port⟩, fun retrain => ⟨_, run false, ?_⟩,
      fun ok train retrain => (run ok).trans (congrArg _ (doTrainResult_idle ok train retrain pid port))⟩
    · obtain ⟨portNoted, pidNoted, state, net, frame⟩ := doTrainResult_identified training hpid hport
      exact ⟨portNoted, pidNoted, state, net, frame.mem, frame.clusters⟩
    · obtain ⟨tries, state, net, frame⟩ := doTrainResult_fails training pid port
      exact ⟨tries, state, net, frame.mem, frame.clusters⟩
    · obtain ⟨state, vp, net⟩ := s.vpEnter_down_leaves (p := p)
      rw [doTrainResult_lost retrain, vp]
      exact ⟨state, rfl, net⟩
  · obtain ⟨state, vp, count, net, -, frame⟩ := doRetrain_leaves up
    exact ⟨state, vp, count, net, frame.mem, frame.clusters⟩
  · exact (exec_retrain port8).trans (congrArg _ (if_pos still))
  · exact (exec_nak (below_and_below hp hl)).trans (congrArg _ (if_neg still))
  · obtain ⟨replay, state, count, frame⟩ := State.vpReplay_leaves up lack
    rw [doNak, if_pos up]
    exact ⟨replay, state, count, frame.mem, frame.clusters⟩

end Sys2Proof.Machine
end

section
/-! PROOFS. Viaduct flits (O32). What a good flit's acknowledgement and replay leave of the other registers (`PortFrame`),
and what becomes of a packet that is complete. -/

namespace Sys2Proof.Machine

/-! ### Packets that are complete -/

section
variable (s : State) (vc : Nat) (b : List Byte)

theorem State.fld_vdProto : s.vdProto.fld (regVd 8) 15 0 = min (s.fld (regVd 8) 15 0 + 1) 65535 := by
  rw [State.vdProto, State.fld_sendLimited, State.fld_bump _ _ _ (by decide) (by decide)]
  rfl

theorem State.vdProto_vd : s.vdProto.vd = s.vd := State.sendLimited_keeps State.vd ..

theorem State.gotAny_bad (bad : pkBad b = true) : s.gotAny vc b = s.vdProto := if_pos bad

theorem State.gotAny_passes (good : pkBad b = false) (other : pkDst b ≠ s.pid) : s.gotAny vc b = s.inject vc b := by
  rw [State.gotAny, if_neg (by rw [good]; decide), if_neg other]

end

/-! ### A flit at a port in UP -/

section
variable (s : State) (p fec : Nat) (b : List Byte)

/-- The codeword of a flit, counted where it was corrected. -/
def State.corrected : State := if fec = 1 then s.bump (regVp p 0xC) 15 0 1 else s

/-- What the header of a good flit brings with it: its acknowledgement, and the replay that it asks for. -/
def State.linkWord : State :=
  let h := fieldAt b 0 4
  let a := (s.corrected p fec).vpAck p (bitsOf h 19 8)
  if bitOf h 5 then a.vpReplay p (bitsOf h 19 8) else a

variable {s p fec}

theorem State.corrected_leaves : (s.corrected p fec).vpState p = s.vpState p ∧ (s.corrected p fec).vp p = s.vp p
    ∧ PortFrame p s (s.corrected p fec) := by
  unfold State.corrected
  split
  · exact ⟨s.vpState_setFld_ne p (by decide) .., s.vp_bump .., (PortFrame.refl p s).setFld (by decide) ..⟩
  · exact ⟨rfl, rfl, .refl p s⟩

theorem State.linkWord_frame (up : s.vpState p = 2) : PortFrame p s (s.linkWord p fec b) := by
  obtain ⟨state, -, frame⟩ := s.corrected_leaves (p := p) (fec := fec)
  have acked : PortFrame p s ((s.corrected p fec).vpAck p (bitsOf (fieldAt b 0 4) 19 8)) := frame.setVp _
  unfold State.linkWord
  dsimp only
  split
  · obtain ⟨-, -, -, replayed⟩ := State.vpReplay_leaves (s := (s.corrected p fec).vpAck p (bitsOf (fieldAt b 0 4) 19 8)) (p := p)
      ((State.vpState_setVp ..).trans (state.trans up)) (bitsOf (fieldAt b 0 4) 19 8)
    exact acked.trans replayed
  · exact acked

theorem State.vp_vpAck (lack : Nat) : ((s.corrected p fec).vpAck p lack).vp p = { s.vp p with
    replay := (s.vp p).replay.filter (fun f => decide (2048 ≤ (lack + 4096 - f.1) % 4096)) } := by
  rw [State.vpAck, State.vp_setVp_same, s.corrected_leaves.2.1]

/-- A flit whose codeword, length and CRC-32C are good (R432). -/
def GoodFlit (fec : Nat) (b : List Byte) : Prop :=
  fec ≠ 2 ∧ b.length = 256 ∧ fieldAt b 252 4 = (crc32c (b.take 252)).toNat

theorem goodFlit_iff : (decide (fec ≠ 2 ∧ b.length = 256) && decide (fieldAt b 252 4 = (crc32c (b.take 252)).toNat)) = true
    ↔ GoodFlit fec b := by
  rw [Bool.and_eq_true, decide_eq_true_iff, decide_eq_true_iff, and_assoc, GoodFlit]

theorem doFlitReceive_bad (up : s.vpState p = 2) (bad : ¬ GoodFlit fec b) : doFlitReceive p fec b s =
    let u := if fec = 1 then s.bump (regVp p 0xC) 15 0 1 else if fec = 2 then s.bump (regVp p 8) 15 0 1 else s
    u.setVp p { u.vp p with nak := true } := by
  unfold doFlitReceive
  rw [if_neg (not_not_intro up)]
  dsimp only
  exact if_pos (by rw [Bool.not_eq_true', ← Bool.not_eq_true, goodFlit_iff]; exact bad)

theorem doFlitReceive_good (up : s.vpState p = 2) (good : GoodFlit fec b) : doFlitReceive p fec b s =
    let h := fieldAt b 0 4
    let u := s.linkWord p fec b
    if bitsOf h 7 6 = 3 then u.creditBack p b
    else if bitsOf h 31 20 ≠ (u.vp p).rx then u.setVp p { u.vp p with nak := true }
    else (u.setVp p { u.vp p with rx := ((u.vp p).rx + 1) % 4096 }).takeFlit p b := by
  have counted : (if fec = 1 then s.bump (regVp p 0xC) 15 0 1 else if fec = 2 then s.bump (regVp p 8) 15 0 1 else s)
      = s.corrected p fec := by rw [State.corrected, if_neg good.1]
  unfold doFlitReceive
  rw [if_neg (not_not_intro up), counted]
  dsimp only
  exact if_neg (by rw [(goodFlit_iff b).2 good]; decide)

/-- A bad flit is counted by its codeword, and a replay is asked for. -/
theorem doFlitReceive_bad_leaves (up : s.vpState p = 2) (hfec : fec < 3) (bad : ¬ GoodFlit fec b) :
    let t := doFlitReceive p fec b s
    t.vp p = { s.vp p with nak := true }
      ∧ t.fld (regVp p 8) 15 0 = (if fec = 2 then min (s.fld (regVp p 8) 15 0 + 1) 65535 else s.fld (regVp p 8) 15 0)
      ∧ t.fld (regVp p 0xC) 15 0 = (if fec = 1 then min (s.fld (regVp p 0xC) 15 0 + 1) 65535 else s.fld (regVp p 0xC) 15 0)
      ∧ t.net = s.net ∧ PortFrame p s t := by
  dsimp only
  rw [doFlitReceive_bad b up bad]
  dsimp only
  rw [State.vp_setVp_same, State.fld_setVp, State.fld_setVp]
  obtain corrected | lost | clean : fec = 1 ∨ fec = 2 ∨ fec = 0 := by omega
  · rw [if_pos corrected, if_pos corrected, if_neg (by omega), State.vp_bump,
      State.fld_bump _ _ _ (by decide) (by decide), State.bump, State.fld_setFld_ne _ (regVp_ne (by decide))]
    exact ⟨rfl, rfl, rfl, rfl, ((PortFrame.refl p s).setFld (by decide) ..).setVp _⟩
  · rw [if_neg (by omega), if_pos lost, if_pos lost, if_neg (by omega), State.vp_bump,
      State.fld_bump _ _ _ (by decide) (by decide), State.bump, State.fld_setFld_ne _ (regVp_ne (by decide))]
    exact ⟨rfl, rfl, rfl, rfl, ((PortFrame.refl p s).setFld (by decide) ..).setVp _⟩
  · rw [if_neg (by omega), if_neg (by omega), if_neg (by omega), if_neg (by omega)]
    exact ⟨rfl, rfl, rfl, rfl, (PortFrame.refl p s).setVp _⟩

/-! ### Packets that flits make up -/

variable {b} {u : State}

/-- The payload joins the packet of its VC. -/
def State.joined (u : State) (p : Nat) (b : List Byte) : List Byte :=
  (if bitOf (fieldAt b 0 4) 4 then [] else (u.vp p).part.get (bitsOf (fieldAt b 0 4) 7 6) []) ++ (b.drop 4).take 248

theorem State.takeFlit_more (x : VdPort) (more : bitOf (fieldAt b 0 4) 3 = false) : (u.setVp p x).takeFlit p b =
    (u.setVp p x).setVp p { x with part := x.part.set (bitsOf (fieldAt b 0 4) 7 6) ((u.setVp p x).joined p b) } := by
  unfold State.takeFlit State.joined
  rw [State.vp_setVp_same]
  exact if_neg (by rw [more]; decide)

theorem State.takeFlit_last (x : VdPort) (last : bitOf (fieldAt b 0 4) 3 = true) : (u.setVp p x).takeFlit p b =
    let all := (u.setVp p x).joined p b
    let n := pkLen all
    ((u.setVp p x).setVp p { x with part := x.part.erase (bitsOf (fieldAt b 0 4) 7 6) }).gotAny (bitsOf (fieldAt b 0 4) 7 6)
      (all.take (if pkKind all = 1 then 32 + n + (if bitOf (pkFlags all) 2 then ceilDiv n 64 else 0) else 32)) := by
  unfold State.takeFlit State.joined
  rw [State.vp_setVp_same]
  exact if_pos last

/-- What the last flit of a packet makes of it. -/
theorem State.gotAny_leaves {w : State} (frame : PortFrame p s w) (vc : Nat) (pk : List Byte) :
    (pkBad pk = true → (w.gotAny vc pk).fld (regVd 8) 15 0 = min (s.fld (regVd 8) 15 0 + 1) 65535 ∧ (w.gotAny vc pk).vd = w.vd)
      ∧ (pkBad pk = false → pkDst pk ≠ s.pid → w.gotAny vc pk = w.inject vc pk) := by
  have proto : w.fld (regVd 8) 15 0 = s.fld (regVd 8) 15 0 := by
    rw [State.fld, frame.reg _ (not_inPort_regVd p (by decide)), State.fld]
  have pid : w.pid = s.pid := by
    rw [State.pid, State.fld, frame.reg _ (not_inPort_regVd p (by decide)), State.pid, State.fld]
  refine ⟨fun bad => ?_, fun good other => w.gotAny_passes vc pk good (pid ▸ other)⟩
  rw [w.gotAny_bad vc pk bad, State.fld_vdProto, proto]
  exact ⟨rfl, w.vdProto_vd⟩

end

/-! ### The statement -/

/-- Settles O32: a flit by its codeword and CRC-32C, its virtual channel, and its place in the sequence. -/
theorem viaductFlits : Obligations.ViaductFlits := by
  unfold Obligations.ViaductFlits
  intro s p fec b hp hfec hb
  have run : exec (.flitReceive p fec b) s = .next (doFlitReceive p fec b s) :=
    exec_flitReceive (Bool.and_eq_true_iff.2 ⟨below_and_below hp hfec, decide_eq_true hb⟩)
  dsimp only
  refine ⟨fun still => run.trans (congrArg _ (if_pos still)), fun up bad => ⟨_, run, ?_⟩, fun up good link => ?_,
    fun up good data gap => ?_, fun up good data next => ⟨fun more => ?_, fun last => ⟨?_, ?_⟩⟩, State.vp_vpAck _⟩
  · obtain ⟨vp, lost, corrected, net, frame⟩ := doFlitReceive_bad_leaves b up hfec bad
    exact ⟨vp, lost, corrected, frame.transit, net, frame.mem, frame.clusters⟩
  · rw [run, doFlitReceive_good b up good]
    exact congrArg _ (if_pos link)
  · rw [run, doFlitReceive_good b up good]
    exact congrArg _ ((if_neg data).trans (if_pos gap))
  · rw [run, doFlitReceive_good b up good]
    refine congrArg _ ((if_neg data).trans ((if_neg (not_not_intro next)).trans ((State.takeFlit_more _ more).trans ?_)))
    unfold State.joined
    rw [State.vp_setVp_same]
    rfl
  · rw [run, doFlitReceive_good b up good]
    refine congrArg _ ((if_neg data).trans ((if_neg (not_not_intro next)).trans ((State.takeFlit_last _ last).trans ?_)))
    unfold State.joined
    rw [State.vp_setVp_same]
    rfl
  · exact State.gotAny_leaves (((State.linkWord_frame b up).setVp _).setVp _) _ _

end Sys2Proof.Machine
end

section
/-! PROOFS. Viaduct routing (O33). A route is read off the first dimension with distance left; a hop takes the packet out of
those that wait, and its flits enter one port. -/

namespace Sys2Proof.Machine

/-! ### The route in dimension order (R437) -/

section
variable {s : State} {b : List Byte} {d : Nat}

/-- The dimension of a packet that goes in dimension order: the first one with distance left. -/
theorem State.open_head (hd : d < 3) (before : ∀ e, e < d → s.distTo (pkDst b) e = 0) (left : s.distTo (pkDst b) d ≠ 0) :
    ((upTo 3).filter (fun e => decide (s.distTo (pkDst b) e ≠ 0))).head? = some d := by
  rw [List.head?_filter, upTo, List.find?_range_eq_some]
  exact ⟨decide_eq_true left, List.mem_range.2 hd, fun e he => by rw [decide_eq_false (not_not_intro (before e he))]; rfl⟩

/-- The port of a dimension without an express link there. -/
theorem State.dimPort_plain (dst : Nat) (plain : s.fld (regVd 0) 24 23 ≠ d) (plus : Bool) : s.dimPort dst d plus =
    (2 * d + (if plus then 0 else 1), if plus then decide (s.coord s.pid d + 1 = s.dimOf d) else decide (s.coord s.pid d = 0)) :=
  if_neg fun express => plain express.1

theorem State.viaPort_up {q : Nat} (up : s.vpState q = 2) : s.viaPort q = some q := if_pos (decide_eq_true up)

/-- V6 stands in for a port that is not up. -/
theorem State.viaPort_spare {q : Nat} (down : s.vpState q ≠ 2) (up : s.vpState 6 = 2) (spare : s.vpRole 6 = 1)
    (stands : s.fld (regVp 6 0) 27 25 = q) : s.viaPort q = some 6 := by
  rw [State.viaPort, if_neg (by rw [State.vpUp, decide_eq_false down]; decide)]
  exact List.find?_cons_of_pos (by rw [decide_eq_true ⟨spare, stands⟩, State.vpUp, decide_eq_true up]; rfl)

/-- The route of a packet that goes in dimension order and turns nowhere back. -/
theorem State.route_ordered (pref : Nat) (ordered : pkKind b ≠ 1 ∨ s.strict = true) (forth : bitOf (pkFlags b) 3 = false)
    (hd : d < 3) (before : ∀ e, e < d → s.distTo (pkDst b) e = 0) (left : s.distTo (pkDst b) d ≠ 0) {q p : Nat} {wrap : Bool}
    (leaves : s.dimPort (pkDst b) d (decide (2 * s.distTo (pkDst b) d ≤ s.dimOf d)) = (q, wrap)) (via : s.viaPort q = some p) :
    s.route b pref = some (p, wrap, false) := by
  have bound : (decide (pkKind b = 1) && !s.strict) = false := by
    rcases ordered with other | strict
    · rw [decide_eq_false other, Bool.false_and]
    · rw [strict, Bool.not_true, Bool.and_false]
  unfold State.route
  dsimp only
  rw [bound, Bool.false_and, if_neg (by decide), State.open_head hd before left]
  dsimp only
  rw [forth, Bool.xor_false, leaves]
  dsimp only
  rw [via]

end

/-! ### The preferred dimension -/

/-- The greatest value of a list bounds its members. -/
theorem le_foldl_max (f : Nat → Nat) (l : List Nat) (a : Nat) :
    a ≤ l.foldl (fun a d => max a (f d)) a ∧ ∀ d ∈ l, f d ≤ l.foldl (fun a d => max a (f d)) a := by
  induction l generalizing a with
  | nil => exact ⟨Nat.le_refl a, fun _ none => absurd none List.not_mem_nil⟩
  | cons x xs ih =>
    obtain ⟨least, members⟩ := ih (max a (f x))
    refine ⟨(Nat.le_max_left ..).trans least, fun d listed => ?_⟩
    rcases List.mem_cons.1 listed with rfl | later
    · exact (Nat.le_max_right ..).trans least
    · exact members d later

/-- The greatest value of a list is that of a member, unless it is where the count began. -/
theorem foldl_max_attained (f : Nat → Nat) (l : List Nat) (a : Nat) :
    l.foldl (fun a d => max a (f d)) a = a ∨ ∃ d ∈ l, f d = l.foldl (fun a d => max a (f d)) a := by
  induction l generalizing a with
  | nil => exact .inl rfl
  | cons x xs ih =>
    rcases ih (max a (f x)) with start | ⟨d, later, attained⟩
    · rw [List.foldl_cons, start]
      rcases Nat.le_total (f x) a with below | above
      · exact .inl (Nat.max_eq_left below)
      · exact .inr ⟨x, List.mem_cons_self, (Nat.max_eq_right above).symm⟩
    · exact .inr ⟨d, List.mem_cons_of_mem _ later, attained⟩

/-- The first member of an ascending list that attains the greatest value. -/
theorem find_most (f : Nat → Nat) {l : List Nat} (ascending : l.Pairwise (· < ·)) (some' : l ≠ []) :
    ∃ d ∈ l, l.find? (fun d => decide (f d = l.foldl (fun a d => max a (f d)) 0)) = some d
      ∧ ∀ e ∈ l, f e ≤ f d ∧ (e < d → f e < f d) := by
  obtain ⟨least, bound⟩ := le_foldl_max f l 0
  have attained : ∃ d ∈ l, f d = l.foldl (fun a d => max a (f d)) 0 := by
    rcases foldl_max_attained f l 0 with zero | attained
    · obtain ⟨d, listed⟩ := List.exists_mem_of_ne_nil l some'
      exact ⟨d, listed, by have := bound d listed; omega⟩
    · exact attained
  generalize l.foldl (fun a d => max a (f d)) 0 = most at bound attained
  obtain ⟨d, found⟩ := Option.isSome_iff_exists.1
    (List.find?_isSome.2 (attained.imp fun _ h => ⟨h.1, decide_eq_true h.2⟩ : ∃ d, d ∈ l ∧ decide (f d = most) = true))
  obtain ⟨isMost, before, after, split, fewer⟩ := List.find?_eq_some_iff_append.1 found
  have isMost := of_decide_eq_true isMost
  refine ⟨d, List.mem_of_find?_eq_some found, found, fun e listed => ⟨isMost ▸ bound e listed, fun earlier => ?_⟩⟩
  have inBefore : e ∈ before := by
    rw [split] at listed ascending
    rcases List.mem_append.1 listed with inBefore | inRest
    · exact inBefore
    · rcases List.mem_cons.1 inRest with same | later
      · omega
      · have := (List.pairwise_cons.1 (List.pairwise_append.1 ascending).2.1).1 e later
        omega
  have differs : f e ≠ most := by simpa using fewer e inBefore
  have := bound e listed
  omega

theorem State.hopDim_blocked {s : State} (vc : Nat) (b : List Byte) {t : Nat} (blocked : s.vd.blocked = some t)
    (long : t + 500 ≤ s.ticks) : s.hopDim vc b = 3 := by
  unfold State.hopDim
  dsimp only
  rw [blocked]
  exact if_pos long

theorem State.hopDim_free {s : State} (vc : Nat) (b : List Byte) (free : s.vd.blocked = none)
    (away : ∃ d, d < 3 ∧ s.distTo (pkDst b) d ≠ 0) :
    s.hopDim vc b < 3 ∧ s.distTo (pkDst b) (s.hopDim vc b) ≠ 0
      ∧ ∀ d, d < 3 → s.distTo (pkDst b) d ≠ 0 → s.dimCredits vc b d ≤ s.dimCredits vc b (s.hopDim vc b)
        ∧ (d < s.hopDim vc b → s.dimCredits vc b d < s.dimCredits vc b (s.hopDim vc b)) := by
  have isOpen (d : Nat) : d ∈ (upTo 3).filter (fun d => decide (s.distTo (pkDst b) d ≠ 0)) ↔ d < 3 ∧ s.distTo (pkDst b) d ≠ 0 := by
    rw [List.mem_filter, upTo, List.mem_range, decide_eq_true_iff]
  obtain ⟨d, hd, left⟩ := away
  obtain ⟨e, listed, found, most⟩ := find_most (s.dimCredits vc b)
    (List.pairwise_lt_range.filter _ : ((upTo 3).filter (fun d => decide (s.distTo (pkDst b) d ≠ 0))).Pairwise (· < ·))
    (List.ne_nil_of_mem ((isOpen d).2 ⟨hd, left⟩))
  have chosen : s.hopDim vc b = e := by
    unfold State.hopDim
    dsimp only
    rw [free]
    exact congrArg (Option.getD · 3) found
  obtain ⟨he, hleft⟩ := (isOpen e).1 listed
  rw [chosen]
  exact ⟨he, hleft, fun d hd left => most d ((isOpen d).2 ⟨hd, left⟩)⟩

/-! ### Flits of a packet -/

theorem length_cutFlits (n : Nat) (b : List Byte) : (cutFlits n b).length = n := by
  induction n generalizing b with
  | zero => rfl
  | succ n ih => exact congrArg (· + 1) (ih _)

/-- What a port has after a packet of n flits was sent on it. -/
structure PortSent (p v n : Nat) (s t : State) : Prop where
  tx : (t.vp p).tx = ((s.vp p).tx + n) % 4096
  length : (t.vp p).replay.length = (s.vp p).replay.length + n
  kept : (t.vp p).replay.take (s.vp p).replay.length = (s.vp p).replay
  spent : (t.vp p).spent.get v 0 = (s.vp p).spent.get v 0 + n
  transit : t.vd.transit = s.vd.transit
  regs : t.regs = s.regs
  net : t.net = s.net
  mem : t.mem = s.mem
  clusters : t.clusters = s.clusters

section
variable {s : State} {p v : Nat} {b : List Byte}

/-- Do the flits of a packet fit the replay buffer and the credits of a port? -/
def State.fits (s : State) (p v n : Nat) : Prop :=
  (s.vp p).replay.length + n ≤ 512 ∧ (s.vp p).spent.get v 0 + n ≤ (if v = 0 then 32 else 256)

theorem State.sendFlits_fits (fits : s.fits p v (ceilDiv b.length 248)) :
    ∃ t, s.sendFlits p v b = (true, t) ∧ PortSent p v (ceilDiv b.length 248) s t := by
  obtain ⟨room, credits⟩ := fits
  unfold State.sendFlits
  dsimp only
  rw [length_cutFlits]
  rw [if_neg (by rw [VdPort.credits]; omega)]
  refine ⟨_, rfl, ?_⟩
  constructor
  · rw [State.vp_setVp_same]
  · rw [State.vp_setVp_same, List.length_append, List.length_map, List.length_zip, length_cutFlits, upTo, List.length_range,
      Nat.min_self]
  · rw [State.vp_setVp_same]
    exact List.take_left
  · rw [State.vp_setVp_same]
    exact Table.get_set_same ..
  all_goals rfl

theorem State.sendFlits_full (some' : 0 < ceilDiv b.length 248) (full : ¬ s.fits p v (ceilDiv b.length 248)) :
    s.sendFlits p v b = (false, s) := by
  unfold State.sendFlits
  dsimp only
  rw [length_cutFlits]
  refine if_pos ?_
  rw [VdPort.credits]
  unfold State.fits at full
  omega

end

/-! ### A hop -/

section
variable (s : State) (vc : Nat) (b : List Byte)

/-- The waiting packets without one of them. -/
def State.without : State :=
  { s with vd := { s.vd with transit := s.vd.transit.erase (vc, b), blocked := if vc = 0 then s.vd.blocked else none } }

/-- A packet dropped without a route. -/
def State.unrouted : State := ((s.without vc b).bump (regVd 8) 31 16 1).sendLimited routerSrc 0x7C 0

/-- The packet as a hop sends it on: its direction and its count of hops. -/
def hopped (b : List Byte) (rev : Bool) : List Byte :=
  b.take 22 ++ leBytes 1 ((pkFlags b &&& 0xF7) ||| (if rev then 8 else 0)) ++ leBytes 1 (pkHops b + 1) ++ b.drop 24

theorem length_hopped (rev : Bool) (whole : 32 ≤ b.length) : (hopped b rev).length = b.length := by
  simp only [hopped, List.length_append, List.length_take, Tests.leBytes_length, List.length_drop]
  omega

theorem length_of_not_bad {b : List Byte} (good : pkBad b = false) : 32 ≤ b.length := by
  simp only [pkBad, Bool.or_eq_false_iff, decide_eq_false_iff_not, not_or, not_lt] at good
  exact good.1.1

theorem State.hopOne_bad (bad : pkBad b = true) : s.hopOne vc b = (true, (s.without vc b).vdProto) := if_pos bad

theorem State.hopOne_lost {b : List Byte} (good : pkBad b = false) (lost : 63 ≤ pkHops b ∨ s.route b (s.hopDim vc b) = none) :
    s.hopOne vc b = (true, s.unrouted vc b) := by
  unfold State.hopOne
  dsimp only
  rw [if_neg (by rw [good]; decide)]
  by_cases many : 64 ≤ pkHops b + 1
  · exact if_pos many
  · rw [if_neg many, lost.resolve_left (by omega)]
    rfl

theorem State.hopOne_routed {b : List Byte} (good : pkBad b = false) (few : pkHops b < 63) {p : Nat} {wrap rev : Bool}
    (route : s.route b (s.hopDim vc b) = some (p, wrap, rev)) : s.hopOne vc b =
    let sent := (s.without vc b).sendFlits p (hopVc vc wrap) (hopped b rev)
    if sent.1 then (true, sent.2) else (false, s) := by
  unfold State.hopOne
  dsimp only
  rw [if_neg (by rw [good]; decide), if_neg (by omega), route]
  rfl

theorem State.vdProto_leaves : s.vdProto.vd = s.vd ∧ s.vdProto.mem = s.mem ∧ s.vdProto.clusters = s.clusters :=
  ⟨s.vdProto_vd, State.sendLimited_keeps State.mem .., State.sendLimited_keeps State.clusters ..⟩

theorem State.unrouted_leaves : (s.unrouted vc b).vd.transit = s.vd.transit.erase (vc, b)
    ∧ (s.unrouted vc b).fld (regVd 8) 31 16 = min (s.fld (regVd 8) 31 16 + 1) 65535 ∧ (s.unrouted vc b).mem = s.mem
    ∧ (s.unrouted vc b).clusters = s.clusters := by
  have vd : (s.unrouted vc b).vd = (s.without vc b).vd := State.sendLimited_keeps State.vd ..
  have count : (s.without vc b).fld (regVd 8) 31 16 = s.fld (regVd 8) 31 16 := State.fld_of_regs rfl ..
  rw [vd]
  refine ⟨rfl, ?_, State.sendLimited_keeps State.mem .., State.sendLimited_keeps State.clusters ..⟩
  rw [State.unrouted, State.fld_sendLimited, State.fld_bump _ _ _ (by decide) (by decide), count]
  rfl

/-- The packet that takes its hop: the first control packet, or the first packet where no control packet waits. -/
def State.Hops : Prop :=
  s.vd.transit.find? (fun x => decide (x.1 = 0)) = some (vc, b)
    ∨ (∀ x ∈ s.vd.transit, x.1 ≠ 0) ∧ s.vd.transit.head? = some (vc, b)

/-- PACKET_HOP behind the copies that become packets. -/
def State.hop : State :=
  match s.vd.transit.find? (fun x => decide (x.1 = 0)) with
  | none => s.hopData
  | some x => if (s.hopOne x.1 x.2).1 then (s.hopOne x.1 x.2).2 else s.hopData

theorem doPacketHop_eq : doPacketHop s = s.makeAll.hop := rfl

variable {s vc b}

theorem State.hop_empty (none : s.vd.transit = []) : s.hop = s := by
  unfold State.hop State.hopData firstData
  rw [none]
  rfl

/-- Without a control packet the first packet is a data packet. -/
theorem State.hop_data (data : ∀ x ∈ s.vd.transit, x.1 ≠ 0) (first : s.vd.transit.head? = some (vc, b)) : s.hop =
    if (s.hopOne vc b).1 then (s.hopOne vc b).2 else { s with vd := { s.vd with blocked := some (s.vd.blocked.getD s.ticks) } } := by
  obtain ⟨rest, waits⟩ := List.head?_eq_some_iff.1 first
  have noControl : s.vd.transit.find? (fun x => decide (x.1 = 0)) = none :=
    List.find?_eq_none.2 fun x waits => by rw [decide_eq_true_iff]; exact data x waits
  have isFirst : firstData s.vd.transit = some (vc, b) := by
    rw [firstData, waits]
    exact List.find?_cons_of_pos (decide_eq_true (data (vc, b) (waits ▸ List.mem_cons_self)))
  unfold State.hop
  rw [noControl]
  dsimp only
  unfold State.hopData
  rw [isFirst]

/-- A hop that is not blocked. -/
theorem State.hop_done (hops : s.Hops vc b) {t : State} (done : s.hopOne vc b = (true, t)) : s.hop = t := by
  rcases hops with control | ⟨data, first⟩
  · unfold State.hop
    rw [control]
    dsimp only
    rw [done]
    rfl
  · rw [State.hop_data data first, done]
    rfl

end

/-! ### The statement -/

/-- Settles O33: the route by its first open dimension, a hop by the packet that takes it, and the preferred dimension as
the first one with the most credits. -/
theorem viaductRouting : Obligations.ViaductRouting := by
  unfold Obligations.ViaductRouting
  refine ⟨fun s b pref d hd ordered forth before left plain => ?_, fun s => ?_, fun s vc b => ⟨fun t => s.hopDim_blocked vc b,
    s.hopDim_free vc b⟩⟩
  · have leaves := s.dimPort_plain (pkDst b) plain (decide (2 * s.distTo (pkDst b) d ≤ s.dimOf d))
    exact ⟨fun up => s.route_ordered pref ordered forth hd before left leaves (State.viaPort_up up),
      fun down up spare stands => s.route_ordered pref ordered forth hd before left leaves (State.viaPort_spare down up spare stands)⟩
  · have run : exec .packetHop s = .next s.makeAll.hop := exec_packetHop
    refine ⟨fun none => by rw [State.makeAll, none]; rfl, ?_⟩
    generalize s.makeAll = m at run
    refine ⟨fun none => run.trans (congrArg _ (State.hop_empty none)), fun vc b hops => ?_⟩
    change m.Hops vc b at hops
    refine ⟨fun bad => ⟨_, run, ?_⟩, fun good lost => ⟨_, run, ?_⟩, fun p wrap rev good few route => ?_⟩
    · obtain ⟨vd, mem, clusters⟩ := (m.without vc b).vdProto_leaves
      have count : (m.without vc b).fld (regVd 8) 15 0 = m.fld (regVd 8) 15 0 := State.fld_of_regs rfl ..
      rw [State.hop_done hops (m.hopOne_bad vc b bad), vd, mem, clusters, State.fld_vdProto, count]
      exact ⟨rfl, rfl, rfl, rfl⟩
    · rw [State.hop_done hops (m.hopOne_lost vc good lost)]
      exact m.unrouted_leaves vc b
    · have one := m.hopOne_routed vc good few route
      have length := length_hopped b rev (length_of_not_bad good)
      have ports : (m.without vc b).vp p = m.vp p := rfl
      refine ⟨fun full some' data => ?_, fun fits => ?_⟩
      · rw [State.sendFlits_full (length ▸ some') (by rw [length]; exact full)] at one
        rcases hops with control | ⟨noControl, first⟩
        · exact absurd (of_decide_eq_true (List.find?_some (p := fun x : Nat × List Byte => decide (x.1 = 0)) control)) data
        · exact run.trans (congrArg _ ((State.hop_data noControl first).trans (by rw [one]; rfl)))
      · obtain ⟨t, sends, sent⟩ := State.sendFlits_fits (s := m.without vc b) (p := p) (v := hopVc vc wrap) (b := hopped b rev)
          (by rw [length]; exact fits)
        rw [sends] at one
        rw [length] at sent
        exact ⟨t, run.trans (congrArg _ (State.hop_done hops one)), sent.transit, sent.tx, sent.length, sent.kept, sent.spent,
          sent.regs, sent.net, sent.mem, sent.clusters⟩

end Sys2Proof.Machine
end

section
/-! PROOFS. What the hub's memories, the host interface, and the stop or the reset of a cluster leave alone: the registers from
the Viaduct's on, and the state of the blocks above the hub (`LowFrame`). -/

namespace Sys2Proof.Machine

/-- From s to t work was done below the Viaduct: the blocks above and their registers stayed, but for the generation that the
collector adopts and the units in reset. -/
structure LowFrame (s t : State) : Prop where
  reg : ∀ off, regVd 0 ≤ off → t.reg off = s.reg off
  vd : t.vd = s.vd
  fc : t.fc = { s.fc with adopt := t.fc.adopt }
  rst : t.rst = { s.rst with busy := t.rst.busy }
  saf : t.saf = s.saf
  mg : t.mg = s.mg
  pw : t.pw = s.pw
  fences : t.fences = s.fences
  hostMap : t.hostMap = s.hostMap
  relief : t.relief = s.relief
  ticks : t.ticks = s.ticks

namespace LowFrame

variable {s t u : State}

theorem refl (s : State) : LowFrame s s := ⟨fun _ _ => rfl, rfl, rfl, rfl, rfl, rfl, rfl, rfl, rfl, rfl, rfl⟩

theorem trans (h : LowFrame s t) (k : LowFrame t u) : LowFrame s u where
  reg off above := (k.reg off above).trans (h.reg off above)
  vd := k.vd.trans h.vd
  fc := by rw [k.fc, h.fc]
  rst := by rw [k.rst, h.rst]
  saf := k.saf.trans h.saf
  mg := k.mg.trans h.mg
  pw := k.pw.trans h.pw
  fences := k.fences.trans h.fences
  hostMap := k.hostMap.trans h.hostMap
  relief := k.relief.trans h.relief
  ticks := k.ticks.trans h.ticks

/-- A change of other fields. -/
theorem of_eq (regs : t.regs = s.regs := by rfl) (vd : t.vd = s.vd := by rfl) (fc : t.fc = { s.fc with adopt := t.fc.adopt } := by rfl)
    (rst : t.rst = { s.rst with busy := t.rst.busy } := by rfl) (saf : t.saf = s.saf := by rfl) (mg : t.mg = s.mg := by rfl)
    (pw : t.pw = s.pw := by rfl) (fences : t.fences = s.fences := by rfl) (hostMap : t.hostMap = s.hostMap := by rfl)
    (relief : t.relief = s.relief := by rfl) (ticks : t.ticks = s.ticks := by rfl) : LowFrame s t :=
  ⟨fun off _ => State.reg_of_regs regs off, vd, fc, rst, saf, mg, pw, fences, hostMap, relief, ticks⟩

theorem setReg (h : LowFrame s t) {off : Nat} (low : off < regVd 0) (v : Word32) : LowFrame s (t.setReg off v) :=
  h.trans ⟨fun _ above => State.reg_setReg_ne _ _ (by omega), rfl, rfl, rfl, rfl, rfl, rfl, rfl, rfl, rfl, rfl⟩

theorem setFld (h : LowFrame s t) {off : Nat} (low : off < regVd 0) (hi lo v : Nat) : LowFrame s (t.setFld off hi lo v) :=
  h.setReg low _

theorem foldl {α : Type} {f : State → α → State} {l : List α} (step : ∀ t, ∀ x ∈ l, LowFrame t (f t x)) (s : State) :
    LowFrame s (l.foldl f s) :=
  List.foldlRecOn (motive := LowFrame s) l f (.refl s) fun t same x hx => same.trans (step t x hx)

theorem fld (h : LowFrame s t) {off : Nat} (above : regVd 0 ≤ off) (hi lo : Nat) : t.fld off hi lo = s.fld off hi lo := by
  rw [State.fld, h.reg off above, State.fld]

theorem recs (h : LowFrame s t) : t.fc.recs = s.fc.recs := by rw [h.fc]

theorem halted (h : LowFrame s t) : t.rst.halted = s.rst.halted := by rw [h.rst]

end LowFrame

/-! ### Registers below the Viaduct's -/

theorem regCtx_low {c o : Nat} (hc : c < 256) (ho : o < 0x1000) : regCtx c o < regVd 0 := by
  unfold regCtx regVd
  omega

theorem regDb_low {c o : Nat} (hc : c < 256) (ho : o < 0x1000) : regDb c o < regVd 0 := by
  unfold regDb regVd
  omega

theorem regCl_low {c o : Nat} (hc : c < 64) (ho : o < 0x1000) : regCl c o < regVd 0 := by
  unfold regCl regVd
  omega

theorem regEe_low {d o : Nat} (hd : d < 64) (ho : o < 0x1000) : regEe d o < regVd 0 := by
  unfold regEe regVd
  omega

theorem regHbs_low {st o : Nat} (hst : st < 2) (ho : o < 0x2000) : regHbs st o < regVd 0 := by
  unfold regHbs regVd
  omega

/-! ### Hub memories -/

theorem State.send_low (s : State) (src kind addr : Nat) (c : Bool) (l : List Nat) : LowFrame s (s.send src kind addr c l) := .of_eq

theorem State.sendLimited_low (s : State) (src kind addr : Nat) : LowFrame s (s.sendLimited src kind addr) := by
  obtain ⟨net, seqs, lims, e⟩ := s.sendLimited_eq src kind addr
  rw [e]
  exact .of_eq

theorem hbPc_stack (off : Nat) : hbPc off / 32 < 2 := by
  have : hbPc off < 64 := Nat.mod_lt _ (by decide)
  omega

theorem State.hbNote_low (s : State) (off : Nat) (l : List (Nat × Finding × Gran)) : LowFrame s (s.hbNote off l) := by
  have low {o : Nat} (ho : o < 0x2000) : regHbs (hbPc off / 32) o < regVd 0 := regHbs_low (hbPc_stack off) ho
  unfold State.hbNote
  split
  · exact .refl s
  · dsimp only
    refine LowFrame.trans ((((((LowFrame.refl s).setFld (low (o := 0) (by decide)) ..).setFld (low (o := 0) (by decide)) ..).setFld
      (low (o := 0) (by decide)) ..).setReg (low (o := 4) (by decide)) _).setReg (low (o := 8) (by decide)) _)
      (LowFrame.foldl (fun t x _ => ?_) _)
    split
    · split
      · exact .refl t
      · split
        · split
          · exact .refl t
          · exact .of_eq
        · exact t.send_low ..
    · exact .refl t

theorem State.hubNote_low (s : State) (space off : Nat) (l : List (Nat × Finding × Gran)) :
    LowFrame s (s.hubNote space off l) := by
  unfold State.hubNote
  refine LowFrame.foldl (fun t x _ => ?_) s
  split
  · split
    · exact .refl t
    · exact t.send_low ..
  · exact .refl t

theorem State.unitNote_low (s : State) (space off : Nat) (l : List (Nat × Finding × Gran)) :
    LowFrame s (s.unitNote space off l) := by
  unfold State.unitNote
  split
  · exact s.hbNote_low off l
  · split
    · exact s.hubNote_low space off l
    · exact .refl s

theorem State.hubWrite_low (s : State) (space off : Nat) (bs : List (Byte × Bool)) : LowFrame s (s.hubWrite space off bs) := by
  unfold State.hubWrite
  refine LowFrame.foldl (fun t u _ => ?_) s
  refine LowFrame.trans ?_ (State.unitNote_low ..)
  split <;> exact .of_eq

theorem State.writeFor_low (s : State) (ctx space off : Nat) (bs : List (Byte × Bool)) : LowFrame s (s.writeFor ctx space off bs) := by
  unfold State.writeFor
  split
  · exact .of_eq
  · exact (LowFrame.of_eq : LowFrame s { s with actor := [ctx] }).trans ((State.hubWrite_low ..).trans .of_eq)

/-! ### The host interface -/

section
variable (s : State) {c : Nat} (hc : c < 256)

theorem State.setHctx_low (c : Nat) (h : HostCtx) : LowFrame s (s.setHctx c h) := .of_eq

theorem State.ctxIrq_low (c : Nat) : LowFrame s (s.ctxIrq c) := by
  unfold State.ctxIrq State.trigger
  dsimp only
  split
  · split <;> exact .of_eq
  · exact .refl s

include hc

theorem State.setCtxState_low (v : Nat) : LowFrame s (s.setCtxState c v) :=
  (LowFrame.refl s).setFld (regCtx_low (o := 4) hc (by decide)) ..

theorem State.putRecord_low (mark : Option Nat) (rec : Bool → List Byte) : LowFrame s (s.putRecord c mark rec) := by
  unfold State.putRecord
  dsimp only
  exact ((LowFrame.of_eq : LowFrame s (s.setBytes _ _)).setFld (regDb_low (o := 0xC) hc (by decide)) ..).trans .of_eq

theorem State.writeRecord_low : LowFrame s (s.writeRecord c) := by
  unfold State.writeRecord
  split
  · exact .refl s
  · split
    · exact (s.setHctx_low ..).trans ((State.putRecord_low _ hc ..).trans (State.ctxIrq_low ..))
    · split
      · exact .refl s
      · have noted (mark : Option Nat) (rec : Bool → List Byte) (q : Nat) (f : JEntry → JEntry) :
            LowFrame s ((s.putRecord c mark rec).updEntry c q f) := (s.putRecord_low hc mark rec).trans .of_eq
        dsimp only
        split
        · exact (noted ..).trans (State.ctxIrq_low ..)
        · exact noted ..

theorem State.flushRecords_low (n : Nat) : LowFrame s (State.flushRecords c n s) := by
  induction n generalizing s with
  | zero => exact .refl s
  | succ n ih => exact (s.writeRecord_low hc).trans (ih _)

theorem State.flushAll_low : LowFrame s (s.flushAll c) := s.flushRecords_low hc _

theorem State.settle_low : LowFrame s (s.settle c) := by
  unfold State.settle
  split
  · exact (s.flushAll_low hc).trans (State.setCtxState_low _ hc 0)
  · exact .refl s

theorem State.leaveBehind_low {e : JEntry} (own : e.ctx = c) : LowFrame s (s.leaveBehind e) := by
  have low {o : Nat} (ho : o < 0x1000) : regCtx e.ctx o < regVd 0 := regCtx_low (own ▸ hc) ho
  unfold State.leaveBehind
  split
  · exact (LowFrame.refl s).setFld (low (by decide)) ..
  · split
    · exact (LowFrame.refl s).setFld (low (by decide)) ..
    · exact .refl s

omit hc in
theorem State.ctx_of_entry {q : Nat} {e : JEntry} (found : s.entry c q = some e) : e.ctx = c := by
  have := List.find?_some found
  simp only [Bool.and_eq_true, decide_eq_true_iff] at this
  exact this.1

theorem State.discardList_low (cause : Nat) (l : List Nat) : LowFrame s (State.discardList c cause l s) := by
  induction l generalizing s with
  | nil => exact .refl s
  | cons q l ih =>
    unfold State.discardList
    split
    · exact ih s
    · rename_i e found
      split
      · exact ih s
      · have out : LowFrame s (s.enterOut c q ⟨3, cause, 0, [], 0⟩) := .of_eq
        exact (out.trans ((State.leaveBehind_low _ hc (s.ctx_of_entry found)).trans .of_eq)).trans (ih _)

theorem State.discardAll_low (cause : Nat) : LowFrame s (s.discardAll c cause) := s.discardList_low hc cause _

theorem State.done1_low (seq code flags : Nat) (rd : List Byte) (aux : Nat) : LowFrame s (s.done1 c seq code flags rd aux) :=
  (LowFrame.of_eq : LowFrame s (s.enterOut c seq _)).trans (State.settle_low _ hc)

theorem State.frameRecord_low {e : StepEnd} (own : e.ctx = c) (code : Nat) : LowFrame s (s.frameRecord e code) := by
  unfold State.frameRecord
  split
  · exact (LowFrame.refl s).setFld (regCtx_low (own ▸ hc) (by decide)) ..
  · exact (s.setHctx_low ..).trans (State.writeRecord_low _ (own ▸ hc))

theorem State.finishEnd_low {e : StepEnd} (own : e.ctx = c) : LowFrame s (s.finishEnd e) := by
  unfold State.finishEnd
  dsimp only
  split
  · exact .refl s
  · split
    · exact .refl s
    · split
      · exact (LowFrame.of_eq : LowFrame s _).trans (State.done1_low _ (own ▸ hc) ..)
      · split
        · exact .refl s
        · split
          · exact .of_eq
          · exact (LowFrame.of_eq : LowFrame s _).trans (State.frameRecord_low _ hc own _)

theorem State.finishEnds_low (seq : Nat) : LowFrame s (s.finishEnds c seq) :=
  LowFrame.foldl (fun t _ listed => t.finishEnd_low hc (of_decide_eq_true (List.mem_filter.1 listed).2).1) s

end

/-! ### Clusters -/

section
variable (s : State) {k : Nat} (hk : k < 64)

theorem State.setCl_low (k : Nat) (x : Cluster) : LowFrame s (s.setCl k x) := .of_eq

include hk

theorem State.halt_low : LowFrame s (s.halt k) := by
  have edge : regEe (dieOf k) 4 < regVd 0 := regEe_low (by unfold dieOf; omega) (by decide)
  unfold State.halt
  split
  · dsimp only
    split
    · exact ((LowFrame.refl s).setFld edge ..).trans (State.setCl_low ..)
    · exact State.setCl_low ..
  · exact .refl s

theorem State.bumpGen_low : LowFrame s (s.bumpGen k) := by
  simp only [State.bumpGen, if_pos hk]
  exact ((LowFrame.refl s).setFld (regCl_low (o := 0xC) hk (by decide)) ..).trans .of_eq

theorem State.reqReset_low : LowFrame s (s.reqReset k) := by
  unfold State.reqReset
  split
  · exact .refl s
  · exact (State.setCl_low ..).trans ((State.halt_low _ hk).trans ((State.bumpGen_low _ hk).trans .of_eq))

end

/-! ### The work of a context -/

section
variable (s : State) {c : Nat} (hc : c < 256)

theorem State.stopCtx_low (c : Nat) : LowFrame s (s.stopCtx c) :=
  LowFrame.foldl (fun _ _ hk => (State.setCl_low ..).trans (State.halt_low _ (State.lt_of_mem_ctxClusters hk))) s

include hc

omit hc in
theorem State.dropWork_low (c : Nat) : LowFrame s (s.dropWork c) := .of_eq

theorem State.abortCore_low (cause : Nat) : LowFrame s (s.abortCore c [] cause) := by
  rw [State.abortCore_eq]
  exact (s.setCtxState_low hc 3).trans ((State.stopCtx_low ..).trans ((State.discardAll_low _ hc cause).trans
    ((State.dropWork_low ..).trans (State.settle_low _ hc))))

/-- An abort is low work behind the jobs that go QUIET. -/
theorem State.abortCtx_low (cause jobCause : Nat) : LowFrame (s.quietJobs c jobCause none) (s.abortCtx c [] cause jobCause) := by
  unfold State.abortCtx
  dsimp only
  split
  · exact .refl _
  · have core := State.abortCore_low (s.quietJobs c jobCause none) hc cause
    split
    · exact core
    · exact core.trans (LowFrame.foldl (fun t k hk => t.reqReset_low (State.lt_of_mem_ctxClusters hk)) _)

end

end Sys2Proof.Machine
end

section
/-! PROOFS. Viaduct job slots: what goes on their way, and a slot that leaves RUN (`QuietFrame` for the other slots). -/

namespace Sys2Proof.Machine

/-! ### Packets on their way -/

/-- Packets for a list of peers, each of its own bytes, go on their way in order. -/
theorem State.foldl_inject (f : State → Nat → List Byte)
    (same : ∀ (u : State) tr p, f { u with vd := { u.vd with transit := tr } } p = f u p) (l : List Nat) (s : State) :
    l.foldl (fun (u : State) p => u.inject 0 (f u p)) s
      = { s with vd := { s.vd with transit := s.vd.transit ++ l.map (fun p => (0, f s p)) } } := by
  induction l generalizing s with
  | nil => simp only [List.foldl_nil, List.map_nil, List.append_nil]
  | cons p l ih =>
    rw [List.foldl_cons, ih, List.map_cons, State.inject]
    simp only [same, List.append_assoc, List.singleton_append]

/-- The ABORT that a slot sends to a peer (R452). -/
def State.abortFor (s : State) (j p cause : Nat) : List Byte :=
  pkHeader (s.jPid j p) s.pid 6 (s.jGen j) (s.jId j) (s.jOldest j) 0 cause 0 0 0 0 0 0

theorem pkKind_pkHeader {kind : Nat} (small : kind < 256) (dst src gen job epoch att aux didx msg len flags hops addr : Nat) :
    pkKind (pkHeader dst src kind gen job epoch att aux didx msg len flags hops addr) = kind := by
  have head : pkKind (pkHeader dst src kind gen job epoch att aux didx msg len flags hops addr)
      = (BitVec.ofNat 8 kind).toNat + 256 * 0 := rfl
  rw [head, BitVec.toNat_ofNat, Nat.mul_zero, Nat.add_zero, Nat.mod_eq_of_lt small]

/-! ### Registers of a slot -/

theorem regJob_above (j o : Nat) : regVd 0 ≤ regJob j o := by
  unfold regJob regVd
  omega

theorem regJob_ne {i j o o' : Nat} (ho : o < 0x80) (ho' : o' < 0x80) (other : i ≠ j) : regJob i o ≠ regJob j o' := by
  unfold regJob regVd
  omega

theorem regJob_ne_of_offset {j o o' : Nat} (other : o ≠ o') : regJob j o ≠ regJob j o' := by
  unfold regJob regVd
  omega

theorem State.fld_setJob (s : State) (j : Nat) (x : VdSlot) (off hi lo : Nat) : (s.setJob j x).fld off hi lo = s.fld off hi lo :=
  State.fld_of_regs rfl ..

theorem State.reg_setJob (s : State) (j : Nat) (x : VdSlot) (off : Nat) : (s.setJob j x).reg off = s.reg off :=
  State.reg_of_regs rfl ..

theorem State.job_setFld (s : State) (j off hi lo v : Nat) : (s.setFld off hi lo v).job j = s.job j :=
  congrArg (fun vd : VdSt => vd.slots.get j VdSlot.reset) (s.setReg_vd ..)

theorem State.job_setJob_same (s : State) (j : Nat) (x : VdSlot) : (s.setJob j x).job j = x := Table.get_set_same ..

theorem State.job_setJob_ne (s : State) {i j : Nat} (x : VdSlot) (other : i ≠ j) : (s.setJob j x).job i = s.job i := by
  simp only [State.job, State.setJob, Table.get_set, if_neg other.symm]

/-! ### Other slots that leave RUN -/

/-- From s to t slot j kept its registers and its state, its WRITEs that wait are among those it had, and no ABORT on its way
was lost. -/
structure QuietFrame (j : Nat) (s t : State) : Prop where
  reg : ∀ o, o < 0x80 → t.reg (regJob j o) = s.reg (regJob j o)
  job : t.job j = s.job j
  outs : ∀ o ∈ t.vd.outs, o ∈ s.vd.outs
  aborts : ∀ x ∈ s.vd.transit, pkKind x.2 = 6 → x ∈ t.vd.transit

namespace QuietFrame

variable {j : Nat} {s t u : State}

theorem refl (j : Nat) (s : State) : QuietFrame j s s := ⟨fun _ _ => rfl, rfl, fun _ h => h, fun _ h _ => h⟩

theorem trans (h : QuietFrame j s t) (k : QuietFrame j t u) : QuietFrame j s u :=
  ⟨fun o ho => (k.reg o ho).trans (h.reg o ho), k.job.trans h.job, fun o ho => h.outs o (k.outs o ho),
    fun x hx kind => k.aborts x (h.aborts x hx kind) kind⟩

theorem of_low (h : LowFrame s t) : QuietFrame j s t := by
  refine ⟨fun o _ => h.reg _ (regJob_above ..), ?_, ?_, ?_⟩
  · rw [State.job, h.vd, State.job]
  · rw [h.vd]
    exact fun _ ho => ho
  · rw [h.vd]
    exact fun _ hx _ => hx

theorem jState (h : QuietFrame j s t) : t.jState j = s.jState j := by
  rw [State.jState, State.fld, h.reg _ (by decide), State.jState, State.fld]

end QuietFrame

/-- What a slot sends and drops as it leaves RUN; its registers and its state are not yet written. -/
def State.quietWork (s : State) (j cause : Nat) (from_ : Option Nat) : State :=
  let ps := (s.jPeers j).filter (fun p => decide (some p ≠ from_))
  let vd := { s.vd with transit := s.vd.transit ++ ps.map (fun p => (0, s.abortFor j p cause)) }
  let mine := vd.outs.filter (fun o => o.slot = j)
  let tr := vd.transit.filter (fun x => ¬ (pkKind x.2 ≠ 6 ∧ pkJob x.2 = s.jId j ∧ pkGen x.2 = s.jGen j ∧ pkSrc x.2 = s.pid))
  { s with vd := { vd with
    outs := vd.outs.filter (fun o => o.slot ≠ j),
    copies := vd.copies.filter (fun x => !mine.any (fun o => decide (o.cl = x.1 ∧ o.order = x.2.1))),
    transit := tr, blocked := if firstData tr = firstData vd.transit then vd.blocked else none } }

/-- The slot's state QUIET with its cause. -/
def State.markQuiet (s : State) (j cause : Nat) : State :=
  let u := (s.setFld (regJob j 0x14) 31 24 cause).setFld (regJob j 0x14) 1 0 3
  u.setJob j { u.job j with lastGen := some (u.jGen j), quietAt := u.ticks }

theorem State.jobQuiet_eq {s : State} {j : Nat} (run : s.jState j = 1) (cause : Nat) (from_ : Option Nat) :
    s.jobQuiet j cause from_ = (s.quietWork j cause from_).markQuiet j cause := by
  have sent := State.foldl_inject (fun u p => u.abortFor j p cause) (fun _ _ _ => rfl)
    ((s.jPeers j).filter (fun p => decide (some p ≠ from_))) s
  simp only [State.abortFor] at sent
  unfold State.jobQuiet
  rw [if_neg (not_not_intro run)]
  dsimp only [State.jSend]
  rw [sent]
  rfl

theorem State.jobQuiet_idle {s : State} {j : Nat} (idle : s.jState j ≠ 1) (cause : Nat) (from_ : Option Nat) :
    s.jobQuiet j cause from_ = s := if_pos idle

theorem State.quietWork_aborts (s : State) (j cause : Nat) (from_ : Option Nat) (x : Nat × List Byte)
    (listed : x ∈ s.vd.transit ∨ ∃ p ∈ s.jPeers j, some p ≠ from_ ∧ x = (0, s.abortFor j p cause)) (kind : pkKind x.2 = 6) :
    x ∈ (s.quietWork j cause from_).vd.transit := by
  refine List.mem_filter.2 ⟨List.mem_append.2 (listed.imp id ?_), decide_eq_true fun dropped => dropped.1 kind⟩
  rintro ⟨p, peer, other, rfl⟩
  exact List.mem_map.2 ⟨p, List.mem_filter.2 ⟨peer, decide_eq_true other⟩, rfl⟩

/-- What slot j has left behind as it left RUN. -/
structure LeftRun (j cause : Nat) (from_ : Option Nat) (s t : State) : Prop where
  state : t.jState j = 3
  why : t.fld (regJob j 0x14) 31 24 = cause
  lastGen : (t.job j).lastGen = some (s.jGen j)
  quietAt : (t.job j).quietAt = s.ticks
  aborts : ∀ p ∈ s.jPeers j, some p ≠ from_ → (0, s.abortFor j p cause) ∈ t.vd.transit
  outs : ∀ o ∈ t.vd.outs, o.slot ≠ j

theorem LeftRun.later {j cause : Nat} {from_ : Option Nat} {s t u : State} (h : LeftRun j cause from_ s t)
    (k : QuietFrame j t u) : LeftRun j cause from_ s u where
  state := k.jState.trans h.state
  why := by
    rw [State.fld, k.reg _ (by decide), ← State.fld]
    exact h.why
  lastGen := k.job ▸ h.lastGen
  quietAt := k.job ▸ h.quietAt
  aborts p peer other := k.aborts _ (h.aborts p peer other) (pkKind_pkHeader (by decide) ..)
  outs o listed := h.outs o (k.outs o listed)

section
variable (w : State) (j cause : Nat)

theorem State.markQuiet_sends : (w.markQuiet j cause).vd.transit = w.vd.transit ∧ (w.markQuiet j cause).vd.outs = w.vd.outs := ⟨rfl, rfl⟩

theorem State.jGen_setFld (hi lo v : Nat) : (w.setFld (regJob j 0x14) hi lo v).jGen j = w.jGen j :=
  w.fld_setFld_ne (regJob_ne_of_offset (by decide)) ..

theorem State.job_markQuiet : (w.markQuiet j cause).job j = { w.job j with lastGen := some (w.jGen j), quietAt := w.ticks } := by
  unfold State.markQuiet
  dsimp only
  rw [State.job_setJob_same, State.jGen_setFld, State.jGen_setFld]
  rfl

theorem State.fld_markQuiet (off hi lo : Nat) : (w.markQuiet j cause).fld off hi lo
    = ((w.setFld (regJob j 0x14) 31 24 cause).setFld (regJob j 0x14) 1 0 3).fld off hi lo := State.fld_setJob ..

theorem State.jState_markQuiet : (w.markQuiet j cause).jState j = 3 := by
  rw [State.jState, State.fld_markQuiet, State.fld_setFld _ _ _ (by decide) (by decide)]
  rfl

theorem State.cause_markQuiet (small : cause < 256) : (w.markQuiet j cause).fld (regJob j 0x14) 31 24 = cause := by
  rw [State.fld_markQuiet, State.fld_setFld_disjoint _ _ _ (by decide) (by decide) (by decide) (.inl (by decide)),
    State.fld_setFld _ _ _ (by decide) (by decide)]
  exact Nat.mod_eq_of_lt small

end

theorem State.jobQuiet_leaves {s : State} {j cause : Nat} (run : s.jState j = 1) (small : cause < 256) (from_ : Option Nat) :
    LeftRun j cause from_ s (s.jobQuiet j cause from_) := by
  have aborts (p : Nat) (peer : p ∈ s.jPeers j) (other : some p ≠ from_) :
      (0, s.abortFor j p cause) ∈ (s.quietWork j cause from_).vd.transit :=
    s.quietWork_aborts j cause from_ _ (.inr ⟨p, peer, other, rfl⟩) (pkKind_pkHeader (by decide) ..)
  have outs : ∀ o ∈ (s.quietWork j cause from_).vd.outs, o.slot ≠ j := fun o listed => of_decide_eq_true (List.mem_filter.1 listed).2
  have gen : (s.quietWork j cause from_).jGen j = s.jGen j := rfl
  have ticks : (s.quietWork j cause from_).ticks = s.ticks := rfl
  rw [State.jobQuiet_eq run]
  generalize s.quietWork j cause from_ = w at aborts outs gen ticks
  obtain ⟨transit, waits⟩ := w.markQuiet_sends j cause
  have job := w.job_markQuiet j cause
  exact ⟨w.jState_markQuiet j cause, w.cause_markQuiet j cause small, by rw [job, gen], by rw [job, ticks],
    transit ▸ aborts, waits ▸ outs⟩

/-- Another slot that goes QUIET. -/
theorem State.jobQuiet_others (s : State) {i j : Nat} (other : i ≠ j) (cause : Nat) (from_ : Option Nat) :
    QuietFrame j s (s.jobQuiet i cause from_) := by
  by_cases run : s.jState i = 1
  · have aborts (x : Nat × List Byte) (listed : x ∈ s.vd.transit) := s.quietWork_aborts i cause from_ x (.inl listed)
    have outs : ∀ o ∈ (s.quietWork i cause from_).vd.outs, o ∈ s.vd.outs := fun o listed => (List.mem_filter.1 listed).1
    have regs : (s.quietWork i cause from_).regs = s.regs := rfl
    have job : (s.quietWork i cause from_).job j = s.job j := rfl
    rw [State.jobQuiet_eq run]
    generalize s.quietWork i cause from_ = w at aborts outs regs job
    obtain ⟨transit, waits⟩ := w.markQuiet_sends i cause
    refine ⟨fun o ho => ?_, ?_, waits ▸ outs, transit ▸ aborts⟩
    · have apart := regJob_ne (by decide : 0x14 < 0x80) ho other
      rw [State.markQuiet, State.reg_setJob, State.setFld_eq, State.reg_setReg_ne _ _ apart, State.setFld_eq,
        State.reg_setReg_ne _ _ apart, State.reg_of_regs regs]
    · rw [State.markQuiet, State.job_setJob_ne _ _ other.symm, State.job_setFld, State.job_setFld, job]
  · rw [State.jobQuiet_idle run]
    exact .refl j s

/-- The jobs of a context go QUIET behind a slot that has left RUN. -/
theorem State.quietJobs_others (s : State) {j : Nat} (left : s.jState j ≠ 1) (c cause : Nat) :
    QuietFrame j s (s.quietJobs c cause none) := by
  refine List.foldlRecOn (motive := QuietFrame j s) _ _ (.refl j s) fun t same i _ => ?_
  split
  · rename_i run
    have other : i ≠ j := by
      rintro rfl
      exact left (same.jState.symm.trans run.1)
    exact same.trans (t.jobQuiet_others other ..)
  · exact same

theorem State.jCtx_lt (s : State) (j : Nat) : s.jCtx j < 256 := s.fld_lt ..

/-- A job that aborts leaves RUN; its context aborts behind it (R452). -/
theorem State.jobAbort_leaves {s : State} {j cause : Nat} (run : s.jState j = 1) (small : cause < 256) (kind from_ : Option Nat) :
    LeftRun j cause from_ s (s.jobAbort j cause kind from_) := by
  have behind (u : State) (run : u.jState j = 1) :
      LeftRun j cause from_ u ((u.jobQuiet j cause from_).abortCtx (s.jCtx j) [] 5 2) := by
    have left := State.jobQuiet_leaves run small from_
    have idle : (u.jobQuiet j cause from_).jState j ≠ 1 := by rw [left.state]; decide
    exact (left.later (State.quietJobs_others _ idle ..)).later (.of_low (State.abortCtx_low _ (s.jCtx_lt j) 5 2))
  unfold State.jobAbort
  rw [if_neg (not_not_intro run)]
  cases kind with
  | none => exact behind s run
  | some k =>
    dsimp only
    have sent := s.send_low (jobSrc j) k (s.jOldest j) true [s.jCtx j]
    generalize s.send (jobSrc j) k (s.jOldest j) true [s.jCtx j] = u at sent
    have fld (o : Nat) (hi lo : Nat) : u.fld (regJob j o) hi lo = s.fld (regJob j o) hi lo := sent.fld (regJob_above ..) ..
    have reg (o : Nat) : u.reg (regJob j o) = s.reg (regJob j o) := sent.reg _ (regJob_above ..)
    have left := behind u ((fld ..).trans run)
    have gen : u.jGen j = s.jGen j := fld ..
    have peer (p : Nat) : u.jPeer j p = s.jPeer j p := congrArg BitVec.toNat (reg _)
    have peers : u.jPeers j = s.jPeers j := by simp only [State.jPeers, peer]
    have pid : u.pid = s.pid := sent.fld (Nat.le_refl _) ..
    have oldest : u.jOldest j = s.jOldest j := congrArg BitVec.toNat (reg _)
    have id : u.jId j = s.jId j := fld ..
    refine { left with lastGen := gen ▸ left.lastGen, quietAt := sent.ticks ▸ left.quietAt, aborts := fun p listed other => ?_ }
    have := left.aborts p (peers ▸ listed) other
    rwa [State.abortFor, State.jPid, peer, pid, gen, id, oldest] at this

end Sys2Proof.Machine
end

section
/-! PROOFS. Remote writes (O34): the packets that arrive by their kind, a WRITE by Table 15.5, and what becomes of a sent WRITE. -/

namespace Sys2Proof.Machine

/-! ### What a packet names -/

section
variable {s : State} {b : List Byte} {j p : Nat}

theorem State.jobFor_some (found : s.jobFor b = some j) : s.jState j = 1 ∧ s.jId j = pkJob b ∧ s.jGen j = pkGen b :=
  of_decide_eq_true (List.find?_some (p := fun i => decide (s.jState i = 1 ∧ s.jId i = pkJob b ∧ s.jGen i = pkGen b)) found)

theorem State.peerOf_some {pid : Nat} (found : s.peerOf j pid = some p) : p ∈ s.jPeers j ∧ s.jPid j p = pid :=
  ⟨List.mem_of_find?_eq_some found, of_decide_eq_true (List.find?_some (p := fun q => decide (s.jPid j q = pid)) found)⟩

/-- The registers of the Viaduct and above. -/
def SameAbove (s t : State) : Prop := ∀ off, regVd 0 ≤ off → t.reg off = s.reg off

section
variable {t : State} (same : SameAbove s t)
include same

theorem SameAbove.fld (o hi lo : Nat) : t.fld (regJob j o) hi lo = s.fld (regJob j o) hi lo := by
  rw [State.fld, same _ (regJob_above ..), State.fld]

theorem SameAbove.jPeer (p : Nat) : t.jPeer j p = s.jPeer j p := congrArg BitVec.toNat (same _ (regJob_above ..))

theorem SameAbove.jSend (p kind epoch att aux msg : Nat) : t.jSend j p kind epoch att aux msg = t.inject 0
    (pkHeader (s.jPid j p) s.pid kind (s.jGen j) (s.jId j) epoch att aux 0 msg 0 0 0 0) := by
  have pid : t.pid = s.pid := by rw [State.pid, State.fld, same _ (Nat.le_refl _), State.pid, State.fld]
  rw [State.jSend, State.jPid, same.jPeer, ← State.jPid, pid, State.jGen, same.fld, ← State.jGen, State.jId, same.fld, ← State.jId]

end

/-- The reply to a WRITE, by its sender's address. -/
def State.replyTo (s : State) (b : List Byte) (kind cause : Nat) : List Byte :=
  pkHeader (pkSrc b) s.pid kind (pkGen b) (pkJob b) (pkEpoch b) (pkAtt b) cause 0 (pkMsg b) 0 0 0 0

theorem State.jSend_reply {t : State} (same : SameAbove s t) (job : s.jobFor b = some j) (peer : s.peerOf j (pkSrc b) = some p) :
    t.jSend j p 2 (pkEpoch b) (pkAtt b) 0 (pkMsg b) = t.inject 0 (s.replyTo b 2 0) := by
  obtain ⟨-, id, gen⟩ := State.jobFor_some job
  rw [same.jSend, (State.peerOf_some peer).2, id, gen, State.replyTo]

/-! ### Packets that arrive (log entry 23) -/

theorem State.jStale_leaves (s : State) (j : Nat) :
    (s.jStale j).fld (regJob j 0x1C) 15 0 = min (s.fld (regJob j 0x1C) 15 0 + 1) 65535 ∧ (s.jStale j).vd = s.vd
      ∧ (s.jStale j).mem = s.mem ∧ (s.jStale j).clusters = s.clusters := by
  refine ⟨?_, State.sendLimited_keeps State.vd .., State.sendLimited_keeps State.mem .., State.sendLimited_keeps State.clusters ..⟩
  rw [State.jStale, State.fld_sendLimited, State.fld_bump _ _ _ (by decide) (by decide)]
  rfl

theorem State.arrive_bad (kind : Nat) (bad : pkBad b = true) : s.arrive kind b = s.vdProto := if_pos bad

theorem State.arrive_other {kind : Nat} (good : pkBad b = false) (other : pkKind b ≠ kind ∨ pkDst b ≠ s.pid) : s.arrive kind b = s := by
  rw [State.arrive, if_neg (by rw [good]; decide), if_neg (by omega)]

theorem State.arrive_own {kind : Nat} (good : pkBad b = false) (own : pkKind b = kind) (here : pkDst b = s.pid) :
    s.arrive kind b = s.gotPacket b := by
  rw [State.arrive, if_neg (by rw [good]; decide), if_pos ⟨own, here⟩]

/-- A packet of a slot that is not in RUN is stale, but for a WRITE to an idle slot of the job. -/
theorem State.gotPacket_stale (none' : s.jobFor b = none) (named : s.jobNamed b = some j)
    (idle : pkKind b = 1 → ∀ i, i < 16 → s.jState i = 0 → s.jId i ≠ pkJob b) : s.gotPacket b = s.jStale j := by
  have unsent : s.sentFor b = none := by rw [State.sentFor, none']
  unfold State.gotPacket
  split
  · rename_i write
    unfold State.gotWrite
    rw [none', named]
    dsimp only
    refine if_neg fun waits => ?_
    obtain ⟨i, listed, matches'⟩ := List.any_eq_true.1 waits
    obtain ⟨off, id⟩ := of_decide_eq_true matches'
    exact idle write i (List.mem_range.1 listed) off id
  · split
    · rw [State.gotWack, unsent, none', named]
    · split
      · rw [State.gotWnak, unsent, none', named]
      · split
        · rw [State.gotConfirm, none', named]
        · split
          · rw [State.gotRetract, none', named]
          · rw [State.gotAbort, none', named]

/-! ### A WRITE (Table 15.5) -/

theorem State.gotPacket_write (kind : pkKind b = 1) : s.gotPacket b = s.gotWrite b := if_pos kind

theorem State.gotPacket_wack (kind : pkKind b = 2) : s.gotPacket b = s.gotWack b := by
  rw [State.gotPacket, kind]
  rfl

theorem State.gotPacket_wnak (kind : pkKind b = 3) : s.gotPacket b = s.gotWnak b := by
  rw [State.gotPacket, kind]
  rfl

theorem State.gotWrite_idle {i : Nat} (hi : i < 16) (none' : s.jobFor b = none) (idle : s.jState i = 0) (id : s.jId i = pkJob b) :
    s.gotWrite b = s.inject 0 (s.replyTo b 3 4) := by
  unfold State.gotWrite
  rw [none']
  exact if_pos (List.any_eq_true.2 ⟨i, List.mem_range.2 hi, decide_eq_true ⟨idle, id⟩⟩)

theorem State.gotWrite_run (job : s.jobFor b = some j) (peer : s.peerOf j (pkSrc b) = some p) : s.gotWrite b =
    let off := (pkEpoch b + 2 ^ 32 - s.jOldest j) % 2 ^ 32
    if (s.job j).done p (pkMsg b) then s.inject 0 (s.replyTo b 2 0)
    else if s.writeOk j b = false then s.inject 0 (s.replyTo b 3 2)
    else if 2 ^ 31 ≤ off then s.inject 0 (s.replyTo b 3 3)
    else if 1 < off then s.inject 0 (s.replyTo b 3 1)
    else if pkAtt b < s.jExp j (pkEpoch b) p then s.inject 0 (s.replyTo b 2 0)
    else (if s.jExp j (pkEpoch b) p < pkAtt b then s.retractFrom j (pkEpoch b) (pkAtt b - 1) p else s).takeWrite j p b := by
  have reply := State.jSend_reply (fun _ _ => rfl : SameAbove s s) job peer
  unfold State.gotWrite
  rw [job]
  dsimp only
  rw [peer]
  dsimp only
  rw [reply]
  simp only [Bool.not_eq_true']
  rfl

/-! ### A WRITE that is written -/

/-- Flags of stages are the clusters' alone. -/
theorem State.stageFlag_eq (s : State) (j epoch n : Nat) (on : Bool) : ∃ cl, s.stageFlag j epoch n on = { s with clusters := cl } := by
  unfold State.stageFlag
  generalize s.fld (regJob j 4) 25 20 + (epoch * s.jStg j + n) % 4 = e
  refine List.foldlRecOn (motive := fun t : State => ∃ cl : Table Cluster, t = { s with clusters := cl }) (upTo 64) _ ⟨s.clusters, rfl⟩ ?_
  rintro _ ⟨cl, rfl⟩ k -
  split
  · split <;> exact ⟨_, rfl⟩
  · exact ⟨cl, rfl⟩

/-- Setting the flags of stages changes the clusters and the slot's count of stages. -/
theorem State.stageFlags_eq (j n : Nat) (s : State) : ∃ cl slots,
    State.stageFlags j n s = { s with clusters := cl, vd := { s.vd with slots := slots } }
      ∧ ∃ k, slots.get j VdSlot.reset = { s.job j with stages := k } := by
  induction n generalizing s with
  | zero => exact ⟨s.clusters, s.vd.slots, rfl, (s.job j).stages, rfl⟩
  | succ n ih =>
    unfold State.stageFlags
    dsimp only
    split
    · obtain ⟨cl, flagged⟩ := s.stageFlag_eq j (s.jOldest j) (s.job j).stages true
      rw [flagged]
      obtain ⟨cl', slots, eq, k, kept⟩ := ih (({ s with clusters := cl } : State).setJob j { s.job j with stages := (s.job j).stages + 1 })
      refine ⟨cl', slots, eq, k, ?_⟩
      rw [kept, State.job_setJob_same]
    · exact ⟨s.clusters, s.vd.slots, rfl, (s.job j).stages, rfl⟩

/-- Noting numbers loses none of them. -/
theorem rxNote_keeps (fuel n x : Nat) (m : List Nat) (noted : x < n ∨ x ∈ m) : x < (rxNote fuel n m).1 ∨ x ∈ (rxNote fuel n m).2 := by
  induction fuel generalizing n m with
  | zero => exact noted
  | succ fuel ih =>
    unfold rxNote
    split
    · refine ih (n + 1) _ ?_
      rcases noted with below | listed
      · exact .inl (by omega)
      · by_cases last : x = n
        · exact .inl (by omega)
        · exact .inr (List.mem_filter.2 ⟨listed, decide_eq_true last⟩)
    · exact noted

/-- A slot that notes a number from a peer, and the end of a delivery. -/
def VdSlot.note (x : VdSlot) (p : Nat) (b : List Byte) : VdSlot :=
  let r := rxNote 65 (x.rxNo.get p 0) (pkMsg b :: x.rxMap.get p [])
  let l : List VdLast := if bitOf (pkFlags b) 0 then [⟨p, pkEpoch b, pkDidx b, pkMsg b⟩] else []
  { x with rxNo := x.rxNo.set p r.1, rxMap := x.rxMap.set p r.2, lasts := x.lasts ++ l }

theorem VdSlot.done_note (x : VdSlot) (p : Nat) (b : List Byte) : (x.note p b).done p (pkMsg b) = true := by
  have noted := rxNote_keeps 65 (x.rxNo.get p 0) (pkMsg b) (pkMsg b :: x.rxMap.get p []) (.inr List.mem_cons_self)
  simpa only [VdSlot.done, VdSlot.note, Table.get_set_same, Bool.or_eq_true, decide_eq_true_iff, List.contains_iff_mem] using noted

/-- The bytes of a WRITE with their poison. -/
def writeBytes (b : List Byte) : List (Byte × Bool) :=
  (((b.drop 32).take (pkLen b)).zip (upTo (pkLen b))).map (fun e =>
    (e.1, bitOf (pkFlags b) 2 && bitOf ((b.drop (32 + pkLen b)).getD (e.2 / 64) 0).toNat (e.2 / 8 % 8)))

theorem State.takeWrite_leaves (job : s.jobFor b = some j) (peer : s.peerOf j (pkSrc b) = some p)
    (may : bitOf (pkFlags b) 1 = true ∨ s.calRefuses (pkAddr b) (pkLen b) true = false) :
    let t := s.takeWrite j p b
    t.mem = (s.writeFor (s.jCtx j) (if bitOf (pkFlags b) 1 then 2 else 0) (pkAddr b) (writeBytes b)).mem
      ∧ (t.job j).done p (pkMsg b) = true ∧ t.vd.transit = s.vd.transit ++ [(0, s.replyTo b 2 0)] ∧ t.vd.outs = s.vd.outs := by
  have accepted : ¬ (decide ((if bitOf (pkFlags b) 1 then 2 else 0) = 0) && s.calRefuses (pkAddr b) (pkLen b) true) = true := by
    rcases may with hub | free
    · rw [hub, if_pos rfl, decide_eq_false (by decide), Bool.false_and]
      decide
    · rw [free, Bool.and_false]
      decide
  have run : s.takeWrite j p b =
      let v := s.writeFor (s.jCtx j) (if bitOf (pkFlags b) 1 then 2 else 0) (pkAddr b) (writeBytes b)
      State.stageFlags j 64 ((v.setJob j ((v.job j).note p b)).jSend j p 2 (pkEpoch b) (pkAtt b) 0 (pkMsg b)) := if_neg accepted
  have low := s.writeFor_low (s.jCtx j) (if bitOf (pkFlags b) 1 then 2 else 0) (pkAddr b) (writeBytes b)
  dsimp only
  rw [run]
  generalize s.writeFor (s.jCtx j) (if bitOf (pkFlags b) 1 then 2 else 0) (pkAddr b) (writeBytes b) = v at low
  dsimp only
  rw [State.jSend_reply (fun off above => (State.reg_setJob ..).trans (low.reg off above)) job peer]
  obtain ⟨cl, slots, eq, k, kept⟩ := State.stageFlags_eq j 64 ((v.setJob j ((v.job j).note p b)).inject 0 (s.replyTo b 2 0))
  have noted : ((v.setJob j ((v.job j).note p b)).inject 0 (s.replyTo b 2 0)).job j = (v.job j).note p b := v.job_setJob_same j _
  rw [eq]
  have waits : ((v.setJob j ((v.job j).note p b)).inject 0 (s.replyTo b 2 0)).vd.transit = v.vd.transit ++ [(0, s.replyTo b 2 0)] := rfl
  have outs : ((v.setJob j ((v.job j).note p b)).inject 0 (s.replyTo b 2 0)).vd.outs = v.vd.outs := rfl
  refine ⟨rfl, ?_, by rw [waits, low.vd], by rw [outs, low.vd]⟩
  change (slots.get j VdSlot.reset).done p (pkMsg b) = true
  rw [kept, noted]
  exact (v.job j).done_note p b

/-! ### A sent WRITE (R442) -/

/-- A WACK ends the wait of a WRITE; the copy lands with its last one. -/
theorem State.acked_leaves (o : VdSent) :
    (s.acked o).vd.outs = s.vd.outs.filter (fun y => ¬ (y.slot = o.slot ∧ y.peer = o.peer ∧ y.msg = o.msg))
      ∧ (s.acked o).vd.transit = s.vd.transit ∧ (s.acked o).net = s.net ∧ (s.acked o).mem = s.mem ∧ (s.acked o).regs = s.regs := by
  unfold State.acked
  dsimp only
  split
  · exact ⟨rfl, rfl, rfl, rfl, rfl⟩
  · split
    · exact ⟨rfl, rfl, rfl, rfl, rfl⟩
    · exact ⟨rfl, rfl, rfl, rfl, rfl⟩

theorem State.gotWack_sent {o : VdSent} (sent : s.sentFor b = some o) : s.gotWack b = s.acked o := by rw [State.gotWack, sent]

theorem State.gotWnak_again {o : VdSent} (sent : s.sentFor b = some o) (again : pkAux b = 1 ∨ pkAux b = 4) : s.gotWnak b =
    { s with vd := { s.vd with outs := s.vd.outs.map (fun y =>
      if y.slot = o.slot ∧ y.peer = o.peer ∧ y.msg = o.msg then { y with wnakAt := some s.ticks } else y) } } := by
  rw [State.gotWnak, sent]
  exact if_pos again

theorem State.gotWnak_aborts {o : VdSent} (sent : s.sentFor b = some o) (aborts : pkAux b = 2 ∨ pkAux b = 3) :
    s.gotWnak b = s.jobAbort o.slot (if pkAux b = 2 then 6 else 7) (some (if pkAux b = 2 then 0x81 else 0x82)) none := by
  rw [State.gotWnak, sent]
  rcases aborts with two | three
  · rw [two]
    rfl
  · rw [three]
    rfl

end

/-! ### Timers of a sent WRITE (R442) -/

section
variable {s : State} {j p msg : Nat}

theorem doRtoExpiry_none (none' : ∀ o ∈ s.vd.outs, ¬ (o.slot = j ∧ o.peer = p ∧ o.msg = msg)) : doRtoExpiry j p msg s = s := by
  have unsent : s.vd.outs.find? (fun o => decide (o.slot = j ∧ o.peer = p ∧ o.msg = msg)) = none :=
    List.find?_eq_none.2 fun o listed => by rw [decide_eq_true_iff]; exact none' o listed
  rw [doRtoExpiry, unsent]

theorem doWnakResend_none (none' : ∀ o ∈ s.vd.outs, ¬ (o.slot = j ∧ o.peer = p ∧ o.msg = msg)) : doWnakResend j p msg s = s := by
  have unsent : s.vd.outs.find? (fun o => decide (o.slot = j ∧ o.peer = p ∧ o.msg = msg)) = none :=
    List.find?_eq_none.2 fun o listed => by rw [decide_eq_true_iff]; exact none' o listed
  rw [doWnakResend, unsent]

variable {o : VdSent} (sent : s.vd.outs.find? (fun o => decide (o.slot = j ∧ o.peer = p ∧ o.msg = msg)) = some o)
include sent

theorem State.resend_sent (n : Nat) : s.resend o n = { s with vd := { s.vd with
    outs := s.vd.outs.map (fun y =>
      if y.slot = j ∧ y.peer = p ∧ y.msg = msg then { y with sends := n, sentAt := s.ticks, wnakAt := none } else y),
    transit := s.vd.transit ++ [(1, o.packet)] } } := by
  obtain ⟨rfl, rfl, rfl⟩ :=
    of_decide_eq_true (List.find?_some (p := fun o : VdSent => decide (o.slot = j ∧ o.peer = p ∧ o.msg = msg)) sent)
  rfl

theorem doRtoExpiry_sent (waits : o.wnakAt = none) : doRtoExpiry j p msg s =
    if s.ticks < o.sentAt + 500 * min 200 (max 10 (s.fld (regVd 4) 7 0)) then s
    else if o.sends < 4 then s.resend o (o.sends + 1)
    else s.jobAbort j 5 (some 0x80) none := by
  rw [doRtoExpiry, sent]
  dsimp only
  rw [waits, State.rto]
  simp only [Option.isSome_none, Bool.false_eq_true, false_or]

theorem doWnakResend_sent {w : Nat} (refused : o.wnakAt = some w) (due : w + 5000 ≤ s.ticks) :
    doWnakResend j p msg s = s.resend o o.sends := by
  rw [doWnakResend, sent]
  dsimp only
  rw [refused]
  exact if_pos due

end

/-! ### The statement -/

/-- The commands of the packets of a job, each with its kind. -/
theorem exec_arrival {b : List Byte} (hb : b.length < 2 ^ 16) (s : State) {c : Instr} {k : Nat}
    (listed : (c, k) ∈ [(Instr.writePacket b, 1), (.wack b, 2), (.wnak b, 3), (.confirm b, 4), (.retract b none, 5), (.abortMessage b, 6)]) :
    exec c s = .next (s.arrive k b) := by
  have long : below (2 ^ 16) b.length = true := decide_eq_true hb
  simp only [List.mem_cons, Prod.mk.injEq, List.not_mem_nil, or_false] at listed
  rcases listed with ⟨rfl, rfl⟩ | ⟨rfl, rfl⟩ | ⟨rfl, rfl⟩ | ⟨rfl, rfl⟩ | ⟨rfl, rfl⟩ | ⟨rfl, rfl⟩
  · exact exec_writePacket long
  · exact exec_wack long
  · exact exec_wnak long
  · exact exec_confirm long
  · exact exec_retract (Bool.and_eq_true_iff.2 ⟨long, rfl⟩)
  · exact exec_abortMessage long

/-- Settles O34: each packet by its kind, a WRITE by the rows of Table 15.5 in their order, a sent WRITE by its timers. -/
theorem viaductWrites : Obligations.ViaductWrites := by
  unfold Obligations.ViaductWrites
  intro s b hb
  have write : exec (.writePacket b) s = .next (s.arrive 1 b) := exec_writePacket (decide_eq_true hb)
  refine ⟨fun c k listed => ?_, fun good kind here => ?_, fun o good here sent => ?_, fun j p msg hj hp hm none' => ?_,
    fun j p msg o hj hp hm sent => ?_⟩
  · have run := exec_arrival hb s listed
    refine ⟨fun bad => ⟨_, run, ?_⟩, fun good other => run.trans (congrArg _ (State.arrive_other good other)),
      fun j good own here none' named idle => ⟨_, run, ?_⟩⟩
    · obtain ⟨vd, mem, clusters⟩ := s.vdProto_leaves
      rw [State.arrive_bad k bad]
      exact ⟨s.fld_vdProto, vd, mem, clusters⟩
    · rw [State.arrive_own good own here, State.gotPacket_stale none' named fun one => idle (own.symm.trans one)]
      exact s.jStale_leaves j
  · have taken : exec (.writePacket b) s = .next (s.gotWrite b) := by
      rw [write, State.arrive_own good kind here, State.gotPacket_write kind]
    refine ⟨fun i hi none' idle id => taken.trans (congrArg _ (State.gotWrite_idle hi none' idle id)), fun j p job peer => ?_⟩
    have row := State.gotWrite_run job peer
    dsimp only at row ⊢
    rw [taken, row]
    refine ⟨fun done => ?_, fun new out => ?_, fun new ok behind => ?_, fun new ok ahead near => ?_, fun new ok due low => ?_,
      fun new ok due high => ?_, fun new ok due expected may => ?_⟩
    · rw [if_pos done]
      rfl
    · rw [if_neg (by rw [new]; decide), if_pos out]
      rfl
    · rw [if_neg (by rw [new]; decide), if_neg (by rw [ok]; decide), if_pos behind]
      rfl
    · rw [if_neg (by rw [new]; decide), if_neg (by rw [ok]; decide), if_neg (by omega), if_pos ahead]
      rfl
    · rw [if_neg (by rw [new]; decide), if_neg (by rw [ok]; decide), if_neg (by omega), if_neg (by omega), if_pos low]
      rfl
    · rw [if_neg (by rw [new]; decide), if_neg (by rw [ok]; decide), if_neg (by omega), if_neg (by omega), if_neg (by omega),
        if_pos high]
    · rw [if_neg (by rw [new]; decide), if_neg (by rw [ok]; decide), if_neg (by omega), if_neg (by omega), if_neg (by omega),
        if_neg (by omega)]
      exact ⟨_, rfl, State.takeWrite_leaves job peer may⟩
  · have own {k : Nat} (kind : pkKind b = k) : s.arrive k b = s.gotPacket b := State.arrive_own good kind here
    refine ⟨fun kind => ⟨_, exec_wack (decide_eq_true hb), ?_⟩, fun kind again => ⟨_, exec_wnak (decide_eq_true hb), ?_⟩,
      fun kind aborts hj run => ⟨_, exec_wnak (decide_eq_true hb), ?_⟩⟩
    · rw [doWack, own kind, State.gotPacket_wack kind, State.gotWack_sent sent]
      exact State.acked_leaves o
    · rw [doWnak, own kind, State.gotPacket_wnak kind, State.gotWnak_again sent again]
      exact ⟨rfl, rfl, rfl, rfl, rfl, rfl⟩
    · rw [doWnak, own kind, State.gotPacket_wnak kind, State.gotWnak_aborts sent aborts]
      have left := State.jobAbort_leaves run (by split <;> decide : (if pkAux b = 2 then 6 else 7) < 256)
        (some (if pkAux b = 2 then 0x81 else 0x82)) none
      exact ⟨left.state, left.why, left.outs⟩
  · have named := Bool.and_eq_true_iff.2 ⟨below_and_below hj hp, decide_eq_true hm⟩
    exact ⟨(exec_rtoExpiry named).trans (congrArg _ (doRtoExpiry_none none')),
      (exec_wnakResend named).trans (congrArg _ (doWnakResend_none none'))⟩
  · have named := Bool.and_eq_true_iff.2 ⟨below_and_below hj hp, decide_eq_true hm⟩
    have expiry (waits : o.wnakAt = none) := (exec_rtoExpiry (s := s) named).trans (congrArg _ (doRtoExpiry_sent sent waits))
    refine ⟨fun waits early => (expiry waits).trans (congrArg _ (if_pos early)), fun waits late few => ?_,
      fun waits late many run => ⟨_, expiry waits, ?_⟩, fun w refused due => ?_⟩
    · rw [expiry waits, if_neg (Nat.not_lt.2 late), if_pos few, State.resend_sent sent]
    · rw [if_neg (Nat.not_lt.2 late), if_neg (by omega)]
      have left := State.jobAbort_leaves run (by decide : 5 < 256) (some 0x80) none
      exact ⟨left.state, left.why⟩
    · rw [exec_wnakResend named, doWnakResend_sent sent refused due, State.resend_sent sent]

end Sys2Proof.Machine
end

section
/-! PROOFS. Viaduct jobs (O35): ARM by its refusals, CONFIRM and RETRACT by the attempts that they name, a commit by the
CONFIRMs that it needs, and the ends of a job. -/

namespace Sys2Proof.Machine

/-! ### Lists without repetition -/

theorem length_eraseDups_le : ∀ l : List Nat, l.eraseDups.length ≤ l.length
  | [] => Nat.le_refl 0
  | a :: l => by
    have shorter := List.length_filter_le (fun b => !b == a) l
    have ih := length_eraseDups_le (l.filter (fun b => !b == a))
    rw [List.eraseDups_cons, List.length_cons, List.length_cons]
    omega
termination_by l => l.length
decreasing_by
  have := List.length_filter_le (fun b => !b == a) l
  rw [List.length_cons]
  omega

/-- Erasing repetitions keeps the length of a list without any. -/
theorem length_eraseDups_eq_iff (l : List Nat) : l.eraseDups.length = l.length ↔ l.Nodup := by
  induction l with
  | nil => exact ⟨fun _ => List.nodup_nil, fun _ => rfl⟩
  | cons a l ih =>
    have absent : l.filter (fun b => !b == a) = l ↔ a ∉ l := by
      rw [List.filter_eq_self]
      refine ⟨fun other listed => by simpa using other a listed, fun absent b listed => ?_⟩
      simpa using fun same : b = a => absent (same ▸ listed)
    have shorter := List.length_filter_le (fun b => !b == a) l
    have fewer := length_eraseDups_le (l.filter (fun b => !b == a))
    rw [List.eraseDups_cons, List.length_cons, List.length_cons, List.nodup_cons, ← ih, ← absent]
    constructor
    · intro same
      have all : l.filter (fun b => !b == a) = l := List.length_filter_eq_length_iff.1 (by omega) |> List.filter_eq_self.2
      rw [all] at same
      exact ⟨all, by omega⟩
    · rintro ⟨all, same⟩
      rw [all]
      omega

/-! ### ARM (R443) -/

section
variable (s : State) (j : Nat)

theorem State.jPeers_sorted : (s.jPeers j).Pairwise (· < ·) := List.pairwise_lt_range.filter _

/-- Two peers with one PID. -/
theorem State.twice_iff : ((s.jPeers j).map (fun p => s.jPid j p)).eraseDups.length ≠ (s.jPeers j).length
    ↔ ∃ p q, p ∈ s.jPeers j ∧ q ∈ s.jPeers j ∧ p < q ∧ s.jPid j p = s.jPid j q := by
  have sorted := s.jPeers_sorted j
  rw [← List.length_map (as := s.jPeers j) (fun p => s.jPid j p), Ne, length_eraseDups_eq_iff,
    List.nodup_map_iff_inj_on (sorted.imp fun h => Nat.ne_of_lt h)]
  push Not
  constructor
  · rintro ⟨p, hp, q, hq, same, other⟩
    rcases Nat.lt_or_gt_of_ne other with less | greater
    · exact ⟨p, q, hp, hq, less, same⟩
    · exact ⟨q, p, hq, hp, greater, same.symm⟩
  · rintro ⟨p, q, hp, hq, less, same⟩
    exact ⟨p, hp, q, hq, same, Nat.ne_of_lt less⟩

/-- What refuses an ARM, but for two peers with one PID. -/
def State.ArmBad : Prop :=
  s.ctxState (s.jCtx j) ≠ 1 ∨ (∃ i, i < 16 ∧ i ≠ j ∧ s.jState i ≠ 0 ∧ s.jId i = s.jId j) ∨ s.jPeers j = []
    ∨ (s.jWave j = true ∧ ∃ p, p ∈ s.jPeers j ∧ (bitOf (s.jPeer j p) 30 = false ∨ bitOf (s.jPeer j p) 29 = false))
    ∨ (s.job j).lastGen = some (s.jGen j) ∨ 63 < s.fld (regJob j 4) 25 20 + 3 ∨ s.jState j = 3 ∨ s.jState j = 1

theorem State.armBad_iff : s.armBad j = true ↔
    s.ArmBad j ∨ ∃ p q, p ∈ s.jPeers j ∧ q ∈ s.jPeers j ∧ p < q ∧ s.jPid j p = s.jPid j q := by
  have twice := s.twice_iff j
  have others : (upTo 16).any (fun i => decide (i ≠ j ∧ s.jState i ≠ 0 ∧ s.jId i = s.jId j)) = true
      ↔ ∃ i, i < 16 ∧ i ≠ j ∧ s.jState i ≠ 0 ∧ s.jId i = s.jId j := by
    simp only [List.any_eq_true, upTo, List.mem_range, decide_eq_true_iff]
  have oneWay : (s.jPeers j).any (fun p => !(bitOf (s.jPeer j p) 30 && bitOf (s.jPeer j p) 29)) = true
      ↔ ∃ p, p ∈ s.jPeers j ∧ (bitOf (s.jPeer j p) 30 = false ∨ bitOf (s.jPeer j p) 29 = false) := by
    simp only [List.any_eq_true, Bool.not_eq_true', Bool.and_eq_false_iff]
  unfold State.armBad State.ArmBad
  simp only [Bool.or_eq_true, Bool.and_eq_true, decide_eq_true_iff, List.isEmpty_iff, others, oneWay, twice]
  exact Iff.of_eq (by ac_rfl)

theorem doArm_refused (bad : s.armBad j = true) : doArm j s = s.send (jobSrc j) 0x86 0 true [s.jCtx j] := if_pos bad

/-- A slot that starts in RUN. -/
def VdSlot.armed (x : VdSlot) (now : Nat) : VdSlot := { VdSlot.reset with lastGen := x.lastGen, since := now }

theorem doArm_eq (good : s.armBad j = false) : doArm j s =
    (((s.setJob j ((s.job j).armed s.ticks)).setReg (regJob j 0x18) (s.reg (regJob j 8))).setReg (regJob j 0x14) 1).setReg
      (regJob j 0x1C) 0 := by
  rw [← s.reg_setJob j ((s.job j).armed s.ticks) (regJob j 8)]
  exact if_neg (by rw [good]; decide)

theorem State.job_setReg (off : Nat) (v : Word32) : (s.setReg off v).job j = s.job j :=
  congrArg (fun vd : VdSt => vd.slots.get j VdSlot.reset) (s.setReg_vd ..)

theorem State.setJob_keeps (x : VdSlot) :
    (s.setJob j x).net = s.net ∧ (s.setJob j x).mem = s.mem ∧ (s.setJob j x).clusters = s.clusters := ⟨rfl, rfl, rfl⟩

theorem doArm_starts (good : s.armBad j = false) :
    (doArm j s).jState j = 1 ∧ (doArm j s).jOldest j = (s.reg (regJob j 8)).toNat ∧ (doArm j s).reg (regJob j 0x1C) = 0
      ∧ (doArm j s).job j = (s.job j).armed s.ticks ∧ (∀ i, i ≠ j → (doArm j s).job i = s.job i)
      ∧ (doArm j s).net = s.net ∧ (doArm j s).mem = s.mem ∧ (doArm j s).clusters = s.clusters := by
  have own := s.job_setJob_same j ((s.job j).armed s.ticks)
  have others (i : Nat) (other : i ≠ j) := s.job_setJob_ne ((s.job j).armed s.ticks) other
  obtain ⟨net, mem, clusters⟩ := s.setJob_keeps j ((s.job j).armed s.ticks)
  rw [doArm_eq s j good]
  generalize s.setJob j ((s.job j).armed s.ticks) = u at own others net mem clusters
  have apart {o o' : Nat} (h : o ≠ o') : regJob j o ≠ regJob j o' := regJob_ne_of_offset h
  refine ⟨?_, ?_, State.reg_setReg_same .., ?_, fun i other => ?_, ?_, ?_, ?_⟩
  · rw [State.jState, State.fld, State.reg_setReg_ne _ _ (apart (by decide)), State.reg_setReg_same]
    rfl
  · rw [State.jOldest, State.reg_setReg_ne _ _ (apart (by decide)), State.reg_setReg_ne _ _ (apart (by decide)),
      State.reg_setReg_same]
  · rw [State.job_setReg, State.job_setReg, State.job_setReg, own]
  · rw [State.job_setReg, State.job_setReg, State.job_setReg, others i other]
  · rw [State.setReg_net, State.setReg_net, State.setReg_net, net]
  · rw [State.setReg_mem, State.setReg_mem, State.setReg_mem, mem]
  · rw [State.setReg_clusters, State.setReg_clusters, State.setReg_clusters, clusters]

end

/-! ### RETRACT (R448, R449) -/

section
variable (s : State) (j : Nat)

/-- From s to t the registers, the Viaduct and the memory stayed. -/
def VdKept (s t : State) : Prop := t.regs = s.regs ∧ t.vd = s.vd ∧ t.mem = s.mem

/-- A retracted step waits for its re-run. -/
theorem State.retractStep_keeps (epoch : Nat) : VdKept s (s.retractStep j epoch) := by
  unfold State.retractStep
  split
  · exact ⟨rfl, rfl, rfl⟩
  · dsimp only
    split
    · exact ⟨rfl, rfl, rfl⟩
    · split
      · exact ⟨rfl, rfl, rfl⟩
      · exact ⟨rfl, rfl, rfl⟩

/-- The flags of the stages of OLDEST go where it is retracted. -/
def State.unflag (epoch : Nat) : State :=
  if epoch = s.jOldest j then (upTo (s.job j).stages).foldl (fun (u : State) n => u.stageFlag j epoch n false) s else s

theorem State.unflag_keeps (epoch : Nat) : VdKept s (s.unflag j epoch) := by
  unfold State.unflag
  split
  · refine List.foldlRecOn (motive := VdKept s) _ _ ⟨rfl, rfl, rfl⟩ fun t kept n _ => ?_
    obtain ⟨cl, eq⟩ := t.stageFlag_eq j epoch n false
    rw [eq]
    exact kept
  · exact ⟨rfl, rfl, rfl⟩

/-- The RETRACT that a slot sends to a peer. -/
def State.retractFor (p epoch att : Nat) : List Byte :=
  pkHeader (s.jPid j p) s.pid 5 (s.jGen j) (s.jId j) epoch att 0 0 0 0 0 0 0

/-- The slot of a retracted epoch. -/
def VdSlot.retracted (x : VdSlot) (epoch oldest att : Nat) : VdSlot :=
  { x with
    outAtt := x.outAtt.set epoch att, lasts := x.lasts.filter (fun l => decide (l.epoch ≠ epoch)),
    stages := if epoch = oldest then 0 else x.stages, passed := if epoch = oldest then false else x.passed,
    rounds := if epoch = oldest then 0 else x.rounds,
    sent := ⟨x.sent.rows.filter (fun e => decide (e.1 / 8 ≠ epoch))⟩ }

theorem State.retractCore_eq (epoch old att : Nat) (peers : List Nat) : s.retractCore j epoch old att peers =
    let u := { s with vd := { s.vd with transit := s.vd.transit ++ peers.map (fun p => (0, s.retractFor j p epoch old)) } }
    let v := u.unflag j epoch
    let w := ((v.setJob j ((v.job j).retracted epoch (v.jOldest j) att)).retractStep j epoch).bump (regJob j 0x1C) 31 16 1
    (w.jShow j).send (jobSrc j) 0x7F epoch true [w.jCtx j] := by
  rw [← State.foldl_inject (fun u p => u.retractFor j p epoch old) (fun _ _ _ => rfl) peers s]
  rfl

/-- What a slot has after it retracted an epoch. -/
structure Retracted (j epoch old att : Nat) (peers : List Nat) (s t : State) : Prop where
  expAtt : (t.job j).expAtt = (s.job j).expAtt
  outAtt : t.jOut j epoch = att
  count : t.fld (regJob j 0x1C) 31 16 = min (s.fld (regJob j 0x1C) 31 16 + 1) 65535
  transit : t.vd.transit = s.vd.transit ++ peers.map (fun p => (0, s.retractFor j p epoch old))
  mem : t.mem = s.mem

theorem State.jShow_leaves (w : State) : (w.jShow j).vd = w.vd ∧ (w.jShow j).mem = w.mem
    ∧ ∀ o hi lo, o ≠ 0x14 → (w.jShow j).fld (regJob j o) hi lo = w.fld (regJob j o) hi lo :=
  ⟨w.setReg_vd .., w.setReg_mem .., fun _ _ _ other => w.fld_setFld_ne (regJob_ne_of_offset other.symm) ..⟩

theorem State.retractCore_leaves (epoch old att : Nat) (peers : List Nat) :
    Retracted j epoch old att peers s (s.retractCore j epoch old att peers) := by
  rw [State.retractCore_eq]
  dsimp only
  have first : ({ s with vd := { s.vd with transit := s.vd.transit ++ peers.map (fun p => (0, s.retractFor j p epoch old)) } } : State).regs
      = s.regs := rfl
  have job : ({ s with vd := { s.vd with transit := s.vd.transit ++ peers.map (fun p => (0, s.retractFor j p epoch old)) } } : State).job j
      = s.job j := rfl
  have waits : ({ s with vd := { s.vd with transit := s.vd.transit ++ peers.map (fun p => (0, s.retractFor j p epoch old)) } } : State).vd.transit
      = s.vd.transit ++ peers.map (fun p => (0, s.retractFor j p epoch old)) := rfl
  have mem : ({ s with vd := { s.vd with transit := s.vd.transit ++ peers.map (fun p => (0, s.retractFor j p epoch old)) } } : State).mem
      = s.mem := rfl
  generalize ({ s with vd := { s.vd with transit := s.vd.transit ++ peers.map (fun p => (0, s.retractFor j p epoch old)) } } : State)
    = u at first job waits mem
  obtain ⟨regs', vd', mem'⟩ := u.unflag_keeps j epoch
  generalize u.unflag j epoch = v at regs' vd' mem'
  have jobV : v.job j = s.job j := by rw [State.job, vd', ← State.job, job]
  have slot := v.job_setJob_same j ((v.job j).retracted epoch (v.jOldest j) att)
  have transitX : (v.setJob j ((v.job j).retracted epoch (v.jOldest j) att)).vd.transit = v.vd.transit := rfl
  have regsX : (v.setJob j ((v.job j).retracted epoch (v.jOldest j) att)).regs = v.regs := rfl
  obtain ⟨-, memX, -⟩ := v.setJob_keeps j ((v.job j).retracted epoch (v.jOldest j) att)
  generalize v.setJob j ((v.job j).retracted epoch (v.jOldest j) att) = x at slot transitX regsX memX
  obtain ⟨regsY, vdY, memY⟩ := x.retractStep_keeps j epoch
  generalize x.retractStep j epoch = y at regsY vdY memY
  obtain ⟨vdShow, memShow, fldShow⟩ := (y.bump (regJob j 0x1C) 31 16 1).jShow_leaves j
  have vd : (((y.bump (regJob j 0x1C) 31 16 1).jShow j).send (jobSrc j) 0x7F epoch true [(y.bump (regJob j 0x1C) 31 16 1).jCtx j]).vd
      = x.vd := by rw [State.send_vd, vdShow, State.bump, State.setFld_eq, State.setReg_vd, vdY]
  have slot' : (((y.bump (regJob j 0x1C) 31 16 1).jShow j).send (jobSrc j) 0x7F epoch true [(y.bump (regJob j 0x1C) 31 16 1).jCtx j]).job j
      = (s.job j).retracted epoch (v.jOldest j) att := by rw [State.job, vd, ← State.job, slot, jobV]
  constructor
  · rw [slot', VdSlot.retracted]
  · rw [State.jOut, slot', VdSlot.retracted]
    exact Table.get_set_same ..
  · rw [State.fld_send, fldShow _ _ _ (by decide), State.fld_bump _ _ _ (by decide) (by decide),
      State.fld_of_regs (regsY.trans (regsX.trans (regs'.trans first)))]
    rfl
  · rw [vd, transitX, vd', waits]
  · rw [State.send_mem, memShow, State.bump, State.setFld_eq, State.setReg_mem, memY, memX, mem', mem]

/-- Setting one value at the keys of a list. -/
theorem get_foldl_set (k : Nat → Nat) (v : Nat) {q : Nat} (l : List Nat) (tab : Table Nat) (set' : q ∈ l ∨ tab.get (k q) 0 = v) :
    (l.foldl (fun (t : Table Nat) q => t.set (k q) v) tab).get (k q) 0 = v := by
  induction l generalizing tab with
  | nil => exact set'.resolve_left List.not_mem_nil
  | cons x l ih =>
    refine ih _ ?_
    rw [Table.get_set]
    rcases set' with listed | was
    · rcases List.mem_cons.1 listed with rfl | later
      · exact .inr (if_pos rfl)
      · exact .inl later
    · right
      split
      · rfl
      · exact was

section
variable (epoch a p : Nat)

/-- The attempts that a slot expects once it has a RETRACT, in CHAIN mode of one peer and in WAVE mode of all. -/
def VdSlot.expects (x : VdSlot) (tab : Table Nat) : VdSlot := { x with expAtt := tab }

theorem State.retractFrom_chain (chain : s.jWave j = false) : s.retractFrom j epoch a p =
    (s.setJob j ((s.job j).expects ((s.job j).expAtt.set (epoch * 8 + p) (a + 1)))).retractCore j epoch (s.jOut j epoch)
      (s.jOut j epoch + 1) (s.jDns j) := by
  have same : (s.setJob j ((s.job j).expects ((s.job j).expAtt.set (epoch * 8 + p) (a + 1)))).jOut j epoch = s.jOut j epoch := by
    rw [State.jOut, State.job_setJob_same]
    rfl
  rw [← same]
  exact if_neg (by rw [chain]; decide)

theorem State.retractFrom_wave (wave : s.jWave j = true) : s.retractFrom j epoch a p =
    (s.setJob j ((s.job j).expects ((s.jPeers j).foldl (fun (t : Table Nat) q => t.set (epoch * 8 + q) (a + 1)) (s.job j).expAtt))).retractCore
      j epoch a (a + 1) ((s.jPeers j).filter (fun q => q ≠ p)) := if_pos wave

/-- A slot whose expected attempts change sends what it sent. -/
theorem State.expects_retracts {t : State} {tab : Table Nat} {old att : Nat} {peers : List Nat}
    (h : Retracted j epoch old att peers (s.setJob j ((s.job j).expects tab)) t) :
    (t.job j).expAtt = tab ∧ t.jOut j epoch = att ∧ t.fld (regJob j 0x1C) 31 16 = min (s.fld (regJob j 0x1C) 31 16 + 1) 65535
      ∧ t.vd.transit = s.vd.transit ++ peers.map (fun p => (0, s.retractFor j p epoch old)) ∧ t.mem = s.mem := by
  refine ⟨?_, h.outAtt, ?_, h.transit, h.mem⟩
  · rw [h.expAtt, State.job_setJob_same]
    rfl
  · rw [h.count, State.fld_setJob]

end
end

/-! ### CONFIRM and RETRACT that arrive -/

section
variable {s : State} {b : List Byte} {j p : Nat}

/-- Is a CONFIRM or RETRACT of an attempt below the expected one or of a committed epoch? -/
def State.OldPacket (s : State) (b : List Byte) (j p : Nat) : Prop :=
  pkAtt b < s.jExp j (pkEpoch b) p ∨ 2 ^ 31 ≤ (pkEpoch b + 2 ^ 32 - s.jOldest j) % 2 ^ 32

variable (job : s.jobFor b = some j) (peer : s.peerOf j (pkSrc b) = some p)
include job

theorem State.gotPacket_abort (kind : pkKind b = 6) : s.gotPacket b = s.jobAbort j 3 (some 0x85) (s.peerOf j (pkSrc b)) := by
  have run : s.gotPacket b = s.gotAbort b := by
    rw [State.gotPacket, kind]
    rfl
  rw [run, State.gotAbort, job]

include peer

theorem State.gotPacket_old (kind : pkKind b = 4 ∨ pkKind b = 5) (old : s.OldPacket b j p) : s.gotPacket b = s.jStale j := by
  unfold State.gotPacket
  rcases kind with four | five
  · rw [if_neg (by omega), if_neg (by omega), if_neg (by omega), if_pos four, State.gotConfirm, job]
    dsimp only
    rw [peer]
    exact if_pos old
  · rw [if_neg (by omega), if_neg (by omega), if_neg (by omega), if_neg (by omega), if_pos five, State.gotRetract, job]
    dsimp only
    rw [peer]
    exact if_pos old

theorem State.gotPacket_confirm (kind : pkKind b = 4) (new : ¬ s.OldPacket b j p) : s.gotPacket b =
    let c : VdConf := ⟨p, pkEpoch b, pkAtt b, pkAux b⟩
    let x := s.job j
    (s.setJob j { x with confs := if x.confs.contains c then x.confs else x.confs ++ [c] }).tryCommit j := by
  unfold State.gotPacket
  rw [if_neg (by omega), if_neg (by omega), if_neg (by omega), if_pos kind, State.gotConfirm, job]
  dsimp only
  rw [peer]
  exact if_neg new

theorem State.gotPacket_retract (kind : pkKind b = 5) (new : ¬ s.OldPacket b j p) :
    s.gotPacket b = s.retractFrom j (pkEpoch b) (pkAtt b) p := by
  unfold State.gotPacket
  rw [if_neg (by omega), if_neg (by omega), if_neg (by omega), if_neg (by omega), if_pos kind, State.gotRetract, job]
  dsimp only
  rw [peer]
  exact if_neg new

end

/-! ### A commit (R447, R450) -/

section
variable (s : State) (j : Nat)

theorem State.tryCommit_idle (idle : s.jState j ≠ 1 ∨ (s.job j).passed = false) : s.tryCommit j = s := if_pos idle

theorem State.tryCommit_chain (run : s.jState j = 1) (passed : (s.job j).passed = true) (chain : s.jWave j = false) :
    s.tryCommit j = if (s.jUps j).all (fun p => s.confHeld j p 0) then s.commit j else s := by
  rw [State.tryCommit, if_neg (by rw [passed]; simp [run]), if_neg (by rw [chain]; decide)]

theorem State.confHeld_iff (p : Nat) : s.confHeld j p 0 = true ↔ ∃ c, c ∈ (s.job j).confs ∧ c.peer = p ∧ c.epoch = s.jOldest j
    ∧ c.att = s.jExp j (s.jOldest j) p ∧ c.round = 0 := by
  simp only [State.confHeld, List.any_eq_true, decide_eq_true_iff]

/-- The CONFIRM that a slot sends to a peer. -/
def State.confirmFor (p : Nat) : List Byte :=
  pkHeader (s.jPid j p) s.pid 4 (s.jGen j) (s.jId j) (s.jOldest j) (s.jOut j (s.jOldest j)) 0 0 0 0 0 0 0

/-- The slot once its epoch e is committed. -/
def VdSlot.committed (x : VdSlot) (e now : Nat) : VdSlot :=
  { x with
    stages := 0, passed := false, rounds := 0, since := now, confs := x.confs.filter (fun c => decide (c.epoch ≠ e)),
    lasts := x.lasts.filter (fun l => decide (l.epoch ≠ e)), expAtt := ⟨x.expAtt.rows.filter (fun y => decide (y.1 / 8 ≠ e))⟩,
    outAtt := x.outAtt.erase e, sent := ⟨x.sent.rows.filter (fun y => decide (y.1 / 8 ≠ e))⟩ }

/-- The ends of a slot's standing RUN that wait are finished. -/
def State.finishRun : State :=
  match s.jRun j with
  | none => s
  | some r => s.finishEnds r.ctx r.seq

theorem State.finishRun_low : LowFrame s (s.finishRun j) := by
  unfold State.finishRun
  split
  · exact .refl s
  · rename_i r found
    have mine := List.find?_some found
    simp only [Bool.and_eq_true, decide_eq_true_iff] at mine
    exact s.finishEnds_low (by rw [mine.1.1]; exact s.jCtx_lt j) _

theorem State.commit_eq (chain : s.jWave j = false) : s.commit j =
    let u := { s with vd := { s.vd with transit := s.vd.transit ++ (s.jDns j).map (fun p => (0, s.confirmFor j p)) } }
    let v := u.setReg (regJob j 0x18) (BitVec.ofNat 32 ((s.jOldest j + 1) % 2 ^ 32))
    (State.stageFlags j 64 ((v.setJob j ((v.job j).committed (s.jOldest j) v.ticks)).jShow j)).finishRun j := by
  have sent : (s.jDns j).foldl (fun (u : State) p => u.jSend j p 4 (s.jOldest j) (u.jOut j (s.jOldest j)) 0 0) s =
      { s with vd := { s.vd with transit := s.vd.transit ++ (s.jDns j).map (fun p => (0, s.confirmFor j p)) } } :=
    State.foldl_inject (fun u p => pkHeader (u.jPid j p) u.pid 4 (u.jGen j) (u.jId j) (s.jOldest j) (u.jOut j (s.jOldest j)) 0 0 0 0 0 0 0)
      (fun _ _ _ => rfl) (s.jDns j) s
  dsimp only
  rw [← sent]
  have off : ¬ s.jWave j = true := by rw [chain]; decide
  unfold State.commit
  dsimp only
  rw [if_neg off]
  rfl

theorem State.commit_leaves (chain : s.jWave j = false) : (s.commit j).jOldest j = (s.jOldest j + 1) % 2 ^ 32
    ∧ (s.commit j).vd.transit = s.vd.transit ++ (s.jDns j).map (fun p => (0, s.confirmFor j p)) := by
  rw [State.commit_eq s j chain]
  dsimp only
  generalize sends : s.vd.transit ++ (s.jDns j).map (fun p => (0, s.confirmFor j p)) = tr
  have waits : ({ s with vd := { s.vd with transit := tr } } : State).vd.transit = tr := rfl
  generalize ({ s with vd := { s.vd with transit := tr } } : State) = u at waits
  have oldest := State.reg_setReg_same u (regJob j 0x18) (BitVec.ofNat 32 ((s.jOldest j + 1) % 2 ^ 32))
  have vd := u.setReg_vd (regJob j 0x18) (BitVec.ofNat 32 ((s.jOldest j + 1) % 2 ^ 32))
  generalize u.setReg (regJob j 0x18) (BitVec.ofNat 32 ((s.jOldest j + 1) % 2 ^ 32)) = v at oldest vd
  have regX := v.reg_setJob j ((v.job j).committed (s.jOldest j) v.ticks) (regJob j 0x18)
  have transitX : (v.setJob j ((v.job j).committed (s.jOldest j) v.ticks)).vd.transit = v.vd.transit := rfl
  generalize v.setJob j ((v.job j).committed (s.jOldest j) v.ticks) = x at regX transitX
  obtain ⟨vdShow, -, -⟩ := x.jShow_leaves j
  have regShow : (x.jShow j).reg (regJob j 0x18) = x.reg (regJob j 0x18) := State.reg_setReg_ne _ _ (regJob_ne_of_offset (by decide))
  obtain ⟨cl, slots, eq, -⟩ := State.stageFlags_eq j 64 (x.jShow j)
  rw [eq]
  have regF : ({ x.jShow j with clusters := cl, vd := { (x.jShow j).vd with slots := slots } } : State).reg (regJob j 0x18)
      = (x.jShow j).reg (regJob j 0x18) := State.reg_of_regs rfl _
  have transitF : ({ x.jShow j with clusters := cl, vd := { (x.jShow j).vd with slots := slots } } : State).vd.transit
      = (x.jShow j).vd.transit := rfl
  generalize ({ x.jShow j with clusters := cl, vd := { (x.jShow j).vd with slots := slots } } : State) = y at regF transitF
  have low := y.finishRun_low j
  refine ⟨?_, ?_⟩
  · rw [State.jOldest, low.reg _ (regJob_above ..), regF, regShow, regX, oldest, BitVec.toNat_ofNat, Nat.mod_mod]
  · rw [low.vd, transitF, vdShow, transitX, vd, waits]

end

/-! ### Own checks, timeouts and the ends of a job (R446, R452) -/

section
variable {s t : State} {j : Nat}

theorem doOwnChecksAll_equal (run : s.jState j = 1) (equal : s.dupsEqual j (s.jOldest j) = (true, t)) :
    doOwnChecksAll j s = doOwnChecks j t := by
  rw [doOwnChecksAll, if_neg (not_not_intro run), equal]
  rfl

theorem doOwnChecks_idle (idle : (s.job j).passed = true ∨ s.checksHold j = false) : doOwnChecks j s = s := if_pos (.inr idle)

theorem doOwnChecks_passes (run : s.jState j = 1) (new : (s.job j).passed = false) (hold : s.checksHold j = true) :
    doOwnChecks j s = (s.setJob j { s.job j with passed := true }).tryCommit j :=
  if_neg (by rw [new, hold]; simp [run])

theorem doRetract_own (b : List Byte) {e : Nat} (run : s.jState j = 1) (unequal : s.dupsEqual j e = (false, t)) :
    doRetract b (some (j, e)) s = t.checksFail j e := by
  unfold doRetract
  dsimp only
  rw [if_neg (not_not_intro run), unequal]
  exact if_neg Bool.false_ne_true

theorem doEpochTimeout_run (run : s.jState j = 1) {r : RunRec} {x : Nat × Nat} (standing : s.jRun j = some r)
    (begun : r.begun.find? (fun x => decide (x.1 = s.stepOf j (s.jOldest j))) = some x) : doEpochTimeout j s =
    if max x.2 (s.job j).since + 50000 * max 1 (s.fld (regJob j 0xC) 31 16) ≤ s.ticks then s.jobAbort j 4 (some 0x83) none else s := by
  unfold doEpochTimeout
  rw [if_neg (not_not_intro run), standing]
  dsimp only
  rw [begun]

theorem doQuietExpiry_due (quiet : s.jState j = 3) (due : (s.job j).quietAt + ticksPerMs ≤ s.ticks) :
    doQuietExpiry j s = s.setFld (regJob j 0x14) 1 0 2 := if_pos ⟨quiet, due⟩

end

/-! ### The statement -/

/-- Settles O35: each command by the refusal, the attempt or the deadline that it turns on. -/
theorem viaductJobs : Obligations.ViaductJobs := by
  unfold Obligations.ViaductJobs
  intro s j hj
  have slot : below 16 j = true := decide_eq_true hj
  refine ⟨⟨fun bad => ?_, fun good once => ⟨_, exec_arm slot, ?_⟩⟩, fun b p hb good here job peer => ?_, fun u run passed chain => ?_,
    fun u => u.tryCommit_idle j, fun idle => ⟨?_, ?_, ?_, fun b e hb he => ?_⟩, fun run t equal running => ?_,
    fun b e hb he run t unequal => ?_, fun r x run standing begun => ?_, fun run => ⟨_, exec_jobAbort slot, ?_⟩,
    fun quiet due => ⟨_, exec_quietExpiry slot, ?_⟩, fun idle => ?_⟩
  · exact (exec_arm slot).trans (congrArg _ (doArm_refused s j ((s.armBad_iff j).2 bad)))
  · exact doArm_starts s j (Bool.eq_false_iff.2 fun bad => ((s.armBad_iff j).1 bad).elim good once)
  · have long : below (2 ^ 16) b.length = true := decide_eq_true hb
    have own {k : Nat} (kind : pkKind b = k) : s.arrive k b = s.gotPacket b := State.arrive_own good kind here
    have retract (kind : pkKind b = 5) : exec (.retract b none) s = .next (s.gotPacket b) :=
      (exec_retract (Bool.and_eq_true_iff.2 ⟨long, rfl⟩)).trans (congrArg _ (own kind))
    refine ⟨fun c which old => ?_, fun kind new => ?_, fun kind new chain => ⟨_, retract kind, ?_⟩,
      fun kind new wave => ⟨_, retract kind, ?_⟩, fun kind => ⟨_, exec_abortMessage long, ?_⟩⟩
    · have stale (kind : pkKind b = 4 ∨ pkKind b = 5) : s.gotPacket b = s.jStale j := State.gotPacket_old job peer kind old
      rcases which with ⟨rfl, kind⟩ | ⟨rfl, kind⟩
      · refine ⟨_, exec_confirm long, ?_⟩
        rw [doConfirm, own kind, stale (.inl kind)]
        exact s.jStale_leaves j
      · refine ⟨_, retract kind, ?_⟩
        rw [stale (.inr kind)]
        exact s.jStale_leaves j
    · exact (exec_confirm long).trans (congrArg _ ((own kind).trans (State.gotPacket_confirm job peer kind new)))
    · rw [State.gotPacket_retract job peer kind new, State.retractFrom_chain s j _ _ p chain]
      obtain ⟨expAtt, outAtt, count, transit, mem⟩ := State.expects_retracts s j _ (State.retractCore_leaves _ j (pkEpoch b)
        (s.jOut j (pkEpoch b)) (s.jOut j (pkEpoch b) + 1) (s.jDns j))
      refine ⟨?_, outAtt, count, transit, mem⟩
      rw [State.jExp, expAtt]
      exact Table.get_set_same ..
    · rw [State.gotPacket_retract job peer kind new, State.retractFrom_wave s j _ _ p wave]
      obtain ⟨expAtt, outAtt, -, transit, mem⟩ := State.expects_retracts s j _ (State.retractCore_leaves _ j (pkEpoch b)
        (pkAtt b) (pkAtt b + 1) ((s.jPeers j).filter (fun q => q ≠ p)))
      refine ⟨fun q listed => ?_, outAtt, transit, mem⟩
      rw [State.jExp, expAtt]
      exact get_foldl_set (fun q => pkEpoch b * 8 + q) _ _ _ (.inl listed)
    · obtain ⟨run, -, -⟩ := State.jobFor_some job
      rw [doAbortMessage, own kind, State.gotPacket_abort job kind, peer]
      have left := State.jobAbort_leaves run (by decide : 3 < 256) (some 0x85) (some p)
      exact ⟨left.state, left.why, fun q listed other => left.aborts q listed fun same => other (Option.some.inj same)⟩
  · have all : (u.jUps j).all (fun p => u.confHeld j p 0) = true ↔ ∀ p, p ∈ u.jUps j → ∃ c, c ∈ (u.job j).confs ∧ c.peer = p
        ∧ c.epoch = u.jOldest j ∧ c.att = u.jExp j (u.jOldest j) p ∧ c.round = 0 := by
      simp only [List.all_eq_true, State.confHeld_iff]
    rw [u.tryCommit_chain j run passed chain]
    refine ⟨fun open' => if_neg (mt all.1 open'), fun held => ?_⟩
    rw [if_pos (all.2 held)]
    exact u.commit_leaves j chain
  · exact (exec_ownChecks slot).trans (congrArg _ (if_pos idle))
  · exact (exec_epochTimeout slot).trans (congrArg _ (if_pos idle))
  · exact (exec_jobAbort slot).trans (congrArg _ (if_pos idle))
  · have named : (Instr.retract b (some (j, e))).wf = true := Bool.and_eq_true_iff.2 ⟨decide_eq_true hb, decide_eq_true ⟨hj, he⟩⟩
    exact (exec_retract named).trans (congrArg _ (if_pos idle))
  · have checks := (exec_ownChecks (s := s) slot).trans (congrArg _ (doOwnChecksAll_equal run equal))
    exact ⟨fun idle => checks.trans (congrArg _ (doOwnChecks_idle idle)),
      fun new hold => checks.trans (congrArg _ (doOwnChecks_passes running new hold))⟩
  · have named : (Instr.retract b (some (j, e))).wf = true := Bool.and_eq_true_iff.2 ⟨decide_eq_true hb, decide_eq_true ⟨hj, he⟩⟩
    exact (exec_retract named).trans (congrArg _ (doRetract_own b run unequal))
  · have timeout := (exec_epochTimeout (s := s) slot).trans (congrArg _ (doEpochTimeout_run run standing begun))
    refine ⟨fun early => timeout.trans (congrArg _ (if_neg early)), fun late => ⟨_, timeout, ?_⟩⟩
    rw [if_pos late]
    have left := State.jobAbort_leaves run (by decide : 4 < 256) (some 0x83) none
    exact ⟨left.state, left.why, fun p listed => left.aborts p listed (by simp)⟩
  · have left := State.jobAbort_leaves run (by decide : 1 < 256) none none
    exact ⟨left.state, left.why, left.lastGen, left.quietAt, fun p listed => left.aborts p listed (by simp), left.outs⟩
  · rw [doQuietExpiry_due quiet due]
    exact ⟨State.fld_setFld _ _ _ (by decide) (by decide), rfl, rfl, rfl⟩
  · exact (exec_quietExpiry slot).trans (congrArg _ (if_neg (by omega)))

end Sys2Proof.Machine
end

section
/-! PROOFS. Fault messages (O36, refuted). A CLK-MON of a cluster: the model reads the clock monitor of its source by a
difference that ends at 0, takes the die offline (R568), and then finds the cluster no longer in service. -/

namespace Sys2Proof.Machine

/-- CLK-MON from cluster 0, with the severity 2 that its sender names. -/
def strayMsg : NetMsg := ⟨mkMsg 0 0xB8 0 (State.reset.genOf 0) 0 true, [], 2⟩

/-- The module after package reset, with that message on the fault network. -/
def strayClk : State := { State.reset with net := [strayMsg] }

/-- Die 0 is fenced, cluster 0 is not. -/
theorem fences_strayClk : (doFaultMessage 0 true none strayClk).fences = [0x200] := by decide +kernel

theorem strayClk_finds : strayClk.net.find? (fun m => decide (msgSrc m.bits.toNat = 0)) = some strayMsg := by decide +kernel

/-- Refutes O36: a message CLK-MON of severity 2 from cluster 0, in service, fences die 0 and so leaves the cluster's own fence
out. -/
theorem not_faultMessages : ¬ Obligations.FaultMessages := by
  unfold Obligations.FaultMessages
  intro h
  obtain ⟨-, arrives, -⟩ := h strayClk 0 (by decide)
  obtain ⟨-, -, -, opens, -⟩ := arrives strayMsg strayClk_finds
  obtain ⟨-, -, fences, -⟩ := opens (by decide +kernel) (by decide +kernel) (by decide +kernel)
  obtain ⟨t, ran, fenced⟩ := fences (by decide +kernel) (by decide +kernel) (by decide) (by decide +kernel)
  obtain rfl : doFaultMessage 0 true none strayClk = t := Host.Outcome.next.inj ((exec_faultMessage (by decide)).symm.trans ran)
  rw [fences_strayClk] at fenced
  exact absurd fenced (by decide)

end Sys2Proof.Machine
end

section
/-! PROOFS. Entries to SAFE that do not keep it (O38, O39, O41, refuted): the context of a decision is not bounded in the model,
and the registers of context 0x310 are Keystone's. -/

namespace Sys2Proof.Machine

/-! ### RELEASE_DEADLINE -/

/-- The decision of the stray context, the oldest that waits for output 0. -/
def strayDec : Decision := ⟨0, 0x310, 0, 0, 0, 0, 0, 0, none, [], [], false, false, 0⟩

theorem strayHalt_finds : strayHalt.decs.find? (fun (d : Decision) => d.out = 0 ∧ d.result = 0) = some strayDec := by decide +kernel

theorem ks_releaseDeadline_strayHalt : (doReleaseDeadline 0 strayHalt).ks = 0 := by decide +kernel

/-- Refutes O38: the deadline of a RUN of context 0x310 without a usable record of Footbridge enters SAFE, and the end of that
context's work takes Keystone from SAFE to BOOT. -/
theorem not_releaseAndCover : ¬ Obligations.ReleaseAndCover := by
  unfold Obligations.ReleaseAndCover
  intro h
  obtain ⟨-, waiting, -⟩ := h strayHalt 0 (by decide)
  obtain ⟨-, -, deadline⟩ := waiting strayDec strayHalt_finds
  obtain ⟨t, ran, safe, -⟩ := deadline.2.1 (by decide +kernel) (by decide +kernel) (by decide +kernel) (by decide +kernel)
  obtain rfl : doReleaseDeadline 0 strayHalt = t := Host.Outcome.next.inj ((exec_releaseDeadline (by decide)).symm.trans ran)
  rw [ks_releaseDeadline_strayHalt] at safe
  exact absurd safe (by decide)

/-! ### KS_ENTER -/

theorem ks_ksEnter_strayHalt : (doKsEnter strayHalt).ks = 0 := by decide +kernel

/-- Refutes O39: KS_ENTER from RUN with a decision of context 0x310 that waits ends in BOOT. -/
theorem not_keystoneStates : ¬ Obligations.KeystoneStates := by
  unfold Obligations.KeystoneStates
  intro h
  obtain ⟨-, -, -, -, -, -, -, -, enters, -⟩ := h strayHalt
  obtain ⟨t, ran, safe, -⟩ := enters (by decide +kernel)
  obtain rfl : doKsEnter strayHalt = t := Host.Outcome.next.inj (exec_ksEnter.symm.trans ran)
  rw [ks_ksEnter_strayHalt] at safe
  exact absurd safe (by decide)

/-! ### REQSAFE -/

/-- The stray context, and a safety SPI that honours REQSAFE. -/
def strayReq : State := strayHalt.setFld (regSs 0) 1 1 1

theorem ks_reqsafe_strayReq : (doReqsafe strayReq).ks = 0 := by decide +kernel

/-- Refutes O41: REQSAFE in RUN with a decision of context 0x310 that waits ends in BOOT. -/
theorem not_safetySpi : ¬ Obligations.SafetySpi := by
  unfold Obligations.SafetySpi
  intro h
  obtain ⟨-, -, -, -, -, -, ⟨t, ran, -, -, honoured, -⟩, -⟩ := h strayReq
  obtain ⟨safe, -⟩ := honoured (by decide +kernel) (by decide +kernel)
  obtain rfl : doReqsafe strayReq = t := Host.Outcome.next.inj (exec_reqsafe.symm.trans ran)
  rw [ks_reqsafe_strayReq] at safe
  exact absurd safe (by decide)

end Sys2Proof.Machine
end

section
/-! PROOFS. Towpath frames and requests (O48, O49): a frame is counted, recorded, served, queued or dropped, and a request is checked
before its operation acts. -/

namespace Sys2Proof.Machine

/-! ### A frame -/

/-- A frame that arrived is counted, and offered to the recorder where its operation is a recorded one. -/
def State.twNoted (s : State) (p : List Byte) : State :=
  if twRecorded (twOp p) = true then
    ((s.count (regTw 4) 15 0).capture 512 0x30 (s.count (regTw 4) 15 0).now (leBytes 4 p.length ++ leBytes 4 0 ++ p)).2
  else s.count (regTw 4) 15 0

section
variable {s : State} {mac op : Nat} {p : List Byte} {pass : Bool}

theorem State.twCommand_other (other : twOp p ≠ op) (known : op = 1 → s.twClass (twOp p) ≠ none) : s.twCommand op mac p pass = s :=
  if_neg fun h => h.elim other fun ⟨one, unknown⟩ => known one unknown

theorem State.twCommand_down (down : s.fld (regTw 0) 0 0 = 0) : s.twCommand op mac p pass = s := by
  unfold State.twCommand
  rw [State.twFrameIn, if_pos down, ite_self]

/-- While the link is up, a frame that names the command's operation. -/
theorem State.twCommand_up (named : twOp p = op) (up : s.fld (regTw 0) 0 0 = 1) :
    s.twCommand op mac p pass =
      (if (s.twNoted p).fld (regMg 0) 9 9 = 1 then (if op = 0x20 then (s.twNoted p).twServe mac p pass else s.twNoted p)
      else if (s.twNoted p).serves = true then (s.twNoted p).twServe mac p pass
      else if (s.twNoted p).mg.queue.length < 32 then
        { s.twNoted p with mg := { (s.twNoted p).mg with queue := (s.twNoted p).mg.queue ++ [(mac, p)] } }
      else (s.twNoted p).bump (regMg 0) 31 24 1) := by
  rw [State.twCommand, if_pos (.inl named), State.twFrameIn, if_neg (by omega : ¬ s.fld (regTw 0) 0 0 = 0), ← named]
  rfl

theorem State.twServe_eq {st : Nat} {body : List Byte} {v : State} (ran : s.twRun mac p pass false = (st, body, v)) :
    s.twServe mac p pass =
      (let head := twHead (twCls p) (twOp p) st (fieldAt p 4 4) body.length ++ body
      let tag := if twCls p = 1 then (v.twTag head).getD [] else []
      let t := v.twFrame (leBytes 6 mac).reverse (head ++ tag)
      if twOp p = 0x12 ∧ st = 0 then t.pkgBegin 2 else t) := by
  rw [State.twServe, ran]
  rfl

end

/-- Each command of the table is the taking of a frame for its operation. -/
theorem exec_twCommand {mac : Nat} {p : List Byte} {pass : Bool} {c : Instr} {op : Nat} (small : mac < 2 ^ 48) (short : p.length < 2 ^ 16)
    (mem : (c, op) ∈ [(Instr.read mac p, 0x01), (.attest mac p, 0x02), (.cert mac p, 0x03), (.challenge mac p, 0x04),
      (.write mac p, 0x10), (.ack mac p, 0x11), (.towpathReset mac p, 0x12), (.cfgwrite mac p, 0x13), (.dumpread mac p, 0x14),
      (.fwchunk mac p, 0x20), (.fwcommit mac p pass, 0x21), (.svnbump mac p, 0x30), (.histclear mac p, 0x31), (.ownerkey mac p, 0x32)])
    (s : State) : exec c s = .next (s.twCommand op mac p (decide (op = 0x21) && pass)) := by
  have wf := below_and_below small short
  simp only [List.mem_cons, Prod.mk.injEq, List.not_mem_nil, or_false] at mem
  rcases mem with ⟨rfl, rfl⟩ | ⟨rfl, rfl⟩ | ⟨rfl, rfl⟩ | ⟨rfl, rfl⟩ | ⟨rfl, rfl⟩ | ⟨rfl, rfl⟩ | ⟨rfl, rfl⟩ | ⟨rfl, rfl⟩ | ⟨rfl, rfl⟩ |
    ⟨rfl, rfl⟩ | ⟨rfl, rfl⟩ | ⟨rfl, rfl⟩ | ⟨rfl, rfl⟩ | ⟨rfl, rfl⟩
  · exact exec_read wf
  · exact exec_attest wf
  · exact exec_cert wf
  · exact exec_challenge wf
  · exact exec_write wf
  · exact exec_ack wf
  · exact exec_towpathReset wf
  · exact exec_cfgwrite wf
  · exact exec_dumpread wf
  · exact exec_fwchunk wf
  · exact exec_fwcommit wf
  · exact exec_svnbump wf
  · exact exec_histclear wf
  · exact exec_ownerkey wf

theorem State.twNoted_of_op {s : State} {p : List Byte} {op : Nat} (named : twOp p = op) :
    s.twNoted p =
      (let a := s.count (regTw 4) 15 0
      if (0x10 ≤ op ∧ op ≤ 0x13) ∨ (0x20 ≤ op ∧ op ≤ 0x32) then
        (a.capture 512 0x30 a.now (leBytes 4 p.length ++ leBytes 4 0 ++ p)).2 else a) := by
  unfold State.twNoted twRecorded
  simp only [decide_eq_true_eq, named]

/-- Settles O48: a command takes the frames that name its operation, and every clause is a branch of that taking. -/
theorem towpathRequests : Obligations.TowpathRequests := by
  unfold Obligations.TowpathRequests
  intro s mac p pass c op small short mem pass' a u
  have run := exec_twCommand small short mem s
  have noted : twOp p = op → s.twNoted p = u := fun named => State.twNoted_of_op named
  clear_value u
  refine ⟨fun other known => ?_, fun down => ?_, fun named up rec chunk => ?_, fun named up rec none' short => ?_,
    fun named up rec none' full => ?_, fun st body v named up served ran => ?_⟩
  · rw [run, State.twCommand_other other known]
  · rw [run, State.twCommand_down down]
  · rw [run, State.twCommand_up named up, noted named, if_pos rec, if_neg chunk]
  · rw [run, State.twCommand_up named up, noted named, if_neg (by omega), none', if_neg Bool.false_ne_true, if_pos short]
  · rw [run, State.twCommand_up named up, noted named, if_neg (by omega), none', if_neg Bool.false_ne_true, if_neg (by omega)]
  · have serve : s.twCommand op mac p pass' = u.twServe mac p pass' := by
      rw [State.twCommand_up named up, noted named]
      rcases served with ⟨rec, chunk⟩ | ⟨rec, serves⟩
      · rw [if_pos rec, if_pos chunk]
      · rw [if_neg (by omega), if_pos serves]
    refine ⟨?_, List.length_append, rfl, rfl⟩
    rw [run, serve, State.twServe_eq ran, named]

/-! ### The checks of a request -/

/-- Does the form of a request hold: its version, its length and room for its tag? -/
def twFramed (p : List Byte) : Prop :=
  fieldAt p 0 1 = 1 ∧ twLen p ≤ 1024 ∧ 16 + twLen p + (if twCls p = 1 then 16 else 0) ≤ p.length

/-- A class-1 request carries the tag of its bytes and a SEQ above the last one of its sender. -/
def State.twTagged (s : State) (mac : Nat) (p : List Byte) : Prop :=
  s.twTag (p.take (16 + twLen p)) = some ((p.drop (16 + twLen p)).take 16)
    ∧ ∀ e, s.mg.seen.find? (fun e => e.1 = mac) = some e → e.2 < fieldAt p 4 4

/-- A class-2 request ends with the serial number, the challenge and a signature that verifies. -/
def State.twSigned (s : State) (p : List Byte) : Prop :=
  136 ≤ twLen p ∧ fieldAt (twBody p) (twLen p - 136) 8 = Config.serial.toNat
    ∧ s.mg.chal = some (((twBody p).drop (twLen p - 128)).take 32)
    ∧ Config.serviceVerify (p.take (16 + twLen p - 96)) ((twBody p).drop (twLen p - 96)) = true

section
variable {s : State} {mac : Nat} {p : List Byte} {pass : Bool}

theorem twFramed.bodyLength (framed : twFramed p) : (twBody p).length = twLen p := by
  obtain ⟨_, _, room⟩ := framed
  rw [twBody, List.length_take, List.length_drop]
  split at room <;> omega

theorem State.twRun_version (other : fieldAt p 0 1 ≠ 1) : s.twRun mac p pass false = (6, [], s) := if_pos other

theorem State.twRun_cut (version : fieldAt p 0 1 = 1) (cut : ¬ twFramed p) : s.twRun mac p pass false = (2, [], s) := by
  have bad : 1024 < twLen p ∨ p.length < 16 + twLen p + (if twCls p = 1 then 16 else 0) := by
    by_contra good
    rw [not_or, not_lt, not_lt] at good
    exact cut ⟨version, good⟩
  unfold State.twRun
  dsimp only
  rw [if_neg (not_not.2 version), if_pos bad]
  rfl

theorem State.twRun_framed (framed : twFramed p) :
    s.twRun mac p pass false =
      (match s.twClass (twOp p) with
      | none => (6, [], s)
      | some c =>
        if twCls p ≠ c then (1, [], s)
        else if (s.twAuth mac p).1 = true then (s.twAuth mac p).2.twAct (twOp p) (twBody p) pass false
        else (1, [], (s.twAuth mac p).2)) := by
  obtain ⟨version, short, room⟩ := framed
  unfold State.twRun
  dsimp only
  rw [if_neg (not_not.2 version), if_neg (by omega)]
  rfl

/-- A request of its operation's class whose checks hold acts. -/
theorem State.twRun_passed (framed : twFramed p) {c : Nat} (cls : twCls p = c) (own : s.twClass (twOp p) = some c) {t : State}
    (auth : s.twAuth mac p = (true, t)) :
    s.twRun mac p pass false = t.twAct (twOp p) (twBody p) pass false := by
  rw [State.twRun_framed framed, own, auth]
  dsimp only
  rw [if_neg (not_not.2 cls), if_pos rfl]

theorem State.twRun_refused (framed : twFramed p) {c : Nat} (cls : twCls p = c) (own : s.twClass (twOp p) = some c)
    (auth : s.twAuth mac p = (false, s)) : s.twRun mac p pass false = (1, [], s) := by
  rw [State.twRun_framed framed, own, auth]
  dsimp only
  rw [if_neg (not_not.2 cls), if_neg Bool.false_ne_true]

theorem State.twAuth_open (cls : twCls p = 0) : s.twAuth mac p = (true, s) := by
  rw [State.twAuth, cls]
  rfl

theorem State.newer_iff {seq : Nat} {o : Option (Nat × Nat)} :
    (match o.map (fun e => e.2) with | none => true | some l => decide (l < seq)) = true ↔ ∀ e, o = some e → e.2 < seq := by
  cases o with
  | none => exact iff_of_true rfl fun _ h => nomatch h
  | some e => exact decide_eq_true_iff.trans ⟨fun h _ e' => Option.some.inj e' ▸ h, fun h => h e rfl⟩

theorem State.twAuth_tagged (cls : twCls p = 1) (tagged : s.twTagged mac p) :
    s.twAuth mac p = (true, s.twSeen mac (fieldAt p 4 4)) := by
  rw [State.twAuth, cls]
  exact if_pos ⟨tagged.1, State.newer_iff.2 tagged.2⟩

theorem State.twAuth_untagged (cls : twCls p = 1) (untagged : ¬ s.twTagged mac p) : s.twAuth mac p = (false, s) := by
  rw [State.twAuth, cls]
  exact if_neg fun h => untagged ⟨h.1, State.newer_iff.1 h.2⟩

theorem State.twAuth_signed (cls : twCls p = 2) (signed : s.twSigned p) :
    s.twAuth mac p = (true, { s with mg := { s.mg with chal := none } }) := by
  rw [State.twAuth, cls]
  dsimp only
  obtain ⟨long, fields⟩ := signed
  rw [if_neg (Nat.not_lt.2 long)]
  exact if_pos fields

theorem State.twAuth_unsigned (cls : twCls p = 2) (unsigned : ¬ s.twSigned p) : s.twAuth mac p = (false, s) := by
  rw [State.twAuth, cls]
  dsimp only
  by_cases short : twLen p < 136
  · exact if_pos short
  · rw [if_neg short]
    exact if_neg fun h => unsigned ⟨Nat.not_lt.1 short, h⟩

end

/-! ### The effect of a request -/

theorem putTable_append (t : Table Byte) (a : Nat) (bs : List Byte) (x : Byte) :
    putTable t a (bs ++ [x]) = (putTable t a bs).set (a + bs.length) x := by
  rw [putTable, upTo, List.length_append, List.length_singleton, List.range_succ, List.zip_append List.length_range, List.foldl_append]
  rfl

/-- Bytes put into a table are what it holds there. -/
theorem get_putTable (t : Table Byte) (a : Nat) (bs : List Byte) {i : Nat} (inside : i < bs.length) :
    (putTable t a bs).get (a + i) 0 = bs.getD i 0 := by
  induction bs using List.reverseRecOn with
  | nil => exact absurd inside (Nat.not_lt_zero i)
  | append_singleton bs x ih =>
    rw [putTable_append, Table.get_set]
    rw [List.length_append, List.length_singleton] at inside
    by_cases last : i = bs.length
    · subst last
      rw [if_pos rfl, List.getD_append_right _ _ _ _ (Nat.le_refl _), Nat.sub_self]
      rfl
    · rw [if_neg (by omega), ih (by omega), List.getD_append _ _ _ _ (by omega)]

theorem getD_drop (l : List Byte) (k i : Nat) (d : Byte) : (l.drop k).getD i d = l.getD (k + i) d := by
  rw [List.getD_eq_getElem?_getD, List.getD_eq_getElem?_getD, List.getElem?_drop]

/-- Bytes put from a chunk's body on are what the table holds there. -/
theorem get_putTable_drop {t : Table Byte} {a k i : Nat} {b : List Byte} (inside : i < b.length - k) :
    (putTable t a (b.drop k)).get (a + i) 0 = b.getD (k + i) 0 :=
  (get_putTable _ _ _ (by rw [List.length_drop]; exact inside)).trans (getD_drop ..)

theorem length_freeBytes (n len : Nat) : (Config.freeBytes n len).length = len := by
  rw [Config.freeBytes, List.length_map, List.length_range]

section
variable {s : State} {b : List Byte} {pass : Bool}

theorem State.twAct_read (n : b.length = 12) (some' : fieldAt b 8 4 ≠ 0) (few : fieldAt b 8 4 ≤ 64) (dword : fieldAt b 0 8 % 4 = 0) :
    s.twAct 0x01 b pass false = (0, (State.regReads (fieldAt b 8 4) (fieldAt b 0 8) s).1.flatMap (fun v => leBytes 4 v),
      (State.regReads (fieldAt b 8 4) (fieldAt b 0 8) s).2) := by
  simp only [State.twAct]
  rw [if_neg (by omega)]
  rfl

theorem State.twAct_attest (n : b.length = 32) : s.twAct 0x02 b pass false = (0, s.attest b, s) := by
  simp only [State.twAct]
  rw [if_neg (not_not.2 n)]
  rfl

theorem State.twAct_cert (n : b.length = 4) :
    s.twAct 0x03 b pass false = if 1024 * fieldAt b 0 4 < Config.certChain.length then
      (0, (Config.certChain.drop (1024 * fieldAt b 0 4)).take 1024, s) else (2, [], s) := by
  simp only [State.twAct]
  split
  next past => rw [if_neg (by omega)]; rfl
  next inside => rw [if_pos (by omega)]; rfl

theorem State.twAct_write (some' : fieldAt b 8 4 ≠ 0) (n : b.length = 12 + 4 * fieldAt b 8 4) (dword : fieldAt b 0 8 % 4 = 0)
    (live : s.mode ≠ 2) :
    s.twAct 0x10 b pass false = (0, [], State.regWrites (fieldAt b 0 8) (bodyWords b 12 (fieldAt b 8 4)) s) := by
  simp only [State.twAct]
  rw [if_neg (by omega), if_neg fun h => live h.1]
  rfl

theorem State.twAct_ack (n : b.length = 8) :
    s.twAct 0x11 b pass false = (if (s.ackRec (fieldAt b 0 4) (fieldAt b 4 4)).1 then 0 else 2, [],
      (s.ackRec (fieldAt b 0 4) (fieldAt b 4 4)).2) := by
  simp only [State.twAct]
  rw [if_neg (not_not.2 n)]
  rfl

theorem State.twAct_reset (n : b.length = 4) (key : fieldAt b 0 4 = 0x5253) : s.twAct 0x12 b pass false = (0, [], s) := by
  simp only [State.twAct]
  rw [if_pos ⟨n, key⟩]
  rfl

theorem State.twAct_cfgwrite (n : 5 ≤ b.length) (fits : fieldAt b 0 4 + (b.length - 4) ≤ 0x10000) (live : s.mode ≠ 2) :
    s.twAct 0x13 b pass false = (0, [], { s with mg := { s.mg with
      flash := putTable s.mg.flash (flashCfg (1 - s.mg.cfgUse) + fieldAt b 0 4) (b.drop 4), bankSel := none } }) := by
  simp only [State.twAct]
  rw [if_neg (by omega), if_neg fun h => live h.1]
  rfl

/-- What DUMPREAD finds at an offset of a slot. -/
def State.dumpBytes (s : State) (slot off : Nat) : List Byte :=
  match lookup s.rst.flashDumps.rows slot with
  | some d => (d.bytes.drop off).take 1024
  | none => []

theorem State.length_dumpBytes (slot off : Nat) : (s.dumpBytes slot off).length ≤ 1024 := by
  unfold State.dumpBytes
  split
  · exact List.length_take_le ..
  · exact Nat.zero_le _

theorem State.twAct_dumpread (n : b.length = 8) (slot : fieldAt b 0 4 ≤ 3) (fits : fieldAt b 4 4 + 1024 ≤ 512 * 1024) :
    s.twAct 0x14 b pass false = (0, s.dumpBytes (fieldAt b 0 4) (fieldAt b 4 4)
        ++ Config.freeBytes s.freeCount (1024 - (s.dumpBytes (fieldAt b 0 4) (fieldAt b 4 4)).length),
      { s with freeCount := s.freeCount + 1 }) := by
  simp only [State.twAct]
  rw [if_neg (by omega)]
  rfl

theorem State.twAct_fwchunk (n : 5 ≤ b.length) (short : b.length ≤ 1012) (fits : fieldAt b 0 4 + (b.length - 4) ≤ 24 * 2 ^ 20) :
    s.twAct 0x20 b pass false = (0, [], if s.fld (regMg 0) 9 9 = 1 then
        { s with mg := { s.mg with sram := putTable s.mg.sram (fieldAt b 0 4) (b.drop 4) } }
      else { s with mg := { s.mg with
        flash := putTable s.mg.flash (flashBank (1 - s.fld (regMg 0) 8 8) + fieldAt b 0 4) (b.drop 4) } }) := by
  simp only [State.twAct]
  rw [if_neg (by omega)]
  split <;> rfl

theorem State.twAct_ownerkey (n : 32 ≤ b.length) :
    s.twAct 0x32 b pass false = (0, [], { s with mg := { s.mg with ownerKey := some (b.take 32) } }) := by
  simp only [State.twAct]
  rw [if_neg (by omega)]
  rfl

end

/-! ### The operations by class -/

section
variable {s : State} {mac : Nat} {p : List Byte} {pass : Bool} (framed : twFramed p)
include framed

/-- A request of class 0 acts unchecked. -/
theorem State.twRun_open (cls : twCls p = 0) {op : Nat} (named : twOp p = op) (own : s.twClass op = some 0) :
    s.twRun mac p pass false = s.twAct op (twBody p) pass false := by
  rw [State.twRun_passed framed cls (named ▸ own) (State.twAuth_open cls), named]

/-- A tagged request of class 1 acts once its SEQ is the last of its sender. -/
theorem State.twRun_tagged (cls : twCls p = 1) (own : s.twClass (twOp p) = some 1) (tagged : s.twTagged mac p) {op : Nat}
    (named : twOp p = op) :
    s.twRun mac p pass false = (s.twSeen mac (fieldAt p 4 4)).twAct op (twBody p) pass false := by
  rw [State.twRun_passed framed cls own (State.twAuth_tagged cls tagged), named]

/-- A request of class 2 acts once its challenge is used up, where it is signed. -/
theorem State.twRun_signed (cls : twCls p = 2) (own : s.twClass (twOp p) = some 2) {signed : Bool}
    (holds : signed = true ↔ s.twSigned p) {op : Nat} (named : twOp p = op) {t : State}
    (act : s.twSigned p → State.twAct { s with mg := { s.mg with chal := none } } op (twBody p) pass false = (0, [], t)) :
    s.twRun mac p pass false = if signed then (0, [], t) else (1, [], s) := by
  by_cases good : s.twSigned p
  · rw [if_pos (holds.2 good), State.twRun_passed framed cls own (State.twAuth_signed cls good), named, act good]
  · rw [if_neg (mt holds.1 good), State.twRun_refused framed cls own (State.twAuth_unsigned cls good)]

end

/-- Settles O49: the checks of a request come before its operation, whose effect is one equation an operation. -/
theorem towpathOperations : Obligations.TowpathOperations := by
  unfold Obligations.TowpathOperations
  intro s mac p pass n b run form
  have size (framed : form) : b.length = n := twFramed.bodyLength framed
  refine ⟨State.twRun_version, State.twRun_cut, fun framed none' => ?_, fun framed ⟨k, own, differs⟩ => ?_,
    fun framed cls op n12 some' few dword => ?_, fun framed cls op n32 => ?_, fun framed cls op n4 => ?_, fun framed cls op => ?_,
    fun framed cls own => ?_, ?_, fun framed cls op unset long => ?_⟩
  · exact (State.twRun_framed framed).trans (by rw [none'])
  · refine (State.twRun_framed framed).trans ?_
    rw [own]
    exact if_pos differs.symm
  · exact (State.twRun_open framed cls op rfl).trans (State.twAct_read ((size framed).trans n12) some' few dword)
  · exact (State.twRun_open framed cls op rfl).trans (State.twAct_attest ((size framed).trans n32))
  · exact (State.twRun_open framed cls op rfl).trans (State.twAct_cert ((size framed).trans n4))
  · exact ⟨_, _, State.twRun_open framed cls op rfl, length_freeBytes .., rfl, rfl, rfl⟩
  · have act : ∀ {o}, s.twTagged mac p → twOp p = o → run = (s.twSeen mac (fieldAt p 4 4)).twAct o b pass false :=
      fun tagged => State.twRun_tagged framed cls own tagged
    refine ⟨fun untagged => State.twRun_refused framed cls own (State.twAuth_untagged cls untagged),
      fun tagged op some' len dword live => ?_, fun tagged op n8 => ?_, fun tagged op n4 key => ?_, fun tagged op long fits live => ?_,
      fun tagged op n8 slot fits => ?_, fun tagged op long short fits => ?_, fun tagged op good => ?_, fun tagged op bad => ?_⟩
    · exact (act tagged op).trans (State.twAct_write some' ((size framed).trans len) dword live)
    · exact (act tagged op).trans (State.twAct_ack ((size framed).trans n8))
    · exact (act tagged op).trans (State.twAct_reset ((size framed).trans n4) key)
    · have fits' : fieldAt b 0 4 + (b.length - 4) ≤ 0x10000 := (size framed).symm ▸ fits
      refine ⟨_, (act tagged op).trans (State.twAct_cfgwrite ((size framed).symm ▸ long) fits' live), fun i inside => ?_, rfl, rfl, rfl⟩
      exact get_putTable_drop ((size framed).symm ▸ inside)
    · refine ⟨_, _, (act tagged op).trans (State.twAct_dumpread ((size framed).trans n8) slot fits), ?_, rfl, rfl, rfl⟩
      rw [List.length_append, length_freeBytes]
      exact Nat.add_sub_cancel' (State.length_dumpBytes ..)
    · have fits' : fieldAt b 0 4 + (b.length - 4) ≤ 24 * 2 ^ 20 := (size framed).symm ▸ fits
      have ran := (act tagged op).trans (State.twAct_fwchunk ((size framed).symm ▸ long) ((size framed).symm ▸ short) fits')
      by_cases rec : s.fld (regMg 0) 9 9 = 1
      · refine ⟨_, ran.trans (congrArg _ (congrArg _ (if_pos rec))), fun i inside => ?_, rfl, rfl, rfl⟩
        exact (if_pos rec).trans (get_putTable_drop ((size framed).symm ▸ inside))
      · refine ⟨_, ran.trans (congrArg _ (congrArg _ (if_neg rec))), fun i inside => ?_, rfl, rfl, rfl⟩
        exact (if_neg rec).trans (get_putTable_drop ((size framed).symm ▸ inside))
    · exact (act tagged op).trans (by rw [good]; rfl)
    · exact (act tagged op).trans (by rw [bad]; rfl)
  · intro signed framed cls own
    have holds : signed = true ↔ s.twSigned p := by
      unfold State.twSigned
      exact decide_eq_true_iff
    have sign : ∀ {o t}, twOp p = o → (s.twSigned p → State.twAct { s with mg := { s.mg with chal := none } } o b pass false = (0, [], t)) →
        run = if signed then (0, [], t) else (1, [], s) :=
      fun named => State.twRun_signed framed cls own holds named
    refine ⟨fun bad => ?_, fun op => ?_, fun op => ?_, fun op => ?_⟩
    · exact State.twRun_refused framed cls own (State.twAuth_unsigned cls fun good => Bool.false_ne_true (bad.symm.trans (holds.2 good)))
    · exact ⟨_, _, sign op fun _ => rfl, rfl, rfl, Nat.le_max_right .., rfl, rfl⟩
    · exact ⟨_, sign op fun _ => rfl, rfl, rfl, rfl, rfl⟩
    · refine ⟨_, sign op fun good => State.twAct_ownerkey ?_, rfl, rfl, rfl⟩
      exact (size framed).symm ▸ Nat.le_trans (by decide) good.1
  · have own : s.twClass 0x32 = some 0 := by
      rw [State.twClass, unset]
      rfl
    exact ⟨_, (State.twRun_open framed cls op own).trans (State.twAct_ownerkey ((size framed).symm ▸ long)), rfl, rfl, rfl⟩

end Sys2Proof.Machine
end

section
/-! PROOFS. Management pairs (O46): how a pair is lost and returns, the watchdog, and the shed level. -/

namespace Sys2Proof.Machine

/-! ### The fields of MG_STAT -/

section
variable {s : State} {q : Nat} (pair : q < 2)
include pair

theorem State.pairSt_setPair {v : Nat} (small : v < 4) : (s.setPair q v).pairSt q = v := by
  rw [State.setPair, State.pairSt, State.fld_setFld _ _ _ (by omega) (by omega), show 13 + 2 * q + 1 - (12 + 2 * q) = 2 by omega]
  exact Nat.mod_eq_of_lt small

theorem State.pairSt_setPair_other (v : Nat) : (s.setPair q v).pairSt (1 - q) = s.pairSt (1 - q) := by
  rw [State.setPair, State.pairSt, State.fld_setFld_disjoint _ _ _ (by omega) (by omega) (by omega) (by omega), State.pairSt]

/-- The cause of a pair's loss is beside the states of the pairs. -/
theorem State.pairSt_setCause (r v : Nat) (pair' : r < 2) : (s.setFld (regMg 0) (16 + q) (16 + q) v).pairSt r = s.pairSt r := by
  rw [State.pairSt, State.fld_setFld_disjoint _ _ _ (by omega) (by omega) (by omega) (by omega), State.pairSt]

theorem State.serves_iff : s.serves = true ↔ s.pairSt q = 0 ∨ s.pairSt (1 - q) = 0 := by
  rw [State.serves, Bool.or_eq_true, decide_eq_true_eq, decide_eq_true_eq]
  obtain rfl | rfl : q = 0 ∨ q = 1 := by omega
  · rfl
  · exact or_comm

end

/-! ### A pair is lost (R534) -/

/-- What the loss of a pair leaves: its state and cause, one message, and since when no pair serves. -/
structure PairLost (s t : State) (q st cause : Nat) : Prop where
  own : t.pairSt q = st
  other : t.pairSt (1 - q) = s.pairSt (1 - q)
  cause : t.fld (regMg 0) (16 + q) (16 + q) = cause
  net : t.net.length = s.net.length + 1
  none_ : t.mg.none_ = if s.pairSt (1 - q) = 0 then s.mg.none_ else some s.ticks
  mem : t.mem = s.mem
  clusters : t.clusters = s.clusters

/-- The entries of a pair to RESETTING within the last hour, this one included. -/
def State.pairLosses (s : State) (q : Nat) : List Nat :=
  (s.mg.resets.get q []).filter (fun t => decide (s.ticks < t + ticksPerHour)) ++ [s.ticks]

/-- The state in which a lost pair's message is sent. -/
def State.pairMarked (s : State) (q cause : Nat) : State :=
  (State.setPair { s with mg := { s.mg with resets := s.mg.resets.set q (s.pairLosses q) } } q
    (if 3 ≤ (s.pairLosses q).length then 3 else 1)).setFld (regMg 0) (16 + q) (16 + q) cause

theorem State.pairLoss_idle {s : State} {q cause : Nat} (idle : s.pairSt q ≠ 0) : s.pairLoss q cause = s := if_pos (.inr idle)

section
variable {s : State} {q cause : Nat} (pair : q < 2)
include pair

theorem State.pairLoss_eq (serving : s.pairSt q = 0) :
    s.pairLoss q cause = (if ((s.pairMarked q cause).sendEv (0xC00 + q) 0xA5 0).serves = true then
        (s.pairMarked q cause).sendEv (0xC00 + q) 0xA5 0
      else { (s.pairMarked q cause).sendEv (0xC00 + q) 0xA5 0 with mg := { (s.pairMarked q cause).mg with none_ := some s.ticks } }) := by
  unfold State.pairLoss
  dsimp only
  rw [if_neg (by omega)]
  rfl

theorem State.pairLoss_lost (serving : s.pairSt q = 0) (flag : cause < 2) :
    PairLost s (s.pairLoss q cause) q (if 3 ≤ (s.pairLosses q).length then 3 else 1) cause := by
  obtain ⟨st, named⟩ : ∃ st, st = if 3 ≤ (s.pairLosses q).length then 3 else 1 := ⟨_, rfl⟩
  have range : st = 3 ∨ st = 1 := by
    rw [named]
    exact (ite_eq_or_eq ..)
  have own : (s.pairMarked q cause).pairSt q = st := by
    rw [State.pairMarked, State.pairSt_setCause pair _ _ pair, ← named, State.pairSt_setPair pair (by omega)]
  have other : (s.pairMarked q cause).pairSt (1 - q) = s.pairSt (1 - q) := by
    rw [State.pairMarked, State.pairSt_setCause pair _ _ (by omega), State.pairSt_setPair_other pair]
    rfl
  have mark : (s.pairMarked q cause).fld (regMg 0) (16 + q) (16 + q) = cause := by
    rw [State.pairMarked, State.fld_setFld _ _ _ (Nat.le_refl _) (by omega), show 16 + q + 1 - (16 + q) = 1 by omega]
    exact Nat.mod_eq_of_lt flag
  have net : (s.pairMarked q cause).net = s.net := rfl
  have none' : (s.pairMarked q cause).mg.none_ = s.mg.none_ := rfl
  have mem : (s.pairMarked q cause).mem = s.mem := rfl
  have clusters : (s.pairMarked q cause).clusters = s.clusters := rfl
  rw [State.pairLoss_eq pair serving, ← named]
  generalize s.pairMarked q cause = m at own other mark net none' mem clusters ⊢
  have sent : (m.sendEv (0xC00 + q) 0xA5 0).serves = true ↔ s.pairSt (1 - q) = 0 := by
    rw [State.serves_iff pair, State.pairSt, State.pairSt, State.sendEv, State.fld_send, State.fld_send]
    change m.pairSt q = 0 ∨ m.pairSt (1 - q) = 0 ↔ _
    rw [own, other]
    exact or_iff_right (by omega)
  have one : (m.sendEv (0xC00 + q) 0xA5 0).net.length = s.net.length + 1 := by
    rw [State.sendEv, State.send_net, List.length_append, net]
    rfl
  split
  next serves => exact ⟨own, other, mark, one, by rw [if_pos (sent.1 serves)]; exact none', mem, clusters⟩
  next none => exact ⟨own, other, mark, one, by rw [if_neg (mt sent.2 none)], mem, clusters⟩

end

/-! ### Shedding (R538) -/

/-- The count of calm windows in a row. -/
def State.setCalm (s : State) (n : Nat) : State := { s with mg := { s.mg with calm := n } }

/-- A serving pair was above the high mark. -/
def State.shedBusy (s : State) (b0 b1 : Nat) : Prop :=
  (s.pairSt 0 = 0 ∧ s.fld (regMg 8) 23 16 < b0) ∨ (s.pairSt 1 = 0 ∧ s.fld (regMg 8) 23 16 < b1)

/-- Every serving pair was below the low mark. -/
def State.shedUnder (s : State) (b0 b1 : Nat) : Prop :=
  (s.pairSt 0 = 0 → b0 < s.fld (regMg 8) 15 8) ∧ (s.pairSt 1 = 0 → b1 < s.fld (regMg 8) 15 8)

/-- The serving pairs with their busy shares. -/
def State.shedPairs (s : State) (b0 b1 : Nat) : List (Nat × Nat) :=
  ([(0, b0), (1, b1)] : List (Nat × Nat)).filter (fun x => decide (s.pairSt x.1 = 0))

section
variable {s : State} {b0 b1 : Nat}

theorem State.shedPairs_nil : s.shedPairs b0 b1 = [] ↔ s.serves = false := by
  rw [State.shedPairs, List.filter_eq_nil_iff, ← Bool.not_eq_true, State.serves_iff Nat.zero_lt_two, not_or]
  simp only [List.forall_mem_cons, decide_eq_true_eq, List.not_mem_nil, false_implies, implies_true, and_true]

theorem State.any_shedPairs :
    (s.shedPairs b0 b1).any (fun x => decide (s.fld (regMg 8) 23 16 < x.2)) = true ↔ s.shedBusy b0 b1 := by
  rw [State.shedPairs, List.any_filter]
  simp only [List.any_cons, List.any_nil, Bool.or_false, Bool.or_eq_true, Bool.and_eq_true, decide_eq_true_eq]
  rfl

theorem State.all_shedPairs :
    (s.shedPairs b0 b1).all (fun x => decide (x.2 < s.fld (regMg 8) 15 8)) = true ↔ s.shedUnder b0 b1 := by
  rw [State.shedPairs, List.all_filter]
  simp only [List.all_cons, List.all_nil, Bool.and_true, Bool.and_eq_true, Bool.or_eq_true, Bool.not_eq_true', decide_eq_false_iff_not,
    decide_eq_true_eq, ← imp_iff_not_or]
  rfl

theorem State.shed_lt : s.shed < 4 := State.fld_lt (hi := 11) (lo := 10) ..

theorem State.shed_setShed {l : Nat} (small : l < 4) : (s.setShed l).shed = l := by
  rw [State.setShed, State.shed, State.sendEv, State.fld_send, State.fld_setFld _ _ _ (by decide) (by decide)]
  exact Nat.mod_eq_of_lt small

theorem State.net_setShed (l : Nat) : (s.setShed l).net.length = s.net.length + 1 := List.length_append

theorem doShedWindow_eq :
    doShedWindow b0 b1 s = (if s.shedPairs b0 b1 = [] then s
      else if (s.shedPairs b0 b1).any (fun x => decide (s.fld (regMg 8) 23 16 < x.2)) = true then
        (if s.shed < 3 then (s.setCalm 0).setShed (s.shed + 1) else s.setCalm 0)
      else if (s.shedPairs b0 b1).all (fun x => decide (x.2 < s.fld (regMg 8) 15 8)) = true then
        (if s.mg.calm + 1 < 10 then s.setCalm (s.mg.calm + 1)
        else if s.shed = 0 then s.setCalm 0 else (s.setCalm 0).setShed (s.shed - 1))
      else s.setCalm 0) := rfl

theorem doShedWindow_off (off : s.serves = false) : doShedWindow b0 b1 s = s := if_pos (State.shedPairs_nil.2 off)

section
variable (serves : s.serves = true)
include serves

theorem State.shedPairs_ne_nil : s.shedPairs b0 b1 ≠ [] := fun none => absurd (State.shedPairs_nil.1 none) (by rw [serves]; decide)

theorem doShedWindow_busy (busy : s.shedBusy b0 b1) :
    doShedWindow b0 b1 s = if s.shed < 3 then (s.setCalm 0).setShed (s.shed + 1) else s.setCalm 0 := by
  rw [doShedWindow_eq, if_neg (State.shedPairs_ne_nil serves), if_pos (State.any_shedPairs.2 busy)]

theorem doShedWindow_between (calm : ¬ s.shedBusy b0 b1) (loaded : ¬ s.shedUnder b0 b1) : doShedWindow b0 b1 s = s.setCalm 0 := by
  rw [doShedWindow_eq, if_neg (State.shedPairs_ne_nil serves), if_neg (mt State.any_shedPairs.1 calm),
    if_neg (mt State.all_shedPairs.1 loaded)]

theorem doShedWindow_under (calm : ¬ s.shedBusy b0 b1) (under : s.shedUnder b0 b1) :
    doShedWindow b0 b1 s = (if s.mg.calm + 1 < 10 then s.setCalm (s.mg.calm + 1)
      else if s.shed = 0 then s.setCalm 0 else (s.setCalm 0).setShed (s.shed - 1)) := by
  rw [doShedWindow_eq, if_neg (State.shedPairs_ne_nil serves), if_neg (mt State.any_shedPairs.1 calm),
    if_pos (State.all_shedPairs.2 under)]

/-- The three ways a window goes while a pair serves. -/
theorem doShedWindow_serving :
    (s.shedBusy b0 b1 → (doShedWindow b0 b1 s).shed = min 3 (s.shed + 1) ∧ (doShedWindow b0 b1 s).mg.calm = 0
        ∧ (doShedWindow b0 b1 s).net.length = s.net.length + (if s.shed < 3 then 1 else 0))
      ∧ (¬ s.shedBusy b0 b1 → ¬ s.shedUnder b0 b1 → (doShedWindow b0 b1 s).shed = s.shed ∧ (doShedWindow b0 b1 s).mg.calm = 0
        ∧ (doShedWindow b0 b1 s).net = s.net)
      ∧ (¬ s.shedBusy b0 b1 → s.shedUnder b0 b1 → s.mg.calm + 1 < 10 → (doShedWindow b0 b1 s).shed = s.shed
        ∧ (doShedWindow b0 b1 s).mg.calm = s.mg.calm + 1 ∧ (doShedWindow b0 b1 s).net = s.net)
      ∧ (¬ s.shedBusy b0 b1 → s.shedUnder b0 b1 → 10 ≤ s.mg.calm + 1 → (doShedWindow b0 b1 s).shed = s.shed - 1
        ∧ (doShedWindow b0 b1 s).mg.calm = 0
        ∧ (doShedWindow b0 b1 s).net.length = s.net.length + (if s.shed = 0 then 0 else 1)) := by
  have range := s.shed_lt
  refine ⟨fun busy => ?_, fun calm loaded => ?_, fun calm under early => ?_, fun calm under due => ?_⟩
  · rw [doShedWindow_busy serves busy]
    by_cases room : s.shed < 3
    · rw [if_pos room, if_pos room]
      exact ⟨(State.shed_setShed (by omega)).trans (by omega), rfl, State.net_setShed _⟩
    · rw [if_neg room, if_neg room]
      exact ⟨(by omega : s.shed = _), rfl, rfl⟩
  · rw [doShedWindow_between serves calm loaded]
    exact ⟨rfl, rfl, rfl⟩
  · rw [doShedWindow_under serves calm under, if_pos early]
    exact ⟨rfl, rfl, rfl⟩
  · rw [doShedWindow_under serves calm under, if_neg (by omega)]
    by_cases least : s.shed = 0
    · rw [if_pos least, if_pos least]
      exact ⟨(by omega : s.shed = _), rfl, rfl⟩
    · rw [if_neg least, if_neg least]
      exact ⟨State.shed_setShed (by omega), rfl, State.net_setShed _⟩

end

theorem doShedWindow_keeps : (doShedWindow b0 b1 s).mem = s.mem ∧ (doShedWindow b0 b1 s).clusters = s.clusters := by
  rw [doShedWindow_eq]
  split_ifs <;> exact ⟨rfl, rfl⟩

end

/-! ### A pair that returns (R534) -/

section
variable {s : State} {q : Nat} (testing : ¬ (1 < q ∨ s.pairSt q ≠ 2))
include testing

theorem doPairTestEnd_failed : doPairTestEnd q false s = s.setPair q 3 := if_neg testing

theorem doPairTestEnd_passed (empty : s.mg.queue = []) (quiet : s.mg.repWait = false) :
    doPairTestEnd q true s =
      { s.setPair q 0 with mg := { s.mg with none_ := none, wdog := none, kicks := s.mg.kicks.set q s.ticks, queue := [] } } := by
  refine (if_neg testing).trans ?_
  have waits : (s.setPair q 0).mg = s.mg := rfl
  dsimp only
  rw [waits, empty, State.serveQueue, quiet]
  rfl

end

/-- Settles O46: a pair's loss, its return, the watchdog's two stages and the shed windows. -/
theorem managementPairs : Obligations.ManagementPairs := by
  unfold Obligations.ManagementPairs
  intro s
  refine ⟨rfl, fun q pair idle => ?_, fun q c pair serving due => ?_, fun q pair early => ?_, fun q v pair => ?_, fun q pair resetting => ?_,
    fun q pass pair => ⟨fun other => ?_, fun other => ?_⟩, fun q pair testing => ?_, fun x none' unsent late => ?_, fun no => ?_,
    ⟨?_, ?_⟩, fun b0 b1 h0 h1 => ?_⟩
  · rw [exec_lockstep (decide_eq_true (by omega : q < 3)), doLockstep, if_neg (by omega), State.pairLoss_idle idle]
  · have length : (s.pairLosses q).length = ((s.mg.resets.get q []).filter (fun t => decide (s.ticks < t + 3600000 * ticksPerMs))).length + 1 :=
      List.length_append
    dsimp only
    rw [← length]
    have lost : ∃ cause, exec c s = .next (s.pairLoss q cause) ∧ cause < 2 ∧ (if c = .lockstep q then 0 else 1) = cause := by
      rcases due with rfl | ⟨rfl, late⟩
      · refine ⟨0, ?_, by decide, if_pos rfl⟩
        rw [exec_lockstep (decide_eq_true (by omega : q < 3)), doLockstep, if_neg (by omega)]
      · refine ⟨1, ?_, by decide, if_neg nofun⟩
        exact (exec_pairWatchdog (decide_eq_true pair)).trans (congrArg _ (if_neg (Nat.not_lt.2 late)))
    obtain ⟨cause, ran, flag, named⟩ := lost
    obtain ⟨own, other, mark, net, none', mem, clusters⟩ := State.pairLoss_lost pair serving flag
    exact ⟨_, ran, own, other, mark.trans named.symm, net, none', mem, clusters⟩
  · rw [exec_pairWatchdog (decide_eq_true pair), doPairWatchdog]
    exact congrArg _ (if_pos early)
  · exact exec_mgKick (decide_eq_true pair)
  · refine ⟨_, (exec_pairResetEnd (decide_eq_true pair)).trans (congrArg _ (if_pos ⟨by omega, resetting⟩)),
      State.pairSt_setPair pair (by decide), State.pairSt_setPair_other pair _, rfl, rfl, rfl⟩
  · exact (exec_pairResetEnd (decide_eq_true pair)).trans (congrArg _ (if_neg fun h => other h.2))
  · exact (exec_pairTestEnd (decide_eq_true pair)).trans (congrArg _ (if_pos (.inr other)))
  · have wf {pass : Bool} : (Instr.pairTestEnd q pass).wf = true := decide_eq_true pair
    have open' : ¬ (1 < q ∨ s.pairSt q ≠ 2) := by omega
    refine ⟨⟨_, (exec_pairTestEnd wf).trans (congrArg _ (doPairTestEnd_failed open')), State.pairSt_setPair pair (by decide), rfl, rfl,
      rfl⟩, fun empty quiet => ⟨_, (exec_pairTestEnd wf).trans (congrArg _ (doPairTestEnd_passed open' empty quiet)),
      State.pairSt_setPair pair (by decide), rfl, rfl, Table.get_set_same .., rfl, rfl⟩⟩
  · rw [exec_mgtWdog, doMgtWdog, none', unsent]
    exact congrArg _ (if_neg (Nat.not_lt.2 late))
  · rw [exec_mgtWdog, doMgtWdog]
    split
    next t none' unsent => exact absurd unsent (no.resolve_left fun h => nomatch h.symm.trans none')
    next => rfl
  · rintro ⟨x, sent, late, off, reset⟩
    rw [exec_mwdrstReset, doMwdrstReset, sent]
    dsimp only
    rw [if_neg (not_or.2 ⟨by rw [off]; exact Bool.false_ne_true, by omega⟩)]
  · intro early
    rw [exec_mwdrstReset, doMwdrstReset]
    split
    next => rfl
    next t sent =>
      refine congrArg _ (if_pos ?_)
      by_contra live
      rw [not_or, not_or, Bool.not_eq_true] at live
      have := s.fld_lt (regMg 4) 15 15
      exact early ⟨t, sent, by omega, live.1, by omega⟩
  · have wf := below_and_below (show b0 < 101 by omega) (show b1 < 101 by omega)
    refine ⟨fun off => (exec_shedWindow wf).trans (congrArg _ (doShedWindow_off off)), fun serves => ?_⟩
    obtain ⟨up, same, count, down⟩ := doShedWindow_serving (b0 := b0) (b1 := b1) serves
    exact ⟨_, exec_shedWindow wf, up, same, count, down, doShedWindow_keeps⟩

end Sys2Proof.Machine
end

section
/-! PROOFS. Outputs and Footbridge (O40): enabling, a run and its end, faults and known-answer runs. -/

namespace Sys2Proof.Machine

/-! ### The first register of an output -/

/-- A masked first register keeps the fields the mask holds. -/
theorem bitsOf_and {x m hi lo : Nat} (inside : bitsOf m hi lo = 2 ^ (hi + 1 - lo) - 1) :
    bitsOf (x &&& m) hi lo = bitsOf x hi lo := by
  unfold bitsOf at inside ⊢
  rw [Nat.and_div_two_pow, Nat.and_mod_two_pow, inside, Nat.and_two_pow_sub_one_eq_mod, Nat.mod_mod]

section
variable {s : State} {o : Nat} {v : Word32}

/-- A write of a set-up that is enabled. -/
theorem doOutputEnable_on (out : o < 32) (on : s.fld (regKso o 0) 31 31 = 1) :
    doOutputEnable o v s = if bitOf v.toNat 31 then s else s.setFld (regKso o 0) 31 31 0 := by
  unfold doOutputEnable
  dsimp only
  rw [if_pos out, if_pos on, if_pos out]

theorem doOutputEnable_off (out : o < 32) (off : s.fld (regKso o 0) 31 31 = 0) :
    doOutputEnable o v s = (if bitOf v.toNat 31 = true then
        (if (s.setReg (regKso o 0) (v &&& 0x7FFFFF00)).outBad o = true then (s.setReg (regKso o 0) (v &&& 0x7FFFFF00)).ksErr
        else (s.setReg (regKso o 0) (v &&& 0x7FFFFF00)).setFld (regKso o 0) 31 31 1)
      else s.setReg (regKso o 0) (v &&& 0x7FFFFF00)) := by
  unfold doOutputEnable
  dsimp only
  rw [if_pos out, if_neg (by omega), if_pos out]
  cases bitOf v.toNat 31
  · exact (if_pos rfl).trans (if_neg Bool.false_ne_true).symm
  · exact ((if_neg Bool.false_ne_true).trans (if_pos out)).trans (if_pos rfl).symm

theorem doOutputEnable_fbOn (on : s.fld (regKs 0xA00) 31 31 = 1) :
    doOutputEnable 32 v s = if bitOf v.toNat 31 then s
      else { s.setFld (regKs 0xA00) 31 31 0 with saf := { (s.setFld (regKs 0xA00) 31 31 0).saf with fbRun := none } } := if_pos on

/-- The state Footbridge starts in. -/
def State.fbStart (s : State) : State :=
  { s.setFld (regKs 0xA00) 31 31 1 with
    saf := { s.saf with
      lidCopy := (upTo 7).map (fun i => s.reg (regIp (0x4000 + 0x80 * (s.fld (regKs 0xA00) 22 16 - 64) + 4 * i))),
      fbNo := 0, fbFire := [], fbAz := none, fbRev := none, fbRun := none } }

theorem doOutputEnable_fbOff (off : s.fld (regKs 0xA00) 31 31 = 0) :
    doOutputEnable 32 v s = (let u := s.setReg (regKs 0xA00) (v &&& 0x7E7F0000)
      if bitOf v.toNat 31 = true then
        (if u.fld (regKs 0xA00) 22 16 < 64 ∨ 95 < u.fld (regKs 0xA00) 22 16 ∨ u.fld (regKs 0xA08) 1 1 = 0 then u.ksErr else u.fbStart)
      else u) := by
  refine (if_neg (by omega : ¬ s.fld (regKs 0xA00) 31 31 = 1)).trans ?_
  cases bitOf v.toNat 31
  · exact (if_pos rfl).trans (if_neg Bool.false_ne_true).symm
  · exact (if_neg Bool.false_ne_true).trans (if_pos rfl).symm

theorem State.fld_ksErr : s.ksErr.fld (regKs 4) 8 8 = 1 := State.fld_setFld _ _ _ (Nat.le_refl 8) (by decide)

theorem State.fld_ksErr_ne {off hi lo : Nat} (other : regKs 4 ≠ off) : s.ksErr.fld off hi lo = s.fld off hi lo :=
  State.fld_setFld_ne _ other ..

theorem State.fbStart_on : s.fbStart.fld (regKs 0xA00) 31 31 = 1 :=
  (State.fld_of_regs rfl ..).trans (State.fld_setFld _ _ _ (Nat.le_refl 31) (by decide))

theorem State.fld_setReg_and (m : Word32) {hi lo : Nat} {o : Nat} (inside : bitsOf m.toNat hi lo = 2 ^ (hi + 1 - lo) - 1) :
    (s.setReg o (v &&& m)).fld o hi lo = bitsOf v.toNat hi lo := by
  rw [State.fld, State.reg_setReg_same, BitVec.toNat_and, bitsOf_and inside]

theorem State.fld_setReg_clear (m : Word32) {hi lo : Nat} {o : Nat} (inside : bitsOf m.toNat hi lo = 0) :
    (s.setReg o (v &&& m)).fld o hi lo = 0 := by
  rw [State.fld, State.reg_setReg_same, BitVec.toNat_and]
  unfold bitsOf at inside ⊢
  rw [Nat.and_div_two_pow, Nat.and_mod_two_pow, inside, Nat.and_zero]

/-- What a write of the first register of output `o` leaves. -/
theorem doOutputEnable_output (out : o < 32) :
    (s.fld (regKso o 0) 31 31 = 1 → (doOutputEnable o v s).fld (regKso o 0) 31 31 = bitsOf v.toNat 31 31
        ∧ (doOutputEnable o v s).fld (regKso o 0) 30 0 = s.fld (regKso o 0) 30 0)
      ∧ (doOutputEnable o v s).net = s.net ∧ (doOutputEnable o v s).mem = s.mem ∧ (doOutputEnable o v s).clusters = s.clusters
      ∧ (doOutputEnable o v s).decs = s.decs := by
  have bit := s.fld_lt (regKso o 0) 31 31
  obtain off | on : s.fld (regKso o 0) 31 31 = 0 ∨ s.fld (regKso o 0) 31 31 = 1 := by omega
  · refine ⟨fun on => absurd on (by omega), ?_⟩
    rw [doOutputEnable_off out off]
    split_ifs <;> exact ⟨rfl, rfl, rfl, rfl⟩
  · rw [doOutputEnable_on out on]
    cases set' : bitOf v.toNat 31
    · rw [if_neg Bool.false_ne_true, bitsOf_of_not_bitOf set']
      exact ⟨fun _ => ⟨State.fld_setFld _ _ _ (Nat.le_refl 31) (by decide),
        State.fld_setFld_disjoint _ _ _ (Nat.le_refl 31) (by decide) (by decide) (by decide)⟩, rfl, rfl, rfl, rfl⟩
    · rw [if_pos rfl, bitsOf_of_bitOf set']
      exact ⟨fun on => ⟨on, rfl⟩, rfl, rfl, rfl, rfl⟩

theorem doOutputEnable_keeps :
    (doOutputEnable 32 v s).net = s.net ∧ (doOutputEnable 32 v s).mem = s.mem ∧ (doOutputEnable 32 v s).clusters = s.clusters := by
  have bit := s.fld_lt (regKs 0xA00) 31 31
  obtain off | on : s.fld (regKs 0xA00) 31 31 = 0 ∨ s.fld (regKs 0xA00) 31 31 = 1 := by omega
  · rw [doOutputEnable_fbOff off]
    dsimp only
    split_ifs <;> exact ⟨rfl, rfl, rfl⟩
  · rw [doOutputEnable_fbOn on]
    split_ifs <;> exact ⟨rfl, rfl, rfl⟩

/-- Footbridge starts where a loaded network and a stream of 64 to 95 allow it. -/
theorem doOutputEnable_footbridge (off : s.fld (regKs 0xA00) 31 31 = 0) :
    ((doOutputEnable 32 v s).fld (regKs 0xA00) 31 31 = 1 ↔ bitOf v.toNat 31 = true ∧ 64 ≤ bitsOf v.toNat 22 16
        ∧ bitsOf v.toNat 22 16 ≤ 95 ∧ s.fld (regKs 0xA08) 1 1 = 1)
      ∧ (bitOf v.toNat 31 = true → (doOutputEnable 32 v s).fld (regKs 0xA00) 31 31 = 0 →
        (doOutputEnable 32 v s).fld (regKs 4) 8 8 = 1) := by
  have stream : (s.setReg (regKs 0xA00) (v &&& 0x7E7F0000)).fld (regKs 0xA00) 22 16 = bitsOf v.toNat 22 16 :=
    State.fld_setReg_and _ (by decide)
  have clear : (s.setReg (regKs 0xA00) (v &&& 0x7E7F0000)).fld (regKs 0xA00) 31 31 = 0 := State.fld_setReg_clear _ (by decide)
  have loaded : (s.setReg (regKs 0xA00) (v &&& 0x7E7F0000)).fld (regKs 0xA08) 1 1 = s.fld (regKs 0xA08) 1 1 := by
    rw [State.fld, State.reg_setReg_ne _ _ (by decide), State.fld]
  have bit := s.fld_lt (regKs 0xA08) 1 1
  rw [doOutputEnable_fbOff off]
  generalize s.setReg (regKs 0xA00) (v &&& 0x7E7F0000) = u at stream clear loaded ⊢
  dsimp only
  by_cases set' : bitOf v.toNat 31 = true
  · rw [if_pos set']
    split
    next bad =>
      refine ⟨iff_of_false ?_ (by omega), fun _ _ => State.fld_ksErr⟩
      rw [State.fld_ksErr_ne (by decide), clear]
      decide
    next good => exact ⟨iff_of_true State.fbStart_on ⟨set', by omega⟩, fun _ off => absurd (State.fbStart_on.symm.trans off) (by decide)⟩
  · rw [if_neg set', clear]
    exact ⟨iff_of_false (by decide) fun h => set' h.1, fun h => absurd h set'⟩

/-! ### Footbridge -/

theorem State.fbDown_iff : s.fbDown = true ↔ s.fld (regKs 4) 7 7 = 1 := decide_eq_true_iff

theorem State.fbDown_setFbDown (b : Bool) : (s.setFbDown b).fbDown = b := by
  rw [Bool.eq_iff_iff, State.fbDown_iff, State.setFbDown, State.fld_setFld_ne _ (by decide),
    State.fld_setFld _ _ _ (Nat.le_refl 7) (by decide)]
  cases b <;> decide

theorem State.fld_setFbDown (b : Bool) {hi lo : Nat} (le : lo ≤ hi) (top : hi < 32) (above : 0 < lo) :
    (s.setFbDown b).fld (regKs 0xA08) hi lo = s.fld (regKs 0xA08) hi lo := by
  rw [State.setFbDown, State.fld_setFld_disjoint _ _ _ (Nat.le_refl 0) le top (.inl above), State.fld_setFld_ne _ (by decide)]

theorem State.ks_setFbDown (b : Bool) : (s.setFbDown b).ks = s.ks := by
  rw [State.setFbDown, State.ks, State.fld_setFld_ne _ (by decide),
    State.fld_setFld_disjoint _ _ _ (Nat.le_refl 7) (by decide) (by decide) (by decide), State.ks]

/-- What FB-FAULT leaves. -/
structure FbFaulted (s t : State) : Prop where
  down : t.fbDown = true
  shown : t.fld (regKs 0xA08) 0 0 = 1
  rest : t.fld (regKs 0xA08) 2 2 = s.fld (regKs 0xA08) 2 2
  net : t.net.length = s.net.length + 1
  ks : t.ks = s.ks
  mem : t.mem = s.mem
  clusters : t.clusters = s.clusters

theorem State.fbFault_faulted (why : Nat) : FbFaulted s (s.fbFault why) := by
  have regs : (s.fbFault why).regs = ((s.send fbSrc 0xA7 why true []).setFbDown true).regs := rfl
  have net : (s.fbFault why).net = (s.send fbSrc 0xA7 why true []).net := rfl
  have mem : (s.fbFault why).mem = s.mem := rfl
  have clusters : (s.fbFault why).clusters = s.clusters := rfl
  generalize s.fbFault why = t at regs net mem clusters ⊢
  refine ⟨?_, ?_, ?_, ?_, ?_, mem, clusters⟩
  · rw [State.fbDown_iff, State.fld_of_regs regs, ← State.fbDown_iff, State.fbDown_setFbDown]
  · rw [State.fld_of_regs regs, State.setFbDown, State.fld_setFld _ _ _ (Nat.le_refl 0) (by decide)]
    rfl
  · rw [State.fld_of_regs regs, State.fld_setFbDown _ (Nat.le_refl 2) (by decide) (by decide), State.fld_send]
  · rw [net, State.send_net, List.length_append]
    rfl
  · rw [State.ks, State.fld_of_regs regs, ← State.ks, State.ks_setFbDown, State.ks, State.fld_send, State.ks]

theorem doFbFault_none {why : Nat} (residue : why ≠ 1) (memory : why ≠ 2) (bound : why ≠ 3) (gap : why ≠ 5) : doFbFault why s = s := by
  rw [doFbFault, if_neg bound, if_neg gap, if_neg (not_or.2 ⟨residue, memory⟩)]

/-- A fault of Footbridge in its condition. -/
theorem doFbFault_faulted {why : Nat} (found : why = 1 ∨ why = 2
    ∨ (why = 3 ∧ ∃ r, s.saf.fbRun = some r ∧ r.at_ + 500 * (s.fld (regKs 0xA08) 31 16 + 100) ≤ s.ticks)
    ∨ (why = 5 ∧ s.fld (regKs 0xA00) 31 31 = 1 ∧ ∃ a b, s.saf.fbFire = [a, b] ∧ a + 2 * (a - b) < s.ticks)) :
    FbFaulted s (doFbFault why s) := by
  obtain rfl | rfl | ⟨rfl, r, run, late⟩ | ⟨rfl, on, a, b, fired, late⟩ := found
  · exact State.fbFault_faulted 1
  · exact State.fbFault_faulted 2
  · rw [doFbFault, if_pos rfl, run]
    dsimp only
    rw [if_pos late]
    have faulted := State.fbFault_faulted (s := { s with saf := { s.saf with fbRun := none } }) 3
    exact ⟨faulted.down, faulted.shown, faulted.rest, faulted.net, faulted.ks, faulted.mem, faulted.clusters⟩
  · rw [doFbFault, if_neg (by decide), if_pos rfl, fired]
    dsimp only
    rw [if_pos ⟨decide_eq_true on, late⟩]
    have faulted := State.fbFault_faulted (s := { s with saf := { s.saf with fbFire := [] } }) 5
    exact ⟨faulted.down, faulted.shown, faulted.rest, faulted.net, faulted.ks, faulted.mem, faulted.clusters⟩

/-- A record of FB-FAULT is open, or its message is on its way. -/
def State.fbFaultOpen (s : State) : Prop :=
  (∃ r, r ∈ s.fc.recs.rows ∧ r.2.msg.toNat / 2 ^ 44 = fbSrc * 256 + 0xA7)
    ∨ ∃ m, m ∈ s.net ∧ m.bits.toNat / 2 ^ 44 = fbSrc * 256 + 0xA7

theorem State.fbFaultOpen_iff :
    (s.fc.recs.rows.any (fun r => decide (r.2.msg.toNat / 2 ^ 44 = fbSrc * 256 + 0xA7))
      || s.net.any (fun m => decide (m.bits.toNat / 2 ^ 44 = fbSrc * 256 + 0xA7))) = true ↔ s.fbFaultOpen := by
  simp only [Bool.or_eq_true, List.any_eq_true, decide_eq_true_eq, State.fbFaultOpen]

section
variable (idle : s.saf.fbRun = none) (loaded : s.fld (regKs 0xA08) 1 1 = 1)
include idle loaded

theorem doKnownAnswerRun_fails : doKnownAnswerRun false s = (s.setFld (regKs 0xA08) 2 2 0).fbFault 4 := by
  unfold doKnownAnswerRun
  rw [idle, if_neg (by rw [loaded]; decide)]
  exact if_pos rfl

theorem doKnownAnswerRun_passes :
    ((doKnownAnswerRun true s).fbDown = true ↔ s.fbDown = true ∧ s.fbFaultOpen)
      ∧ (doKnownAnswerRun true s).fld (regKs 0xA08) 2 2 = 1 ∧ (doKnownAnswerRun true s).net = s.net
      ∧ (doKnownAnswerRun true s).mem = s.mem := by
  have down : (s.setFld (regKs 0xA08) 2 2 1).fbDown = s.fbDown := by
    rw [State.fbDown, State.fld_setFld_ne _ (by decide), State.fbDown]
  have tested : (s.setFld (regKs 0xA08) 2 2 1).fld (regKs 0xA08) 2 2 = 1 := State.fld_setFld _ _ _ (Nat.le_refl 2) (by decide)
  have found : (s.setFld (regKs 0xA08) 2 2 1).fbFaultOpen ↔ s.fbFaultOpen := Iff.rfl
  have net : (s.setFld (regKs 0xA08) 2 2 1).net = s.net := rfl
  have mem : (s.setFld (regKs 0xA08) 2 2 1).mem = s.mem := rfl
  unfold doKnownAnswerRun
  rw [idle, if_neg (by rw [loaded]; decide), if_neg (by decide)]
  dsimp only
  generalize s.setFld (regKs 0xA08) 2 2 1 = u at down tested found net mem ⊢
  rw [← down, ← found, ← State.fbFaultOpen_iff, ← net, ← mem]
  split
  next clears =>
    refine ⟨iff_of_false ?_ fun h => ?_, ?_, rfl, rfl⟩
    · rw [State.fbDown_setFbDown]
      exact Bool.false_ne_true
    · exact Bool.false_ne_true (clears.2.symm.trans h.2)
    · rw [State.fld_setFbDown _ (Nat.le_refl 2) (by decide) (by decide), tested]
  next stays =>
    exact ⟨⟨fun isDown => ⟨isDown, by_contra fun none => stays ⟨isDown, Bool.eq_false_iff.2 none⟩⟩, fun h => h.1⟩, tested, rfl, rfl⟩

end

/-- A firing takes inputs; they are usable only where every used camera has a valid one within the age limit. -/
theorem doFootbridgeRun_on (on : s.fld (regKs 0xA00) 31 31 = 1) :
    ∃ r, doFootbridgeRun s = { s with saf := { s.saf with fbRun := some r, fbFire := (s.ticks :: s.saf.fbFire).take 2 } }
      ∧ r.at_ = s.ticks
      ∧ (r.ok = true → ∀ k, k < 4 → s.fld (regKs 0xA04) (8 * k + 7) (8 * k + 7) = 1 →
        ∃ x, lookup s.saf.fbCams.rows (s.fld (regKs 0xA04) (8 * k + 5) (8 * k)) = some x ∧ x.2.2 = true
          ∧ s.age10 x.2.1 ≤ s.fld (regKso 0 8) 31 16) := by
  refine ⟨_, if_neg (by rw [State.fbOn, decide_eq_true on]; decide), rfl, fun ok k small used => ?_⟩
  have every := List.all_eq_true.1 (Bool.and_eq_true_iff.1 ok).1 (lookup s.saf.fbCams.rows (s.fld (regKs 0xA04) (8 * k + 5) (8 * k)))
    (List.mem_map.2 ⟨k, List.mem_filter.2 ⟨List.mem_range.2 small, decide_eq_true used⟩, rfl⟩)
  revert every
  cases lookup s.saf.fbCams.rows (s.fld (regKs 0xA04) (8 * k + 5) (8 * k)) with
  | none => exact nofun
  | some x =>
    intro good
    obtain ⟨valid, young⟩ := Bool.and_eq_true_iff.1 good
    exact ⟨x, rfl, valid, of_decide_eq_true young⟩

/-- The record of a run that ends. -/
theorem doFootbridgeRunEnd_run {r : _} (run : s.saf.fbRun = some r) (after : r.at_ ≤ s.ticks) :
    ∃ x, (doFootbridgeRunEnd s).saf.fbRec = some x ∧ x.frame = s.saf.fbNo ∧ x.time = r.time
      ∧ x.flags = r.flags + (if r.ok then 1 else 0) ∧ (doFootbridgeRunEnd s).saf.fbRun = none
      ∧ (doFootbridgeRunEnd s).saf.fbNo = (s.saf.fbNo + 1) % 2 ^ 32
      ∧ (doFootbridgeRunEnd s).reg (regKs 0xA0C) = BitVec.ofNat 32 s.saf.fbNo ∧ (doFootbridgeRunEnd s).net = s.net
      ∧ (doFootbridgeRunEnd s).mem = s.mem ∧ (doFootbridgeRunEnd s).clusters = s.clusters := by
  rw [doFootbridgeRunEnd, run]
  dsimp only
  rw [if_neg (Nat.not_lt.2 after)]
  exact ⟨_, rfl, rfl, rfl, rfl, rfl, rfl, State.reg_setReg_same .., rfl, rfl, rfl⟩

end

/-- Settles O40: each command by the branches of its condition. -/
theorem outputsAndFootbridge : Obligations.OutputsAndFootbridge := by
  unfold Obligations.OutputsAndFootbridge
  intro s
  refine ⟨fun o v out => ?_, fun v => ?_, fun off => ?_, fun on => ?_, fun idle => ?_, fun r run after => ?_,
    fun why byte residue memory bound gap => ?_, fun why found => ?_, fun pass cold => ?_, fun idle loaded => ⟨?_, ?_⟩⟩
  · obtain ⟨on, net, mem, clusters, decs⟩ := doOutputEnable_output (s := s) (v := v) out
    refine ⟨_, exec_outputEnable (decide_eq_true (by omega)), on, fun off => ?_, net, mem, clusters, decs⟩
    rw [doOutputEnable_off out off]
    refine ⟨fun clear => ?_, fun set' bad => ?_, fun set' good => ?_⟩
    · rw [clear, if_neg Bool.false_ne_true]
    · rw [set', if_pos rfl, if_pos bad, State.ksErr]
    · rw [set', if_pos rfl, good, if_neg Bool.false_ne_true]
  · refine ⟨_, exec_outputEnable rfl, fun on => ?_, doOutputEnable_footbridge, ?_⟩
    · rw [doOutputEnable_fbOn on]
      cases set' : bitOf v.toNat 31
      · rw [if_neg Bool.false_ne_true, bitsOf_of_not_bitOf set']
        exact ⟨(State.fld_of_regs rfl ..).trans (State.fld_setFld _ _ _ (Nat.le_refl 31) (by decide)), fun _ => rfl⟩
      · rw [if_pos rfl, bitsOf_of_bitOf set']
        exact ⟨on, nofun⟩
    · exact doOutputEnable_keeps
  · exact congrArg _ (if_pos (by rw [State.fbOn, off]; decide))
  · obtain ⟨r, ran, at', usable⟩ := doFootbridgeRun_on on
    exact ⟨_, r, exec_footbridgeRun.trans (congrArg _ ran), rfl, at', usable, rfl, rfl, rfl, rfl, rfl⟩
  · rw [exec_footbridgeRunEnd, doFootbridgeRunEnd, idle]
  · obtain ⟨x, rest⟩ := doFootbridgeRunEnd_run run after
    exact ⟨_, x, exec_footbridgeRunEnd, rest⟩
  · rw [exec_fbFault (decide_eq_true byte), doFbFault_none residue memory bound gap]
  · have byte : why < 256 := by omega
    obtain ⟨down, shown, _, net, ks, mem, clusters⟩ := doFbFault_faulted found
    exact ⟨_, exec_fbFault (decide_eq_true byte), down, shown, net, ks, mem, clusters⟩
  · refine congrArg _ (if_pos (cold.imp (fun run => ?_) id))
    exact Option.isSome_iff_ne_none.2 run
  · obtain ⟨down, _, rest, net, _, mem, _⟩ := State.fbFault_faulted (s := s.setFld (regKs 0xA08) 2 2 0) 4
    refine ⟨_, exec_knownAnswerRun.trans (congrArg _ (doKnownAnswerRun_fails idle loaded)), down, rest.trans ?_, net, mem⟩
    exact State.fld_setFld _ _ _ (Nat.le_refl 2) (by decide)
  · obtain ⟨down, tested, net, mem⟩ := doKnownAnswerRun_passes idle loaded
    exact ⟨_, exec_knownAnswerRun, tested, net, mem, down⟩

end Sys2Proof.Machine
end

section
/-! PROOFS. Tasks of the management complex (O47): telemetry, the Span Table's firmware fields, dump moves and the host's report. -/

namespace Sys2Proof.Machine

/-! ### Bytes -/

theorem take_leBytes {n k : Nat} (le : k ≤ n) (v : Nat) : (leBytes n v).take k = leBytes k v := by
  induction k generalizing n v with
  | zero => rfl
  | succ k ih =>
    obtain ⟨m, rfl⟩ : ∃ m, n = m + 1 := ⟨n - 1, by omega⟩
    rw [leBytes, List.take_succ_cons, ih (by omega), leBytes]

/-- A field that begins where a part of the bytes does. -/
theorem fieldAt_append {a b c : List Byte} {off n : Nat} (start : a.length = off) (long : n ≤ b.length) :
    fieldAt (a ++ (b ++ c)) off n = leNat (b.take n) := by
  rw [fieldAt, List.drop_left' start, List.take_append_of_le_length long]

theorem length_timeBytes (t : Nat) : (timeBytes t).length = 16 := by
  simp only [timeBytes, List.length_append, Tests.leBytes_length]

theorem packBits_succ (n : Nat) (f : Nat → Bool) : packBits (n + 1) f = if f n then packBits n f + 2 ^ n else packBits n f := by
  rw [packBits, upTo, List.range_succ, List.foldl_append]
  rfl

theorem packBits_lt (n : Nat) (f : Nat → Bool) : packBits n f < 2 ^ n := by
  induction n with
  | zero => exact Nat.one_pos
  | succ n ih =>
    rw [packBits_succ, Nat.pow_succ]
    split <;> omega

/-- A word of bits has the bits it was packed from. -/
theorem bitOf_packBits {n c : Nat} (f : Nat → Bool) (inside : c < n) : bitOf (packBits n f) c = f c := by
  rw [bitOf_eq_testBit]
  induction n with
  | zero => exact absurd inside (Nat.not_lt_zero c)
  | succ n ih =>
    have below := packBits_lt n f
    rw [packBits_succ]
    by_cases last : c = n
    · subst last
      have clear := Nat.testBit_lt_two_pow below
      cases f c
      · exact clear
      · rw [if_pos rfl, Nat.add_comm, Nat.testBit_two_pow_add_eq, clear]
        rfl
    · have lower : c < n := by omega
      split
      · rw [Nat.add_comm, Nat.testBit_two_pow_add_gt lower, ih lower]
      · exact ih lower

/-! ### TELEMETRY (R548) -/

section
variable {s : State}

/-- The body of a telemetry frame after its time. -/
def State.telRest (s : State) : List Byte :=
  (upTo 5).flatMap (fun d => leBytes 1 (s.fld (regTj d) 31 24))
    ++ (upTo 2).flatMap (fun st => leBytes 1 (s.fld (regHbs st 0x14) 7 0))
    ++ leBytes 1 s.shed ++ leBytes 2 (s.fld (regPw 0x10) 31 16) ++ leBytes 2 (s.fld (regPw 0x10) 15 0) ++ leBytes 1 s.ks
    ++ leBytes 1 (s.fld (regFc 4) 31 24) ++ leBytes 2 0 ++ leBytes 8 (packBits 64 (fun c => s.clOut c)) ++ leBytes 4 s.logSeq

theorem doTelemetry_quiet (quiet : s.shed ≠ 0 ∨ s.serves = false ∨ s.fld (regTw 0) 0 0 = 0) : doTelemetry s = s := if_pos quiet

/-- The frame that TELEMETRY sends: 14 bytes before its head, then the head, the time and the rest. -/
theorem doTelemetry_sends (sent : ¬ (s.shed ≠ 0 ∨ s.serves = false ∨ s.fld (regTw 0) 0 0 = 0)) :
    ∃ pre n, pre.length = 14
      ∧ doTelemetry s = { s with freeCount := s.freeCount + 1, mg := { s.mg with
          out := s.mg.out ++ [pre ++ (twHead 0 0x40 0 s.mg.telSeq n ++ (timeBytes s.now ++ s.telRest))]
          telSeq := (s.mg.telSeq + 1) % 2 ^ 32 } } := by
  refine ⟨Config.freeBytes s.freeCount 6 ++ (leBytes 6 s.twMac).reverse
    ++ [BitVec.ofNat 8 (s.fld (regMg 0xC) 15 0 / 256), BitVec.ofNat 8 (s.fld (regMg 0xC) 15 0)],
    (timeBytes s.now ++ s.telRest).length, ?_, (if_neg sent).trans ?_⟩
  · simp only [List.length_append, length_freeBytes, List.length_reverse, Tests.leBytes_length, List.length_cons, List.length_nil]
  · simp only [State.twFrame, State.telRest, List.append_assoc]
    rfl

theorem length_twHead (cls op status seq len : Nat) : (twHead cls op status seq len).length = 16 := by
  simp only [twHead, List.length_append, Tests.leBytes_length, List.length_replicate]

/-- A frame after its 14 bytes: the head's first eight bytes, then what stands from byte 22 on. -/
theorem drop_frame {pre x y : List Byte} (start : pre.length = 14) (eight : x.length = 8) :
    (pre ++ (x ++ y)).drop 14 = x ++ (pre ++ (x ++ y)).drop 22 := by
  rw [show 22 = 14 + 8 from rfl, ← List.drop_drop, List.drop_left' start, List.drop_left' eight]

/-! ### SPANREF (R580, R584) -/

/-- A new list of reserved ranges that is refused. -/
def State.rangesBad (s : State) (l : List (Nat × Nat × Nat × Nat)) : Prop :=
  31 < l.length ∨ ∃ r, r ∈ l ∧ r ∉ s.mg.ranges ∧ s.rangeBad r = true

theorem State.rangesBad_iff (l : List (Nat × Nat × Nat × Nat)) :
    (decide (31 < l.length) || l.any (fun r => !s.mg.ranges.contains r && s.rangeBad r)) = true ↔ s.rangesBad l := by
  simp only [Bool.or_eq_true, decide_eq_true_eq, List.any_eq_true, Bool.and_eq_true, Bool.not_eq_true', List.contains_eq_mem,
    decide_eq_false_iff_not, State.rangesBad]

/-- The list is taken or refused whole. -/
def State.newRanges (s : State) (l : List (Nat × Nat × Nat × Nat)) : State :=
  let bad := decide (31 < l.length) || l.any (fun r => !s.mg.ranges.contains r && s.rangeBad r)
  let u := { s with mg := { s.mg with updcnt := (s.mg.updcnt + 2) % 2 ^ 32 } }
  if bad then u.sendEv 0x400 0x28 0 else { u with mg := { u.mg with ranges := l } }

/-- RELIEF and RTS are refreshed. -/
def State.freshen (s : State) : State :=
  { s with mg := { s.mg with
    updcnt := (s.mg.updcnt + 2) % 2 ^ 32
    relief := packBits 64 (fun c => (s.relief.filterMap (fun h => s.hostOf h)).contains c), rts := s.now } }

theorem doSpanref_off (list : Option (List (Nat × Nat × Nat × Nat))) (off : s.serves = false) : doSpanref list s = s :=
  if_pos (by rw [off]; rfl)

theorem doSpanref_some (serves : s.serves = true) (l : List (Nat × Nat × Nat × Nat)) :
    doSpanref (some l) s = if 3 ≤ (s.newRanges l).shed then s.newRanges l else (s.newRanges l).freshen :=
  if_neg (by rw [serves]; decide)

theorem doSpanref_none (serves : s.serves = true) : doSpanref none s = if 3 ≤ s.shed then s else s.freshen :=
  if_neg (by rw [serves]; decide)

theorem State.newRanges_leaves (l : List (Nat × Nat × Nat × Nat)) :
    (s.rangesBad l → (s.newRanges l).mg.ranges = s.mg.ranges ∧ (s.newRanges l).net.length = s.net.length + 1)
      ∧ (¬ s.rangesBad l → (s.newRanges l).mg.ranges = l ∧ (s.newRanges l).net = s.net)
      ∧ (s.newRanges l).regs = s.regs ∧ (s.newRanges l).mem = s.mem ∧ (s.newRanges l).clusters = s.clusters := by
  rw [← State.rangesBad_iff]
  unfold State.newRanges
  dsimp only
  split
  next bad => exact ⟨fun _ => ⟨rfl, List.length_append⟩, fun good => absurd bad good, rfl, rfl, rfl⟩
  next good => exact ⟨fun bad => absurd bad good, fun _ => ⟨rfl, rfl⟩, rfl, rfl, rfl⟩

theorem State.freshen_relief {c : Nat} (small : c < 64) :
    bitOf s.freshen.mg.relief c = true ↔ ∃ h, h ∈ s.relief ∧ s.hostOf h = some c := by
  unfold State.freshen
  dsimp only
  rw [bitOf_packBits _ small, List.contains_iff_mem, List.mem_filterMap]

/-! ### MB_GO (R545, R546) -/

/-- States that differ in the host's report control alone, as far as a report reads them. -/
structure MbFrame (s t : State) : Prop where
  reg : ∀ off, off ≠ regMg 0x120 → t.reg off = s.reg off
  mg : t.mg = s.mg
  time : t.time = s.time
  replayTime : t.replayTime = s.replayTime
  net : t.net = s.net
  mem : t.mem = s.mem
  clusters : t.clusters = s.clusters

theorem MbFrame.refl (s : State) : MbFrame s s := ⟨fun _ _ => rfl, rfl, rfl, rfl, rfl, rfl, rfl⟩

theorem MbFrame.setFld {t : State} (f : MbFrame s t) (hi lo v : Nat) : MbFrame s (t.setFld (regMg 0x120) hi lo v) := by
  obtain ⟨reg, mg, time, replayTime, net, mem, clusters⟩ := f
  refine ⟨fun off other => ?_, mg, time, replayTime, net, mem, clusters⟩
  rw [State.setFld_eq, State.reg_setReg_ne _ _ other.symm, reg off other]

section
variable {t : State} (f : MbFrame s t)
include f

theorem MbFrame.fld {off : Nat} (other : off ≠ regMg 0x120) (hi lo : Nat) : t.fld off hi lo = s.fld off hi lo := by
  rw [State.fld, f.reg off other, State.fld]

theorem MbFrame.serves : t.serves = s.serves := by
  unfold State.serves State.pairSt
  rw [f.fld (by decide), f.fld (by decide)]

theorem MbFrame.now : t.now = s.now := by
  unfold State.now State.mode
  rw [f.fld (by decide), f.time, f.replayTime]

theorem MbFrame.attest (nonce : List Byte) : t.attest nonce = s.attest nonce := by
  simp (disch := decide) only [State.attest, State.ks, f.fld, f.mg, f.now]

end

/-- The nonce that the host wrote. -/
def State.nonce (s : State) : List Byte := (upTo 8).flatMap (fun i => leBytes 4 (s.reg (regMg (0x100 + 4 * i))).toNat)

theorem MbFrame.nonce {t : State} (f : MbFrame s t) : t.nonce = s.nonce := by
  refine List.flatMap_congr fun i inside => ?_
  have small := List.mem_range.1 inside
  rw [f.reg _ (by unfold regMg; omega)]

theorem length_flatMap_upTo {f : Nat → List Byte} {k : Nat} (each : ∀ i, (f i).length = k) (n : Nat) :
    ((upTo n).flatMap f).length = n * k := by
  rw [List.length_flatMap, List.map_congr_left (fun i _ => each i), List.map_const', List.sum_replicate, upTo, List.length_range,
    smul_eq_mul]

/-- The first bytes of a report: its magic, four bytes, the serial number. -/
theorem State.attest_head (nonce : List Byte) :
    ∃ four rest, four.length = 4
      ∧ s.attest nonce = leBytes 4 0x54415947 ++ (four ++ (leBytes 8 Config.serial.toNat ++ rest)) := by
  refine ⟨leBytes 1 1 ++ leBytes 1 (if s.fld (regMg 0) 9 9 = 1 then 0xFF else s.fld (regMg 0) 8 8)
    ++ leBytes 2 (s.fld (regMg 0x10) 15 0), ?_⟩
  unfold State.attest
  dsimp only
  simp only [List.append_assoc, List.append_cancel_left_eq]
  exact ⟨_, rfl, rfl⟩

/-- A report placed in the registers, DONE set. -/
def State.placed (s : State) (r : List Byte) : State :=
  (upTo 100).foldl (fun (s : State) i => s.setReg (regMg (0x200 + 4 * i)) (BitVec.ofNat 32 (fieldAt r (4 * i) 4))) s

theorem State.placeReport_eq :
    s.placeReport = { (s.placed (s.attest s.nonce)).setFld (regMg 0x120) 1 1 1 with
      mg := { (s.placed (s.attest s.nonce)).mg with repWait := false } } := rfl

/-- Registers written in turn at offsets of their own. -/
theorem State.reg_foldl_setReg {f : Nat → Nat} {g : Nat → Word32} {n : Nat} (apart : ∀ i j, i < n → j < n → f i = f j → i = j) {i : Nat}
    (inside : i < n) (s : State) :
    ((upTo n).foldl (fun (s : State) i => s.setReg (f i) (g i)) s).reg (f i) = g i := by
  induction n with
  | zero => exact absurd inside (Nat.not_lt_zero i)
  | succ n ih =>
    rw [upTo, List.range_succ, List.foldl_append]
    by_cases last : i = n
    · subst last
      exact State.reg_setReg_same ..
    · refine (State.reg_setReg_ne _ _ fun same => last ?_).trans (ih (fun i j hi hj => apart i j (by omega) (by omega)) (by omega))
      exact (apart n i (by omega) inside same).symm

theorem State.reg_placed (r : List Byte) {i : Nat} (inside : i < 100) :
    (s.placed r).reg (regMg (0x200 + 4 * i)) = BitVec.ofNat 32 (fieldAt r (4 * i) 4) :=
  State.reg_foldl_setReg (f := fun i => regMg (0x200 + 4 * i)) (g := fun i => BitVec.ofNat 32 (fieldAt r (4 * i) 4))
    (fun i j _ _ same => by unfold regMg at same; omega) inside s

theorem ofNat_mod_word (v : Nat) : BitVec.ofNat 32 (v % 256 ^ 4) = BitVec.ofNat 32 v := by
  rw [show 256 ^ 4 = 2 ^ 32 from rfl]
  exact BitVec.eq_of_toNat_eq (by rw [BitVec.toNat_ofNat, BitVec.toNat_ofNat, Nat.mod_mod])

theorem State.attest_magic (nonce : List Byte) : fieldAt (s.attest nonce) 0 4 = 0x54415947 := by
  obtain ⟨four, rest, _, eq⟩ := s.attest_head nonce
  rw [eq, ← List.nil_append (leBytes 4 _ ++ _), fieldAt_append (off := 0) rfl (Tests.leBytes_length ..).ge,
    take_leBytes (Nat.le_refl 4), Tests.leNat_leBytes]
  decide

theorem State.attest_serial (nonce : List Byte) : fieldAt (s.attest nonce) 8 4 = Config.serial.toNat % 256 ^ 4 := by
  obtain ⟨four, rest, length, eq⟩ := s.attest_head nonce
  rw [eq, ← List.append_assoc, fieldAt_append (by rw [List.length_append, Tests.leBytes_length, length])
    (by rw [Tests.leBytes_length]; decide), take_leBytes (by decide), Tests.leNat_leBytes]

/-- What the host reads once its report is placed. -/
structure ReportPlaced (s t : State) : Prop where
  done : t.fld (regMg 0x120) 1 1 = 1
  waits : t.mg.repWait = false
  magic : t.reg (regMg 0x200) = 0x54415947#32
  serial : t.reg (regMg 0x208) = BitVec.ofNat 32 Config.serial.toNat
  words : ∀ i, i < 100 → t.reg (regMg (0x200 + 4 * i)) = BitVec.ofNat 32 (fieldAt (s.attest s.nonce) (4 * i) 4)
  net : t.net = s.net
  mem : t.mem = s.mem
  clusters : t.clusters = s.clusters

theorem State.placeReport_placed : ReportPlaced s s.placeReport := by
  have word : ∀ i, i < 100 → (s.placed (s.attest s.nonce)).reg (regMg (0x200 + 4 * i))
      = BitVec.ofNat 32 (fieldAt (s.attest s.nonce) (4 * i) 4) := fun i inside => State.reg_placed _ inside
  obtain ⟨net, mem, clusters⟩ : (s.placed (s.attest s.nonce)).net = s.net ∧ (s.placed (s.attest s.nonce)).mem = s.mem
      ∧ (s.placed (s.attest s.nonce)).clusters = s.clusters := by
    obtain ⟨r, eq⟩ : ∃ r, s.placed (s.attest s.nonce) = { s with regs := r } := State.foldl_setReg_eq _ _ _ s
    rw [eq]
    exact ⟨rfl, rfl, rfl⟩
  rw [State.placeReport_eq]
  generalize s.placed (s.attest s.nonce) = p at word net mem clusters ⊢
  have regs : State.regs { p.setFld (regMg 0x120) 1 1 1 with mg := { p.mg with repWait := false } } =
    (p.setFld (regMg 0x120) 1 1 1).regs := rfl
  have words : ∀ i, i < 100 → State.reg { p.setFld (regMg 0x120) 1 1 1 with mg := { p.mg with repWait := false } } (regMg (0x200 + 4 * i))
      = BitVec.ofNat 32 (fieldAt (s.attest s.nonce) (4 * i) 4) := by
    intro i inside
    have other : regMg 0x120 ≠ regMg (0x200 + 4 * i) := by
      unfold regMg
      omega
    rw [State.reg_of_regs regs, State.setFld_eq, State.reg_setReg_ne _ _ other, word i inside]
  refine ⟨?_, rfl, (words 0 (by decide)).trans ?_, (words 2 (by decide)).trans ?_, words, net, mem, clusters⟩
  · rw [State.fld_of_regs regs]
    exact State.fld_setFld _ _ _ (Nat.le_refl 1) (by decide)
  · rw [Nat.mul_zero, State.attest_magic]
  · rw [State.attest_serial, ofNat_mod_word]

end

/-- A write of MB_CTL clears ERR first. -/
def State.mbCleared (s : State) (v : Word32) : State := if bitOf v.toNat 2 then s.setFld (regMg 0x120) 2 2 0 else s

section
variable {s : State} {v : Word32}

theorem State.mbCleared_frame : MbFrame s (s.mbCleared v) := by
  unfold State.mbCleared
  split
  · exact (MbFrame.refl s).setFld ..
  · exact .refl s

theorem doMbGo_idle (idle : bitOf v.toNat 0 = false) : doMbGo v s = s.mbCleared v := if_pos (by rw [idle]; rfl)

theorem doMbGo_waiting (go : bitOf v.toNat 0 = true) (waits : s.mg.repWait = true) :
    doMbGo v s = (s.mbCleared v).setFld (regMg 0x120) 2 2 1 := by
  have wait : (s.mbCleared v).mg.repWait = true := by rw [State.mbCleared_frame.mg, waits]
  exact (if_neg (by rw [go]; decide)).trans (if_pos wait)

theorem doMbGo_go (go : bitOf v.toNat 0 = true) (free : s.mg.repWait = false) :
    doMbGo v s = (let u := (s.mbCleared v).setFld (regMg 0x120) 1 1 0
      if s.serves then u.placeReport else { u with mg := { u.mg with repWait := true } }) := by
  have wait : ¬ (s.mbCleared v).mg.repWait = true := by
    rw [State.mbCleared_frame.mg, free]
    exact Bool.false_ne_true
  rw [← (State.mbCleared_frame.setFld 1 1 0 : MbFrame s ((s.mbCleared v).setFld (regMg 0x120) 1 1 0)).serves]
  exact (if_neg (by rw [go]; decide)).trans (if_neg wait)

end

/-- Settles O47: each task by its condition, and the report's bytes by their places. -/
theorem managementTasks : Obligations.ManagementTasks := by
  unfold Obligations.ManagementTasks
  intro s
  refine ⟨fun quiet => ?_, fun level serves up => ?_, fun l off => ?_, fun l serves => ?_, fun serves shed => ?_, fun serves some' => ?_,
    fun none' => ?_, fun d r dumps => ?_, fun v idle => ?_, fun v go waits => ?_, fun v go free off => ?_, fun v go free serves => ?_⟩
  · rw [exec_telemetry, doTelemetry_quiet quiet]
  · obtain ⟨pre, n, start, sent⟩ := doTelemetry_sends (s := s) (by rw [level, serves, up]; decide)
    refine ⟨_, _, exec_telemetry.trans (congrArg _ sent), rfl, ?_, ?_, rfl, rfl, rfl, rfl⟩
    · rw [twHead, List.append_assoc, List.append_assoc]
      exact drop_frame start (by simp only [List.length_append, Tests.leBytes_length])
    · rw [← List.append_assoc, List.drop_left' (by rw [List.length_append, start, length_twHead]), List.take_left' (length_timeBytes _)]
  · rw [exec_spanref, doSpanref_off _ off]
  · obtain ⟨bad, good, regs, mem, clusters⟩ := s.newRanges_leaves l
    refine ⟨_, exec_spanref, ?_⟩
    rw [doSpanref_some serves]
    split
    · exact ⟨bad, good, regs, mem, clusters⟩
    · exact ⟨bad, good, regs, mem, clusters⟩
  · rw [exec_spanref, doSpanref_none serves, if_pos shed]
  · refine ⟨_, exec_spanref.trans (congrArg _ ((doSpanref_none serves).trans (if_neg (by omega)))), rfl, rfl,
      fun c small => s.freshen_relief small, rfl, rfl, rfl, rfl⟩
  · rw [exec_dumpmove, doDumpmove, none']
  · rw [exec_dumpmove, doDumpmove, dumps]
    refine ⟨_, rfl, rfl, ?_, rfl, State.fld_setFld _ _ _ (by decide) (by decide), rfl, rfl, rfl⟩
    exact (lookup_insertAt ..).trans (if_pos rfl)
  · exact congrArg _ (doMbGo_idle idle)
  · have frame : MbFrame s _ := (State.mbCleared_frame (v := v)).setFld 2 2 1
    exact ⟨_, exec_mbGo.trans (congrArg _ (doMbGo_waiting go waits)), State.fld_setFld _ _ _ (Nat.le_refl 2) (by decide), frame.mg,
      frame.net, frame.mem⟩
  · have frame : MbFrame s _ := (State.mbCleared_frame (v := v)).setFld 1 1 0
    refine ⟨_, exec_mbGo.trans (congrArg _ ((doMbGo_go go free).trans (if_neg (by rw [off]; decide)))), ?_, rfl, frame.net, frame.mem⟩
    exact (State.fld_of_regs rfl ..).trans (State.fld_setFld _ _ _ (Nat.le_refl 1) (by decide))
  · have frame : MbFrame s _ := (State.mbCleared_frame (v := v)).setFld 1 1 0
    obtain ⟨done, waits, magic, serial, words, net, mem, clusters⟩ :=
      ((s.mbCleared v).setFld (regMg 0x120) 1 1 0).placeReport_placed
    rw [frame.attest, frame.nonce] at words
    exact ⟨_, exec_mbGo.trans (congrArg _ ((doMbGo_go go free).trans (if_pos serves))), done, waits, magic, serial, words,
      net.trans frame.net, mem.trans frame.mem, clusters.trans frame.clusters⟩

end Sys2Proof.Machine
end

section
/-! PROOFS. Supply (O50): the stretch of the dies and its floors, under voltage, over voltage and loss of supply. -/

namespace Sys2Proof.Machine

/-! ### Stretch -/

/-- From s to t the registers changed only in the stretch registers of the dies, and what the floors and limits read stayed. -/
structure StretchFrame (s t : State) : Prop where
  reg : ∀ off, (∀ d, d < 4 → off ≠ regTj d) → t.reg off = s.reg off
  fences : t.fences = s.fences
  hot : t.pw.hot = s.pw.hot
  hbm : t.hbm = s.hbm
  net : t.net = s.net
  mem : t.mem = s.mem
  clusters : t.clusters = s.clusters

namespace StretchFrame

variable {s t u : State}

theorem refl (s : State) : StretchFrame s s := ⟨fun _ _ => rfl, rfl, rfl, rfl, rfl, rfl, rfl⟩

theorem trans (f : StretchFrame s t) (g : StretchFrame t u) : StretchFrame s u :=
  ⟨fun off apart => (g.reg off apart).trans (f.reg off apart), g.fences.trans f.fences, g.hot.trans f.hot, g.hbm.trans f.hbm,
    g.net.trans f.net, g.mem.trans f.mem, g.clusters.trans f.clusters⟩

theorem foldl {α : Type} {f : State → α → State} {l : List α} (each : ∀ t, ∀ x ∈ l, StretchFrame t (f t x)) (s : State) :
    StretchFrame s (l.foldl f s) :=
  List.foldlRecOn (motive := StretchFrame s) l f (.refl s) fun t same x hx => same.trans (each t x hx)

theorem fld (f : StretchFrame s t) {off : Nat} (apart : ∀ d, d < 4 → off ≠ regTj d) (hi lo : Nat) : t.fld off hi lo = s.fld off hi lo := by
  rw [State.fld, f.reg off apart, State.fld]

theorem dieHot (f : StretchFrame s t) (d : Nat) : t.dieHot d = s.dieHot d := by rw [State.dieHot, f.hot, State.dieHot]

theorem dieOff (f : StretchFrame s t) (d : Nat) : t.dieOff d = s.dieOff d := by rw [State.dieOff, f.fences, State.dieOff]

theorem sFloor (f : StretchFrame s t) (d : Nat) : t.sFloor d = s.sFloor d := by
  unfold State.sFloor State.hbmHot
  rw [f.fld (by decide), f.dieHot, f.dieHot, f.hbm]

end StretchFrame

section
variable {s : State} {d : Nat}

theorem regTj_inj {e : Nat} (same : regTj d = regTj e) : d = e := by
  unfold regTj regPw at same
  omega

theorem State.sFloor_le (s : State) (d : Nat) : s.sFloor d ≤ 8 := by
  unfold State.sFloor
  split_ifs <;> omega

theorem State.stretch_lt : s.stretch d < 16 := s.fld_lt (regTj d) 19 16

theorem State.setStretch_frame (die : d < 4) (v : Nat) : StretchFrame s (s.setStretch d v) := by
  refine ⟨fun off apart => ?_, rfl, rfl, rfl, rfl, rfl, rfl⟩
  unfold State.setStretch
  dsimp only
  rw [State.setFld_eq, State.reg_setReg_ne _ _ (apart d die).symm]
  rfl

theorem State.stretch_setStretch (v : Nat) : (s.setStretch d v).stretch d = v % 16 := by
  unfold State.setStretch
  exact State.fld_setFld _ _ _ (by decide) (by decide)

theorem State.stretch_setStretch_ne {e : Nat} (other : e ≠ d) (v : Nat) : (s.setStretch d v).stretch e = s.stretch e := by
  unfold State.setStretch
  dsimp only
  rw [State.stretch, State.fld_setFld_ne _ fun same => other (regTj_inj same).symm]
  rfl

theorem State.mem_onDies : d ∈ s.onDies ↔ d < 4 ∧ s.dieOff d = false := by
  rw [State.onDies, List.mem_filter, upTo, List.mem_range, Bool.not_eq_true']

/-- One die taken to its floor. -/
def State.liftDie (s : State) (d : Nat) : State := if s.stretch d < s.sFloor d then s.setStretch d (s.sFloor d) else s

theorem State.applyFloors_eq : s.applyFloors = s.onDies.foldl State.liftDie s := rfl

theorem State.liftDie_frame (die : d < 4) : StretchFrame s (s.liftDie d) := by
  unfold State.liftDie
  split
  · exact State.setStretch_frame die _
  · exact .refl s

theorem State.floor_le_liftDie : s.sFloor d ≤ (s.liftDie d).stretch d := by
  unfold State.liftDie
  split
  · have := s.sFloor_le d
    rw [State.stretch_setStretch, Nat.mod_eq_of_lt (by omega)]
  · omega

theorem State.stretch_le_liftDie (e : Nat) : s.stretch d ≤ (s.liftDie e).stretch d := by
  unfold State.liftDie
  split
  next low =>
    by_cases same : d = e
    · subst same
      have := s.sFloor_le d
      rw [State.stretch_setStretch, Nat.mod_eq_of_lt (by omega)]
      omega
    · rw [State.stretch_setStretch_ne same]
  next => exact Nat.le_refl _

theorem State.stretch_le_foldl_liftDie (l : List Nat) (s : State) : s.stretch d ≤ (l.foldl State.liftDie s).stretch d := by
  induction l generalizing s with
  | nil => exact Nat.le_refl _
  | cons e l ih => exact (s.stretch_le_liftDie e).trans (ih (s.liftDie e))

theorem State.applyFloors_frame : StretchFrame s s.applyFloors :=
  StretchFrame.foldl (fun _ _ mem => State.liftDie_frame (State.mem_onDies.1 mem).1) s

/-- Every online die is at or above its floor. -/
theorem State.floor_le_applyFloors (die : d < 4) (online : s.dieOff d = false) : s.sFloor d ≤ s.applyFloors.stretch d := by
  obtain ⟨before, after, split⟩ := List.append_of_mem (State.mem_onDies.2 ⟨die, online⟩)
  have start : StretchFrame s (before.foldl State.liftDie s) := StretchFrame.foldl
    (fun _ _ mem => State.liftDie_frame (State.mem_onDies.1 (split ▸ List.mem_append_left _ mem : _ ∈ s.onDies)).1) s
  rw [State.applyFloors_eq, split, List.foldl_append, List.foldl_cons, ← start.sFloor]
  exact State.floor_le_liftDie.trans (State.stretch_le_foldl_liftDie ..)

end

/-! ### The supply commands (R553 to R557) -/

section
variable {s : State} {v : Nat}

/-- A power-up waits after a loss of supply and after a failed charge. -/
def State.chargeWaits (s : State) : Prop :=
  s.ticks < s.pw.offAt + 100 * ticksPerMs ∨ ∃ t, s.pw.charge = some t ∧ s.ticks < t + 1000 * ticksPerMs

theorem State.chargeWaits_iff :
    (decide (s.ticks < s.pw.offAt + 100 * ticksPerMs)
      || (match s.pw.charge with | none => false | some t => decide (s.ticks < t + 1000 * ticksPerMs))) = true ↔ s.chargeWaits := by
  rw [Bool.or_eq_true, decide_eq_true_eq, State.chargeWaits]
  refine or_congr_right ?_
  cases s.pw.charge with
  | none => exact iff_of_false Bool.false_ne_true fun ⟨_, some', _⟩ => nomatch some'
  | some t => exact decide_eq_true_iff.trans ⟨fun early => ⟨t, rfl, early⟩, fun ⟨_, same, early⟩ => Option.some.inj same ▸ early⟩

theorem State.powerUp_cond {bulk input : Nat} :
    (s.pw.powered || (decide (s.ticks < s.pw.offAt + 100 * ticksPerMs)
        || (match s.pw.charge with | none => false | some t => decide (s.ticks < t + 1000 * ticksPerMs)))
      || decide (bulk < 35000 ∨ bulk + 1000 < input)) = true
    ↔ s.pw.powered = true ∨ s.chargeWaits ∨ bulk < 35000 ∨ bulk + 1000 < input := by
  rw [Bool.or_eq_true, Bool.or_eq_true, State.chargeWaits_iff, decide_eq_true_eq, or_assoc]

/-- Under voltage before the floors are applied: the voltage, the flag, the message. -/
def State.uvNoted (s : State) (v : Nat) : State :=
  ((s.setFld (regPw 0xC) 31 16 v).setFld (regPw 8) 2 2 1).send vinSrc 0xBB v true []

theorem State.uvNoted_flag : (s.uvNoted v).fld (regPw 8) 2 2 = 1 := by
  rw [State.uvNoted, State.fld_send, State.fld_setFld _ _ _ (by decide) (by decide)]
  rfl

theorem State.uvNoted_vin (small : v < 2 ^ 16) : (s.uvNoted v).fld (regPw 0xC) 31 16 = v := by
  rw [State.uvNoted, State.fld_send, State.fld_setFld_ne _ (by decide), State.fld_setFld _ _ _ (by decide) (by decide)]
  exact Nat.mod_eq_of_lt small

theorem State.uvNoted_floor (d : Nat) : (s.uvNoted v).sFloor d = 8 := by rw [State.sFloor, if_pos State.uvNoted_flag]

/-- What a loss of supply leaves in memory. -/
theorem State.byte_powerLost (a : Nat) : s.powerLost.byte a = if a / 2 ^ 49 = 4 then s.byte a else 0 := by
  have kept := lookup_filter_key s.mem (fun k => decide (k / 2 ^ 49 = 4)) a
  rw [State.byte, State.byte, memRead, memRead]
  change (lookup (s.mem.filter _) a).getD memDefault = _
  rw [kept]
  by_cases host : a / 2 ^ 49 = 4
  · rw [if_pos (decide_eq_true host), if_pos host]
  · rw [if_neg (by simpa using host), if_neg host]
    rfl

end

/-- Settles O50: each supply command by its threshold; the floors follow from the flag. -/
theorem supplyCommands : Obligations.SupplyCommands := by
  unfold Obligations.SupplyCommands
  intro s
  refine ⟨fun bulk input => ⟨fun refused => ?_, fun cold free charged near => ?_⟩, fun on => ?_, fun off => ?_, fun v small not' => ?_,
    fun v low clear => ?_, fun v small not' => ?_, fun v small high set' => ?_, fun v low => ?_, fun v high small => ?_,
    fun v small high => ?_, fun v low => ?_, fun c v lost => ?_⟩
  · exact exec_powerUp.trans (congrArg _ (if_pos (State.powerUp_cond.2 refused)))
  · refine exec_powerUp.trans (congrArg _ (if_neg (mt State.powerUp_cond.1 ?_)))
    rintro (on | waits | low | far)
    · exact Bool.false_ne_true (cold.symm.trans on)
    · exact free waits
    · omega
    · omega
  · exact exec_chargeTimeout.trans (congrArg _ (if_pos on))
  · exact exec_chargeTimeout.trans (congrArg _ (if_neg (by rw [off]; decide)))
  · exact (exec_vinUv (decide_eq_true small)).trans (congrArg _ (if_pos not'))
  · have wf : (Instr.vinUv v).wf = true := decide_eq_true (by omega)
    have frame := (s.uvNoted v).applyFloors_frame
    refine ⟨_, (exec_vinUv wf).trans (congrArg _ (if_neg (by omega))), ?_, ?_, fun d die online => ?_, ?_, frame.mem, frame.clusters⟩
    · exact (frame.fld (by decide) ..).trans State.uvNoted_flag
    · exact (frame.fld (by decide) ..).trans (State.uvNoted_vin (by omega))
    · exact (s.uvNoted_floor d).ge.trans (State.floor_le_applyFloors die online)
    · exact (congrArg _ frame.net).trans List.length_append
  · exact (exec_vinUvClear (decide_eq_true small)).trans (congrArg _ (if_pos not'))
  · refine ⟨_, (exec_vinUvClear (decide_eq_true small)).trans (congrArg _ (if_neg (by omega))), ?_, fun d die => ?_, List.length_append,
      rfl, rfl⟩
    · rw [State.fld_send, State.fld_setFld _ _ _ (by decide) (by decide)]
      rfl
    · have apart : ∀ o, o < 0x20 → regPw o ≠ regTj d := fun o low => by
        unfold regTj regPw
        omega
      rw [State.stretch, State.fld_send, State.fld_setFld_ne _ (apart 8 (by decide)), State.fld_setFld_ne _ (apart 0xC (by decide)),
        State.stretch]
  · exact (exec_vinOv (decide_eq_true (by omega))).trans (congrArg _ (if_pos low))
  · refine ⟨_, (exec_vinOv (decide_eq_true small)).trans (congrArg _ (if_neg (by omega))), ?_, ?_, List.length_append, rfl, rfl⟩
    · rw [State.sendEv, State.fld_send, State.fld_setFld _ _ _ (by decide) (by decide)]
      rfl
    · rw [State.sendEv, State.fld_send, State.fld_setFld_ne _ (by decide), State.fld_setFld _ _ _ (by decide) (by decide)]
      exact Nat.mod_eq_of_lt small
  · exact (exec_powerFail (decide_eq_true small)).trans (congrArg _ (if_pos high))
  · exact (exec_disconnect (decide_eq_true (by omega))).trans (congrArg _ (if_pos low))
  · have ran : exec c s = .next s.powerLost := by
      rcases lost with ⟨rfl, low⟩ | ⟨rfl, high, small⟩
      · exact (exec_powerFail (decide_eq_true (by omega))).trans (congrArg _ (if_neg (by omega)))
      · exact (exec_disconnect (decide_eq_true small)).trans (congrArg _ (if_neg (by omega)))
    exact ⟨_, ran, rfl, rfl, rfl, rfl, rfl, s.byte_powerLost, rfl, rfl, rfl, rfl, rfl, rfl, rfl⟩

end Sys2Proof.Machine
end

section
/-! PROOFS. Operating points (O51): the power windows, the request registers, the changes between runs and the forced steps. -/

namespace Sys2Proof.Machine

/-! ### STRETCH_WINDOW (R558, R559) -/

section
variable {s : State} {x : PowerSample} {d : Nat}

/-- The power and current registers take a sample. -/
def State.sampleSupply (s : State) (x : PowerSample) : State :=
  (((s.setFld (regPw 0x10) 31 16 x.pmod).setFld (regPw 0x10) 15 0 x.pcam).setFld (regPw 0xC) 31 16 x.vin).setFld (regPw 0xC) 15 0 x.iin

/-- The sample of a window, with the junction temperatures. -/
def State.sampled (s : State) (x : PowerSample) : State :=
  (upTo 5).foldl (fun (s : State) d => s.setFld (regTj d) 31 24 (unsigned 8 (x.tj.getD d 0))) (s.sampleSupply x)

theorem State.sampled_eq (s : State) (x : PowerSample) : ∃ r, s.sampled x = { s with regs := r } :=
  State.foldl_setReg_eq regTj (fun (u : State) d => BitVec.ofNat 32 (putBits (u.reg (regTj d)).toNat 31 24 (unsigned 8 (x.tj.getD d 0)))) _ _

theorem State.reg_sampled_supply {off : Nat} (apart : ∀ d, d < 5 → off ≠ regTj d) : (s.sampled x).reg off = (s.sampleSupply x).reg off :=
  List.foldlRecOn (motive := fun t : State => t.reg off = (s.sampleSupply x).reg off) (upTo 5) _ rfl fun t same d mem => by
    rw [State.setFld_eq, State.reg_setReg_ne _ _ (apart d (List.mem_range.1 mem)).symm, same]

theorem State.reg_sampled {off : Nat} (power : off ≠ regPw 0x10) (input : off ≠ regPw 0xC) (apart : ∀ d, d < 5 → off ≠ regTj d) :
    (s.sampled x).reg off = s.reg off := by
  rw [State.reg_sampled_supply apart, State.sampleSupply, State.setFld_eq, State.reg_setReg_ne _ _ input.symm, State.setFld_eq,
    State.reg_setReg_ne _ _ input.symm, State.setFld_eq, State.reg_setReg_ne _ _ power.symm, State.setFld_eq,
    State.reg_setReg_ne _ _ power.symm]

theorem State.fld_sampled {off : Nat} (power : off ≠ regPw 0x10) (input : off ≠ regPw 0xC) (apart : ∀ d, d < 5 → off ≠ regTj d)
    (hi lo : Nat) : (s.sampled x).fld off hi lo = s.fld off hi lo := by rw [State.fld, State.reg_sampled power input apart, State.fld]

theorem State.power_sampled : (s.sampled x).fld (regPw 0x10) 31 16 = x.pmod % 65536 := by
  rw [State.fld, State.reg_sampled_supply (by decide), ← State.fld, State.sampleSupply, State.fld_setFld_ne _ (by decide),
    State.fld_setFld_ne _ (by decide), State.fld_setFld_disjoint _ _ _ (by decide) (by decide) (by decide) (by decide),
    State.fld_setFld _ _ _ (by decide) (by decide)]
  rfl

theorem State.vin_sampled : (s.sampled x).fld (regPw 0xC) 31 16 = x.vin % 65536 := by
  rw [State.fld, State.reg_sampled_supply (by decide), ← State.fld, State.sampleSupply,
    State.fld_setFld_disjoint _ _ _ (by decide) (by decide) (by decide) (by decide), State.fld_setFld _ _ _ (by decide) (by decide)]
  rfl

/-- A temperature is beside the stretch. -/
theorem State.stretch_sampled (die : d < 4) : (s.sampled x).stretch d = s.stretch d := by
  have supply : (s.sampleSupply x).stretch d = s.stretch d := by
    have apart : ∀ o, o < 0x20 → regPw o ≠ regTj d := fun o low => by
      unfold regTj regPw
      omega
    rw [State.sampleSupply, State.stretch, State.fld_setFld_ne _ (apart 0xC (by decide)), State.fld_setFld_ne _ (apart 0xC (by decide)),
      State.fld_setFld_ne _ (apart 0x10 (by decide)), State.fld_setFld_ne _ (apart 0x10 (by decide)), State.stretch]
  refine List.foldlRecOn (motive := fun t : State => t.stretch d = s.stretch d) (upTo 5) _ supply fun t same e _ => ?_
  rw [← same]
  by_cases own : d = e
  · subst own
    exact State.fld_setFld_disjoint _ _ _ (by decide) (by decide) (by decide) (by decide)
  · exact State.fld_setFld_ne _ (fun eq => own (regTj_inj eq).symm) ..

/-- The count of calm windows of a die. -/
def State.noteBelow (s : State) (d n : Nat) : State := { s with pw := { s.pw with below := s.pw.below.set d n } }

/-- What a window does to one die. -/
def State.windowDie (lim pmod : Nat) (s : State) (d : Nat) : State :=
  if lim < pmod then (s.noteBelow d 0).setStretch d (max (s.sFloor d) (min 8 (s.stretch d + 1)))
  else if pmod * 100 < lim * 95 then
    if s.pw.below.get d 0 + 1 = 10 then (s.noteBelow d 0).setStretch d (max (s.sFloor d) (s.stretch d - 1))
    else s.noteBelow d (s.pw.below.get d 0 + 1)
  else s.noteBelow d 0

theorem doStretchWindow_eq :
    doStretchWindow x s = if (s.sampled x).inP3 = true then s.sampled x
      else (s.sampled x).onDies.foldl (State.windowDie ((s.sampled x).limitW * 10) x.pmod) (s.sampled x) := rfl

theorem State.inP3_sampled : (s.sampled x).inP3 = s.inP3 := by
  rw [State.inP3, State.fld_sampled (by decide) (by decide) (by decide), State.inP3]

theorem State.dieOff_sampled (d : Nat) : (s.sampled x).dieOff d = s.dieOff d := by
  obtain ⟨r, eq⟩ := s.sampled_eq x
  rw [eq]
  rfl

theorem State.cur_sampled (die : d < 4) : (s.sampled x).cur d = s.cur d := by
  have apart : ∀ o, regOp d ≠ regPw o := fun o => by
    unfold regOp regMg regPw
    omega
  rw [State.cur, State.fld_sampled (apart _) (apart _) fun _ _ => apart _, State.cur]

theorem State.limitW_sampled : (s.sampled x).limitW = s.limitW := by
  have online : (s.sampled x).onDies = s.onDies := List.filter_congr fun d _ => by rw [State.dieOff_sampled]
  have points : (s.sampled x).onDies.map (fun d => (s.sampled x).cur d) = s.onDies.map (fun d => s.cur d) := by
    rw [online]
    exact List.map_congr_left fun d mem => State.cur_sampled (State.mem_onDies.1 mem).1
  unfold State.limitW
  dsimp only
  rw [State.inP3_sampled, points, State.fld_sampled (by decide) (by decide) (by decide)]

theorem State.sFloor_sampled (d : Nat) : (s.sampled x).sFloor d = s.sFloor d := by
  have flag : (s.sampled x).fld (regPw 8) 2 2 = s.fld (regPw 8) 2 2 := State.fld_sampled (by decide) (by decide) (by decide) ..
  obtain ⟨r, eq⟩ := s.sampled_eq x
  rw [eq] at flag ⊢
  unfold State.sFloor
  rw [flag]
  rfl

theorem State.noteBelow_frame (d n : Nat) : StretchFrame s (s.noteBelow d n) := ⟨fun _ _ => rfl, rfl, rfl, rfl, rfl, rfl, rfl⟩

theorem State.windowDie_frame (die : d < 4) (lim pmod : Nat) : StretchFrame s (s.windowDie lim pmod d) := by
  unfold State.windowDie
  split_ifs
  · exact (State.noteBelow_frame d 0).trans (State.setStretch_frame die _)
  · exact (State.noteBelow_frame d 0).trans (State.setStretch_frame die _)
  · exact State.noteBelow_frame ..
  · exact State.noteBelow_frame ..

/-- A window of one die leaves the stretch and the count of another. -/
theorem State.windowDie_other {e : Nat} (other : e ≠ d) (lim pmod : Nat) :
    (s.windowDie lim pmod d).stretch e = s.stretch e ∧ (s.windowDie lim pmod d).pw.below.get e 0 = s.pw.below.get e 0 := by
  have noted (n : Nat) : (s.noteBelow d n).stretch e = s.stretch e ∧ (s.noteBelow d n).pw.below.get e 0 = s.pw.below.get e 0 :=
    ⟨rfl, (Table.get_set ..).trans (if_neg other.symm)⟩
  have raised (n v : Nat) : ((s.noteBelow d n).setStretch d v).stretch e = s.stretch e
      ∧ ((s.noteBelow d n).setStretch d v).pw.below.get e 0 = s.pw.below.get e 0 :=
    ⟨(State.stretch_setStretch_ne other v).trans (noted n).1, (noted n).2⟩
  unfold State.windowDie
  split_ifs
  · exact raised ..
  · exact raised ..
  · exact noted _
  · exact noted _

/-- The stretch of a die after its window. -/
def State.windowed (s : State) (lim pmod d : Nat) : Nat :=
  if lim < pmod then max (s.sFloor d) (min 8 (s.stretch d + 1)) % 16
  else if pmod * 100 < lim * 95 ∧ s.pw.below.get d 0 + 1 = 10 then max (s.sFloor d) (s.stretch d - 1)
  else s.stretch d

theorem State.stretch_windowDie (lim pmod : Nat) : (s.windowDie lim pmod d).stretch d = s.windowed lim pmod d := by
  unfold State.windowDie State.windowed
  by_cases above : lim < pmod
  · rw [if_pos above, if_pos above, State.stretch_setStretch]
  · rw [if_neg above, if_neg above]
    by_cases below : pmod * 100 < lim * 95
    · rw [if_pos below]
      by_cases tenth : s.pw.below.get d 0 + 1 = 10
      · rw [if_pos tenth, if_pos ⟨below, tenth⟩, State.stretch_setStretch]
        have := s.sFloor_le d
        have := State.stretch_lt (s := s) (d := d)
        exact Nat.mod_eq_of_lt (by omega)
      · rw [if_neg tenth, if_neg fun h => tenth h.2]
        rfl
    · rw [if_neg below, if_neg fun h => below h.1]
      rfl

/-- The windows of other dies leave a die. -/
theorem State.foldl_windowDie_other {l : List Nat} (absent : d ∉ l) (dies : ∀ e, e ∈ l → e < 4) (lim pmod : Nat) (s : State) :
    StretchFrame s (l.foldl (State.windowDie lim pmod) s) ∧ (l.foldl (State.windowDie lim pmod) s).stretch d = s.stretch d
      ∧ (l.foldl (State.windowDie lim pmod) s).pw.below.get d 0 = s.pw.below.get d 0 := by
  refine List.foldlRecOn (motive := fun t : State => StretchFrame s t ∧ t.stretch d = s.stretch d
    ∧ t.pw.below.get d 0 = s.pw.below.get d 0) l _ ⟨.refl s, rfl, rfl⟩ fun t ⟨frame, stretch, count⟩ e mem => ?_
  have other := State.windowDie_other (s := t) (fun same : d = e => absent (same ▸ mem)) lim pmod
  exact ⟨frame.trans (State.windowDie_frame (dies e mem) ..), other.1.trans stretch, other.2.trans count⟩

/-- The dies that are online have their window each. -/
theorem State.stretch_foldl_windowDie (die : d < 4) (online : s.dieOff d = false) (lim pmod : Nat) :
    (s.onDies.foldl (State.windowDie lim pmod) s).stretch d = s.windowed lim pmod d := by
  have nodup : s.onDies.Nodup := List.nodup_range.filter _
  have dies : ∀ e, e ∈ s.onDies → e < 4 := fun e mem => (State.mem_onDies.1 mem).1
  obtain ⟨before, after, split⟩ := List.append_of_mem (State.mem_onDies.2 ⟨die, online⟩)
  rw [split] at nodup dies ⊢
  obtain ⟨-, tail, apart⟩ := List.nodup_append.1 nodup
  obtain ⟨frame, stretch, count⟩ := State.foldl_windowDie_other (fun mem => apart d mem d List.mem_cons_self rfl)
    (fun e mem => dies e (List.mem_append_left _ mem)) lim pmod s
  rw [List.foldl_append, List.foldl_cons, (State.foldl_windowDie_other (List.nodup_cons.1 tail).1
    (fun e mem => dies e (List.mem_append_right _ (List.mem_cons_of_mem d mem))) lim pmod _).2.1, State.stretch_windowDie, State.windowed,
    State.windowed, frame.sFloor, stretch, count]

theorem State.windowed_sampled (die : d < 4) (lim pmod : Nat) : (s.sampled x).windowed lim pmod d = s.windowed lim pmod d := by
  have count : (s.sampled x).pw.below.get d 0 = s.pw.below.get d 0 := by
    obtain ⟨r, eq⟩ := s.sampled_eq x
    rw [eq]
  rw [State.windowed, State.sFloor_sampled, State.stretch_sampled die, count, State.windowed]

/-- What a window leaves besides the stretch of the dies. -/
theorem doStretchWindow_frame : StretchFrame (s.sampled x) (doStretchWindow x s) := by
  rw [doStretchWindow_eq]
  split
  · exact .refl _
  · exact StretchFrame.foldl (fun t d mem => State.windowDie_frame (State.mem_onDies.1 mem).1 ..) _

theorem stretch_doStretchWindow (die : d < 4) (online : s.dieOff d = false) (awake : s.inP3 = false) :
    (doStretchWindow x s).stretch d = s.windowed (s.limitW * 10) x.pmod d := by
  rw [doStretchWindow_eq, if_neg (by rw [State.inP3_sampled, awake]; decide), State.limitW_sampled,
    State.stretch_foldl_windowDie die (by rw [State.dieOff_sampled, online]), State.windowed_sampled die]

end

/-! ### PW_OPREQ (R550, R560) -/

section
variable {s : State} {d : Nat} {v : Word32}

/-- A write of a request register clears ERR first. -/
def State.opCleared (s : State) (d : Nat) (v : Word32) : State := if bitOf v.toNat 2 then s.setFld (regOp d) 2 2 0 else s

theorem State.opCleared_eq : ∃ r, s.opCleared d v = { s with regs := r } := by
  unfold State.opCleared
  split
  · exact ⟨_, rfl⟩
  · exact ⟨_, rfl⟩

theorem State.fld_opCleared {hi lo : Nat} (le : lo ≤ hi) (top : hi < 32) (apart : 2 < lo ∨ hi < 2) :
    (s.opCleared d v).fld (regOp d) hi lo = s.fld (regOp d) hi lo := by
  unfold State.opCleared
  split
  · exact State.fld_setFld_disjoint _ _ _ (Nat.le_refl 2) le top apart
  · rfl

theorem State.fld_opCleared_ne {off : Nat} (other : regOp d ≠ off) (hi lo : Nat) : (s.opCleared d v).fld off hi lo = s.fld off hi lo := by
  unfold State.opCleared
  split
  · exact State.fld_setFld_ne _ other ..
  · rfl

/-- A request that the die does not allow: no such point, one faster than the die allows, or a die offline. -/
def State.opRefused (s : State) (d : Nat) (v : Word32) : Prop :=
  v.toNat % 4 = 3 ∨ v.toNat % 4 < s.fld (regMg (0x400 + 4 * d)) 1 0 ∨ s.dieOff d = true

theorem State.opRefused_opCleared :
    (bitsOf v.toNat 1 0 = 3 ∨ bitsOf v.toNat 1 0 < (s.opCleared d v).fld (regMg (0x400 + 4 * d)) 1 0 ∨ (s.opCleared d v).dieOff d = true)
      ↔ s.opRefused d v := by
  have apart : regOp d ≠ regMg (0x400 + 4 * d) := by
    unfold regOp regMg
    omega
  have off : (s.opCleared d v).dieOff d = s.dieOff d := by
    obtain ⟨r, eq⟩ := State.opCleared_eq (s := s) (d := d) (v := v)
    rw [eq]
    rfl
  rw [bitsOf_zero, State.fld_opCleared_ne apart, off]
  rfl

theorem doPwOpreq_refused (refused : s.opRefused d v) :
    doPwOpreq d v s = ((s.opCleared d v).setFld (regOp d) 2 2 1).pwrLimit d (bitsOf v.toNat 1 0) :=
  if_pos (State.opRefused_opCleared.2 refused)

theorem doPwOpreq_taken (taken : ¬ s.opRefused d v) :
    doPwOpreq d v s = (let u := ((s.opCleared d v).setFld (regOp d) 1 0 (bitsOf v.toNat 1 0)).setFld (regOp d) 3 3 1
      { u with pw := { u.pw with pendAt := u.pw.pendAt.set d u.ticks } }) :=
  if_neg (mt State.opRefused_opCleared.1 taken)

theorem State.fld_pwrLimit (p off hi lo : Nat) : (s.pwrLimit d p).fld off hi lo = s.fld off hi lo := State.fld_send ..

/-- What a request that is taken leaves. -/
theorem doPwOpreq_takes (taken : ¬ s.opRefused d v) :
    (doPwOpreq d v s).fld (regOp d) 1 0 = v.toNat % 4 ∧ (doPwOpreq d v s).fld (regOp d) 3 3 = 1
      ∧ (doPwOpreq d v s).pw.pendAt.get d 0 = s.ticks ∧ (doPwOpreq d v s).cur d = s.cur d ∧ (doPwOpreq d v s).net = s.net
      ∧ (doPwOpreq d v s).mem = s.mem := by
  have field (hi lo : Nat) : (doPwOpreq d v s).fld (regOp d) hi lo
      = (((s.opCleared d v).setFld (regOp d) 1 0 (bitsOf v.toNat 1 0)).setFld (regOp d) 3 3 1).fld (regOp d) hi lo := by
    rw [doPwOpreq_taken taken]
    exact State.fld_of_regs rfl ..
  have ticks : (doPwOpreq d v s).pw.pendAt.get d 0 = s.ticks := by
    rw [doPwOpreq_taken taken]
    obtain ⟨r, eq⟩ := State.opCleared_eq (s := s) (d := d) (v := v)
    rw [eq]
    exact Table.get_set_same ..
  obtain ⟨net, mem⟩ : (doPwOpreq d v s).net = s.net ∧ (doPwOpreq d v s).mem = s.mem := by
    rw [doPwOpreq_taken taken]
    obtain ⟨r, eq⟩ := State.opCleared_eq (s := s) (d := d) (v := v)
    rw [eq]
    exact ⟨rfl, rfl⟩
  refine ⟨?_, ?_, ticks, ?_, net, mem⟩
  · rw [field, State.fld_setFld_disjoint _ _ _ (by decide) (by decide) (by decide) (by decide),
      State.fld_setFld _ _ _ (by decide) (by decide), bitsOf_zero]
    exact Nat.mod_mod ..
  · rw [field, State.fld_setFld _ _ _ (by decide) (by decide)]
    rfl
  · rw [State.cur, field, State.fld_setFld_disjoint _ _ _ (by decide) (by decide) (by decide) (by decide),
      State.fld_setFld_disjoint _ _ _ (by decide) (by decide) (by decide) (by decide),
      State.fld_opCleared (by decide) (by decide) (by decide), State.cur]

/-- What a request that is refused leaves. -/
theorem doPwOpreq_refuses (refused : s.opRefused d v) :
    (doPwOpreq d v s).fld (regOp d) 1 0 = s.fld (regOp d) 1 0 ∧ (doPwOpreq d v s).fld (regOp d) 2 2 = 1
      ∧ (doPwOpreq d v s).fld (regOp d) 3 3 = s.fld (regOp d) 3 3 ∧ (doPwOpreq d v s).net.length = s.net.length + 1
      ∧ (doPwOpreq d v s).mem = s.mem := by
  rw [doPwOpreq_refused refused, State.fld_pwrLimit, State.fld_pwrLimit, State.fld_pwrLimit]
  refine ⟨?_, State.fld_setFld _ _ _ (by decide) (by decide), ?_, ?_, ?_⟩
  · rw [State.fld_setFld_disjoint _ _ _ (by decide) (by decide) (by decide) (by decide),
      State.fld_opCleared (by decide) (by decide) (by decide)]
  · rw [State.fld_setFld_disjoint _ _ _ (by decide) (by decide) (by decide) (by decide),
      State.fld_opCleared (by decide) (by decide) (by decide)]
  · obtain ⟨r, eq⟩ := State.opCleared_eq (s := s) (d := d) (v := v)
    rw [eq]
    exact List.length_append
  · obtain ⟨r, eq⟩ := State.opCleared_eq (s := s) (d := d) (v := v)
    rw [eq]
    rfl

/-! ### Changes between runs (R560, R564) -/

theorem State.dieRuns_iff : s.dieRuns d = true ↔ ∃ i, i < 16 ∧ (s.cl (16 * d + i)).seq.st = .running := by
  rw [State.dieRuns, List.any_eq_true]
  simp only [upTo, List.mem_range, decide_eq_true_eq]

theorem State.opHeld_iff :
    (s.dieOff d || s.dieRuns d || s.inP3) = true
      ↔ s.dieOff d = true ∨ s.inP3 = true ∨ ∃ i, i < 16 ∧ (s.cl (16 * d + i)).seq.st = .running := by
  rw [Bool.or_eq_true, Bool.or_eq_true, State.dieRuns_iff, or_assoc]
  exact or_congr_right or_comm

theorem State.opFree (online : s.dieOff d = false) (awake : s.inP3 = false)
    (free : ∀ i, i < 16 → (s.cl (16 * d + i)).seq.st ≠ .running) :
    ¬ (s.dieOff d = true ∨ s.inP3 = true ∨ ∃ i, i < 16 ∧ (s.cl (16 * d + i)).seq.st = .running) := by
  rintro (off | asleep | ⟨i, small, runs⟩)
  · exact Bool.false_ne_true (online.symm.trans off)
  · exact Bool.false_ne_true (awake.symm.trans asleep)
  · exact free i small runs

theorem doOpPointChange_held (held : s.dieOff d = true ∨ s.inP3 = true ∨ ∃ i, i < 16 ∧ (s.cl (16 * d + i)).seq.st = .running) :
    doOpPointChange d s = s := if_pos (State.opHeld_iff.2 held)

section
variable (free : ¬ (s.dieOff d = true ∨ s.inP3 = true ∨ ∃ i, i < 16 ∧ (s.cl (16 * d + i)).seq.st = .running))
include free

/-- A forced change comes first. -/
theorem doOpPointChange_forced {p : Nat} (forced : lookup s.pw.lower.rows d = some p) :
    doOpPointChange d s = State.setFld { s with pw := { s.pw with lower := s.pw.lower.erase d } } (regOp d) 5 4 p := by
  refine (if_neg (mt State.opHeld_iff.1 free)).trans ?_
  rw [forced]

theorem doOpPointChange_unforced (none' : lookup s.pw.lower.rows d = none) :
    doOpPointChange d s = if s.fld (regOp d) 3 3 = 0 ∨ (s.fld (regOp d) 1 0 < s.cur d ∧ s.holdBits d ≠ 0) then s
      else (s.setFld (regOp d) 5 4 (s.fld (regOp d) 1 0)).setFld (regOp d) 3 3 0 := by
  refine (if_neg (mt State.opHeld_iff.1 free)).trans ?_
  rw [none']

end

theorem State.cur_setFld (p : Nat) : (s.setFld (regOp d) 5 4 p).cur d = p % 4 := State.fld_setFld _ _ _ (by decide) (by decide)

/-! ### Timeouts and forced steps -/

theorem doOpRequestTimeout_due (due : ¬ (s.fld (regOp d) 3 3 = 0 ∨ s.ticks < s.pw.pendAt.get d 0 + 1000 * ticksPerMs)) :
    doOpRequestTimeout d s = ((s.setFld (regOp d) 3 3 0).setFld (regOp d) 2 2 1).pwrLimit d (s.fld (regOp d) 1 0) := if_neg due

/-- A die has been at a stretch since long enough. -/
def State.opSince (s : State) (d : Nat) (tb : Table Nat) (ms : Nat) : Prop :=
  ∃ x, lookup tb.rows d = some x ∧ x + ms * ticksPerMs ≤ s.ticks

theorem State.opSince_iff (tb : Table Nat) (ms : Nat) :
    (match lookup tb.rows d with | none => false | some x => decide (x + ms * ticksPerMs ≤ s.ticks)) = true ↔ s.opSince d tb ms := by
  rw [State.opSince]
  cases lookup tb.rows d with
  | none => exact iff_of_false Bool.false_ne_true fun ⟨_, some', _⟩ => nomatch some'
  | some x => exact decide_eq_true_iff.trans ⟨fun long => ⟨x, rfl, long⟩, fun ⟨_, same, long⟩ => Option.some.inj same ▸ long⟩

theorem doPointLowering_idle (idle : s.dieOff d = true ∨ s.pw.lower.has d = true) : doPointLowering d s = s :=
  if_pos (Bool.or_eq_true_iff.2 idle)

section
variable (online : s.dieOff d = false) (unforced : s.pw.lower.has d = false)
include online unforced

theorem State.pointLowering_open : ¬ (s.dieOff d || s.pw.lower.has d) = true := by
  rw [online, unforced]
  exact Bool.false_ne_true

theorem doPointLowering_down (long : s.opSince d s.pw.held 100) (slower : s.cur d < 2) :
    doPointLowering d s = State.pwrLimit { s with pw := { s.pw with
      lower := s.pw.lower.set d (s.cur d + 1), held := s.pw.held.set d s.ticks } } d (s.cur d + 1) :=
  (if_neg (State.pointLowering_open online unforced)).trans
    (if_pos (Bool.and_eq_true_iff.2 ⟨(State.opSince_iff ..).2 long, decide_eq_true slower⟩))

section
variable (short : ¬ (s.opSince d s.pw.held 100 ∧ s.cur d < 2))
include short

theorem doPointLowering_up (long : s.opSince d s.pw.zero 1000) (faster : s.fld (regOp d) 1 0 < s.cur d) (quiet : s.fld (regOp d) 3 3 = 0) :
    doPointLowering d s = { s with pw := { s.pw with lower := s.pw.lower.set d (s.cur d - 1), zero := s.pw.zero.set d s.ticks } } :=
  ((if_neg (State.pointLowering_open online unforced)).trans (if_neg fun h => by
    obtain ⟨long, slower⟩ := Bool.and_eq_true_iff.1 h
    exact short ⟨(State.opSince_iff ..).1 long, of_decide_eq_true slower⟩)).trans
    (if_pos (Bool.and_eq_true_iff.2 ⟨Bool.and_eq_true_iff.2 ⟨(State.opSince_iff ..).2 long, decide_eq_true faster⟩, decide_eq_true quiet⟩))

theorem doPointLowering_stays (stays : ¬ s.opSince d s.pw.zero 1000 ∨ s.cur d ≤ s.fld (regOp d) 1 0 ∨ s.fld (regOp d) 3 3 = 1) :
    doPointLowering d s = s :=
  ((if_neg (State.pointLowering_open online unforced)).trans (if_neg fun h => by
    obtain ⟨long, slower⟩ := Bool.and_eq_true_iff.1 h
    exact short ⟨(State.opSince_iff ..).1 long, of_decide_eq_true slower⟩)).trans
    (if_neg fun h => by
      obtain ⟨h, quiet⟩ := Bool.and_eq_true_iff.1 h
      obtain ⟨long, faster⟩ := Bool.and_eq_true_iff.1 h
      have faster := of_decide_eq_true faster
      have quiet := of_decide_eq_true quiet
      rcases stays with never | near | pending
      · exact never ((State.opSince_iff ..).1 long)
      · omega
      · omega)

end
end
end

/-- Settles O51: the windows die by die, and each register command by its condition. -/
theorem operatingPoints : Obligations.OperatingPoints := by
  unfold Obligations.OperatingPoints
  intro s
  refine ⟨fun x => ?_, fun d die => ⟨fun v => ⟨fun known allowed online => ?_, fun refused => ?_⟩, fun held => ?_,
    fun online awake free => ⟨fun p forced => ?_, fun none' => ⟨fun waits => ?_, fun change => ?_⟩⟩, ⟨fun early => ?_, fun due => ?_⟩,
    ⟨fun idle => ?_, fun online unforced => ⟨fun long slower => ?_, fun short long faster quiet => ?_, fun short stays => ?_⟩⟩⟩⟩
  · have frame := doStretchWindow_frame (s := s) (x := x)
    obtain ⟨net, mem, clusters⟩ : (s.sampled x).net = s.net ∧ (s.sampled x).mem = s.mem ∧ (s.sampled x).clusters = s.clusters := by
      obtain ⟨r, eq⟩ := s.sampled_eq x
      rw [eq]
      exact ⟨rfl, rfl, rfl⟩
    refine ⟨_, exec_stretchWindow, (frame.fld (by decide) ..).trans State.power_sampled, (frame.fld (by decide) ..).trans State.vin_sampled,
      fun asleep d die => ?_, fun awake d die online => ?_, frame.net.trans net, frame.mem.trans mem, frame.clusters.trans clusters⟩
    · rw [doStretchWindow_eq, if_pos (by rw [State.inP3_sampled, asleep]), State.stretch_sampled die]
    · rw [stretch_doStretchWindow die online awake, State.windowed]
      refine ⟨fun above => if_pos above, fun below tenth => ?_, fun below early => ?_, fun low high => ?_⟩
      · rw [if_neg (by omega), if_pos ⟨below, tenth⟩]
      · rw [if_neg (by omega), if_neg fun h => early h.2]
      · rw [if_neg (by omega), if_neg (by omega)]
  · have taken : ¬ s.opRefused d v := by
      rintro (three | fast | off)
      · exact known three
      · omega
      · exact Bool.false_ne_true (online.symm.trans off)
    exact ⟨_, exec_pwOpreq (decide_eq_true die), doPwOpreq_takes taken⟩
  · exact ⟨_, exec_pwOpreq (decide_eq_true die), doPwOpreq_refuses refused⟩
  · exact (exec_opPointChange (decide_eq_true die)).trans (congrArg _ (doOpPointChange_held held))
  · exact ⟨_, (exec_opPointChange (decide_eq_true die)).trans (congrArg _ (doOpPointChange_forced (State.opFree online awake free) forced)),
      State.cur_setFld p, Table.has_erase .., rfl, rfl⟩
  · refine (exec_opPointChange (decide_eq_true die)).trans (congrArg _ ?_)
    rw [doOpPointChange_unforced (State.opFree online awake free) none', if_pos waits]
  · refine ⟨_, (exec_opPointChange (decide_eq_true die)).trans (congrArg _ ((doOpPointChange_unforced (State.opFree online awake free)
      none').trans (if_neg change))), ?_, State.fld_setFld _ _ _ (by decide) (by decide), rfl, rfl⟩
    · rw [State.cur, State.fld_setFld_disjoint _ _ _ (by decide) (by decide) (by decide) (by decide), ← State.cur, State.cur_setFld]
      exact Nat.mod_eq_of_lt (s.fld_lt (regOp d) 1 0)
  · refine (exec_opRequestTimeout (decide_eq_true die)).trans (congrArg _ (if_pos ?_))
    have := s.fld_lt (regOp d) 3 3
    by_contra due
    exact early ⟨by omega, by omega⟩
  · obtain ⟨pending, late⟩ := due
    refine ⟨_, (exec_opRequestTimeout (decide_eq_true die)).trans (congrArg _ (doOpRequestTimeout_due (by omega))), ?_, ?_, ?_,
      List.length_append, rfl⟩
    · rw [State.fld_pwrLimit, State.fld_setFld_disjoint _ _ _ (by decide) (by decide) (by decide) (by decide),
        State.fld_setFld _ _ _ (by decide) (by decide)]
      rfl
    · rw [State.fld_pwrLimit, State.fld_setFld _ _ _ (by decide) (by decide)]
      rfl
    · rw [State.cur, State.fld_pwrLimit, State.fld_setFld_disjoint _ _ _ (by decide) (by decide) (by decide) (by decide),
        State.fld_setFld_disjoint _ _ _ (by decide) (by decide) (by decide) (by decide), State.cur]
  · exact (exec_pointLowering (decide_eq_true die)).trans (congrArg _ (doPointLowering_idle idle))
  · exact ⟨_, (exec_pointLowering (decide_eq_true die)).trans (congrArg _ (doPointLowering_down online unforced long slower)),
      (lookup_insertAt ..).trans (if_pos rfl), List.length_append, rfl⟩
  · exact ⟨_, (exec_pointLowering (decide_eq_true die)).trans (congrArg _ (doPointLowering_up online unforced short long faster quiet)),
      (lookup_insertAt ..).trans (if_pos rfl), rfl, rfl⟩
  · exact (exec_pointLowering (decide_eq_true die)).trans (congrArg _ (doPointLowering_stays online unforced short stays))

end Sys2Proof.Machine
end

section
/-! PROOFS. Heat, standby and clocks (O52). -/

namespace Sys2Proof.Machine

/-! ### Heat (R561) -/

section
variable {s : State} {d n : Nat} {temp : Int}

theorem State.four_le_sFloor (hot : s.dieHot d = true ∨ s.dieHot 4 = true) : 4 ≤ s.sFloor d := by
  unfold State.sFloor
  split
  · decide
  · rw [if_pos (Bool.or_eq_true_iff.2 (.inl (Bool.or_eq_true_iff.2 hot)))]

/-- A sensor belongs to its die. -/
theorem State.dieHot_of_sensor (noted : sensorId d n ∈ s.pw.hot) : s.dieHot d = true := by
  refine List.any_eq_true.2 ⟨_, noted, ?_⟩
  unfold sensorId
  split
  · exact decide_eq_true (by omega)
  · exact decide_eq_true (by omega)

/-- A sensor is noted as hot. -/
def State.noteHot (s : State) (d n : Nat) : State := { s with pw := { s.pw with hot := s.pw.hot ++ [sensorId d n] } }

/-- The first sensor of a die has its message. -/
def State.reportHot (s : State) (d n : Nat) (temp : Int) : State :=
  if !s.dieHot d then (s.noteHot d n).send (dieSub d 4) 0xBE (n + 256 * unsigned 8 temp) true [] else s.noteHot d n

theorem State.reportHot_eq :
    ∃ net seqs, s.reportHot d n temp = { s.noteHot d n with net := net, srcSeq := seqs }
      ∧ net.length = s.net.length + if s.dieHot d then 0 else 1 := by
  unfold State.reportHot
  cases s.dieHot d
  · exact ⟨_, _, if_pos rfl, List.length_append⟩
  · exact ⟨_, _, if_neg (by decide), rfl⟩

theorem doDieHot_ignored (ignored : temp < (s.fld (regMg 0x440) 31 24 : Int) ∨ s.pw.hot.contains (sensorId d n) = true) :
    doDieHot d n temp s = s := if_pos ignored

theorem doDieHot_noted (noted : ¬ (temp < (s.fld (regMg 0x440) 31 24 : Int) ∨ s.pw.hot.contains (sensorId d n) = true)) :
    doDieHot d n temp s = (s.reportHot d n temp).applyFloors := if_neg noted

/-- A sensor that reaches TJTHR is noted, its die reports once, and the dies concerned take their floor. -/
theorem doDieHot_leaves
    (noted : ¬ (temp < (s.fld (regMg 0x440) 31 24 : Int) ∨ s.pw.hot.contains (sensorId d n) = true)) :
    (doDieHot d n temp s).pw.hot = s.pw.hot ++ [sensorId d n]
      ∧ (doDieHot d n temp s).net.length = s.net.length + (if s.dieHot d then 0 else 1)
      ∧ (∀ e, e < 4 → s.dieOff e = false → (e = d ∨ d = 4) → 4 ≤ (doDieHot d n temp s).stretch e)
      ∧ (doDieHot d n temp s).mem = s.mem ∧ (doDieHot d n temp s).clusters = s.clusters := by
  obtain ⟨net, seqs, reported, length⟩ := State.reportHot_eq (s := s) (d := d) (n := n) (temp := temp)
  have frame := (s.reportHot d n temp).applyFloors_frame
  rw [doDieHot_noted noted]
  have hot : (s.reportHot d n temp).pw.hot = s.pw.hot ++ [sensorId d n] := by rw [reported]; rfl
  have isHot : (s.reportHot d n temp).dieHot d = true :=
    State.dieHot_of_sensor (by rw [hot]; exact List.mem_append_right _ List.mem_cons_self)
  refine ⟨frame.hot.trans hot, ?_, fun e small online concerned => ?_, ?_, ?_⟩
  · rw [frame.net, reported]
    exact length
  · refine (State.four_le_sFloor ?_).trans (State.floor_le_applyFloors small ?_)
    · rcases concerned with rfl | rfl
      · exact .inl isHot
      · exact .inr isHot
    · rw [reported]
      exact online
  · rw [frame.mem, reported]
    rfl
  · rw [frame.clusters, reported]
    rfl

/-- A sensor is no longer noted as hot. -/
def State.clearHot (s : State) (d n : Nat) : State :=
  { s with pw := { s.pw with hot := s.pw.hot.filter (fun x => x ≠ sensorId d n) } }

theorem doDieHotClear_eq (cleared : ¬ ((s.fld (regMg 0x440) 31 24 : Int) - 5 ≤ temp ∨ s.pw.hot.contains (sensorId d n) = false)) :
    doDieHotClear d n temp s = if (s.clearHot d n).dieHot d then s.clearHot d n
      else (s.clearHot d n).send (dieSub d 4) 0xBE (n + 256 * unsigned 8 temp) false [] := if_neg cleared

/-- A sensor five degrees below TJTHR is cleared; the last one of a die has its message. -/
theorem doDieHotClear_leaves (cleared : ¬ ((s.fld (regMg 0x440) 31 24 : Int) - 5 ≤ temp ∨ s.pw.hot.contains (sensorId d n) = false)) :
    (doDieHotClear d n temp s).pw.hot = s.pw.hot.filter (fun x => x ≠ sensorId d n)
      ∧ (doDieHotClear d n temp s).net.length = s.net.length + (if (doDieHotClear d n temp s).dieHot d then 0 else 1)
      ∧ (doDieHotClear d n temp s).regs = s.regs ∧ (doDieHotClear d n temp s).mem = s.mem
      ∧ (doDieHotClear d n temp s).clusters = s.clusters := by
  have sent : ((s.clearHot d n).send (dieSub d 4) 0xBE (n + 256 * unsigned 8 temp) false []).dieHot d = (s.clearHot d n).dieHot d := rfl
  rw [doDieHotClear_eq cleared]
  cases still : (s.clearHot d n).dieHot d
  · rw [if_neg Bool.false_ne_true, sent, still]
    exact ⟨rfl, List.length_append, rfl, rfl, rfl⟩
  · rw [if_pos rfl, still]
    exact ⟨rfl, rfl, rfl, rfl, rfl⟩

end

/-! ### Region gating (R563) -/

/-- A region that may be gated. -/
def State.gateReady (s : State) (r : Nat) : Prop :=
  s.fld (regPw 0) 0 0 = 1 ∧ r ∉ s.pw.gated
    ∧ ∀ i, i < 4 → (4 * r + i ∈ s.fences ∨ ((s.cl (4 * r + i)).seq.st ≠ .running ∧ (s.cl (4 * r + i)).seq.st ≠ .stopped))

/-- A cluster that lets its region be gated. -/
def State.gateIdle (s : State) (c : Nat) : Bool :=
  s.fences.contains c || decide ((s.cl c).seq.st ≠ .running ∧ (s.cl c).seq.st ≠ .stopped)

theorem State.gateReady_iff (s : State) (r : Nat) :
    (s.fld (regPw 0) 0 0 = 0 ∨ s.pw.gated.contains r = true ∨ (upTo 4).all (fun i => s.gateIdle (4 * r + i)) = false)
      ↔ ¬ s.gateReady r := by
  have flag := s.fld_lt (regPw 0) 0 0
  have idle : (upTo 4).all (fun i => s.gateIdle (4 * r + i)) = true ↔ ∀ i, i < 4 →
      (4 * r + i ∈ s.fences ∨ ((s.cl (4 * r + i)).seq.st ≠ .running ∧ (s.cl (4 * r + i)).seq.st ≠ .stopped)) := by
    simp only [List.all_eq_true, upTo, List.mem_range, State.gateIdle, Bool.or_eq_true, List.contains_iff_mem, decide_eq_true_eq]
  rw [State.gateReady, ← idle, List.contains_iff_mem, not_and_or, not_and_or, not_not, Bool.not_eq_true]
  exact or_congr_left (by omega)

theorem doRegionGating_ready {s : State} {r : Nat} (ready : s.gateReady r) :
    doRegionGating r s = { s with pw := { s.pw with gated := s.pw.gated ++ [r] } } :=
  if_neg fun h => (s.gateReady_iff r).1 h ready

theorem doRegionGating_busy {s : State} {r : Nat} (busy : ¬ s.gateReady r) : doRegionGating r s = s := if_pos ((s.gateReady_iff r).2 busy)

/-! ### The supervisor's halt (R568) -/

/-- A running cluster is stopped. -/
def State.stopLive (s : State) (k : Nat) : State :=
  if (s.cl k).seq.st = .running then
    (s.updSeq k (fun q => { q with st := .stopped, wait := .none, isOpen := false })).halt k
  else s

theorem State.halt_eq (s : State) (k : Nat) : ∃ regs clusters, s.halt k = { s with regs := regs, clusters := clusters } := by
  unfold State.halt
  split
  · dsimp only
    split
    · exact ⟨_, _, rfl⟩
    · exact ⟨s.regs, _, rfl⟩
  · exact ⟨s.regs, s.clusters, rfl⟩

theorem State.stopLive_eq (s : State) (k : Nat) : ∃ regs clusters, s.stopLive k = { s with regs := regs, clusters := clusters } := by
  unfold State.stopLive
  split
  · obtain ⟨regs, clusters, eq⟩ := State.halt_eq (s.updSeq k (fun q => { q with st := .stopped, wait := .none, isOpen := false })) k
    rw [eq]
    exact ⟨_, _, rfl⟩
  · exact ⟨s.regs, s.clusters, rfl⟩

theorem State.stopLive_frame (s : State) {k : Nat} (small : k < 64) : ClusterFrame k s (s.stopLive k) := by
  unfold State.stopLive
  split
  · exact (ClusterFrame.setCl _).trans (State.halt_frame _ small)
  · exact .refl k s

theorem State.stopLive_stops (s : State) (k : Nat) : ((s.stopLive k).cl k).seq.st ≠ .running := by
  unfold State.stopLive
  split
  next running =>
    have stopped : ((s.updSeq k (fun q => { q with st := .stopped, wait := .none, isOpen := false })).cl k).seq.st = .stopped := by
      rw [State.updSeq, State.cl_setCl_same]
    rw [State.cl_halt stopped]
    exact fun same => nomatch stopped.symm.trans same
  next idle => exact idle

theorem State.stopLive_keeps {s : State} {c k : Nat} (small : k < 64) (idle : (s.cl c).seq.st ≠ .running) :
    ((s.stopLive k).cl c).seq.st ≠ .running := by
  by_cases own : c = k
  · exact own ▸ s.stopLive_stops k
  · rw [(s.stopLive_frame small).cl c own]
    exact idle

/-- What the stops of the listed clusters leave. -/
theorem State.foldl_stopLive {l : List Nat} (small : ∀ k, k ∈ l → k < 64) (s : State) :
    (∃ regs clusters, l.foldl State.stopLive s = { s with regs := regs, clusters := clusters })
      ∧ (∀ off, 0x160000 ≤ off → off ≠ regRc 4 → (l.foldl State.stopLive s).reg off = s.reg off)
      ∧ ∀ c, c ∈ l ∨ (s.cl c).seq.st ≠ .running → ((l.foldl State.stopLive s).cl c).seq.st ≠ .running := by
  induction l generalizing s with
  | nil => exact ⟨⟨s.regs, s.clusters, rfl⟩, fun _ _ _ => rfl, fun c idle => idle.resolve_left List.not_mem_nil⟩
  | cons k l ih =>
    have own := small k List.mem_cons_self
    obtain ⟨⟨regs, clusters, eq⟩, reg, idle⟩ := ih (fun c mem => small c (List.mem_cons_of_mem k mem)) (s.stopLive k)
    obtain ⟨regs', clusters', eq'⟩ := s.stopLive_eq k
    refine ⟨⟨regs, clusters, eq.trans (by rw [eq'])⟩, fun off low dump => (reg off low dump).trans ((s.stopLive_frame own).reg off low dump),
      fun c was => idle c ?_⟩
    rcases was with mem | was
    · rcases List.mem_cons.1 mem with rfl | later
      · exact .inr (s.stopLive_stops c)
      · exact .inl later
    · exact .inr (State.stopLive_keeps own was)

theorem State.stopRunning_eq (s : State) : s.stopRunning = (upTo 64).foldl State.stopLive s := rfl

/-- The module is marked as halted and the safe line rises. -/
def State.markSuper (s : State) : State :=
  { s with rst := { s.rst with halted := true }, saf := { s.saf with safeLine := true } }

theorem State.markSuper_keeps (s : State) : s.markSuper.fc = s.fc ∧ s.markSuper.net = s.net ∧ s.markSuper.regs = s.regs
    ∧ s.markSuper.clusters = s.clusters := ⟨rfl, rfl, rfl, rfl⟩

theorem State.markSuper_marks (s : State) : s.markSuper.rst.halted = true ∧ s.markSuper.saf.safeLine = true := ⟨rfl, rfl⟩

theorem State.superHalt_eq (s : State) : s.superHalt =
    ((s.stopRunning.markSuper.setFld (regKs 4) 3 3 0).setFld (regKs 4) 4 4 0).setFld (regFc 4) 2 2 1 := by
  unfold State.superHalt State.stopRunning State.markSuper
  dsimp only

/-- What the supervisor's halt leaves: no log entry, no message, no cluster running. -/
structure SuperHalted (s t : State) : Prop where
  halted : t.rst.halted = true
  safe : t.saf.safeLine = true
  pinA : t.fld (regKs 4) 3 3 = 0
  pinB : t.fld (regKs 4) 4 4 = 0
  idle : ∀ c, c < 64 → (t.cl c).seq.st ≠ .running
  fc : t.fc = s.fc
  net : t.net = s.net
  clk : ∀ hi lo, t.fld (regClk 0) hi lo = s.fld (regClk 0) hi lo

theorem State.superHalt_halted (s : State) : SuperHalted s s.superHalt := by
  obtain ⟨⟨regs, clusters, eq⟩, reg, idle⟩ := State.foldl_stopLive (fun k mem => List.mem_range.1 mem) s (l := upTo 64)
  rw [← State.stopRunning_eq] at eq reg idle
  obtain ⟨fc, net, same, cls⟩ := s.stopRunning.markSuper_keeps
  have halted := s.stopRunning.markSuper_marks
  have clk : ∀ hi lo, s.stopRunning.markSuper.fld (regClk 0) hi lo = s.fld (regClk 0) hi lo := fun hi lo => by
    rw [State.fld_of_regs same, State.fld, reg _ (by decide) (by decide), State.fld]
  have still : ∀ c, c < 64 → (s.stopRunning.markSuper.cl c).seq.st ≠ .running := fun c small => by
    rw [State.cl, cls, ← State.cl]
    exact idle c (.inl (List.mem_range.2 small))
  have fields : s.stopRunning.fc = s.fc ∧ s.stopRunning.net = s.net := by
    rw [eq]
    exact ⟨rfl, rfl⟩
  rw [← fc, ← net] at fields
  rw [State.superHalt_eq]
  generalize s.stopRunning.markSuper = u at fields halted clk still ⊢
  refine ⟨halted.1, halted.2, ?_, ?_, still, fields.1, fields.2, fun hi lo => ?_⟩
  · rw [State.fld_setFld_ne _ (by decide), State.fld_setFld_disjoint _ _ _ (by decide) (by decide) (by decide) (by decide),
      State.fld_setFld _ _ _ (by decide) (by decide)]
    rfl
  · rw [State.fld_setFld_ne _ (by decide), State.fld_setFld _ _ _ (by decide) (by decide)]
    rfl
  · rw [State.fld_setFld_ne _ (by decide), State.fld_setFld_ne _ (by decide), State.fld_setFld_ne _ (by decide), clk]

/-! ### Clock monitors (R567) -/

section
variable {s : State} {m count : Nat} {ok lost : Bool}

theorem State.testBit_monMask : (2 ^ (m % 32)).testBit (m % 32) = true := Nat.testBit_two_pow_self

theorem State.monBit_iff : s.monBit m = true ↔ (s.reg (regMon m)).getLsbD (m % 32) = true := by rw [State.monBit, bitOf_toNat]

theorem State.monBit_orReg : (s.orReg (regMon m) (2 ^ (m % 32))).monBit m = true := by
  rw [State.monBit_iff, State.orReg, State.reg_setReg_same, BitVec.getLsbD_or, BitVec.getLsbD_ofNat, State.testBit_monMask,
    decide_eq_true (Nat.mod_lt _ (by decide)), Bool.and_self, Bool.or_true]

theorem State.monBit_clrReg : (s.clrReg (regMon m) (2 ^ (m % 32))).monBit m = false := by
  rw [State.monBit, bitOf_toNat, State.clrReg, State.reg_setReg_same, BitVec.getLsbD_and, BitVec.getLsbD_not, BitVec.getLsbD_ofNat,
    State.testBit_monMask, decide_eq_true (Nat.mod_lt _ (by decide)), Bool.and_self, Bool.not_true, Bool.and_false, Bool.and_false]

theorem State.monBit_of_regs {t : State} (regs : t.regs = s.regs) : t.monBit m = s.monBit m := by
  rw [State.monBit, State.reg_of_regs regs, State.monBit]

/-- The good windows of a domain, forgotten or counted. -/
def State.forgetGood (s : State) (m : Nat) : State := { s with pw := { s.pw with good := s.pw.good.erase m } }
def State.countGood (s : State) (m : Nat) : State :=
  { s with pw := { s.pw with good := s.pw.good.set m (s.pw.good.get m 0 + 1) } }

theorem doClkMon_stopped (stopped : s.clkStopped m = true) : doClkMon m count ok lost s = s := if_pos (.inr stopped)

theorem State.clkMon_spare (spare : lost = false ∨ (m ≠ 4 ∧ m ≠ 39)) : ¬ (lost = true ∧ (m = 4 ∨ m = 39)) := by
  rintro ⟨gone, vital⟩
  rcases spare with here | apart
  · exact Bool.false_ne_true (here.symm.trans gone)
  · omega

theorem State.clkMon_good (good : ¬ (ok = false ∨ lost = true)) : ¬ (!ok || lost) = true := by
  rw [Bool.or_eq_true, Bool.not_eq_true']
  exact good

section
variable (domain : m < 40) (judged : s.clkStopped m = false)
include domain judged

theorem State.clkMon_open : ¬ (40 ≤ m ∨ s.clkStopped m = true) := by
  rw [judged]
  exact not_or.2 ⟨by omega, Bool.false_ne_true⟩

/-- The hub's own clock, or the supervisor's reference, is lost. -/
theorem doClkMon_halts (vital : m = 4 ∨ m = 39) :
    doClkMon m count ok true s = (s.orReg (regMon m) (2 ^ (m % 32))).superHalt :=
  (if_neg (State.clkMon_open domain judged)).trans (if_pos ⟨rfl, vital⟩)

section
variable (spare : lost = false ∨ (m ≠ 4 ∧ m ≠ 39))
include spare

theorem doClkMon_bad (bad : ok = false ∨ lost = true) :
    doClkMon m count ok lost s = if (s.forgetGood m).monBit m then s.forgetGood m
      else ((s.forgetGood m).orReg (regMon m) (2 ^ (m % 32))).send (0xD10 + m) 0xB8 count true [] := by
  refine ((if_neg (State.clkMon_open domain judged)).trans (if_neg (State.clkMon_spare spare))).trans (if_pos ?_)
  rw [Bool.or_eq_true, Bool.not_eq_true']
  exact bad

section
variable (good : ¬ (ok = false ∨ lost = true))
include good

theorem doClkMon_quiet (clear : s.monBit m = false) : doClkMon m count ok lost s = s :=
  (((if_neg (State.clkMon_open domain judged)).trans (if_neg (State.clkMon_spare spare))).trans (if_neg (State.clkMon_good good))).trans
    (if_neg (by rw [clear]; exact Bool.false_ne_true))

theorem doClkMon_counts (noted : s.monBit m = true) (early : s.pw.good.get m 0 + 1 < 10) : doClkMon m count ok lost s = s.countGood m :=
  ((((if_neg (State.clkMon_open domain judged)).trans (if_neg (State.clkMon_spare spare))).trans
    (if_neg (State.clkMon_good good))).trans (if_pos noted)).trans (if_pos early)

theorem doClkMon_clears (noted : s.monBit m = true) (tenth : 10 ≤ s.pw.good.get m 0 + 1) :
    doClkMon m count ok lost s = ((s.forgetGood m).clrReg (regMon m) (2 ^ (m % 32))).send (0xD10 + m) 0xB8 count false [] :=
  ((((if_neg (State.clkMon_open domain judged)).trans (if_neg (State.clkMon_spare spare))).trans
    (if_neg (State.clkMon_good good))).trans (if_pos noted)).trans (if_neg (Nat.not_lt.2 tenth))

end

/-- What a bad window leaves. -/
theorem doClkMon_bad_leaves (bad : ok = false ∨ lost = true) :
    (doClkMon m count ok lost s).monBit m = true
      ∧ (doClkMon m count ok lost s).net.length = s.net.length + (if s.monBit m then 0 else 1)
      ∧ (doClkMon m count ok lost s).pw.good.has m = false ∧ (doClkMon m count ok lost s).mem = s.mem := by
  have same : (s.forgetGood m).monBit m = s.monBit m := State.monBit_of_regs rfl
  have gone : (s.forgetGood m).pw.good.has m = false := Table.has_erase ..
  rw [doClkMon_bad domain judged spare bad, same]
  cases noted : s.monBit m
  · rw [if_neg Bool.false_ne_true]
    exact ⟨(State.monBit_of_regs (State.send_regs ..)).trans State.monBit_orReg, List.length_append, gone, rfl⟩
  · rw [if_pos rfl]
    exact ⟨same.trans noted, rfl, gone, rfl⟩

end
end
end

/-! ### Oscillators (R568, R569) -/

section
variable {s : State} {n : Nat} {ppm : Int}

theorem doOscFail_gone (one : n < 2) (gone : s.fld (regClk 0) (2 + n) (2 + n) = 0) : doOscFail n ppm s = s :=
  (if_neg (by omega)).trans (if_pos (.inr gone))

/-- The oscillators disagree: the difference is noted, and beyond 300 ppm reported. -/
theorem doOscFail_differ :
    doOscFail 2 ppm s = if -300 ≤ ppm ∧ ppm ≤ 300 then s.setFld (regClk 4) 15 0 (unsigned 16 ppm)
      else (s.setFld (regClk 4) 15 0 (unsigned 16 ppm)).sendEv 0xD03 0xBA 2 := rfl

/-- An oscillator that stops. -/
theorem doOscFail_stops (one : n < 2) (ran : s.fld (regClk 0) (2 + n) (2 + n) = 1) :
    doOscFail n ppm s = (let u := s.setFld (regClk 0) (2 + n) (2 + n) 0
      if u.fld (regClk 0) 1 1 = n then
        (if u.fld (regClk 0) (3 - n) (3 - n) = 1 then
          ((u.setFld (regClk 0) 1 1 (1 - n)).sendEv pwSrc 0xB9 (1 - n)).send (0xD03 + n) 0xBA 1 true []
        else u.superHalt)
      else u.send (0xD03 + n) 0xBA 1 true []) :=
  (if_neg (by omega)).trans (if_neg (by omega))

/-- What the stop of an oscillator leaves. -/
theorem doOscFail_leaves (one : n < 2) (ran : s.fld (regClk 0) (2 + n) (2 + n) = 1) :
    (doOscFail n ppm s).fld (regClk 0) (2 + n) (2 + n) = 0
      ∧ (s.fld (regClk 0) 1 1 ≠ n → (doOscFail n ppm s).net.length = s.net.length + 1
        ∧ (doOscFail n ppm s).fld (regClk 0) 1 1 = s.fld (regClk 0) 1 1)
      ∧ (s.fld (regClk 0) 1 1 = n → s.fld (regClk 0) (3 - n) (3 - n) = 1 → (doOscFail n ppm s).fld (regClk 0) 1 1 = 1 - n
        ∧ (doOscFail n ppm s).net.length = s.net.length + 2)
      ∧ (s.fld (regClk 0) 1 1 = n → s.fld (regClk 0) (3 - n) (3 - n) = 0 → (doOscFail n ppm s).rst.halted = true) := by
  have off : (s.setFld (regClk 0) (2 + n) (2 + n) 0).fld (regClk 0) (2 + n) (2 + n) = 0 := by
    rw [State.fld_setFld _ _ _ (Nat.le_refl _) (by omega), Nat.zero_mod]
  have active : (s.setFld (regClk 0) (2 + n) (2 + n) 0).fld (regClk 0) 1 1 = s.fld (regClk 0) 1 1 :=
    State.fld_setFld_disjoint _ _ _ (Nat.le_refl _) (by decide) (by decide) (by omega)
  have other : (s.setFld (regClk 0) (2 + n) (2 + n) 0).fld (regClk 0) (3 - n) (3 - n) = s.fld (regClk 0) (3 - n) (3 - n) :=
    State.fld_setFld_disjoint _ _ _ (Nat.le_refl _) (Nat.le_refl _) (by omega) (by omega)
  have net : (s.setFld (regClk 0) (2 + n) (2 + n) 0).net = s.net := rfl
  rw [doOscFail_stops one ran]
  dsimp only
  generalize s.setFld (regClk 0) (2 + n) (2 + n) 0 = u at off active other net ⊢
  rw [← active, ← other, ← net]
  have apart (v : Nat) : (u.setFld (regClk 0) 1 1 v).fld (regClk 0) (2 + n) (2 + n) = 0 :=
    (State.fld_setFld_disjoint _ _ _ (Nat.le_refl _) (Nat.le_refl _) (by omega) (by omega)).trans off
  by_cases own : u.fld (regClk 0) 1 1 = n
  · rw [if_pos own]
    by_cases second : u.fld (regClk 0) (3 - n) (3 - n) = 1
    · rw [if_pos second]
      refine ⟨?_, fun h => absurd own h, fun _ _ => ⟨?_, ?_⟩, fun _ no => absurd second (by omega)⟩
      · rw [State.fld_send, State.sendEv, State.fld_send, apart]
      · rw [State.fld_send, State.sendEv, State.fld_send, State.fld_setFld _ _ _ (Nat.le_refl 1) (by decide)]
        exact Nat.mod_eq_of_lt (by omega)
      · rw [State.send_net, List.length_append, State.sendEv, State.send_net, List.length_append]
        rfl
    · rw [if_neg second]
      have halted := u.superHalt_halted
      exact ⟨(halted.clk ..).trans off, fun h => absurd own h, fun _ yes => absurd yes second, fun _ _ => halted.halted⟩
  · rw [if_neg own]
    exact ⟨(State.fld_send ..).trans off, fun _ => ⟨List.length_append, State.fld_send ..⟩, fun h => absurd h own, fun h => absurd h own⟩

/-- A selection is taken while every context is disabled; a failed oscillator does not become active. -/
theorem doClkOsc_taken {v : Word32} (disabled : s.allDisabled = true) :
    (doClkOsc v s).fld (regClk 0) 0 0 = v.toNat % 2
      ∧ (doClkOsc v s).fld (regClk 0) 1 1 = (if s.fld (regClk 0) (2 + v.toNat % 2) (2 + v.toNat % 2) = 1 then v.toNat % 2
        else s.fld (regClk 0) 1 1)
      ∧ (doClkOsc v s).net = s.net ∧ (doClkOsc v s).mem = s.mem ∧ (doClkOsc v s).clusters = s.clusters := by
  have small : v.toNat % 2 < 2 := Nat.mod_lt _ (by decide)
  have eq : doClkOsc v s = (let u := s.setFld (regClk 0) 0 0 (v.toNat % 2)
      if u.fld (regClk 0) (2 + v.toNat % 2) (2 + v.toNat % 2) = 1 then u.setFld (regClk 0) 1 1 (v.toNat % 2) else u) := by
    have one : bitsOf v.toNat 0 0 = v.toNat % 2 := bitsOf_zero ..
    rw [← one]
    exact if_neg (by rw [disabled]; decide)
  rw [eq]
  generalize v.toNat % 2 = n at small
  have selected : (s.setFld (regClk 0) 0 0 n).fld (regClk 0) 0 0 = n :=
    (State.fld_setFld _ _ _ (Nat.le_refl 0) (by decide)).trans (Nat.mod_eq_of_lt small)
  have alive : (s.setFld (regClk 0) 0 0 n).fld (regClk 0) (2 + n) (2 + n) = s.fld (regClk 0) (2 + n) (2 + n) :=
    State.fld_setFld_disjoint _ _ _ (Nat.le_refl 0) (Nat.le_refl _) (by omega) (by omega)
  have active : (s.setFld (regClk 0) 0 0 n).fld (regClk 0) 1 1 = s.fld (regClk 0) 1 1 :=
    State.fld_setFld_disjoint _ _ _ (Nat.le_refl 0) (Nat.le_refl _) (by decide) (by decide)
  have keeps : (s.setFld (regClk 0) 0 0 n).net = s.net ∧ (s.setFld (regClk 0) 0 0 n).mem = s.mem
    ∧ (s.setFld (regClk 0) 0 0 n).clusters = s.clusters := ⟨rfl, rfl, rfl⟩
  dsimp only
  generalize s.setFld (regClk 0) 0 0 n = u at selected alive active keeps ⊢
  rw [alive]
  split
  next good =>
    refine ⟨?_, (State.fld_setFld _ _ _ (Nat.le_refl 1) (by decide)).trans (Nat.mod_eq_of_lt small), keeps⟩
    exact (State.fld_setFld_disjoint _ _ _ (Nat.le_refl 1) (by decide) (by decide) (by decide)).trans selected
  next failed => exact ⟨selected, active, keeps⟩

end

end Sys2Proof.Machine
end

section
/-! PROOFS. Standby (O52): entry resets Keystone, the memory, the clusters and the ports; exit trains the ports again. -/

namespace Sys2Proof.Machine

/-! ### What the resets of clusters leave alone -/

/-- From s to t the decisions, the RUNs, the hosts of clusters and the relief list stayed. -/
structure KeepsWork (s t : State) : Prop where
  decs : t.decs = s.decs
  runs : t.runs = s.runs
  relief : t.relief = s.relief
  hostMap : t.hostMap = s.hostMap

namespace KeepsWork

variable {s t u : State}

theorem of_eq (decs : t.decs = s.decs := by rfl) (runs : t.runs = s.runs := by rfl) (relief : t.relief = s.relief := by rfl)
    (hostMap : t.hostMap = s.hostMap := by rfl) : KeepsWork s t := ⟨decs, runs, relief, hostMap⟩

theorem refl (s : State) : KeepsWork s s := of_eq

theorem trans (f : KeepsWork s t) (g : KeepsWork t u) : KeepsWork s u :=
  ⟨g.decs.trans f.decs, g.runs.trans f.runs, g.relief.trans f.relief, g.hostMap.trans f.hostMap⟩

theorem foldl {α : Type} {f : State → α → State} {l : List α} (each : ∀ t, ∀ x ∈ l, KeepsWork t (f t x)) (s : State) :
    KeepsWork s (l.foldl f s) :=
  List.foldlRecOn (motive := KeepsWork s) l f (.refl s) fun t same x hx => same.trans (each t x hx)

end KeepsWork

section
variable (s : State) (c : Nat)

theorem State.halt_work : KeepsWork s (s.halt c) := by
  obtain ⟨regs, clusters, eq⟩ := s.halt_eq c
  rw [eq]
  exact .of_eq

theorem State.bumpGen_work : KeepsWork s (s.bumpGen c) := by
  unfold State.bumpGen
  dsimp only
  split
  · exact .of_eq
  · exact .of_eq

theorem State.reqReset_work : KeepsWork s (s.reqReset c) := by
  unfold State.reqReset
  split
  · exact .refl s
  · exact (KeepsWork.of_eq (t := s.updSeq c _)).trans ((State.halt_work _ c).trans ((State.bumpGen_work _ c).trans .of_eq))

theorem State.stage_work (d : Dump) : KeepsWork s (s.stage d) := by
  unfold State.stage
  extract_lets l
  split
  · exact .of_eq
  · exact .of_eq

theorem State.dumpBefore_work : KeepsWork s (s.dumpBefore c) := by
  unfold State.dumpBefore
  split
  · exact s.stage_work _
  · exact .refl s

theorem State.runReset_work : KeepsWork s (s.runReset c) := by
  rw [State.runReset_eq]
  exact (s.dumpBefore_work c).trans ((KeepsWork.of_eq (t := (s.dumpBefore c).clearCluster c)).trans
    ((KeepsWork.foldl (f := fun (u : State) o => u.setReg (regCl c o) 0) (fun _ _ _ => .of_eq) _).trans .of_eq))

theorem State.resetCluster_work : KeepsWork s (s.resetCluster c) := (s.reqReset_work c).trans (State.runReset_work _ c)

end

/-! ### The ports -/

/-- A port starts afresh in a state. -/
def State.restartPort (s : State) (p v : Nat) : State := (s.setVp p VdPort.reset).vpEnter p v

section
variable {s : State} {p v : Nat}

theorem State.restartPort_frame (s : State) (p v : Nat) : PortFrame p s (s.restartPort p v) :=
  ((PortFrame.refl p s).setVp _).trans (State.vpEnter_frame _ p v)

theorem State.vpState_restartPort (named : v < 8) (up : v ≠ 4) : (s.restartPort p v).vpState p = v :=
  State.vpState_vpEnter _ p named up

/-- The enable of a port is none of what its restart writes. -/
theorem State.enable_restartPort (up : v ≠ 4) : (s.restartPort p v).reg (regVp p 0) = s.reg (regVp p 0) := by
  obtain ⟨net, seqs, entered⟩ := (s.setVp p VdPort.reset).vpEnter_eq p up
  rw [State.restartPort, entered]
  exact (State.reg_of_regs rfl _).trans (State.reg_setReg_ne _ _ (regVp_ne (by decide)))

theorem State.decs_restartPort (up : v ≠ 4) : (s.restartPort p v).decs = s.decs := by
  obtain ⟨net, seqs, entered⟩ := (s.setVp p VdPort.reset).vpEnter_eq p up
  rw [State.restartPort, entered]
  rfl

end

/-- Ports visited in turn: each visit stays within its port and takes the port concerned to its state. -/
theorem State.vpState_foldl {f : State → Nat → State} {q v : Nat} {w : Word32} {l : List Nat}
    (frame : ∀ t p, p ≠ q → PortFrame p t (f t p))
    (own : ∀ t : State, t.reg (regVp q 0) = w → (f t q).vpState q = v ∧ (f t q).reg (regVp q 0) = w) (s : State)
    (enable : s.reg (regVp q 0) = w) (visited : q ∈ l ∨ s.vpState q = v) : (l.foldl f s).vpState q = v := by
  induction l generalizing s with
  | nil => exact visited.resolve_left List.not_mem_nil
  | cons p l ih =>
    by_cases same : p = q
    · subst same
      obtain ⟨entered, kept⟩ := own s enable
      exact ih _ kept (.inr entered)
    · have apart := frame s p same
      refine ih _ ((apart.reg _ (inPort_apart (by decide) (Ne.symm same))).trans enable) ?_
      rcases visited with listed | was
      · exact .inl ((List.mem_cons.1 listed).resolve_left (Ne.symm same))
      · exact .inr ((apart.vpState (Ne.symm same)).trans was)

/-! ### STANDBY_ENTRY (R562) -/

/-- From s to t the decisions and the registers from the fault collector's on stayed, but for the dump status. -/
structure SleepFrame (s t : State) : Prop where
  reg : ∀ off, regFc 0 ≤ off → off ≠ regRc 4 → t.reg off = s.reg off
  decs : t.decs = s.decs

namespace SleepFrame

variable {s t u : State}

theorem refl (s : State) : SleepFrame s s := ⟨fun _ _ _ => rfl, rfl⟩

theorem trans (f : SleepFrame s t) (g : SleepFrame t u) : SleepFrame s u :=
  ⟨fun off above dump => (g.reg off above dump).trans (f.reg off above dump), g.decs.trans f.decs⟩

theorem foldl {α : Type} {f : State → α → State} {l : List α} (each : ∀ t, ∀ x ∈ l, SleepFrame t (f t x)) (s : State) :
    SleepFrame s (l.foldl f s) :=
  List.foldlRecOn (motive := SleepFrame s) l f (.refl s) fun t same x hx => same.trans (each t x hx)

theorem setFld (f : SleepFrame s t) {off : Nat} (low : off < regFc 0) (hi lo v : Nat) : SleepFrame s (t.setFld off hi lo v) :=
  f.trans ⟨fun _ _ _ => State.reg_setReg_ne _ _ (by omega), rfl⟩

theorem fld (f : SleepFrame s t) {off : Nat} (above : regFc 0 ≤ off) (dump : off ≠ regRc 4) (hi lo : Nat) :
    t.fld off hi lo = s.fld off hi lo := by rw [State.fld, f.reg off above dump, State.fld]

end SleepFrame

/-- From s to t the registers changed only in the sensor ports, and the decisions stayed. -/
structure PenFrame (s t : State) : Prop where
  reg : ∀ off, (off < regAp 0 0 ∨ regAp 16 0 ≤ off) → t.reg off = s.reg off
  decs : t.decs = s.decs

namespace PenFrame

variable {s t u : State}

theorem refl (s : State) : PenFrame s s := ⟨fun _ _ => rfl, rfl⟩

theorem of_eq (regs : t.regs = s.regs) (decs : t.decs = s.decs) : PenFrame s t := ⟨fun off _ => State.reg_of_regs regs off, decs⟩

theorem trans (f : PenFrame s t) (g : PenFrame t u) : PenFrame s u :=
  ⟨fun off apart => (g.reg off apart).trans (f.reg off apart), g.decs.trans f.decs⟩

theorem setFld (f : PenFrame s t) {n o : Nat} (port : n < 16) (inside : o < 0x1000) (hi lo v : Nat) :
    PenFrame s (t.setFld (regAp n o) hi lo v) := by
  refine f.trans ⟨fun off apart => State.reg_setReg_ne _ _ ?_, rfl⟩
  unfold regAp at apart ⊢
  omega

theorem fld (f : PenFrame s t) {off : Nat} (apart : off < regAp 0 0 ∨ regAp 16 0 ≤ off) (hi lo : Nat) :
    t.fld off hi lo = s.fld off hi lo := by rw [State.fld, f.reg off apart, State.fld]

theorem foldl {α : Type} {f : State → α → State} {l : List α} (each : ∀ t, ∀ x ∈ l, PenFrame t (f t x)) (s : State) :
    PenFrame s (l.foldl f s) :=
  List.foldlRecOn (motive := PenFrame s) l f (.refl s) fun t same x hx => same.trans (each t x hx)

/-- The contexts are no sensor ports. -/
theorem allDisabled (f : PenFrame s t) : t.allDisabled = s.allDisabled := by
  rw [Bool.eq_iff_iff, State.allDisabled, State.allDisabled, List.all_eq_true, List.all_eq_true]
  refine forall₂_congr fun c mem => ?_
  have small := List.mem_range.1 mem
  rw [f.fld (by unfold regCtx regAp; omega)]

end PenFrame

/-- A write of AP_POC changes registers of its port alone. -/
theorem doPen_penFrame {port : Nat} (small : port < 16) (v : Word32) (s : State) : PenFrame s (doPen port v s) := by
  have taken : PenFrame s (s.takeSetting port v) := by
    unfold State.takeSetting
    split
    · exact (PenFrame.refl s).setFld small (by decide) ..
    · exact .refl s
  rcases doPen_cases small v with e | e | ⟨-, -, e⟩ | e | e <;> rw [e]
  · exact taken
  · exact taken.trans (.of_eq rfl rfl)
  · exact (taken.setFld (o := 0x30) small (by decide) 31 31 1).setFld (o := 0x34) small (by decide) 27 25 1
  · exact taken.setFld (o := 0x30) small (by decide) 31 31 0
  · refine ((taken.setFld (o := 0x30) small (by decide) 31 31 0).setFld (o := 0x34) small (by decide) 27 25 4).trans (.of_eq ?_ ?_)
    · exact State.powerMark_keeps State.regs _ port (fun _ => rfl)
    · exact State.powerMark_keeps State.decs _ port (fun _ => rfl)

theorem State.countServed_sleep (s : State) : SleepFrame s s.countServed := by
  obtain ⟨r, eq⟩ := s.countServed_eq
  refine ⟨fun off above _ => ?_, by rw [eq]⟩
  refine List.foldlRecOn (motive := fun t : State => t.reg off = s.reg off) (upTo 64) _ rfl fun t same pc mem => ?_
  have small := List.mem_range.1 mem
  have other : regHbs (pc / 32) 0x10 ≠ off := by
    unfold regFc at above
    unfold regHbs
    omega
  rw [State.setFld_eq, State.reg_setReg_ne _ _ other, same]

/-- Self-refresh is entered, or held already. -/
theorem doSrenter_sleeps {s : State} (disabled : s.allDisabled = true) (live : s.detMode = 0) :
    (doSrenter s).selfRefresh = true ∧ SleepFrame s (doSrenter s) := by
  cases asleep : s.selfRefresh with
  | true =>
    have same : doSrenter s = s := by
      rw [doSrenter, if_neg (by simp [disabled, live]), if_pos asleep]
    rw [same]
    exact ⟨asleep, .refl s⟩
  | false =>
    refine ⟨(doSrenter_enters disabled live asleep).1, ?_⟩
    have enters : doSrenter s = State.setFld { s.countServed with hbm := { s.countServed.hbm with
        queues := ⟨[]⟩, acts := ⟨[]⟩, aggrs := ⟨[]⟩, pends := ⟨[]⟩, opens := ⟨[]⟩ } } (regHb 4) 0 0 1 := by
      rw [doSrenter, if_neg (by simp [disabled, live]), asleep]
      rfl
    rw [enters]
    have emptied (u : State) (h : Hbm) : SleepFrame u { u with hbm := h } := ⟨fun _ _ _ => rfl, rfl⟩
    exact s.countServed_sleep.trans ((emptied _ _).setFld (off := regHb 4) (by decide) 0 0 1)

theorem State.resetCluster_sleep (s : State) {c : Nat} (small : c < 64) : SleepFrame s (s.resetCluster c) := by
  refine ⟨fun off above dump => (s.resetCluster_frame small).reg off ?_ dump, (s.resetCluster_work c).decs⟩
  unfold regFc at above
  omega

theorem State.restartPort_sleep (s : State) {p v : Nat} (small : p < 8) (up : v ≠ 4) : SleepFrame s (s.restartPort p v) := by
  refine ⟨fun off above _ => (s.restartPort_frame p v).reg off ?_, State.decs_restartPort up⟩
  unfold regFc at above
  unfold inPort regVp regVd
  omega

/-- Clusters reset in turn are idle. -/
theorem State.foldl_resetCluster_idle {l : List Nat} (small : ∀ c, c ∈ l → c < 64) (s : State) {c : Nat}
    (reset : c ∈ l ∨ (s.cl c).seq.st = .idle) : ((l.foldl (fun (s : State) c => s.resetCluster c) s).cl c).seq.st = .idle := by
  induction l generalizing s with
  | nil => exact reset.resolve_left List.not_mem_nil
  | cons k l ih =>
    refine ih (fun c mem => small c (List.mem_cons_of_mem k mem)) _ ?_
    by_cases same : c = k
    · subst same
      exact .inr (s.resetCluster_idle c)
    · rcases reset with listed | idle
      · exact .inl ((List.mem_cons.1 listed).resolve_left same)
      · rw [(s.resetCluster_frame (small k List.mem_cons_self)).cl c same]
        exact .inr idle

/-! The phases of the entry. -/

/-- Keystone is in BOOT, nothing waits for a decision. -/
def State.standKeystone (s : State) : State :=
  let t := (((s.setFld (regPw 4) 0 0 1).setFld (regKs 4) 1 0 0).setFld (regKs 4) 3 3 0).setFld (regKs 4) 4 4 0
  { t with saf := { t.saf with safeLine := true, rel := 0, cov := 0, fbRun := none }, decs := [] }

/-- The sensor supplies are switched off. -/
def State.standSensors (s : State) : State :=
  (upTo 16).foldl (fun (s : State) n => doPen n (s.reg (regAp n 0x30) &&& 0x7FFFFFFF#32) s) s

def State.standClusters (s : State) : State := (upTo 64).foldl (fun (s : State) c => s.resetCluster c) s

def State.standPorts (s : State) : State := (upTo 8).foldl (fun (s : State) p => s.restartPort p 0) s

/-- P3 is entered. -/
def State.standDown (s : State) : State :=
  { s with sens := { s.sens with cams := ⟨[]⟩, bufs := ⟨[]⟩ }, inp := { s.inp with cams := ⟨[]⟩, lids := ⟨[]⟩ } }.setFld (regPw 8) 1 0 2

/-- Standby is entered with every context disabled, no job running and live mode. -/
def State.standFree (s : State) : Prop := s.allDisabled = true ∧ (∀ j, j < 16 → s.jState j ≠ 1) ∧ s.mode = 0

section
variable {s : State}

theorem State.standFree_iff :
    (s.allDisabled = false ∨ (upTo 16).any (fun j => decide (s.jState j = 1)) = true ∨ s.mode ≠ 0) ↔ ¬ s.standFree := by
  have running : (upTo 16).any (fun j => decide (s.jState j = 1)) = true ↔ ¬ ∀ j, j < 16 → s.jState j ≠ 1 := by
    simp only [List.any_eq_true, upTo, List.mem_range, decide_eq_true_eq, not_forall, not_not, exists_prop]
  rw [State.standFree, not_and_or, not_and_or, running, Bool.not_eq_true]

theorem doStandbyEntry_refused (awake : s.inP3 = false) (busy : ¬ s.standFree) : doStandbyEntry s = s.setFld (regPw 8) 4 4 1 :=
  (if_neg (by rw [awake]; exact Bool.false_ne_true)).trans (if_pos (State.standFree_iff.2 busy))

theorem doStandbyEntry_eq (awake : s.inP3 = false) (free : s.standFree) :
    doStandbyEntry s = (doSrenter s.standKeystone.standSensors).standClusters.standPorts.standDown :=
  (if_neg (by rw [awake]; exact Bool.false_ne_true)).trans (if_neg fun busy => State.standFree_iff.1 busy free)

/-- What standby holds. -/
structure Standby (t : State) : Prop where
  mode : t.fld (regPw 8) 1 0 = 2
  noted : t.fld (regPw 4) 0 0 = 1
  ks : t.ks = 0
  pinA : t.fld (regKs 4) 3 3 = 0
  pinB : t.fld (regKs 4) 4 4 = 0
  memory : t.selfRefresh = true
  decs : t.decs = []
  idle : ∀ c, c < 64 → (t.cl c).seq.st = .idle
  ports : ∀ p, p < 8 → t.vpState p = 0

theorem State.standKeystone_boots (s : State) :
    s.standKeystone.fld (regPw 4) 0 0 = 1 ∧ s.standKeystone.ks = 0 ∧ s.standKeystone.fld (regKs 4) 3 3 = 0
      ∧ s.standKeystone.fld (regKs 4) 4 4 = 0 ∧ s.standKeystone.decs = [] := by
  have regs : s.standKeystone.regs
    = ((((s.setFld (regPw 4) 0 0 1).setFld (regKs 4) 1 0 0).setFld (regKs 4) 3 3 0).setFld (regKs 4) 4 4 0).regs := rfl
  refine ⟨?_, ?_, ?_, ?_, rfl⟩
  · rw [State.fld_of_regs regs, State.fld_setFld_ne _ (by decide), State.fld_setFld_ne _ (by decide), State.fld_setFld_ne _ (by decide),
      State.fld_setFld _ _ _ (by decide) (by decide)]
    rfl
  · rw [State.ks, State.fld_of_regs regs, State.fld_setFld_disjoint _ _ _ (by decide) (by decide) (by decide) (by decide),
      State.fld_setFld_disjoint _ _ _ (by decide) (by decide) (by decide) (by decide), State.fld_setFld _ _ _ (by decide) (by decide)]
    rfl
  · rw [State.fld_of_regs regs, State.fld_setFld_disjoint _ _ _ (by decide) (by decide) (by decide) (by decide),
      State.fld_setFld _ _ _ (by decide) (by decide)]
    rfl
  · rw [State.fld_of_regs regs, State.fld_setFld _ _ _ (by decide) (by decide)]
    rfl

/-- The contexts and the mode are none of Keystone's. -/
theorem State.standKeystone_low (s : State) {off : Nat} (low : off < regFc 0) : s.standKeystone.reg off = s.reg off := by
  have regs : s.standKeystone.regs
    = ((((s.setFld (regPw 4) 0 0 1).setFld (regKs 4) 1 0 0).setFld (regKs 4) 3 3 0).setFld (regKs 4) 4 4 0).regs := rfl
  unfold regFc at low
  have apart : regKs 4 ≠ off ∧ regPw 4 ≠ off := by
    unfold regKs regPw
    omega
  rw [State.reg_of_regs regs, State.setFld_eq, State.reg_setReg_ne _ _ apart.1, State.setFld_eq, State.reg_setReg_ne _ _ apart.1,
    State.setFld_eq, State.reg_setReg_ne _ _ apart.1, State.setFld_eq, State.reg_setReg_ne _ _ apart.2]

theorem State.standSensors_frame (s : State) : PenFrame s s.standSensors :=
  PenFrame.foldl (fun _ _ mem => doPen_penFrame (List.mem_range.1 mem) _ _) s

theorem State.standSensors_sleep (s : State) : SleepFrame s s.standSensors :=
  ⟨fun off above _ => s.standSensors_frame.reg off (.inr (by unfold regFc at above; unfold regAp; omega)), s.standSensors_frame.decs⟩

/-- The memory may enter self-refresh. -/
theorem State.standSensors_free (free : s.standFree) :
    s.standKeystone.standSensors.allDisabled = true ∧ s.standKeystone.standSensors.detMode = 0 := by
  obtain ⟨disabled, -, live⟩ := free
  have frame := s.standKeystone.standSensors_frame
  have ctx : s.standKeystone.allDisabled = s.allDisabled := by
    rw [Bool.eq_iff_iff, State.allDisabled, State.allDisabled, List.all_eq_true, List.all_eq_true]
    refine forall₂_congr fun c mem => ?_
    have small := List.mem_range.1 mem
    rw [State.fld, State.standKeystone_low _ (by unfold regCtx regFc; omega), State.fld]
  refine ⟨by rw [frame.allDisabled, ctx, disabled], ?_⟩
  rw [State.detMode, frame.fld (by decide), State.fld, State.standKeystone_low _ (by decide), ← State.fld]
  exact live

theorem State.standPorts_frame (s : State) : SleepFrame s s.standPorts :=
  SleepFrame.foldl (fun t _ mem => t.restartPort_sleep (List.mem_range.1 mem) (by decide)) s

theorem State.standClusters_frame (s : State) : SleepFrame s s.standClusters :=
  SleepFrame.foldl (fun t _ mem => t.resetCluster_sleep (List.mem_range.1 mem)) s

theorem State.standPorts_down (s : State) {p : Nat} (small : p < 8) : s.standPorts.vpState p = 0 :=
  State.vpState_foldl (f := fun (s : State) p => s.restartPort p 0) (fun t p _ => t.restartPort_frame p 0)
    (fun t same => ⟨State.vpState_restartPort (by decide) (by decide), (State.enable_restartPort (by decide)).trans same⟩) s rfl
    (.inl (List.mem_range.2 small))

/-- A register below the ports', and the clusters, are none of the ports'. -/
theorem State.standPorts_low (s : State) :
    (∀ off, off < regVd 0 → s.standPorts.reg off = s.reg off) ∧ s.standPorts.clusters = s.clusters := by
  refine List.foldlRecOn (motive := fun t : State => (∀ off, off < regVd 0 → t.reg off = s.reg off) ∧ t.clusters = s.clusters) (upTo 8) _
    ⟨fun _ _ => rfl, rfl⟩ fun t ⟨reg, clusters⟩ p _ => ?_
  have frame := t.restartPort_frame p 0
  refine ⟨fun off low => (frame.reg off ?_).trans (reg off low), frame.clusters.trans clusters⟩
  unfold inPort regVp
  unfold regVd at low ⊢
  omega

theorem State.standClusters_hub (s : State) {off : Nat} (low : 0x160000 ≤ off) (dump : off ≠ regRc 4) :
    s.standClusters.reg off = s.reg off :=
  List.foldlRecOn (motive := fun t : State => t.reg off = s.reg off) (upTo 64) _ rfl fun t same _ mem =>
    ((t.resetCluster_frame (List.mem_range.1 mem)).reg off low dump).trans same

/-- The last phase keeps what the others left. -/
theorem State.standDown_keeps (s : State) : s.standDown.fld (regPw 8) 1 0 = 2 ∧ (∀ off, off ≠ regPw 8 → s.standDown.reg off = s.reg off)
    ∧ s.standDown.decs = s.decs ∧ s.standDown.clusters = s.clusters := by
  refine ⟨State.fld_setFld _ _ _ (by decide) (by decide), fun off other => ?_, rfl, rfl⟩
  unfold State.standDown
  rw [State.setFld_eq, State.reg_setReg_ne _ _ other.symm]
  rfl

theorem doStandbyEntry_enters (awake : s.inP3 = false) (free : s.standFree) : Standby (doStandbyEntry s) := by
  rw [doStandbyEntry_eq awake free]
  obtain ⟨noted, ks, pinA, pinB, decs⟩ := s.standKeystone_boots
  obtain ⟨disabled, live⟩ := State.standSensors_free free
  obtain ⟨asleep, entered⟩ := doSrenter_sleeps disabled live
  have frame := ((s.standKeystone.standSensors_sleep.trans entered).trans (State.standClusters_frame _)).trans (State.standPorts_frame _)
  obtain ⟨low, clusters⟩ := (doSrenter s.standKeystone.standSensors).standClusters.standPorts_low
  have hub := (doSrenter s.standKeystone.standSensors).standClusters_hub (off := regHb 4) (by decide) (by decide)
  have idle := fun c small => State.foldl_resetCluster_idle (l := upTo 64) (fun _ mem => List.mem_range.1 mem)
    (doSrenter s.standKeystone.standSensors) (c := c) (.inl (List.mem_range.2 small))
  have down := fun p small => (doSrenter s.standKeystone.standSensors).standClusters.standPorts_down (p := p) small
  have memory : (doSrenter s.standKeystone.standSensors).standClusters.standPorts.selfRefresh = true := by
    rw [State.selfRefresh, State.fld, low _ (by decide), hub, ← State.fld, ← State.selfRefresh, asleep]
  have still : ∀ c, c < 64 → ((doSrenter s.standKeystone.standSensors).standClusters.standPorts.cl c).seq.st = .idle := fun c small => by
    rw [State.cl, clusters, ← State.cl]
    exact idle c small
  generalize (doSrenter s.standKeystone.standSensors).standClusters.standPorts = u at frame memory still down ⊢
  obtain ⟨mode, reg, decs', clusters'⟩ := u.standDown_keeps
  have fld {off : Nat} (other : off ≠ regPw 8) (hi lo : Nat) : u.standDown.fld off hi lo = u.fld off hi lo := by
    rw [State.fld, reg off other, State.fld]
  refine ⟨mode, ?_, ?_, ?_, ?_, ?_, decs'.trans (frame.decs.trans decs), fun c small => ?_, fun p small => ?_⟩
  · rw [fld (by decide), frame.fld (by decide) (by decide), noted]
  · rw [State.ks, fld (by decide), frame.fld (by decide) (by decide), ← State.ks, ks]
  · rw [fld (by decide), frame.fld (by decide) (by decide), pinA]
  · rw [fld (by decide), frame.fld (by decide) (by decide), pinB]
  · rw [State.selfRefresh, fld (by decide), ← State.selfRefresh, memory]
  · rw [State.cl, clusters', ← State.cl, still c small]
  · rw [State.vpState, fld (by unfold regVp regVd regPw; omega), ← State.vpState, down p small]

end

/-! ### STANDBY_EXIT -/

/-- P0 is entered: the memory leaves self-refresh, Footbridge is down. -/
def State.wakeHub (s : State) : State :=
  let t := (doSrexit ((s.setFld (regPw 4) 0 0 0).setFld (regPw 8) 1 0 0)).setFbDown true
  { t with saf := { t.saf with fbKat := true } }

/-- A port trains afresh where it is enabled. -/
def State.wakePort (s : State) (p : Nat) : State := if s.fld (regVp p 0) 31 31 = 1 then s.restartPort p 1 else s

def State.wakePorts (s : State) : State := (upTo 8).foldl State.wakePort s

section
variable {s : State}

theorem doStandbyExit_awake (awake : s.inP3 = false) : doStandbyExit s = s.setFld (regPw 4) 0 0 0 := if_pos (by rw [awake]; rfl)

theorem State.wakePort_frame (s : State) (p : Nat) : PortFrame p s (s.wakePort p) := by
  unfold State.wakePort
  split
  · exact s.restartPort_frame p 1
  · exact .refl p s

theorem State.pw_wakePort (s : State) (p : Nat) : (s.wakePort p).pw = s.pw := by
  unfold State.wakePort
  split
  · obtain ⟨net, seqs, entered⟩ := (s.setVp p VdPort.reset).vpEnter_eq p (v := 1) (by decide)
    rw [State.restartPort, entered]
    rfl
  · rfl

/-- The ports leave the registers outside them, the memory, the clusters and the waiting ENABLEs. -/
theorem State.wakePorts_keeps (s : State) :
    (∀ off, (off < regVd 0 ∨ regFc 0 ≤ off) → s.wakePorts.reg off = s.reg off) ∧ s.wakePorts.mem = s.mem
      ∧ s.wakePorts.clusters = s.clusters ∧ s.wakePorts.pw = s.pw := by
  refine List.foldlRecOn (motive := fun t : State => (∀ off, (off < regVd 0 ∨ regFc 0 ≤ off) → t.reg off = s.reg off) ∧ t.mem = s.mem
    ∧ t.clusters = s.clusters ∧ t.pw = s.pw) (upTo 8) _ ⟨fun _ _ => rfl, rfl, rfl, rfl⟩
    fun t ⟨reg, mem, clusters, pw⟩ p listed => ?_
  have frame := t.wakePort_frame p
  have small := List.mem_range.1 listed
  refine ⟨fun off apart => (frame.reg off ?_).trans (reg off apart), frame.mem.trans mem, frame.clusters.trans clusters,
    (t.pw_wakePort p).trans pw⟩
  unfold regVd regFc at apart
  unfold inPort regVp regVd
  omega

theorem State.wakePorts_train (s : State) {p : Nat} (small : p < 8) (enabled : s.fld (regVp p 0) 31 31 = 1) :
    s.wakePorts.vpState p = 1 := by
  refine State.vpState_foldl (f := State.wakePort) (w := s.reg (regVp p 0)) (fun t q _ => t.wakePort_frame q) (fun t same => ?_) s rfl
    (.inl (List.mem_range.2 small))
  have on : t.fld (regVp p 0) 31 31 = 1 := by rw [State.fld, same, ← State.fld, enabled]
  rw [State.wakePort, if_pos on]
  exact ⟨State.vpState_restartPort (by decide) (by decide), (State.enable_restartPort (by decide)).trans same⟩

/-- Self-refresh ends, and registers of the memory alone change. -/
theorem doSrexit_wakes (s : State) :
    (doSrexit s).selfRefresh = false ∧ (∀ off, off ≠ regHb 4 → (doSrexit s).reg off = s.reg off) ∧ (doSrexit s).mem = s.mem
      ∧ (doSrexit s).clusters = s.clusters ∧ (doSrexit s).pw = s.pw := by
  cases asleep : s.selfRefresh with
  | true =>
    obtain ⟨ended, -, -, mem, clusters⟩ := doSrexit_leaves asleep
    refine ⟨ended, fun off other => ?_, mem, clusters, ?_⟩
    · rw [doSrexit, if_pos asleep]
      dsimp only
      refine (State.reg_of_regs (s := (s.setFld (regHb 4) 0 0 0).setFld (regHb 4) 15 10 0) rfl _).trans ?_
      rw [State.setFld_eq, State.reg_setReg_ne _ _ other.symm, State.setFld_eq, State.reg_setReg_ne _ _ other.symm]
    · rw [doSrexit, if_pos asleep]
      rfl
  | false =>
    have same : doSrexit s = s := if_neg (by rw [asleep]; exact Bool.false_ne_true)
    rw [same]
    exact ⟨asleep, fun _ _ => rfl, rfl, rfl, rfl⟩

/-- What the hub holds once P0 is entered. -/
theorem State.wakeHub_wakes (s : State) :
    s.wakeHub.fld (regPw 8) 1 0 = 0 ∧ s.wakeHub.fld (regPw 4) 0 0 = 0 ∧ s.wakeHub.selfRefresh = false ∧ s.wakeHub.fbDown = true
      ∧ (∀ p, p < 8 → s.wakeHub.fld (regVp p 0) 31 31 = s.fld (regVp p 0) 31 31) ∧ s.wakeHub.mem = s.mem
      ∧ s.wakeHub.clusters = s.clusters ∧ s.wakeHub.pw = s.pw := by
  obtain ⟨asleep, reg, mem, clusters, pw⟩ := doSrexit_wakes ((s.setFld (regPw 4) 0 0 0).setFld (regPw 8) 1 0 0)
  have regs : s.wakeHub.regs = ((doSrexit ((s.setFld (regPw 4) 0 0 0).setFld (regPw 8) 1 0 0)).setFbDown true).regs := rfl
  have same : s.wakeHub.mem = (doSrexit ((s.setFld (regPw 4) 0 0 0).setFld (regPw 8) 1 0 0)).mem
    ∧ s.wakeHub.clusters = (doSrexit ((s.setFld (regPw 4) 0 0 0).setFld (regPw 8) 1 0 0)).clusters
    ∧ s.wakeHub.pw = (doSrexit ((s.setFld (regPw 4) 0 0 0).setFld (regPw 8) 1 0 0)).pw := ⟨rfl, rfl, rfl⟩
  have other {off : Nat} (ks : off ≠ regKs 4 ∧ off ≠ regKs 0xA08) (hi lo : Nat) : s.wakeHub.fld off hi lo
      = (doSrexit ((s.setFld (regPw 4) 0 0 0).setFld (regPw 8) 1 0 0)).fld off hi lo := by
    rw [State.fld_of_regs regs, State.setFbDown, State.fld_setFld_ne _ ks.2.symm, State.fld_setFld_ne _ ks.1.symm]
  have hub {off : Nat} (hb : off ≠ regHb 4) (hi lo : Nat) : (doSrexit ((s.setFld (regPw 4) 0 0 0).setFld (regPw 8) 1 0 0)).fld off hi lo
      = ((s.setFld (regPw 4) 0 0 0).setFld (regPw 8) 1 0 0).fld off hi lo := by rw [State.fld, reg off hb, State.fld]
  refine ⟨?_, ?_, ?_, ?_, fun p small => ?_, same.1.trans mem, same.2.1.trans clusters, same.2.2.trans pw⟩
  · rw [other (by decide), hub (by decide), State.fld_setFld _ _ _ (by decide) (by decide)]
    rfl
  · rw [other (by decide), hub (by decide), State.fld_setFld_ne _ (by decide), State.fld_setFld _ _ _ (by decide) (by decide)]
    rfl
  · rw [State.selfRefresh, other (by decide), ← State.selfRefresh, asleep]
  · rw [State.fbDown_iff, State.fld_of_regs regs, ← State.fbDown_iff, State.fbDown_setFbDown]
  · have apart : regVp p 0 ≠ regKs 4 ∧ regVp p 0 ≠ regKs 0xA08 ∧ regVp p 0 ≠ regHb 4 ∧ regPw 8 ≠ regVp p 0 ∧ regPw 4 ≠ regVp p 0 := by
      unfold regVp regVd regKs regHb regPw
      omega
    obtain ⟨ks, fb, hb, pw8, pw4⟩ := apart
    rw [other ⟨ks, fb⟩, hub hb, State.fld_setFld_ne _ pw8, State.fld_setFld_ne _ pw4]

theorem doStandbyExit_eq (asleep : s.inP3 = true) (none' : s.pw.enables = []) :
    doStandbyExit s = { s.wakeHub.wakePorts with pw := { s.wakeHub.wakePorts.pw with enables := [] } } := by
  have waits : s.wakeHub.wakePorts.pw.enables = [] := by
    rw [s.wakeHub.wakePorts_keeps.2.2.2, s.wakeHub_wakes.2.2.2.2.2.2.2, none']
  have ran : doStandbyExit s = s.wakeHub.wakePorts.pw.enables.foldl (fun (s : State) c => doEnable c s)
      { s.wakeHub.wakePorts with pw := { s.wakeHub.wakePorts.pw with enables := [] } } := if_neg (by rw [asleep]; decide)
  rw [ran, waits]
  rfl

/-- What the exit from standby leaves. -/
theorem doStandbyExit_leaves (asleep : s.inP3 = true) (none' : s.pw.enables = []) :
    (doStandbyExit s).fld (regPw 8) 1 0 = 0 ∧ (doStandbyExit s).fld (regPw 4) 0 0 = 0 ∧ (doStandbyExit s).selfRefresh = false
      ∧ (doStandbyExit s).fbDown = true ∧ (∀ p, p < 8 → s.fld (regVp p 0) 31 31 = 1 → (doStandbyExit s).vpState p = 1)
      ∧ (doStandbyExit s).mem = s.mem ∧ (doStandbyExit s).clusters = s.clusters := by
  rw [doStandbyExit_eq asleep none']
  obtain ⟨mode, noted, awake, down, enables, mem, clusters, -⟩ := s.wakeHub_wakes
  obtain ⟨reg, mem', clusters', -⟩ := s.wakeHub.wakePorts_keeps
  have train : ∀ p, p < 8 → s.fld (regVp p 0) 31 31 = 1 → s.wakeHub.wakePorts.vpState p = 1 :=
    fun p small enabled => s.wakeHub.wakePorts_train small ((enables p small).trans enabled)
  have fld {off : Nat} (apart : off < regVd 0 ∨ regFc 0 ≤ off) (hi lo : Nat) : s.wakeHub.wakePorts.fld off hi lo = s.wakeHub.fld off hi lo := by
    rw [State.fld, reg off apart, State.fld]
  rw [← fld (by decide)] at mode noted
  rw [State.selfRefresh, ← fld (by decide), ← State.selfRefresh] at awake
  rw [State.fbDown, ← fld (by decide), ← State.fbDown] at down
  have mem'' := mem'.trans mem
  have clusters'' := clusters'.trans clusters
  generalize s.wakeHub.wakePorts = u at mode noted awake down train mem'' clusters'' ⊢
  have regs : State.regs { u with pw := { u.pw with enables := [] } } = u.regs := rfl
  refine ⟨(State.fld_of_regs regs ..).trans mode, (State.fld_of_regs regs ..).trans noted, ?_, ?_, fun p small enabled => ?_, mem'',
    clusters''⟩
  · rw [State.selfRefresh, State.fld_of_regs regs, ← State.selfRefresh, awake]
  · rw [State.fbDown, State.fld_of_regs regs, ← State.fbDown, down]
  · exact (State.fld_of_regs regs ..).trans (train p small enabled)

end

/-! ### The statement -/

section
variable {s : State} {d n : Nat} {temp : Int}

theorem doDieOvertemp_sent (over' : ¬ temp < (s.fld (regMg 0x440) 23 16 : Int)) :
    doDieOvertemp d n temp s = s.send (dieSub d 4) 0xBF (n + 256 * unsigned 8 temp) true [] := if_neg over'

theorem doVrFault_eq {rail : Nat} (byte : rail < 256) :
    doVrFault d rail s = s.sendEv (if d < 4 then 0x200 + 16 * d + 3 else 0xD00) 0xBD rail := by
  rw [doVrFault, Nat.mod_eq_of_lt byte]
  rfl

end

/-- Settles O52: heat by its sensors, standby by its phases, gating, monitors and oscillators by their conditions. -/
theorem heatStandbyAndClocks : Obligations.HeatStandbyAndClocks := by
  unfold Obligations.HeatStandbyAndClocks
  intro s
  refine ⟨fun d n temp die sensor => ?_, ⟨fun asleep => ?_, fun awake busy => ?_, fun awake free => ?_, fun awake => ?_,
    fun asleep none' => ?_⟩, fun r region => ⟨fun ready => ?_, fun busy => ?_⟩, fun m count ok lost domain stopped => ?_,
    fun m count ok lost domain judged spare => ⟨fun bad => ?_, fun good clear => ?_, fun good noted early => ?_, fun good noted tenth => ?_⟩,
    fun m count ok vital judged => ?_, fun ppm => ?_, fun n ppm one gone => ?_, fun n ppm one ran => ?_,
    fun v => ⟨fun held => ?_, fun disabled => ?_⟩⟩
  · have wf := below_and_below die sensor
    have absent (hot : s.pw.hot.contains (sensorId d n) = false) : ¬ s.pw.hot.contains (sensorId d n) = true := by
      rw [hot]
      exact Bool.false_ne_true
    refine ⟨fun ignored => ?_, fun reached cold => ?_, fun ignored => ?_, fun cooled hot => ?_, fun low => ?_, fun high => ?_,
      fun rail byte => ?_⟩
    · exact (exec_dieHot wf).trans (congrArg _ (doDieHot_ignored ignored))
    · exact ⟨_, exec_dieHot wf, doDieHot_leaves (not_or.2 ⟨not_lt.2 reached, absent cold⟩)⟩
    · exact (exec_dieHotClear wf).trans (congrArg _ (if_pos ignored))
    · refine ⟨_, exec_dieHotClear wf, doDieHotClear_leaves (not_or.2 ⟨not_le.2 cooled, ?_⟩)⟩
      rw [hot]
      decide
    · exact (exec_dieOvertemp wf).trans (congrArg _ (if_pos low))
    · exact ⟨_, (exec_dieOvertemp wf).trans (congrArg _ (doDieOvertemp_sent (not_lt.2 high))), List.length_append, rfl, rfl, rfl⟩
    · exact (exec_vrFault (below_and_below die byte)).trans (congrArg _ (doVrFault_eq byte))
  · exact exec_standbyEntry.trans (congrArg _ (if_pos asleep))
  · exact exec_standbyEntry.trans (congrArg _ (doStandbyEntry_refused awake busy))
  · obtain ⟨mode, noted, ks, pinA, pinB, memory, decs, idle, ports⟩ := doStandbyEntry_enters awake free
    exact ⟨_, exec_standbyEntry, mode, noted, ks, pinA, pinB, memory, decs, idle, ports⟩
  · exact exec_standbyExit.trans (congrArg _ (doStandbyExit_awake awake))
  · exact ⟨_, exec_standbyExit, doStandbyExit_leaves asleep none'⟩
  · exact (exec_regionGating (decide_eq_true region)).trans (congrArg _ (doRegionGating_ready ready))
  · exact (exec_regionGating (decide_eq_true region)).trans (congrArg _ (doRegionGating_busy busy))
  · exact (exec_clkMon (decide_eq_true domain)).trans (congrArg _ (doClkMon_stopped stopped))
  · exact ⟨_, exec_clkMon (decide_eq_true domain), doClkMon_bad_leaves domain judged spare bad⟩
  · exact (exec_clkMon (decide_eq_true domain)).trans (congrArg _ (doClkMon_quiet domain judged spare good clear))
  · exact ⟨_, (exec_clkMon (decide_eq_true domain)).trans (congrArg _ (doClkMon_counts domain judged spare good noted early)),
      Table.get_set_same .., rfl, rfl⟩
  · exact ⟨_, (exec_clkMon (decide_eq_true domain)).trans (congrArg _ (doClkMon_clears domain judged spare good noted tenth)),
      (State.monBit_of_regs (State.send_regs ..)).trans State.monBit_clrReg, List.length_append, rfl⟩
  · have domain : m < 40 := by omega
    obtain ⟨halted, safe, pinA, pinB, idle, fc, net, _⟩ := (s.orReg (regMon m) (2 ^ (m % 32))).superHalt_halted
    exact ⟨_, (exec_clkMon (decide_eq_true domain)).trans (congrArg _ (doClkMon_halts domain judged vital)), halted, safe, pinA, pinB, idle,
      fc, net⟩
  · have shown : (s.setFld (regClk 4) 15 0 (unsigned 16 ppm)).fld (regClk 4) 15 0 = (ppm % 65536).toNat :=
      (State.fld_setFld _ _ _ (by decide) (by decide)).trans (Nat.mod_eq_of_lt (unsigned_lt 16 ppm))
    refine ⟨_, (exec_oscFail rfl).trans (congrArg _ doOscFail_differ), ?_⟩
    by_cases near : -300 ≤ ppm ∧ ppm ≤ 300
    · rw [if_pos near, if_pos near]
      exact ⟨shown, rfl, rfl, rfl⟩
    · rw [if_neg near, if_neg near]
      exact ⟨(State.fld_send ..).trans shown, List.length_append, rfl, rfl⟩
  · exact (exec_oscFail (decide_eq_true (by omega))).trans (congrArg _ (doOscFail_gone one gone))
  · exact ⟨_, exec_oscFail (decide_eq_true (by omega)), doOscFail_leaves one ran⟩
  · exact exec_clkOsc.trans (congrArg _ (if_pos held))
  · exact ⟨_, exec_clkOsc, doClkOsc_taken disabled⟩

end Sys2Proof.Machine
end

section
/-! PROOFS. Re-execution (O44): the relief cluster is reset, loaded and started, and the RUN's record follows. -/

namespace Sys2Proof.Machine

/-! ### What loading a section leaves alone -/

/-- From s to t the RUNs and the clusters stayed. -/
structure KeepsRuns (s t : State) : Prop where
  runs : t.runs = s.runs
  clusters : t.clusters = s.clusters

namespace KeepsRuns

variable {s t u : State}

theorem of_eq (runs : t.runs = s.runs := by rfl) (clusters : t.clusters = s.clusters := by rfl) : KeepsRuns s t := ⟨runs, clusters⟩

theorem refl (s : State) : KeepsRuns s s := of_eq

theorem trans (f : KeepsRuns s t) (g : KeepsRuns t u) : KeepsRuns s u := ⟨g.runs.trans f.runs, g.clusters.trans f.clusters⟩

theorem setReg (f : KeepsRuns s t) (off : Nat) (v : Word32) : KeepsRuns s (t.setReg off v) := f.trans .of_eq

theorem orReg (f : KeepsRuns s t) (off m : Nat) : KeepsRuns s (t.orReg off m) := f.trans .of_eq

theorem foldl {α : Type} {f : State → α → State} {l : List α} (each : ∀ t, ∀ x ∈ l, KeepsRuns t (f t x)) (s : State) :
    KeepsRuns s (l.foldl f s) :=
  List.foldlRecOn (motive := KeepsRuns s) l f (.refl s) fun t same x hx => same.trans (each t x hx)

end KeepsRuns

section
variable (s : State)

theorem State.hbNote_runs (off : Nat) (l : List (Nat × Finding × Gran)) : KeepsRuns s (s.hbNote off l) := by
  unfold State.hbNote
  split
  · exact .refl s
  · dsimp only
    refine KeepsRuns.trans .of_eq (KeepsRuns.foldl (fun t x _ => ?_) _)
    split
    · split
      · exact .refl t
      · split
        · split
          · exact .refl t
          · exact .of_eq
        · exact .of_eq
    · exact .refl t

theorem State.hubNote_runs (space off : Nat) (l : List (Nat × Finding × Gran)) : KeepsRuns s (s.hubNote space off l) := by
  unfold State.hubNote
  refine KeepsRuns.foldl (fun t x _ => ?_) s
  split
  · split
    · exact .refl t
    · exact .of_eq
  · exact .refl t

theorem State.unitNote_runs (space off : Nat) (l : List (Nat × Finding × Gran)) : KeepsRuns s (s.unitNote space off l) := by
  unfold State.unitNote
  split
  · exact s.hbNote_runs off l
  · split
    · exact s.hubNote_runs space off l
    · exact .refl s

theorem State.readFor_runs (ctx space off n : Nat) : KeepsRuns s (s.readFor ctx space off n).2 := by
  unfold State.readFor State.hubRead
  exact (KeepsRuns.of_eq (t := { s with actor := [ctx] })).trans
    ((KeepsRuns.foldl (fun t u _ => t.unitNote_runs ..) _).trans .of_eq)

theorem State.loadSection_runs (ctx slot lc k : Nat) : KeepsRuns s (s.loadSection ctx slot lc k) := by
  unfold State.loadSection
  dsimp only
  refine KeepsRuns.orReg (KeepsRuns.trans ?_ (KeepsRuns.foldl (fun _ _ _ => KeepsRuns.setReg (.refl _) ..) _)) ..
  have read := s.readFor_runs ctx 0 ((s.image ctx slot).off + ((s.slotHdr ctx slot).secs.getD lc (0, 0, 0)).1)
    (32 * ((s.slotHdr ctx slot).secs.getD lc (0, 0, 0)).2.1)
  generalize s.readFor ctx 0 ((s.image ctx slot).off + ((s.slotHdr ctx slot).secs.getD lc (0, 0, 0)).1)
    (32 * ((s.slotHdr ctx slot).secs.getD lc (0, 0, 0)).2.1) = p at read ⊢
  exact read.trans .of_eq

theorem State.runs_startProgram (c : Nat) (r : StartRecord) : (s.startProgram c r).runs = s.runs := by
  unfold State.startProgram
  split
  · rfl
  · split
    · rfl
    · rfl

end

/-! ### A section starts -/

section
variable (s : State)

theorem State.runs_startSections (ctx slot : Nat) (args : List Nat) (secs : List (Nat × Nat)) (t : Nat) (flags : BitVec 64) (rerun : Bool) :
    (s.startSections ctx slot args secs t flags rerun).runs = s.runs :=
  List.foldlRecOn (motive := fun u : State => u.runs = s.runs) secs _ rfl fun u same x _ =>
    (State.runs_startProgram _ _ _).trans ((u.loadSection_runs ctx slot x.1 x.2).runs.trans same)

/-- An idle cluster takes a start record of its present generation. -/
theorem State.startProgram_idle {s : State} {k : Nat} {r : StartRecord} (present : r.gen = s.fld (regCl k 0x0C) 7 0)
    (idle : (s.cl k).seq.st = .idle) :
    ((s.startProgram k r).cl k).seq.st = .running ∧ ((s.startProgram k r).cl k).seq.rerun = r.rerun
      ∧ ((s.startProgram k r).cl k).seq.ctx = r.ctx := by
  have eq : s.startProgram k r = ((s.setCl k (s.startCluster k r)).setReg (regCl k 4) 0).setReg (regCl k 0x250) 0 :=
    doStartRecord_starts present (.inl idle)
  rw [eq, State.cl_setReg, State.cl_setReg, State.cl_setCl_same]
  exact ⟨rfl, rfl, rfl⟩

/-- A section that starts on an idle cluster. -/
theorem State.startSections_idle {s : State} {k : Nat} (idle : (s.cl k).seq.st = .idle) (ctx slot : Nat) (args : List Nat) (lc t : Nat)
    (flags : BitVec 64) (rerun : Bool) :
    ((s.startSections ctx slot args [(lc, k)] t flags rerun).cl k).seq.st = .running
      ∧ ((s.startSections ctx slot args [(lc, k)] t flags rerun).cl k).seq.rerun = rerun
      ∧ ((s.startSections ctx slot args [(lc, k)] t flags rerun).cl k).seq.ctx = ctx := by
  refine State.startProgram_idle rfl ?_
  rw [State.cl, (s.loadSection_runs ctx slot lc k).clusters, ← State.cl, idle]

/-- The relief cluster is taken out of its test. -/
def State.leaveTest (s : State) (k : Nat) : State :=
  let u := { s with saf := { s.saf with testing := ⟨s.saf.testing.rows.filter (fun e => e.2 ≠ k)⟩ } }
  (upTo 4).foldl (fun (s : State) d => if (lookup s.saf.testing.rows d).isNone then s.setFld (regKs (0xC04 + 4 * d)) 7 7 0 else s) u

theorem State.readyRelief_eq (k : Nat) : s.readyRelief k = (s.leaveTest k).resetCluster k := rfl

theorem State.leaveTest_runs (k : Nat) : KeepsRuns s (s.leaveTest k) := by
  unfold State.leaveTest
  refine KeepsRuns.trans .of_eq (KeepsRuns.foldl (fun t d _ => ?_) _)
  split
  · exact .of_eq
  · exact .refl t

theorem State.runs_readyRelief (k : Nat) : (s.readyRelief k).runs = s.runs :=
  (State.resetCluster_work _ k).runs.trans (s.leaveTest_runs k).runs

theorem State.readyRelief_idle (k : Nat) : ((s.readyRelief k).cl k).seq.st = .idle := State.resetCluster_idle _ k

end

/-! ### RE_EXECUTION (R528 to R530) -/

section
variable {s : State} {c seq t : Nat} {r : RunRec}

/-- The standing RUN that a command names. -/
def State.standingRun (s : State) (c seq : Nat) : Option RunRec :=
  s.runs.find? (fun (r : RunRec) => decide (r.ctx = c ∧ r.seq = seq) && r.standing)

theorem State.standingRun_some (found : s.standingRun c seq = some r) : r ∈ s.runs ∧ r.ctx = c ∧ r.seq = seq := by
  have named := List.find?_some found
  obtain ⟨same, -⟩ := Bool.and_eq_true_iff.1 named
  exact ⟨List.mem_of_find?_eq_some found, of_decide_eq_true same⟩

theorem State.standingRun_none (none' : ∀ r, r ∈ s.runs → ¬ (r.ctx = c ∧ r.seq = seq ∧ r.standing = true)) :
    s.standingRun c seq = none := by
  refine List.find?_eq_none.2 fun r mem named => none' r mem ?_
  obtain ⟨same, standing⟩ := Bool.and_eq_true_iff.1 named
  obtain ⟨ctx, num⟩ := of_decide_eq_true same
  exact ⟨ctx, num, standing⟩

/-- A RUN's record after a change. -/
theorem State.mem_updRun {f : RunRec → RunRec} (mem : r ∈ s.runs) (ctx : r.ctx = c) (num : r.seq = seq) :
    f r ∈ (s.updRun c seq f).runs := List.mem_map.2 ⟨r, mem, if_pos ⟨ctx, num⟩⟩

/-- The record of a RUN whose section runs again on cluster k. -/
def RunRec.moved (r : RunRec) (lc k : Nat) : RunRec :=
  { r with step := { r.step with
    secs := r.step.secs.map (fun z => if z.1 = lc then (lc, k) else z), lost := r.step.lost.filter (fun l => l ≠ lc),
    again := r.step.again ++ [lc] } }

/-- The decisions of a RUN's step after its section moved from a cluster to another. -/
def movedDecs (decs : List Decision) (c seq no was k : Nat) : List Decision :=
  decs.map (fun (d : Decision) => if d.ctx = c ∧ d.run = seq ∧ d.no = no then
    { d with units := d.units.map (fun u => if u = was then k else u), bad := d.bad.filter (fun u => u ≠ was) } else d)

/-- The state in which a moved section starts. -/
def State.sectionMoved (s : State) (r : RunRec) (c seq lc k : Nat) : State :=
  let u := (s.readyRelief k).updRun c seq (fun y => y.moved lc k)
  { u with decs := movedDecs u.decs c seq r.step.no (((r.step.secs.find? (fun y => y.1 = lc)).map (fun y => y.2)).getD 0) k }

/-- The record of a RUN whose retracted step starts again. -/
def RunRec.redone (r : RunRec) (no hz ref start : Nat) (rest : List (Nat × Nat × Nat)) (secs : List (Nat × Nat)) : RunRec :=
  { r with redo := rest, step :=
    { active := true, no := no, horizon := hz, ref := ref, start := start, secs := secs, ended := [], again := [],
      retracted := false, rerun := true, endAt := 0, lost := [], lostFlags := 0 } }

/-- The state in which a retracted step starts again. -/
def State.stepAgain (s : State) (c seq no hz ref : Nat) (rest : List (Nat × Nat × Nat)) (secs : List (Nat × Nat)) : State :=
  s.updRun c seq (fun y => y.redone no hz ref s.ticks rest secs)

theorem doReExecution_none (none' : s.standingRun c seq = none) : doReExecution c seq t s = s := by
  unfold doReExecution
  rw [← State.standingRun, none']

section
variable (found : s.standingRun c seq = some r)
include found

theorem doReExecution_idle (kept : r.step.lost = []) (idle : r.redo = [] ∨ r.step.active = true) : doReExecution c seq t s = s := by
  unfold doReExecution
  rw [← State.standingRun, found]
  dsimp only
  rw [kept]
  dsimp only
  split
  · rfl
  next redo => exact if_pos (idle.resolve_left fun none' => by rw [none'] at redo; cases redo)

theorem doReExecution_lost {lc : Nat} {l : List Nat} (lost : r.step.lost = lc :: l) (none' : s.rerunOn r lc = none) :
    doReExecution c seq t s = s.stepLost r r.step.lost := by
  unfold doReExecution
  rw [← State.standingRun, found]
  dsimp only
  rw [lost]
  dsimp only
  rw [none']

theorem doReExecution_moved {lc h k : Nat} {l : List Nat} (lost : r.step.lost = lc :: l) (relief : s.rerunOn r lc = some (h, k)) :
    doReExecution c seq t s = (s.sectionMoved r c seq lc k).startSections r.ctx r.slot r.args [(lc, k)] t r.step.lostFlags true := by
  unfold doReExecution
  rw [← State.standingRun, found]
  dsimp only
  rw [lost]
  dsimp only
  rw [relief]
  rfl

theorem doReExecution_again {no hz ref : Nat} {rest : List (Nat × Nat × Nat)} {secs : List (Nat × Nat)} (kept : r.step.lost = [])
    (redo : r.redo = (no, hz, ref) :: rest) (idle : r.step.active = false)
    (placed : s.placeSecs (entrySecs (s.slotHdr r.ctx r.slot) r.entry) r.homes = some secs) (free : ∀ x, x ∈ secs → s.canLoad x.2 = true) :
    doReExecution c seq t s = secs.foldl (fun (u : State) x => u.startSections r.ctx r.slot r.args [x] t 0
      (r.step.secs.any (fun y => decide (y.1 = x.1 ∧ y.2 ≠ x.2)))) (s.stepAgain c seq no hz ref rest secs) := by
  unfold doReExecution
  rw [← State.standingRun, found]
  dsimp only
  rw [kept]
  dsimp only
  rw [redo]
  dsimp only
  rw [if_neg (by rw [idle]; exact Bool.false_ne_true), placed]
  dsimp only
  rw [if_neg (by rw [List.all_eq_true.2 free]; decide)]
  rfl

end

theorem State.runs_sectionMoved (lc k : Nat) : (s.sectionMoved r c seq lc k).runs = (s.updRun c seq (fun y => y.moved lc k)).runs := by
  unfold State.sectionMoved State.updRun
  rw [s.runs_readyRelief k]

theorem State.sectionMoved_idle (lc k : Nat) : ((s.sectionMoved r c seq lc k).cl k).seq.st = .idle := s.readyRelief_idle k

theorem RunRec.moved_sec (r : RunRec) {lc k : Nat} (listed : lc ∈ r.step.secs.map (fun z => z.1)) : (lc, k) ∈ (r.moved lc k).step.secs := by
  obtain ⟨z, mem, named⟩ := List.mem_map.1 listed
  exact List.mem_map.2 ⟨z, mem, if_pos named⟩

theorem RunRec.moved_lost (r : RunRec) (lc k : Nat) : lc ∉ (r.moved lc k).step.lost := fun mem =>
  of_decide_eq_true (List.mem_filter.1 mem).2 rfl

end

/-- Settles O44: each case of the RUN's step, the record taken through the reset, the load and the start. -/
theorem reExecution : Obligations.ReExecution := by
  unfold Obligations.ReExecution
  intro s c seq t ctx num
  have wf := below_and_below ctx num
  refine ⟨fun none' => ?_, fun r found => ⟨fun kept idle => ?_, fun lc l lost none' => ?_, fun lc l h k lost relief _ listed => ?_,
    fun no hz ref rest secs kept redo idle placed free => ?_⟩⟩
  · exact (exec_reExecution wf).trans (congrArg _ (doReExecution_none (State.standingRun_none none')))
  · exact (exec_reExecution wf).trans (congrArg _ (doReExecution_idle found kept idle))
  · exact (exec_reExecution wf).trans (congrArg _ (doReExecution_lost found lost none'))
  · obtain ⟨mem, ofCtx, ofSeq⟩ := State.standingRun_some found
    refine ⟨_, r.moved lc k, (exec_reExecution wf).trans (congrArg _ (doReExecution_moved found lost relief)), ?_, ofCtx, ofSeq, rfl,
      r.moved_sec listed, r.moved_lost lc k, State.startSections_idle (State.sectionMoved_idle lc k) ..⟩
    rw [State.runs_startSections, State.runs_sectionMoved]
    exact State.mem_updRun mem ofCtx ofSeq
  · obtain ⟨mem, ofCtx, ofSeq⟩ := State.standingRun_some found
    refine ⟨_, r.redone no hz ref s.ticks rest secs, (exec_reExecution wf).trans (congrArg _ (doReExecution_again found kept redo idle placed free)), ?_, ofCtx, ofSeq, rfl,
      rfl, rfl, rfl, rfl, rfl, rfl⟩
    refine List.foldlRecOn (motive := fun u : State => r.redone no hz ref s.ticks rest secs ∈ u.runs) secs _ (State.mem_updRun mem ofCtx ofSeq) fun u kept x _ => ?_
    rw [State.runs_startSections]
    exact kept

end Sys2Proof.Machine
end

section
/-! PROOFS. What the loss of work leaves standing: fences, the host map, the generations of the units above the clusters, the units in
reset, and the clusters that are stopped (`HoldFrame`). -/

namespace Sys2Proof.Machine

/-- From s to t work was lost or aborted: a unit in reset is still in reset, and a stopped cluster still stopped. -/
structure HoldFrame (s t : State) : Prop where
  fences : t.fences = s.fences
  hostMap : t.hostMap = s.hostMap
  gens : t.gens = s.gens
  busy : ∀ u, s.isBusy u = true → t.isBusy u = true
  stopped : ∀ c, (s.cl c).seq.st = .stopped → (t.cl c).seq.st = .stopped

namespace HoldFrame

variable {s t u : State}

/-- A change of other fields. -/
theorem of_eq (fences : t.fences = s.fences := by rfl) (hostMap : t.hostMap = s.hostMap := by rfl) (gens : t.gens = s.gens := by rfl)
    (busy : t.rst.busy = s.rst.busy := by rfl) (clusters : t.clusters = s.clusters := by rfl) : HoldFrame s t where
  fences := fences
  hostMap := hostMap
  gens := gens
  busy v held := by rw [State.isBusy, busy]; exact held
  stopped c held := by rw [State.cl, clusters]; exact held

theorem refl (s : State) : HoldFrame s s := of_eq

theorem trans (f : HoldFrame s t) (g : HoldFrame t u) : HoldFrame s u where
  fences := g.fences.trans f.fences
  hostMap := g.hostMap.trans f.hostMap
  gens := g.gens.trans f.gens
  busy v held := g.busy v (f.busy v held)
  stopped c held := g.stopped c (f.stopped c held)

theorem foldl {α : Type} {f : State → α → State} {l : List α} (each : ∀ t, ∀ x ∈ l, HoldFrame t (f t x)) (s : State) :
    HoldFrame s (l.foldl f s) :=
  List.foldlRecOn (motive := HoldFrame s) l f (.refl s) fun t same x hx => same.trans (each t x hx)

theorem setReg (f : HoldFrame s t) (off : Nat) (v : Word32) : HoldFrame s (t.setReg off v) := f.trans .of_eq

theorem setFld (f : HoldFrame s t) (off hi lo v : Nat) : HoldFrame s (t.setFld off hi lo v) := f.trans .of_eq

/-- One cluster's entry changed, and it is not taken out of a stop. -/
theorem setCl {k : Nat} {x : Cluster} (f : HoldFrame s t) (held : (t.cl k).seq.st = .stopped → x.seq.st = .stopped) :
    HoldFrame s (t.setCl k x) := by
  refine f.trans { (of_eq : HoldFrame t t) with stopped := fun c stop => ?_ }
  rw [State.cl_setCl]
  split
  · next same => exact held (same ▸ stop)
  · exact stop

end HoldFrame

section
variable (s : State)

/-! ### Hub memories -/

theorem State.hbNote_hold (off : Nat) (l : List (Nat × Finding × Gran)) : HoldFrame s (s.hbNote off l) := by
  unfold State.hbNote
  split
  · exact .refl s
  · dsimp only
    refine HoldFrame.trans .of_eq (HoldFrame.foldl (fun t x _ => ?_) _)
    split
    · split
      · exact .refl t
      · split
        · split
          · exact .refl t
          · exact .of_eq
        · exact .of_eq
    · exact .refl t

theorem State.hubNote_hold (space off : Nat) (l : List (Nat × Finding × Gran)) : HoldFrame s (s.hubNote space off l) := by
  unfold State.hubNote
  refine HoldFrame.foldl (fun t x _ => ?_) s
  split
  · split
    · exact .refl t
    · exact .of_eq
  · exact .refl t

theorem State.unitNote_hold (space off : Nat) (l : List (Nat × Finding × Gran)) : HoldFrame s (s.unitNote space off l) := by
  unfold State.unitNote
  split
  · exact s.hbNote_hold off l
  · split
    · exact s.hubNote_hold space off l
    · exact .refl s

theorem State.readFor_hold (ctx space off n : Nat) : HoldFrame s (s.readFor ctx space off n).2 := by
  unfold State.readFor State.hubRead
  exact (HoldFrame.of_eq (t := { s with actor := [ctx] })).trans
    ((HoldFrame.foldl (fun t u _ => t.unitNote_hold ..) _).trans .of_eq)

theorem State.hubWrite_hold (space off : Nat) (bs : List (Byte × Bool)) : HoldFrame s (s.hubWrite space off bs) := by
  unfold State.hubWrite
  refine HoldFrame.foldl (fun t u _ => ?_) s
  refine HoldFrame.trans ?_ (State.unitNote_hold ..)
  split <;> exact .of_eq

/-! ### The host interface -/

theorem State.ctxIrq_hold (c : Nat) : HoldFrame s (s.ctxIrq c) := by
  unfold State.ctxIrq State.trigger
  dsimp only
  split
  · split <;> exact .of_eq
  · exact .refl s

theorem State.putRecord_hold (c : Nat) (mark : Option Nat) (rec : Bool → List Byte) : HoldFrame s (s.putRecord c mark rec) := .of_eq

theorem State.writeRecord_hold (c : Nat) : HoldFrame s (s.writeRecord c) := by
  have held (h : HostCtx) : HoldFrame s (s.setHctx c h) := .of_eq
  have noted (mark : Option Nat) (rec : Bool → List Byte) (q : Nat) (f : JEntry → JEntry) :
      HoldFrame s ((s.putRecord c mark rec).updEntry c q f) := (s.putRecord_hold c mark rec).trans .of_eq
  unfold State.writeRecord
  split
  · exact .refl s
  · split
    · exact (held _).trans ((State.putRecord_hold ..).trans (State.ctxIrq_hold ..))
    · split
      · exact .refl s
      · dsimp only
        split
        · exact (noted ..).trans (State.ctxIrq_hold ..)
        · exact noted ..

theorem State.flushRecords_hold (c n : Nat) : HoldFrame s (State.flushRecords c n s) := by
  induction n generalizing s with
  | zero => exact .refl s
  | succ n ih => exact (s.writeRecord_hold c).trans (ih _)

theorem State.settle_hold (c : Nat) : HoldFrame s (s.settle c) := by
  unfold State.settle
  split
  · exact (s.flushRecords_hold c _).setFld ..
  · exact .refl s

theorem State.leaveBehind_hold (e : JEntry) : HoldFrame s (s.leaveBehind e) := by
  unfold State.leaveBehind
  split
  · exact .of_eq
  · split
    · exact .of_eq
    · exact .refl s

theorem State.discardList_hold (c cause : Nat) (l : List Nat) : HoldFrame s (State.discardList c cause l s) := by
  induction l generalizing s with
  | nil => exact .refl s
  | cons q l ih =>
    unfold State.discardList
    split
    · exact ih s
    · next e _ =>
      split
      · exact ih s
      · have out : HoldFrame s (s.enterOut c q ⟨3, cause, 0, [], 0⟩) := .of_eq
        exact (out.trans ((State.leaveBehind_hold _ e).trans .of_eq)).trans (ih _)

theorem State.discardOne_hold (c seq cause : Nat) : HoldFrame s (s.discardOne c seq cause) := by
  unfold State.discardOne
  split
  · exact .refl s
  · split
    · exact .refl s
    · exact (State.discardList_hold ..).trans ((State.discardList_hold ..).trans (State.settle_hold ..))

theorem State.done1_hold (c seq code flags : Nat) (rd : List Byte) (aux : Nat) : HoldFrame s (s.done1 c seq code flags rd aux) :=
  (HoldFrame.of_eq : HoldFrame s (s.enterOut c seq _)).trans (State.settle_hold ..)

theorem State.frameRecord_hold (e : StepEnd) (code : Nat) : HoldFrame s (s.frameRecord e code) := by
  have held (h : HostCtx) : HoldFrame s (s.setHctx e.ctx h) := .of_eq
  unfold State.frameRecord
  split
  · exact .of_eq
  · exact (held _).trans (State.writeRecord_hold ..)

theorem State.finishEnd_hold (e : StepEnd) : HoldFrame s (s.finishEnd e) := by
  unfold State.finishEnd
  dsimp only
  split
  · exact .refl s
  · split
    · exact .refl s
    · split
      · exact (HoldFrame.of_eq : HoldFrame s _).trans (State.done1_hold ..)
      · split
        · exact .refl s
        · split
          · exact .of_eq
          · exact (HoldFrame.of_eq : HoldFrame s _).trans (State.frameRecord_hold ..)

theorem State.finishEnds_hold (c seq : Nat) : HoldFrame s (s.finishEnds c seq) :=
  HoldFrame.foldl (fun t e _ => t.finishEnd_hold e) s

/-! ### The end of a step -/

theorem State.regionBytes_hold (c a n : Nat) : HoldFrame s (s.regionBytes c a n).2 := by
  unfold State.regionBytes
  split
  · exact .refl s
  · split
    · exact .refl s
    · exact s.readFor_hold ..

theorem State.stepEnded_hold (r : RunRec) : HoldFrame s (s.stepEnded r) := by
  unfold State.stepEnded
  split
  · exact .of_eq
  · have read := s.regionBytes_hold r.ctx r.sc.1 r.sc.2
    unfold State.runFlags
    generalize s.regionBytes r.ctx r.sc.1 r.sc.2 = p at read ⊢
    exact (read.trans .of_eq).trans (State.finishEnd_hold ..)

/-! ### Keystone -/

theorem State.enterSafe_hold (source kind path : Nat) : HoldFrame s (s.enterSafe source kind path) := by
  unfold State.enterSafe
  split
  · exact .refl s
  · extract_lets a b waiting c _ e
    have cleared : HoldFrame s c := (HoldFrame.of_eq : HoldFrame s b).trans (HoldFrame.foldl (fun _ _ _ => .of_eq) b)
    exact (cleared.trans (.of_eq : HoldFrame c e)).trans (HoldFrame.foldl (fun t x _ => t.finishEnds_hold ..) e)

theorem State.decideOut_hold (d : Decision) (result : Nat) : HoldFrame s (s.decideOut d result) := by
  unfold State.decideOut
  dsimp only
  refine HoldFrame.trans ?_ (State.finishEnds_hold ..)
  split <;> exact .of_eq

theorem State.cover_hold (d : Decision) : HoldFrame s (s.cover d) := by
  unfold State.cover
  split
  · exact .refl s
  · split
    · exact (HoldFrame.of_eq : HoldFrame s (s.send ..)).trans (State.enterSafe_hold ..)
    · next r _ =>
      have put : HoldFrame s (State.hubPut { s with actor := [d.ctx] } 0 ((s.reg (regKso d.out 0x28)).toNat * 32) r.bytes) :=
        (HoldFrame.of_eq (t := { s with actor := [d.ctx] })).trans (State.hubWrite_hold ..)
      generalize State.hubPut { s with actor := [d.ctx] } 0 ((s.reg (regKso d.out 0x28)).toNat * 32) r.bytes = p at put ⊢
      have sent : HoldFrame s (({ p with actor := [] } : State).send keySrc 0xA6 (d.out * 2 ^ 24 + d.no % 2 ^ 24) true []) := put.trans .of_eq
      dsimp only
      split
      · exact sent.trans ((State.decideOut_hold ..).trans (State.enterSafe_hold ..))
      · exact sent.trans (State.decideOut_hold ..)

/-! ### The abort of a context -/

theorem State.jobQuiet_hold (j cause : Nat) (from_ : Option Nat) : HoldFrame s (s.jobQuiet j cause from_) := by
  unfold State.jobQuiet
  split
  · exact .refl s
  · have sent : HoldFrame s (((s.jPeers j).filter (fun p => decide (some p ≠ from_))).foldl (fun (s : State) p =>
        s.jSend j p 6 (s.jOldest j) 0 cause 0) s) := HoldFrame.foldl (fun _ _ _ => .of_eq) s
    exact sent.trans .of_eq

theorem State.quietJobs_hold (ctx cause : Nat) (from_ : Option (Nat × Nat)) : HoldFrame s (s.quietJobs ctx cause from_) := by
  refine HoldFrame.foldl (fun t j _ => ?_) s
  split
  · exact State.jobQuiet_hold ..
  · exact .refl t

theorem State.seq_halt (k c : Nat) : ((s.halt k).cl c).seq = (s.cl c).seq := by
  unfold State.halt
  split
  · dsimp only
    split <;>
    · rw [State.updCl, State.cl_setCl]
      split
      · next same => subst same; rfl
      · rfl
  · rfl

theorem State.halt_hold (k : Nat) : HoldFrame s (s.halt k) := by
  obtain ⟨regs, clusters, eq⟩ := s.halt_eq k
  refine ⟨by rw [eq], by rw [eq], by rw [eq], fun u held => by rw [eq]; exact held, fun c held => ?_⟩
  rw [State.seq_halt]
  exact held

/-- The sequencer of a cluster that is stopped. -/
theorem State.updSeq_hold (k : Nat) :
    HoldFrame s (s.updSeq k (fun q => { q with st := .stopped, wait := .none, isOpen := false })) :=
  (HoldFrame.refl s).setCl fun _ => rfl

theorem State.stopCtx_hold (c : Nat) : HoldFrame s (s.stopCtx c) :=
  HoldFrame.foldl (fun t k _ => (t.updSeq_hold k).trans (State.halt_hold ..)) s

theorem State.abortCore_hold (c : Nat) (own : List Nat) (cause : Nat) : HoldFrame s (s.abortCore c own cause) := by
  unfold State.abortCore
  extract_lets a b d e f
  have stopped : HoldFrame s b := (HoldFrame.of_eq : HoldFrame s a).trans (a.stopCtx_hold c)
  have discarded : HoldFrame s (d.discardAll c cause) := (stopped.trans (b.discardList_hold c 1 own)).trans (State.discardList_hold ..)
  exact (discarded.trans (.of_eq : HoldFrame _ f)).trans (f.settle_hold c)

theorem State.setBusy_hold (u : Nat) : HoldFrame s (s.setBusy u true) :=
  { (HoldFrame.of_eq : HoldFrame s s) with
    busy := fun v held => List.contains_iff_mem.2 (List.mem_append_left _ (List.contains_iff_mem.1 held)) }

theorem State.bumpGen_hold {k : Nat} (small : k < 64) : HoldFrame s (s.bumpGen k) := by
  simp only [State.bumpGen, if_pos small]
  exact .of_eq

theorem State.reqReset_hold {k : Nat} (small : k < 64) : HoldFrame s (s.reqReset k) := by
  unfold State.reqReset
  split
  · exact .refl s
  · extract_lets a
    have stopped : HoldFrame s (a.bumpGen k) := (s.updSeq_hold k).trans ((State.halt_hold _ k).trans (a.bumpGen_hold small))
    exact (stopped.trans .of_eq).trans (State.setBusy_hold _ k)

theorem State.abortCtx_hold (ctx : Nat) (own : List Nat) (cause jobCause : Nat) : HoldFrame s (s.abortCtx ctx own cause jobCause) := by
  unfold State.abortCtx
  dsimp only
  split
  · exact s.quietJobs_hold ..
  · have core := (s.quietJobs_hold ctx jobCause none).trans (State.abortCore_hold _ ctx own cause)
    split
    · exact core
    · exact core.trans (HoldFrame.foldl (fun t k hk => t.reqReset_hold (State.lt_of_mem_ctxClusters hk)) _)

/-! ### The loss of a cluster's work (R343, R528, R529) -/

theorem State.stepLost_hold (r : RunRec) (lcs : List Nat) : HoldFrame s (s.stepLost r lcs) := by
  unfold State.stepLost
  dsimp only
  split
  · exact s.abortCtx_hold ..
  · have covered : HoldFrame s ((s.decs.filter (fun (d : Decision) =>
        decide (d.ctx = r.ctx ∧ d.run = r.seq ∧ d.no = r.step.no ∧ d.result = 0))).foldl (fun (s : State) d =>
          (s.updDec d (fun x => { x with want := true })).cover { d with want := true }) s) :=
      HoldFrame.foldl (fun t d _ => (HoldFrame.of_eq : HoldFrame t (t.updDec d _)).trans (State.cover_hold ..)) s
    split
    · exact covered.trans .of_eq
    · split
      · exact (covered.trans .of_eq).trans (State.stepEnded_hold ..)
      · exact covered.trans .of_eq

theorem State.workLost_hold (c cause : Nat) : HoldFrame s (s.workLost c cause) := by
  unfold State.workLost
  split
  · exact .refl s
  · next r _ =>
    split
    · exact s.discardOne_hold ..
    · have noted (f : RunRec → RunRec) : HoldFrame s (s.updRun r.ctx r.seq f) := .of_eq
      dsimp only
      split
      · exact noted _
      · exact (noted _).trans (State.stepLost_hold ..)

end

end Sys2Proof.Machine
end

section
/-! PROOFS. The collector's commands (O37): record events, fences with the host map they leave, and returns to service. -/

namespace Sys2Proof.Machine

/-! ### Record events (R466) -/

section
variable (s : State)

/-- From s to t a report was queued or the collector's display changed. -/
structure ShowFrame (s t : State) : Prop where
  recs : t.fc.recs = s.fc.recs
  logSeq : t.logSeq = s.logSeq
  fences : t.fences = s.fences
  mem : t.mem = s.mem
  clusters : t.clusters = s.clusters

theorem State.fcShow_shows : ShowFrame s s.fcShow where
  recs := rfl
  logSeq := by
    unfold State.fcShow State.logSeq
    exact congrArg BitVec.toNat ((State.reg_setReg_ne _ _ (by decide)).trans ((State.reg_setReg_ne _ _ (by decide)).trans
      (State.reg_setReg_ne _ _ (by decide))))
  fences := rfl
  mem := rfl
  clusters := rfl

theorem State.report_shows (event slot : Nat) (r : FaultRecord) : ShowFrame s (s.report event slot r) := by
  unfold State.report
  split
  · exact ⟨rfl, rfl, rfl, rfl, rfl⟩
  · split
    · exact ⟨rfl, congrArg BitVec.toNat (State.reg_setReg_ne _ _ (by decide)), rfl, rfl, rfl⟩
    · exact ⟨rfl, rfl, rfl, rfl, rfl⟩

theorem State.logSeq_logAdd (r : FaultRecord) : (s.logAdd r).logSeq = (s.logSeq + 1) % 2 ^ 32 := by
  unfold State.logAdd State.logSeq
  dsimp only
  rw [State.setFld_eq, State.reg_setReg_ne _ _ (by decide), State.reg_setReg_same, BitVec.toNat_ofNat]

/-- The records after an event on a slot. -/
def recsAfter (recs : Table FaultRecord) (slot : Nat) (r : FaultRecord) : Table FaultRecord :=
  if r.isOpen = true ∧ r.displaced = false then recs.set slot r else recs.erase slot

theorem lookup_recsAfter (recs : Table FaultRecord) (slot k : Nat) (r : FaultRecord) : lookup (recsAfter recs slot r).rows k =
    if slot = k then (if r.isOpen = true ∧ r.displaced = false then some r else none) else lookup recs.rows k := by
  unfold recsAfter
  split
  · exact lookup_insertAt ..
  · exact lookup_filter_ne ..

/-- A record event writes its slot, makes one log entry, and leaves fences, memory and clusters. -/
theorem State.recEvent_leaves (event slot : Nat) (r : FaultRecord) :
    (s.recEvent event slot r).fc.recs = recsAfter s.fc.recs slot r ∧ (s.recEvent event slot r).logSeq = (s.logSeq + 1) % 2 ^ 32
      ∧ (s.recEvent event slot r).fences = s.fences ∧ (s.recEvent event slot r).mem = s.mem
      ∧ (s.recEvent event slot r).clusters = s.clusters := by
  unfold State.recEvent
  extract_lets recs _ u
  have seq : u.logSeq = (s.logSeq + 1) % 2 ^ 32 := State.logSeq_logAdd ..
  have stored : u.fc.recs = recsAfter s.fc.recs slot r := rfl
  have kept : u.fences = s.fences ∧ u.mem = s.mem ∧ u.clusters = s.clusters := ⟨rfl, rfl, rfl⟩
  have reported := u.report_shows event slot r
  have shown := (u.report event slot r).fcShow_shows
  exact ⟨(shown.recs.trans reported.recs).trans stored, (shown.logSeq.trans reported.logSeq).trans seq,
    (shown.fences.trans reported.fences).trans kept.1, (shown.mem.trans reported.mem).trans kept.2.1,
    (shown.clusters.trans reported.clusters).trans kept.2.2⟩

/-! ### Acknowledgement (R466) -/

variable {v : Word32} {r : FaultRecord}

/-- The record once it is acknowledged. -/
def FaultRecord.acknowledged (r : FaultRecord) : FaultRecord := { r with acked := true }

theorem State.closeIf_stays {slot : Nat} (stays : r.gone = false) : s.closeIf slot r = s :=
  if_neg fun h => Bool.false_ne_true (stays.symm.trans h.2)

theorem State.closeIf_closes {slot : Nat} (acked : r.acked = true) (gone : r.gone = true) :
    s.closeIf slot r = s.recEvent 6 slot { r with isOpen := false } := if_pos ⟨acked, gone⟩

theorem doFcAck_repeat (found : lookup s.fc.recs.rows (bitsOf v.toNat 7 0) = some r)
    (agrees : r.lseq.toNat % 65536 = bitsOf v.toNat 31 16) (acked : r.acked = true) : doFcAck v s = s := by
  unfold doFcAck State.ackRec
  rw [found]
  dsimp only
  rw [if_neg (not_not_intro agrees), if_pos acked]

theorem doFcAck_wrong (wrong : ∀ r, lookup s.fc.recs.rows (bitsOf v.toNat 7 0) = some r → r.lseq.toNat % 65536 ≠ bitsOf v.toNat 31 16) :
    doFcAck v s = s.bump (regFc 0xC) 15 0 1 := by
  unfold doFcAck State.ackRec
  split
  · rfl
  · next r found => rw [if_pos (wrong r found)]

theorem doFcAck_eq (found : lookup s.fc.recs.rows (bitsOf v.toNat 7 0) = some r)
    (agrees : r.lseq.toNat % 65536 = bitsOf v.toNat 31 16) (new : r.acked = false) :
    doFcAck v s = (s.recEvent 5 (bitsOf v.toNat 7 0) r.acknowledged).closeIf (bitsOf v.toNat 7 0) r.acknowledged := by
  unfold doFcAck State.ackRec
  rw [found]
  dsimp only
  rw [if_neg (not_not_intro agrees), if_neg (by rw [new]; exact Bool.false_ne_true)]
  rfl

/-- An acknowledged record stays in its slot, or closes where it is GONE. -/
theorem doFcAck_leaves (found : lookup s.fc.recs.rows (bitsOf v.toNat 7 0) = some r)
    (agrees : r.lseq.toNat % 65536 = bitsOf v.toNat 31 16) (isOpen : r.isOpen = true) (kept : r.displaced = false) (new : r.acked = false) :
    lookup (doFcAck v s).fc.recs.rows (bitsOf v.toNat 7 0) = (if r.gone then none else some r.acknowledged)
      ∧ (∀ k, k ≠ bitsOf v.toNat 7 0 → lookup (doFcAck v s).fc.recs.rows k = lookup s.fc.recs.rows k)
      ∧ (doFcAck v s).logSeq = (s.logSeq + (if r.gone then 2 else 1)) % 2 ^ 32 ∧ (doFcAck v s).fences = s.fences
      ∧ (doFcAck v s).mem = s.mem ∧ (doFcAck v s).clusters = s.clusters := by
  rw [doFcAck_eq s found agrees new]
  generalize bitsOf v.toNat 7 0 = slot
  obtain ⟨recs, seq, fences, mem, clusters⟩ := s.recEvent_leaves 5 slot r.acknowledged
  generalize s.recEvent 5 slot r.acknowledged = u at recs seq fences mem clusters
  cases gone : r.gone with
  | true =>
    obtain ⟨recs', seq', fences', mem', clusters'⟩ := u.recEvent_leaves 6 slot { r.acknowledged with isOpen := false }
    rw [u.closeIf_closes (r := r.acknowledged) rfl gone]
    refine ⟨?_, fun k other => ?_, ?_, fences'.trans fences, mem'.trans mem, clusters'.trans clusters⟩
    · rw [recs', lookup_recsAfter, if_pos rfl]
      exact if_neg fun h => Bool.false_ne_true h.1
    · rw [recs', lookup_recsAfter, if_neg (Ne.symm other), recs, lookup_recsAfter, if_neg (Ne.symm other)]
    · rw [seq', seq, Nat.mod_add_mod]
      rfl
  | false =>
    rw [u.closeIf_stays (r := r.acknowledged) gone]
    refine ⟨?_, fun k other => ?_, seq, fences, mem, clusters⟩
    · rw [recs, lookup_recsAfter, if_pos rfl]
      exact if_pos ⟨isOpen, kept⟩
    · rw [recs, lookup_recsAfter, if_neg (Ne.symm other)]

end

/-! ### The host map after a fence (R36) -/

section
variable {s : State} {c : Nat}

/-- The smallest of a list is in it. -/
theorem mem_of_lowest {x : Nat × Nat} {l : List (Nat × Nat)} : ∀ b : Option (Nat × Nat),
    l.foldl (fun (b : Option (Nat × Nat)) x => match b with | none => some x | some y => if x.2 < y.2 then some x else some y) b = some x →
      x ∈ l ∨ b = some x := by
  induction l with
  | nil => exact fun b found => .inr found
  | cons y l ih =>
    intro b found
    rcases ih _ found with mem | kept
    · exact .inl (List.mem_cons_of_mem y mem)
    · cases b with
      | none => exact .inl (by cases kept; exact List.mem_cons_self)
      | some z =>
        dsimp only at kept
        split at kept
        · exact .inl (by cases kept; exact List.mem_cons_self)
        · exact .inr kept

theorem State.inService_of_mem_reliefs {x : Nat × Nat} {dies : List Nat} (mem : x ∈ s.reliefs dies) : s.inService x.2 = true := by
  obtain ⟨h, _, found⟩ := List.mem_filterMap.1 mem
  obtain ⟨k, _, chosen⟩ := Option.bind_eq_some_iff.1 found
  split at chosen
  · next serves =>
    cases chosen
    exact serves.1
  · exact absurd chosen (by simp)

theorem State.inService_of_reliefFor {x : Nat × Nat} {die : Nat} {dies : List Nat} (found : s.reliefFor die dies = some x) :
    s.inService x.2 = true := by
  unfold State.reliefFor at found
  dsimp only at found
  split at found
  · next y first =>
    cases found
    exact State.inService_of_mem_reliefs (List.mem_of_find?_eq_some first)
  · exact State.inService_of_mem_reliefs ((mem_of_lowest none found).resolve_right (by simp))

/-- A home moves off cluster c: to no cluster, or to a relief cluster. -/
def State.moveHome (s : State) (c h : Nat) : State :=
  if s.relief.contains h then s.setHost h none
  else
    match s.reliefFor (dieOf c) [] with
    | none => s.setHost h none
    | some x => (s.setHost h (some x.2)).setHost x.1 none

theorem State.fenceMap_eq (c : Nat) : s.fenceMap c = (s.homesOf c).foldl (fun (s : State) h => s.moveHome c h) s := rfl

/-- A move changes the host map alone. -/
theorem State.moveHome_map (h : Nat) : ∃ m, s.moveHome c h = { s with hostMap := m } := by
  unfold State.moveHome
  split
  · exact ⟨_, rfl⟩
  · split <;> exact ⟨_, rfl⟩

theorem State.foldl_moveHome_map (l : List Nat) : ∃ m, l.foldl (fun (s : State) h => s.moveHome c h) s = { s with hostMap := m } := by
  induction l generalizing s with
  | nil => exact ⟨s.hostMap, rfl⟩
  | cons h l ih =>
    obtain ⟨m, eq⟩ := State.moveHome_map (s := s) (c := c) h
    obtain ⟨m', eq'⟩ := ih (s := s.moveHome c h)
    refine ⟨m', eq'.trans ?_⟩
    rw [eq]

theorem State.fenceMap_map : ∃ m, s.fenceMap c = { s with hostMap := m } := State.foldl_moveHome_map _

/-- A home is not moved to a fenced cluster. -/
theorem State.hostOf_moveHome (fenced : s.inService c = false) (h : Nat) {x : Nat} (other : x = h ∨ s.hostOf x ≠ some c) :
    (s.moveHome c h).hostOf x ≠ some c := by
  have away {t : State} {y : Nat} {k : Option Nat} (ne : k ≠ some c) (kept : x = y ∨ t.hostOf x ≠ some c) :
      (t.setHost y k).hostOf x ≠ some c := by
    rw [State.hostOf_setHost]
    split
    · exact ne
    · next apart => exact kept.resolve_left fun same => apart same.symm
  unfold State.moveHome
  split
  · exact away (by simp) other
  · split
    · exact away (by simp) other
    · next y found =>
      refine away (by simp) (.inr (away (fun same => ?_) other))
      have serves := State.inService_of_reliefFor found
      rw [Option.some.inj same, fenced] at serves
      exact Bool.false_ne_true serves

theorem State.foldl_moveHome_away (fenced : s.inService c = false) {l : List Nat} {x : Nat} (listed : x ∈ l ∨ s.hostOf x ≠ some c) :
    (l.foldl (fun (s : State) h => s.moveHome c h) s).hostOf x ≠ some c := by
  induction l generalizing s with
  | nil => exact listed.resolve_left List.not_mem_nil
  | cons h l ih =>
    have fenced' : (s.moveHome c h).inService c = false := by
      obtain ⟨m, eq⟩ := State.moveHome_map (s := s) (c := c) h
      rw [eq]
      exact fenced
    refine ih fenced' ?_
    rcases listed with mem | away
    · exact (List.mem_cons.1 mem).elim (fun same => .inr (State.hostOf_moveHome fenced h (.inl same))) .inl
    · exact .inr (State.hostOf_moveHome fenced h (.inr away))

/-- R36: a fenced cluster carries no home. -/
theorem State.hostOf_fenceMap (fenced : s.inService c = false) {h : Nat} (home : h < 64) : (s.fenceMap c).hostOf h ≠ some c := by
  rw [State.fenceMap_eq]
  refine State.foldl_moveHome_away fenced ?_
  by_cases carried : s.hostOf h = some c
  · exact .inl (List.mem_filter.2 ⟨List.mem_range.2 home, decide_eq_true carried⟩)
  · exact .inr carried

/-! ### The fence of a cluster (R26) -/

/-- A reset request of a cluster that is not in reset. -/
theorem State.reqReset_stops (small : c < 64) (free : s.isBusy c = false) : ((s.reqReset c).cl c).seq.st = .stopped := by
  have stopped : ((s.updSeq c (fun q => { q with st := .stopped, wait := .none, isOpen := false })).cl c).seq.st = .stopped := by
    rw [State.updSeq, State.cl_setCl_same]
  unfold State.reqReset
  rw [if_neg (by rw [free]; exact Bool.false_ne_true)]
  exact (((s.updSeq c _).halt_hold c).trans (State.bumpGen_hold _ small)).stopped c stopped

/-- A fence of a cluster in service: it carries no home, and it is stopped where it was not in reset. -/
theorem State.fenceCl_leaves (small : c < 64) (serves : s.inService c = true) :
    (s.fenceCl c).fences = s.fences ++ [c] ∧ (∀ h, h < 64 → (s.fenceCl c).hostOf h ≠ some c)
      ∧ (s.isBusy c = false → ((s.fenceCl c).cl c).seq.st = .stopped) := by
  have fenced : ({ s with fences := s.fences ++ [c] } : State).inService c = false := by
    unfold State.inService
    rw [show (s.fences ++ [c]).contains c = true from List.contains_iff_mem.2 (List.mem_append_right _ (List.mem_singleton.2 rfl))]
    rfl
  have away : ∀ h, h < 64 → (State.fenceMap { s with fences := s.fences ++ [c] } c).hostOf h ≠ some c :=
    fun h home => State.hostOf_fenceMap fenced home
  obtain ⟨m, eq⟩ := State.fenceMap_map (s := { s with fences := s.fences ++ [c] }) (c := c)
  have fences : (State.fenceMap { s with fences := s.fences ++ [c] } c).fences = s.fences ++ [c] := by rw [eq]
  have busy : (State.fenceMap { s with fences := s.fences ++ [c] } c).isBusy c = s.isBusy c := by
    rw [eq]
    rfl
  unfold State.fenceCl
  rw [if_neg (by rw [serves]; exact Bool.true_eq_false_eq_False.elim)]
  dsimp only
  generalize State.fenceMap { s with fences := s.fences ++ [c] } c = u at *
  have reset := u.reqReset_hold small
  have lost := (u.reqReset c).workLost_hold c 1
  have all := reset.trans lost
  refine ⟨all.fences.trans fences, fun h home => ?_, fun free => ?_⟩
  · rw [State.hostOf, all.hostMap]
    exact away h home
  · exact lost.stopped c (State.reqReset_stops small (busy.trans free))

end

/-! ### Units and their fences (Table 16.10) -/

theorem fencedBy_cluster {c : Nat} (small : c < 64) : fencedBy c = some (.cluster c) := if_pos small

theorem fencedBy_camera {n : Nat} (small : n < 16) : fencedBy (0x600 + n) = some (.camera n) := by
  unfold fencedBy
  rw [if_neg (by omega), if_neg (by omega), if_neg (by omega), if_pos (by omega), Nat.add_sub_cancel_left]

theorem fencedBy_viaduct {p : Nat} (small : p < 8) : fencedBy (0x900 + p) = some (.viaduct p) := by
  unfold fencedBy
  rw [if_neg (by omega), if_neg (by omega), if_neg (by omega), if_neg (by omega), if_neg (by omega), if_pos (by omega),
    Nat.add_sub_cancel_left]

section
variable {s : State} {unit : Nat} {u : Fenced} {fails : List (Nat × Nat)}

theorem doFenceCmd_none (none' : fencedBy unit = none) : doFenceCmd unit s = (s.bump (regFc 0xC) 15 0 1).sendEv fcSrc 0xF2 0 := by
  unfold doFenceCmd
  rw [none']
  rfl

theorem doFenceCmd_some (named : fencedBy unit = some u) :
    doFenceCmd unit s = { s with rst := { s.rst with trigger := (fcSrc, 0, 0) } }.fence u := by
  unfold doFenceCmd
  rw [named]

theorem doReturnToService_none (none' : fencedBy unit = none) :
    doReturnToService unit fails s = (s.bump (regFc 0xC) 15 0 1).sendEv fcSrc 0xF2 0 := by
  unfold doReturnToService
  rw [none']
  rfl

theorem doReturnToService_bad (named : fencedBy unit = some u) (bad : s.returnBad unit u = true) :
    doReturnToService unit fails s = (s.bump (regFc 0xC) 15 0 1).sendEv fcSrc 0xF2 0 := by
  unfold doReturnToService
  rw [named]
  exact if_pos bad

theorem doReturnToService_cluster {c : Nat} (small : c < 64) (good : s.returnBad c (.cluster c) = false) :
    doReturnToService c fails s = s.returnCl c ((lookup fails c).getD 0) := by
  unfold doReturnToService
  rw [fencedBy_cluster small]
  exact if_neg (by rw [good]; exact Bool.false_ne_true)

theorem doReturnToService_viaduct {p : Nat} (small : p < 8) (good : s.returnBad (0x900 + p) (.viaduct p) = false) :
    doReturnToService (0x900 + p) fails s = doByp p false s := by
  unfold doReturnToService
  rw [fencedBy_viaduct small]
  exact if_neg (by rw [good]; exact Bool.false_ne_true)

/-! ### A cluster's return (R477) -/

variable (s)

theorem State.fc_stage (d : Dump) : (s.stage d).fc = s.fc := by
  unfold State.stage
  extract_lets l
  split <;> rfl

theorem State.fc_dumpBefore (c : Nat) : (s.dumpBefore c).fc = s.fc := by
  unfold State.dumpBefore
  split
  · exact s.fc_stage _
  · rfl

theorem State.due_resetCluster {c : Nat} (small : c < 64) : (s.resetCluster c).fc.due = s.fc.due := by
  have reset : (s.reqReset c).fc.due = s.fc.due := by rw [(s.reqReset_low small).fc]
  have ran : ((s.reqReset c).runReset c).fc = ((s.reqReset c).dumpBefore c).fc := rfl
  rw [State.resetCluster, ran, State.fc_dumpBefore, reset]

theorem State.returnMap_map (c : Nat) : ∃ m, s.returnMap c = { s with hostMap := m } := by
  unfold State.returnMap
  split
  · exact ⟨s.hostMap, rfl⟩
  · dsimp only
    split <;> exact ⟨_, rfl⟩

/-- The fence of a cluster taken off. -/
def State.unfence (s : State) (c : Nat) : State :=
  { s with fences := s.fences.filter (fun f => f ≠ c), saf := { s.saf with tested := s.saf.tested.set c s.ticks } }

theorem State.returnCl_pass {c : Nat} (fenced : c ∈ s.fences) :
    s.returnCl c 0 = (((s.resetCluster c).unfence c).returnMap c).resetCluster c := by
  unfold State.returnCl
  rw [if_neg (by rw [List.contains_iff_mem.2 fenced]; exact Bool.true_eq_false_eq_False.elim)]
  rfl

theorem State.returnCl_passes {c : Nat} (small : c < 64) (fenced : c ∈ s.fences) :
    (s.returnCl c 0).fences = s.fences.filter (fun f => f ≠ c) ∧ (s.returnCl c 0).saf.tested.get c 0 = s.ticks
      ∧ ((s.returnCl c 0).cl c).seq.st = .idle := by
  have first := s.resetCluster_frame small
  have last := (((s.resetCluster c).unfence c).returnMap c).resetCluster_frame small
  obtain ⟨m, eq⟩ := ((s.resetCluster c).unfence c).returnMap_map c
  have fences : (((s.resetCluster c).unfence c).returnMap c).fences = (s.resetCluster c).fences.filter (fun f => f ≠ c) := by
    rw [eq]
    rfl
  have tested : (((s.resetCluster c).unfence c).returnMap c).saf.tested = (s.resetCluster c).saf.tested.set c (s.resetCluster c).ticks := by
    rw [eq]
    rfl
  rw [s.returnCl_pass fenced]
  refine ⟨?_, ?_, State.resetCluster_idle _ c⟩
  · rw [last.fences, fences, first.fences]
  · rw [last.saf, tested, Table.get_set_same, first.ticks]

theorem State.returnCl_fails {c phase : Nat} (small : c < 64) (fenced : c ∈ s.fences) (fails : phase ≠ 0) :
    (s.returnCl c phase).fences = s.fences ∧ (s.returnCl c phase).fc.due.length = s.fc.due.length + 1 := by
  have fences := (s.resetCluster_frame small).fences
  have due := s.due_resetCluster small
  unfold State.returnCl
  rw [if_neg (by rw [List.contains_iff_mem.2 fenced]; exact Bool.true_eq_false_eq_False.elim)]
  dsimp only
  rw [if_neg fails]
  generalize s.resetCluster c = u at fences due ⊢
  exact ⟨fences, (List.length_append).trans (congrArg (fun l => l.length + 1) due)⟩

/-! ### Severities and the fault pin (R461, R469) -/

/-- A byte of a severity write that R461 refuses. -/
def sevBad (off : Nat) (v : Word32) (j : Nat) : Bool :=
  decide (5 < bitsOf v.toNat (8 * j + 2) (8 * j))
    || (decide (2 ≤ kindDefault (off % 0x100 / 4 * 4 + j)) && decide (bitsOf v.toNat (8 * j + 2) (8 * j) < kindDefault (off % 0x100 / 4 * 4 + j)))

variable {off : Nat} {v : Word32}

theorem sevBad_iff {j : Nat} : sevBad off v j = true ↔ 5 < bitsOf v.toNat (8 * j + 2) (8 * j)
    ∨ (2 ≤ kindDefault (off % 0x100 / 4 * 4 + j) ∧ bitsOf v.toNat (8 * j + 2) (8 * j) < kindDefault (off % 0x100 / 4 * 4 + j)) := by
  simp only [sevBad, Bool.or_eq_true, Bool.and_eq_true, decide_eq_true_eq]

theorem doFcSev_eq (low : 0x2000 ≤ off) (high : off < 0x3000) (aligned : off % 4 = 0) :
    doFcSev off v s = if (upTo 4).any (sevBad off v) then s.sendEv fcSrc 0xF2 0 else s.setReg (regFc off) (v &&& 0x07070707#32) :=
  if_neg (by omega)

/-- PINLOW, as the fault pin shows it. -/
theorem State.pinlow_fcShow : s.fcShow.fld (regFc 4) 2 2 = 1 ↔
    s.fld (regFc 4) 0 0 = 0 ∨ ∃ e, e ∈ s.fc.recs.rows ∧ max 1 (s.fld (regFc 0) 6 4) ≤ e.2.eff := by
  unfold State.fcShow
  extract_lets th low deg
  have apart (u : State) (v : Nat) : (u.setFld (regKs 4) 5 5 v).fld (regFc 4) 2 2 = u.fld (regFc 4) 2 2 :=
    State.fld_setFld_ne _ (by decide) ..
  rw [apart, State.fld_setFld _ _ _ (by decide) (by decide)]
  have shown : ((if low then 1 else 0) % 2 ^ (2 + 1 - 2) = 1) ↔ low = true := by cases low <;> simp
  rw [shown, Bool.or_eq_true, List.any_eq_true, decide_eq_true_eq, or_comm]
  simp only [decide_eq_true_eq]
  rfl

theorem doPinthWrite_leaves (v : Word32) :
    (doPinthWrite v s).reg (regFc 0) = v &&& 0x00FF0771#32
      ∧ ((doPinthWrite v s).fld (regFc 4) 2 2 = 1 ↔
        s.fld (regFc 4) 0 0 = 0 ∨ ∃ e, e ∈ s.fc.recs.rows ∧ max 1 (bitsOf v.toNat 6 4) ≤ e.2.eff)
      ∧ (doPinthWrite v s).fc = s.fc ∧ (doPinthWrite v s).net = s.net ∧ (doPinthWrite v s).mem = s.mem
      ∧ (doPinthWrite v s).clusters = s.clusters := by
  have pin := (s.setReg (regFc 0) (v &&& 0x00FF0771#32)).pinlow_fcShow
  have boot : (s.setReg (regFc 0) (v &&& 0x00FF0771#32)).fld (regFc 4) 0 0 = s.fld (regFc 4) 0 0 := by
    rw [State.fld, State.reg_setReg_ne _ _ (by decide), State.fld]
  have level : (s.setReg (regFc 0) (v &&& 0x00FF0771#32)).fld (regFc 0) 6 4 = bitsOf v.toNat 6 4 := by
    rw [State.fld, State.reg_setReg_same, BitVec.toNat_and]
    exact bitsOf_and (by decide)
  have written : (s.setReg (regFc 0) (v &&& 0x00FF0771#32)).fcShow.reg (regFc 0) = v &&& 0x00FF0771#32 := by
    unfold State.fcShow
    exact (State.reg_setReg_ne _ _ (by decide)).trans ((State.reg_setReg_ne _ _ (by decide)).trans
      ((State.reg_setReg_ne _ _ (by decide)).trans (State.reg_setReg_same ..)))
  rw [boot, level] at pin
  exact ⟨written, pin, rfl, rfl, rfl, rfl⟩

/-! ### Reports, history and hours (R475, R478, R479) -/

theorem doTowpathReport_none (none' : s.fc.reports = [] ∨ s.fld (regTw 0) 0 0 = 0) : doTowpathReport s = s := by
  unfold doTowpathReport
  split
  · rfl
  · next f r waiting => exact if_pos (none'.resolve_left (by rw [waiting]; exact List.cons_ne_nil _ _))

theorem doTowpathReport_sends {f : List Byte} {r : List (List Byte)} (waiting : s.fc.reports = f :: r) (up : s.fld (regTw 0) 0 0 = 1) :
    doTowpathReport s = { s with fc := { s.fc with reports := r }, mg := { s.mg with out := s.mg.out ++ [f] } } := by
  unfold doTowpathReport
  rw [waiting]
  exact if_neg (by omega)

theorem doOperatingHours_counts (awake : s.fld (regPw 8) 1 0 ≠ 2) :
    (doOperatingHours s).reg (regFc 0x50) = s.reg (regFc 0x50) + 1
      ∧ (doOperatingHours s).fc.hoursFlash = (s.reg (regFc 0x50) + 1).toNat := by
  have next : BitVec.ofNat 32 ((s.reg (regFc 0x50)).toNat + 1) = s.reg (regFc 0x50) + 1 := by bv_omega
  unfold doOperatingHours
  rw [if_neg awake]
  refine ⟨(State.reg_setReg_same ..).trans next, ?_⟩
  rw [← next, BitVec.toNat_ofNat]

end

/-- Settles O37: each command takes effect by a rule of its own on records, fences, severities and the pin. -/
theorem faultCommands : Obligations.FaultCommands := by
  unfold Obligations.FaultCommands
  intro s
  refine ⟨fun v => ⟨fun r found agrees isOpen kept => ⟨fun acked => ?_, fun new => ?_⟩, fun wrong => ?_⟩,
    fun slot small none' => ?_, fun slot r small found => ⟨fun early => ?_, fun due => ?_⟩,
    fun unit small none' => ⟨?_, fun fails => ?_⟩, fun c small serves => ?_, fun n small free => ?_, fun p small up => ?_,
    fun unit u fails small named bad => ?_, fun c fails small good fenced => ⟨fun pass => ?_, fun fail => ?_⟩,
    fun p fails small good => ?_, fun off v word low high aligned => ⟨fun good => ?_, fun bad => ?_⟩, fun v => ?_,
    fun none' => ?_, fun f r waiting up => ?_, fun none' => ?_, fun e r waiting => ?_, fun asleep => ?_, fun awake => ?_⟩
  · rw [exec_fcAck, doFcAck_repeat s found agrees acked]
  · exact ⟨_, exec_fcAck, doFcAck_leaves s found agrees isOpen kept new⟩
  · rw [exec_fcAck, doFcAck_wrong s wrong]
  · rw [exec_ackDeadline (decide_eq_true small), doAckDeadline, none']
  · rw [exec_ackDeadline (decide_eq_true small), doAckDeadline, found]
    exact congrArg _ (if_pos early)
  · rw [exec_ackDeadline (decide_eq_true small), doAckDeadline, found]
    exact congrArg _ (if_neg due)
  · rw [exec_fcFence (decide_eq_true small), doFenceCmd_none none']
  · rw [exec_returnToService (decide_eq_true small), doReturnToService_none none']
  · have wf : (Instr.fcFence c).wf = true := decide_eq_true (Nat.lt_trans small (by decide))
    rw [exec_fcFence wf, doFenceCmd_some (fencedBy_cluster small)]
    exact ⟨_, rfl, State.fenceCl_leaves small serves⟩
  · have wf : (Instr.fcFence (0x600 + n)).wf = true := decide_eq_true (by omega)
    rw [exec_fcFence wf, doFenceCmd_some (fencedBy_camera small)]
    refine ⟨_, rfl, ?_⟩
    unfold State.fence
    dsimp only
    rw [if_neg (fun held => free (List.contains_iff_mem.1 held))]
  · have wf : (Instr.fcFence (0x900 + p)).wf = true := decide_eq_true (by omega)
    have idle : (State.vpState { s with rst := { s.rst with trigger := (fcSrc, 0, 0) } } p) = 2 := up
    rw [exec_fcFence wf, doFenceCmd_some (fencedBy_viaduct small)]
    refine ⟨_, rfl, ?_⟩
    unfold State.fence
    dsimp only
    rw [if_neg (by rw [idle]; decide), (doByp_leaves true).2.1, if_pos ⟨rfl, idle⟩]
  · rw [exec_returnToService (decide_eq_true small), doReturnToService_bad named bad]
  · have wf : (Instr.returnToService c fails).wf = true := decide_eq_true (Nat.lt_trans small (by decide))
    rw [exec_returnToService wf, doReturnToService_cluster small good, pass]
    exact ⟨_, rfl, s.returnCl_passes small fenced⟩
  · have wf : (Instr.returnToService c fails).wf = true := decide_eq_true (Nat.lt_trans small (by decide))
    rw [exec_returnToService wf, doReturnToService_cluster small good]
    exact ⟨_, rfl, s.returnCl_fails small fenced fail⟩
  · have wf : (Instr.returnToService (0x900 + p) fails).wf = true := decide_eq_true (by omega)
    have wf' : (Instr.byp p false).wf = true := decide_eq_true small
    rw [exec_returnToService wf, doReturnToService_viaduct small good, exec_byp wf']
  · rw [exec_fcSev (decide_eq_true word), doFcSev_eq s low high aligned, if_neg]
    rw [List.any_eq_true]
    rintro ⟨j, listed, bad⟩
    obtain ⟨range, above⟩ := good j (List.mem_range.1 listed)
    exact (sevBad_iff.1 bad).elim (fun past => absurd range (Nat.not_le.2 past)) fun ⟨two, below'⟩ => absurd (above two) (Nat.not_le.2 below')
  · obtain ⟨j, four, refused⟩ := bad
    have some : (upTo 4).any (sevBad off v) = true := List.any_eq_true.2 ⟨j, List.mem_range.2 four, sevBad_iff.2 refused⟩
    rw [exec_fcSev (decide_eq_true word), doFcSev_eq s low high aligned, if_pos some]
  · exact ⟨_, exec_pinthWrite, doPinthWrite_leaves s v⟩
  · rw [exec_towpathReport, doTowpathReport_none s none']
  · rw [exec_towpathReport, doTowpathReport_sends s waiting up]
  · rw [exec_historyWrite, doHistoryWrite, none']
  · rw [exec_historyWrite, doHistoryWrite, waiting]
  · rw [exec_operatingHours, doOperatingHours, if_pos asleep]
  · obtain ⟨hours, flash⟩ := doOperatingHours_counts s awake
    have kept : (doOperatingHours s).net = s.net ∧ (doOperatingHours s).mem = s.mem ∧ (doOperatingHours s).clusters = s.clusters := by
      rw [doOperatingHours, if_neg awake]
      exact ⟨rfl, rfl, rfl⟩
    exact ⟨_, exec_operatingHours, hours, flash, kept⟩

end Sys2Proof.Machine
end

section
/-! PROOFS. Reset domains (O43): a request stops units and takes their next generations; the phases that follow clear them. -/

namespace Sys2Proof.Machine

/-- What each step of a fold establishes for its own element, and every step keeps, holds of all elements at the end. -/
theorem foldl_each {α : Type} {f : State → α → State} {P : α → State → Prop} {l : List α} (sets : ∀ t, ∀ x ∈ l, P x (f t x))
    (keeps : ∀ t, ∀ x ∈ l, ∀ y ∈ l, P x t → P x (f t y)) (s : State) {x : α} (mem : x ∈ l) : P x (l.foldl f s) := by
  have kept (t : State) (held : P x t) : ∀ r : List α, (∀ y ∈ r, y ∈ l) → P x (r.foldl f t) := fun r sub =>
    List.foldlRecOn (motive := P x) r f held fun u held y hy => keeps u x mem y (sub y hy) held
  obtain ⟨before, after, split⟩ := List.append_of_mem mem
  have sub : ∀ y ∈ after, y ∈ l := fun y hy => by
    rw [split]
    exact List.mem_append_right _ (List.mem_cons_of_mem x hy)
  have own := kept _ (sets (before.foldl f s) x mem) after sub
  rwa [split, List.foldl_append, List.foldl_cons]

/-! ### Reset requests (R514, R516, R517) -/

section
variable {s : State} {c : Nat}

theorem nextGen_lt (g : Nat) : nextGen g < 256 := by
  unfold nextGen
  split
  · decide
  · exact Nat.mod_lt _ (by decide)

/-- The cluster's sequencer and units stopped. -/
def State.stopUnits (s : State) (c : Nat) : State :=
  (s.updSeq c (fun q => { q with st := .stopped, wait := .none, isOpen := false })).halt c

theorem State.reqReset_again (busy : s.isBusy c = true) : s.reqReset c = s := if_pos busy

theorem State.reqReset_eq (free : s.isBusy c = false) :
    s.reqReset c = ({ (s.stopUnits c).bumpGen c with claims := (s.stopUnits c).claims.filter (fun k => k.cl ≠ c) } : State).setBusy c true :=
  if_neg (by rw [free]; exact Bool.false_ne_true)

theorem State.isBusy_setBusy (u : Nat) : (s.setBusy u true).isBusy u = true :=
  List.contains_iff_mem.2 (List.mem_append_right _ (List.mem_singleton.2 rfl))

theorem State.isBusy_clear (u v : Nat) : (s.setBusy u false).isBusy v = (s.isBusy v && decide (v ≠ u)) := by
  have listed : v ∈ s.rst.busy.filter (fun x => x ≠ u) ↔ v ∈ s.rst.busy ∧ v ≠ u := by
    rw [List.mem_filter, decide_eq_true_eq]
  rw [Bool.eq_iff_iff, Bool.and_eq_true, decide_eq_true_eq]
  exact List.contains_iff_mem.trans (listed.trans (and_congr_left' List.contains_iff_mem.symm))

/-- R513: after a request the unit is in reset. -/
theorem State.isBusy_reqReset (s : State) (c : Nat) : (s.reqReset c).isBusy c = true := by
  cases busy : s.isBusy c with
  | true => rw [State.reqReset_again busy, busy]
  | false =>
    rw [State.reqReset_eq busy]
    exact State.isBusy_setBusy c

theorem State.stopUnits_eq (s : State) (c : Nat) : ∃ regs clusters, s.stopUnits c = { s with regs := regs, clusters := clusters } := by
  obtain ⟨regs, clusters, eq⟩ := State.halt_eq (s.updSeq c (fun q => { q with st := .stopped, wait := .none, isOpen := false })) c
  exact ⟨regs, clusters, eq⟩

theorem State.mem_reqReset (s : State) (small : c < 64) : (s.reqReset c).mem = s.mem := by
  cases busy : s.isBusy c with
  | true => rw [State.reqReset_again busy]
  | false =>
    have bumped (u : State) : (u.bumpGen c).mem = u.mem := by
      simp only [State.bumpGen, if_pos small]
      rfl
    obtain ⟨regs, clusters, eq⟩ := s.stopUnits_eq c
    rw [State.reqReset_eq busy]
    exact (bumped _).trans (by rw [eq])

theorem State.genOf_cluster (s : State) (small : c < 64) : s.genOf c = s.fld (regCl c 0xC) 7 0 := if_pos small

theorem State.genOf_stopUnits (s : State) (small : c < 64) : (s.stopUnits c).genOf c = s.genOf c := by
  rw [State.genOf_cluster _ small, State.genOf_cluster _ small, State.fld, State.fld, State.stopUnits,
    State.reg_halt (regEe_ne_regCl small (by decide))]
  rfl

theorem State.genOf_bumpGen (s : State) (small : c < 64) : (s.bumpGen c).genOf c = nextGen (s.genOf c) := by
  have same : (s.bumpGen c).fld (regCl c 0xC) 7 0 = (s.setFld (regCl c 0xC) 7 0 (nextGen (s.genOf c))).fld (regCl c 0xC) 7 0 := by
    simp only [State.bumpGen, if_pos small]
    rfl
  rw [State.genOf_cluster _ small, same, State.fld_setFld _ _ _ (by decide) (by decide)]
  exact Nat.mod_eq_of_lt (nextGen_lt _)

/-- R517: what a request of a cluster's reset does. -/
theorem State.reqReset_leaves (small : c < 64) (free : s.isBusy c = false) :
    (s.reqReset c).isBusy c = true ∧ ((s.reqReset c).cl c).seq.st = .stopped ∧ (s.reqReset c).genOf c = nextGen (s.genOf c)
      ∧ (∀ k, k ∈ (s.reqReset c).claims → k.cl ≠ c) ∧ (s.reqReset c).mem = s.mem ∧ (s.reqReset c).net = s.net
      ∧ ∀ k, k ≠ c → (s.reqReset c).cl k = s.cl k := by
  have frame := s.reqReset_frame small
  refine ⟨s.isBusy_reqReset c, State.reqReset_stops small free, ?_, fun k listed => ?_, s.mem_reqReset small, frame.net, frame.cl⟩
  · have bumped := ((s.stopUnits c).genOf_bumpGen small).trans (congrArg nextGen (s.genOf_stopUnits small))
    rw [State.reqReset_eq free]
    generalize (s.stopUnits c).bumpGen c = u at bumped ⊢
    exact bumped
  · rw [State.reqReset_eq free] at listed
    exact of_decide_eq_true (List.mem_filter.1 listed).2

/-- The clusters of a list, once requested, are in reset. -/
theorem State.isBusy_foldl_reqReset {l : List Nat} {g : Nat → Nat} (small : ∀ i ∈ l, g i < 64) (s : State) {i : Nat} (mem : i ∈ l) :
    (l.foldl (fun (s : State) i => s.reqReset (g i)) s).isBusy (g i) = true :=
  foldl_each (P := fun i t => t.isBusy (g i) = true) (fun t i _ => t.isBusy_reqReset (g i))
    (fun t _ _ j hj held => (t.reqReset_hold (small j hj)).busy _ held) s mem

theorem State.foldl_reqReset_hold {l : List Nat} {g : Nat → Nat} (small : ∀ i ∈ l, g i < 64) (s : State) :
    HoldFrame s (l.foldl (fun (s : State) i => s.reqReset (g i)) s) := HoldFrame.foldl (fun t i hi => t.reqReset_hold (small i hi)) s

/-! ### A unit above the clusters enters reset -/

/-- A unit takes its next generation and is in reset, unless it was. -/
def State.startUnit (s : State) (u : Nat) : State := if s.isBusy u then s else (s.bumpGen u).setBusy u true

theorem State.isBusy_startUnit (s : State) (u : Nat) : (s.startUnit u).isBusy u = true := by
  unfold State.startUnit
  split
  · next busy => exact busy
  · exact State.isBusy_setBusy u

theorem State.bumpGen_eq {u : Nat} (above : 64 ≤ u) (s : State) : ∃ srcSeq adopt, s.bumpGen u =
    { s with gens := s.gens.set u (BitVec.ofNat 8 (nextGen (s.genOf u))), srcSeq := srcSeq, fc := { s.fc with adopt := adopt } } := by
  simp only [State.bumpGen, if_neg (Nat.not_lt.2 above)]
  exact ⟨_, _, rfl⟩

theorem State.startUnit_keeps {u : Nat} (above : 64 ≤ u) (s : State) :
    (s.startUnit u).fences = s.fences ∧ (s.startUnit u).mem = s.mem := by
  unfold State.startUnit
  split
  · exact ⟨rfl, rfl⟩
  · obtain ⟨srcSeq, adopt, eq⟩ := s.bumpGen_eq above
    rw [eq]
    exact ⟨rfl, rfl⟩

/-! ### The phases of a cluster reset (R517) -/

theorem State.stage_eq (s : State) (d : Dump) :
    ∃ regs dumps, s.stage d = { s with regs := regs, rst := { s.rst with dumps := dumps } }
      ∧ ∀ off, off ≠ regRc 4 → (s.stage d).reg off = s.reg off := by
  unfold State.stage
  extract_lets l
  split
  · exact ⟨_, s.rst.dumps, rfl, fun off other => State.reg_setReg_ne _ _ other.symm⟩
  · exact ⟨_, _, rfl, fun off other => State.reg_setReg_ne _ _ other.symm⟩

theorem State.dumpBefore_eq (s : State) (c : Nat) :
    ∃ regs dumps, s.dumpBefore c = { s with regs := regs, rst := { s.rst with dumps := dumps } }
      ∧ ∀ off, off ≠ regRc 4 → (s.dumpBefore c).reg off = s.reg off := by
  unfold State.dumpBefore
  split
  · exact s.stage_eq _
  · exact ⟨s.regs, s.rst.dumps, rfl, fun _ _ => rfl⟩

/-- The registers that the reset of a cluster clears. -/
def State.clearRegs (s : State) (c : Nat) : State :=
  ([0x100, 0x204, 4].foldl (fun (u : State) o => u.setReg (regCl c o) 0) s).setFld (regCl c 0xC) 8 8 0

theorem State.runReset_parts (s : State) (c : Nat) : s.runReset c = (((s.dumpBefore c).clearCluster c).clearRegs c).setBusy c false := rfl

theorem regCl_inj {o o' : Nat} (other : o ≠ o') : regCl c o ≠ regCl c o' := by
  unfold regCl
  omega

theorem State.clearRegs_clears (s : State) (c : Nat) :
    (s.clearRegs c).reg (regCl c 0x100) = 0 ∧ (s.clearRegs c).reg (regCl c 4) = 0
      ∧ (s.clearRegs c).fld (regCl c 0xC) 7 0 = s.fld (regCl c 0xC) 7 0 := by
  have other (o : Nat) (ne : o ≠ 0xC) (t : State) : (t.setFld (regCl c 0xC) 8 8 0).reg (regCl c o) = t.reg (regCl c o) :=
    State.reg_setReg_ne _ _ (regCl_inj ne.symm)
  unfold State.clearRegs
  simp only [List.foldl_cons, List.foldl_nil]
  refine ⟨(other 0x100 (by decide) _).trans ?_, (other 4 (by decide) _).trans (State.reg_setReg_same ..), ?_⟩
  · rw [State.reg_setReg_ne _ _ (regCl_inj (by decide)), State.reg_setReg_ne _ _ (regCl_inj (by decide)), State.reg_setReg_same]
  · rw [State.fld_setFld_disjoint _ _ _ (by decide) (by decide) (by decide) (.inr (by decide)), State.fld, State.reg_setReg_ne _ _ (regCl_inj (by decide)),
      State.reg_setReg_ne _ _ (regCl_inj (by decide)), State.reg_setReg_ne _ _ (regCl_inj (by decide)), State.fld]

/-! ### A cleared cluster -/

theorem State.isBusy_runReset (s : State) (c u : Nat) : (s.runReset c).isBusy u = (s.isBusy u && decide (u ≠ c)) := by
  obtain ⟨regs, dumps, eq, _⟩ := s.dumpBefore_eq c
  rw [State.runReset_parts, State.isBusy_clear, eq]
  rfl

theorem State.cl_runReset (s : State) (c : Nat) : (s.runReset c).cl c = (s.cl c).cleared := by
  obtain ⟨regs, dumps, eq, _⟩ := s.dumpBefore_eq c
  have cleared := ((s.dumpBefore c).cl_clearCluster c)
  rw [eq] at cleared
  rw [State.runReset_parts, eq]
  exact cleared

theorem State.claims_runReset (s : State) (c : Nat) : (s.runReset c).claims = s.claims := by
  obtain ⟨regs, dumps, eq, _⟩ := s.dumpBefore_eq c
  rw [State.runReset_parts, eq]
  rfl

theorem State.genOf_runReset (s : State) (small : c < 64) : (s.runReset c).genOf c = s.genOf c := by
  obtain ⟨regs, dumps, eq, kept⟩ := s.dumpBefore_eq c
  have gen : (s.dumpBefore c).fld (regCl c 0xC) 7 0 = s.fld (regCl c 0xC) 7 0 := by
    rw [State.fld, kept _ (by unfold regCl regRc; omega), State.fld]
  have cleared := (((s.dumpBefore c).clearCluster c).clearRegs_clears c).2.2
  rw [State.genOf_cluster _ small, State.genOf_cluster _ small, State.runReset_parts]
  exact cleared.trans gen

theorem State.runReset_regs (s : State) (c : Nat) : (s.runReset c).reg (regCl c 0x100) = 0 ∧ (s.runReset c).reg (regCl c 4) = 0 := by
  obtain ⟨stat, word, _⟩ := ((s.dumpBefore c).clearCluster c).clearRegs_clears c
  rw [State.runReset_parts]
  exact ⟨stat, word⟩

theorem State.runReset_memory (s : State) (c : Nat) : (s.runReset c).mem = (s.clearMem c).mem ∧ (s.runReset c).marks = (s.clearMem c).marks := by
  obtain ⟨regs, dumps, eq, _⟩ := s.dumpBefore_eq c
  rw [State.runReset_parts, eq]
  exact ⟨rfl, rfl⟩

/-- Bytes and granules after a cluster's memory is cleared. -/
theorem State.runReset_byte (s : State) (c a : Nat) :
    (s.runReset c).byte a = if clKey c 0 ≤ a ∧ a < clKey c 0 + 2 ^ 22 then 0 else s.byte a := by
  have kept := lookup_filter_key s.mem (fun i => decide (i < clKey c 0) || decide (clKey c 0 + 2 ^ 22 ≤ i)) a
  rw [State.byte, (s.runReset_memory c).1, State.clearMem, State.byte, memRead, memRead]
  dsimp only
  rw [kept]
  by_cases inside : clKey c 0 ≤ a ∧ a < clKey c 0 + 2 ^ 22
  · rw [if_pos inside, if_neg (by simp only [Bool.or_eq_true, decide_eq_true_eq]; omega)]
    rfl
  · rw [if_neg inside, if_pos (by simp only [Bool.or_eq_true, decide_eq_true_eq]; omega)]

theorem State.runReset_gran (s : State) (c a : Nat) :
    (s.runReset c).gran a = if clKey c 0 / 8 ≤ a / 8 ∧ a / 8 < (clKey c 0 + 2 ^ 22) / 8 then .clean else s.gran a := by
  have kept := lookup_filter_key s.marks.rows (fun i => decide (i < clKey c 0 / 8) || decide ((clKey c 0 + 2 ^ 22) / 8 ≤ i)) (a / 8)
  rw [State.gran, (s.runReset_memory c).2, State.clearMem, State.gran, Table.get, Table.get]
  dsimp only
  rw [kept]
  by_cases inside : clKey c 0 / 8 ≤ a / 8 ∧ a / 8 < (clKey c 0 + 2 ^ 22) / 8
  · rw [if_pos inside, if_neg (by simp only [Bool.or_eq_true, decide_eq_true_eq]; omega)]
    rfl
  · rw [if_neg inside, if_pos (by simp only [Bool.or_eq_true, decide_eq_true_eq]; omega)]

/-- A cluster after the last phase of its reset. -/
structure State.Cleared (s : State) (c : Nat) : Prop where
  free : s.isBusy c = false
  idle : (s.cl c).seq.st = .idle
  zero : ∀ b, b < 2 ^ 22 → s.byte (clKey c b) = 0

theorem State.runReset_clears (s : State) (small : c < 64) : (s.runReset c).Cleared c where
  free := by rw [State.isBusy_runReset, decide_eq_false (not_not_intro rfl), Bool.and_false]
  idle := by rw [State.cl_runReset]; rfl
  zero b inside := by
    rw [State.runReset_byte, if_pos (by rw [clKey_eq small inside, clKey_eq small (by decide)]; omega)]

theorem State.Cleared.runReset {k : Nat} (cleared : s.Cleared k) (small : k < 64) (other : c < 64) : (s.runReset c).Cleared k := by
  by_cases same : k = c
  · rw [same]
    exact s.runReset_clears other
  · have frame := s.runReset_frame other
    refine ⟨by rw [State.isBusy_runReset, cleared.free, Bool.false_and], by rw [frame.cl k same]; exact cleared.idle, fun b inside => ?_⟩
    rw [frame.byte _ (not_ownKey_clKey other small (Ne.symm same) inside)]
    exact cleared.zero b inside

/-- Clusters whose resets end in turn are cleared. -/
theorem State.cleared_foldl_runReset {l : List Nat} {g : Nat → Nat} (small : ∀ i ∈ l, g i < 64) (s : State) {i : Nat} (mem : i ∈ l) :
    (l.foldl (fun (s : State) i => s.runReset (g i)) s).Cleared (g i) :=
  foldl_each (P := fun i t => t.Cleared (g i)) (fun t i hi => t.runReset_clears (small i hi))
    (fun _ i hi j hj held => held.runReset (small i hi) (small j hj)) s mem

/-- What else a cluster's reset leaves of it and of the rest. -/
theorem doClusterReset_leaves (small : c < 64) (busy : s.isBusy c = true) :
    let t := doClusterReset c s
    t.isBusy c = false ∧ (t.cl c).seq.st = .idle ∧ (t.cl c).jobs = ⟨[]⟩ ∧ (t.cl c).evs = [] ∧ t.reg (regCl c 0x100) = 0
      ∧ t.reg (regCl c 4) = 0 ∧ t.genOf c = s.genOf c ∧ (∀ b, b < 2 ^ 22 → t.byte (clKey c b) = 0 ∧ t.gran (clKey c b) = .clean)
      ∧ (∀ a, (a < clKey c 0 ∨ clKey c 0 + 2 ^ 22 ≤ a) → t.byte a = s.byte a ∧ t.gran a = s.gran a)
      ∧ (∀ k, k ≠ c → t.cl k = s.cl k) ∧ t.net = s.net ∧ t.fences = s.fences := by
  have ran : doClusterReset c s = s.runReset c := by
    rw [doClusterReset, if_pos busy, State.resetCluster, State.reqReset_again busy]
  have frame := s.runReset_frame small
  have cleared := s.runReset_clears small
  have regs := s.runReset_regs c
  have base := clKey_eq small (b := 0) (by decide)
  rw [ran]
  refine ⟨cleared.free, cleared.idle, by rw [State.cl_runReset]; rfl, by rw [State.cl_runReset]; rfl, regs.1, regs.2,
    s.genOf_runReset small, fun b inside => ⟨cleared.zero b inside, ?_⟩, fun a outside => ⟨?_, ?_⟩, frame.cl, frame.net, frame.fences⟩
  · rw [State.runReset_gran, if_pos]
    rw [base, clKey_eq small inside]
    omega
  · rw [State.runReset_byte, if_neg (by omega)]
  · rw [State.runReset_gran, if_neg]
    rw [base] at outside ⊢
    omega

/-! ### Regions and dies (R518, R519) -/

variable {r d : Nat}

/-- The clusters of a region and of a die. -/
theorem region_small (small : r < 16) : ∀ i ∈ upTo 4, 4 * r + i < 64 := fun i hi => by
  have := List.mem_range.1 hi
  omega

theorem die_small (small : d < 4) : ∀ i ∈ upTo 16, 16 * d + i < 64 := fun i hi => by
  have := List.mem_range.1 hi
  omega

theorem State.claims_foldl_runReset (l : List Nat) (g : Nat → Nat) (s : State) :
    (l.foldl (fun (s : State) i => s.runReset (g i)) s).claims = s.claims :=
  List.foldlRecOn (motive := fun t => t.claims = s.claims) l (fun (s : State) i => s.runReset (g i)) rfl
    fun t same i _ => (t.claims_runReset (g i)).trans same

/-- A unit that is no longer in reset. -/
theorem State.setBusy_clears (s : State) (u : Nat) : (s.setBusy u false).isBusy u = false := by
  rw [State.isBusy_clear, decide_eq_false (not_not_intro rfl), Bool.and_false]

theorem State.Cleared.setBusy (cleared : s.Cleared c) (u : Nat) : (s.setBusy u false).Cleared c :=
  ⟨by rw [State.isBusy_clear, cleared.free, Bool.false_and], cleared.idle, cleared.zero⟩

/-- The region is powered. -/
def State.ungate (s : State) (r : Nat) : State := { s with pw := { s.pw with gated := s.pw.gated.filter (fun x => x ≠ r) } }

theorem State.Cleared.ungate (cleared : s.Cleared c) (r : Nat) : (s.ungate r).Cleared c := ⟨cleared.free, cleared.idle, cleared.zero⟩

theorem State.ungate_leaves (s : State) (r u : Nat) :
    ((s.ungate r).setBusy u false).claims = s.claims ∧ r ∉ ((s.ungate r).setBusy u false).pw.gated :=
  ⟨rfl, fun listed => of_decide_eq_true (List.mem_filter.1 listed).2 rfl⟩

/-- The claims on a bus given up. -/
def State.dropBus (s : State) (r : Nat) : State := { s with claims := s.claims.filter (fun k => k.res ≠ resBus r) }

theorem State.resetRegion_eq (s : State) (r : Nat) : s.resetRegion r =
    let b := (upTo 4).foldl (fun (s : State) i => s.reqReset (4 * r + i)) (s.startUnit (0x100 + r))
    let v := (upTo 4).foldl (fun (s : State) i => s.runReset (4 * r + i)) (b.dropBus r)
    (v.ungate r).setBusy (0x100 + r) false := rfl

/-- The last phases of a region's reset. -/
theorem State.runRegion_leaves (s : State) (small : r < 16) :
    let v := (upTo 4).foldl (fun (s : State) i => s.runReset (4 * r + i)) (s.dropBus r)
    (∀ k, k ∈ v.claims → k.res ≠ resBus r) ∧ ∀ i, i < 4 → v.Cleared (4 * r + i) := by
  have claims := State.claims_foldl_runReset (upTo 4) (fun i => 4 * r + i) (s.dropBus r)
  refine ⟨fun k listed => ?_, fun i four =>
    State.cleared_foldl_runReset (g := fun i => 4 * r + i) (region_small small) _ (List.mem_range.2 four)⟩
  rw [claims] at listed
  exact of_decide_eq_true (List.mem_filter.1 listed).2

theorem State.resetRegion_leaves (s : State) (small : r < 16) :
    (s.resetRegion r).isBusy (0x100 + r) = false ∧ r ∉ (s.resetRegion r).pw.gated
      ∧ (∀ k, k ∈ (s.resetRegion r).claims → k.res ≠ resBus r)
      ∧ ∀ i, i < 4 → (s.resetRegion r).Cleared (4 * r + i) := by
  rw [State.resetRegion_eq]
  dsimp only
  generalize (upTo 4).foldl (fun (s : State) i => s.reqReset (4 * r + i)) (s.startUnit (0x100 + r)) = b
  obtain ⟨claims, cleared⟩ := b.runRegion_leaves small
  generalize (upTo 4).foldl (fun (s : State) i => s.runReset (4 * r + i)) (b.dropBus r) = v at claims cleared ⊢
  obtain ⟨kept, powered⟩ := v.ungate_leaves r (0x100 + r)
  refine ⟨State.setBusy_clears .., powered, fun k listed => ?_, fun i four => ((cleared i four).ungate r).setBusy _⟩
  rw [kept] at listed
  exact claims k listed

/-- The work of a die's clusters is lost, and they enter reset. -/
def State.loseDie (s : State) (d : Nat) : State :=
  let ks := (upTo 16).map (fun i => 16 * d + i)
  ks.foldl (fun (s : State) k => s.reqReset k) (ks.foldl (fun (s : State) k => s.workLost k 2) s)

theorem State.reqDie_eq (s : State) (d : Nat) : s.reqDie d = (s.startUnit (0x200 + 16 * d)).loseDie d := rfl

theorem State.loseDie_hold (s : State) (small : d < 4) : HoldFrame s (s.loseDie d) := by
  have named : ∀ k ∈ (upTo 16).map (fun i => 16 * d + i), k < 64 := fun k hk => by
    obtain ⟨i, hi, rfl⟩ := List.mem_map.1 hk
    exact die_small small i hi
  unfold State.loseDie
  extract_lets ks
  have lost : HoldFrame s (ks.foldl (fun (s : State) k => s.workLost k 2) s) := HoldFrame.foldl (fun t k _ => t.workLost_hold k 2) s
  exact lost.trans (State.foldl_reqReset_hold (g := fun k => k) named _)

theorem State.isBusy_loseDie (s : State) (small : d < 4) {i : Nat} (sixteen : i < 16) : (s.loseDie d).isBusy (16 * d + i) = true := by
  unfold State.loseDie
  dsimp only
  rw [List.foldl_map]
  exact State.isBusy_foldl_reqReset (g := fun i => 16 * d + i) (die_small small) _ (List.mem_range.2 sixteen)

theorem State.fences_foldl {α : Type} {f : State → α → State} {l : List α} (each : ∀ t, ∀ x ∈ l, (f t x).fences = t.fences) (s : State) :
    (l.foldl f s).fences = s.fences :=
  List.foldlRecOn (motive := fun t => t.fences = s.fences) l f rfl fun t same x hx => (each t x hx).trans same

theorem State.fences_bumpGen {u : Nat} (above : 64 ≤ u) (s : State) : (s.bumpGen u).fences = s.fences := by
  obtain ⟨srcSeq, adopt, eq⟩ := s.bumpGen_eq above
  rw [eq]

/-- The regions of a die take their next generations. -/
def State.bumpRegions (s : State) (d : Nat) : State :=
  (upTo 4).foldl (fun (s : State) i => if s.isBusy (0x100 + 4 * d + i) then s else s.bumpGen (0x100 + 4 * d + i)) s

/-- The regions of a die are no longer in reset. -/
def State.freeRegions (s : State) (d : Nat) : State :=
  (upTo 4).foldl (fun (s : State) i => s.setBusy (0x100 + 4 * d + i) false) s

theorem State.fences_bumpRegions (s : State) (d : Nat) : (s.bumpRegions d).fences = s.fences := by
  refine State.fences_foldl (fun t i _ => ?_) s
  split
  · rfl
  · exact t.fences_bumpGen (by omega)

theorem State.fences_freeRegions (s : State) (d : Nat) : (s.freeRegions d).fences = s.fences :=
  State.fences_foldl (f := fun (s : State) i => s.setBusy (0x100 + 4 * d + i) false) (fun _ _ _ => rfl) s

theorem State.resetDie_eq (s : State) (d : Nat) : s.resetDie d =
    let b := (((s.startUnit (0x200 + 16 * d)).loseDie d).bumpRegions d).freeRegions d
    let v := ((upTo 16).map (fun i => 16 * d + i)).foldl (fun (s : State) k => s.runReset k) b
    (v.dieRegs d).setBusy (0x200 + 16 * d) false := rfl

/-- The last phases of a die's reset. -/
theorem State.runDie_leaves (s : State) (small : d < 4) :
    let v := ((upTo 16).map (fun i => 16 * d + i)).foldl (fun (s : State) k => s.runReset k) s
    v.fences = s.fences ∧ ∀ i, i < 16 → v.Cleared (16 * d + i) := by
  have named : ∀ k ∈ (upTo 16).map (fun i => 16 * d + i), k < 64 := fun k hk => by
    obtain ⟨i, hi, rfl⟩ := List.mem_map.1 hk
    exact die_small small i hi
  exact ⟨State.fences_foldl (fun t k hk => (t.runReset_frame (named k hk)).fences) s, fun i sixteen =>
    State.cleared_foldl_runReset (g := fun k => k) named s (List.mem_map_of_mem (List.mem_range.2 sixteen))⟩

theorem State.Cleared.dieRegs (cleared : s.Cleared c) (d : Nat) : (s.dieRegs d).Cleared c := ⟨cleared.free, cleared.idle, cleared.zero⟩

theorem State.fences_dieRegs (s : State) (d u : Nat) : ((s.dieRegs d).setBusy u false).fences = s.fences := rfl

theorem State.resetDie_leaves (s : State) (small : d < 4) :
    (s.resetDie d).isBusy (0x200 + 16 * d) = false ∧ (s.resetDie d).fences = s.fences
      ∧ ∀ i, i < 16 → (s.resetDie d).Cleared (16 * d + i) := by
  have before : ((((s.startUnit (0x200 + 16 * d)).loseDie d).bumpRegions d).freeRegions d).fences = s.fences :=
    (State.fences_freeRegions ..).trans ((State.fences_bumpRegions ..).trans
      ((State.loseDie_hold _ small).fences.trans (State.startUnit_keeps (by omega) s).1))
  rw [State.resetDie_eq]
  dsimp only
  generalize (((s.startUnit (0x200 + 16 * d)).loseDie d).bumpRegions d).freeRegions d = b at before ⊢
  obtain ⟨fences, cleared⟩ := b.runDie_leaves small
  generalize ((upTo 16).map (fun i => 16 * d + i)).foldl (fun (s : State) k => s.runReset k) b = v at fences cleared ⊢
  exact ⟨State.setBusy_clears .., (v.fences_dieRegs d _).trans (fences.trans before),
    fun i sixteen => ((cleared i sixteen).dieRegs d).setBusy _⟩

end

end Sys2Proof.Machine
end

section
/-! PROOFS. Reset domains, concluded (O43): hub sub-blocks, escalations and the dump on request. -/

namespace Sys2Proof.Machine

section
variable {s : State} {u d : Nat}

/-! ### Hub sub-blocks (R520) -/

theorem State.abortAll_hold (l : List Nat) (s : State) : HoldFrame s (l.foldl (fun (s : State) c => s.abortCtx c [] 3 2) s) :=
  HoldFrame.foldl (fun t c _ => t.abortCtx_hold c [] 3 2) s

theorem State.resetHub_hold (s : State) (listed : u ∈ hubSubBlocks) : HoldFrame (s.bumpGen u) (s.resetHub u) := by
  unfold State.resetHub
  rw [if_neg (by rw [List.contains_iff_mem.2 listed]; exact Bool.false_ne_true)]
  extract_lets t cs _ v others
  split
  · exact (HoldFrame.of_eq : HoldFrame t v).trans (State.abortAll_hold cs v)
  · split
    · exact State.abortAll_hold _ t
    · split
      · exact .of_eq
      · split
        · exact .of_eq
        · exact .refl t

theorem hub_above (listed : u ∈ hubSubBlocks) : 0x400 ≤ u := by
  simp only [hubSubBlocks, List.mem_cons, List.not_mem_nil, or_false] at listed
  omega

theorem State.genOf_hub (s : State) (listed : u ∈ hubSubBlocks) : s.genOf u = (s.gens.get u 1).toNat := by
  have above := hub_above listed
  unfold State.genOf
  rw [if_neg (by omega), if_pos (.inr (.inr (List.contains_iff_mem.2 listed))), if_neg (by omega)]

/-- R516: a reset hub sub-block has its next generation, and is no longer in reset. -/
theorem doHubReset_leaves (listed : u ∈ hubSubBlocks) (busy : s.isBusy u = true) :
    (doHubReset u s).isBusy u = false ∧ (doHubReset u s).genOf u = nextGen (s.genOf u) := by
  obtain ⟨srcSeq, adopt, eq⟩ := s.bumpGen_eq (u := u) (Nat.le_trans (by decide) (hub_above listed))
  have gens : (s.resetHub u).gens = s.gens.set u (BitVec.ofNat 8 (nextGen (s.genOf u))) := by
    rw [(s.resetHub_hold listed).gens, eq]
  rw [doHubReset, if_pos busy]
  generalize s.resetHub u = v at gens ⊢
  have kept : (v.setBusy u false).genOf u = v.genOf u := by rw [State.genOf_hub _ listed, State.genOf_hub _ listed]; rfl
  refine ⟨v.setBusy_clears u, ?_⟩
  rw [kept, v.genOf_hub listed, gens, Table.get_set_same, BitVec.toNat_ofNat]
  exact Nat.mod_eq_of_lt (nextGen_lt _)

/-! ### Escalation (R521) -/

theorem State.fences_fenceDie (s : State) (small : d < 4) : 0x200 + 16 * d ∈ (s.fenceDie d).fences := by
  unfold State.fenceDie
  split
  · next off => exact List.contains_iff_mem.1 off
  · have named : ∀ k ∈ (upTo 16).map (fun i => 16 * d + i), k < 64 := fun k hk => by
      obtain ⟨i, hi, rfl⟩ := List.mem_map.1 hk
      exact die_small small i hi
    extract_lets fenced ks lost requested moved
    have lose : lost.fences = fenced.fences := State.fences_foldl (fun t k _ => (t.workLost_hold k 2).fences) _
    have request : requested.fences = lost.fences := State.fences_foldl (fun t k hk => (t.reqReset_hold (named k hk)).fences) _
    have move : moved.fences = requested.fences := by
      refine State.fences_foldl (fun t k _ => ?_) _
      split
      · obtain ⟨m, eq⟩ := State.fenceMap_map (s := t) (c := k)
        rw [eq]
      · rfl
    rw [State.fences_foldl (fun t x _ => (t.abortCtx_hold x [] 2 2).fences), move, request, lose]
    exact List.mem_append_right _ (List.mem_singleton.2 rfl)

theorem doResetEscalation_idle (free : s.isBusy u = false) : doResetEscalation u s = s := if_pos (by rw [free]; rfl)

theorem doResetEscalation_cluster (small : u < 64) (busy : s.isBusy u = true) :
    doResetEscalation u s = (upTo 4).foldl (fun (s : State) i => s.reqReset (4 * (u / 4) + i)) (s.startUnit (0x100 + u / 4)) := by
  unfold doResetEscalation
  rw [if_neg (by rw [busy]; exact Bool.false_ne_true), if_pos small]
  rfl

theorem doResetEscalation_region (low : 0x100 ≤ u) (high : u < 0x110) (busy : s.isBusy u = true) : doResetEscalation u s =
    (upTo 16).foldl (fun (s : State) i => s.reqReset (16 * ((u - 0x100) / 4) + i)) (s.startUnit (0x200 + 16 * ((u - 0x100) / 4))) := by
  unfold doResetEscalation
  rw [if_neg (by rw [busy]; exact Bool.false_ne_true), if_neg (by omega), if_pos high]
  rfl

theorem doResetEscalation_hub (high : 0x240 ≤ u) (busy : s.isBusy u = true) :
    doResetEscalation u s = (s.setBusy u false).sendSev u 0xA4 0 5 := by
  unfold doResetEscalation
  rw [if_neg (by rw [busy]; exact Bool.false_ne_true), if_neg (by omega), if_neg (by omega), if_neg (by omega)]

/-- The message of a die that could not be reset, and the die out of its reset. -/
def State.giveUpDie (s : State) (u : Nat) : State :=
  { s.send (u + 1) 0xA4 0 true [] with rst := { s.rst with busy := s.rst.busy.filter (fun x => x ≠ u) } }

theorem State.giveUpDie_leaves (s : State) (u : Nat) : (s.giveUpDie u).fences = s.fences ∧ (s.giveUpDie u).isBusy u = false :=
  ⟨rfl, s.setBusy_clears u⟩

theorem doResetEscalation_die (small : d < 4) (busy : s.isBusy (0x200 + 16 * d) = true) :
    doResetEscalation (0x200 + 16 * d) s = ((s.setBusy (0x200 + 16 * d) false).fenceDie d).giveUpDie (0x200 + 16 * d) := by
  have die : (0x200 + 16 * d - 0x200) / 16 = d := by omega
  unfold doResetEscalation
  rw [if_neg (by rw [busy]; exact Bool.false_ne_true), if_neg (by omega), if_neg (by omega), if_pos (by omega), die]
  rfl

theorem doResetEscalation_fences (small : d < 4) (busy : s.isBusy (0x200 + 16 * d) = true) :
    0x200 + 16 * d ∈ (doResetEscalation (0x200 + 16 * d) s).fences ∧ (doResetEscalation (0x200 + 16 * d) s).isBusy (0x200 + 16 * d) = false := by
  have fenced := (s.setBusy (0x200 + 16 * d) false).fences_fenceDie small
  rw [doResetEscalation_die small busy]
  generalize (s.setBusy (0x200 + 16 * d) false).fenceDie d = v at fenced ⊢
  obtain ⟨kept, free⟩ := v.giveUpDie_leaves (0x200 + 16 * d)
  exact ⟨kept ▸ fenced, free⟩

/-- Reset requests of clusters behind a unit that entered reset. -/
theorem State.requestUnit_busy {n u : Nat} {g : Nat → Nat} (small : ∀ i ∈ upTo n, g i < 64) (s : State) :
    ((upTo n).foldl (fun (s : State) i => s.reqReset (g i)) (s.startUnit u)).isBusy u = true
      ∧ ∀ i, i < n → ((upTo n).foldl (fun (s : State) i => s.reqReset (g i)) (s.startUnit u)).isBusy (g i) = true :=
  ⟨(State.foldl_reqReset_hold small _).busy u (s.isBusy_startUnit u), fun _ hi => State.isBusy_foldl_reqReset small _ (List.mem_range.2 hi)⟩

/-! ### Requests by RC_CMD (R532) -/

theorem State.reqRegion_eq (s : State) (r : Nat) :
    s.reqRegion r = (upTo 4).foldl (fun (s : State) i => s.reqReset (4 * r + i)) (s.startUnit (0x100 + r)) := rfl

theorem State.mem_reqRegion (s : State) {r : Nat} (small : r < 16) : (s.reqRegion r).mem = s.mem := by
  rw [State.reqRegion_eq]
  refine (List.foldlRecOn (motive := fun t => t.mem = (s.startUnit (0x100 + r)).mem) (upTo 4)
    (fun (s : State) i => s.reqReset (4 * r + i)) rfl fun t same i hi => ?_).trans (s.startUnit_keeps (by omega)).2
  exact (t.mem_reqReset (region_small small i hi)).trans same

theorem State.reqDie_busy (s : State) (small : d < 4) :
    (s.reqDie d).isBusy (0x200 + 16 * d) = true ∧ ∀ i, i < 16 → (s.reqDie d).isBusy (16 * d + i) = true := by
  rw [State.reqDie_eq]
  exact ⟨(State.loseDie_hold _ small).busy _ (s.isBusy_startUnit _), fun i sixteen => State.isBusy_loseDie _ small sixteen⟩

/-- R526: a package dump is always staged. -/
theorem State.stage_package (s : State) {d : Dump} (package : d.kind ≠ 0) :
    (s.stage d).rst.dumps.getLast? = some d ∧ (s.stage d).clusters = s.clusters ∧ (s.stage d).mem = s.mem ∧ (s.stage d).net = s.net := by
  unfold State.stage
  extract_lets l
  rw [if_neg (fun full => package full.1)]
  exact ⟨List.getLast?_concat, rfl, rfl, rfl⟩

theorem State.capturePkg_stage (s : State) (kind : Nat) :
    ∃ d, s.capturePkg kind = s.stage d ∧ d.kind = kind ∧ d.source = s.rst.trigger.1 ∧ d.time = s.now := ⟨_, rfl, rfl, rfl, rfl⟩

theorem doRcDump_stages (s : State) : ∃ d, (doRcDump 0x5253 s).rst.dumps.getLast? = some d ∧ d.kind = 2 ∧ d.source = fcSrc ∧ d.time = s.now
    ∧ (doRcDump 0x5253 s).clusters = s.clusters ∧ (doRcDump 0x5253 s).mem = s.mem ∧ (doRcDump 0x5253 s).net = s.net := by
  have asked : doRcDump 0x5253 s = State.capturePkg { s with rst := { s.rst with trigger := (fcSrc, 0, 0) } } 2 :=
    if_neg (by decide)
  obtain ⟨d, staged, kind, source, time⟩ := State.capturePkg_stage { s with rst := { s.rst with trigger := (fcSrc, 0, 0) } } 2
  obtain ⟨last, kept⟩ := State.stage_package { s with rst := { s.rst with trigger := (fcSrc, 0, 0) } } (d := d) (by rw [kind]; decide)
  rw [asked, staged]
  exact ⟨d, last, kind, source, time, kept⟩

end

/-- Settles O43: requests stop units and hold them in reset, the phases clear them, and an overdue reset takes the next wider unit. -/
theorem resetDomains : Obligations.ResetDomains := by
  unfold Obligations.ResetDomains
  intro s key unit word named
  have both : (below (2 ^ 16) key && below (2 ^ 12) unit) = true := below_and_below word named
  have one : below (2 ^ 16) key = true := decide_eq_true word
  have accepted (right : key = 0x5253) : key = rcKey := right
  refine ⟨fun wrong c listed => ?_, fun right => ⟨fun above => ?_, fun small busy => ?_, fun small free => ?_, fun other => ?_, fun low high => ?_,
      fun other => ?_, fun low high sub => ?_, fun other => ?_, fun hub free => ?_, ?_⟩,
    fun c small free => ?_, fun c small busy => ?_, fun r small free on => ?_, fun r small due => ?_, fun d small free => ?_,
    fun d small busy => ?_, fun free => ⟨?_, ?_⟩, fun hub busy => ?_, fun small busy => ?_, fun low high busy => ?_, fun d small busy => ?_,
    fun above busy => ?_⟩
  · have refused : key ≠ rcKey := wrong
    simp only [List.mem_cons, List.not_mem_nil, or_false] at listed
    rcases listed with rfl | rfl | rfl | rfl | rfl | rfl
    · rw [exec_rcCluster both, doRcCluster, if_pos refused]
    · rw [exec_rcRegion both, doRcRegion, if_pos refused]
    · rw [exec_rcDie both, doRcDie, if_pos refused]
    · rw [exec_rcHub both, doRcHub, if_pos refused]
    · rw [exec_rcPackage one, doRcPackage, if_pos refused]
    · rw [exec_rcDump one, doRcDump, if_pos refused]
  · rw [exec_rcCluster both, doRcCluster, if_neg (not_not_intro (accepted right)), if_neg (by omega)]
    rfl
  · rw [exec_rcCluster both, doRcCluster, if_neg (not_not_intro (accepted right)), if_pos small, State.reqReset_again busy]
  · rw [exec_rcCluster both, doRcCluster, if_neg (not_not_intro (accepted right)), if_pos small]
    exact ⟨_, rfl, State.reqReset_leaves small free⟩
  · rw [exec_rcRegion both, doRcRegion, if_neg (not_not_intro (accepted right)), if_neg other]
    rfl
  · have region : 0x100 + (unit - 0x100) = unit := by omega
    have requested := s.requestUnit_busy (u := 0x100 + (unit - 0x100)) (g := fun i => 4 * (unit - 0x100) + i) (region_small (by omega))
    rw [region] at requested
    rw [exec_rcRegion both, doRcRegion, if_neg (not_not_intro (accepted right)), if_pos ⟨low, high⟩]
    refine ⟨_, rfl, ?_, ?_, s.mem_reqRegion (by omega)⟩
    · rw [State.reqRegion_eq, region]
      exact requested.1
    · rw [State.reqRegion_eq, region]
      exact requested.2
  · rw [exec_rcDie both, doRcDie, if_neg (not_not_intro (accepted right)), if_neg other]
    rfl
  · have die : unit / 16 * 16 = 0x200 + 16 * ((unit - 0x200) / 16) := by omega
    rw [exec_rcDie both, doRcDie, if_neg (not_not_intro (accepted right)), if_pos ⟨low, high, sub⟩, die]
    exact ⟨_, rfl, s.reqDie_busy (by omega)⟩
  · rw [exec_rcHub both, doRcHub, if_neg (not_not_intro (accepted right)), if_neg (fun held => other (List.contains_iff_mem.1 held))]
    rfl
  · rw [exec_rcHub both, doRcHub, if_neg (not_not_intro (accepted right)), if_pos (List.contains_iff_mem.2 hub),
      if_neg (by rw [free]; exact Bool.false_ne_true)]
  · subst right
    obtain ⟨d, staged⟩ := doRcDump_stages s
    exact ⟨_, d, exec_rcDump one, staged⟩
  · rw [exec_clusterReset (decide_eq_true small), doClusterReset, if_neg (by rw [free]; exact Bool.false_ne_true)]
  · exact ⟨_, exec_clusterReset (decide_eq_true small), doClusterReset_leaves small busy⟩
  · rw [exec_regionReset (decide_eq_true small), doRegionReset, if_neg]
    rintro (busy | gated)
    · exact Bool.false_ne_true (free.symm.trans busy)
    · exact on (List.contains_iff_mem.1 gated)
  · obtain ⟨free, powered, claims, cleared⟩ := s.resetRegion_leaves small
    rw [exec_regionReset (decide_eq_true small), doRegionReset, if_pos (due.imp id List.contains_iff_mem.2)]
    exact ⟨_, rfl, free, powered, claims, fun i four => ⟨(cleared i four).free, (cleared i four).idle, (cleared i four).zero⟩⟩
  · rw [exec_dieReset (decide_eq_true small), doDieReset, if_neg (by rw [free]; exact Bool.false_ne_true)]
  · obtain ⟨free, fences, cleared⟩ := s.resetDie_leaves small
    rw [exec_dieReset (decide_eq_true small), doDieReset, if_pos busy]
    exact ⟨_, rfl, free, fences, fun i sixteen => ⟨(cleared i sixteen).free, (cleared i sixteen).idle, (cleared i sixteen).zero⟩⟩
  · rw [exec_hubSubblockReset (decide_eq_true named), doHubReset, if_neg (by rw [free]; exact Bool.false_ne_true)]
  · rw [exec_resetEscalation (decide_eq_true named), doResetEscalation_idle free]
  · exact ⟨_, exec_hubSubblockReset (decide_eq_true named), doHubReset_leaves hub busy⟩
  · rw [exec_resetEscalation (decide_eq_true named), doResetEscalation_cluster small busy]
    exact ⟨_, rfl, s.requestUnit_busy (g := fun i => 4 * (unit / 4) + i) (region_small (by omega))⟩
  · rw [exec_resetEscalation (decide_eq_true named), doResetEscalation_region low high busy]
    exact ⟨_, rfl, s.requestUnit_busy (g := fun i => 16 * ((unit - 0x100) / 4) + i) (die_small (by omega))⟩
  · have wf : (Instr.resetEscalation (0x200 + 16 * d)).wf = true := decide_eq_true (by omega)
    exact ⟨_, exec_resetEscalation wf, doResetEscalation_fences small busy⟩
  · rw [exec_resetEscalation (decide_eq_true named), doResetEscalation_hub above busy]

end Sys2Proof.Machine
end
